-- ==== Sys2Proof/Word.lean ====
section
/-! DEFINITION. The plain data types of the model: register words, lines, sectors, register fields and tables, and sparse maps. -/

namespace Sys2Proof.Machine

/-- A BAR0 register is one 32-bit word (R845, R846). -/
abbrev Word := BitVec 32

/-- A CXL.mem line of 64 bytes, byte 0 in bits [7:0]. -/
abbrev Line := BitVec 512

/-- The user data of a sector, 256 bytes, byte 0 in bits [7:0] (chapter 03). -/
abbrev SectorData := BitVec 2048

/-- A chunk: the 16 bytes that one die holds of a stripe (R125). -/
abbrev Chunk := BitVec 128

/-- A byte enable mask of a line, bit b for byte b. -/
abbrev Mask := BitVec 64

/-- A sparse map: (key, value) pairs in one canonical form, keys strictly rising, no entry equal to what an unlisted key reads as.
The operations and the canonical form are in Machine/SMap.lean. -/
abbrev SMap (α : Type) := List (Nat × α)

/-- The two ordering variants (R1): GNX-4680-35A with 40 dies and GNX-4680-17A with 20. -/
inductive Variant where
  | v35A
  | v17A
deriving DecidableEq, Repr

/-- Who makes a register access (R846): the host through BAR0, one of the management cores, the I3C sideband. -/
inductive Source where
  | host
  | core (c : Nat)
  | i3c
deriving DecidableEq, Repr

/-- A named register field: the BAR0 offset of its register, its high bit and its low bit. -/
structure Fld where
  addr : Nat
  hi : Nat
  lo : Nat
deriving DecidableEq, Repr

/-- The access classes of R855 that the pages use. -/
inductive Cls where
  | ro | rw | w1c | wo | st | il
deriving DecidableEq, Repr

/-- The limit that a chapter sets for a field's value (R858, R860). `group` marks fields that are checked together with others. -/
inductive Lim where
  | any
  | range (least most : Nat)
  | oneOf (values : List Nat)
  | popcountLe (bits : Nat)
  | group
deriving DecidableEq, Repr

/-- One field of a register table. `sr` marks class SR, `counter` what R861 calls a counter, `loaded` a reset value that is fused, loaded or set by a start step (R864). -/
structure RegField where
  hi : Nat
  lo : Nat
  cls : Cls
  reset : Nat
  sr : Bool := false
  lim : Lim := .any
  counter : Bool := false
  loaded : Bool := false
deriving DecidableEq, Repr

/-- A field with no property beyond its class and reset value. -/
abbrev RegField.plain (hi lo : Nat) (cls : Cls) (reset : Nat) : RegField := { hi, lo, cls, reset }

/-- A counter in the sense of R861. -/
abbrev RegField.count (hi lo reset : Nat) : RegField := { hi, lo, cls := .ro, reset, counter := true }

/-- A writable field with a limit. -/
abbrev RegField.limited (hi lo : Nat) (cls : Cls) (reset : Nat) (lim : Lim) : RegField := { hi, lo, cls, reset, lim }

/-- One row of a page's register table: `count` registers from offset `off` on, `stride` bytes apart, each with the fields given. -/
structure RegRow where
  off : Nat
  stride : Nat
  count : Nat
  fields : List RegField
deriving DecidableEq, Repr

end Sys2Proof.Machine
end

