-- ==== Sys2Proof/Syntax.lean ====
section
/-! DEFINITION. The commands of the block: one constructor per row of spec/opcode_table.json, with the row's operands. What the spec leaves to the world
outside (a sensed chunk, an ADC sample, a partner's message, the outcome of a check of a part) is an operand of the command that reports it. -/

namespace Sys2Proof
namespace Machine

/-- The internal rails that the sequencer switches (R658); VDD_AON is supplied whenever VIN is present. -/
inductive Rail where
  | vddPll | vddCore | vddSram | vddIo | vddPhy | vddPnv | vmedIf | vmedArr | vhold
deriving DecidableEq, Repr

/-- A power-good input (R661): a channel of EXT_PG, a CARTn_PG, a rail comparator, the PLL lock, the domain switches of stage 8, the boost current of stage 11. -/
inductive PgInput where
  | ext (n : Nat)
  | cart (n : Nat)
  | rail (r : Rail)
  | pll
  | domains
  | boost
deriving DecidableEq, Repr

/-- One sample of a housekeeping round (R668): channel, raw code, value (mV, mA or 1/16 °C). -/
structure HkIn where
  channel : Nat
  code : Nat
  value : Int
deriving DecidableEq, Repr

/-- One temperature reading of a medium die (R108, R668): die, raw code, value in 1/16 °C. -/
structure DieTemp where
  die : Nat
  code : Nat
  value : Int
deriving DecidableEq, Repr

/-- What is wrong in a cache's arrays (R314, R317, R318): the parity of a tag entry; the parity of a small cache's data byte, or an uncorrectable word of the L2; a single-bit error of the L2. -/
inductive ArrKind where
  | tag | data | corrected
deriving DecidableEq, Repr

/-- An array error (R314, R317, R318), by cache code of R328, slice, set and way. `again`: the second read of a DIRTY L2 entry fails too; `bad`: the L2 location reads back uncorrectable after the write of
zeros. -/
structure ArrErr where
  cache : Nat
  slice : Nat := 0
  set : Nat
  way : Nat
  kind : ArrKind
  again : Bool := false
  bad : Bool := false
deriving DecidableEq, Repr

/-- A chunk that a sense brings in with bits wrong (R109, R264): sector of the segment, position, the wrong bits, and the sensed level (R88) of the cell of each wrong bit that has one. -/
structure SenseErr where
  sector : Nat
  pos : Nat
  flips : Chunk
  levels : List (Nat × Nat) := []
deriving DecidableEq, Repr

/-- What a sense meets: wrong bits, and the chunks (sector, position) whose transfer parity fails (R102). -/
structure Sensed where
  errs : List SenseErr := []
  parity : List (Nat × Nat) := []
deriving DecidableEq, Repr

/-- What an event concerns, and the phase at which it falls. -/
structure Timed (α : Type) where
  what : α
  phase : Nat
deriving DecidableEq, Repr

/-- What a confirmation sense finds (R109, R110): the bits that differ from the stored chunk, and whether the chunk fails its transfer parity. -/
structure Confirmed where
  flips : Chunk := 0
  parity : Bool := false
deriving DecidableEq, Repr

/-- The end of a background sense: its number, and what it meets. -/
structure BgEnd where
  id : Nat
  sensed : Sensed := {}
deriving DecidableEq, Repr

/-- A symbol of a DRAM line's codeword (R383) that is read wrong: its place (0 to 71) and what is added to it. -/
structure SymErr where
  pos : Nat
  add : BitVec 8
deriving DecidableEq, Repr

/-- What a core's read of the working area meets in the DRAM (R392): the line of the area, the symbols wrong in the first read, and those wrong in the second. -/
structure MemErr where
  line : Nat
  first : List SymErr
  again : List SymErr := []
deriving DecidableEq, Repr

/-- The line that a core or a stream cache asks for (R344), the errors that have appeared in the arrays, and what reading the working area would meet (R392; a core alone reads it). -/
structure LineRead where
  addr : Nat
  errs : List ArrErr := []
  mem : Option MemErr := none
deriving DecidableEq, Repr

/-- What the line code makes of a DRAM line (R383): good, one symbol corrected, uncorrectable. -/
inductive LineErr where
  | good | corrected | bad
deriving DecidableEq, Repr

/-- How a bank word read with an error turns out (R747). -/
inductive WordKind where
  | corrected | transient | lasting
deriving DecidableEq, Repr

/-- A bank word that its owner reads with an error (R747): bank, word, how it turns out, and what it holds: the key of the staged line (bank 0), pen times 64 plus the staging slot, or 2^20 plus the request's number (bank 1). -/
structure WordErr where
  bank : Nat
  word : Nat
  kind : WordKind
  item : Nat
deriving DecidableEq, Repr

/-- A PNV operation (R752): READ, PROGRAM and PAGE_CLEAR of a page; a PROGRAM with whether some group differs. -/
inductive PnvOp where
  | read (page : Nat)
  | program (page : Nat) (differs : Bool)
  | pageClear (page : Nat)
deriving DecidableEq, Repr

/-- What the bring-up of a medium die meets (R113): whether its rails are in window (step 1), the identity that it answers, if any (step 2), bits wrong in the CRC-16 of the fuse map as it is loaded
(step 3), whether every lane finds an eye (step 4), and which bits of the fixed pattern of band row 255 are sensed wrong (step 6). -/
structure DieOut where
  die : Nat
  rail : Bool := true
  ident : Option Nat := some die
  fuse : Nat := 0
  eye : Bool := true
  wrong : SectorData := 0
deriving DecidableEq, Repr

/-- What the checks of a start-up step or of a resume find (R397, R398, R551, R719 to R727); all good where nothing is listed. `fuseOk`: the fuse CRC of step 3. `mbist`: the bank or array that
fails in step 4. `lost`: PNV pages that lost bits without power, by page and the bits that changed; `intentOpen` and `intentBad`: the intent record that step 6 finds open, its staging pages invalid.
`badHeads` and `badBodies`: firmware slots (1 A, 2 B) with a lasting fault in the header and in the body, step 8. `dies`: steps 8 and 10, resume. `channels`: DRAM channels with the step that failed,
step 9; on a resume, those that fail their exit. `verify`: what the first and the second sense of a segment that steps 8, 11 and 12 verify meet, by PSA (R191, R723). `block`: a journal block that fails in
both copies, step 12. `probes`: what a sense of the probe meets, by gang, bin and fragment (R272). -/
structure StepOut where
  fuseOk : Bool := true
  mbist : Option Nat := none
  lost : List (Nat × BitVec 2048) := []
  intentOpen : Bool := false
  intentBad : Bool := false
  badHeads : List Nat := []
  badBodies : List Nat := []
  dies : List DieOut := []
  channels : List (Nat × Nat) := []
  verify : List (Nat × Sensed × Sensed) := []
  block : Option Nat := none
  probes : List ((Nat × Nat × Nat) × Sensed) := []
deriving DecidableEq, Repr


end Machine

open Sys2Proof.Machine

/-- The commands. `src` is the accessor of a register write and `w` the word written; `phase` is the clk within the bell; `same` says that the event falls in the same clk as the command sent before it (R13). -/
inductive Instr where
  /-- POR_RELEASE (R717). Power-on reset releases once VDD_AON has been in window for 200 µs; the device samples the straps and enters OFF. -/
  | porRelease (straps : Nat)
  /-- PWR_REQ_ON (R665). The filtered PWR_REQ input goes on; from OFF, SEQ_UP starts if VIN is qualified, 10 ms have passed since OFF and PWR_FAULT is clear. -/
  | pwrReqOn
  /-- PWR_REQ_OFF (R12). The filtered PWR_REQ input goes off, leading to SEQ_DOWN, after any Tally flush, from the states the transition table lists. -/
  | pwrReqOff
  /-- VIN_QUALIFIED (R657). VIN has stayed at or above 2.9 V for 1 ms and is qualified for power-up. -/
  | vinQualified
  /-- VIN_COLLAPSE (R657). The comparator trips below 2.50 V, which leads to VENT or SEQ_DOWN depending on the state. -/
  | vinCollapse
  /-- POWER_GOOD_QUALIFIED (R661). A power-good input reaches 16 consecutive high samples and is qualified. -/
  | powerGoodQualified (pg : PgInput) (chatter us : Nat)
  /-- POWER_GOOD_DROP (R661). A qualified power-good reads low on 2 consecutive samples: during SEQ_UP this is a failure to come up, and afterwards a rail fault. -/
  | powerGoodDrop (pg : PgInput)
  /-- SEQ_STAGE_TIMEOUT (R662). A sequencer stage does not qualify within its timeout. -/
  | seqStageTimeout (chatter : Nat)
  /-- RAIL_FALL (R664). During SEQ_DOWN an internal rail falls below 10 % of nominal and the next rail is switched off. -/
  | railFall (rail : Rail)
  /-- RAIL_FALL_TIMEOUT (R664). An internal rail has not fallen within 10 ms; it is left behind, counted, and the sequence continues. -/
  | railFallTimeout (rail : Rail)
  /-- OFF_DELAY_EXPIRY (R664). OFF_DELAY_MS has elapsed after EXT_PG read low, so the next external channel is switched off. -/
  | offDelayExpiry (channel : Nat)
  /-- FAULT_CLEAR (R666). A write of PWR.CTRL.FAULT_CLEAR clears PWR_FAULT and FAULT_N. -/
  | faultClear (src : Source) (w : Word)
  /-- HOUSEKEEPING_ROUND (R668). One 64 µs ADC round over 128 channels ends; rails, VIN, VHOLD and temperatures are judged. -/
  | housekeepingRound (samples : List HkIn) (temps : List DieTemp)
  /-- LOAD_TEST_END (R678). The 64-round load test ends, the capacitance is estimated, and VHOLD qualifies, ending write-through, or fails the test. -/
  | loadTestEnd
  /-- VHOLD_RETEST (R678). Every 2^24 bells while VHOLD is qualified, a repeat load test starts. -/
  | vholdRetest
  /-- STANDBY (R675). A write of PWR.CTRL.STANDBY requests standby, which is refused or carried out through its five steps. -/
  | standby (src : Source) (w : Word)
  /-- RESUME (R676). PWR.CTRL.RESUME written over the sideband ends standby and runs the resume sequence of R733. -/
  | resume (src : Source) (w : Word) (out : StepOut)
  /-- VENT_TURN_START (R681). A 2-bell Vent turn starts on a die pair at a bell boundary once its data is in the program buffers. -/
  | ventTurnStart (gang : Nat) (pair : Nat)
  /-- VENT_TURN_END (R681). A Vent turn ends; after the last rotation the trailer pages are written. -/
  | ventTurnEnd (gang : Nat)
  /-- VENT_PNV_PAGE_DONE (R683). The PNV Vent page with its final VENT record becomes durable. -/
  | ventPnvPageDone
  /-- BELL_BOUNDARY (R24). A bell boundary: staged configuration is applied, the write bucket refills, credits may return and bell compare is checked. -/
  | bellBoundary (words : List WordErr)
  /-- FLOCK_BOUNDARY (R24). A flock boundary: rota, cap and thermal changes are applied, the Caldera target, map sweep, Shepherd quota and bank switches run, and per-flock counters clear. -/
  | flockBoundary (hot : List (Nat × Nat))
  /-- EPOCH_BOUNDARY (R258). At every 2^20 bells the device epoch rises by 1 and is saved when it is a multiple of 4,096. -/
  | epochBoundary
  /-- PLL_LOCK_LOSS (R22). The PLL loses lock, which raises a FATAL record, leads to HALT and stops the bell counter. -/
  | pllLockLoss
  /-- BELL_LO_READ (R25). A read of BWT.BELL_LO latches BELL_HI and PHASE in the same clk. -/
  | bellLoRead (src : Source) (phase : Nat)
  /-- CMP_LO_WRITE (R52). A write to CMP_LO arms the bell comparison. -/
  | cmpLoWrite (src : Source) (w : Word)
  /-- FRAME_SYNC_EDGE (R51). The synchronised FRAME_SYNC level changes and filtering starts, taking FS_FILTER. -/
  | frameSyncEdge (level : Bool) (phase : Nat)
  /-- FRAME_SYNC_ACCEPT (R51). The new level has been stable for FS_FILTER clk; the bell and phase are captured and FS_COUNT rises. -/
  | frameSyncAccept (phase : Nat)
  /-- PROGRAM_TURN_START (R31). A die's program turn starts at pattern position 0, once its program buffer holds every page of the turn. -/
  | programTurnStart (gang : Nat) (phase : Nat)
  /-- PROGRAM_TURN_END (R98). An SLC or TLC turn ends, tile status is collected and the next rotation item follows. -/
  | programTurnEnd (gang : Nat) (fails : List Nat) (phase : Nat)
  /-- IDLE_TURN_END (R33). A 2-bell idle turn ends. -/
  | idleTurnEnd (gang : Nat) (phase : Nat)
  /-- ROTATION_END (R180). At a rotation end the MAP_SET records are journaled, the map entries are set to CALDERA and the staged lines are freed, once 256 update-buffer entries are free. -/
  | rotationEnd (gang : Nat) (phase : Nat)
  /-- MEM_RD (R427). A CXL.mem MemRd is checked at acceptance and served on its read path, returning one MemData. -/
  | memRd (hpa tag : Nat) (errs : List ArrErr) (phase : Nat)
  /-- MEM_RD_DATA (R427). A CXL.mem MemRdData is served as a MemRd. -/
  | memRdData (hpa tag : Nat) (errs : List ArrErr) (phase : Nat)
  /-- MEM_INV (R427). A MemInv is answered with Cmp at 46 clk and has no other effect. -/
  | memInv (hpa tag phase : Nat)
  /-- MEM_INV_NT (R427). A MemInvNT is answered with Cmp at 46 clk and has no other effect. -/
  | memInvNt (hpa tag phase : Nat)
  /-- MEM_SPEC_RD (R427). A MemSpecRd is dropped with no answer. -/
  | memSpecRd (hpa phase : Nat)
  /-- MEM_WR (R427). A CXL.mem MemWr is checked, takes a bucket line, is staged and acknowledged. -/
  | memWr (hpa tag : Nat) (data : Line) (poison : Bool) (phase : Nat)
  /-- MEM_WR_PTL (R427). A MemWrPtl is checked, takes a bucket line and is merged into staging by byte mask. -/
  | memWrPtl (hpa tag : Nat) (data : Line) (mask : Mask) (poison : Bool) (phase : Nat)
  /-- M2S_UNSUPPORTED_OPCODE (R445). An unsupported or reserved M2S opcode is answered as partner violation 0x03. -/
  | m2sUnsupportedOpcode (rwd : Bool) (hpa tag phase : Nat)
  /-- LOOKUP_ISSUE (R35). A DRAM lookup of map entry, staging index and sector-cache slot is issued at the next DRAM slot start. -/
  | lookupIssue (read : Nat) (rows : List (Nat × Nat × Nat × Nat)) (phase : Nat)
  /-- LOOKUP_COMPLETE (R388). A lookup completes 212 clk after its DRAM slot start and the read path is resolved. -/
  | lookupComplete (read : Nat) (sc map : List SymErr) (phase : Nat)
  /-- LOOKUP_RETRY (R392). An uncorrectable deciding line is looked up a second time and classed transient or lasting. -/
  | lookupRetry (read : Nat) (sc map scOther mapOther : List SymErr) (rows : List (Nat × Nat × Nat × Nat)) (phase : Nat)
  /-- FOREGROUND_SENSE_START (R30). A foreground sense starts on every participating die at the start of its bound R slot. -/
  | foregroundSenseStart (read phase : Nat)
  /-- SENSE_COMPLETE (R92). A sense window ends; the chunks are transferred, decoded, checked and handed off. -/
  | senseComplete (read : Nat) (sensed : Sensed) (phase : Nat)
  /-- RETRY_SENSE_START (R38). The second attempt starts at the first R slot after a failure is known. -/
  | retrySenseStart (read phase : Nat)
  /-- REREAD_START (R39). The re-read after the program turn starts, with one failed die and a programming die erased. -/
  | rereadStart (read phase : Nat)
  /-- BACKGROUND_SENSE_START (R29). A background sense starts in a B slot when a free engine and latch exist. -/
  | backgroundSenseStart (gang phase : Nat)
  /-- BACKGROUND_SECOND_ATTEMPT (R137). A background FAIL takes its second sense in the next B slot. -/
  | backgroundSecondAttempt (id : Nat) (sensed : Sensed) (phase : Nat)
  /-- CONFIRMATION_SENSE (R110). A queued confirmation sense of a chunk fault runs in a B slot and decides whether the fault is lasting. -/
  | confirmationSense (n : Nat) (found : Confirmed) (phase : Nat)
  /-- CATCH_UP_SENSE (R143). A catch-up sense of a die erased during a Shepherd visit runs after the turn ends. -/
  | catchUpSense (gang : Nat) (n : Nat) (sensed : Sensed) (phase : Nat)
  /-- SHEPHERD_VISIT (R141). The Shepherd senses and decodes one live segment and acts on the result. -/
  | shepherdVisit (id : Nat) (sensed : Sensed) (phase : Nat)
  /-- FORCE_FAIL (R119). A guarded write of DIE_CTRL.FORCE_FAIL declares dies failed with cause SOFTWARE. -/
  | forceFail (stack : Nat) (src : Source) (w : Word)
  /-- DIE_POWER_OFF (R112). Once its senses have ended, a failed die's domains are switched off and isolated. -/
  | diePowerOff (die : Timed Nat)
  /-- PARITY_REBUILD (R190). The rows of a failed Caldera tile program are rebuilt from the parity slot, or the segment is poisoned. -/
  | parityRebuild (ended : Timed BgEnd)
  /-- SEGMENT_CLOSE (R177). STAGE_AGE bells have passed since a segment's last write, so it closes for building. -/
  | segmentClose (lseg : Nat) (group : Timed (Option Nat))
  /-- OLD_SEGMENT_READ (R178). The old segment is read with a whole-fragment sense in a B slot before the build. -/
  | oldSegmentRead (id : Nat) (sensed : Sensed) (phase : Nat)
  /-- SEGMENT_BUILD (R178). A closed segment is built from its snapshot, encoded into the program buffers and joins a row batch. -/
  | segmentBuild (id : Nat)
  /-- GEN_RESERVATION_DURABLE (R543). The new CUR is durable and takes effect, and a re-encryption pass starts. -/
  | genReservationDurable (region : Nat)
  /-- ROW_BATCH_COMPLETE (R179). A short row batch is completed with empty slots after STAGE_AGE bells with no new segment. -/
  | rowBatchComplete (gang : Timed Nat)
  /-- REWRITE (R140). A segment queued for rewrite is copied into Caldera, or dropped if its map entry moved. -/
  | rewrite (id : Nat) (sensed : Sensed) (phase : Nat)
  /-- FOLD_SOURCE_READ (R185). A fold source segment is sensed and loaded into the destination buffers. -/
  | foldSourceRead (id : Nat) (sensed : Sensed) (phase : Nat)
  /-- FOLD_VERIFY (R186). The segments of a programmed fold band are sensed and judged. -/
  | foldVerify (id : Nat) (sensed : Sensed) (phase : Nat)
  /-- FOLD_SWITCH (R186). Passing segments switch map entries to TLC and the band closes, once the update buffer has reserve. -/
  | foldSwitch (gang : Nat)
  /-- PADDOCK_VERIFY (R191). A FULL Caldera paddock is verified, rebuilt if needed and closed. -/
  | paddockVerify (gang id : Nat) (sensed : Sensed) (phase : Nat)
  /-- JOURNAL_WRITE (R199). Sixteen completed journal blocks are programmed as a row batch to each journal copy. -/
  | journalWrite
  /-- GROUP_COMMIT (R203). GROUP_CTRL OP COMMIT starts DRAINING of a region's open group. -/
  | groupCommit (src : Source) (w : Word)
  /-- GROUP_ABORT (R204). GROUP_CTRL OP ABORT makes the group's pending segments stale and frees the slot. -/
  | groupAbort (src : Source) (w : Word)
  /-- GROUP_COMMITTED (R203). The rotations programming a draining group end, and GROUP_COMMIT enters the journal tail. -/
  | groupCommitted (slot : Nat)
  /-- GROUP_APPLY (R203). The pending entries of a committed group are applied to the map and the group reaches DONE. -/
  | groupApply (slot : Nat)
  /-- GROUP_STATUS_READ (R223). A read of GROUP_STATUSi in DONE, OVERFLOW-aborted or ABORTED frees the slot. -/
  | groupStatusRead (src : Source) (slot : Nat)
  /-- TRIM_GO (R206). A guarded TRIM_CTRL GO journals a trim, discards staged lines and starts the cache walk, or refuses the trim. -/
  | trimGo (src : Source) (w : Word)
  /-- TRIM_CACHE_WALK_END (R304). The cache invalidation walk of a trim ends and map updating may begin. -/
  | trimCacheWalkEnd
  /-- TRIM_MAP_UPDATE (R206). The trimmed map entries are set to UNMAPPED and TRIM_DONE is raised. -/
  | trimMapUpdate
  /-- QUERY (R215). A write of XLT.QUERY starts a map-state query. -/
  | query (src : Source) (w : Word)
  /-- QUERY_RESULT_READY (R216). The query result becomes DONE within one bell. -/
  | queryResultReady
  /-- DRIFT_EVALUATION (R267). At bell 62 of a flock, temperature classes are decided and each eligible gang's codes are stepped or rolled back, writing its spare bank. -/
  | driftEvaluation (phase : Nat)
  /-- EPOCH_ADVANCE (R273). A write of DRF.EPOCH_ADVANCE adds to the device epoch at the next flock boundary. -/
  | epochAdvance (src : Source) (w : Word)
  /-- INSPECT_SEL (R293). A write of DRF.INSPECT_SEL captures the selected drift entries. -/
  | inspectSel (src : Source) (w : Word)
  /-- INSPECT_READY (R293). READY is set 16 clk after the capture. -/
  | inspectReady (phase : Nat)
  /-- MAINT_CLEAN (R308). MAINT_CTRL OP clean starts a clean in ADDRESS, SET_WAY or ALL mode. -/
  | maintClean (src : Source) (w : Word)
  /-- MAINT_INVALIDATE (R308). MAINT_CTRL OP invalidate starts an invalidate operation. -/
  | maintInvalidate (src : Source) (w : Word)
  /-- MAINT_CLEAN_INVALIDATE (R308). MAINT_CTRL OP clean+invalidate starts a clean and invalidate operation. -/
  | maintCleanInvalidate (src : Source) (w : Word)
  /-- MAINT_DONE (R309). A maintenance operation ends after its write-backs and snoops; BUSY clears. -/
  | maintDone
  /-- WAY_TRANSITION_END (R312). A way finishes powering down or up and its ON bit changes. -/
  | wayTransitionEnd (way : Nat)
  /-- RD_SHARED (R344). A core's RD_SHARED request reaches its home slice. -/
  | rdShared (stop : Nat) (read : LineRead) (phase : Nat)
  /-- RD_OWN (R344). A core's RD_OWN request reaches its home slice. -/
  | rdOwn (stop : Nat) (read : LineRead) (store : Line) (mask : Mask) (phase : Nat)
  /-- RD_STREAM (R344). A stream cache's RD_STREAM request reaches its home. -/
  | rdStream (stop keyid : Nat) (read : LineRead) (phase : Nat)
  /-- WB (R350). A write-back header reaches the home and the line becomes WB_PENDING. -/
  | wb (msg phase : Nat)
  /-- STASH_WRITE (R353). A STASH_WRITE is merged at the home, snooped and sent to its target. -/
  | stashWrite (agent target : Nat) (internal : Bool) (keyid addr : Nat) (data : Line) (mask : Mask) (phase : Nat)
  /-- STASH_FILL (R353). A STASH_FILL is written at the home and sent to its target. -/
  | stashFill (agent target : Nat) (internal : Bool) (keyid addr : Nat) (data : Line) (phase : Nat)
  /-- SNP_SHARE (R345). An SNP_SHARE snoop passes a stop, which stamps and acts. -/
  | snpShare (tx stop : Nat) (parity : Bool) (phase : Nat)
  /-- SNP_OWN (R345). An SNP_OWN snoop passes a stop, which stamps and acts. -/
  | snpOwn (tx stop : Nat) (parity : Bool) (phase : Nat)
  /-- SNP_INV (R345). An SNP_INV snoop passes a stop, which stamps and acts. -/
  | snpInv (tx stop : Nat) (parity : Bool) (phase : Nat)
  /-- SNP_CLEAN (R345). An SNP_CLEAN snoop passes a stop, which stamps and acts. -/
  | snpClean (tx stop : Nat) (parity : Bool) (phase : Nat)
  /-- SNP_CLINV (R345). An SNP_CLINV snoop passes a stop, which stamps and acts. -/
  | snpClinv (tx stop : Nat) (parity : Bool) (phase : Nat)
  /-- SNOOP_RETURN (R345). A snoop returns to its home 32 clk after injection. -/
  | snoopReturn (tx phase : Nat)
  /-- SNP_DONE (R345). An SNP_DONE follow-up arrives at the home. -/
  | snpDone (msg phase : Nat)
  /-- COMP (R345). A COMP arrives at a requester. -/
  | comp (msg phase : Nat)
  /-- RETRY (R351). A RETRY arrives at a requester, with or without a credit. -/
  | retry (msg phase : Nat)
  /-- CREDIT (R352). A CREDIT arrives and the requester re-issues its oldest held request. -/
  | credit (msg phase : Nat)
  /-- WB_DONE (R350). A WB_DONE arrives and the writer frees its buffer entry. -/
  | wbDone (msg phase : Nat)
  /-- DAT (R342). A data message arrives at its destination. -/
  | dat (msg phase : Nat)
  /-- WB_DATA_WRITE (R350). Write-back data is written into the L2 in the next reserved cycle and the line becomes IDLE. -/
  | wbDataWrite (stop addr phase : Nat)
  /-- DEAD_AGENT_TIMEOUT (R356). An owed follow-up or write-back data is missing for one bell; the agent is declared dead and the line poisoned. -/
  | deadAgentTimeout (tx : Option Nat) (stop addr phase : Nat)
  /-- REFRESH (R380). An all-bank refresh runs at the start of a subchannel's off-duty span. -/
  | refresh (sub : Nat) (phase : Nat)
  /-- DRAM_RETRAIN (R381). Every 1,024 flocks a subchannel runs WCK and DQ tracking and ZQ calibration. -/
  | dramRetrain (channel : Nat) (sub : Nat) (failed : Timed Bool)
  /-- UPDATE_BUFFER_WRITE (R389). An update-buffer entry is written in an off-duty span and is freed when both copies are done. -/
  | updateBufferWrite (n : Nat) (sub : Nat) (phase : Nat)
  /-- NEIGHBOUR_REFRESH (R395). Neighbour rows of a hot row are refreshed in the next off-duty span. -/
  | neighbourRefresh (phase : Nat)
  /-- LINK_UP (R731). The host link reaches L0. -/
  | linkUp (rate width : Nat) (flit : Bool) (phase : Nat)
  /-- LINK_DOWN (R437). The link goes down, which resets the link state only. -/
  | linkDown (phase : Nat)
  /-- HOT_RESET (R437). A hot reset resets the link state only. -/
  | hotReset (phase : Nat)
  /-- PERST_N_ASSERT (R437). PERST_N is asserted, which resets the link state only. -/
  | perstNAssert (phase : Nat)
  /-- PERST_N_RELEASE (R731). PERST_N is released, which starts link training or, in standby, resume. -/
  | perstNRelease (us : Int) (out : StepOut) (phase : Nat)
  /-- RECOVERY_ENTRY (R421). The link enters Recovery. -/
  | recoveryEntry (phase : Nat)
  /-- RECOVERY_EXIT (R421). The link returns to L0 and held responses leave. -/
  | recoveryExit (phase : Nat)
  /-- LINK_TRAINING_RETRY (R418). With no usable partner, link training is retried every 100 ms. -/
  | linkTrainingRetry
  /-- LINK_RETRAIN (R448). LINK_CTRL.RETRAIN starts link retraining through Recovery. -/
  | linkRetrain (src : Source) (w : Word)
  /-- HDM_DECODER_COMMIT (R425). The HDM decoder commit is checked, then committed or reported Err Not Committed. -/
  | hdmDecoderCommit (base size ways : Nat) (lock : Bool) (phase : Nat)
  /-- GPF_PHASE1 (R434). Global Persistent Flush phase 1 completes at once. -/
  | gpfPhase1 (phase : Nat)
  /-- GPF_PHASE2 (R434). GPF phase 2 completes at once, or when AT_RISK clears. -/
  | gpfPhase2 (phase : Nat)
  /-- GPF_PHASE2_TIMEOUT (R434). Phase 2 completes late after 5 ms, which is counted and recorded. -/
  | gpfPhase2Timeout
  /-- S2M_CREDIT_RETURN (R431). The host returns an S2M credit and a waiting response leaves. -/
  | s2mCreditReturn (drs : Bool) (n phase : Nat)
  /-- BUS_MASTER_ENABLE_CHANGE (R501). Bus Master Enable changes, which suspends or resumes deliveries. -/
  | busMasterEnableChange (on msix : Bool) (tph mps phase : Nat)
  /-- D3HOT (R422). A D3hot transition stops bus mastering and leaves CXL.mem unchanged. -/
  | d3hot (phase : Nat)
  /-- MALFORMED_TLP (R445). A malformed TLP is discarded as violation 0x06. -/
  | malformedTlp (phase : Nat)
  /-- POISONED_BAR_WRITE (R445). A write to a BAR with EP set is discarded as violation 0x07. -/
  | poisonedBarWrite (phase : Nat)
  /-- BAR_MISALIGNED_ACCESS (R445). A BAR0 or BAR4 access that is not 4 aligned bytes is answered as violation 0x08. -/
  | barMisalignedAccess (read : Bool) (phase : Nat)
  /-- UNSUPPORTED_REQUEST (R445). An I/O, atomic, locked, misdirected or unclaimed request gets Unsupported Request. -/
  | unsupportedRequest (phase : Nat)
  /-- CREDIT_OVERRUN (R445). A CXL.mem message sent without a credit is dropped as violation 0x05. -/
  | creditOverrun (phase : Nat)
  /-- TYPE1_VDM (R445). A type 1 vendor-defined message is discarded silently. -/
  | type1Vdm (phase : Nat)
  /-- IDE_INTEGRITY_FAILURE (R439). An IDE check fails; later messages are dropped and a Tremor is raised. -/
  | ideIntegrityFailure (phase : Nat)
  /-- IDE_KM (R439). IDE_KM programs CXL.io IDE keys. -/
  | ideKm (len session op phase : Nat)
  /-- CXL_IDE_KM (R439). CXL_IDE_KM programs CXL.cachemem IDE keys. -/
  | cxlIdeKm (len session op phase : Nat)
  /-- DOE_DISCOVERY (R422). A DOE Discovery object is answered. -/
  | doeDiscovery (len index phase : Nat)
  /-- CDAT_TABLE_ACCESS (R440). A CDAT Table Access returns the CDAT entries. -/
  | cdatTableAccess (len handle phase : Nat)
  /-- GET_VERSION (R553). SPDM GET_VERSION is answered with version 1.3. -/
  | getVersion (len phase : Nat)
  /-- GET_CAPABILITIES (R553). SPDM GET_CAPABILITIES is answered. -/
  | getCapabilities (len phase : Nat)
  /-- NEGOTIATE_ALGORITHMS (R553). SPDM NEGOTIATE_ALGORITHMS is answered. -/
  | negotiateAlgorithms (len : Nat) (offered : Bool) (phase : Nat)
  /-- GET_DIGESTS (R553). SPDM GET_DIGESTS is answered. -/
  | getDigests (len phase : Nat)
  /-- GET_CERTIFICATE (R553). SPDM GET_CERTIFICATE returns the slot 0 chain. -/
  | getCertificate (len slot offset length phase : Nat)
  /-- SPDM_CHALLENGE (R553). SPDM CHALLENGE is answered. -/
  | spdmChallenge (len slot phase : Nat)
  /-- GET_MEASUREMENTS (R554). SPDM GET_MEASUREMENTS returns the six measurement blocks. -/
  | getMeasurements (len index : Nat) (signed : Bool) (phase : Nat)
  /-- KEY_EXCHANGE (R553). SPDM KEY_EXCHANGE opens a session. -/
  | keyExchange (len slot phase : Nat)
  /-- FINISH (R553). SPDM FINISH completes session establishment. -/
  | finish (len session : Nat) (ok : Bool) (phase : Nat)
  /-- SPDM_END_SESSION (R553). SPDM END_SESSION closes a session. -/
  | spdmEndSession (len session phase : Nat)
  /-- KEY_UPDATE (R553). SPDM KEY_UPDATE updates session keys. -/
  | keyUpdate (len session op phase : Nat)
  /-- HEARTBEAT (R553). SPDM HEARTBEAT is answered. -/
  | heartbeat (len session phase : Nat)
  /-- IDENTIFY (R441). Mailbox Identify is answered. -/
  | identify (irq : Bool) (phase : Nat)
  /-- BACKGROUND_OPERATION_STATUS (R441). Mailbox Background Operation Status always reports none. -/
  | backgroundOperationStatus (irq : Bool) (phase : Nat)
  /-- GET_RESPONSE_MESSAGE_LIMIT (R441). Mailbox Get Response Message Limit. -/
  | getResponseMessageLimit (irq : Bool) (phase : Nat)
  /-- SET_RESPONSE_MESSAGE_LIMIT (R441). Mailbox Set Response Message Limit. -/
  | setResponseMessageLimit (n : Nat) (irq : Bool) (phase : Nat)
  /-- GET_EVENT_RECORDS (R443). Mailbox Get Event Records returns records of an event log. -/
  | getEventRecords (log : Nat) (irq : Bool) (phase : Nat)
  /-- CLEAR_EVENT_RECORDS (R443). Mailbox Clear Event Records clears records of an event log. -/
  | clearEventRecords (log : Nat) (all : Bool) (handles : List Nat) (irq : Bool) (phase : Nat)
  /-- GET_EVENT_INTERRUPT_POLICY (R443). Mailbox Get Event Interrupt Policy. -/
  | getEventInterruptPolicy (irq : Bool) (phase : Nat)
  /-- SET_EVENT_INTERRUPT_POLICY (R443). Mailbox Set Event Interrupt Policy for MSI-X vector 1. -/
  | setEventInterruptPolicy (modes : List Nat) (irq : Bool) (phase : Nat)
  /-- GET_FW_INFO (R441). Mailbox Get FW Info reports slots A and B. -/
  | getFwInfo (irq : Bool) (phase : Nat)
  /-- TRANSFER_FW (R441). Mailbox Transfer FW writes the slot that is not active and its directory entry. -/
  | transferFw (action slot offset : Nat) (data : List Nat) (irq : Bool) (phase : Nat)
  /-- ACTIVATE_FW (R441). Mailbox Activate FW sets NEXT for the next cold start. -/
  | activateFw (online : Bool) (slot : Nat) (irq : Bool) (phase : Nat)
  /-- GET_TIMESTAMP (R441). Mailbox Get Timestamp. -/
  | getTimestamp (irq : Bool) (phase : Nat)
  /-- SET_TIMESTAMP (R441). Mailbox Set Timestamp. -/
  | setTimestamp (ns : Nat) (irq : Bool) (phase : Nat)
  /-- GET_SUPPORTED_LOGS (R441). Mailbox Get Supported Logs lists the Command Effects Log. -/
  | getSupportedLogs (irq : Bool) (phase : Nat)
  /-- GET_LOG (R441). Mailbox Get Log returns the Command Effects Log. -/
  | getLog (log offset len : Nat) (irq : Bool) (phase : Nat)
  /-- IDENTIFY_MEMORY_DEVICE (R424). Mailbox Identify Memory Device reports the window capacities. -/
  | identifyMemoryDevice (irq : Bool) (phase : Nat)
  /-- GET_PARTITION_INFO (R441). Mailbox Get Partition Info reports all capacity persistent. -/
  | getPartitionInfo (irq : Bool) (phase : Nat)
  /-- GET_HEALTH_INFO (R441). Mailbox Get Health Info reports life used, temperature and error counts. -/
  | getHealthInfo (irq : Bool) (phase : Nat)
  /-- GET_ALERT_CONFIGURATION (R441). Mailbox Get Alert Configuration. -/
  | getAlertConfiguration (irq : Bool) (phase : Nat)
  /-- SET_ALERT_CONFIGURATION (R441). Mailbox Set Alert Configuration. -/
  | setAlertConfiguration (values : List Nat) (irq : Bool) (phase : Nat)
  /-- GET_SHUTDOWN_STATE (R441). Mailbox Get Shutdown State. -/
  | getShutdownState (irq : Bool) (phase : Nat)
  /-- SET_SHUTDOWN_STATE (R435). Mailbox Set Shutdown State records the host's clean or dirty state. -/
  | setShutdownState (n : Nat) (irq : Bool) (phase : Nat)
  /-- GET_POISON_LIST (R442). Mailbox Get Poison List returns poisoned segments and sectors. -/
  | getPoisonList (dpa len : Nat) (irq : Bool) (phase : Nat)
  /-- UNSUPPORTED_MAILBOX_COMMAND (R441). Any other mailbox opcode returns Unsupported. -/
  | unsupportedMailboxCommand (op : Nat) (irq : Bool) (phase : Nat)
  /-- HOST_READ_COMPLETION (R491). A CXL.io read completion arrives for a stream WRITE or a save. -/
  | hostReadCompletion (tag : Nat) (ok : Bool) (bytes : List Nat) (phase : Nat)
  /-- PEN_PUSH (R475). A BAR2 write stores packet words into a pen's staging slots. -/
  | penPush (addr : Nat) (bytes : List Nat) (phase : Nat)
  /-- SLOT_STAGE_TIMEOUT (R481). A slot OPEN longer than STAGE_TIMEOUT is rewound; a BROKEN slot returns to IDLE. -/
  | slotStageTimeout (pen slot : Nat)
  /-- PEN_FLUSH (R481). A write of PEN.CTRLp.FLUSH rewinds, refuses and fails the pen's work. -/
  | penFlush (pen : Nat) (src : Source) (w : Word)
  /-- STREAM_READ (R499). The admission unit takes a READ packet and starts its checks and tentative bookings. -/
  | streamRead (phase : Nat)
  /-- STREAM_WRITE (R491). The admission unit takes a WRITE packet, which copies host memory into internal user space. -/
  | streamWrite (phase : Nat)
  /-- LOAD_DICT (R492). The admission unit takes a LOAD_DICT packet, which books a dictionary load. -/
  | loadDict (phase : Nat)
  /-- COMMIT_GROUP (R493). The admission unit takes a COMMIT_GROUP packet, which is accepted at once. -/
  | commitGroup (phase : Nat)
  /-- ABORT_GROUP (R493). The admission unit takes an ABORT_GROUP packet, which is accepted at once. -/
  | abortGroup (phase : Nat)
  /-- ADMISSION_DECISION (R498). At D = T + A the taken packet is accepted or refused and its bookings are kept or released. -/
  | admissionDecision (phase : Nat)
  /-- STREAM_GROUP_ACTION (R493). Once earlier requests of its pen have ended, a group opcode acts on the region's group. -/
  | streamGroupAction (req phase : Nat)
  /-- STREAM_MEDIA_READ (R488). A booked stream segment is looked up and sensed. -/
  | streamMediaRead (req seg phase : Nat)
  /-- LANE_DECODE_START (R496). A lane starts decoding a frame at its booked bell. -/
  | laneDecodeStart (req phase : Nat)
  /-- LANE_DECODE_END (R496). A lane finishes a frame or fails it on format, size or checksum. -/
  | laneDecodeEnd (req phase : Nat)
  /-- DICT_LOAD_FINISH (R492). A dictionary slot becomes READY or FAILED. -/
  | dictLoadFinish (req phase : Nat)
  /-- STREAM_REQUEST_END (R484). A request's last write and status are passed to the link and DONE or FAILED rises. -/
  | streamRequestEnd (req phase : Nat)
  /-- INSTALL (R537). KEY.OP INSTALL loads a wrapped title key into an EMPTY slot. -/
  | install (src : Source) (w : Word)
  /-- REKEY (R547). KEY.OP REKEY installs a new current key and starts re-encryption. -/
  | rekey (src : Source) (w : Word)
  /-- REMOVE (R537). KEY.OP REMOVE empties a LOADED slot. -/
  | remove (src : Source) (w : Word)
  /-- KEY_OP_COMPLETE (R538). A key operation completes when its cache page is durable; OP_DONE or OP_REFUSED is raised. -/
  | keyOpComplete
  /-- REENCRYPTION_PASS_END (R546). A pass's walk and builds are done; FLOOR advances and the pass ends or restarts. -/
  | reencryptionPassEnd (region : Nat)
  /-- TAMPER_MESH (R556). The package tamper mesh opens or shorts. -/
  | tamperMesh
  /-- TAMPER_N_LOW (R556). An armed TAMPER_N input has been held low for 100 µs. -/
  | tamperNLow (input : Nat)
  /-- CORE_SUPPLY_FAULT (R556). The core supply leaves 80–120 % of nominal for 2 ns. -/
  | coreSupplyFault
  /-- CLOCK_FAULT (R556). The CCLK period departs by more than 25 %, or reference edges are missing. -/
  | clockFault
  /-- ERUPT (R592). A guarded ALM.FORCE.ERUPT write starts an Eruption with CAUSE bit 7. -/
  | erupt (src : Source) (w : Word)
  /-- ZEROISE_END (R558). The CK erase and cache page clearing end under their intent record, and ZEROISING clears. -/
  | zeroiseEnd
  /-- NEW_CHALLENGE (R593). CLEAR_CTRL.NEW_CHALLENGE draws a fresh challenge. -/
  | newChallenge (src : Source) (w : Word)
  /-- VERIFY (R559). CLEAR_CTRL.VERIFY checks the signature and clears ERUPTED, or raises Tremor 0x06. -/
  | verify (src : Source) (w : Word)
  /-- CART_INSERT (R604). CARTn_DET_N has been low for 10 ms and slot bring-up starts. -/
  | cartInsert (slot phase : Nat)
  /-- CART_STEP_TIMEOUT (R604). A bring-up step exceeds its limit and the slot goes to LOCKED with cause 0xA. -/
  | cartStepTimeout (slot phase : Nat)
  /-- LANE_TRAINING_END (R605). Lane training ends at x4 or x2, the scramblers start and authentication begins. -/
  | laneTrainingEnd (slot lanes phase : Nat)
  /-- TS_FRAME (R605). A training frame is received. -/
  | tsFrame (slot phase : Nat)
  /-- IDLE_FRAME (R608). An IDLE frame is received. -/
  | idleFrame (slot phase : Nat)
  /-- LINK_FRAME (R609). A LINK frame with ACK or NAK is received, which frees or replays frames. -/
  | linkFrame (slot ack : Nat) (ackValid nak : Bool) (phase : Nat)
  /-- RMETA (R613). A READ response header is received. -/
  | rmeta (slot seq : Nat) (payload : Line) (phase : Nat)
  /-- RDATA (R613). A 64-byte sector data frame is received. -/
  | rdata (slot seq : Nat) (payload : Line) (phase : Nat)
  /-- RSP (R613). A response frame of a non-READ command is received. -/
  | rsp (slot seq : Nat) (payload : Line) (phase : Nat)
  /-- RERR (R613). An error response of a READ is received. -/
  | rerr (slot seq : Nat) (payload : Line) (phase : Nat)
  /-- REPLAY_TIMER (R609). With no acknowledgement for 2 µs, the sender replays from the oldest frame. -/
  | replayTimer (slot phase : Nat)
  /-- CART_LINK_LOSS (R611). No good frame for 8 µs: the loss is handled as a removal to FAULT, followed by one re-bring-up. -/
  | cartLinkLoss (slot phase : Nat)
  /-- CART_COMMAND_TIMEOUT (R615). A mount command is unanswered at 1 ms. -/
  | cartCommandTimeout (slot tag phase : Nat)
  /-- CART_ANSWER_TIMEOUT (R624). No RMETA has arrived by core clk 5,674, so the PRIORITY retry is sent. -/
  | cartAnswerTimeout (slot tag phase : Nat)
  /-- CART_COMPLETION_DEADLINE (R624). The RDATA frames are incomplete at 7,204, so the attempt fails. -/
  | cartCompletionDeadline (slot tag phase : Nat)
  /-- CART_READ_HANDOFF (R623). A host cartridge read is handed off at the fixed count of 7,286 or 12,686. -/
  | cartReadHandoff (read phase : Nat)
  /-- CART_REMOVAL (R629). DET_N has been high for 1 µs; reads are poisoned, work ends and the slot powers off. -/
  | cartRemoval (slot phase : Nat)
  /-- CART_PG_LOW (R629). CARTn_PG has been low for 10 ms and the slot becomes EMPTY. -/
  | cartPgLow (slot : Nat)
  /-- EJECT (R635). A guarded ZLn.CTRL.EJECT powers the slot off and locks it. -/
  | eject (slot : Nat) (src : Source) (w : Word)
  /-- REMOUNT (R635). A guarded ZLn.CTRL.REMOUNT brings up a seated cartridge. -/
  | remount (slot : Nat) (src : Source) (w : Word)
  /-- COPY_GO (R626). A guarded COPY_CTRL.GO starts copying cartridge segments into user space. -/
  | copyGo (slot : Nat) (src : Source) (w : Word)
  /-- SAVE_GO (R627). A guarded SAVE_CTRL.GO starts writing one save segment. -/
  | saveGo (slot : Nat) (src : Source) (w : Word)
  /-- SAVE_WRITE_TIMEOUT (R627). A SAVE_WRITE is unanswered for 20 ms and is resent once or ends TIMEOUT. -/
  | saveWriteTimeout (slot phase : Nat)
  /-- START_UP_STEP_END (R718). A start-up step ends and the next step of the cold-start order begins. -/
  | startUpStepEnd (us : Nat) (out : StepOut)
  /-- BANK_WAKE_END (R745). A retained SRAM bank finishes its 4 µs wake and becomes accessible. -/
  | bankWakeEnd (bank : Nat)
  /-- MARCH_DESTRUCTIVE (R749). MARCH_CTRL GO with MODE 0 starts a destructive pass on a bank. -/
  | marchDestructive (src : Source) (w : Word)
  /-- MARCH_PRESERVING (R749). MARCH_CTRL GO with MODE 1 starts a preserving pass on a bank. -/
  | marchPreserving (src : Source) (w : Word)
  /-- MARCH_PASS_END (R749). A march pass ends, passing or failing. -/
  | marchPassEnd (fail : Option Nat)
  /-- PNV_OPERATION_END (R752). A PNV READ, PROGRAM or PAGE_CLEAR ends and the next operation may begin. -/
  | pnvOperationEnd (next : Option Nat) (phase : Nat)
  /-- REPORT_INTAKE (R785). The aggregator takes one report from the page FIFOs into its severity queue. -/
  | reportIntake (phase : Nat)
  /-- RECORD_STEP (R787). The handler creates a record or repeat, notifies the fault service and, for FATAL, enters HALT. -/
  | recordStep (phase : Nat)
  /-- TALLY_FLUSH (R796). A guarded TLY.CTRL.FLUSH starts a flush. -/
  | tallyFlush (src : Source) (w : Word)
  /-- FLUSH_START (R779). A deferred ERROR flush starts 2^16 bells after the previous flush. -/
  | flushStart
  /-- FLUSH_END (R779). A flush has copied pending records into the ring. -/
  | flushEnd
  /-- FAULT_SERVICE_NOTIFICATION (R789). The fault service takes a notification and carries out its follow-up work. -/
  | faultServiceNotification
  /-- WATCHDOG_EXPIRY (R791). A core misses WDOG_FLOCKS kicks, is cleaned, held in reset, and its tasks move. -/
  | watchdogExpiry (core : Nat)
  /-- READ_SEL (R799). A write of TLY.READ_SEL captures a record. -/
  | readSel (src : Source) (w : Word)
  /-- READ_SEL_READY (R799). The captured record becomes READY within 2 µs. -/
  | readSelReady
  /-- CLEAR (R815). PMC.CTRL.CLEAR clears every programmable counter at the next bell boundary. -/
  | clear (src : Source) (w : Word)
  /-- WINDOW_END (R820). A bandwidth window ends and the fixed counts are copied into FIXk. -/
  | windowEnd
  /-- PVAL_LO_READ (R821). A read of PVALk_LO samples the counter, latches PVALk_HI and writes SAMPLE. -/
  | pvalLoRead (src : Source) (counter : Nat) (phase : Nat)
  /-- FIX_LO_READ (R820). A read of FIXk_LO latches FIXk_HI. -/
  | fixLoRead (src : Source) (counter : Nat)
  /-- WB_HELD_LO_READ (R66). A read of WB_HELD_LO latches WB_HELD_HI. -/
  | wbHeldLoRead (src : Source) (phase : Nat)
  /-- BYTES_OUT_LO_READ (R505). A read of BYTES_OUT_LO latches BYTES_OUT_HI. -/
  | bytesOutLoRead (src : Source)
  /-- EXTEST (R822). TAP EXTEST, acting only in TEST. -/
  | extest (balls data : Nat)
  /-- SAMPLE_PRELOAD (R822). TAP SAMPLE/PRELOAD. -/
  | samplePreload (balls data : Nat)
  /-- IDCODE (R822). TAP IDCODE shifts out 0x1468_014B. -/
  | idcode
  /-- CLAMP (R822). TAP CLAMP, acting only in TEST. -/
  | clamp
  /-- REG_READ (R823). Level-1 REG_READ reads a BAR0 register without side effects. -/
  | regRead (addr phase : Nat)
  /-- AUTH (R824). AUTH exchanges a challenge and signature to enter level 2. -/
  | auth (sig : List Nat)
  /-- MEM_ACCESS (R825). Level-2 MEM_ACCESS reads or writes one line as master class DEBUG. -/
  | memAccess (write : Bool) (dpa keyid : Nat) (data : Line) (rows : List (Nat × Nat × Nat × Nat)) (first second : Sensed) (phase : Nat)
  /-- RMA_SEAL (R826). RMA_SEAL verifies the Himaros seal, forces an Eruption, blows the seal and enters RMA. -/
  | rmaSeal (key sig : List Nat)
  /-- VENDOR_TEST_MODE (R826). A level-3 instruction acts in RMA, and elsewhere starts an Eruption and acts as BYPASS. -/
  | vendorTestMode (code : Nat)
  /-- BYPASS (R822). TAP BYPASS, also taken by any instruction above the current level. -/
  | bypass
  /-- TRST_N_ASSERT (R824). TRST_N is asserted, which resets the TAP and ends level 2. -/
  | trstNAssert
  /-- END_SESSION (R842). DBG.CTRL.END_SESSION ends level 2. -/
  | endSession (src : Source) (w : Word)
  /-- L2_LOCK (R842). DBG.CTRL.L2_LOCK ends level 2 and refuses AUTH until VIN is removed. -/
  | l2Lock (src : Source) (w : Word)
  /-- SOFT_RESET (R861). PAGE_CTRL.SOFT_RESET resets a page in IDLE and runs its block's reset action. -/
  | softReset (page : Nat) (src : Source) (w : Word)
  /-- COMMIT (R857). PAGE_CTRL.COMMIT schedules the staged shadow for apply at the next boundary. -/
  | commit (page : Nat) (src : Source) (w : Word)
  /-- INT_FORCE (R852). A write of INT_FORCE sets INT_STATUS bits without counters or records. -/
  | intForce (page : Nat) (src : Source) (w : Word)
  /-- LOCK (R862). A guarded LOCK write sets CFG_LOCK or CMD_LOCK. -/
  | lock (page : Nat) (src : Source) (w : Word)
  /-- REGISTER_WRITE (R855). A write to a register without a row of its own acts field by field by access class. -/
  | registerWrite (src : Source) (addr : Nat) (w : Word) (out : StepOut)
  /-- ENTDAA (R866). I3C CCC ENTDAA assigns a dynamic address. -/
  | entdaa (assigned : Nat)
  /-- SETDASA (R866). I3C CCC SETDASA assigns a dynamic address from the static one. -/
  | setdasa (static assigned : Nat)
  /-- RSTDAA (R866). I3C CCC RSTDAA resets the dynamic address. -/
  | rstdaa
  /-- GETPID (R866). I3C CCC GETPID returns the provisional ID. -/
  | getpid (addr : Nat)
  /-- GETBCR (R866). I3C CCC GETBCR returns the bus characteristics. -/
  | getbcr (addr : Nat)
  /-- GETDCR (R866). I3C CCC GETDCR returns the device characteristics. -/
  | getdcr (addr : Nat)
  /-- GETSTATUS (R866). I3C CCC GETSTATUS returns the target status. -/
  | getstatus (addr : Nat)
  /-- ENEC (R866). I3C CCC ENEC enables in-band interrupts. -/
  | enec (target : Option Nat) (bits : Nat)
  /-- DISEC (R866). I3C CCC DISEC disables in-band interrupts. -/
  | disec (target : Option Nat) (bits : Nat)
  /-- I3C_WRITE (R867). A sideband write transaction writes DEV or PWR registers. -/
  | i3cWrite (target page offset : Nat) (words : List Word) (out : StepOut)
  /-- I3C_READ (R867). A sideband read transaction returns DEV or PWR registers. -/
  | i3cRead (target page offset count : Nat)
  /-- POR_ASSERT (R876). POR asserts when neither VIN (below 2.2 V) nor VHOLD through the converter holds VDD_AON in window, so all state is lost and the next start is a power-on start. -/
  | porAssert
  /-- OFF_HOLD_EXPIRY (R665). The 10 ms hold after entering OFF, or after POR release, ends, and SEQ_UP starts if PWR_REQ is on, VIN is qualified and PWR_FAULT is clear. -/
  | offHoldExpiry
  /-- SOFT_RESET_END (R861). A soft reset finishes, within 64 clk or when the block's own action such as the R307 invalidation ends, and STATE returns from RESETTING to IDLE with BUSY cleared. -/
  | softResetEnd (page : Nat)
  /-- CART_RST_N_RELEASE (R604). After CARTn_CLK has run for 100 µs, CARTn_RST_N is released and lane training starts. -/
  | cartRstNRelease (slot phase : Nat)
  /-- REFERENCE_CLOCK_STOP (R23). In standby the PCIe reference clock stops, and the bell counter is advanced from the internal standby oscillator, so STANDBY_EST is reported at resume. -/
  | referenceClockStop
  /-- REFERENCE_CLOCK_RESTART (R23). In standby the PCIe reference clock runs again, and the bell counter counts from it again. -/
  | referenceClockRestart
  /-- BAD_CRC_FRAME (R609). A Zalkor frame fails its CRC-16: a sequenced frame leads to a NAK and a replay event, and an unsequenced frame is discarded. -/
  | badCrcFrame (slot : Nat) (sequenced : Bool) (phase : Nat)
  /-- DEVICE_ONLY_TYPE_FRAME (R631). A frame of a device-only TYPE (CMD or WDATA) arrives from the target, is dropped and counted as UNSOLICITED. -/
  | deviceOnlyTypeFrame (slot seq phase : Nat)
  /-- UNUSED_TYPE_FRAME (R631). A frame with an unused TYPE code arrives from the target; its response is discarded, the attempt fails and MALFORMED is counted. -/
  | unusedTypeFrame (slot phase : Nat)
  /-- CART_FRAME_BOUNDARY (R612). At each Zalkor transmit frame boundary the device sends its next frame, PRIORITY commands and host READs first, then other commands ahead of WDATA, or IDLE and LINK frames. -/
  | cartFrameBoundary (slot phase : Nat)
deriving DecidableEq, Repr

end Sys2Proof
end

