-- ==== Sys2Proof/Config.lean ====
section
/-! DEFINITION. What the spec leaves open, as constants with no body: values that the machine fixes but the spec does not, and functions that the spec takes from outside standards.
No proof can see what they are, so a statement that holds, holds whatever they are. -/

namespace Sys2Proof.Machine

/-- A free bit vector: the n-th random or unstated value of width w that the device draws (R51, R377, R534, R538, R559, R756, R824). Log entry 3. -/
opaque Config.free (n w : Nat) : BitVec w

/-- AES-256 encryption of one block (R534). Log entry 10. -/
opaque Config.aes256 (key : BitVec 256) (block : BitVec 128) : BitVec 128

/-- AES-256-XTS of a sector (R539, IEEE 1619): data key, tweak key, tweak value. Log entry 10. -/
opaque Config.xtsEnc (k1 k2 : BitVec 256) (tweak : BitVec 128) (d : SectorData) : SectorData
/-- The inverse operation. Log entry 10. -/
opaque Config.xtsDec (k1 k2 : BitVec 256) (tweak : BitVec 128) (d : SectorData) : SectorData

/-- AES-256-GMAC truncated to its first 64 bits (R540, SP 800-38D): key, IV, the LSN and the stored bytes as additional data. Log entry 10. -/
opaque Config.gmac (key : BitVec 256) (iv : BitVec 96) (lsn : BitVec 64) (stored : SectorData) : BitVec 64

/-- AES Key Unwrap (R536, RFC 3394) of a 48-byte blob, none where its integrity check fails. Log entry 10. -/
opaque Config.unwrap (kek : BitVec 256) (blob : BitVec 384) : Option (BitVec 320)

/-- The decoding of a Compressed block of Zstandard (RFC 8878, R495): entropy tables and repeat offsets as an encoded list, the window's bytes, the block; the new tables and the bytes
produced, none where the block is not valid. Log entry 10. -/
opaque Config.zstdBlock (tables window block : List Nat) : Option (List Nat × List Nat)

/-- The low 32 bits of XXH64 with seed 0, the content checksum of RFC 8878 (R495). Log entry 10. -/
opaque Config.xxh64 (bytes : List Nat) : Nat

/-- The parse of a Zstandard dictionary after its magic number and identifier (RFC 8878, R492): entropy tables and content. Log entry 10. -/
opaque Config.zstdDict (bytes : List Nat) : Option (List Nat × List Nat)

/-- The fused root secret (R534). Log entry 10. -/
opaque Config.root : BitVec 256

/-- The factory reference code of boundary `k` (1 to 7) of a set of a die (R113, R275). Log entry 11. -/
opaque Config.factoryCode (die set k : Nat) : BitVec 7

/-- The factory SLC reference code of a die (R113). Log entry 11. -/
opaque Config.factorySlc (die : Nat) : BitVec 7

/-- The fixed pattern of fragment 0 of band row 255 (R91), as a die holds it. Log entry 11. -/
opaque Config.rowPattern (die : Nat) : SectorData

/-- Sector `k` of part `n` of a system-area table whose layout the spec does not give (R176: kind 1 band table, 2 drift tables), as written in sweep cycle `c`. Log entry 108. -/
opaque Config.tableSec (kind n k c : Nat) : SectorData

/-- Sector `q` of page `n` of a Vent with sequence number `seq` in the Vent band of gang `g`, for the pages whose bytes the spec does not give in full (R682). Log entry 110. -/
opaque Config.ventSec (seq g n q : Nat) : SectorData

/-- The payload of the training frames that slot `n` sends (R608). Log entry 117. -/
opaque Config.tsPayload (n : Nat) : BitVec 512

/-- SHA-512 of a byte string, as 64 bytes with the first in bits [7:0] (R551, R615). Log entry 10. -/
opaque Config.sha512 (bytes : List Nat) : BitVec 512

/-- ECDSA P-521 over SHA-512: the signature (r then s, 66 bytes each) over the message verifies with the SEC1 uncompressed public key (R615, R559). Log entry 10. -/
opaque Config.ecdsaOk (key msg sig : List Nat) : Bool

/-- The fused cartridge authority hash and console family key (R615). Log entry 10. -/
opaque Config.cartAuthHash : BitVec 512
/-- The console family key FK. Log entry 10. -/
opaque Config.familyKey : BitVec 256

/-- The fused serial number, byte 0 in the most significant place (R600), and the fused customer public key (R559). Log entry 10. -/
opaque Config.serial : BitVec 128
/-- The customer public key. Log entry 10. -/
opaque Config.customerKey : List Nat
/-- The fused key hashes 0 and 1 of image and RMA keys (R551, R826). Log entry 10. -/
opaque Config.keyHash (k : Nat) : BitVec 512
/-- The fuses of R601: key 0 revoked, key 1 revoked, customer key set. Log entry 10. -/
opaque Config.keyRevoked (k : Nat) : Bool
/-- The customer key is fused. Log entry 10. -/
opaque Config.customerSet : Bool
/-- The certificate chain of slot 0 (R553), the boot ROM as measured (R554), the image that the factory put into a slot (R550). Log entry 10. -/
opaque Config.certChain : List Nat
/-- The boot ROM. Log entry 10. -/
opaque Config.bootRom : List Nat
/-- The factory's image of slot 1 or 2. Log entry 10. -/
opaque Config.factoryImage (slot : Nat) : List Nat

/-- The provisional ID, the device characteristics and the bus characteristics of the I3C target (R866). Log entry 12. -/
opaque Config.i3cPid : BitVec 48
/-- The device characteristics register. Log entry 12. -/
opaque Config.i3cDcr : BitVec 8
/-- The bus characteristics register. Log entry 12. -/
opaque Config.i3cBcr : BitVec 8

end Sys2Proof.Machine
end

