-- ==== Sys2Proof/Machine/RegTable.lean ====
section
/-! DEFINITION. The register tables of chapters 01 to 18 as data: for every page its registers at 0x010 and 0x040 to 0xFFF (the rest of the
common header is R847 to R854, written in Pages.lean), each with its fields, access class (R855), reset value, write limit (R858, R860),
whether the field survives a warm start (SR), whether a soft reset clears it as a counter (R861), and whether its reset value is fused or loaded (R864). -/

namespace Sys2Proof.Machine

/-- The registers of page BWT. -/
def bwtRows : List RegRow :=
  [ { off := 0x10, stride := 4, count := 1, fields := [.plain 6 6 .w1c 0, .plain 5 5 .w1c 0, .plain 4 4 .w1c 0, .plain 3 3 .w1c 0, .plain 2 2 .w1c 0, .plain 1 1 .w1c 0, .plain 0 0 .w1c 0] } /- INT_STATUS -/,
    { off := 0x40, stride := 4, count := 1, fields := [.plain 31 0 .ro 0] } /- BELL_LO -/,
    { off := 0x44, stride := 4, count := 1, fields := [.plain 23 0 .ro 0] } /- BELL_HI -/,
    { off := 0x48, stride := 4, count := 1, fields := [.plain 11 0 .ro 0] } /- PHASE -/,
    { off := 0x4c, stride := 4, count := 1, fields := [{ hi := 1, lo := 1, cls := .w1c, reset := 0, sr := true }, .plain 0 0 .ro 0] } /- CLK_STATUS -/,
    { off := 0x50, stride := 4, count := 1, fields := [.plain 31 0 .ro 0] } /- RESUME_GAP -/,
    { off := 0x54, stride := 4, count := 1, fields := [.limited 3 0 .il 1 (.range 1 1)] } /- LAT_PROFILE -/,
    { off := 0x58, stride := 4, count := 1, fields := [.plain 23 17 .ro 0, .plain 16 16 .ro 0, .plain 14 12 .ro 0, .plain 11 8 .ro 0, .plain 3 0 .ro 1] } /- LAT_STATUS -/,
    { off := 0x5c, stride := 4, count := 1, fields := [.plain 31 31 .ro 0, .plain 14 12 .ro 0, .plain 11 8 .ro 0] } /- LAT_NEXT -/,
    { off := 0x60, stride := 4, count := 1, fields := [.plain 31 0 .ro 0] } /- LAT_FLOCK -/,
    { off := 0x64, stride := 4, count := 1, fields := [.limited 23 16 .st 0x40 (.range 1 128), .limited 12 0 .st 0x200 (.range 1 8191)] } /- WB_BUDGET -/,
    { off := 0x68, stride := 4, count := 1, fields := [.plain 12 0 .ro 0x200] } /- WB_EFFECTIVE -/,
    { off := 0x6c, stride := 4, count := 1, fields := [.plain 17 0 .ro 0x10000] } /- WB_LEVEL -/,
    { off := 0x70, stride := 4, count := 1, fields := [.count 31 0 0] } /- WB_HELD_LO -/,
    { off := 0x74, stride := 4, count := 1, fields := [.count 15 0 0] } /- WB_HELD_HI -/,
    { off := 0x78, stride := 4, count := 1, fields := [.count 31 0 0] } /- WB_HELD_BELLS -/,
    { off := 0x7c, stride := 4, count := 1, fields := [.plain 7 4 .rw 4, .plain 1 1 .rw 0, .plain 0 0 .rw 0] } /- FS_CTRL -/,
    { off := 0x80, stride := 4, count := 1, fields := [.plain 31 0 .ro 0] } /- FS_BELL_LO -/,
    { off := 0x84, stride := 4, count := 1, fields := [.plain 23 0 .ro 0] } /- FS_BELL_HI -/,
    { off := 0x88, stride := 4, count := 1, fields := [.plain 11 0 .ro 0] } /- FS_PHASE -/,
    { off := 0x8c, stride := 4, count := 1, fields := [.count 31 0 0] } /- FS_COUNT -/,
    { off := 0x90, stride := 4, count := 1, fields := [.plain 31 0 .rw 0] } /- CMP_LO -/,
    { off := 0x94, stride := 4, count := 1, fields := [.plain 23 0 .rw 0] } /- CMP_HI -/ ]

/-- The registers of page ROTn. -/
def rotRows : List RegRow :=
  [ { off := 0x10, stride := 4, count := 1, fields := [.plain 1 1 .w1c 0, .plain 0 0 .w1c 0] } /- INT_STATUS -/,
    { off := 0x40, stride := 4, count := 1, fields := [.limited 15 0 .st 0x8420 (.group)] } /- PATTERN -/,
    { off := 0x44, stride := 4, count := 1, fields := [.plain 3 0 .il 0] } /- OFFSET -/,
    { off := 0x48, stride := 4, count := 1, fields := [.plain 31 0 .ro 0] } /- EFFECTIVE -/,
    { off := 0x4c, stride := 4, count := 1, fields := [.limited 7 0 .st 0 (.range 0 80)] } /- TURN_CTRL -/,
    { off := 0x50, stride := 4, count := 1, fields := [.plain 31 31 .ro 0, .plain 30 29 .ro 3, .plain 20 16 .ro 0, .plain 15 8 .ro 4, .plain 2 0 .ro 0] } /- TURN_STATUS -/,
    { off := 0x54, stride := 4, count := 1, fields := [.count 31 0 0] } /- SLC_TURNS -/,
    { off := 0x58, stride := 4, count := 1, fields := [.count 31 0 0] } /- TLC_TURNS -/,
    { off := 0x5c, stride := 4, count := 1, fields := [.count 31 0 0] } /- IDLE_TURNS -/,
    { off := 0x60, stride := 4, count := 1, fields := [.count 31 0 0] } /- ROTATIONS -/ ]

/-- The registers of page MEDs. -/
def medRows : List RegRow :=
  [ { off := 0x10, stride := 4, count := 1, fields := [.plain 4 4 .w1c 0, .plain 3 3 .w1c 0, .plain 2 2 .w1c 0, .plain 1 1 .w1c 0, .plain 0 0 .w1c 0] } /- INT_STATUS -/,
    { off := 0x40, stride := 4, count := 1, fields := [.plain 7 0 .ro 0] } /- FAILED_MAP -/,
    { off := 0x44, stride := 4, count := 1, fields := [.plain 15 8 .wo 0, .plain 7 0 .wo 0] } /- DIE_CTRL -/,
    { off := 0x60, stride := 0x4, count := 8, fields := [.plain 31 31 .ro 0, .plain 30 28 .ro 0, .plain 27 25 .ro 0, .plain 24 24 .ro 0, .plain 23 23 .ro 0, .plain 22 22 .ro 0, .plain 7 0 .ro 0] } /- DIE_STATUSn -/,
    { off := 0x80, stride := 0x4, count := 8, fields := [.count 27 24 0, .count 23 0 0] } /- DIE_FAULTSn -/,
    { off := 0xa0, stride := 0x4, count := 8, fields := [.count 31 0 0] } /- DIE_CORRn -/,
    { off := 0xc0, stride := 0x4, count := 8, fields := [.count 31 16 0, .count 15 0 0] } /- DIE_ERRn -/,
    { off := 0xe0, stride := 0x4, count := 8, fields := [.plain 31 31 .ro 0, .plain 30 16 .ro 0, .plain 12 0 .ro 0] } /- DIE_REPAIRn -/ ]

/-- The registers of page SEC. -/
def secRows : List RegRow :=
  [ { off := 0x10, stride := 4, count := 1, fields := [.plain 5 5 .w1c 0, .plain 4 4 .w1c 0, .plain 3 3 .w1c 0, .plain 2 2 .w1c 0, .plain 1 1 .w1c 0, .plain 0 0 .w1c 0] } /- INT_STATUS -/,
    { off := 0x40, stride := 0x4, count := 2, fields := [.plain 31 30 .ro 0, .plain 29 29 .ro 0, .plain 28 24 .ro 0, .plain 19 0 .ro 0] } /- GANG_STATUSg -/,
    { off := 0x60, stride := 0x20, count := 2, fields := [.count 31 0 0] } /- DECODESg -/,
    { off := 0x64, stride := 0x20, count := 2, fields := [.count 31 0 0] } /- SYM_CORRg -/,
    { off := 0x68, stride := 0x20, count := 2, fields := [.count 31 0 0] } /- ERASEDg -/,
    { off := 0x6c, stride := 0x20, count := 2, fields := [.count 31 0 0] } /- FIRST_FAILg -/,
    { off := 0x70, stride := 0x20, count := 2, fields := [.count 31 0 0] } /- TRANSIENTg -/,
    { off := 0x74, stride := 0x20, count := 2, fields := [.count 31 0 0] } /- LASTINGg -/,
    { off := 0x78, stride := 0x20, count := 2, fields := [.count 31 0 0] } /- REREADg -/,
    { off := 0x7c, stride := 0x20, count := 2, fields := [.count 31 0 0] } /- UNCHECKEDg -/,
    { off := 0xa0, stride := 4, count := 1, fields := [.plain 29 0 .ro 0] } /- LAST_FAIL_PSA -/,
    { off := 0xa4, stride := 4, count := 1, fields := [.plain 31 28 .ro 0, .plain 27 24 .ro 0, .plain 19 0 .ro 0] } /- LAST_FAIL_INFO -/ ]

/-- The registers of page SHP. -/
def shpRows : List RegRow :=
  [ { off := 0x10, stride := 4, count := 1, fields := [.plain 3 3 .w1c 0, .plain 2 2 .w1c 0, .plain 1 1 .w1c 0, .plain 0 0 .w1c 0] } /- INT_STATUS -/,
    { off := 0x40, stride := 4, count := 1, fields := [.limited 23 16 .st 8 (.range 1 255), .limited 15 8 .st 0x18 (.range 12 255), .plain 0 0 .st 1] } /- CTRL -/,
    { off := 0x44, stride := 4, count := 1, fields := [.plain 3 3 .ro 0, .plain 2 2 .ro 0, .plain 1 1 .ro 0, .plain 0 0 .ro 0] } /- STATUS -/,
    { off := 0x50, stride := 0x4, count := 2, fields := [.plain 28 0 .ro 0] } /- POSg -/,
    { off := 0x58, stride := 0x4, count := 2, fields := [.plain 23 0 .ro 0] } /- QUOTAg -/,
    { off := 0x60, stride := 0x4, count := 2, fields := [.count 31 0 0] } /- PASSESg -/,
    { off := 0x68, stride := 0x4, count := 2, fields := [.count 31 0 0] } /- SCANNEDg -/,
    { off := 0x70, stride := 0x4, count := 2, fields := [.count 31 0 0] } /- CORRg -/,
    { off := 0x78, stride := 0x4, count := 2, fields := [.count 31 0 0] } /- REWRITESg -/,
    { off := 0x80, stride := 0x4, count := 2, fields := [.count 31 0 0] } /- CATCHUPg -/ ]

/-- The registers of page XLT. -/
def xltRows : List RegRow :=
  [ { off := 0x10, stride := 4, count := 1, fields := [.plain 6 6 .w1c 0, .plain 5 5 .w1c 0, .plain 4 4 .w1c 0, .plain 3 3 .w1c 0, .plain 2 2 .w1c 0, .plain 1 1 .w1c 0, .plain 0 0 .w1c 0] } /- INT_STATUS -/,
    { off := 0x40, stride := 4, count := 1, fields := [.plain 2 2 .ro 0, .plain 1 1 .ro 0, .plain 0 0 .ro 1] } /- STATUS -/,
    { off := 0x44, stride := 4, count := 1, fields := [.plain 31 0 .ro 0] } /- USER_SEGS -/,
    { off := 0x48, stride := 4, count := 1, fields := [.plain 31 0 .ro 0] } /- MAPPED -/,
    { off := 0x4c, stride := 4, count := 1, fields := [.plain 31 0 .ro 0] } /- CALDERA_SEGS -/,
    { off := 0x50, stride := 4, count := 1, fields := [.plain 31 0 .ro 0] } /- TLC_SEGS -/,
    { off := 0x54, stride := 4, count := 1, fields := [.plain 31 0 .ro 0] } /- POISONED_SEGS -/,
    { off := 0x58, stride := 4, count := 1, fields := [.plain 29 0 .rw 0] } /- QUERY -/,
    { off := 0x5c, stride := 4, count := 1, fields := [.plain 31 31 .ro 0, .plain 30 30 .ro 0, .plain 29 28 .ro 0, .plain 27 27 .ro 0, .plain 26 26 .ro 0, .plain 25 25 .ro 0] } /- QUERY_RESULT -/,
    { off := 0x60, stride := 4, count := 1, fields := [.plain 29 0 .rw 0] } /- TRIM_START -/,
    { off := 0x64, stride := 4, count := 1, fields := [.plain 30 0 .rw 0] } /- TRIM_COUNT -/,
    { off := 0x68, stride := 4, count := 1, fields := [.plain 15 8 .wo 0, .plain 0 0 .wo 0] } /- TRIM_CTRL -/,
    { off := 0x6c, stride := 4, count := 1, fields := [.plain 30 0 .ro 0] } /- TRIM_PROGRESS -/,
    { off := 0x70, stride := 4, count := 1, fields := [.plain 31 30 .wo 0, .plain 7 0 .wo 0] } /- GROUP_CTRL -/,
    { off := 0x74, stride := 4, count := 1, fields := [.limited 16 0 .st 0x10000 (.range 1 65536)] } /- GROUP_CFG -/,
    { off := 0x80, stride := 0x4, count := 16, fields := [.plain 31 29 .ro 0, .plain 24 8 .ro 0, .plain 7 0 .ro 0] } /- GROUP_STATUSi -/,
    { off := 0xc0, stride := 4, count := 1, fields := [.plain 8 0 .ro 0] } /- JOURNAL_TAIL -/,
    { off := 0xc4, stride := 4, count := 1, fields := [.plain 16 0 .ro 0] } /- JOURNAL_AREA -/,
    { off := 0xc8, stride := 4, count := 1, fields := [.count 31 0 0] } /- SWEEPS -/,
    { off := 0xcc, stride := 4, count := 1, fields := [.count 31 0 0] } /- REFUSED_WRITES -/ ]

/-- The registers of page DRV. -/
def drvRows : List RegRow :=
  [ { off := 0x10, stride := 4, count := 1, fields := [.plain 7 7 .w1c 0, .plain 6 6 .w1c 0, .plain 5 5 .w1c 0, .plain 4 4 .w1c 0, .plain 3 3 .w1c 0, .plain 2 2 .w1c 0, .plain 1 1 .w1c 0, .plain 0 0 .w1c 0] } /- INT_STATUS -/,
    { off := 0x40, stride := 4, count := 1, fields := [.limited 31 24 .st 8 (.range 1 255), .limited 23 16 .st 0x4b (.range 1 99), .limited 15 0 .st 0x100 (.range 16 4096)] } /- CTRL -/,
    { off := 0x44, stride := 4, count := 1, fields := [.limited 31 0 .st 0x186a0 (.range 10000 2000000)] } /- SPREAD_LIMIT -/,
    { off := 0x50, stride := 0x10, count := 2, fields := [.plain 31 0 .ro 0] } /- WEAR_MINg -/,
    { off := 0x54, stride := 0x10, count := 2, fields := [.plain 31 0 .ro 0] } /- WEAR_MAXg -/,
    { off := 0x58, stride := 0x10, count := 2, fields := [.plain 31 0 .ro 0] } /- WEAR_AVGg -/,
    { off := 0x5c, stride := 0x10, count := 2, fields := [.plain 7 0 .ro 0] } /- LIFEg -/,
    { off := 0x70, stride := 0x4, count := 2, fields := [.count 31 0 0] } /- FOLDSg -/,
    { off := 0x78, stride := 0x4, count := 2, fields := [.count 31 0 0] } /- STRIKESg -/,
    { off := 0x80, stride := 0x4, count := 2, fields := [.plain 15 0 .ro 0] } /- RETIREDg -/,
    { off := 0x88, stride := 0x4, count := 2, fields := [.count 31 0 0] } /- REBUILDSg -/,
    { off := 0x90, stride := 0x4, count := 2, fields := [.count 31 0 0] } /- REFRESHESg -/,
    { off := 0x98, stride := 0x4, count := 2, fields := [.count 31 0 0] } /- COMPACTIONSg -/,
    { off := 0xa0, stride := 0x4, count := 2, fields := [.count 31 0 0] } /- COLD_MOVESg -/,
    { off := 0xa8, stride := 0x4, count := 2, fields := [.plain 31 31 .ro 0, .plain 29 0 .ro 0] } /- EVACg -/,
    { off := 0xb0, stride := 4, count := 1, fields := [.count 31 0 0] } /- HOST_SEGS -/,
    { off := 0xb4, stride := 4, count := 1, fields := [.count 31 0 0] } /- PROG_SEGS -/ ]

/-- The registers of page CAL. -/
def calRows : List RegRow :=
  [ { off := 0x10, stride := 4, count := 1, fields := [.plain 2 2 .w1c 0, .plain 1 1 .w1c 0, .plain 0 0 .w1c 0] } /- INT_STATUS -/,
    { off := 0x40, stride := 4, count := 1, fields := [.limited 24 16 .st 0x100 (.range 16 256), .limited 15 8 .st 0x32 (.range 10 100)] } /- CTRL -/,
    { off := 0x44, stride := 4, count := 1, fields := [.limited 15 0 .st 0x40 (.range 1 65535)] } /- STAGE_AGE -/,
    { off := 0x48, stride := 4, count := 1, fields := [.plain 15 0 .ro 0xc0d] } /- TARGET -/,
    { off := 0x50, stride := 0x4, count := 2, fields := [.plain 15 0 .ro 0] } /- TARGETg -/,
    { off := 0x58, stride := 0x4, count := 2, fields := [.plain 15 0 .ro 0] } /- USEDg -/,
    { off := 0x60, stride := 0x4, count := 2, fields := [.plain 31 0 .ro 0] } /- LIVEg -/,
    { off := 0x68, stride := 0x4, count := 2, fields := [.plain 31 31 .ro 0, .plain 30 24 .ro 0, .plain 16 0 .ro 0] } /- OPENg -/,
    { off := 0x70, stride := 4, count := 1, fields := [.plain 3 0 .ro 0] } /- PARITY -/,
    { off := 0x74, stride := 4, count := 1, fields := [.plain 17 0 .ro 0] } /- STAGING -/,
    { off := 0x78, stride := 0x4, count := 2, fields := [.plain 15 0 .ro 0] } /- FREE_BANDSg -/ ]

/-- The registers of page DRF. -/
def drfRows : List RegRow :=
  [ { off := 0x10, stride := 4, count := 1, fields := [.plain 4 4 .w1c 0, .plain 3 3 .w1c 0, .plain 2 2 .w1c 0, .plain 1 1 .w1c 0, .plain 0 0 .w1c 0] } /- INT_STATUS -/,
    { off := 0x40, stride := 4, count := 1, fields := [.limited 31 24 .st 4 (.range 1 255), .limited 23 16 .st 0x20 (.range 4 255), .plain 15 8 .st 0x10, .plain 0 0 .st 1] } /- CTRL -/,
    { off := 0x44, stride := 4, count := 1, fields := [.limited 31 24 .il 3 (.group), .limited 23 16 .il 0x55 (.group), .limited 15 8 .il 0x3c (.group), .limited 7 0 .il 0x23 (.group)] } /- CLASS_CFG -/,
    { off := 0x48, stride := 4, count := 1, fields := [.limited 31 16 .st 0x100 (.range 1 65535), .limited 12 8 .st 0xe (.range 8 24), .plain 3 0 .st 0xd] } /- REFRESH_CFG -/,
    { off := 0x50, stride := 4, count := 1, fields := [.plain 31 0 .ro 0] } /- EPOCH -/,
    { off := 0x54, stride := 4, count := 1, fields := [.plain 31 0 .wo 0] } /- EPOCH_ADVANCE -/,
    { off := 0x58, stride := 4, count := 1, fields := [.plain 31 31 .ro 0, .plain 30 30 .ro 0, .plain 7 4 .ro 0, .plain 3 0 .ro 0] } /- PROBE -/,
    { off := 0x5c, stride := 4, count := 1, fields := [.plain 31 0 .ro 0] } /- PROBE_GAP -/,
    { off := 0x60, stride := 4, count := 1, fields := [.plain 3 3 .ro 0, .plain 2 2 .ro 0, .plain 1 1 .ro 0, .plain 0 0 .ro 0] } /- STATUS -/,
    { off := 0x70, stride := 0x4, count := 3, fields := [.plain 31 0 .ro 0] } /- DIE_CLASSi -/,
    { off := 0x80, stride := 4, count := 1, fields := [.count 31 0 0] } /- SWITCHES -/,
    { off := 0x84, stride := 4, count := 1, fields := [.count 31 16 0, .count 15 0 0] } /- STEPS -/,
    { off := 0x88, stride := 4, count := 1, fields := [.count 31 16 0, .count 15 0 0] } /- ADJUST -/,
    { off := 0x8c, stride := 4, count := 1, fields := [.count 31 16 0, .count 15 0 0] } /- OLD_REF -/,
    { off := 0x90, stride := 4, count := 1, fields := [.count 31 0 0] } /- OBS_LIVE -/,
    { off := 0x94, stride := 4, count := 1, fields := [.count 31 0 0] } /- OBS_SHEP -/,
    { off := 0x98, stride := 4, count := 1, fields := [.count 31 16 0, .count 15 0 0] } /- DISCARD -/,
    { off := 0xc0, stride := 4, count := 1, fields := [.plain 31 31 .ro 0, .plain 29 24 .rw 0, .plain 21 16 .rw 0, .plain 14 12 .rw 1, .plain 9 8 .rw 0] } /- INSPECT_SEL -/,
    { off := 0xc4, stride := 4, count := 1, fields := [.plain 27 21 .ro 0, .plain 20 14 .ro 0, .plain 13 7 .ro 0, .plain 6 0 .ro 0] } /- REF_DATA0 -/,
    { off := 0xc8, stride := 4, count := 1, fields := [.plain 20 14 .ro 0, .plain 13 7 .ro 0, .plain 6 0 .ro 0] } /- REF_DATA1 -/,
    { off := 0xcc, stride := 4, count := 1, fields := [.plain 31 16 .ro 0, .plain 15 0 .ro 0] } /- COUNTS -/,
    { off := 0xd0, stride := 4, count := 1, fields := [.plain 31 0 .ro 0] } /- RATE_ERR -/,
    { off := 0xd4, stride := 4, count := 1, fields := [.plain 31 0 .ro 0] } /- RATE_OBS -/ ]

/-- The registers of page L1P. -/
def l1pRows : List RegRow :=
  [ { off := 0x10, stride := 4, count := 1, fields := [.plain 1 1 .w1c 0, .plain 0 0 .w1c 0] } /- INT_STATUS -/,
    { off := 0x40, stride := 0x4, count := 4, fields := [.plain 7 0 .ro 0] } /- WAYSp -/,
    { off := 0x50, stride := 0x4, count := 4, fields := [.count 31 0 0] } /- PARITYp -/,
    { off := 0x60, stride := 4, count := 1, fields := [.plain 31 30 .ro 0, .plain 29 29 .ro 0, .plain 23 15 .ro 0, .plain 2 0 .ro 0] } /- LAST_ERR -/ ]

/-- The registers of page L2C. -/
def l2cRows : List RegRow :=
  [ { off := 0x10, stride := 4, count := 1, fields := [.plain 7 7 .w1c 0, .plain 6 6 .w1c 0, .plain 5 5 .w1c 0, .plain 4 4 .w1c 0, .plain 3 3 .w1c 0, .plain 2 2 .w1c 0, .plain 1 1 .w1c 0, .plain 0 0 .w1c 0] } /- INT_STATUS -/,
    { off := 0x40, stride := 4, count := 1, fields := [.plain 31 6 .rw 0] } /- MAINT_ADDR_LO -/,
    { off := 0x44, stride := 4, count := 1, fields := [.plain 31 31 .rw 0, .plain 21 16 .rw 0, .plain 9 0 .rw 0] } /- MAINT_ADDR_HI -/,
    { off := 0x48, stride := 4, count := 1, fields := [.plain 27 24 .rw 0, .plain 23 12 .rw 0, .plain 3 0 .rw 0] } /- MAINT_SETWAY -/,
    { off := 0x4c, stride := 4, count := 1, fields := [.plain 31 30 .wo 0, .plain 29 28 .wo 0, .plain 27 24 .wo 0, .plain 15 0 .wo 0] } /- MAINT_CTRL -/,
    { off := 0x50, stride := 4, count := 1, fields := [.plain 31 31 .ro 0, .plain 20 0 .ro 0] } /- MAINT_STATUS -/,
    { off := 0x54, stride := 4, count := 1, fields := [.limited 15 0 .st 0 (.popcountLe 12)] } /- WAY_PD -/,
    { off := 0x58, stride := 4, count := 1, fields := [.plain 31 16 .ro 0xffff, .plain 15 0 .ro 0] } /- WAY_STATUS -/,
    { off := 0x60, stride := 4, count := 1, fields := [.count 31 0 0] } /- ECC_CORR -/,
    { off := 0x64, stride := 4, count := 1, fields := [.count 31 0 0] } /- ECC_UNCORR -/,
    { off := 0x68, stride := 4, count := 1, fields := [.count 31 0 0] } /- TAG_PAR -/,
    { off := 0x6c, stride := 4, count := 1, fields := [.plain 31 28 .ro 0, .plain 27 16 .ro 0, .plain 15 12 .ro 0, .plain 11 10 .ro 0, .plain 9 9 .ro 0, .plain 8 8 .ro 0] } /- LAST_ERR -/,
    { off := 0x70, stride := 4, count := 1, fields := [.plain 31 16 .ro 0, .plain 8 0 .ro 0] } /- LOC_DISABLED -/,
    { off := 0x80, stride := 4, count := 1, fields := [.plain 31 24 .ro 0, .plain 23 16 .ro 0, .plain 15 0 .ro 0] } /- SMALL_WAYS -/,
    { off := 0x84, stride := 4, count := 1, fields := [.count 31 16 0, .count 15 0 0] } /- SMALL_PARITY -/ ]

/-- The registers of page RNG. -/
def rngRows : List RegRow :=
  [ { off := 0x10, stride := 4, count := 1, fields := [.plain 3 3 .w1c 0, .plain 2 2 .w1c 0, .plain 1 1 .w1c 0, .plain 0 0 .w1c 0] } /- INT_STATUS -/,
    { off := 0x40, stride := 4, count := 1, fields := [.plain 2 2 .il 1, .plain 1 1 .il 1, .plain 0 0 .il 1] } /- STASH_CTRL -/,
    { off := 0x44, stride := 4, count := 1, fields := [.plain 31 0 .ro 0] } /- DEAD -/,
    { off := 0x48, stride := 4, count := 1, fields := [.plain 31 30 .ro 0, .plain 12 8 .ro 0, .plain 3 0 .ro 0] } /- LAST_DEAD -/,
    { off := 0x4c, stride := 4, count := 1, fields := [.plain 31 6 .ro 0] } /- POISON_ADDR_LO -/,
    { off := 0x50, stride := 4, count := 1, fields := [.plain 31 31 .ro 0, .plain 21 16 .ro 0, .plain 9 0 .ro 0] } /- POISON_ADDR_HI -/,
    { off := 0x54, stride := 4, count := 1, fields := [.count 31 0 0] } /- POISONED -/,
    { off := 0x60, stride := 4, count := 1, fields := [.count 31 0 0] } /- SNOOPS -/,
    { off := 0x64, stride := 4, count := 1, fields := [.count 31 0 0] } /- RETRIES -/,
    { off := 0x68, stride := 4, count := 1, fields := [.count 31 0 0] } /- WAITS -/,
    { off := 0x6c, stride := 4, count := 1, fields := [.count 31 0 0] } /- STASHES -/,
    { off := 0x70, stride := 4, count := 1, fields := [.count 31 0 0] } /- STASH_DROPS -/,
    { off := 0x74, stride := 4, count := 1, fields := [.count 31 0 0] } /- SNOOP_PARITY -/ ]

/-- The registers of page DMCn. -/
def dmcRows : List RegRow :=
  [ { off := 0x10, stride := 4, count := 1, fields := [.plain 7 7 .w1c 0, .plain 6 6 .w1c 0, .plain 5 5 .w1c 0, .plain 4 4 .w1c 0, .plain 3 3 .w1c 0, .plain 2 2 .w1c 0, .plain 1 1 .w1c 0, .plain 0 0 .w1c 0] } /- INT_STATUS -/,
    { off := 0x40, stride := 4, count := 1, fields := [.plain 8 8 .il 0, .limited 5 4 .il 2 (.range 0 2), .plain 1 0 .il 0] } /- CFG -/,
    { off := 0x44, stride := 4, count := 1, fields := [.plain 31 29 .ro 0, .plain 28 26 .ro 0, { hi := 25, lo := 25, cls := .ro, reset := 0, sr := true }, .plain 24 24 .ro 0, .plain 23 20 .ro 0] } /- STATUS -/,
    { off := 0x50, stride := 4, count := 1, fields := [.count 31 0 0] } /- CE -/,
    { off := 0x54, stride := 4, count := 1, fields := [.count 31 0 0] } /- UE_TRANSIENT -/,
    { off := 0x58, stride := 4, count := 1, fields := [.count 31 0 0] } /- UE_LASTING -/,
    { off := 0x5c, stride := 4, count := 1, fields := [.plain 31 31 .ro 0, .plain 30 30 .ro 0, .plain 29 27 .ro 0, .plain 26 24 .ro 0] } /- ERR_INFO -/,
    { off := 0x60, stride := 4, count := 1, fields := [.plain 26 0 .ro 0] } /- ERR_LINE -/,
    { off := 0x64, stride := 4, count := 1, fields := [.count 31 0 0] } /- RETRAIN_FAIL -/,
    { off := 0x70, stride := 4, count := 1, fields := [.count 31 0 0] } /- RD_TRIGGERS -/,
    { off := 0x74, stride := 4, count := 1, fields := [.count 31 0 0] } /- NEIGHBOUR_REF -/,
    { off := 0x78, stride := 4, count := 1, fields := [.plain 31 29 .ro 0, .plain 28 28 .ro 0, .plain 27 24 .ro 0, .plain 17 0 .ro 0] } /- RD_LAST -/ ]

/-- The registers of page DMC0. -/
def dmc0Rows : List RegRow :=
  [ { off := 0x80, stride := 4, count := 1, fields := [.limited 26 16 .st 0x300 (.group), .limited 10 0 .st 0x200 (.group)] } /- RT_CFG -/,
    { off := 0x84, stride := 4, count := 1, fields := [.plain 31 31 .ro 0, .plain 10 0 .ro 0] } /- RT_STATUS -/,
    { off := 0x88, stride := 4, count := 1, fields := [.count 31 0 0] } /- PANICS -/,
    { off := 0x8c, stride := 4, count := 1, fields := [.count 31 0 0] } /- FILL_DROPS -/,
    { off := 0x90, stride := 4, count := 1, fields := [.limited 12 0 .st 0x200 (.range 64 4096)] } /- RD_CFG -/,
    { off := 0x94, stride := 4, count := 1, fields := [{ hi := 12, lo := 8, cls := .ro, reset := 0, loaded := true }, { hi := 3, lo := 0, cls := .ro, reset := 0, loaded := true }] } /- SC_GEOM -/,
    { off := 0x98, stride := 4, count := 1, fields := [.count 31 0 0] } /- LOOKUPS -/ ]

/-- The registers of page HLK. -/
def hlkRows : List RegRow :=
  [ { off := 0x10, stride := 4, count := 1, fields := [.plain 7 7 .w1c 0, .plain 6 6 .w1c 0, .plain 5 5 .w1c 0, .plain 4 4 .w1c 0, .plain 3 3 .w1c 0, .plain 2 2 .w1c 0, .plain 1 1 .w1c 0, .plain 0 0 .w1c 0] } /- INT_STATUS -/,
    { off := 0x40, stride := 4, count := 1, fields := [.plain 31 31 .ro 0, .plain 30 30 .ro 0, .plain 29 29 .ro 0, .plain 28 28 .ro 0, .plain 19 16 .ro 0, .plain 4 0 .ro 0] } /- LINK_STATUS -/,
    { off := 0x44, stride := 4, count := 1, fields := [.plain 31 31 .wo 0, .limited 19 16 .rw 6 (.range 1 6), .limited 4 0 .rw 0x10 (.oneOf [4, 8, 16])] } /- LINK_CTRL -/,
    { off := 0x48, stride := 4, count := 1, fields := [.plain 9 8 .rw 0, .plain 7 0 .rw 0] } /- TPH_CFG -/,
    { off := 0x4c, stride := 4, count := 1, fields := [.plain 23 16 .ro 0x40, .plain 7 0 .ro 6] } /- CREDITS -/,
    { off := 0x50, stride := 4, count := 1, fields := [.count 31 0 0] } /- S2M_HELD -/,
    { off := 0x54, stride := 4, count := 1, fields := [.count 31 0 0] } /- RECOVERIES -/,
    { off := 0x58, stride := 4, count := 1, fields := [{ hi := 31, lo := 0, cls := .ro, reset := 0, sr := true, counter := true }] } /- LINK_DOWNS -/,
    { off := 0x60, stride := 4, count := 1, fields := [.count 31 16 0, .count 15 0 0] } /- VIOL_MEM -/,
    { off := 0x64, stride := 4, count := 1, fields := [.count 31 16 0, .count 15 0 0] } /- VIOL_MEM2 -/,
    { off := 0x68, stride := 4, count := 1, fields := [.count 31 16 0, .count 15 0 0] } /- VIOL_IO -/,
    { off := 0x6c, stride := 4, count := 1, fields := [.count 31 16 0, .count 15 0 0] } /- VIOL_IO2 -/,
    { off := 0x70, stride := 4, count := 1, fields := [.count 31 16 0, .count 15 0 0] } /- VIOL_MISC -/,
    { off := 0x74, stride := 4, count := 1, fields := [.plain 31 24 .ro 0, .plain 23 0 .ro 0] } /- LAST_VIOL -/,
    { off := 0x78, stride := 4, count := 1, fields := [.count 31 0 0] } /- INGRESS_WAIT -/ ]

/-- The registers of page HDM. -/
def hdmRows : List RegRow :=
  [ { off := 0x10, stride := 4, count := 1, fields := [.plain 4 4 .w1c 0, .plain 3 3 .w1c 0, .plain 2 2 .w1c 0, .plain 1 1 .w1c 0, .plain 0 0 .w1c 0] } /- INT_STATUS -/,
    { off := 0x40, stride := 4, count := 1, fields := [.limited 2 0 .il 0 (.range 0 6)] } /- CFG -/,
    { off := 0x44, stride := 4, count := 1, fields := [.plain 31 31 .ro 0, .plain 30 30 .ro 0, .plain 29 29 .ro 0, .plain 28 28 .ro 1, .plain 27 26 .ro 0, .plain 25 24 .ro 0, .plain 5 0 .ro 0] } /- STATUS -/,
    { off := 0x48, stride := 4, count := 1, fields := [.plain 31 0 .ro 0] } /- BASE -/,
    { off := 0x50, stride := 4, count := 1, fields := [.count 31 0 0] } /- READS -/,
    { off := 0x54, stride := 4, count := 1, fields := [.count 31 0 0] } /- WRITES -/,
    { off := 0x58, stride := 4, count := 1, fields := [.count 31 0 0] } /- REFUSED_RD -/,
    { off := 0x5c, stride := 4, count := 1, fields := [.count 31 0 0] } /- REFUSED_WR -/,
    { off := 0x60, stride := 4, count := 1, fields := [.plain 31 0 .ro 0] } /- LAST_REFUSED_LO -/,
    { off := 0x64, stride := 4, count := 1, fields := [.plain 31 28 .ro 0, .plain 27 27 .ro 0, .plain 21 16 .ro 0, .plain 9 0 .ro 0] } /- LAST_REFUSED_HI -/,
    { off := 0x68, stride := 4, count := 1, fields := [.count 31 16 0, .count 15 0 0] } /- GPF -/,
    { off := 0x6c, stride := 4, count := 1, fields := [{ hi := 31, lo := 0, cls := .ro, reset := 0, loaded := true }] } /- DIRTY_SHUTDOWNS -/ ]

/-- The registers of page STR. -/
def strRows : List RegRow :=
  [ { off := 0x10, stride := 4, count := 1, fields := [.plain 3 3 .w1c 0, .plain 2 2 .w1c 0, .plain 1 1 .w1c 0, .plain 0 0 .w1c 0] } /- INT_STATUS -/,
    { off := 0x40, stride := 4, count := 1, fields := [.limited 27 16 .st 0x900 (.range 64 2304), .plain 0 0 .rw 1] } /- CTRL -/,
    { off := 0x44, stride := 4, count := 1, fields := [.plain 31 31 .ro 0, .plain 30 30 .ro 0, .plain 29 24 .ro 0, .plain 11 0 .ro 0] } /- STATUS -/,
    { off := 0x50, stride := 4, count := 1, fields := [.count 31 0 0] } /- BYTES_OUT_LO -/,
    { off := 0x54, stride := 4, count := 1, fields := [.count 15 0 0] } /- BYTES_OUT_HI -/,
    { off := 0x60, stride := 4, count := 1, fields := [.plain 31 30 .ro 0, .plain 29 24 .ro 0, .plain 23 16 .ro 0, .plain 15 8 .ro 0] } /- LAST_EVENT -/,
    { off := 0x64, stride := 4, count := 1, fields := [.plain 31 0 .ro 0] } /- LAST_TAG -/ ]

/-- The registers of page PEN. -/
def penRows : List RegRow :=
  [ { off := 0x10, stride := 4, count := 1, fields := [.plain 2 2 .w1c 0, .plain 1 1 .w1c 0, .plain 0 0 .w1c 0] } /- INT_STATUS -/,
    { off := 0x40, stride := 4, count := 1, fields := [.plain 16 0 .ro 0x10000] } /- POOL -/,
    { off := 0x44, stride := 4, count := 1, fields := [.limited 31 16 .st 0x40 (.range 1 65535)] } /- POOL_CFG -/,
    { off := 0x48, stride := 4, count := 1, fields := [.plain 31 28 .ro 0, .plain 27 22 .ro 0, .plain 21 16 .ro 0] } /- LAST_REWIND -/,
    { off := 0x100, stride := 0x20, count := 64, fields := [.plain 31 31 .wo 0, .plain 16 16 .rw 1, .limited 14 0 .rw 0x400 (.range 1 16384)] } /- CTRLp -/,
    { off := 0x104, stride := 0x20, count := 64, fields := [.count 31 0 0] } /- COMMITTEDp -/,
    { off := 0x108, stride := 0x20, count := 64, fields := [.count 31 0 0] } /- ACCEPTEDp -/,
    { off := 0x10c, stride := 0x20, count := 64, fields := [.count 31 0 0] } /- REFUSEDp -/,
    { off := 0x110, stride := 0x20, count := 64, fields := [.count 31 0 0] } /- DONEp -/,
    { off := 0x114, stride := 0x20, count := 64, fields := [.count 31 0 0] } /- FAILEDp -/,
    { off := 0x118, stride := 0x20, count := 64, fields := [.count 31 0 0] } /- REWINDp -/,
    { off := 0x11c, stride := 0x20, count := 64, fields := [.count 31 0 0] } /- MISSEDp -/,
    { off := 0x900, stride := 0x4, count := 64, fields := [.plain 31 16 .ro 0, .plain 14 0 .ro 0] } /- STATUSp -/ ]

/-- The registers of page DCX. -/
def dcxRows : List RegRow :=
  [ { off := 0x10, stride := 4, count := 1, fields := [.plain 3 3 .w1c 0, .plain 2 2 .w1c 0, .plain 1 1 .w1c 0, .plain 0 0 .w1c 0] } /- INT_STATUS -/,
    { off := 0x40, stride := 4, count := 1, fields := [.plain 15 8 .ro 0, .plain 7 0 .ro 0] } /- LANE_STATUS -/,
    { off := 0x50, stride := 0x4, count := 4, fields := [.plain 31 30 .ro 0, .plain 23 16 .ro 0, .plain 10 0 .ro 0] } /- DICTd -/,
    { off := 0x60, stride := 0x4, count := 4, fields := [.plain 31 0 .ro 0] } /- DICT_IDd -/,
    { off := 0x70, stride := 4, count := 1, fields := [.count 31 0 0] } /- FRAMES -/,
    { off := 0x74, stride := 4, count := 1, fields := [.count 31 0 0] } /- FORMAT_ERRS -/,
    { off := 0x78, stride := 4, count := 1, fields := [.count 31 0 0] } /- CHECKSUM_ERRS -/,
    { off := 0x7c, stride := 4, count := 1, fields := [.count 31 0 0] } /- BLOCK_OVERRUNS -/ ]

/-- The registers of page CRY. -/
def cryRows : List RegRow :=
  [ { off := 0x10, stride := 4, count := 1, fields := [.plain 1 1 .w1c 0, .plain 0 0 .w1c 0] } /- INT_STATUS -/,
    { off := 0x40, stride := 4, count := 1, fields := [.count 31 0 0] } /- TAG_FAILS -/,
    { off := 0x44, stride := 4, count := 1, fields := [.count 31 0 0] } /- WINDOW_FAILS -/,
    { off := 0x48, stride := 4, count := 1, fields := [.count 31 0 0] } /- SECTORS_ENC -/,
    { off := 0x4c, stride := 4, count := 1, fields := [.count 31 0 0] } /- SECTORS_DEC -/,
    { off := 0x50, stride := 4, count := 1, fields := [.plain 31 24 .ro 0, .plain 21 16 .ro 0, .plain 15 8 .ro 0, .plain 1 0 .ro 0] } /- LAST_FAIL -/ ]

/-- The registers of page KEY. -/
def keyRows : List RegRow :=
  [ { off := 0x10, stride := 4, count := 1, fields := [.plain 3 3 .w1c 0, .plain 2 2 .w1c 0, .plain 1 1 .w1c 0, .plain 0 0 .w1c 0] } /- INT_STATUS -/,
    { off := 0x40, stride := 0x4, count := 12, fields := [.plain 31 0 .wo 0] } /- WRAPn -/,
    { off := 0x70, stride := 4, count := 1, fields := [.plain 31 30 .wo 0, .plain 29 29 .wo 0, .plain 15 8 .wo 0, .plain 5 0 .wo 0] } /- OP -/,
    { off := 0x74, stride := 4, count := 1, fields := [.plain 31 31 .ro 0, .plain 27 24 .ro 0, .plain 5 0 .ro 0] } /- OP_STATUS -/,
    { off := 0x78, stride := 4, count := 1, fields := [.count 31 0 0] } /- UNWRAP_FAILS -/,
    { off := 0x100, stride := 0x4, count := 64, fields := [.plain 31 30 .ro 0, .plain 29 29 .ro 0, .plain 28 28 .ro 0, .plain 15 0 .ro 0] } /- SLOTn -/ ]

/-- The registers of page RGN. -/
def rgnRows : List RegRow :=
  [ { off := 0x10, stride := 4, count := 1, fields := [.plain 5 5 .w1c 0, .plain 4 4 .w1c 0, .plain 3 3 .w1c 0, .plain 2 2 .w1c 0, .plain 1 1 .w1c 0, .plain 0 0 .w1c 0] } /- INT_STATUS -/,
    { off := 0x40, stride := 4, count := 1, fields := [.plain 7 0 .rw 0] } /- SEL -/,
    { off := 0x44, stride := 4, count := 1, fields := [{ hi := 31, lo := 31, cls := .st, reset := 0, lim := .group, loaded := true }, { hi := 17, lo := 0, cls := .st, reset := 0, lim := .group, loaded := true }] } /- ENTRY0 -/,
    { off := 0x48, stride := 4, count := 1, fields := [{ hi := 17, lo := 0, cls := .st, reset := 0, lim := .group, loaded := true }] } /- ENTRY1 -/,
    { off := 0x4c, stride := 4, count := 1, fields := [.limited 29 24 .st 0 (.group), .limited 21 20 .st 0 (.group), .limited 19 19 .st 0 (.group), .limited 18 18 .st 0 (.group), .limited 17 17 .st 0 (.group), .limited 16 16 .st 0 (.group), .limited 8 0 .st 0 (.group)] } /- ENTRY2 -/,
    { off := 0x50, stride := 4, count := 1, fields := [{ hi := 31, lo := 24, cls := .ro, reset := 0, loaded := true }, { hi := 23, lo := 16, cls := .ro, reset := 0, loaded := true }, { hi := 15, lo := 8, cls := .ro, reset := 0, loaded := true }, { hi := 7, lo := 0, cls := .ro, reset := 0, loaded := true }] } /- GEN -/,
    { off := 0x54, stride := 4, count := 1, fields := [{ hi := 31, lo := 31, cls := .ro, reset := 0, loaded := true }, .plain 30 30 .ro 0, { hi := 29, lo := 29, cls := .ro, reset := 0, loaded := true }, .plain 28 28 .ro 0] } /- GEN_STATUS -/,
    { off := 0x58, stride := 4, count := 1, fields := [.plain 29 0 .ro 0] } /- PASS_POS -/,
    { off := 0x60, stride := 4, count := 1, fields := [.count 31 0 0] } /- STRICT_FAILS -/,
    { off := 0x64, stride := 4, count := 1, fields := [.plain 31 24 .ro 0, .plain 1 0 .ro 0] } /- STRICT_LAST -/,
    { off := 0x68, stride := 4, count := 1, fields := [.plain 31 0 .ro 0] } /- STRICT_LAST_LSN -/,
    { off := 0x6c, stride := 4, count := 1, fields := [.count 31 0 0] } /- GEN_ADVANCES -/ ]

/-- The registers of page ALM. -/
def almRows : List RegRow :=
  [ { off := 0x10, stride := 4, count := 1, fields := [.plain 2 2 .w1c 0, .plain 1 1 .w1c 0, .plain 0 0 .w1c 0] } /- INT_STATUS -/,
    { off := 0x40, stride := 4, count := 1, fields := [{ hi := 31, lo := 31, cls := .ro, reset := 0, sr := true, loaded := true }, .plain 30 30 .ro 0, { hi := 23, lo := 16, cls := .ro, reset := 0, loaded := true }, .plain 7 0 .ro 0] } /- STATUS -/,
    { off := 0x44, stride := 4, count := 1, fields := [.limited 31 24 .il 0x40 (.range 1 255), .limited 23 16 .il 0xe (.range 8 20), .plain 3 0 .il 0xf] } /- CFG -/,
    { off := 0x48, stride := 4, count := 1, fields := [.plain 7 7 .ro 0, .plain 6 0 .il 0x7f] } /- SRC_EN -/,
    { off := 0x4c, stride := 4, count := 1, fields := [{ hi := 7, lo := 0, cls := .ro, reset := 0, sr := true, loaded := true }] } /- CAUSE -/,
    { off := 0x50, stride := 4, count := 1, fields := [{ hi := 31, lo := 0, cls := .ro, reset := 0, sr := true }] } /- ERUPT_BELL -/,
    { off := 0x54, stride := 4, count := 1, fields := [{ hi := 31, lo := 16, cls := .ro, reset := 0, loaded := true }, .count 15 0 0] } /- COUNTS -/,
    { off := 0x58, stride := 4, count := 1, fields := [.plain 15 8 .wo 0, .plain 0 0 .wo 0] } /- FORCE -/,
    { off := 0x60, stride := 4, count := 1, fields := [.plain 31 31 .wo 0, .plain 30 30 .wo 0, .plain 1 0 .ro 0] } /- CLEAR_CTRL -/,
    { off := 0x80, stride := 0x4, count := 8, fields := [.plain 31 0 .ro 0] } /- CHALn -/,
    { off := 0xa0, stride := 0x4, count := 33, fields := [.plain 31 0 .wo 0] } /- RESPn -/ ]

/-- The registers of page ATT. -/
def attRows : List RegRow :=
  [ { off := 0x10, stride := 4, count := 1, fields := [.plain 1 1 .w1c 0, .plain 0 0 .w1c 0] } /- INT_STATUS -/,
    { off := 0x40, stride := 4, count := 1, fields := [.plain 31 30 .ro 0, .plain 29 28 .ro 1, .plain 27 24 .ro 0, .plain 23 20 .ro 0, .plain 16 16 .ro 0] } /- BOOT -/,
    { off := 0x44, stride := 4, count := 1, fields := [{ hi := 31, lo := 0, cls := .ro, reset := 0, loaded := true }] } /- SVN -/,
    { off := 0x48, stride := 4, count := 1, fields := [{ hi := 31, lo := 0, cls := .ro, reset := 0, loaded := true }] } /- ROLLBACK -/,
    { off := 0x50, stride := 0x4, count := 4, fields := [{ hi := 31, lo := 0, cls := .ro, reset := 0, loaded := true }] } /- SERIALn -/,
    { off := 0x60, stride := 4, count := 1, fields := [{ hi := 31, lo := 31, cls := .ro, reset := 0, loaded := true }, { hi := 30, lo := 30, cls := .ro, reset := 0, loaded := true }, { hi := 29, lo := 29, cls := .ro, reset := 0, loaded := true }, { hi := 28, lo := 28, cls := .ro, reset := 0, loaded := true }] } /- FUSES -/,
    { off := 0x64, stride := 4, count := 1, fields := [.plain 31 24 .ro 0x13, .plain 10 8 .ro 0] } /- SPDM -/ ]

/-- The registers of page ZLn. -/
def zlRows : List RegRow :=
  [ { off := 0x10, stride := 4, count := 1, fields := [.plain 9 9 .w1c 0, .plain 8 8 .w1c 0, .plain 7 7 .w1c 0, .plain 6 6 .w1c 0, .plain 5 5 .w1c 0, .plain 4 4 .w1c 0, .plain 3 3 .w1c 0, .plain 2 2 .w1c 0, .plain 1 1 .w1c 0, .plain 0 0 .w1c 0] } /- INT_STATUS -/,
    { off := 0x40, stride := 4, count := 1, fields := [.plain 8 8 .il 1, .limited 5 0 .il 0 (.range 1 63)] } /- CFG -/,
    { off := 0x44, stride := 4, count := 1, fields := [.plain 15 8 .wo 0, .plain 1 1 .wo 0, .plain 0 0 .wo 0] } /- CTRL -/,
    { off := 0x48, stride := 4, count := 1, fields := [.plain 31 28 .ro 0, .plain 27 27 .ro 0, .plain 26 24 .ro 0, .plain 23 20 .ro 0, .plain 19 19 .ro 0, .plain 3 0 .ro 0] } /- STATUS -/,
    { off := 0x4c, stride := 4, count := 1, fields := [.plain 26 0 .ro 0] } /- CAP -/,
    { off := 0x50, stride := 4, count := 1, fields := [.plain 26 0 .ro 0] } /- CONTENT -/,
    { off := 0x54, stride := 4, count := 1, fields := [.plain 26 0 .ro 0] } /- SAVE_SEGS -/,
    { off := 0x58, stride := 4, count := 1, fields := [.plain 31 0 .ro 0] } /- TITLE_LO -/,
    { off := 0x5c, stride := 4, count := 1, fields := [.plain 31 0 .ro 0] } /- TITLE_HI -/,
    { off := 0x60, stride := 4, count := 1, fields := [.count 31 0 0] } /- READS -/,
    { off := 0x64, stride := 4, count := 1, fields := [.count 31 16 0, .count 15 0 0] } /- RETRY -/,
    { off := 0x68, stride := 4, count := 1, fields := [.count 31 16 0, .count 15 6 0, .count 5 0 0] } /- LINK_ERR -/,
    { off := 0x6c, stride := 4, count := 1, fields := [.count 31 22 0, .count 21 11 0, .count 10 0 0] } /- VIOL -/,
    { off := 0x80, stride := 4, count := 1, fields := [.plain 25 0 .rw 0] } /- COPY_SRC -/,
    { off := 0x84, stride := 4, count := 1, fields := [.plain 31 12 .rw 0] } /- COPY_DST_LO -/,
    { off := 0x88, stride := 4, count := 1, fields := [.plain 21 16 .rw 0, .plain 9 0 .rw 0] } /- COPY_DST_HI -/,
    { off := 0x8c, stride := 4, count := 1, fields := [.plain 31 31 .wo 0, .plain 23 16 .wo 0, .plain 15 0 .wo 0] } /- COPY_CTRL -/,
    { off := 0x90, stride := 4, count := 1, fields := [.plain 31 31 .ro 0, .plain 30 28 .ro 0, .plain 27 24 .ro 0, .plain 16 0 .ro 0] } /- COPY_STATUS -/,
    { off := 0xa0, stride := 4, count := 1, fields := [.plain 31 12 .rw 0] } /- SAVE_ADDR_LO -/,
    { off := 0xa4, stride := 4, count := 1, fields := [.plain 31 0 .rw 0] } /- SAVE_ADDR_HI -/,
    { off := 0xa8, stride := 4, count := 1, fields := [.plain 25 0 .rw 0] } /- SAVE_SEG -/,
    { off := 0xac, stride := 4, count := 1, fields := [.plain 15 8 .wo 0, .plain 0 0 .wo 0] } /- SAVE_CTRL -/,
    { off := 0xb0, stride := 4, count := 1, fields := [.plain 31 31 .ro 0, .plain 27 24 .ro 0, .plain 23 16 .ro 0, .plain 15 0 .ro 0] } /- SAVE_STATUS -/ ]

/-- The registers of page PWR. -/
def pwrRows : List RegRow :=
  [ { off := 0x10, stride := 4, count := 1, fields := [.plain 6 6 .w1c 0, .plain 5 5 .w1c 0, .plain 4 4 .w1c 0, .plain 3 3 .w1c 0, .plain 2 2 .w1c 0, .plain 1 1 .w1c 0, .plain 0 0 .w1c 0] } /- INT_STATUS -/,
    { off := 0x40, stride := 4, count := 1, fields := [.plain 31 31 .wo 0, .plain 30 30 .wo 0, .plain 29 29 .wo 0, .plain 15 8 .wo 0] } /- CTRL -/,
    { off := 0x44, stride := 4, count := 1, fields := [{ hi := 31, lo := 31, cls := .ro, reset := 0, sr := true }, .plain 30 30 .ro 0, .plain 27 24 .ro 0, { hi := 23, lo := 20, cls := .ro, reset := 0, sr := true }, { hi := 19, lo := 16, cls := .ro, reset := 0, sr := true }, .count 15 8 0] } /- STATUS -/,
    { off := 0x48, stride := 4, count := 1, fields := [.limited 2 0 .st 0 (.range 0 4)] } /- CAP -/,
    { off := 0x50, stride := 0x4, count := 8, fields := [.limited 31 31 .il 0 (.group), .limited 30 30 .il 0 (.group), .limited 27 24 .il 0 (.group), .limited 15 8 .il 0xa (.group), .limited 7 0 .il 0xa (.group)] } /- EXT_CFGn -/,
    { off := 0x70, stride := 4, count := 1, fields := [.plain 15 8 .ro 0, .plain 7 0 .ro 0] } /- EXT_STATUS -/,
    { off := 0x74, stride := 4, count := 1, fields := [.count 31 0 0] } /- CHATTER -/,
    { off := 0x80, stride := 0x4, count := 5, fields := [.plain 31 0 .ro 0] } /- DOM_ONk -/,
    { off := 0xa0, stride := 4, count := 1, fields := [.count 31 16 0, .plain 15 0 .ro 0] } /- PIN -/ ]

/-- The registers of page HKA. -/
def hkaRows : List RegRow :=
  [ { off := 0x10, stride := 4, count := 1, fields := [.plain 1 1 .w1c 0, .plain 0 0 .w1c 0] } /- INT_STATUS -/,
    { off := 0x40, stride := 4, count := 1, fields := [.count 31 0 0] } /- ROUNDS -/,
    { off := 0x44, stride := 4, count := 1, fields := [.plain 6 0 .rw 0] } /- SEL -/,
    { off := 0x48, stride := 4, count := 1, fields := [.plain 31 31 .ro 0, .plain 27 16 .ro 0, .plain 15 0 .ro 0] } /- DATA -/,
    { off := 0x50, stride := 0x4, count := 4, fields := [.plain 31 0 .ro 0] } /- FAULT_MAPk -/,
    { off := 0x60, stride := 4, count := 1, fields := [.plain 23 16 .ro 0, .plain 15 0 .ro 0] } /- LAST_FAULT -/ ]

/-- The registers of page THM. -/
def thmRows : List RegRow :=
  [ { off := 0x10, stride := 4, count := 1, fields := [.plain 5 5 .w1c 0, .plain 4 4 .w1c 0, .plain 3 3 .w1c 0, .plain 2 2 .w1c 0, .plain 1 1 .w1c 0, .plain 0 0 .w1c 0] } /- INT_STATUS -/,
    { off := 0x40, stride := 4, count := 1, fields := [.limited 31 24 .il 0x73 (.group), .limited 23 16 .il 0x69 (.group), .limited 15 8 .il 0x5f (.group), .limited 7 0 .il 0x14 (.group)] } /- LIMITS -/,
    { off := 0x44, stride := 4, count := 1, fields := [.plain 27 24 .ro 0, .plain 23 16 .ro 0, .plain 15 0 .ro 0] } /- STATUS -/,
    { off := 0x48, stride := 4, count := 1, fields := [.plain 31 0 .ro 0] } /- BROKEN0 -/,
    { off := 0x4c, stride := 4, count := 1, fields := [.plain 27 16 .ro 0, .plain 7 0 .ro 0] } /- BROKEN1 -/,
    { off := 0x50, stride := 4, count := 1, fields := [.plain 31 0 .il 0] } /- MASK0 -/,
    { off := 0x54, stride := 4, count := 1, fields := [.plain 27 16 .il 0, .plain 7 0 .il 0] } /- MASK1 -/,
    { off := 0x80, stride := 0x4, count := 12, fields := [.plain 31 31 .ro 0, .plain 15 0 .ro 0] } /- CTEMPi -/ ]

/-- The registers of page VNT. -/
def vntRows : List RegRow :=
  [ { off := 0x10, stride := 4, count := 1, fields := [.plain 3 3 .w1c 0, .plain 2 2 .w1c 0, .plain 1 1 .w1c 0, .plain 0 0 .w1c 0] } /- INT_STATUS -/,
    { off := 0x40, stride := 4, count := 1, fields := [.plain 31 31 .ro 0, .plain 30 30 .ro 0, .plain 29 29 .ro 0, .plain 15 0 .ro 0] } /- STATUS -/,
    { off := 0x44, stride := 4, count := 1, fields := [.limited 31 16 .st 0x14a (.range 330 1000), .plain 15 0 .ro 0] } /- CAP_EST -/,
    { off := 0x50, stride := 4, count := 1, fields := [.plain 31 31 .ro 0, .plain 30 30 .ro 0, .plain 29 29 .ro 0, .plain 28 28 .ro 0, .plain 11 0 .ro 0] } /- LAST_VENT -/,
    { off := 0x54, stride := 4, count := 1, fields := [.plain 31 0 .ro 0] } /- LAST_VENT_BELL -/,
    { off := 0x58, stride := 4, count := 1, fields := [{ hi := 31, lo := 16, cls := .ro, reset := 0, loaded := true }, { hi := 15, lo := 0, cls := .ro, reset := 0, loaded := true }] } /- VENTS -/ ]

/-- The registers of page DEV. -/
def devRows : List RegRow :=
  [ { off := 0x10, stride := 4, count := 1, fields := [.plain 5 5 .w1c 0, .plain 4 4 .w1c 0, .plain 3 3 .w1c 0, .plain 2 2 .w1c 0, .plain 1 1 .w1c 0, .plain 0 0 .w1c 0] } /- INT_STATUS -/,
    { off := 0x40, stride := 4, count := 1, fields := [.plain 31 28 .ro 0, .plain 27 24 .ro 0, .plain 20 16 .ro 0, .plain 2 2 .ro 0, .plain 1 1 .ro 0, .plain 0 0 .ro 0] } /- STATE -/,
    { off := 0x44, stride := 4, count := 1, fields := [.plain 31 16 .ro 0x4680, .plain 15 12 .ro 0, .plain 11 8 .ro 0, { hi := 7, lo := 0, cls := .ro, reset := 0, loaded := true }] } /- ID -/,
    { off := 0x48, stride := 4, count := 1, fields := [{ hi := 7, lo := 1, cls := .ro, reset := 0, loaded := true }, { hi := 0, lo := 0, cls := .ro, reset := 0, loaded := true }] } /- STRAPS -/,
    { off := 0x4c, stride := 4, count := 1, fields := [.plain 31 30 .ro 0, { hi := 29, lo := 27, cls := .ro, reset := 0, sr := true }, { hi := 23, lo := 0, cls := .ro, reset := 0, sr := true }] } /- START -/,
    { off := 0x50, stride := 4, count := 1, fields := [{ hi := 31, lo := 28, cls := .ro, reset := 0, sr := true }, { hi := 27, lo := 24, cls := .ro, reset := 0, sr := true }, { hi := 15, lo := 0, cls := .ro, reset := 0, sr := true }] } /- BOOT_FAIL -/,
    { off := 0x54, stride := 4, count := 1, fields := [{ hi := 16, lo := 16, cls := .ro, reset := 0, sr := true }, { hi := 15, lo := 0, cls := .ro, reset := 0, sr := true }] } /- HALT_CODE -/,
    { off := 0x88, stride := 0x4, count := 12, fields := [.plain 31 0 .ro 0] } /- STEP_USn -/,
    { off := 0xc0, stride := 4, count := 1, fields := [.plain 31 0 .ro 0] } /- PERST_US -/ ]

/-- The registers of page SRM. -/
def srmRows : List RegRow :=
  [ { off := 0x10, stride := 4, count := 1, fields := [.plain 3 3 .w1c 0, .plain 2 2 .w1c 0, .plain 1 1 .w1c 0, .plain 0 0 .w1c 0] } /- INT_STATUS -/,
    { off := 0x40, stride := 4, count := 1, fields := [.plain 31 31 .wo 0, .plain 30 30 .wo 0, .plain 15 8 .wo 0, .plain 4 0 .wo 0] } /- MARCH_CTRL -/,
    { off := 0x44, stride := 4, count := 1, fields := [.plain 31 31 .ro 0, .plain 30 29 .ro 0, .plain 28 24 .ro 0, .plain 19 0 .ro 0] } /- MARCH_STATUS -/,
    { off := 0x48, stride := 4, count := 1, fields := [.plain 1 1 .st 1, .plain 0 0 .st 1] } /- RET_CTRL -/,
    { off := 0x4c, stride := 4, count := 1, fields := [.plain 23 0 .ro 0] } /- RET_STATUS -/,
    { off := 0x50, stride := 4, count := 1, fields := [.count 31 0 0] } /- ECC_CORR -/,
    { off := 0x54, stride := 4, count := 1, fields := [.count 31 16 0, .count 15 0 0] } /- ECC_UNCORR -/,
    { off := 0x58, stride := 4, count := 1, fields := [.plain 31 31 .ro 0, .plain 28 24 .ro 0, .plain 19 0 .ro 0] } /- LAST_ERR -/ ]

/-- The registers of page PNV. -/
def pnvRows : List RegRow :=
  [ { off := 0x10, stride := 4, count := 1, fields := [.plain 3 3 .w1c 0, .plain 2 2 .w1c 0, .plain 1 1 .w1c 0, .plain 0 0 .w1c 0] } /- INT_STATUS -/,
    { off := 0x40, stride := 4, count := 1, fields := [.plain 31 31 .ro 0, .plain 30 30 .ro 0, .plain 29 28 .ro 0, .plain 10 0 .ro 0] } /- STATUS -/,
    { off := 0x44, stride := 4, count := 1, fields := [.plain 31 0 .ro 0] } /- RECOVERY_SEQ -/,
    { off := 0x48, stride := 4, count := 1, fields := [.count 31 0 0] } /- PROGRAMS -/,
    { off := 0x50, stride := 0x4, count := 5, fields := [{ hi := 19, lo := 0, cls := .ro, reset := 0, loaded := true }] } /- PART_MAXp -/,
    { off := 0x64, stride := 4, count := 1, fields := [.plain 31 16 .ro 0, .plain 10 0 .ro 0] } /- LAST_INVALID -/ ]

/-- The registers of page TLY. -/
def tlyRows : List RegRow :=
  [ { off := 0x10, stride := 4, count := 1, fields := [.plain 3 3 .w1c 0, .plain 2 2 .w1c 0, .plain 1 1 .w1c 0, .plain 0 0 .w1c 0] } /- INT_STATUS -/,
    { off := 0x40, stride := 4, count := 1, fields := [.plain 10 8 .st 4, .limited 6 4 .st 2 (.range 0 4), .limited 2 0 .st 1 (.range 0 3)] } /- CFG -/,
    { off := 0x44, stride := 4, count := 1, fields := [.plain 15 8 .wo 0, .plain 0 0 .wo 0] } /- CTRL -/,
    { off := 0x48, stride := 4, count := 1, fields := [.plain 31 31 .ro 0, .plain 27 16 .ro 0, .plain 11 0 .ro 0] } /- STATUS -/,
    { off := 0x4c, stride := 4, count := 1, fields := [{ hi := 31, lo := 0, cls := .ro, reset := 0, loaded := true }] } /- SEQ -/,
    { off := 0x50, stride := 4, count := 1, fields := [.plain 31 31 .ro 0, .plain 30 30 .ro 0, .plain 16 16 .rw 0, .plain 12 0 .rw 0] } /- READ_SEL -/,
    { off := 0x60, stride := 0x4, count := 8, fields := [.plain 31 0 .ro 0] } /- RECn -/,
    { off := 0x80, stride := 0x4, count := 4, fields := [{ hi := 31, lo := 16, cls := .ro, reset := 0, sr := true, counter := true }, { hi := 15, lo := 0, cls := .ro, reset := 0, sr := true, counter := true }] } /- LOSTk -/,
    { off := 0x90, stride := 0x4, count := 4, fields := [{ hi := 31, lo := 16, cls := .ro, reset := 0, sr := true, counter := true }, { hi := 15, lo := 0, cls := .ro, reset := 0, sr := true, counter := true }] } /- OVERk -/,
    { off := 0xa0, stride := 4, count := 1, fields := [.count 31 0 0] } /- FLUSHES -/ ]

/-- The registers of page ERR. -/
def errRows : List RegRow :=
  [ { off := 0x10, stride := 4, count := 1, fields := [.plain 2 2 .w1c 0, .plain 1 1 .w1c 0, .plain 0 0 .w1c 0] } /- INT_STATUS -/,
    { off := 0x40, stride := 4, count := 1, fields := [.plain 31 31 .ro 0, .plain 30 28 .ro 0, .plain 7 0 .ro 0] } /- STATUS -/,
    { off := 0x44, stride := 4, count := 1, fields := [.plain 31 0 .ro 0] } /- QUEUES -/,
    { off := 0x48, stride := 4, count := 1, fields := [.count 31 0 0] } /- INTAKE_OVF -/,
    { off := 0x4c, stride := 4, count := 1, fields := [.count 31 0 0] } /- REPORTS -/,
    { off := 0x50, stride := 4, count := 1, fields := [.count 31 24 0, .count 23 16 0, .count 15 8 0, .count 7 0 0] } /- QUEUE_OVF0 -/,
    { off := 0x54, stride := 4, count := 1, fields := [.count 31 24 0, .count 23 16 0, .count 15 8 0, .count 7 0 0] } /- QUEUE_OVF1 -/,
    { off := 0x58, stride := 4, count := 1, fields := [.plain 31 29 .ro 0, .plain 23 16 .ro 0, .plain 15 0 .ro 0] } /- LAST -/,
    { off := 0x60, stride := 4, count := 1, fields := [.plain 18 16 .ro 0, .plain 15 8 .ro 0, .plain 7 0 .ro 0] } /- CORES -/,
    { off := 0x64, stride := 4, count := 1, fields := [.limited 3 0 .il 4 (.range 2 4)] } /- WDOG_CFG -/ ]

/-- The registers of page PMC. -/
def pmcRows : List RegRow :=
  [ { off := 0x10, stride := 4, count := 1, fields := [.plain 1 1 .w1c 0, .plain 0 0 .w1c 0] } /- INT_STATUS -/,
    { off := 0x40, stride := 4, count := 1, fields := [.plain 31 31 .st 1, .plain 30 30 .wo 0] } /- CTRL -/,
    { off := 0x44, stride := 4, count := 1, fields := [.limited 15 0 .st 0x2dc (.range 1 65535)] } /- WINDOW -/,
    { off := 0x48, stride := 4, count := 1, fields := [.plain 23 16 .st 0x3f, .plain 11 0 .st 0xfff] } /- FILTER -/,
    { off := 0x4c, stride := 4, count := 1, fields := [.plain 17 0 .st 0] } /- FILTER_LO -/,
    { off := 0x50, stride := 4, count := 1, fields := [.plain 17 0 .st 0x3ffff] } /- FILTER_HI -/,
    { off := 0x54, stride := 4, count := 1, fields := [.plain 31 31 .ro 0, .count 15 0 0] } /- STATUS -/,
    { off := 0x58, stride := 4, count := 1, fields := [.plain 31 0 .ro 0] } /- SAMPLE -/,
    { off := 0x100, stride := 0x4, count := 64, fields := [.plain 31 31 .st 0, .plain 30 30 .st 0, .plain 29 29 .w1c 0, .plain 7 0 .st 0] } /- PCTLk -/,
    { off := 0x200, stride := 0x8, count := 64, fields := [.plain 31 0 .ro 0] } /- PVALk_LO -/,
    { off := 0x204, stride := 0x8, count := 64, fields := [.plain 15 0 .ro 0] } /- PVALk_HI -/,
    { off := 0x400, stride := 0x8, count := 128, fields := [.plain 31 0 .ro 0] } /- FIXk_LO -/,
    { off := 0x404, stride := 0x8, count := 128, fields := [.plain 15 0 .ro 0] } /- FIXk_HI -/ ]

/-- The registers of page DBG. -/
def dbgRows : List RegRow :=
  [ { off := 0x10, stride := 4, count := 1, fields := [.plain 3 3 .w1c 0, .plain 2 2 .w1c 0, .plain 1 1 .w1c 0, .plain 0 0 .w1c 0] } /- INT_STATUS -/,
    { off := 0x40, stride := 4, count := 1, fields := [.plain 31 30 .ro 0, .plain 29 29 .ro 0] } /- STATUS -/,
    { off := 0x44, stride := 4, count := 1, fields := [.plain 15 8 .wo 0, .plain 1 1 .wo 0, .plain 0 0 .wo 0] } /- CTRL -/,
    { off := 0x50, stride := 0x4, count := 8, fields := [.plain 31 0 .ro 0] } /- CHALn -/,
    { off := 0x70, stride := 4, count := 1, fields := [.count 31 16 0, .count 15 0 0] } /- COUNTS -/ ]

end Sys2Proof.Machine
end

