-- ==== Sys2Proof/Machine/Regs.lean ====
section
/-! DEFINITION. The names of the register fields of chapters 01 to 18: one Fld (BAR0 offset, high bit, low bit) per named field,
from the register tables of the chapters (R53 to R855). `inst` is the instance of a page that has several (gang, stack, channel, slot),
`n` the index of a register that is an array. `word` is the BAR0 offset of the whole register. -/

namespace Sys2Proof.Machine

def Reg.BWT.INT_STATUS.word : Nat := 0x1010
def Reg.BWT.INT_STATUS.RD_THROTTLE : Fld := ⟨0x1010, 6, 6⟩
def Reg.BWT.INT_STATUS.WB_HOLD : Fld := ⟨0x1010, 5, 5⟩
def Reg.BWT.INT_STATUS.LAT_APPLIED : Fld := ⟨0x1010, 4, 4⟩
def Reg.BWT.INT_STATUS.LAT_POSTED : Fld := ⟨0x1010, 3, 3⟩
def Reg.BWT.INT_STATUS.BELL_CMP : Fld := ⟨0x1010, 2, 2⟩
def Reg.BWT.INT_STATUS.FS_OVERRUN : Fld := ⟨0x1010, 1, 1⟩
def Reg.BWT.INT_STATUS.FS_EDGE : Fld := ⟨0x1010, 0, 0⟩
def Reg.BWT.BELL_LO.word : Nat := 0x1040
def Reg.BWT.BELL_LO.BELL_LO : Fld := ⟨0x1040, 31, 0⟩
def Reg.BWT.BELL_HI.word : Nat := 0x1044
def Reg.BWT.BELL_HI.BELL_HI : Fld := ⟨0x1044, 23, 0⟩
def Reg.BWT.PHASE.word : Nat := 0x1048
def Reg.BWT.PHASE.PHASE : Fld := ⟨0x1048, 11, 0⟩
def Reg.BWT.CLK_STATUS.word : Nat := 0x104c
def Reg.BWT.CLK_STATUS.STANDBY_EST : Fld := ⟨0x104c, 1, 1⟩
def Reg.BWT.CLK_STATUS.PLL_LOCKED : Fld := ⟨0x104c, 0, 0⟩
def Reg.BWT.RESUME_GAP.word : Nat := 0x1050
def Reg.BWT.RESUME_GAP.GAP : Fld := ⟨0x1050, 31, 0⟩
def Reg.BWT.LAT_PROFILE.word : Nat := 0x1054
def Reg.BWT.LAT_PROFILE.PROFILE : Fld := ⟨0x1054, 3, 0⟩
def Reg.BWT.LAT_STATUS.word : Nat := 0x1058
def Reg.BWT.LAT_STATUS.RD_THROTTLED : Fld := ⟨0x1058, 23, 17⟩
def Reg.BWT.LAT_STATUS.WB_HOLDING : Fld := ⟨0x1058, 16, 16⟩
def Reg.BWT.LAT_STATUS.CAP : Fld := ⟨0x1058, 14, 12⟩
def Reg.BWT.LAT_STATUS.THROT_LEVEL : Fld := ⟨0x1058, 11, 8⟩
def Reg.BWT.LAT_STATUS.PROFILE : Fld := ⟨0x1058, 3, 0⟩
def Reg.BWT.LAT_NEXT.word : Nat := 0x105c
def Reg.BWT.LAT_NEXT.NEXT_VALID : Fld := ⟨0x105c, 31, 31⟩
def Reg.BWT.LAT_NEXT.CAP : Fld := ⟨0x105c, 14, 12⟩
def Reg.BWT.LAT_NEXT.THROT_LEVEL : Fld := ⟨0x105c, 11, 8⟩
def Reg.BWT.LAT_FLOCK.word : Nat := 0x1060
def Reg.BWT.LAT_FLOCK.FLOCK : Fld := ⟨0x1060, 31, 0⟩
def Reg.BWT.WB_BUDGET.word : Nat := 0x1064
def Reg.BWT.WB_BUDGET.WB_DEPTH : Fld := ⟨0x1064, 23, 16⟩
def Reg.BWT.WB_BUDGET.WRITE_BUDGET : Fld := ⟨0x1064, 12, 0⟩
def Reg.BWT.WB_EFFECTIVE.word : Nat := 0x1068
def Reg.BWT.WB_EFFECTIVE.EFFECTIVE : Fld := ⟨0x1068, 12, 0⟩
def Reg.BWT.WB_LEVEL.word : Nat := 0x106c
def Reg.BWT.WB_LEVEL.LEVEL : Fld := ⟨0x106c, 17, 0⟩
def Reg.BWT.WB_HELD_LO.word : Nat := 0x1070
def Reg.BWT.WB_HELD_LO.HELD_LO : Fld := ⟨0x1070, 31, 0⟩
def Reg.BWT.WB_HELD_HI.word : Nat := 0x1074
def Reg.BWT.WB_HELD_HI.HELD_HI : Fld := ⟨0x1074, 15, 0⟩
def Reg.BWT.WB_HELD_BELLS.word : Nat := 0x1078
def Reg.BWT.WB_HELD_BELLS.BELLS : Fld := ⟨0x1078, 31, 0⟩
def Reg.BWT.FS_CTRL.word : Nat := 0x107c
def Reg.BWT.FS_CTRL.FS_FILTER : Fld := ⟨0x107c, 7, 4⟩
def Reg.BWT.FS_CTRL.FS_EDGE : Fld := ⟨0x107c, 1, 1⟩
def Reg.BWT.FS_CTRL.FS_ENABLE : Fld := ⟨0x107c, 0, 0⟩
def Reg.BWT.FS_BELL_LO.word : Nat := 0x1080
def Reg.BWT.FS_BELL_LO.FS_BELL_LO : Fld := ⟨0x1080, 31, 0⟩
def Reg.BWT.FS_BELL_HI.word : Nat := 0x1084
def Reg.BWT.FS_BELL_HI.FS_BELL_HI : Fld := ⟨0x1084, 23, 0⟩
def Reg.BWT.FS_PHASE.word : Nat := 0x1088
def Reg.BWT.FS_PHASE.FS_PHASE : Fld := ⟨0x1088, 11, 0⟩
def Reg.BWT.FS_COUNT.word : Nat := 0x108c
def Reg.BWT.FS_COUNT.FS_COUNT : Fld := ⟨0x108c, 31, 0⟩
def Reg.BWT.CMP_LO.word : Nat := 0x1090
def Reg.BWT.CMP_LO.CMP_LO : Fld := ⟨0x1090, 31, 0⟩
def Reg.BWT.CMP_HI.word : Nat := 0x1094
def Reg.BWT.CMP_HI.CMP_HI : Fld := ⟨0x1094, 23, 0⟩
def Reg.ROT.INT_STATUS.word (inst : Nat) : Nat := 0x2010 + 0x1000 * inst
def Reg.ROT.INT_STATUS.PATTERN_REJECTED (inst : Nat) : Fld := ⟨0x2010 + 0x1000 * inst, 1, 1⟩
def Reg.ROT.INT_STATUS.PATTERN_APPLIED (inst : Nat) : Fld := ⟨0x2010 + 0x1000 * inst, 0, 0⟩
def Reg.ROT.PATTERN.word (inst : Nat) : Nat := 0x2040 + 0x1000 * inst
def Reg.ROT.PATTERN.B_MASK (inst : Nat) : Fld := ⟨0x2040 + 0x1000 * inst, 15, 0⟩
def Reg.ROT.OFFSET.word (inst : Nat) : Nat := 0x2044 + 0x1000 * inst
def Reg.ROT.OFFSET.SLOT_OFFSET (inst : Nat) : Fld := ⟨0x2044 + 0x1000 * inst, 3, 0⟩
def Reg.ROT.EFFECTIVE.word (inst : Nat) : Nat := 0x2048 + 0x1000 * inst
def Reg.ROT.EFFECTIVE.TYPE (inst : Nat) : Fld := ⟨0x2048 + 0x1000 * inst, 31, 0⟩
def Reg.ROT.TURN_CTRL.word (inst : Nat) : Nat := 0x204c + 0x1000 * inst
def Reg.ROT.TURN_CTRL.EXTRA_IDLE (inst : Nat) : Fld := ⟨0x204c + 0x1000 * inst, 7, 0⟩
def Reg.ROT.TURN_STATUS.word (inst : Nat) : Nat := 0x2050 + 0x1000 * inst
def Reg.ROT.TURN_STATUS.ROTATING (inst : Nat) : Fld := ⟨0x2050 + 0x1000 * inst, 31, 31⟩
def Reg.ROT.TURN_STATUS.KIND (inst : Nat) : Fld := ⟨0x2050 + 0x1000 * inst, 30, 29⟩
def Reg.ROT.TURN_STATUS.DIE (inst : Nat) : Fld := ⟨0x2050 + 0x1000 * inst, 20, 16⟩
def Reg.ROT.TURN_STATUS.IDLE_PER_ROT (inst : Nat) : Fld := ⟨0x2050 + 0x1000 * inst, 15, 8⟩
def Reg.ROT.TURN_STATUS.BELLS_LEFT (inst : Nat) : Fld := ⟨0x2050 + 0x1000 * inst, 2, 0⟩
def Reg.ROT.SLC_TURNS.word (inst : Nat) : Nat := 0x2054 + 0x1000 * inst
def Reg.ROT.SLC_TURNS.COUNT (inst : Nat) : Fld := ⟨0x2054 + 0x1000 * inst, 31, 0⟩
def Reg.ROT.TLC_TURNS.word (inst : Nat) : Nat := 0x2058 + 0x1000 * inst
def Reg.ROT.TLC_TURNS.COUNT (inst : Nat) : Fld := ⟨0x2058 + 0x1000 * inst, 31, 0⟩
def Reg.ROT.IDLE_TURNS.word (inst : Nat) : Nat := 0x205c + 0x1000 * inst
def Reg.ROT.IDLE_TURNS.COUNT (inst : Nat) : Fld := ⟨0x205c + 0x1000 * inst, 31, 0⟩
def Reg.ROT.ROTATIONS.word (inst : Nat) : Nat := 0x2060 + 0x1000 * inst
def Reg.ROT.ROTATIONS.COUNT (inst : Nat) : Fld := ⟨0x2060 + 0x1000 * inst, 31, 0⟩
def Reg.MED.INT_STATUS.word (inst : Nat) : Nat := 0x4010 + 0x1000 * inst
def Reg.MED.INT_STATUS.INIT_FAIL (inst : Nat) : Fld := ⟨0x4010 + 0x1000 * inst, 4, 4⟩
def Reg.MED.INT_STATUS.PROG_FAIL (inst : Nat) : Fld := ⟨0x4010 + 0x1000 * inst, 3, 3⟩
def Reg.MED.INT_STATUS.PARITY_ERR (inst : Nat) : Fld := ⟨0x4010 + 0x1000 * inst, 2, 2⟩
def Reg.MED.INT_STATUS.LASTING_FAULT (inst : Nat) : Fld := ⟨0x4010 + 0x1000 * inst, 1, 1⟩
def Reg.MED.INT_STATUS.DIE_FAILED (inst : Nat) : Fld := ⟨0x4010 + 0x1000 * inst, 0, 0⟩
def Reg.MED.FAILED_MAP.word (inst : Nat) : Nat := 0x4040 + 0x1000 * inst
def Reg.MED.FAILED_MAP.FAILED (inst : Nat) : Fld := ⟨0x4040 + 0x1000 * inst, 7, 0⟩
def Reg.MED.DIE_CTRL.word (inst : Nat) : Nat := 0x4044 + 0x1000 * inst
def Reg.MED.DIE_CTRL.GUARD (inst : Nat) : Fld := ⟨0x4044 + 0x1000 * inst, 15, 8⟩
def Reg.MED.DIE_CTRL.FORCE_FAIL (inst : Nat) : Fld := ⟨0x4044 + 0x1000 * inst, 7, 0⟩
def Reg.MED.DIE_STATUS.word (inst n : Nat) : Nat := 0x4060 + 0x1000 * inst + 0x4 * n
def Reg.MED.DIE_STATUS.PRESENT (inst n : Nat) : Fld := ⟨0x4060 + 0x1000 * inst + 0x4 * n, 31, 31⟩
def Reg.MED.DIE_STATUS.STATE (inst n : Nat) : Fld := ⟨0x4060 + 0x1000 * inst + 0x4 * n, 30, 28⟩
def Reg.MED.DIE_STATUS.FAIL_CAUSE (inst n : Nat) : Fld := ⟨0x4060 + 0x1000 * inst + 0x4 * n, 27, 25⟩
def Reg.MED.DIE_STATUS.ARRAY_ON (inst n : Nat) : Fld := ⟨0x4060 + 0x1000 * inst + 0x4 * n, 24, 24⟩
def Reg.MED.DIE_STATUS.IF_ON (inst n : Nat) : Fld := ⟨0x4060 + 0x1000 * inst + 0x4 * n, 23, 23⟩
def Reg.MED.DIE_STATUS.PROGRAMMING (inst n : Nat) : Fld := ⟨0x4060 + 0x1000 * inst + 0x4 * n, 22, 22⟩
def Reg.MED.DIE_STATUS.TEMP (inst n : Nat) : Fld := ⟨0x4060 + 0x1000 * inst + 0x4 * n, 7, 0⟩
def Reg.MED.DIE_FAULTS.word (inst n : Nat) : Nat := 0x4080 + 0x1000 * inst + 0x4 * n
def Reg.MED.DIE_FAULTS.FLOCK_LASTING (inst n : Nat) : Fld := ⟨0x4080 + 0x1000 * inst + 0x4 * n, 27, 24⟩
def Reg.MED.DIE_FAULTS.LASTING_TOTAL (inst n : Nat) : Fld := ⟨0x4080 + 0x1000 * inst + 0x4 * n, 23, 0⟩
def Reg.MED.DIE_CORR.word (inst n : Nat) : Nat := 0x40a0 + 0x1000 * inst + 0x4 * n
def Reg.MED.DIE_CORR.CORRECTED (inst n : Nat) : Fld := ⟨0x40a0 + 0x1000 * inst + 0x4 * n, 31, 0⟩
def Reg.MED.DIE_ERR.word (inst n : Nat) : Nat := 0x40c0 + 0x1000 * inst + 0x4 * n
def Reg.MED.DIE_ERR.PROG_FAIL (inst n : Nat) : Fld := ⟨0x40c0 + 0x1000 * inst + 0x4 * n, 31, 16⟩
def Reg.MED.DIE_ERR.IF_PARITY (inst n : Nat) : Fld := ⟨0x40c0 + 0x1000 * inst + 0x4 * n, 15, 0⟩
def Reg.MED.DIE_REPAIR.word (inst n : Nat) : Nat := 0x40e0 + 0x1000 * inst + 0x4 * n
def Reg.MED.DIE_REPAIR.FUSE_OK (inst n : Nat) : Fld := ⟨0x40e0 + 0x1000 * inst + 0x4 * n, 31, 31⟩
def Reg.MED.DIE_REPAIR.ROWS (inst n : Nat) : Fld := ⟨0x40e0 + 0x1000 * inst + 0x4 * n, 30, 16⟩
def Reg.MED.DIE_REPAIR.COLS (inst n : Nat) : Fld := ⟨0x40e0 + 0x1000 * inst + 0x4 * n, 12, 0⟩
def Reg.SEC.INT_STATUS.word : Nat := 0x9010
def Reg.SEC.INT_STATUS.GANG_OFFLINE : Fld := ⟨0x9010, 5, 5⟩
def Reg.SEC.INT_STATUS.FLAG_MISMATCH : Fld := ⟨0x9010, 4, 4⟩
def Reg.SEC.INT_STATUS.UNCHECKED : Fld := ⟨0x9010, 3, 3⟩
def Reg.SEC.INT_STATUS.REREAD : Fld := ⟨0x9010, 2, 2⟩
def Reg.SEC.INT_STATUS.LASTING : Fld := ⟨0x9010, 1, 1⟩
def Reg.SEC.INT_STATUS.TRANSIENT : Fld := ⟨0x9010, 0, 0⟩
def Reg.SEC.GANG_STATUS.word (n : Nat) : Nat := 0x9040 + 0x4 * n
def Reg.SEC.GANG_STATUS.MARGIN (n : Nat) : Fld := ⟨0x9040 + 0x4 * n, 31, 30⟩
def Reg.SEC.GANG_STATUS.PROGRAMMING (n : Nat) : Fld := ⟨0x9040 + 0x4 * n, 29, 29⟩
def Reg.SEC.GANG_STATUS.PROG_DIE (n : Nat) : Fld := ⟨0x9040 + 0x4 * n, 28, 24⟩
def Reg.SEC.GANG_STATUS.FAILED (n : Nat) : Fld := ⟨0x9040 + 0x4 * n, 19, 0⟩
def Reg.SEC.DECODES.word (n : Nat) : Nat := 0x9060 + 0x20 * n
def Reg.SEC.DECODES.DECODES (n : Nat) : Fld := ⟨0x9060 + 0x20 * n, 31, 0⟩
def Reg.SEC.SYM_CORR.word (n : Nat) : Nat := 0x9064 + 0x20 * n
def Reg.SEC.SYM_CORR.SYM_CORR (n : Nat) : Fld := ⟨0x9064 + 0x20 * n, 31, 0⟩
def Reg.SEC.ERASED.word (n : Nat) : Nat := 0x9068 + 0x20 * n
def Reg.SEC.ERASED.ERASED (n : Nat) : Fld := ⟨0x9068 + 0x20 * n, 31, 0⟩
def Reg.SEC.FIRST_FAIL.word (n : Nat) : Nat := 0x906c + 0x20 * n
def Reg.SEC.FIRST_FAIL.FIRST_FAIL (n : Nat) : Fld := ⟨0x906c + 0x20 * n, 31, 0⟩
def Reg.SEC.TRANSIENT.word (n : Nat) : Nat := 0x9070 + 0x20 * n
def Reg.SEC.TRANSIENT.TRANSIENT (n : Nat) : Fld := ⟨0x9070 + 0x20 * n, 31, 0⟩
def Reg.SEC.LASTING.word (n : Nat) : Nat := 0x9074 + 0x20 * n
def Reg.SEC.LASTING.LASTING (n : Nat) : Fld := ⟨0x9074 + 0x20 * n, 31, 0⟩
def Reg.SEC.REREAD.word (n : Nat) : Nat := 0x9078 + 0x20 * n
def Reg.SEC.REREAD.REREAD (n : Nat) : Fld := ⟨0x9078 + 0x20 * n, 31, 0⟩
def Reg.SEC.UNCHECKED.word (n : Nat) : Nat := 0x907c + 0x20 * n
def Reg.SEC.UNCHECKED.UNCHECKED (n : Nat) : Fld := ⟨0x907c + 0x20 * n, 31, 0⟩
def Reg.SEC.LAST_FAIL_PSA.word : Nat := 0x90a0
def Reg.SEC.LAST_FAIL_PSA.PSA : Fld := ⟨0x90a0, 29, 0⟩
def Reg.SEC.LAST_FAIL_INFO.word : Nat := 0x90a4
def Reg.SEC.LAST_FAIL_INFO.CAUSE : Fld := ⟨0x90a4, 31, 28⟩
def Reg.SEC.LAST_FAIL_INFO.SECTOR : Fld := ⟨0x90a4, 27, 24⟩
def Reg.SEC.LAST_FAIL_INFO.ERASURES : Fld := ⟨0x90a4, 19, 0⟩
def Reg.SHP.INT_STATUS.word : Nat := 0xa010
def Reg.SHP.INT_STATUS.BEHIND : Fld := ⟨0xa010, 3, 3⟩
def Reg.SHP.INT_STATUS.LASTING_FOUND : Fld := ⟨0xa010, 2, 2⟩
def Reg.SHP.INT_STATUS.REWRITE_QUEUED : Fld := ⟨0xa010, 1, 1⟩
def Reg.SHP.INT_STATUS.PASS_DONE : Fld := ⟨0xa010, 0, 0⟩
def Reg.SHP.CTRL.word : Nat := 0xa040
def Reg.SHP.CTRL.REWRITE_THRESH : Fld := ⟨0xa040, 23, 16⟩
def Reg.SHP.CTRL.PASS_HOURS : Fld := ⟨0xa040, 15, 8⟩
def Reg.SHP.CTRL.SHP_ENABLE : Fld := ⟨0xa040, 0, 0⟩
def Reg.SHP.STATUS.word : Nat := 0xa044
def Reg.SHP.STATUS.IDLE_FEED : Fld := ⟨0xa044, 3, 3⟩
def Reg.SHP.STATUS.THERMAL_STOP : Fld := ⟨0xa044, 2, 2⟩
def Reg.SHP.STATUS.ACTIVE1 : Fld := ⟨0xa044, 1, 1⟩
def Reg.SHP.STATUS.ACTIVE0 : Fld := ⟨0xa044, 0, 0⟩
def Reg.SHP.POS.word (n : Nat) : Nat := 0xa050 + 0x4 * n
def Reg.SHP.POS.NEXT_SEG (n : Nat) : Fld := ⟨0xa050 + 0x4 * n, 28, 0⟩
def Reg.SHP.QUOTA.word (n : Nat) : Nat := 0xa058 + 0x4 * n
def Reg.SHP.QUOTA.QUOTA (n : Nat) : Fld := ⟨0xa058 + 0x4 * n, 23, 0⟩
def Reg.SHP.PASSES.word (n : Nat) : Nat := 0xa060 + 0x4 * n
def Reg.SHP.PASSES.PASSES (n : Nat) : Fld := ⟨0xa060 + 0x4 * n, 31, 0⟩
def Reg.SHP.SCANNED.word (n : Nat) : Nat := 0xa068 + 0x4 * n
def Reg.SHP.SCANNED.SCANNED (n : Nat) : Fld := ⟨0xa068 + 0x4 * n, 31, 0⟩
def Reg.SHP.CORR.word (n : Nat) : Nat := 0xa070 + 0x4 * n
def Reg.SHP.CORR.CORR (n : Nat) : Fld := ⟨0xa070 + 0x4 * n, 31, 0⟩
def Reg.SHP.REWRITES.word (n : Nat) : Nat := 0xa078 + 0x4 * n
def Reg.SHP.REWRITES.REWRITES (n : Nat) : Fld := ⟨0xa078 + 0x4 * n, 31, 0⟩
def Reg.SHP.CATCHUP.word (n : Nat) : Nat := 0xa080 + 0x4 * n
def Reg.SHP.CATCHUP.CATCHUP (n : Nat) : Fld := ⟨0xa080 + 0x4 * n, 31, 0⟩
def Reg.XLT.INT_STATUS.word : Nat := 0xb010
def Reg.XLT.INT_STATUS.WRITE_REFUSE : Fld := ⟨0xb010, 6, 6⟩
def Reg.XLT.INT_STATUS.JOURNAL_HIGH : Fld := ⟨0xb010, 5, 5⟩
def Reg.XLT.INT_STATUS.SEG_POISONED : Fld := ⟨0xb010, 4, 4⟩
def Reg.XLT.INT_STATUS.TRIM_REFUSED : Fld := ⟨0xb010, 3, 3⟩
def Reg.XLT.INT_STATUS.TRIM_DONE : Fld := ⟨0xb010, 2, 2⟩
def Reg.XLT.INT_STATUS.GROUP_FAILED : Fld := ⟨0xb010, 1, 1⟩
def Reg.XLT.INT_STATUS.GROUP_DONE : Fld := ⟨0xb010, 0, 0⟩
def Reg.XLT.STATUS.word : Nat := 0xb040
def Reg.XLT.STATUS.TRIM_BUSY : Fld := ⟨0xb040, 2, 2⟩
def Reg.XLT.STATUS.WRITE_REFUSE : Fld := ⟨0xb040, 1, 1⟩
def Reg.XLT.STATUS.WRITE_THROUGH : Fld := ⟨0xb040, 0, 0⟩
def Reg.XLT.USER_SEGS.word : Nat := 0xb044
def Reg.XLT.USER_SEGS.USER_SEGS : Fld := ⟨0xb044, 31, 0⟩
def Reg.XLT.MAPPED.word : Nat := 0xb048
def Reg.XLT.MAPPED.MAPPED : Fld := ⟨0xb048, 31, 0⟩
def Reg.XLT.CALDERA_SEGS.word : Nat := 0xb04c
def Reg.XLT.CALDERA_SEGS.CALDERA_SEGS : Fld := ⟨0xb04c, 31, 0⟩
def Reg.XLT.TLC_SEGS.word : Nat := 0xb050
def Reg.XLT.TLC_SEGS.TLC_SEGS : Fld := ⟨0xb050, 31, 0⟩
def Reg.XLT.POISONED_SEGS.word : Nat := 0xb054
def Reg.XLT.POISONED_SEGS.POISONED_SEGS : Fld := ⟨0xb054, 31, 0⟩
def Reg.XLT.QUERY.word : Nat := 0xb058
def Reg.XLT.QUERY.SEGMENT : Fld := ⟨0xb058, 29, 0⟩
def Reg.XLT.QUERY_RESULT.word : Nat := 0xb05c
def Reg.XLT.QUERY_RESULT.DONE : Fld := ⟨0xb05c, 31, 31⟩
def Reg.XLT.QUERY_RESULT.RANGE_ERR : Fld := ⟨0xb05c, 30, 30⟩
def Reg.XLT.QUERY_RESULT.STATE : Fld := ⟨0xb05c, 29, 28⟩
def Reg.XLT.QUERY_RESULT.STAGED : Fld := ⟨0xb05c, 27, 27⟩
def Reg.XLT.QUERY_RESULT.PENDING : Fld := ⟨0xb05c, 26, 26⟩
def Reg.XLT.QUERY_RESULT.GANG : Fld := ⟨0xb05c, 25, 25⟩
def Reg.XLT.TRIM_START.word : Nat := 0xb060
def Reg.XLT.TRIM_START.FIRST : Fld := ⟨0xb060, 29, 0⟩
def Reg.XLT.TRIM_COUNT.word : Nat := 0xb064
def Reg.XLT.TRIM_COUNT.COUNT : Fld := ⟨0xb064, 30, 0⟩
def Reg.XLT.TRIM_CTRL.word : Nat := 0xb068
def Reg.XLT.TRIM_CTRL.GUARD : Fld := ⟨0xb068, 15, 8⟩
def Reg.XLT.TRIM_CTRL.GO : Fld := ⟨0xb068, 0, 0⟩
def Reg.XLT.TRIM_PROGRESS.word : Nat := 0xb06c
def Reg.XLT.TRIM_PROGRESS.DONE : Fld := ⟨0xb06c, 30, 0⟩
def Reg.XLT.GROUP_CTRL.word : Nat := 0xb070
def Reg.XLT.GROUP_CTRL.OP : Fld := ⟨0xb070, 31, 30⟩
def Reg.XLT.GROUP_CTRL.REGION : Fld := ⟨0xb070, 7, 0⟩
def Reg.XLT.GROUP_CFG.word : Nat := 0xb074
def Reg.XLT.GROUP_CFG.GROUP_LIMIT : Fld := ⟨0xb074, 16, 0⟩
def Reg.XLT.GROUP_STATUS.word (n : Nat) : Nat := 0xb080 + 0x4 * n
def Reg.XLT.GROUP_STATUS.STATE (n : Nat) : Fld := ⟨0xb080 + 0x4 * n, 31, 29⟩
def Reg.XLT.GROUP_STATUS.PENDING (n : Nat) : Fld := ⟨0xb080 + 0x4 * n, 24, 8⟩
def Reg.XLT.GROUP_STATUS.REGION (n : Nat) : Fld := ⟨0xb080 + 0x4 * n, 7, 0⟩
def Reg.XLT.JOURNAL_TAIL.word : Nat := 0xb0c0
def Reg.XLT.JOURNAL_TAIL.BLOCKS : Fld := ⟨0xb0c0, 8, 0⟩
def Reg.XLT.JOURNAL_AREA.word : Nat := 0xb0c4
def Reg.XLT.JOURNAL_AREA.BLOCKS : Fld := ⟨0xb0c4, 16, 0⟩
def Reg.XLT.SWEEPS.word : Nat := 0xb0c8
def Reg.XLT.SWEEPS.SWEEPS : Fld := ⟨0xb0c8, 31, 0⟩
def Reg.XLT.REFUSED_WRITES.word : Nat := 0xb0cc
def Reg.XLT.REFUSED_WRITES.REFUSED : Fld := ⟨0xb0cc, 31, 0⟩
def Reg.DRV.INT_STATUS.word : Nat := 0xc010
def Reg.DRV.INT_STATUS.EVAC_DONE : Fld := ⟨0xc010, 7, 7⟩
def Reg.DRV.INT_STATUS.BAND_RETIRED : Fld := ⟨0xc010, 6, 6⟩
def Reg.DRV.INT_STATUS.VERIFY_FAIL : Fld := ⟨0xc010, 5, 5⟩
def Reg.DRV.INT_STATUS.REBUILD_FAIL : Fld := ⟨0xc010, 4, 4⟩
def Reg.DRV.INT_STATUS.REBUILD : Fld := ⟨0xc010, 3, 3⟩
def Reg.DRV.INT_STATUS.SPREAD_HIGH : Fld := ⟨0xc010, 2, 2⟩
def Reg.DRV.INT_STATUS.REFRESH_QUEUED : Fld := ⟨0xc010, 1, 1⟩
def Reg.DRV.INT_STATUS.FOLD_DONE : Fld := ⟨0xc010, 0, 0⟩
def Reg.DRV.CTRL.word : Nat := 0xc040
def Reg.DRV.CTRL.VERIFY_THRESH : Fld := ⟨0xc040, 31, 24⟩
def Reg.DRV.CTRL.COMPACT_LIVE : Fld := ⟨0xc040, 23, 16⟩
def Reg.DRV.CTRL.FREE_LOW : Fld := ⟨0xc040, 15, 0⟩
def Reg.DRV.SPREAD_LIMIT.word : Nat := 0xc044
def Reg.DRV.SPREAD_LIMIT.SPREAD_LIMIT : Fld := ⟨0xc044, 31, 0⟩
def Reg.DRV.WEAR_MIN.word (n : Nat) : Nat := 0xc050 + 0x10 * n
def Reg.DRV.WEAR_MIN.WEAR_MIN (n : Nat) : Fld := ⟨0xc050 + 0x10 * n, 31, 0⟩
def Reg.DRV.WEAR_MAX.word (n : Nat) : Nat := 0xc054 + 0x10 * n
def Reg.DRV.WEAR_MAX.WEAR_MAX (n : Nat) : Fld := ⟨0xc054 + 0x10 * n, 31, 0⟩
def Reg.DRV.WEAR_AVG.word (n : Nat) : Nat := 0xc058 + 0x10 * n
def Reg.DRV.WEAR_AVG.WEAR_AVG (n : Nat) : Fld := ⟨0xc058 + 0x10 * n, 31, 0⟩
def Reg.DRV.LIFE.word (n : Nat) : Nat := 0xc05c + 0x10 * n
def Reg.DRV.LIFE.LIFE_USED (n : Nat) : Fld := ⟨0xc05c + 0x10 * n, 7, 0⟩
def Reg.DRV.FOLDS.word (n : Nat) : Nat := 0xc070 + 0x4 * n
def Reg.DRV.FOLDS.FOLDS (n : Nat) : Fld := ⟨0xc070 + 0x4 * n, 31, 0⟩
def Reg.DRV.STRIKES.word (n : Nat) : Nat := 0xc078 + 0x4 * n
def Reg.DRV.STRIKES.STRIKES (n : Nat) : Fld := ⟨0xc078 + 0x4 * n, 31, 0⟩
def Reg.DRV.RETIRED.word (n : Nat) : Nat := 0xc080 + 0x4 * n
def Reg.DRV.RETIRED.RETIRED (n : Nat) : Fld := ⟨0xc080 + 0x4 * n, 15, 0⟩
def Reg.DRV.REBUILDS.word (n : Nat) : Nat := 0xc088 + 0x4 * n
def Reg.DRV.REBUILDS.REBUILDS (n : Nat) : Fld := ⟨0xc088 + 0x4 * n, 31, 0⟩
def Reg.DRV.REFRESHES.word (n : Nat) : Nat := 0xc090 + 0x4 * n
def Reg.DRV.REFRESHES.REFRESHES (n : Nat) : Fld := ⟨0xc090 + 0x4 * n, 31, 0⟩
def Reg.DRV.COMPACTIONS.word (n : Nat) : Nat := 0xc098 + 0x4 * n
def Reg.DRV.COMPACTIONS.COMPACTIONS (n : Nat) : Fld := ⟨0xc098 + 0x4 * n, 31, 0⟩
def Reg.DRV.COLD_MOVES.word (n : Nat) : Nat := 0xc0a0 + 0x4 * n
def Reg.DRV.COLD_MOVES.COLD_MOVES (n : Nat) : Fld := ⟨0xc0a0 + 0x4 * n, 31, 0⟩
def Reg.DRV.EVAC.word (n : Nat) : Nat := 0xc0a8 + 0x4 * n
def Reg.DRV.EVAC.EVACUATING (n : Nat) : Fld := ⟨0xc0a8 + 0x4 * n, 31, 31⟩
def Reg.DRV.EVAC.LEFT (n : Nat) : Fld := ⟨0xc0a8 + 0x4 * n, 29, 0⟩
def Reg.DRV.HOST_SEGS.word : Nat := 0xc0b0
def Reg.DRV.HOST_SEGS.HOST_SEGS : Fld := ⟨0xc0b0, 31, 0⟩
def Reg.DRV.PROG_SEGS.word : Nat := 0xc0b4
def Reg.DRV.PROG_SEGS.PROG_SEGS : Fld := ⟨0xc0b4, 31, 0⟩
def Reg.CAL.INT_STATUS.word : Nat := 0xd010
def Reg.CAL.INT_STATUS.AT_TARGET : Fld := ⟨0xd010, 2, 2⟩
def Reg.CAL.INT_STATUS.TARGET_CHANGED : Fld := ⟨0xd010, 1, 1⟩
def Reg.CAL.INT_STATUS.PADDOCK_CLOSED : Fld := ⟨0xd010, 0, 0⟩
def Reg.CAL.CTRL.word : Nat := 0xd040
def Reg.CAL.CTRL.MAX_GIB : Fld := ⟨0xd040, 24, 16⟩
def Reg.CAL.CTRL.FOLD_HIGH : Fld := ⟨0xd040, 15, 8⟩
def Reg.CAL.STAGE_AGE.word : Nat := 0xd044
def Reg.CAL.STAGE_AGE.STAGE_AGE : Fld := ⟨0xd044, 15, 0⟩
def Reg.CAL.TARGET.word : Nat := 0xd048
def Reg.CAL.TARGET.TARGET : Fld := ⟨0xd048, 15, 0⟩
def Reg.CAL.TARGET_OF.word (n : Nat) : Nat := 0xd050 + 0x4 * n
def Reg.CAL.TARGET_OF.TARGET_G (n : Nat) : Fld := ⟨0xd050 + 0x4 * n, 15, 0⟩
def Reg.CAL.USED.word (n : Nat) : Nat := 0xd058 + 0x4 * n
def Reg.CAL.USED.USED (n : Nat) : Fld := ⟨0xd058 + 0x4 * n, 15, 0⟩
def Reg.CAL.LIVE.word (n : Nat) : Nat := 0xd060 + 0x4 * n
def Reg.CAL.LIVE.LIVE (n : Nat) : Fld := ⟨0xd060 + 0x4 * n, 31, 0⟩
def Reg.CAL.OPEN.word (n : Nat) : Nat := 0xd068 + 0x4 * n
def Reg.CAL.OPEN.VALID (n : Nat) : Fld := ⟨0xd068 + 0x4 * n, 31, 31⟩
def Reg.CAL.OPEN.ROW_BATCH (n : Nat) : Fld := ⟨0xd068 + 0x4 * n, 30, 24⟩
def Reg.CAL.OPEN.PADDOCK (n : Nat) : Fld := ⟨0xd068 + 0x4 * n, 16, 0⟩
def Reg.CAL.PARITY.word : Nat := 0xd070
def Reg.CAL.PARITY.SLOT_BUSY : Fld := ⟨0xd070, 3, 0⟩
def Reg.CAL.STAGING.word : Nat := 0xd074
def Reg.CAL.STAGING.LINES : Fld := ⟨0xd074, 17, 0⟩
def Reg.CAL.FREE_BANDS.word (n : Nat) : Nat := 0xd078 + 0x4 * n
def Reg.CAL.FREE_BANDS.FREE (n : Nat) : Fld := ⟨0xd078 + 0x4 * n, 15, 0⟩
def Reg.DRF.INT_STATUS.word : Nat := 0xe010
def Reg.DRF.INT_STATUS.PROBE_DONE : Fld := ⟨0xe010, 4, 4⟩
def Reg.DRF.INT_STATUS.CLASS_CHANGE : Fld := ⟨0xe010, 3, 3⟩
def Reg.DRF.INT_STATUS.ROLLBACK : Fld := ⟨0xe010, 2, 2⟩
def Reg.DRF.INT_STATUS.CLAMPED : Fld := ⟨0xe010, 1, 1⟩
def Reg.DRF.INT_STATUS.SWITCHED : Fld := ⟨0xe010, 0, 0⟩
def Reg.DRF.CTRL.word : Nat := 0xe040
def Reg.DRF.CTRL.ROLLBACK_THRESH : Fld := ⟨0xe040, 31, 24⟩
def Reg.DRF.CTRL.STEP_THRESH : Fld := ⟨0xe040, 23, 16⟩
def Reg.DRF.CTRL.IDLE_OBS : Fld := ⟨0xe040, 15, 8⟩
def Reg.DRF.CTRL.TRACK_ENABLE : Fld := ⟨0xe040, 0, 0⟩
def Reg.DRF.CLASS_CFG.word : Nat := 0xe044
def Reg.DRF.CLASS_CFG.HYST : Fld := ⟨0xe044, 31, 24⟩
def Reg.DRF.CLASS_CFG.CLASS3_T : Fld := ⟨0xe044, 23, 16⟩
def Reg.DRF.CLASS_CFG.CLASS2_T : Fld := ⟨0xe044, 15, 8⟩
def Reg.DRF.CLASS_CFG.CLASS1_T : Fld := ⟨0xe044, 7, 0⟩
def Reg.DRF.REFRESH_CFG.word : Nat := 0xe048
def Reg.DRF.REFRESH_CFG.PRED_MIN_OBS : Fld := ⟨0xe048, 31, 16⟩
def Reg.DRF.REFRESH_CFG.REFRESH_SHIFT : Fld := ⟨0xe048, 12, 8⟩
def Reg.DRF.REFRESH_CFG.DEFAULT_BIN : Fld := ⟨0xe048, 3, 0⟩
def Reg.DRF.EPOCH.word : Nat := 0xe050
def Reg.DRF.EPOCH.EPOCH : Fld := ⟨0xe050, 31, 0⟩
def Reg.DRF.EPOCH_ADVANCE.word : Nat := 0xe054
def Reg.DRF.EPOCH_ADVANCE.ADVANCE : Fld := ⟨0xe054, 31, 0⟩
def Reg.DRF.PROBE.word : Nat := 0xe058
def Reg.DRF.PROBE.DONE : Fld := ⟨0xe058, 31, 31⟩
def Reg.DRF.PROBE.GAP_UNKNOWN : Fld := ⟨0xe058, 30, 30⟩
def Reg.DRF.PROBE.BIN1 : Fld := ⟨0xe058, 7, 4⟩
def Reg.DRF.PROBE.BIN0 : Fld := ⟨0xe058, 3, 0⟩
def Reg.DRF.PROBE_GAP.word : Nat := 0xe05c
def Reg.DRF.PROBE_GAP.GAP : Fld := ⟨0xe05c, 31, 0⟩
def Reg.DRF.STATUS.word : Nat := 0xe060
def Reg.DRF.STATUS.WINDOW1 : Fld := ⟨0xe060, 3, 3⟩
def Reg.DRF.STATUS.WINDOW0 : Fld := ⟨0xe060, 2, 2⟩
def Reg.DRF.STATUS.BANK1 : Fld := ⟨0xe060, 1, 1⟩
def Reg.DRF.STATUS.BANK0 : Fld := ⟨0xe060, 0, 0⟩
def Reg.DRF.DIE_CLASS.word (n : Nat) : Nat := 0xe070 + 0x4 * n
def Reg.DRF.DIE_CLASS.CLASS (n : Nat) : Fld := ⟨0xe070 + 0x4 * n, 31, 0⟩
def Reg.DRF.SWITCHES.word : Nat := 0xe080
def Reg.DRF.SWITCHES.SWITCHES : Fld := ⟨0xe080, 31, 0⟩
def Reg.DRF.STEPS.word : Nat := 0xe084
def Reg.DRF.STEPS.UP : Fld := ⟨0xe084, 31, 16⟩
def Reg.DRF.STEPS.DOWN : Fld := ⟨0xe084, 15, 0⟩
def Reg.DRF.ADJUST.word : Nat := 0xe088
def Reg.DRF.ADJUST.ROLLBACKS : Fld := ⟨0xe088, 31, 16⟩
def Reg.DRF.ADJUST.CLAMPED : Fld := ⟨0xe088, 15, 0⟩
def Reg.DRF.OLD_REF.word : Nat := 0xe08c
def Reg.DRF.OLD_REF.RETRIES : Fld := ⟨0xe08c, 31, 16⟩
def Reg.DRF.OLD_REF.SUCCESSES : Fld := ⟨0xe08c, 15, 0⟩
def Reg.DRF.OBS_LIVE.word : Nat := 0xe090
def Reg.DRF.OBS_LIVE.DECODES : Fld := ⟨0xe090, 31, 0⟩
def Reg.DRF.OBS_SHEP.word : Nat := 0xe094
def Reg.DRF.OBS_SHEP.DECODES : Fld := ⟨0xe094, 31, 0⟩
def Reg.DRF.DISCARD.word : Nat := 0xe098
def Reg.DRF.DISCARD.STALE : Fld := ⟨0xe098, 31, 16⟩
def Reg.DRF.DISCARD.UNATTRIBUTED : Fld := ⟨0xe098, 15, 0⟩
def Reg.DRF.INSPECT_SEL.word : Nat := 0xe0c0
def Reg.DRF.INSPECT_SEL.READY : Fld := ⟨0xe0c0, 31, 31⟩
def Reg.DRF.INSPECT_SEL.DIE : Fld := ⟨0xe0c0, 29, 24⟩
def Reg.DRF.INSPECT_SEL.SET : Fld := ⟨0xe0c0, 21, 16⟩
def Reg.DRF.INSPECT_SEL.BOUNDARY : Fld := ⟨0xe0c0, 14, 12⟩
def Reg.DRF.INSPECT_SEL.SOURCE : Fld := ⟨0xe0c0, 9, 8⟩
def Reg.DRF.REF_DATA0.word : Nat := 0xe0c4
def Reg.DRF.REF_DATA0.REF4 : Fld := ⟨0xe0c4, 27, 21⟩
def Reg.DRF.REF_DATA0.REF3 : Fld := ⟨0xe0c4, 20, 14⟩
def Reg.DRF.REF_DATA0.REF2 : Fld := ⟨0xe0c4, 13, 7⟩
def Reg.DRF.REF_DATA0.REF1 : Fld := ⟨0xe0c4, 6, 0⟩
def Reg.DRF.REF_DATA1.word : Nat := 0xe0c8
def Reg.DRF.REF_DATA1.REF7 : Fld := ⟨0xe0c8, 20, 14⟩
def Reg.DRF.REF_DATA1.REF6 : Fld := ⟨0xe0c8, 13, 7⟩
def Reg.DRF.REF_DATA1.REF5 : Fld := ⟨0xe0c8, 6, 0⟩
def Reg.DRF.COUNTS.word : Nat := 0xe0cc
def Reg.DRF.COUNTS.HIGH : Fld := ⟨0xe0cc, 31, 16⟩
def Reg.DRF.COUNTS.LOW : Fld := ⟨0xe0cc, 15, 0⟩
def Reg.DRF.RATE_ERR.word : Nat := 0xe0d0
def Reg.DRF.RATE_ERR.ERR : Fld := ⟨0xe0d0, 31, 0⟩
def Reg.DRF.RATE_OBS.word : Nat := 0xe0d4
def Reg.DRF.RATE_OBS.OBS : Fld := ⟨0xe0d4, 31, 0⟩
def Reg.L1P.INT_STATUS.word : Nat := 0x10010
def Reg.L1P.INT_STATUS.WAY_DISABLED : Fld := ⟨0x10010, 1, 1⟩
def Reg.L1P.INT_STATUS.PARITY_ERR : Fld := ⟨0x10010, 0, 0⟩
def Reg.L1P.WAYS.word (n : Nat) : Nat := 0x10040 + 0x4 * n
def Reg.L1P.WAYS.DISABLED (n : Nat) : Fld := ⟨0x10040 + 0x4 * n, 7, 0⟩
def Reg.L1P.PARITY.word (n : Nat) : Nat := 0x10050 + 0x4 * n
def Reg.L1P.PARITY.PARITY (n : Nat) : Fld := ⟨0x10050 + 0x4 * n, 31, 0⟩
def Reg.L1P.LAST_ERR.word : Nat := 0x10060
def Reg.L1P.LAST_ERR.PORT : Fld := ⟨0x10060, 31, 30⟩
def Reg.L1P.LAST_ERR.IN_TAG : Fld := ⟨0x10060, 29, 29⟩
def Reg.L1P.LAST_ERR.SET : Fld := ⟨0x10060, 23, 15⟩
def Reg.L1P.LAST_ERR.WAY : Fld := ⟨0x10060, 2, 0⟩
def Reg.L2C.INT_STATUS.word : Nat := 0x11010
def Reg.L2C.INT_STATUS.LOC_FULL : Fld := ⟨0x11010, 7, 7⟩
def Reg.L2C.INT_STATUS.SMALL_WAY_DISABLED : Fld := ⟨0x11010, 6, 6⟩
def Reg.L2C.INT_STATUS.LOC_DISABLED : Fld := ⟨0x11010, 5, 5⟩
def Reg.L2C.INT_STATUS.TAG_PARITY : Fld := ⟨0x11010, 4, 4⟩
def Reg.L2C.INT_STATUS.UNCORR : Fld := ⟨0x11010, 3, 3⟩
def Reg.L2C.INT_STATUS.WAY_PD_DONE : Fld := ⟨0x11010, 2, 2⟩
def Reg.L2C.INT_STATUS.SMALL_PARITY : Fld := ⟨0x11010, 1, 1⟩
def Reg.L2C.INT_STATUS.MAINT_DONE : Fld := ⟨0x11010, 0, 0⟩
def Reg.L2C.MAINT_ADDR_LO.word : Nat := 0x11040
def Reg.L2C.MAINT_ADDR_LO.ADDR_LO : Fld := ⟨0x11040, 31, 6⟩
def Reg.L2C.MAINT_ADDR_HI.word : Nat := 0x11044
def Reg.L2C.MAINT_ADDR_HI.SPACE : Fld := ⟨0x11044, 31, 31⟩
def Reg.L2C.MAINT_ADDR_HI.KEYID : Fld := ⟨0x11044, 21, 16⟩
def Reg.L2C.MAINT_ADDR_HI.ADDR_HI : Fld := ⟨0x11044, 9, 0⟩
def Reg.L2C.MAINT_SETWAY.word : Nat := 0x11048
def Reg.L2C.MAINT_SETWAY.SLICE : Fld := ⟨0x11048, 27, 24⟩
def Reg.L2C.MAINT_SETWAY.SET : Fld := ⟨0x11048, 23, 12⟩
def Reg.L2C.MAINT_SETWAY.WAY : Fld := ⟨0x11048, 3, 0⟩
def Reg.L2C.MAINT_CTRL.word : Nat := 0x1104c
def Reg.L2C.MAINT_CTRL.OP : Fld := ⟨0x1104c, 31, 30⟩
def Reg.L2C.MAINT_CTRL.MODE : Fld := ⟨0x1104c, 29, 28⟩
def Reg.L2C.MAINT_CTRL.CACHE : Fld := ⟨0x1104c, 27, 24⟩
def Reg.L2C.MAINT_CTRL.COUNT : Fld := ⟨0x1104c, 15, 0⟩
def Reg.L2C.MAINT_STATUS.word : Nat := 0x11050
def Reg.L2C.MAINT_STATUS.BUSY : Fld := ⟨0x11050, 31, 31⟩
def Reg.L2C.MAINT_STATUS.LINES_DONE : Fld := ⟨0x11050, 20, 0⟩
def Reg.L2C.WAY_PD.word : Nat := 0x11054
def Reg.L2C.WAY_PD.PD_MASK : Fld := ⟨0x11054, 15, 0⟩
def Reg.L2C.WAY_STATUS.word : Nat := 0x11058
def Reg.L2C.WAY_STATUS.ON : Fld := ⟨0x11058, 31, 16⟩
def Reg.L2C.WAY_STATUS.IN_TRANSITION : Fld := ⟨0x11058, 15, 0⟩
def Reg.L2C.ECC_CORR.word : Nat := 0x11060
def Reg.L2C.ECC_CORR.CORR : Fld := ⟨0x11060, 31, 0⟩
def Reg.L2C.ECC_UNCORR.word : Nat := 0x11064
def Reg.L2C.ECC_UNCORR.UNCORR : Fld := ⟨0x11064, 31, 0⟩
def Reg.L2C.TAG_PAR.word : Nat := 0x11068
def Reg.L2C.TAG_PAR.TAG_PAR : Fld := ⟨0x11068, 31, 0⟩
def Reg.L2C.LAST_ERR.word : Nat := 0x1106c
def Reg.L2C.LAST_ERR.SLICE : Fld := ⟨0x1106c, 31, 28⟩
def Reg.L2C.LAST_ERR.SET : Fld := ⟨0x1106c, 27, 16⟩
def Reg.L2C.LAST_ERR.WAY : Fld := ⟨0x1106c, 15, 12⟩
def Reg.L2C.LAST_ERR.KIND : Fld := ⟨0x1106c, 11, 10⟩
def Reg.L2C.LAST_ERR.DIRTY : Fld := ⟨0x1106c, 9, 9⟩
def Reg.L2C.LAST_ERR.LASTING : Fld := ⟨0x1106c, 8, 8⟩
def Reg.L2C.LOC_DISABLED.word : Nat := 0x11070
def Reg.L2C.LOC_DISABLED.FULL : Fld := ⟨0x11070, 31, 16⟩
def Reg.L2C.LOC_DISABLED.TOTAL : Fld := ⟨0x11070, 8, 0⟩
def Reg.L2C.SMALL_WAYS.word : Nat := 0x11080
def Reg.L2C.SMALL_WAYS.STREAM1 : Fld := ⟨0x11080, 31, 24⟩
def Reg.L2C.SMALL_WAYS.STREAM0 : Fld := ⟨0x11080, 23, 16⟩
def Reg.L2C.SMALL_WAYS.CORE : Fld := ⟨0x11080, 15, 0⟩
def Reg.L2C.SMALL_PARITY.word : Nat := 0x11084
def Reg.L2C.SMALL_PARITY.STREAM : Fld := ⟨0x11084, 31, 16⟩
def Reg.L2C.SMALL_PARITY.CORE : Fld := ⟨0x11084, 15, 0⟩
def Reg.RNG.INT_STATUS.word : Nat := 0x12010
def Reg.RNG.INT_STATUS.SNOOP_PARITY : Fld := ⟨0x12010, 3, 3⟩
def Reg.RNG.INT_STATUS.STASH_DROPPED : Fld := ⟨0x12010, 2, 2⟩
def Reg.RNG.INT_STATUS.LINE_POISONED : Fld := ⟨0x12010, 1, 1⟩
def Reg.RNG.INT_STATUS.DEAD_AGENT : Fld := ⟨0x12010, 0, 0⟩
def Reg.RNG.STASH_CTRL.word : Nat := 0x12040
def Reg.RNG.STASH_CTRL.DMA_EN : Fld := ⟨0x12040, 2, 2⟩
def Reg.RNG.STASH_CTRL.SHEPHERD_EN : Fld := ⟨0x12040, 1, 1⟩
def Reg.RNG.STASH_CTRL.DROVER_EN : Fld := ⟨0x12040, 0, 0⟩
def Reg.RNG.DEAD.word : Nat := 0x12044
def Reg.RNG.DEAD.DEAD : Fld := ⟨0x12044, 31, 0⟩
def Reg.RNG.LAST_DEAD.word : Nat := 0x12048
def Reg.RNG.LAST_DEAD.CAUSE : Fld := ⟨0x12048, 31, 30⟩
def Reg.RNG.LAST_DEAD.STOP : Fld := ⟨0x12048, 12, 8⟩
def Reg.RNG.LAST_DEAD.SLICE : Fld := ⟨0x12048, 3, 0⟩
def Reg.RNG.POISON_ADDR_LO.word : Nat := 0x1204c
def Reg.RNG.POISON_ADDR_LO.ADDR_LO : Fld := ⟨0x1204c, 31, 6⟩
def Reg.RNG.POISON_ADDR_HI.word : Nat := 0x12050
def Reg.RNG.POISON_ADDR_HI.SPACE : Fld := ⟨0x12050, 31, 31⟩
def Reg.RNG.POISON_ADDR_HI.KEYID : Fld := ⟨0x12050, 21, 16⟩
def Reg.RNG.POISON_ADDR_HI.ADDR_HI : Fld := ⟨0x12050, 9, 0⟩
def Reg.RNG.POISONED.word : Nat := 0x12054
def Reg.RNG.POISONED.POISONED : Fld := ⟨0x12054, 31, 0⟩
def Reg.RNG.SNOOPS.word : Nat := 0x12060
def Reg.RNG.SNOOPS.SNOOPS : Fld := ⟨0x12060, 31, 0⟩
def Reg.RNG.RETRIES.word : Nat := 0x12064
def Reg.RNG.RETRIES.RETRIES : Fld := ⟨0x12064, 31, 0⟩
def Reg.RNG.WAITS.word : Nat := 0x12068
def Reg.RNG.WAITS.WAITS : Fld := ⟨0x12068, 31, 0⟩
def Reg.RNG.STASHES.word : Nat := 0x1206c
def Reg.RNG.STASHES.STASHES : Fld := ⟨0x1206c, 31, 0⟩
def Reg.RNG.STASH_DROPS.word : Nat := 0x12070
def Reg.RNG.STASH_DROPS.DROPS : Fld := ⟨0x12070, 31, 0⟩
def Reg.RNG.SNOOP_PARITY.word : Nat := 0x12074
def Reg.RNG.SNOOP_PARITY.PARITY : Fld := ⟨0x12074, 31, 0⟩
def Reg.DMC.INT_STATUS.word (inst : Nat) : Nat := 0x14010 + 0x1000 * inst
def Reg.DMC.INT_STATUS.DRAM_HOT (inst : Nat) : Fld := ⟨0x14010 + 0x1000 * inst, 7, 7⟩
def Reg.DMC.INT_STATUS.TRAIN_FAIL (inst : Nat) : Fld := ⟨0x14010 + 0x1000 * inst, 6, 6⟩
def Reg.DMC.INT_STATUS.FILL_DROPPED (inst : Nat) : Fld := ⟨0x14010 + 0x1000 * inst, 5, 5⟩
def Reg.DMC.INT_STATUS.RD_TRIGGER (inst : Nat) : Fld := ⟨0x14010 + 0x1000 * inst, 4, 4⟩
def Reg.DMC.INT_STATUS.PANIC (inst : Nat) : Fld := ⟨0x14010 + 0x1000 * inst, 3, 3⟩
def Reg.DMC.INT_STATUS.UE_LASTING (inst : Nat) : Fld := ⟨0x14010 + 0x1000 * inst, 2, 2⟩
def Reg.DMC.INT_STATUS.UE_TRANSIENT (inst : Nat) : Fld := ⟨0x14010 + 0x1000 * inst, 1, 1⟩
def Reg.DMC.INT_STATUS.CE (inst : Nat) : Fld := ⟨0x14010 + 0x1000 * inst, 0, 0⟩
def Reg.DMC.CFG.word (inst : Nat) : Nat := 0x14040 + 0x1000 * inst
def Reg.DMC.CFG.DISABLE (inst : Nat) : Fld := ⟨0x14040 + 0x1000 * inst, 8, 8⟩
def Reg.DMC.CFG.DENSITY (inst : Nat) : Fld := ⟨0x14040 + 0x1000 * inst, 5, 4⟩
def Reg.DMC.CFG.RATE (inst : Nat) : Fld := ⟨0x14040 + 0x1000 * inst, 1, 0⟩
def Reg.DMC.STATUS.word (inst : Nat) : Nat := 0x14044 + 0x1000 * inst
def Reg.DMC.STATUS.STATE (inst : Nat) : Fld := ⟨0x14044 + 0x1000 * inst, 31, 29⟩
def Reg.DMC.STATUS.CAUSE (inst : Nat) : Fld := ⟨0x14044 + 0x1000 * inst, 28, 26⟩
def Reg.DMC.STATUS.MARKED (inst : Nat) : Fld := ⟨0x14044 + 0x1000 * inst, 25, 25⟩
def Reg.DMC.STATUS.HOT (inst : Nat) : Fld := ⟨0x14044 + 0x1000 * inst, 24, 24⟩
def Reg.DMC.STATUS.TRAIN_STEP (inst : Nat) : Fld := ⟨0x14044 + 0x1000 * inst, 23, 20⟩
def Reg.DMC.CE.word (inst : Nat) : Nat := 0x14050 + 0x1000 * inst
def Reg.DMC.CE.CE (inst : Nat) : Fld := ⟨0x14050 + 0x1000 * inst, 31, 0⟩
def Reg.DMC.UE_TRANSIENT.word (inst : Nat) : Nat := 0x14054 + 0x1000 * inst
def Reg.DMC.UE_TRANSIENT.UE_TRANSIENT (inst : Nat) : Fld := ⟨0x14054 + 0x1000 * inst, 31, 0⟩
def Reg.DMC.UE_LASTING.word (inst : Nat) : Nat := 0x14058 + 0x1000 * inst
def Reg.DMC.UE_LASTING.UE_LASTING (inst : Nat) : Fld := ⟨0x14058 + 0x1000 * inst, 31, 0⟩
def Reg.DMC.ERR_INFO.word (inst : Nat) : Nat := 0x1405c + 0x1000 * inst
def Reg.DMC.ERR_INFO.LASTING (inst : Nat) : Fld := ⟨0x1405c + 0x1000 * inst, 31, 31⟩
def Reg.DMC.ERR_INFO.SUBCH (inst : Nat) : Fld := ⟨0x1405c + 0x1000 * inst, 30, 30⟩
def Reg.DMC.ERR_INFO.CLASS (inst : Nat) : Fld := ⟨0x1405c + 0x1000 * inst, 29, 27⟩
def Reg.DMC.ERR_INFO.AREA (inst : Nat) : Fld := ⟨0x1405c + 0x1000 * inst, 26, 24⟩
def Reg.DMC.ERR_LINE.word (inst : Nat) : Nat := 0x14060 + 0x1000 * inst
def Reg.DMC.ERR_LINE.LINE (inst : Nat) : Fld := ⟨0x14060 + 0x1000 * inst, 26, 0⟩
def Reg.DMC.RETRAIN_FAIL.word (inst : Nat) : Nat := 0x14064 + 0x1000 * inst
def Reg.DMC.RETRAIN_FAIL.RETRAIN_FAIL (inst : Nat) : Fld := ⟨0x14064 + 0x1000 * inst, 31, 0⟩
def Reg.DMC.RD_TRIGGERS.word (inst : Nat) : Nat := 0x14070 + 0x1000 * inst
def Reg.DMC.RD_TRIGGERS.RD_TRIGGERS (inst : Nat) : Fld := ⟨0x14070 + 0x1000 * inst, 31, 0⟩
def Reg.DMC.NEIGHBOUR_REF.word (inst : Nat) : Nat := 0x14074 + 0x1000 * inst
def Reg.DMC.NEIGHBOUR_REF.NEIGHBOUR_REF (inst : Nat) : Fld := ⟨0x14074 + 0x1000 * inst, 31, 0⟩
def Reg.DMC.RD_LAST.word (inst : Nat) : Nat := 0x14078 + 0x1000 * inst
def Reg.DMC.RD_LAST.CLASS (inst : Nat) : Fld := ⟨0x14078 + 0x1000 * inst, 31, 29⟩
def Reg.DMC.RD_LAST.SUBCH (inst : Nat) : Fld := ⟨0x14078 + 0x1000 * inst, 28, 28⟩
def Reg.DMC.RD_LAST.BANK (inst : Nat) : Fld := ⟨0x14078 + 0x1000 * inst, 27, 24⟩
def Reg.DMC.RD_LAST.ROW (inst : Nat) : Fld := ⟨0x14078 + 0x1000 * inst, 17, 0⟩
def Reg.DMC0.RT_CFG.word : Nat := 0x14080
def Reg.DMC0.RT_CFG.PANIC_LEVEL : Fld := ⟨0x14080, 26, 16⟩
def Reg.DMC0.RT_CFG.PANIC_CLEAR : Fld := ⟨0x14080, 10, 0⟩
def Reg.DMC0.RT_STATUS.word : Nat := 0x14084
def Reg.DMC0.RT_STATUS.PANIC : Fld := ⟨0x14084, 31, 31⟩
def Reg.DMC0.RT_STATUS.OCCUPANCY : Fld := ⟨0x14084, 10, 0⟩
def Reg.DMC0.PANICS.word : Nat := 0x14088
def Reg.DMC0.PANICS.PANICS : Fld := ⟨0x14088, 31, 0⟩
def Reg.DMC0.FILL_DROPS.word : Nat := 0x1408c
def Reg.DMC0.FILL_DROPS.FILL_DROPS : Fld := ⟨0x1408c, 31, 0⟩
def Reg.DMC0.RD_CFG.word : Nat := 0x14090
def Reg.DMC0.RD_CFG.RD_THRESH : Fld := ⟨0x14090, 12, 0⟩
def Reg.DMC0.SC_GEOM.word : Nat := 0x14094
def Reg.DMC0.SC_GEOM.LOG2_E : Fld := ⟨0x14094, 12, 8⟩
def Reg.DMC0.SC_GEOM.CHANNELS : Fld := ⟨0x14094, 3, 0⟩
def Reg.DMC0.LOOKUPS.word : Nat := 0x14098
def Reg.DMC0.LOOKUPS.LOOKUPS : Fld := ⟨0x14098, 31, 0⟩
def Reg.HLK.INT_STATUS.word : Nat := 0x18010
def Reg.HLK.INT_STATUS.S2M_STARVED : Fld := ⟨0x18010, 7, 7⟩
def Reg.HLK.INT_STATUS.IDE_FAIL : Fld := ⟨0x18010, 6, 6⟩
def Reg.HLK.INT_STATUS.VIOLATION : Fld := ⟨0x18010, 5, 5⟩
def Reg.HLK.INT_STATUS.DOWNGRADE : Fld := ⟨0x18010, 4, 4⟩
def Reg.HLK.INT_STATUS.RECOVERY : Fld := ⟨0x18010, 3, 3⟩
def Reg.HLK.INT_STATUS.LINK_DOWN : Fld := ⟨0x18010, 2, 2⟩
def Reg.HLK.INT_STATUS.CXL_UP : Fld := ⟨0x18010, 1, 1⟩
def Reg.HLK.INT_STATUS.LINK_UP : Fld := ⟨0x18010, 0, 0⟩
def Reg.HLK.LINK_STATUS.word : Nat := 0x18040
def Reg.HLK.LINK_STATUS.UP : Fld := ⟨0x18040, 31, 31⟩
def Reg.HLK.LINK_STATUS.CXL : Fld := ⟨0x18040, 30, 30⟩
def Reg.HLK.LINK_STATUS.IDE_MEM : Fld := ⟨0x18040, 29, 29⟩
def Reg.HLK.LINK_STATUS.IDE_IO : Fld := ⟨0x18040, 28, 28⟩
def Reg.HLK.LINK_STATUS.RATE : Fld := ⟨0x18040, 19, 16⟩
def Reg.HLK.LINK_STATUS.WIDTH : Fld := ⟨0x18040, 4, 0⟩
def Reg.HLK.LINK_CTRL.word : Nat := 0x18044
def Reg.HLK.LINK_CTRL.RETRAIN : Fld := ⟨0x18044, 31, 31⟩
def Reg.HLK.LINK_CTRL.MAX_RATE : Fld := ⟨0x18044, 19, 16⟩
def Reg.HLK.LINK_CTRL.MAX_WIDTH : Fld := ⟨0x18044, 4, 0⟩
def Reg.HLK.TPH_CFG.word : Nat := 0x18048
def Reg.HLK.TPH_CFG.PH : Fld := ⟨0x18048, 9, 8⟩
def Reg.HLK.TPH_CFG.ST_DEFAULT : Fld := ⟨0x18048, 7, 0⟩
def Reg.HLK.CREDITS.word : Nat := 0x1804c
def Reg.HLK.CREDITS.RWD : Fld := ⟨0x1804c, 23, 16⟩
def Reg.HLK.CREDITS.REQ : Fld := ⟨0x1804c, 7, 0⟩
def Reg.HLK.S2M_HELD.word : Nat := 0x18050
def Reg.HLK.S2M_HELD.HELD : Fld := ⟨0x18050, 31, 0⟩
def Reg.HLK.RECOVERIES.word : Nat := 0x18054
def Reg.HLK.RECOVERIES.RECOVERIES : Fld := ⟨0x18054, 31, 0⟩
def Reg.HLK.LINK_DOWNS.word : Nat := 0x18058
def Reg.HLK.LINK_DOWNS.LINK_DOWNS : Fld := ⟨0x18058, 31, 0⟩
def Reg.HLK.VIOL_MEM.word : Nat := 0x18060
def Reg.HLK.VIOL_MEM.UNDECODED : Fld := ⟨0x18060, 31, 16⟩
def Reg.HLK.VIOL_MEM.BAD_OPCODE : Fld := ⟨0x18060, 15, 0⟩
def Reg.HLK.VIOL_MEM2.word : Nat := 0x18064
def Reg.HLK.VIOL_MEM2.POISON_IN : Fld := ⟨0x18064, 31, 16⟩
def Reg.HLK.VIOL_MEM2.CREDIT_OVERRUN : Fld := ⟨0x18064, 15, 0⟩
def Reg.HLK.VIOL_IO.word : Nat := 0x18068
def Reg.HLK.VIOL_IO.MALFORMED : Fld := ⟨0x18068, 31, 16⟩
def Reg.HLK.VIOL_IO.EP_DROPPED : Fld := ⟨0x18068, 15, 0⟩
def Reg.HLK.VIOL_IO2.word : Nat := 0x1806c
def Reg.HLK.VIOL_IO2.CA_SENT : Fld := ⟨0x1806c, 31, 16⟩
def Reg.HLK.VIOL_IO2.UR_SENT : Fld := ⟨0x1806c, 15, 0⟩
def Reg.HLK.VIOL_MISC.word : Nat := 0x18070
def Reg.HLK.VIOL_MISC.PUSH_BAD : Fld := ⟨0x18070, 31, 16⟩
def Reg.HLK.VIOL_MISC.IDE_FAILS : Fld := ⟨0x18070, 15, 0⟩
def Reg.HLK.LAST_VIOL.word : Nat := 0x18074
def Reg.HLK.LAST_VIOL.CODE : Fld := ⟨0x18074, 31, 24⟩
def Reg.HLK.LAST_VIOL.BELL : Fld := ⟨0x18074, 23, 0⟩
def Reg.HLK.INGRESS_WAIT.word : Nat := 0x18078
def Reg.HLK.INGRESS_WAIT.WAIT : Fld := ⟨0x18078, 31, 0⟩
def Reg.HDM.INT_STATUS.word : Nat := 0x19010
def Reg.HDM.INT_STATUS.RISK_CLEARED : Fld := ⟨0x19010, 4, 4⟩
def Reg.HDM.INT_STATUS.AT_RISK : Fld := ⟨0x19010, 3, 3⟩
def Reg.HDM.INT_STATUS.GPF_LATE : Fld := ⟨0x19010, 2, 2⟩
def Reg.HDM.INT_STATUS.REFUSED : Fld := ⟨0x19010, 1, 1⟩
def Reg.HDM.INT_STATUS.COMMITTED : Fld := ⟨0x19010, 0, 0⟩
def Reg.HDM.CFG.word : Nat := 0x19040
def Reg.HDM.CFG.KEYID_BITS : Fld := ⟨0x19040, 2, 0⟩
def Reg.HDM.STATUS.word : Nat := 0x19044
def Reg.HDM.STATUS.COMMITTED : Fld := ⟨0x19044, 31, 31⟩
def Reg.HDM.STATUS.READY : Fld := ⟨0x19044, 30, 30⟩
def Reg.HDM.STATUS.AT_RISK : Fld := ⟨0x19044, 29, 29⟩
def Reg.HDM.STATUS.WRITE_THROUGH : Fld := ⟨0x19044, 28, 28⟩
def Reg.HDM.STATUS.MEDIA_STATUS : Fld := ⟨0x19044, 27, 26⟩
def Reg.HDM.STATUS.DEVLOAD : Fld := ⟨0x19044, 25, 24⟩
def Reg.HDM.STATUS.LOG2_WINDOW : Fld := ⟨0x19044, 5, 0⟩
def Reg.HDM.BASE.word : Nat := 0x19048
def Reg.HDM.BASE.BASE_HI : Fld := ⟨0x19048, 31, 0⟩
def Reg.HDM.READS.word : Nat := 0x19050
def Reg.HDM.READS.READS : Fld := ⟨0x19050, 31, 0⟩
def Reg.HDM.WRITES.word : Nat := 0x19054
def Reg.HDM.WRITES.WRITES : Fld := ⟨0x19054, 31, 0⟩
def Reg.HDM.REFUSED_RD.word : Nat := 0x19058
def Reg.HDM.REFUSED_RD.REFUSED_RD : Fld := ⟨0x19058, 31, 0⟩
def Reg.HDM.REFUSED_WR.word : Nat := 0x1905c
def Reg.HDM.REFUSED_WR.REFUSED_WR : Fld := ⟨0x1905c, 31, 0⟩
def Reg.HDM.LAST_REFUSED_LO.word : Nat := 0x19060
def Reg.HDM.LAST_REFUSED_LO.DPA_LO : Fld := ⟨0x19060, 31, 0⟩
def Reg.HDM.LAST_REFUSED_HI.word : Nat := 0x19064
def Reg.HDM.LAST_REFUSED_HI.CAUSE : Fld := ⟨0x19064, 31, 28⟩
def Reg.HDM.LAST_REFUSED_HI.WRITE : Fld := ⟨0x19064, 27, 27⟩
def Reg.HDM.LAST_REFUSED_HI.KEYID : Fld := ⟨0x19064, 21, 16⟩
def Reg.HDM.LAST_REFUSED_HI.DPA_HI : Fld := ⟨0x19064, 9, 0⟩
def Reg.HDM.GPF.word : Nat := 0x19068
def Reg.HDM.GPF.LATE : Fld := ⟨0x19068, 31, 16⟩
def Reg.HDM.GPF.EVENTS : Fld := ⟨0x19068, 15, 0⟩
def Reg.HDM.DIRTY_SHUTDOWNS.word : Nat := 0x1906c
def Reg.HDM.DIRTY_SHUTDOWNS.COUNT : Fld := ⟨0x1906c, 31, 0⟩
def Reg.STR.INT_STATUS.word : Nat := 0x1a010
def Reg.STR.INT_STATUS.SUSPENDED : Fld := ⟨0x1a010, 3, 3⟩
def Reg.STR.INT_STATUS.FAILED : Fld := ⟨0x1a010, 2, 2⟩
def Reg.STR.INT_STATUS.MISSED : Fld := ⟨0x1a010, 1, 1⟩
def Reg.STR.INT_STATUS.REFUSED : Fld := ⟨0x1a010, 0, 0⟩
def Reg.STR.CTRL.word : Nat := 0x1a040
def Reg.STR.CTRL.LINK_LIMIT : Fld := ⟨0x1a040, 27, 16⟩
def Reg.STR.CTRL.ENABLE : Fld := ⟨0x1a040, 0, 0⟩
def Reg.STR.STATUS.word : Nat := 0x1a044
def Reg.STR.STATUS.SUSPENDED : Fld := ⟨0x1a044, 31, 31⟩
def Reg.STR.STATUS.ADMITTING : Fld := ⟨0x1a044, 30, 30⟩
def Reg.STR.STATUS.PEN : Fld := ⟨0x1a044, 29, 24⟩
def Reg.STR.STATUS.LINK_LINES : Fld := ⟨0x1a044, 11, 0⟩
def Reg.STR.BYTES_OUT_LO.word : Nat := 0x1a050
def Reg.STR.BYTES_OUT_LO.BYTES_LO : Fld := ⟨0x1a050, 31, 0⟩
def Reg.STR.BYTES_OUT_HI.word : Nat := 0x1a054
def Reg.STR.BYTES_OUT_HI.BYTES_HI : Fld := ⟨0x1a054, 15, 0⟩
def Reg.STR.LAST_EVENT.word : Nat := 0x1a060
def Reg.STR.LAST_EVENT.KIND : Fld := ⟨0x1a060, 31, 30⟩
def Reg.STR.LAST_EVENT.PEN : Fld := ⟨0x1a060, 29, 24⟩
def Reg.STR.LAST_EVENT.STATUS : Fld := ⟨0x1a060, 23, 16⟩
def Reg.STR.LAST_EVENT.DETAIL : Fld := ⟨0x1a060, 15, 8⟩
def Reg.STR.LAST_TAG.word : Nat := 0x1a064
def Reg.STR.LAST_TAG.TAG : Fld := ⟨0x1a064, 31, 0⟩
def Reg.PEN.INT_STATUS.word : Nat := 0x1b010
def Reg.PEN.INT_STATUS.STAGE_TIMEOUT : Fld := ⟨0x1b010, 2, 2⟩
def Reg.PEN.INT_STATUS.POOL_EMPTY : Fld := ⟨0x1b010, 1, 1⟩
def Reg.PEN.INT_STATUS.REWIND : Fld := ⟨0x1b010, 0, 0⟩
def Reg.PEN.POOL.word : Nat := 0x1b040
def Reg.PEN.POOL.FREE : Fld := ⟨0x1b040, 16, 0⟩
def Reg.PEN.POOL_CFG.word : Nat := 0x1b044
def Reg.PEN.POOL_CFG.STAGE_TIMEOUT : Fld := ⟨0x1b044, 31, 16⟩
def Reg.PEN.LAST_REWIND.word : Nat := 0x1b048
def Reg.PEN.LAST_REWIND.CAUSE : Fld := ⟨0x1b048, 31, 28⟩
def Reg.PEN.LAST_REWIND.PEN : Fld := ⟨0x1b048, 27, 22⟩
def Reg.PEN.LAST_REWIND.SLOT : Fld := ⟨0x1b048, 21, 16⟩
def Reg.PEN.CTRL.word (n : Nat) : Nat := 0x1b100 + 0x20 * n
def Reg.PEN.CTRL.FLUSH (n : Nat) : Fld := ⟨0x1b100 + 0x20 * n, 31, 31⟩
def Reg.PEN.CTRL.ENABLE (n : Nat) : Fld := ⟨0x1b100 + 0x20 * n, 16, 16⟩
def Reg.PEN.CTRL.CELL_LIMIT (n : Nat) : Fld := ⟨0x1b100 + 0x20 * n, 14, 0⟩
def Reg.PEN.COMMITTED.word (n : Nat) : Nat := 0x1b104 + 0x20 * n
def Reg.PEN.COMMITTED.COMMITTED (n : Nat) : Fld := ⟨0x1b104 + 0x20 * n, 31, 0⟩
def Reg.PEN.ACCEPTED.word (n : Nat) : Nat := 0x1b108 + 0x20 * n
def Reg.PEN.ACCEPTED.ACCEPTED (n : Nat) : Fld := ⟨0x1b108 + 0x20 * n, 31, 0⟩
def Reg.PEN.REFUSED.word (n : Nat) : Nat := 0x1b10c + 0x20 * n
def Reg.PEN.REFUSED.REFUSED (n : Nat) : Fld := ⟨0x1b10c + 0x20 * n, 31, 0⟩
def Reg.PEN.DONE.word (n : Nat) : Nat := 0x1b110 + 0x20 * n
def Reg.PEN.DONE.DONE (n : Nat) : Fld := ⟨0x1b110 + 0x20 * n, 31, 0⟩
def Reg.PEN.FAILED.word (n : Nat) : Nat := 0x1b114 + 0x20 * n
def Reg.PEN.FAILED.FAILED (n : Nat) : Fld := ⟨0x1b114 + 0x20 * n, 31, 0⟩
def Reg.PEN.REWIND.word (n : Nat) : Nat := 0x1b118 + 0x20 * n
def Reg.PEN.REWIND.REWIND (n : Nat) : Fld := ⟨0x1b118 + 0x20 * n, 31, 0⟩
def Reg.PEN.MISSED.word (n : Nat) : Nat := 0x1b11c + 0x20 * n
def Reg.PEN.MISSED.MISSED (n : Nat) : Fld := ⟨0x1b11c + 0x20 * n, 31, 0⟩
def Reg.PEN.STATUS.word (n : Nat) : Nat := 0x1b900 + 0x4 * n
def Reg.PEN.STATUS.QUEUED (n : Nat) : Fld := ⟨0x1b900 + 0x4 * n, 31, 16⟩
def Reg.PEN.STATUS.CELLS (n : Nat) : Fld := ⟨0x1b900 + 0x4 * n, 14, 0⟩
def Reg.DCX.INT_STATUS.word : Nat := 0x1c010
def Reg.DCX.INT_STATUS.DICT_FAILED : Fld := ⟨0x1c010, 3, 3⟩
def Reg.DCX.INT_STATUS.DICT_LOADED : Fld := ⟨0x1c010, 2, 2⟩
def Reg.DCX.INT_STATUS.BLOCK_OVERRUN : Fld := ⟨0x1c010, 1, 1⟩
def Reg.DCX.INT_STATUS.FORMAT_ERR : Fld := ⟨0x1c010, 0, 0⟩
def Reg.DCX.LANE_STATUS.word : Nat := 0x1c040
def Reg.DCX.LANE_STATUS.BOOKED : Fld := ⟨0x1c040, 15, 8⟩
def Reg.DCX.LANE_STATUS.BUSY : Fld := ⟨0x1c040, 7, 0⟩
def Reg.DCX.DICT.word (n : Nat) : Nat := 0x1c050 + 0x4 * n
def Reg.DCX.DICT.STATE (n : Nat) : Fld := ⟨0x1c050 + 0x4 * n, 31, 30⟩
def Reg.DCX.DICT.GEN (n : Nat) : Fld := ⟨0x1c050 + 0x4 * n, 23, 16⟩
def Reg.DCX.DICT.LINES (n : Nat) : Fld := ⟨0x1c050 + 0x4 * n, 10, 0⟩
def Reg.DCX.DICT_ID.word (n : Nat) : Nat := 0x1c060 + 0x4 * n
def Reg.DCX.DICT_ID.ID (n : Nat) : Fld := ⟨0x1c060 + 0x4 * n, 31, 0⟩
def Reg.DCX.FRAMES.word : Nat := 0x1c070
def Reg.DCX.FRAMES.FRAMES : Fld := ⟨0x1c070, 31, 0⟩
def Reg.DCX.FORMAT_ERRS.word : Nat := 0x1c074
def Reg.DCX.FORMAT_ERRS.ERRS : Fld := ⟨0x1c074, 31, 0⟩
def Reg.DCX.CHECKSUM_ERRS.word : Nat := 0x1c078
def Reg.DCX.CHECKSUM_ERRS.ERRS : Fld := ⟨0x1c078, 31, 0⟩
def Reg.DCX.BLOCK_OVERRUNS.word : Nat := 0x1c07c
def Reg.DCX.BLOCK_OVERRUNS.OVERRUNS : Fld := ⟨0x1c07c, 31, 0⟩
def Reg.CRY.INT_STATUS.word : Nat := 0x20010
def Reg.CRY.INT_STATUS.WINDOW_FAIL : Fld := ⟨0x20010, 1, 1⟩
def Reg.CRY.INT_STATUS.TAG_FAIL : Fld := ⟨0x20010, 0, 0⟩
def Reg.CRY.TAG_FAILS.word : Nat := 0x20040
def Reg.CRY.TAG_FAILS.TAG_FAILS : Fld := ⟨0x20040, 31, 0⟩
def Reg.CRY.WINDOW_FAILS.word : Nat := 0x20044
def Reg.CRY.WINDOW_FAILS.WINDOW_FAILS : Fld := ⟨0x20044, 31, 0⟩
def Reg.CRY.SECTORS_ENC.word : Nat := 0x20048
def Reg.CRY.SECTORS_ENC.ENC : Fld := ⟨0x20048, 31, 0⟩
def Reg.CRY.SECTORS_DEC.word : Nat := 0x2004c
def Reg.CRY.SECTORS_DEC.DEC : Fld := ⟨0x2004c, 31, 0⟩
def Reg.CRY.LAST_FAIL.word : Nat := 0x20050
def Reg.CRY.LAST_FAIL.REGION : Fld := ⟨0x20050, 31, 24⟩
def Reg.CRY.LAST_FAIL.KEYID : Fld := ⟨0x20050, 21, 16⟩
def Reg.CRY.LAST_FAIL.KEYGEN : Fld := ⟨0x20050, 15, 8⟩
def Reg.CRY.LAST_FAIL.CAUSE : Fld := ⟨0x20050, 1, 0⟩
def Reg.KEY.INT_STATUS.word : Nat := 0x21010
def Reg.KEY.INT_STATUS.UNWRAP_FAIL : Fld := ⟨0x21010, 3, 3⟩
def Reg.KEY.INT_STATUS.REKEY_DONE : Fld := ⟨0x21010, 2, 2⟩
def Reg.KEY.INT_STATUS.OP_REFUSED : Fld := ⟨0x21010, 1, 1⟩
def Reg.KEY.INT_STATUS.OP_DONE : Fld := ⟨0x21010, 0, 0⟩
def Reg.KEY.WRAP.word (n : Nat) : Nat := 0x21040 + 0x4 * n
def Reg.KEY.WRAP.WRAP (n : Nat) : Fld := ⟨0x21040 + 0x4 * n, 31, 0⟩
def Reg.KEY.OP.word : Nat := 0x21070
def Reg.KEY.OP.OP : Fld := ⟨0x21070, 31, 30⟩
def Reg.KEY.OP.PERSIST : Fld := ⟨0x21070, 29, 29⟩
def Reg.KEY.OP.GUARD : Fld := ⟨0x21070, 15, 8⟩
def Reg.KEY.OP.SLOT : Fld := ⟨0x21070, 5, 0⟩
def Reg.KEY.OP_STATUS.word : Nat := 0x21074
def Reg.KEY.OP_STATUS.BUSY : Fld := ⟨0x21074, 31, 31⟩
def Reg.KEY.OP_STATUS.RESULT : Fld := ⟨0x21074, 27, 24⟩
def Reg.KEY.OP_STATUS.SLOT : Fld := ⟨0x21074, 5, 0⟩
def Reg.KEY.UNWRAP_FAILS.word : Nat := 0x21078
def Reg.KEY.UNWRAP_FAILS.FAILS : Fld := ⟨0x21078, 31, 0⟩
def Reg.KEY.SLOT.word (n : Nat) : Nat := 0x21100 + 0x4 * n
def Reg.KEY.SLOT.STATE (n : Nat) : Fld := ⟨0x21100 + 0x4 * n, 31, 30⟩
def Reg.KEY.SLOT.PERSISTED (n : Nat) : Fld := ⟨0x21100 + 0x4 * n, 29, 29⟩
def Reg.KEY.SLOT.SYSTEM (n : Nat) : Fld := ⟨0x21100 + 0x4 * n, 28, 28⟩
def Reg.KEY.SLOT.LABEL (n : Nat) : Fld := ⟨0x21100 + 0x4 * n, 15, 0⟩
def Reg.RGN.INT_STATUS.word : Nat := 0x22010
def Reg.RGN.INT_STATUS.REKEY_REQUIRED : Fld := ⟨0x22010, 5, 5⟩
def Reg.RGN.INT_STATUS.PASS_DONE : Fld := ⟨0x22010, 4, 4⟩
def Reg.RGN.INT_STATUS.GEN_ADVANCED : Fld := ⟨0x22010, 3, 3⟩
def Reg.RGN.INT_STATUS.STRICT_FAIL : Fld := ⟨0x22010, 2, 2⟩
def Reg.RGN.INT_STATUS.ENTRY_REJECTED : Fld := ⟨0x22010, 1, 1⟩
def Reg.RGN.INT_STATUS.ENTRY_APPLIED : Fld := ⟨0x22010, 0, 0⟩
def Reg.RGN.SEL.word : Nat := 0x22040
def Reg.RGN.SEL.INDEX : Fld := ⟨0x22040, 7, 0⟩
def Reg.RGN.ENTRY0.word : Nat := 0x22044
def Reg.RGN.ENTRY0.VALID : Fld := ⟨0x22044, 31, 31⟩
def Reg.RGN.ENTRY0.START : Fld := ⟨0x22044, 17, 0⟩
def Reg.RGN.ENTRY1.word : Nat := 0x22048
def Reg.RGN.ENTRY1.END : Fld := ⟨0x22048, 17, 0⟩
def Reg.RGN.ENTRY2.word : Nat := 0x2204c
def Reg.RGN.ENTRY2.KEYID : Fld := ⟨0x2204c, 29, 24⟩
def Reg.RGN.ENTRY2.MODE : Fld := ⟨0x2204c, 21, 20⟩
def Reg.RGN.ENTRY2.VERSIONING : Fld := ⟨0x2204c, 19, 19⟩
def Reg.RGN.ENTRY2.STRICT : Fld := ⟨0x2204c, 18, 18⟩
def Reg.RGN.ENTRY2.GROUPED : Fld := ⟨0x2204c, 17, 17⟩
def Reg.RGN.ENTRY2.COMPRESSED : Fld := ⟨0x2204c, 16, 16⟩
def Reg.RGN.ENTRY2.RIGHTS : Fld := ⟨0x2204c, 8, 0⟩
def Reg.RGN.GEN.word : Nat := 0x22050
def Reg.RGN.GEN.CUR : Fld := ⟨0x22050, 31, 24⟩
def Reg.RGN.GEN.FLOOR : Fld := ⟨0x22050, 23, 16⟩
def Reg.RGN.GEN.OLD_CUR : Fld := ⟨0x22050, 15, 8⟩
def Reg.RGN.GEN.OLD_FLOOR : Fld := ⟨0x22050, 7, 0⟩
def Reg.RGN.GEN_STATUS.word : Nat := 0x22054
def Reg.RGN.GEN_STATUS.REKEY_REQUIRED : Fld := ⟨0x22054, 31, 31⟩
def Reg.RGN.GEN_STATUS.PASS_ACTIVE : Fld := ⟨0x22054, 30, 30⟩
def Reg.RGN.GEN_STATUS.OLD_VALID : Fld := ⟨0x22054, 29, 29⟩
def Reg.RGN.GEN_STATUS.ADVANCING : Fld := ⟨0x22054, 28, 28⟩
def Reg.RGN.PASS_POS.word : Nat := 0x22058
def Reg.RGN.PASS_POS.SEGMENT : Fld := ⟨0x22058, 29, 0⟩
def Reg.RGN.STRICT_FAILS.word : Nat := 0x22060
def Reg.RGN.STRICT_FAILS.FAILS : Fld := ⟨0x22060, 31, 0⟩
def Reg.RGN.STRICT_LAST.word : Nat := 0x22064
def Reg.RGN.STRICT_LAST.REGION : Fld := ⟨0x22064, 31, 24⟩
def Reg.RGN.STRICT_LAST.LSN_HI : Fld := ⟨0x22064, 1, 0⟩
def Reg.RGN.STRICT_LAST_LSN.word : Nat := 0x22068
def Reg.RGN.STRICT_LAST_LSN.LSN_LO : Fld := ⟨0x22068, 31, 0⟩
def Reg.RGN.GEN_ADVANCES.word : Nat := 0x2206c
def Reg.RGN.GEN_ADVANCES.ADVANCES : Fld := ⟨0x2206c, 31, 0⟩
def Reg.ALM.INT_STATUS.word : Nat := 0x23010
def Reg.ALM.INT_STATUS.ERUPTION : Fld := ⟨0x23010, 2, 2⟩
def Reg.ALM.INT_STATUS.LEVEL_HALF : Fld := ⟨0x23010, 1, 1⟩
def Reg.ALM.INT_STATUS.TREMOR : Fld := ⟨0x23010, 0, 0⟩
def Reg.ALM.STATUS.word : Nat := 0x23040
def Reg.ALM.STATUS.ERUPTED : Fld := ⟨0x23040, 31, 31⟩
def Reg.ALM.STATUS.ZEROISING : Fld := ⟨0x23040, 30, 30⟩
def Reg.ALM.STATUS.LEVEL : Fld := ⟨0x23040, 23, 16⟩
def Reg.ALM.STATUS.LAST_SRC : Fld := ⟨0x23040, 7, 0⟩
def Reg.ALM.CFG.word : Nat := 0x23044
def Reg.ALM.CFG.CEILING : Fld := ⟨0x23044, 31, 24⟩
def Reg.ALM.CFG.DECAY : Fld := ⟨0x23044, 23, 16⟩
def Reg.ALM.CFG.TAMPER_EN : Fld := ⟨0x23044, 3, 0⟩
def Reg.ALM.SRC_EN.word : Nat := 0x23048
def Reg.ALM.SRC_EN.CART : Fld := ⟨0x23048, 7, 7⟩
def Reg.ALM.SRC_EN.EN : Fld := ⟨0x23048, 6, 0⟩
def Reg.ALM.CAUSE.word : Nat := 0x2304c
def Reg.ALM.CAUSE.CAUSE : Fld := ⟨0x2304c, 7, 0⟩
def Reg.ALM.ERUPT_BELL.word : Nat := 0x23050
def Reg.ALM.ERUPT_BELL.BELL : Fld := ⟨0x23050, 31, 0⟩
def Reg.ALM.COUNTS.word : Nat := 0x23054
def Reg.ALM.COUNTS.ERUPTIONS : Fld := ⟨0x23054, 31, 16⟩
def Reg.ALM.COUNTS.TREMORS : Fld := ⟨0x23054, 15, 0⟩
def Reg.ALM.FORCE.word : Nat := 0x23058
def Reg.ALM.FORCE.GUARD : Fld := ⟨0x23058, 15, 8⟩
def Reg.ALM.FORCE.ERUPT : Fld := ⟨0x23058, 0, 0⟩
def Reg.ALM.CLEAR_CTRL.word : Nat := 0x23060
def Reg.ALM.CLEAR_CTRL.NEW_CHALLENGE : Fld := ⟨0x23060, 31, 31⟩
def Reg.ALM.CLEAR_CTRL.VERIFY : Fld := ⟨0x23060, 30, 30⟩
def Reg.ALM.CLEAR_CTRL.RESULT : Fld := ⟨0x23060, 1, 0⟩
def Reg.ALM.CHAL.word (n : Nat) : Nat := 0x23080 + 0x4 * n
def Reg.ALM.CHAL.CHAL (n : Nat) : Fld := ⟨0x23080 + 0x4 * n, 31, 0⟩
def Reg.ALM.RESP.word (n : Nat) : Nat := 0x230a0 + 0x4 * n
def Reg.ALM.RESP.RESP (n : Nat) : Fld := ⟨0x230a0 + 0x4 * n, 31, 0⟩
def Reg.ATT.INT_STATUS.word : Nat := 0x24010
def Reg.ATT.INT_STATUS.SLOT_FAILED : Fld := ⟨0x24010, 1, 1⟩
def Reg.ATT.INT_STATUS.ROLLBACK_ADVANCED : Fld := ⟨0x24010, 0, 0⟩
def Reg.ATT.BOOT.word : Nat := 0x24040
def Reg.ATT.BOOT.BOOTED : Fld := ⟨0x24040, 31, 30⟩
def Reg.ATT.BOOT.NEXT : Fld := ⟨0x24040, 29, 28⟩
def Reg.ATT.BOOT.CAUSE_A : Fld := ⟨0x24040, 27, 24⟩
def Reg.ATT.BOOT.CAUSE_B : Fld := ⟨0x24040, 23, 20⟩
def Reg.ATT.BOOT.KEY : Fld := ⟨0x24040, 16, 16⟩
def Reg.ATT.SVN.word : Nat := 0x24044
def Reg.ATT.SVN.SVN : Fld := ⟨0x24044, 31, 0⟩
def Reg.ATT.ROLLBACK.word : Nat := 0x24048
def Reg.ATT.ROLLBACK.COUNTER : Fld := ⟨0x24048, 31, 0⟩
def Reg.ATT.SERIAL.word (n : Nat) : Nat := 0x24050 + 0x4 * n
def Reg.ATT.SERIAL.SERIAL (n : Nat) : Fld := ⟨0x24050 + 0x4 * n, 31, 0⟩
def Reg.ATT.FUSES.word : Nat := 0x24060
def Reg.ATT.FUSES.RMA_SEALED : Fld := ⟨0x24060, 31, 31⟩
def Reg.ATT.FUSES.KEY1_REVOKED : Fld := ⟨0x24060, 30, 30⟩
def Reg.ATT.FUSES.KEY0_REVOKED : Fld := ⟨0x24060, 29, 29⟩
def Reg.ATT.FUSES.CUSTOMER_KEY_SET : Fld := ⟨0x24060, 28, 28⟩
def Reg.ATT.SPDM.word : Nat := 0x24064
def Reg.ATT.SPDM.VERSION : Fld := ⟨0x24064, 31, 24⟩
def Reg.ATT.SPDM.SESSIONS : Fld := ⟨0x24064, 10, 8⟩
def Reg.ZL.INT_STATUS.word (inst : Nat) : Nat := 0x28010 + 0x1000 * inst
def Reg.ZL.INT_STATUS.POISONED (inst : Nat) : Fld := ⟨0x28010 + 0x1000 * inst, 9, 9⟩
def Reg.ZL.INT_STATUS.SAVE_DONE (inst : Nat) : Fld := ⟨0x28010 + 0x1000 * inst, 8, 8⟩
def Reg.ZL.INT_STATUS.COPY_DONE (inst : Nat) : Fld := ⟨0x28010 + 0x1000 * inst, 7, 7⟩
def Reg.ZL.INT_STATUS.VIOLATION (inst : Nat) : Fld := ⟨0x28010 + 0x1000 * inst, 6, 6⟩
def Reg.ZL.INT_STATUS.LINK_LOST (inst : Nat) : Fld := ⟨0x28010 + 0x1000 * inst, 5, 5⟩
def Reg.ZL.INT_STATUS.DEGRADE (inst : Nat) : Fld := ⟨0x28010 + 0x1000 * inst, 4, 4⟩
def Reg.ZL.INT_STATUS.REMOVED (inst : Nat) : Fld := ⟨0x28010 + 0x1000 * inst, 3, 3⟩
def Reg.ZL.INT_STATUS.AUTH_FAIL (inst : Nat) : Fld := ⟨0x28010 + 0x1000 * inst, 2, 2⟩
def Reg.ZL.INT_STATUS.MOUNTED (inst : Nat) : Fld := ⟨0x28010 + 0x1000 * inst, 1, 1⟩
def Reg.ZL.INT_STATUS.INSERTED (inst : Nat) : Fld := ⟨0x28010 + 0x1000 * inst, 0, 0⟩
def Reg.ZL.CFG.word (inst : Nat) : Nat := 0x28040 + 0x1000 * inst
def Reg.ZL.CFG.AUTO_MOUNT (inst : Nat) : Fld := ⟨0x28040 + 0x1000 * inst, 8, 8⟩
def Reg.ZL.CFG.CART_KEYID (inst : Nat) : Fld := ⟨0x28040 + 0x1000 * inst, 5, 0⟩
def Reg.ZL.CTRL.word (inst : Nat) : Nat := 0x28044 + 0x1000 * inst
def Reg.ZL.CTRL.GUARD (inst : Nat) : Fld := ⟨0x28044 + 0x1000 * inst, 15, 8⟩
def Reg.ZL.CTRL.EJECT (inst : Nat) : Fld := ⟨0x28044 + 0x1000 * inst, 1, 1⟩
def Reg.ZL.CTRL.REMOUNT (inst : Nat) : Fld := ⟨0x28044 + 0x1000 * inst, 0, 0⟩
def Reg.ZL.STATUS.word (inst : Nat) : Nat := 0x28048 + 0x1000 * inst
def Reg.ZL.STATUS.STATE (inst : Nat) : Fld := ⟨0x28048 + 0x1000 * inst, 31, 28⟩
def Reg.ZL.STATUS.PRESENT (inst : Nat) : Fld := ⟨0x28048 + 0x1000 * inst, 27, 27⟩
def Reg.ZL.STATUS.WIDTH (inst : Nat) : Fld := ⟨0x28048 + 0x1000 * inst, 26, 24⟩
def Reg.ZL.STATUS.AUTH_CAUSE (inst : Nat) : Fld := ⟨0x28048 + 0x1000 * inst, 23, 20⟩
def Reg.ZL.STATUS.DEGRADED (inst : Nat) : Fld := ⟨0x28048 + 0x1000 * inst, 19, 19⟩
def Reg.ZL.STATUS.RIGHTS (inst : Nat) : Fld := ⟨0x28048 + 0x1000 * inst, 3, 0⟩
def Reg.ZL.CAP.word (inst : Nat) : Nat := 0x2804c + 0x1000 * inst
def Reg.ZL.CAP.SEGS (inst : Nat) : Fld := ⟨0x2804c + 0x1000 * inst, 26, 0⟩
def Reg.ZL.CONTENT.word (inst : Nat) : Nat := 0x28050 + 0x1000 * inst
def Reg.ZL.CONTENT.CONTENT_SEGS (inst : Nat) : Fld := ⟨0x28050 + 0x1000 * inst, 26, 0⟩
def Reg.ZL.SAVE_SEGS.word (inst : Nat) : Nat := 0x28054 + 0x1000 * inst
def Reg.ZL.SAVE_SEGS.SAVE_SEGS (inst : Nat) : Fld := ⟨0x28054 + 0x1000 * inst, 26, 0⟩
def Reg.ZL.TITLE_LO.word (inst : Nat) : Nat := 0x28058 + 0x1000 * inst
def Reg.ZL.TITLE_LO.TITLE_LO (inst : Nat) : Fld := ⟨0x28058 + 0x1000 * inst, 31, 0⟩
def Reg.ZL.TITLE_HI.word (inst : Nat) : Nat := 0x2805c + 0x1000 * inst
def Reg.ZL.TITLE_HI.TITLE_HI (inst : Nat) : Fld := ⟨0x2805c + 0x1000 * inst, 31, 0⟩
def Reg.ZL.READS.word (inst : Nat) : Nat := 0x28060 + 0x1000 * inst
def Reg.ZL.READS.READS (inst : Nat) : Fld := ⟨0x28060 + 0x1000 * inst, 31, 0⟩
def Reg.ZL.RETRY.word (inst : Nat) : Nat := 0x28064 + 0x1000 * inst
def Reg.ZL.RETRY.RETRIES (inst : Nat) : Fld := ⟨0x28064 + 0x1000 * inst, 31, 16⟩
def Reg.ZL.RETRY.POISONED (inst : Nat) : Fld := ⟨0x28064 + 0x1000 * inst, 15, 0⟩
def Reg.ZL.LINK_ERR.word (inst : Nat) : Nat := 0x28068 + 0x1000 * inst
def Reg.ZL.LINK_ERR.REPLAYS (inst : Nat) : Fld := ⟨0x28068 + 0x1000 * inst, 31, 16⟩
def Reg.ZL.LINK_ERR.NAKS_SENT (inst : Nat) : Fld := ⟨0x28068 + 0x1000 * inst, 15, 6⟩
def Reg.ZL.LINK_ERR.WINDOW (inst : Nat) : Fld := ⟨0x28068 + 0x1000 * inst, 5, 0⟩
def Reg.ZL.VIOL.word (inst : Nat) : Nat := 0x2806c + 0x1000 * inst
def Reg.ZL.VIOL.TIMEOUTS (inst : Nat) : Fld := ⟨0x2806c + 0x1000 * inst, 31, 22⟩
def Reg.ZL.VIOL.UNSOLICITED (inst : Nat) : Fld := ⟨0x2806c + 0x1000 * inst, 21, 11⟩
def Reg.ZL.VIOL.MALFORMED (inst : Nat) : Fld := ⟨0x2806c + 0x1000 * inst, 10, 0⟩
def Reg.ZL.COPY_SRC.word (inst : Nat) : Nat := 0x28080 + 0x1000 * inst
def Reg.ZL.COPY_SRC.SEG (inst : Nat) : Fld := ⟨0x28080 + 0x1000 * inst, 25, 0⟩
def Reg.ZL.COPY_DST_LO.word (inst : Nat) : Nat := 0x28084 + 0x1000 * inst
def Reg.ZL.COPY_DST_LO.DPA_LO (inst : Nat) : Fld := ⟨0x28084 + 0x1000 * inst, 31, 12⟩
def Reg.ZL.COPY_DST_HI.word (inst : Nat) : Nat := 0x28088 + 0x1000 * inst
def Reg.ZL.COPY_DST_HI.KEYID (inst : Nat) : Fld := ⟨0x28088 + 0x1000 * inst, 21, 16⟩
def Reg.ZL.COPY_DST_HI.DPA_HI (inst : Nat) : Fld := ⟨0x28088 + 0x1000 * inst, 9, 0⟩
def Reg.ZL.COPY_CTRL.word (inst : Nat) : Nat := 0x2808c + 0x1000 * inst
def Reg.ZL.COPY_CTRL.GO (inst : Nat) : Fld := ⟨0x2808c + 0x1000 * inst, 31, 31⟩
def Reg.ZL.COPY_CTRL.GUARD (inst : Nat) : Fld := ⟨0x2808c + 0x1000 * inst, 23, 16⟩
def Reg.ZL.COPY_CTRL.COUNT (inst : Nat) : Fld := ⟨0x2808c + 0x1000 * inst, 15, 0⟩
def Reg.ZL.COPY_STATUS.word (inst : Nat) : Nat := 0x28090 + 0x1000 * inst
def Reg.ZL.COPY_STATUS.BUSY (inst : Nat) : Fld := ⟨0x28090 + 0x1000 * inst, 31, 31⟩
def Reg.ZL.COPY_STATUS.RESULT (inst : Nat) : Fld := ⟨0x28090 + 0x1000 * inst, 30, 28⟩
def Reg.ZL.COPY_STATUS.CAUSE (inst : Nat) : Fld := ⟨0x28090 + 0x1000 * inst, 27, 24⟩
def Reg.ZL.COPY_STATUS.DONE (inst : Nat) : Fld := ⟨0x28090 + 0x1000 * inst, 16, 0⟩
def Reg.ZL.SAVE_ADDR_LO.word (inst : Nat) : Nat := 0x280a0 + 0x1000 * inst
def Reg.ZL.SAVE_ADDR_LO.ADDR_LO (inst : Nat) : Fld := ⟨0x280a0 + 0x1000 * inst, 31, 12⟩
def Reg.ZL.SAVE_ADDR_HI.word (inst : Nat) : Nat := 0x280a4 + 0x1000 * inst
def Reg.ZL.SAVE_ADDR_HI.ADDR_HI (inst : Nat) : Fld := ⟨0x280a4 + 0x1000 * inst, 31, 0⟩
def Reg.ZL.SAVE_SEG.word (inst : Nat) : Nat := 0x280a8 + 0x1000 * inst
def Reg.ZL.SAVE_SEG.SEG (inst : Nat) : Fld := ⟨0x280a8 + 0x1000 * inst, 25, 0⟩
def Reg.ZL.SAVE_CTRL.word (inst : Nat) : Nat := 0x280ac + 0x1000 * inst
def Reg.ZL.SAVE_CTRL.GUARD (inst : Nat) : Fld := ⟨0x280ac + 0x1000 * inst, 15, 8⟩
def Reg.ZL.SAVE_CTRL.GO (inst : Nat) : Fld := ⟨0x280ac + 0x1000 * inst, 0, 0⟩
def Reg.ZL.SAVE_STATUS.word (inst : Nat) : Nat := 0x280b0 + 0x1000 * inst
def Reg.ZL.SAVE_STATUS.BUSY (inst : Nat) : Fld := ⟨0x280b0 + 0x1000 * inst, 31, 31⟩
def Reg.ZL.SAVE_STATUS.RESULT (inst : Nat) : Fld := ⟨0x280b0 + 0x1000 * inst, 27, 24⟩
def Reg.ZL.SAVE_STATUS.KEYGEN (inst : Nat) : Fld := ⟨0x280b0 + 0x1000 * inst, 23, 16⟩
def Reg.ZL.SAVE_STATUS.VERSION (inst : Nat) : Fld := ⟨0x280b0 + 0x1000 * inst, 15, 0⟩
def Reg.PWR.INT_STATUS.word : Nat := 0x30010
def Reg.PWR.INT_STATUS.STBY_REFUSED : Fld := ⟨0x30010, 6, 6⟩
def Reg.PWR.INT_STATUS.RESUMED : Fld := ⟨0x30010, 5, 5⟩
def Reg.PWR.INT_STATUS.STANDBY_ENTERED : Fld := ⟨0x30010, 4, 4⟩
def Reg.PWR.INT_STATUS.FALL_TIMEOUT : Fld := ⟨0x30010, 3, 3⟩
def Reg.PWR.INT_STATUS.PG_CHATTER : Fld := ⟨0x30010, 2, 2⟩
def Reg.PWR.INT_STATUS.SEQ_FAIL : Fld := ⟨0x30010, 1, 1⟩
def Reg.PWR.INT_STATUS.SEQ_DONE : Fld := ⟨0x30010, 0, 0⟩
def Reg.PWR.CTRL.word : Nat := 0x30040
def Reg.PWR.CTRL.STANDBY : Fld := ⟨0x30040, 31, 31⟩
def Reg.PWR.CTRL.RESUME : Fld := ⟨0x30040, 30, 30⟩
def Reg.PWR.CTRL.FAULT_CLEAR : Fld := ⟨0x30040, 29, 29⟩
def Reg.PWR.CTRL.GUARD : Fld := ⟨0x30040, 15, 8⟩
def Reg.PWR.STATUS.word : Nat := 0x30044
def Reg.PWR.STATUS.PWR_FAULT : Fld := ⟨0x30044, 31, 31⟩
def Reg.PWR.STATUS.STANDBY : Fld := ⟨0x30044, 30, 30⟩
def Reg.PWR.STATUS.STAGE : Fld := ⟨0x30044, 27, 24⟩
def Reg.PWR.STATUS.FAULT_STAGE : Fld := ⟨0x30044, 23, 20⟩
def Reg.PWR.STATUS.FAULT_CAUSE : Fld := ⟨0x30044, 19, 16⟩
def Reg.PWR.STATUS.FALL_TIMEOUTS : Fld := ⟨0x30044, 15, 8⟩
def Reg.PWR.CAP.word : Nat := 0x30048
def Reg.PWR.CAP.CAP : Fld := ⟨0x30048, 2, 0⟩
def Reg.PWR.EXT_CFG.word (n : Nat) : Nat := 0x30050 + 0x4 * n
def Reg.PWR.EXT_CFG.USED (n : Nat) : Fld := ⟨0x30050 + 0x4 * n, 31, 31⟩
def Reg.PWR.EXT_CFG.KEEP_STANDBY (n : Nat) : Fld := ⟨0x30050 + 0x4 * n, 30, 30⟩
def Reg.PWR.EXT_CFG.STAGE (n : Nat) : Fld := ⟨0x30050 + 0x4 * n, 27, 24⟩
def Reg.PWR.EXT_CFG.TIMEOUT_MS (n : Nat) : Fld := ⟨0x30050 + 0x4 * n, 15, 8⟩
def Reg.PWR.EXT_CFG.OFF_DELAY_MS (n : Nat) : Fld := ⟨0x30050 + 0x4 * n, 7, 0⟩
def Reg.PWR.EXT_STATUS.word : Nat := 0x30070
def Reg.PWR.EXT_STATUS.PG_QUALIFIED : Fld := ⟨0x30070, 15, 8⟩
def Reg.PWR.EXT_STATUS.EN_DRIVEN : Fld := ⟨0x30070, 7, 0⟩
def Reg.PWR.CHATTER.word : Nat := 0x30074
def Reg.PWR.CHATTER.CHATTER : Fld := ⟨0x30074, 31, 0⟩
def Reg.PWR.DOM_ON.word (n : Nat) : Nat := 0x30080 + 0x4 * n
def Reg.PWR.DOM_ON.ON (n : Nat) : Fld := ⟨0x30080 + 0x4 * n, 31, 0⟩
def Reg.PWR.PIN.word : Nat := 0x300a0
def Reg.PWR.PIN.CAP_OVER : Fld := ⟨0x300a0, 31, 16⟩
def Reg.PWR.PIN.PIN : Fld := ⟨0x300a0, 15, 0⟩
def Reg.HKA.INT_STATUS.word : Nat := 0x31010
def Reg.HKA.INT_STATUS.VIN_WINDOW : Fld := ⟨0x31010, 1, 1⟩
def Reg.HKA.INT_STATUS.RAIL_FAULT : Fld := ⟨0x31010, 0, 0⟩
def Reg.HKA.ROUNDS.word : Nat := 0x31040
def Reg.HKA.ROUNDS.ROUNDS : Fld := ⟨0x31040, 31, 0⟩
def Reg.HKA.SEL.word : Nat := 0x31044
def Reg.HKA.SEL.CHANNEL : Fld := ⟨0x31044, 6, 0⟩
def Reg.HKA.DATA.word : Nat := 0x31048
def Reg.HKA.DATA.SUSPECT : Fld := ⟨0x31048, 31, 31⟩
def Reg.HKA.DATA.CODE : Fld := ⟨0x31048, 27, 16⟩
def Reg.HKA.DATA.VALUE : Fld := ⟨0x31048, 15, 0⟩
def Reg.HKA.FAULT_MAP.word (n : Nat) : Nat := 0x31050 + 0x4 * n
def Reg.HKA.FAULT_MAP.FAULT (n : Nat) : Fld := ⟨0x31050 + 0x4 * n, 31, 0⟩
def Reg.HKA.LAST_FAULT.word : Nat := 0x31060
def Reg.HKA.LAST_FAULT.CHANNEL : Fld := ⟨0x31060, 23, 16⟩
def Reg.HKA.LAST_FAULT.VALUE : Fld := ⟨0x31060, 15, 0⟩
def Reg.THM.INT_STATUS.word : Nat := 0x32010
def Reg.THM.INT_STATUS.LEVEL_DECIDED : Fld := ⟨0x32010, 5, 5⟩
def Reg.THM.INT_STATUS.BROKEN : Fld := ⟨0x32010, 4, 4⟩
def Reg.THM.INT_STATUS.ROR : Fld := ⟨0x32010, 3, 3⟩
def Reg.THM.INT_STATUS.TRIP : Fld := ⟨0x32010, 2, 2⟩
def Reg.THM.INT_STATUS.CRIT : Fld := ⟨0x32010, 1, 1⟩
def Reg.THM.INT_STATUS.WARN : Fld := ⟨0x32010, 0, 0⟩
def Reg.THM.LIMITS.word : Nat := 0x32040
def Reg.THM.LIMITS.TRIP : Fld := ⟨0x32040, 31, 24⟩
def Reg.THM.LIMITS.CRIT : Fld := ⟨0x32040, 23, 16⟩
def Reg.THM.LIMITS.WARN : Fld := ⟨0x32040, 15, 8⟩
def Reg.THM.LIMITS.ROR : Fld := ⟨0x32040, 7, 0⟩
def Reg.THM.STATUS.word : Nat := 0x32044
def Reg.THM.STATUS.DECIDED : Fld := ⟨0x32044, 27, 24⟩
def Reg.THM.STATUS.HOTTEST_ID : Fld := ⟨0x32044, 23, 16⟩
def Reg.THM.STATUS.HOTTEST : Fld := ⟨0x32044, 15, 0⟩
def Reg.THM.BROKEN0.word : Nat := 0x32048
def Reg.THM.BROKEN0.DIE : Fld := ⟨0x32048, 31, 0⟩
def Reg.THM.BROKEN1.word : Nat := 0x3204c
def Reg.THM.BROKEN1.CTRL : Fld := ⟨0x3204c, 27, 16⟩
def Reg.THM.BROKEN1.DIE : Fld := ⟨0x3204c, 7, 0⟩
def Reg.THM.MASK0.word : Nat := 0x32050
def Reg.THM.MASK0.DIE : Fld := ⟨0x32050, 31, 0⟩
def Reg.THM.MASK1.word : Nat := 0x32054
def Reg.THM.MASK1.CTRL : Fld := ⟨0x32054, 27, 16⟩
def Reg.THM.MASK1.DIE : Fld := ⟨0x32054, 7, 0⟩
def Reg.THM.CTEMP.word (n : Nat) : Nat := 0x32080 + 0x4 * n
def Reg.THM.CTEMP.BROKEN (n : Nat) : Fld := ⟨0x32080 + 0x4 * n, 31, 31⟩
def Reg.THM.CTEMP.TEMP (n : Nat) : Fld := ⟨0x32080 + 0x4 * n, 15, 0⟩
def Reg.VNT.INT_STATUS.word : Nat := 0x33010
def Reg.VNT.INT_STATUS.DIRTY_VENT : Fld := ⟨0x33010, 3, 3⟩
def Reg.VNT.INT_STATUS.TEST_FAIL : Fld := ⟨0x33010, 2, 2⟩
def Reg.VNT.INT_STATUS.QUAL_LOST : Fld := ⟨0x33010, 1, 1⟩
def Reg.VNT.INT_STATUS.QUALIFIED : Fld := ⟨0x33010, 0, 0⟩
def Reg.VNT.STATUS.word : Nat := 0x33040
def Reg.VNT.STATUS.QUALIFIED : Fld := ⟨0x33040, 31, 31⟩
def Reg.VNT.STATUS.BOOST_ON : Fld := ⟨0x33040, 30, 30⟩
def Reg.VNT.STATUS.TESTING : Fld := ⟨0x33040, 29, 29⟩
def Reg.VNT.STATUS.VHOLD : Fld := ⟨0x33040, 15, 0⟩
def Reg.VNT.CAP_EST.word : Nat := 0x33044
def Reg.VNT.CAP_EST.MIN_UF : Fld := ⟨0x33044, 31, 16⟩
def Reg.VNT.CAP_EST.EST_UF : Fld := ⟨0x33044, 15, 0⟩
def Reg.VNT.LAST_VENT.word : Nat := 0x33050
def Reg.VNT.LAST_VENT.VALID : Fld := ⟨0x33050, 31, 31⟩
def Reg.VNT.LAST_VENT.COMPLETE : Fld := ⟨0x33050, 30, 30⟩
def Reg.VNT.LAST_VENT.FROM_VIN : Fld := ⟨0x33050, 29, 29⟩
def Reg.VNT.LAST_VENT.AT_RISK : Fld := ⟨0x33050, 28, 28⟩
def Reg.VNT.LAST_VENT.IMAGE_PAGES : Fld := ⟨0x33050, 11, 0⟩
def Reg.VNT.LAST_VENT_BELL.word : Nat := 0x33054
def Reg.VNT.LAST_VENT_BELL.BELL : Fld := ⟨0x33054, 31, 0⟩
def Reg.VNT.VENTS.word : Nat := 0x33058
def Reg.VNT.VENTS.INCOMPLETE : Fld := ⟨0x33058, 31, 16⟩
def Reg.VNT.VENTS.TOTAL : Fld := ⟨0x33058, 15, 0⟩
def Reg.DEV.INT_STATUS.word : Nat := 0x10
def Reg.DEV.INT_STATUS.HALTED : Fld := ⟨0x10, 5, 5⟩
def Reg.DEV.INT_STATUS.BUDGET_OVER : Fld := ⟨0x10, 4, 4⟩
def Reg.DEV.INT_STATUS.RESUME_FULL : Fld := ⟨0x10, 3, 3⟩
def Reg.DEV.INT_STATUS.REDUCTION : Fld := ⟨0x10, 2, 2⟩
def Reg.DEV.INT_STATUS.READY : Fld := ⟨0x10, 1, 1⟩
def Reg.DEV.INT_STATUS.STATE_CHANGE : Fld := ⟨0x10, 0, 0⟩
def Reg.DEV.STATE.word : Nat := 0x40
def Reg.DEV.STATE.STATE : Fld := ⟨0x40, 31, 28⟩
def Reg.DEV.STATE.PREV_STATE : Fld := ⟨0x40, 27, 24⟩
def Reg.DEV.STATE.STEP : Fld := ⟨0x40, 20, 16⟩
def Reg.DEV.STATE.CHANNEL_DISABLED : Fld := ⟨0x40, 2, 2⟩
def Reg.DEV.STATE.AGENT_DEAD : Fld := ⟨0x40, 1, 1⟩
def Reg.DEV.STATE.MARGIN_LOST : Fld := ⟨0x40, 0, 0⟩
def Reg.DEV.ID.word : Nat := 0x44
def Reg.DEV.ID.PART : Fld := ⟨0x44, 31, 16⟩
def Reg.DEV.ID.VARIANT : Fld := ⟨0x44, 15, 12⟩
def Reg.DEV.ID.GANGS : Fld := ⟨0x44, 11, 8⟩
def Reg.DEV.ID.STEPPING : Fld := ⟨0x44, 7, 0⟩
def Reg.DEV.STRAPS.word : Nat := 0x48
def Reg.DEV.STRAPS.STRAPS : Fld := ⟨0x48, 7, 1⟩
def Reg.DEV.STRAPS.STRAP_TEST : Fld := ⟨0x48, 0, 0⟩
def Reg.DEV.START.word : Nat := 0x4c
def Reg.DEV.START.KIND : Fld := ⟨0x4c, 31, 30⟩
def Reg.DEV.START.LAST_DOWN : Fld := ⟨0x4c, 29, 27⟩
def Reg.DEV.START.STARTS : Fld := ⟨0x4c, 23, 0⟩
def Reg.DEV.BOOT_FAIL.word : Nat := 0x50
def Reg.DEV.BOOT_FAIL.STEP : Fld := ⟨0x50, 31, 28⟩
def Reg.DEV.BOOT_FAIL.CAUSE : Fld := ⟨0x50, 27, 24⟩
def Reg.DEV.BOOT_FAIL.DETAIL : Fld := ⟨0x50, 15, 0⟩
def Reg.DEV.HALT_CODE.word : Nat := 0x54
def Reg.DEV.HALT_CODE.EARLY : Fld := ⟨0x54, 16, 16⟩
def Reg.DEV.HALT_CODE.CODE : Fld := ⟨0x54, 15, 0⟩
def Reg.DEV.STEP_US.word (n : Nat) : Nat := 0x88 + 0x4 * (n - 2)
def Reg.DEV.STEP_US.US (n : Nat) : Fld := ⟨0x88 + 0x4 * (n - 2), 31, 0⟩
def Reg.DEV.PERST_US.word : Nat := 0xc0
def Reg.DEV.PERST_US.US : Fld := ⟨0xc0, 31, 0⟩
def Reg.SRM.INT_STATUS.word : Nat := 0x38010
def Reg.SRM.INT_STATUS.MARCH_FAIL : Fld := ⟨0x38010, 3, 3⟩
def Reg.SRM.INT_STATUS.MARCH_DONE : Fld := ⟨0x38010, 2, 2⟩
def Reg.SRM.INT_STATUS.UNCORR : Fld := ⟨0x38010, 1, 1⟩
def Reg.SRM.INT_STATUS.CORRECTED : Fld := ⟨0x38010, 0, 0⟩
def Reg.SRM.MARCH_CTRL.word : Nat := 0x38040
def Reg.SRM.MARCH_CTRL.GO : Fld := ⟨0x38040, 31, 31⟩
def Reg.SRM.MARCH_CTRL.MODE : Fld := ⟨0x38040, 30, 30⟩
def Reg.SRM.MARCH_CTRL.GUARD : Fld := ⟨0x38040, 15, 8⟩
def Reg.SRM.MARCH_CTRL.BANK : Fld := ⟨0x38040, 4, 0⟩
def Reg.SRM.MARCH_STATUS.word : Nat := 0x38044
def Reg.SRM.MARCH_STATUS.BUSY : Fld := ⟨0x38044, 31, 31⟩
def Reg.SRM.MARCH_STATUS.RESULT : Fld := ⟨0x38044, 30, 29⟩
def Reg.SRM.MARCH_STATUS.BANK : Fld := ⟨0x38044, 28, 24⟩
def Reg.SRM.MARCH_STATUS.FAIL_WORD : Fld := ⟨0x38044, 19, 0⟩
def Reg.SRM.RET_CTRL.word : Nat := 0x38048
def Reg.SRM.RET_CTRL.AUTO_LANES : Fld := ⟨0x38048, 1, 1⟩
def Reg.SRM.RET_CTRL.AUTO_PARITY : Fld := ⟨0x38048, 0, 0⟩
def Reg.SRM.RET_STATUS.word : Nat := 0x3804c
def Reg.SRM.RET_STATUS.RETAINED : Fld := ⟨0x3804c, 23, 0⟩
def Reg.SRM.ECC_CORR.word : Nat := 0x38050
def Reg.SRM.ECC_CORR.CORR : Fld := ⟨0x38050, 31, 0⟩
def Reg.SRM.ECC_UNCORR.word : Nat := 0x38054
def Reg.SRM.ECC_UNCORR.LASTING : Fld := ⟨0x38054, 31, 16⟩
def Reg.SRM.ECC_UNCORR.TRANSIENT : Fld := ⟨0x38054, 15, 0⟩
def Reg.SRM.LAST_ERR.word : Nat := 0x38058
def Reg.SRM.LAST_ERR.LASTING : Fld := ⟨0x38058, 31, 31⟩
def Reg.SRM.LAST_ERR.BANK : Fld := ⟨0x38058, 28, 24⟩
def Reg.SRM.LAST_ERR.WORD : Fld := ⟨0x38058, 19, 0⟩
def Reg.PNV.INT_STATUS.word : Nat := 0x39010
def Reg.PNV.INT_STATUS.WEAR_HIGH : Fld := ⟨0x39010, 3, 3⟩
def Reg.PNV.INT_STATUS.NO_VALID_COPY : Fld := ⟨0x39010, 2, 2⟩
def Reg.PNV.INT_STATUS.ROLLED_BACK : Fld := ⟨0x39010, 1, 1⟩
def Reg.PNV.INT_STATUS.COMPLETED : Fld := ⟨0x39010, 0, 0⟩
def Reg.PNV.STATUS.word : Nat := 0x39040
def Reg.PNV.STATUS.BUSY : Fld := ⟨0x39040, 31, 31⟩
def Reg.PNV.STATUS.INTENT_OPEN : Fld := ⟨0x39040, 30, 30⟩
def Reg.PNV.STATUS.RECOVERY : Fld := ⟨0x39040, 29, 28⟩
def Reg.PNV.STATUS.PAGE : Fld := ⟨0x39040, 10, 0⟩
def Reg.PNV.RECOVERY_SEQ.word : Nat := 0x39044
def Reg.PNV.RECOVERY_SEQ.SEQ : Fld := ⟨0x39044, 31, 0⟩
def Reg.PNV.PROGRAMS.word : Nat := 0x39048
def Reg.PNV.PROGRAMS.PROGRAMS : Fld := ⟨0x39048, 31, 0⟩
def Reg.PNV.PART_MAX.word (n : Nat) : Nat := 0x39050 + 0x4 * n
def Reg.PNV.PART_MAX.MAX (n : Nat) : Fld := ⟨0x39050 + 0x4 * n, 19, 0⟩
def Reg.PNV.LAST_INVALID.word : Nat := 0x39064
def Reg.PNV.LAST_INVALID.TYPE : Fld := ⟨0x39064, 31, 16⟩
def Reg.PNV.LAST_INVALID.PAGE : Fld := ⟨0x39064, 10, 0⟩
def Reg.TLY.INT_STATUS.word : Nat := 0x3a010
def Reg.TLY.INT_STATUS.RING_INVALID : Fld := ⟨0x3a010, 3, 3⟩
def Reg.TLY.INT_STATUS.LOST : Fld := ⟨0x3a010, 2, 2⟩
def Reg.TLY.INT_STATUS.FLUSH_DONE : Fld := ⟨0x3a010, 1, 1⟩
def Reg.TLY.INT_STATUS.RECORD : Fld := ⟨0x3a010, 0, 0⟩
def Reg.TLY.CFG.word : Nat := 0x3a040
def Reg.TLY.CFG.INT_SEV : Fld := ⟨0x3a040, 10, 8⟩
def Reg.TLY.CFG.MIN_FLUSH : Fld := ⟨0x3a040, 6, 4⟩
def Reg.TLY.CFG.MIN_RECORD : Fld := ⟨0x3a040, 2, 0⟩
def Reg.TLY.CTRL.word : Nat := 0x3a044
def Reg.TLY.CTRL.GUARD : Fld := ⟨0x3a044, 15, 8⟩
def Reg.TLY.CTRL.FLUSH : Fld := ⟨0x3a044, 0, 0⟩
def Reg.TLY.STATUS.word : Nat := 0x3a048
def Reg.TLY.STATUS.FLUSHING : Fld := ⟨0x3a048, 31, 31⟩
def Reg.TLY.STATUS.PENDING : Fld := ⟨0x3a048, 27, 16⟩
def Reg.TLY.STATUS.HELD : Fld := ⟨0x3a048, 11, 0⟩
def Reg.TLY.SEQ.word : Nat := 0x3a04c
def Reg.TLY.SEQ.NEXT : Fld := ⟨0x3a04c, 31, 0⟩
def Reg.TLY.READ_SEL.word : Nat := 0x3a050
def Reg.TLY.READ_SEL.READY : Fld := ⟨0x3a050, 31, 31⟩
def Reg.TLY.READ_SEL.VALID : Fld := ⟨0x3a050, 30, 30⟩
def Reg.TLY.READ_SEL.RING : Fld := ⟨0x3a050, 16, 16⟩
def Reg.TLY.READ_SEL.INDEX : Fld := ⟨0x3a050, 12, 0⟩
def Reg.TLY.REC.word (n : Nat) : Nat := 0x3a060 + 0x4 * n
def Reg.TLY.REC.REC (n : Nat) : Fld := ⟨0x3a060 + 0x4 * n, 31, 0⟩
def Reg.TLY.LOST.word (n : Nat) : Nat := 0x3a080 + 0x4 * n
def Reg.TLY.LOST.HIGH (n : Nat) : Fld := ⟨0x3a080 + 0x4 * n, 31, 16⟩
def Reg.TLY.LOST.LOW (n : Nat) : Fld := ⟨0x3a080 + 0x4 * n, 15, 0⟩
def Reg.TLY.OVER.word (n : Nat) : Nat := 0x3a090 + 0x4 * n
def Reg.TLY.OVER.HIGH (n : Nat) : Fld := ⟨0x3a090 + 0x4 * n, 31, 16⟩
def Reg.TLY.OVER.LOW (n : Nat) : Fld := ⟨0x3a090 + 0x4 * n, 15, 0⟩
def Reg.TLY.FLUSHES.word : Nat := 0x3a0a0
def Reg.TLY.FLUSHES.FLUSHES : Fld := ⟨0x3a0a0, 31, 0⟩
def Reg.ERR.INT_STATUS.word : Nat := 0x3b010
def Reg.ERR.INT_STATUS.CORE_LOST : Fld := ⟨0x3b010, 2, 2⟩
def Reg.ERR.INT_STATUS.INTAKE_OVF : Fld := ⟨0x3b010, 1, 1⟩
def Reg.ERR.INT_STATUS.ESCALATED : Fld := ⟨0x3b010, 0, 0⟩
def Reg.ERR.STATUS.word : Nat := 0x3b040
def Reg.ERR.STATUS.ACTIVE : Fld := ⟨0x3b040, 31, 31⟩
def Reg.ERR.STATUS.SEV : Fld := ⟨0x3b040, 30, 28⟩
def Reg.ERR.STATUS.FLAGS : Fld := ⟨0x3b040, 7, 0⟩
def Reg.ERR.QUEUES.word : Nat := 0x3b044
def Reg.ERR.QUEUES.DEPTH : Fld := ⟨0x3b044, 31, 0⟩
def Reg.ERR.INTAKE_OVF.word : Nat := 0x3b048
def Reg.ERR.INTAKE_OVF.COUNT : Fld := ⟨0x3b048, 31, 0⟩
def Reg.ERR.REPORTS.word : Nat := 0x3b04c
def Reg.ERR.REPORTS.COUNT : Fld := ⟨0x3b04c, 31, 0⟩
def Reg.ERR.QUEUE_OVF0.word : Nat := 0x3b050
def Reg.ERR.QUEUE_OVF0.WARN : Fld := ⟨0x3b050, 31, 24⟩
def Reg.ERR.QUEUE_OVF0.NOTICE : Fld := ⟨0x3b050, 23, 16⟩
def Reg.ERR.QUEUE_OVF0.INFO : Fld := ⟨0x3b050, 15, 8⟩
def Reg.ERR.QUEUE_OVF0.DEBUG : Fld := ⟨0x3b050, 7, 0⟩
def Reg.ERR.QUEUE_OVF1.word : Nat := 0x3b054
def Reg.ERR.QUEUE_OVF1.FATAL : Fld := ⟨0x3b054, 31, 24⟩
def Reg.ERR.QUEUE_OVF1.ALARM : Fld := ⟨0x3b054, 23, 16⟩
def Reg.ERR.QUEUE_OVF1.CRIT : Fld := ⟨0x3b054, 15, 8⟩
def Reg.ERR.QUEUE_OVF1.ERROR : Fld := ⟨0x3b054, 7, 0⟩
def Reg.ERR.LAST.word : Nat := 0x3b058
def Reg.ERR.LAST.SEV : Fld := ⟨0x3b058, 31, 29⟩
def Reg.ERR.LAST.PAGE : Fld := ⟨0x3b058, 23, 16⟩
def Reg.ERR.LAST.CODE : Fld := ⟨0x3b058, 15, 0⟩
def Reg.ERR.CORES.word : Nat := 0x3b060
def Reg.ERR.CORES.SERVICE : Fld := ⟨0x3b060, 18, 16⟩
def Reg.ERR.CORES.LOST : Fld := ⟨0x3b060, 15, 8⟩
def Reg.ERR.CORES.LIVE : Fld := ⟨0x3b060, 7, 0⟩
def Reg.ERR.WDOG_CFG.word : Nat := 0x3b064
def Reg.ERR.WDOG_CFG.WDOG_FLOCKS : Fld := ⟨0x3b064, 3, 0⟩
def Reg.PMC.INT_STATUS.word : Nat := 0x3c010
def Reg.PMC.INT_STATUS.OVERFLOW : Fld := ⟨0x3c010, 1, 1⟩
def Reg.PMC.INT_STATUS.WINDOW_END : Fld := ⟨0x3c010, 0, 0⟩
def Reg.PMC.CTRL.word : Nat := 0x3c040
def Reg.PMC.CTRL.RUN : Fld := ⟨0x3c040, 31, 31⟩
def Reg.PMC.CTRL.CLEAR : Fld := ⟨0x3c040, 30, 30⟩
def Reg.PMC.WINDOW.word : Nat := 0x3c044
def Reg.PMC.WINDOW.WINDOW : Fld := ⟨0x3c044, 15, 0⟩
def Reg.PMC.FILTER.word : Nat := 0x3c048
def Reg.PMC.FILTER.CLASS : Fld := ⟨0x3c048, 23, 16⟩
def Reg.PMC.FILTER.EVCLASS : Fld := ⟨0x3c048, 11, 0⟩
def Reg.PMC.FILTER_LO.word : Nat := 0x3c04c
def Reg.PMC.FILTER_LO.START : Fld := ⟨0x3c04c, 17, 0⟩
def Reg.PMC.FILTER_HI.word : Nat := 0x3c050
def Reg.PMC.FILTER_HI.END : Fld := ⟨0x3c050, 17, 0⟩
def Reg.PMC.STATUS.word : Nat := 0x3c054
def Reg.PMC.STATUS.FILTER_ACTIVE : Fld := ⟨0x3c054, 31, 31⟩
def Reg.PMC.STATUS.WINDOW_SEQ : Fld := ⟨0x3c054, 15, 0⟩
def Reg.PMC.SAMPLE.word : Nat := 0x3c058
def Reg.PMC.SAMPLE.CLK : Fld := ⟨0x3c058, 31, 0⟩
def Reg.PMC.PCTL.word (n : Nat) : Nat := 0x3c100 + 0x4 * n
def Reg.PMC.PCTL.EN (n : Nat) : Fld := ⟨0x3c100 + 0x4 * n, 31, 31⟩
def Reg.PMC.PCTL.FILT (n : Nat) : Fld := ⟨0x3c100 + 0x4 * n, 30, 30⟩
def Reg.PMC.PCTL.OVF (n : Nat) : Fld := ⟨0x3c100 + 0x4 * n, 29, 29⟩
def Reg.PMC.PCTL.EVENT (n : Nat) : Fld := ⟨0x3c100 + 0x4 * n, 7, 0⟩
def Reg.PMC.PVAL_LO.word (n : Nat) : Nat := 0x3c200 + 0x8 * n
def Reg.PMC.PVAL_LO.VAL_LO (n : Nat) : Fld := ⟨0x3c200 + 0x8 * n, 31, 0⟩
def Reg.PMC.PVAL_HI.word (n : Nat) : Nat := 0x3c204 + 0x8 * n
def Reg.PMC.PVAL_HI.VAL_HI (n : Nat) : Fld := ⟨0x3c204 + 0x8 * n, 15, 0⟩
def Reg.PMC.FIX_LO.word (n : Nat) : Nat := 0x3c400 + 0x8 * n
def Reg.PMC.FIX_LO.FIX_LO (n : Nat) : Fld := ⟨0x3c400 + 0x8 * n, 31, 0⟩
def Reg.PMC.FIX_HI.word (n : Nat) : Nat := 0x3c404 + 0x8 * n
def Reg.PMC.FIX_HI.FIX_HI (n : Nat) : Fld := ⟨0x3c404 + 0x8 * n, 15, 0⟩
def Reg.DBG.INT_STATUS.word : Nat := 0x3d010
def Reg.DBG.INT_STATUS.L3_ATTEMPT : Fld := ⟨0x3d010, 3, 3⟩
def Reg.DBG.INT_STATUS.AUTH_FAIL : Fld := ⟨0x3d010, 2, 2⟩
def Reg.DBG.INT_STATUS.AUTH_OK : Fld := ⟨0x3d010, 1, 1⟩
def Reg.DBG.INT_STATUS.SESSION_END : Fld := ⟨0x3d010, 0, 0⟩
def Reg.DBG.STATUS.word : Nat := 0x3d040
def Reg.DBG.STATUS.LEVEL : Fld := ⟨0x3d040, 31, 30⟩
def Reg.DBG.STATUS.L2_LOCKED : Fld := ⟨0x3d040, 29, 29⟩
def Reg.DBG.CTRL.word : Nat := 0x3d044
def Reg.DBG.CTRL.GUARD : Fld := ⟨0x3d044, 15, 8⟩
def Reg.DBG.CTRL.L2_LOCK : Fld := ⟨0x3d044, 1, 1⟩
def Reg.DBG.CTRL.END_SESSION : Fld := ⟨0x3d044, 0, 0⟩
def Reg.DBG.CHAL.word (n : Nat) : Nat := 0x3d050 + 0x4 * n
def Reg.DBG.CHAL.CHAL (n : Nat) : Fld := ⟨0x3d050 + 0x4 * n, 31, 0⟩
def Reg.DBG.COUNTS.word : Nat := 0x3d070
def Reg.DBG.COUNTS.AUTH_FAILS : Fld := ⟨0x3d070, 31, 16⟩
def Reg.DBG.COUNTS.SESSIONS : Fld := ⟨0x3d070, 15, 0⟩

end Sys2Proof.Machine
end

