-- ==== Sys2Proof/Machine/SMap.lean ====
section
/-! DEFINITION. Sparse maps in canonical form: reading, writing and the form itself. What an unlisted key reads as is the argument `dflt`. -/

namespace Sys2Proof.Machine

/-- What key `k` of `m` holds; an unlisted key holds `dflt k`. -/
def SMap.get {α : Type} (dflt : Nat → α) (m : SMap α) (k : Nat) : α :=
  match m with
  | [] => dflt k
  | (k', v) :: rest => if k = k' then v else SMap.get dflt rest k

/-- `m` without an entry for key `k`. -/
def SMap.erase {α : Type} (m : SMap α) (k : Nat) : SMap α := m.filter (fun e => decide (e.1 ≠ k))

/-- `m` with the entry (`k`, `v`) put into its place, in that of an earlier entry with the same key. -/
def SMap.put {α : Type} (m : SMap α) (k : Nat) (v : α) : SMap α :=
  match m with
  | [] => [(k, v)]
  | (k', v') :: rest =>
    if k < k' then (k, v) :: (k', v') :: rest
    else if k = k' then (k, v) :: rest
    else (k', v') :: SMap.put rest k v

/-- `m` with key `k` holding `v`, in canonical form again. -/
def SMap.set {α : Type} [DecidableEq α] (dflt : Nat → α) (m : SMap α) (k : Nat) (v : α) : SMap α :=
  if v = dflt k then SMap.erase m k else SMap.put m k v

/-- Every key of `m` lies above `lo` and the keys rise strictly, and no entry equals what an unlisted key reads as. -/
def SMap.wfFrom {α : Type} [DecidableEq α] (dflt : Nat → α) (lo : Nat) (m : SMap α) : Bool :=
  match m with
  | [] => true
  | (k, v) :: rest => decide (lo ≤ k) && decide (v ≠ dflt k) && SMap.wfFrom dflt (k + 1) rest

/-- The canonical form. -/
def SMap.wf {α : Type} [DecidableEq α] (dflt : Nat → α) (m : SMap α) : Bool :=
  SMap.wfFrom dflt 0 m

/-- `m` with every value passed through `f`; entries that then read as unlisted go. -/
def SMap.mapv {α : Type} [DecidableEq α] (dflt : Nat → α) (f : Nat → α → α) (m : SMap α) : SMap α :=
  (m.map (fun e => (e.1, f e.1 e.2))).filter (fun e => decide (e.2 ≠ dflt e.1))

/-- The entries whose key lies in [lo, hi). -/
def SMap.within {α : Type} (m : SMap α) (lo hi : Nat) : SMap α :=
  m.filter (fun e => decide (lo ≤ e.1) && decide (e.1 < hi))

/-- `m` without the entries whose key satisfies `p` (those keys then read as unlisted). -/
def SMap.drop {α : Type} (p : Nat → α → Bool) (m : SMap α) : SMap α :=
  m.filter (fun e => !p e.1 e.2)

end Sys2Proof.Machine
end

