-- ==== Sys2Proof/Machine/State.lean ====
section
/-! DEFINITION. The state of the block as plain data: everything the spec gives the GNX-4680, the queue of waiting commands, and what the device has sent.
The rule that names a field stands in its docstring; INVENTORY.md lists every field with its reset value. -/

namespace Sys2Proof.Machine

/-! ### What the device sends -/

/-- What the DRAM controller does on a subchannel (R380, R381, R389, R395, R398). -/
inductive DramOp where
  | refresh | retrain | neighbour | write | selfRefresh | wake
deriving DecidableEq, Repr

/-- Return codes of the mailbox that chapter 09 names (R441). -/
inductive MboxRet where
  | success | unsupported | invalidInput | invalidSlot | invalidHandle | busy
deriving DecidableEq, Repr

/-- Answers of the DOE instance (R422, R440, R553, R554, R724): busy, an error, or the object named by its request code with its values. -/
inductive DoeAns where
  | busy
  | error (code : Nat)
  | object (request : Nat) (values : List Nat)
deriving DecidableEq, Repr

/-- A message, frame or answer that the device sends. -/
inductive Output where
  /-- MSI-X vector (R422, R865) -/
  | msix (vector : Nat)
  /-- in-band interrupt of the sideband (R866) -/
  | ibi
  /-- value of a register read, and who asked (R855) -/
  | regValue (src : Source) (addr : Nat) (value : Word)
  /-- S2M MemData: Tag, poison, the line, DevLoad, clk of hand-off (R427, R428) -/
  | memData (tag : Nat) (poison : Bool) (line : Line) (devLoad : Nat) (clk : Nat)
  /-- S2M Cmp: Tag, DevLoad, clk of hand-off (R427, R428) -/
  | cmp (tag : Nat) (devLoad : Nat) (clk : Nat)
  /-- an array (true) or interface domain of a die is switched on or off; the isolation cells of a die are set (R107, R112) -/
  | domain (d : Nat) (array on : Bool)
  /-- controller domain `n` of R659 is switched on or off -/
  | ctrlDomain (n : Nat) (on : Bool)
  | isolate (d : Nat)
  /-- a die command with its code and operands (R101) -/
  | die (d : Nat) (code : Nat) (args : List Nat)
  /-- a Zalkor frame of slot `n`: its 68 bytes, and what each lane carries of it, scrambled but in training (R605 to R607) -/
  | cartFrame (n : Nat) (bytes : List Nat) (lanes : List (List Nat))
  /-- Global Persistent Flush phase 1 or 2 completes (R434) -/
  | gpfDone (phase : Nat)
  /-- an action on subchannel `sub` of DRAM channel `ch` -/
  | dram (op : DramOp) (ch sub : Nat) (args : List Nat)
  /-- a CXL.io memory write: address, bytes, TH, steering tag, processing hint (R444) -/
  | dmaWrite (addr : Nat) (bytes : List Nat) (th : Bool) (st ph : Nat)
  /-- a CXL.io memory read: tag, address, length (R491, R627) -/
  | dmaRead (tag addr len : Nat)
  /-- answers to CXL.io requests that break the rules: Completer Abort, Unsupported Request (R445) -/
  | completerAbort
  | unsupportedRequest
  /-- link training starts (R418, R731) -/
  | linkTrain
  /-- the answer to a mailbox command: opcode, return code by name, values (R441) -/
  | mailbox (op : Nat) (ret : MboxRet) (values : List Nat)
  /-- the answer to a DOE, SPDM or key-management object (R440, R553) -/
  | doe (answer : DoeAns)
  /-- what the Deleper port shifts out of a data register (R822 to R826) -/
  | tdo (values : List Nat)
  /-- the answer of the I3C target to a command code or a read (R866) -/
  | i3c (values : List Nat)
deriving DecidableEq, Repr

/-! ### Device state, start-up, power (chapters 00, 13, 14) -/

/-- The device states of R11. -/
inductive DevSt where
  | off | seqUp | boot | mount | service | degraded | vent | seqDown | halt | test | rma
deriving DecidableEq, Repr

/-- One thing that SEQ_DOWN switches off (R664). -/
inductive DownItem where
  | rail (r : Rail)
  | ext (n : Nat)
  | domains
deriving DecidableEq, Repr

/-- Device state and start-up (R11, R12, R717 to R734). -/
structure Dev where
  /-- the state of R11 -/
  st : DevSt := .off
  /-- the state before the last change (R736) -/
  prev : DevSt := .off
  /-- POR has been released and VDD_AON holds (R717, R876) -/
  por : Bool := false
  /-- a SEQ_UP has begun since POR release, so that the next start is a warm start (R717) -/
  started : Bool := false
  /-- step of R718 in progress, 2 to 13; 0 when no start is in progress -/
  step : Nat := 0
  /-- step 7 of start-up has ended, so the handler makes records (R722, R788) -/
  tallyReady : Bool := false
  /-- resume in progress (R733) -/
  resuming : Bool := false
  /-- the rota restarts at the next flock boundary, which ends a start (R728) or a resume (R733) -/
  rotaPending : Bool := false
  /-- a Vent run on entry to HALT is in progress (R15, R687) -/
  haltVent : Bool := false
  /-- reductions listed for DEGRADED (R11): die d at d, ring agent of stop s at 100 + s, DRAM channel c at 200 + c -/
  reduced : List Nat := []
  /-- PWR_REQ went off in the clk of a FATAL record, which goes first (R13) -/
  offDue : Bool := false
  /-- µs from T0, as the last command that carries a time gave it (chapter 14, DEV page) -/
  us : Nat := 0
deriving DecidableEq, Repr

/-- Supply, sequencer and standby (chapter 13). -/
structure Pwr where
  /-- VIN qualified for power-up (R657) -/
  vinQual : Bool := false
  /-- VIN present -/
  vin : Bool := false
  /-- consecutive housekeeping rounds with VIN outside 2.7 to 5.5 V (R657) -/
  vinOut : Nat := 0
  /-- filtered PWR_REQ level (R661) -/
  req : Bool := false
  /-- power-good inputs that are qualified (R661) -/
  pg : List PgInput := []
  /-- rails that are on -/
  rails : List Rail := []
  /-- external channels whose EXT_EN is high, bit n for channel n (R693) -/
  extEn : BitVec 8 := 0
  /-- domains that are on, bit j for domain j (R659, R695) -/
  dom : BitVec 136 := 0
  /-- dies whose lanes the isolation cells hold (R107, R112) -/
  iso : BitVec 40 := 0
  /-- every controller domain is on (R851) -/
  ctrlOn : Bool := false
  /-- PWR_REQ went off during SEQ_UP: SEQ_DOWN follows the stage in progress (R665) -/
  offInSeq : Bool := false
  /-- the 10 ms hold after entering OFF or after POR release is running (R665) -/
  offHold : Bool := false
  /-- what SEQ_DOWN has still to see off, the head already switched off and awaited (R664) -/
  down : List DownItem := []
  /-- FAULT_N is asserted -/
  faultN : Bool := false
  /-- VENT_N is driven low (R680) -/
  ventN : Bool := false
  /-- the device is in standby (R675) -/
  standby : Bool := false
  /-- a requested standby waits for its drain and flush (R675 step 2, R779) -/
  standbyWait : Bool := false
  /-- the reference clock runs (R23) -/
  refClk : Bool := true
  /-- bells credited from the standby oscillator in the present standby (R23, R58) -/
  credited : Nat := 0
  /-- the reference clock stopped in the present standby (R23) -/
  estimated : Bool := false
  /-- the kept channel that faulted during standby (R667, R734) -/
  keptFault : Option Nat := none
  /-- SEQ_DOWN begins when the running flush ends (R779) -/
  downAfterFlush : Bool := false
  /-- the boost is charging VHOLD (R712) -/
  boost : Bool := false
  /-- a failure to come up has been latched whose record is not yet written (R663, R722) -/
  failed : Bool := false
deriving DecidableEq, Repr

/-- A housekeeping channel's last sample (R668, R700). -/
structure HkSample where
  code : Nat := 0
  value : Int := 0
  /-- consecutive samples out of window, the last included (R669) -/
  outs : Nat := 0
deriving DecidableEq, Repr

/-- A temperature sensor (R671 to R674). -/
structure Sensor where
  /-- last raw code -/
  code : Nat := 0
  /-- last reading in 1/16 °C -/
  temp : Int := 0
  /-- the last reading and 256 earlier ones, newest first (R672) -/
  hist : List Int := []
  /-- rounds for which the raw code has not changed (R671) -/
  same : Nat := 0
  /-- consecutive rounds in range with a changing code (R671) -/
  good : Nat := 0
  broken : Bool := false
  warnArmed : Bool := true
  critArmed : Bool := true
  /-- consecutive rounds more than 3 °C below WARN, and below CRIT (R674) -/
  warnBelow : Nat := 0
  critBelow : Nat := 0
  /-- consecutive rounds at TRIP or more (R674) -/
  trip : Nat := 0
deriving DecidableEq, Repr

/-- Housekeeping, thermal and VHOLD state (R668 to R679). -/
structure Hk where
  /-- channel samples, 0 to 127 -/
  ch : SMap HkSample := []
  /-- sensors: die d at key d, controller sensor i at key 0x40 + i -/
  sensors : SMap Sensor := []
  /-- level last decided (R673) -/
  level : Nat := 0
  /-- consecutive rounds that let the level fall (R673) -/
  fallRounds : Nat := 0
  /-- consecutive rounds with VHOLD at 10.5 V or more (R678) -/
  vholdGood : Nat := 0
  /-- consecutive rounds with VHOLD below 10.0 V (R679) -/
  vholdLow : Nat := 0
  vholdQual : Bool := false
  /-- a load test is in progress (R678) -/
  testing : Bool := false
  /-- VHOLD in mV at the start of the load test -/
  testStart : Int := 0
  /-- bell at which the last load test ended (R678) -/
  testBell : Nat := 0
  /-- sum and number of the input-power samples (mW) of the present flock (R670) -/
  powerSum : Nat := 0
  powerN : Nat := 0
deriving DecidableEq, Repr

/-! ### The Bellwether, the rota and turns (chapter 01) -/

/-- Kinds of a turn (R81). -/
inductive TurnKind where
  | idle | slc | tlc | none
deriving DecidableEq, Repr

/-- The time base (R9, R24). -/
structure Clock where
  /-- bell counter, 56 bits; it never wraps (R9) -/
  bell : Nat := 0
  /-- clk within the bell of the last command -/
  phase : Nat := 0
  /-- the present bell began with a flock boundary whose flock work is still to do (R24) -/
  flockDue : Bool := false
  /-- the present bell began with an epoch boundary that is still to do (R258) -/
  epochDue : Bool := false
  /-- pages committed in the clk of a flock boundary that is still to do: they wait for the next one (R10) -/
  late : List Nat := []
deriving DecidableEq, Repr

/-- Write budget, announcements, FRAME_SYNC and bell compare (R43 to R52). -/
structure Bellw where
  /-- request-with-data credits are withheld (R43, R44) -/
  holding : Bool := false
  /-- phase of the present bell from which clk count as withheld (R44) -/
  heldFrom : Nat := 0
  /-- lines of writes accepted while the level was 0, to be taken from the next refills (R430) -/
  debt : Nat := 0
  /-- the comparison of R52 is armed -/
  cmpArmed : Bool := false
  /-- FRAME_SYNC: synchronised level, whether a change is being filtered, FS_FILTER as taken, clk of the change (R51) -/
  fsLevel : Bool := false
  fsPending : Bool := false
  fsFilter : Nat := 0
  fsClk : Nat := 0
  /-- clk of the last accepted edge, if any (R51) -/
  fsLast : Option Nat := none
  /-- classes declared hammering since the last bell boundary, bit c for class c of R60 (R50) -/
  hammerNew : BitVec 7 := 0
deriving DecidableEq, Repr

/-- A gang's rota and rotation (R27 to R34). -/
structure Rota where
  /-- the rota is in force (from step 13 of start-up on) -/
  on : Bool := false
  /-- a rotation is in progress -/
  rotating : Bool := false
  /-- a die failure has cut the last turn, and the next item has not started yet (R31, R112) -/
  cut : Bool := false
  /-- the kind of the rotation in progress: slc or tlc -/
  rotKind : TurnKind := .slc
  /-- the current turn -/
  kind : TurnKind := .none
  /-- the die programming (kind slc or tlc), else the position whose turn comes after the idle turns left; 20 after the last -/
  pos : Nat := 0
  /-- idle turns still to run before position `pos` -/
  idleLeft : Nat := 0
  /-- clk at which the current turn ends (R31, R81) -/
  turnEnd : Nat := 0
  /-- rotations of the present run that omitted their cap idle turns (R34) -/
  omitRun : Nat := 0
  /-- rotations that must still keep them (R34) -/
  keepLeft : Nat := 0
  /-- the rotation in progress omits its cap idle turns -/
  omitting : Bool := false
  /-- kind of the last rotation (R181) -/
  lastKind : TurnKind := .none
  /-- a Vent turn runs on gang-local dies i and i + 10 (R681) -/
  ventTurn : Option Nat := none
deriving DecidableEq, Repr

/-! ### Reports and the Tally (chapter 16) -/

/-- A report (R785): severity, master class, CODE, PAGE, INSTANCE, P1 to P3, and BELL once taken in. -/
structure Report where
  sev : Nat
  cls : Nat
  code : Nat
  page : Nat
  inst : Nat
  p1 : Nat
  p2 : Nat
  p3 : Nat
  bell : Nat := 0
deriving DecidableEq, Repr

/-- A Tally record (R775); its CRC is the one of R607 over its other bytes. -/
structure Rec where
  seq : Nat
  bell : Nat
  sev : Nat
  cls : Nat
  code : Nat
  page : Nat
  inst : Nat
  p1 : Nat
  p2 : Nat
  p3 : Nat
  rep : Nat
deriving DecidableEq, Repr

/-- A slot of the Tally buffer (R778, R780): its record, whether it is pending, whether its record is already in the ring, whether a flush dropped it (R782). -/
structure BufSlot where
  rcd : Rec
  pend : Bool
  inRing : Bool
  dropped : Bool
deriving DecidableEq, Repr

/-- The flush that runs or waits (R779). -/
structure Flush where
  running : Bool := false
  /-- a flush starts when the running one ends -/
  queued : Bool := false
  /-- an ERROR flush waits for 2^16 bells after the previous one's start -/
  deferred : Bool := false
  /-- bell of the last flush start -/
  lastStart : Option Nat := none
  /-- what the running flush has still to copy: buffer slot, SEQ of its record, ring slot -/
  plan : List (Nat × Nat × Nat) := []
deriving DecidableEq, Repr

/-- A management core (R790, R791): live, lost to its watchdog or as a dead agent, the tasks assigned to it by number. -/
structure Core where
  live : Bool := false
  lost : Bool := false
  tasks : List Nat := []
deriving DecidableEq, Repr

/-- Aggregator, handler, Tally and fault service (chapter 16). -/
structure Tally where
  /-- the page FIFOs: page number and reports, oldest first, at most 2 each (R785) -/
  fifo : SMap (List Report) := []
  /-- the severity queues, oldest first, at most 8 each (R786) -/
  queue : SMap (List Report) := []
  /-- escalation flags and discards counted since each flag was set (R786) -/
  escFlag : BitVec 8 := 0
  escCount : SMap Nat := []
  /-- severities with a summary report queued and not yet recorded, and its queue's severity (R786) -/
  escQueued : BitVec 8 := 0
  /-- the buffer's slots, 0 to 2047 (R778) -/
  buf : SMap (Option BufSlot) := []
  /-- buffer slot of the most recently created record (R781) -/
  last : Option Nat := none
  /-- SEQ of the next record (R784) -/
  seq : Nat := 0
  /-- the Tally ring of PNV pages 512 to 1535, slots 0 to 8191; a slot whose record fails its CRC holds none (R778) -/
  ring : SMap (Option Rec) := []
  flush : Flush := {}
  /-- clk at which the record step in progress ends, and its severity (R787, R805) -/
  stepTill : Nat := 0
  stepSev : Nat := 0
  /-- the record captured by READ_SEL (R799) -/
  sel : Option Rec := none
  /-- notifications held per severity, newest last, at most 8 each (R789) -/
  notes : SMap (List Report) := []
  cores : SMap Core := []
deriving DecidableEq, Repr

/-! ### Medium, sectors and translation (chapters 02, 03, 04) -/

/-- What a consumer of a sector decode is (R136): it fixes whether the tag is verified. -/
inductive Consumer where
  | host | stream | reencrypt | drover | shepherd | check
deriving DecidableEq, Repr

/-- Outcome of a sector decode (R136), with the decoded data and metadata symbol where there are any. -/
inductive SecOut where
  | data (d : SectorData) (m : Chunk)
  | zeros
  | poison (m : Chunk)
  | fail (cause : Nat)
deriving DecidableEq, Repr

/-- The stored bytes and the metadata symbol of a sector (R125, R133): positions 0 to 15 and position 16 of its stripe. -/
structure SecImg where
  data : SectorData := 0
  md : Chunk := 0
deriving DecidableEq, Repr

/-- A confirmation sense that waits (R110): die number, where the chunk lies, the corrected chunk. -/
structure Confirm where
  die : Nat
  psa : Nat
  sector : Nat
  chunk : Chunk
deriving DecidableEq, Repr

/-- A catch-up sense that waits (R143): the erased die, the segment and its 16 corrected chunks for that die. -/
structure CatchUp where
  die : Nat
  psa : Nat
  chunks : List Chunk
deriving DecidableEq, Repr

/-- A segment queued for rewrite (R140): the PSA that was read, and the sectors with a lasting fault (R138). -/
structure Rewrite where
  lseg : Nat
  psa : Nat
  bad : List Nat
deriving DecidableEq, Repr

/-- The Shepherd's walk of a gang (R141 to R144). -/
structure Shep where
  credit : Nat := 0
  /-- visits started in this pass's gang since the pass began are in SHP.SCANNED; flock at which the pass began -/
  passStart : Nat := 0
  /-- PASS_HOURS as the pass took it, and whether BEHIND has been raised in it (R142, R158) -/
  hours : Nat := 24
  behind : Bool := false
  catchUps : List CatchUp := []
  /-- flock at which NEXT_SEG was last saved (R144) -/
  saved : Nat := 0
deriving DecidableEq, Repr

/-- Map state of a segment (R167). -/
inductive MapSt where
  | unmapped | caldera | tlc | poisoned
deriving DecidableEq, Repr

/-- A segment map entry (R167). -/
structure MapE where
  st : MapSt := .unmapped
  psa : Nat := 0
deriving DecidableEq, Repr

/-- State of a reverse map entry (R170). -/
inductive RevSt where
  | free | live | stale | pending
deriving DecidableEq, Repr

/-- A reverse map entry (R170). -/
structure RevE where
  st : RevSt := .free
  lseg : Nat := 0
deriving DecidableEq, Repr

/-- Band states (R171). -/
inductive BandSt where
  | free | caldera | tlcOpen | tlcVerify | tlcClosed | released | retired | system
deriving DecidableEq, Repr

/-- A band (R171, R187, R192): state, strikes, wear of its paddocks, fold epoch, flock of its release, LIVE and PENDING segments it holds, queued for refresh. -/
structure Band where
  st : BandSt := .free
  strikes : Nat := 0
  wear : Nat := 0
  epoch : Nat := 0
  relFlock : Nat := 0
  live : Nat := 0
  refresh : Bool := false
deriving DecidableEq, Repr

/-- State of a paddock of a CALDERA band (R172). -/
inductive PadSt where
  | empty | opened | full | closed
deriving DecidableEq, Repr

/-- A Caldera paddock (R172, R189): state, next row batch, parity slot held. -/
structure Pad where
  st : PadSt := .empty
  next : Nat := 0
  slot : Option Nat := none
  /-- a word of the parity slot was lost, so that it rebuilds nothing any more (R747) -/
  parBad : Bool := false
deriving DecidableEq, Repr

/-- A staged line (R177): data, byte mask, bell of its last write, KeyID, clk of acceptance. -/
structure StLine where
  data : Line := 0
  mask : Mask := 0
  bell : Nat := 0
  keyid : Nat := 0
  clk : Nat := 0
  /-- bit s: the write of sector s was made by a STRICT check (R549) -/
  strict : Bool := false
  /-- a word of the line was lost to a lasting fault (R747) -/
  lost : Bool := false
deriving DecidableEq, Repr

/-- How far the build of a closed segment has come (R178, R179). -/
inductive SnapSt where
  | waiting | built
deriving DecidableEq, Repr

/-- A closed segment's snapshot (R177, R178): its group slot if it is a group's, its lines by index, whether the old segment has been read (R178). -/
structure Snap where
  id : Nat
  lseg : Nat
  group : Option Nat
  lines : SMap StLine
  st : SnapSt := .waiting
  old : Option (List SecImg) := none
  oldBad : List Nat := []
  /-- CUR when its build asked for an advance, for which it waits (R542, R543) -/
  adv : Option Nat := none
deriving DecidableEq, Repr

/-- A built segment (R178): the images to program, the PSA it copies (rewrites, re-encryption) if any, the snapshot it frees. -/
structure Built where
  lseg : Nat
  group : Option Nat
  secs : List SecImg
  snap : Option Nat
  /-- PSA that the map must still name for a rewrite to be applied (R140) -/
  cmp : Option Nat
  region : Option Nat
  /-- it changes the plaintext of its segment, so sector-cache entries go (R386) -/
  fresh : Bool := true
  /-- a trim or an Eruption has dropped it: it is programmed but not mapped (R206, R542) -/
  dropped : Bool := false
deriving DecidableEq, Repr

/-- A row batch of a gang (R179): up to 16 built segments; clk of the last one's joining. -/
structure RowBatch where
  segs : List Built
  joined : Nat
  /-- it is ready: 16 segments, or completed with empty slots -/
  ready : Bool := false
deriving DecidableEq, Repr

/-- A row batch placed for the rotation in progress (R180): paddock and row batch number in it. -/
structure Placed where
  paddock : Nat
  row : Nat
  segs : List Built
deriving DecidableEq, Repr

/-- A segment loaded for a fold (R185): where it goes in the band (page and fragment), its source PSA, its images. -/
structure FoldSeg where
  lseg : Nat
  src : Nat
  secs : List SecImg
  cls : Nat
  /-- its sense has been decoded, and it is in the buffers -/
  ready : Bool := false
deriving DecidableEq, Repr

/-- The fold of a gang (R184 to R187): the TLC_OPEN band, its segments in slot order, rotations programmed, the band in verify with its failing slots and those still to sense. -/
structure Fold where
  band : Option Nat := none
  segs : List FoldSeg := []
  rots : Nat := 0
  vband : Option Nat := none
  vsegs : List FoldSeg := []
  vnext : Nat := 0
  vfail : List Nat := []
  /-- slots judged -/
  vdone : Nat := 0
  /-- source PSAs that go first in their class (R187) -/
  retry : List Nat := []
  /-- compaction victim and cold-migration source (R192, R193) -/
  victim : Option Nat := none
  cold : Option Nat := none
  /-- the wear spread exceeds SPREAD_LIMIT (R228) -/
  spread : Bool := false
  /-- fold epoch of the band in verify; that of the band being programmed, as of its last program turn so far (R186) -/
  vepoch : Nat := 0
  tepoch : Nat := 0
  /-- fold bands that wait for their verify, oldest first: band, segments, fold epoch (R181, R186) -/
  vwait : List (Nat × List FoldSeg × Nat) := []
deriving DecidableEq, Repr

/-- A journal record (R198). -/
structure JRec where
  ty : Nat
  slot : Nat
  a : Nat
  b : Nat
deriving DecidableEq, Repr

/-- A journal block (R198, R199): sequence number, records, complete, programmed into copy 0 and copy 1, sweep cycles completed when it was written; it has been handed to the copies, and its PSA in each. -/
structure JBlock where
  seq : Nat
  recs : List JRec
  closed : Bool := false
  done0 : Bool := false
  done1 : Bool := false
  cycle : Nat := 0
  queued : Bool := false
  at0 : Option Nat := none
  at1 : Option Nat := none
deriving DecidableEq, Repr

/-- What a system-area row batch holds (R176, R199, R200, R275): journal blocks of a copy; a map page with its entries; part `n` of the directory, the band table with the wear counters, the drift tables. -/
inductive SysKind where
  | journal (copy : Nat) (seqs : List Nat)
  | mapPage (n : Nat) (entries : SMap MapE)
  | directory (n : Nat)
  | bandTable (n : Nat)
  | driftTable (n : Nat)
deriving DecidableEq, Repr

/-- A system-area row batch (R176, R180): where in the system area of its gang it goes. -/
structure SysRow where
  kind : SysKind
  paddock : Nat
  row : Nat
deriving DecidableEq, Repr

/-- The tables of a sweep cycle's end on their way into the system area (R200): band table with wear, map-page directory, row batches still to be programmed. The drift tables are in Drift.toSave. -/
structure TabSnap where
  bands : SMap Band
  dir : SMap (Option Nat)
  /-- row batches that have not yet found room -/
  todo : List SysKind
  left : Nat
deriving DecidableEq, Repr

/-- States of a commit group (R202 to R204, R223). -/
inductive GroupSt where
  | free | opened | draining | committed | done | overflow | aborted
deriving DecidableEq, Repr

/-- A commit group slot (R202 to R204): state, region, GROUP_LIMIT when it opened, pending entries, segments it has staged or pending. -/
structure Group where
  st : GroupSt := .free
  region : Nat := 0
  limit : Nat := 0
  pend : SMap MapE := []
  segs : List Nat := []
  /-- an OVERFLOW group whose commit has acted as an abort (R204, R223) -/
  ended : Bool := false
deriving DecidableEq, Repr

/-- The trim in progress (R206): range, clk T, whether the cache walk has ended. -/
structure Trim where
  busy : Bool := false
  first : Nat := 0
  count : Nat := 0
  at_ : Nat := 0
  walked : Bool := false
  /-- segments of the range mapped from writes accepted after T: step 3 leaves them (R206) -/
  kept : List Nat := []
deriving DecidableEq, Repr

/-- A write whose Cmp waits for the journal under write-through (R46): Tag, segment, acceptance clk, the snapshot its line went into, the journal block that holds its MAP_SET and the gang that programmed its data. -/
structure WtAck where
  tag : Nat
  lseg : Nat
  clk : Nat
  snap : Option Nat := none
  block : Option (Nat × Nat) := none
deriving DecidableEq, Repr

/-- A parity rebuild (R190, R191): gang, paddock; the die position whose tile program failed, none where a verify found the failure; row batch and fragments concerned; segments still to be sensed,
by number in the paddock, and how many have not been judged; those decoded, and those that could not be, with what their last sense met. -/
structure Rebuild where
  id : Nat
  gang : Nat
  paddock : Nat
  pos : Option Nat
  row : Nat
  todo : List Nat
  left : Nat
  got : List (Nat × List SecImg) := []
  lost : List (Nat × Sensed) := []
deriving DecidableEq, Repr

/-- Translation, staging and Drover state of the device (chapter 04). -/
structure Xlt where
  map : SMap MapE := []
  rev : SMap RevE := []
  bands : SMap Band := []
  pads : SMap Pad := []
  staged : SMap StLine := []
  snaps : List Snap := []
  nextSnap : Nat := 0
  /-- the gang whose turn it is to take a row batch, and the built segments that no gang has room for (R179) -/
  gangRR : Nat := 0
  wait : List Built := []
  groups : SMap Group := []
  trim : Trim := {}
  query : Option Nat := none
  tail : List JBlock := []
  area : List JBlock := []
  nextBlock : Nat := 0
  /-- the map copy of the system area, the map-page directory as it stands and as last written, band table with the wear counters, the page at which the sweep stands, tables on their way into the system area (R176, R200) -/
  mapCopy : SMap MapE := []
  mapDir : SMap (Option Nat) := []
  dirCopy : SMap (Option Nat) := []
  bandCopy : SMap Band := []
  sweep : Nat := 0
  tables : Option TabSnap := none
  /-- where the parts of directory (key n), band table (1000 + n) and drift tables (2000 + n) lie in the system area -/
  tabAt : SMap (Option Nat) := []
  /-- the band table has been loaded since the last cold start (R726, R863) -/
  loaded : Bool := false
  dirty : List Nat := []
  rewrites : List Rewrite := []
  /-- sectors (LSN) found with POISON = 1 since the last mount (R442) -/
  poisonSeen : List Nat := []
  confirms : List Confirm := []
  wtAcks : List WtAck := []
  /-- flock in which write-through began (R46) -/
  wtFlock : Option Nat := none
  /-- parity slots: key (slot, die position, tile) the XOR of programmed pages, by segment-chunk index (R189) -/
  parity : SMap Chunk := []
  /-- parity rebuilds that are under way or wait, oldest first, and the number of the next (R190, R195) -/
  rebuilds : List Rebuild := []
  nextRebuild : Nat := 0
  /-- Caldera paddocks chosen whose parity slot wakes (R172, R745): gang, paddock, slot -/
  waking : List (Nat × Nat × Nat) := []
  /-- a write has been refused since WRITE_REFUSE was set (R197) -/
  refusedOnce : Bool := false
  /-- sweep cycles completed -/
  cycles : Nat := 0
deriving DecidableEq, Repr

/-- The verify of a FULL paddock (R191): paddock, next segment to sense. -/
structure PadVer where
  paddock : Nat
  next : Nat := 0
deriving DecidableEq, Repr

/-- A gang's part: rota, Shepherd, fold, row batches (chapters 01 to 04). -/
structure Gang where
  rota : Rota := {}
  shep : Shep := {}
  fold : Fold := {}
  padVer : Option PadVer := none
  /-- FULL paddocks that wait for their verify, oldest first (R172, R191); Caldera paddocks in the order they were opened (R184) -/
  fulls : List Nat := []
  order : List Nat := []
  /-- row batches ready or filling, oldest first (R179) -/
  batches : List RowBatch := []
  /-- SLC row batches of the rotation in progress (R180) -/
  placed : List Placed := []
  /-- a rotation that has ended and waits for its map update (R180, R389) -/
  ending : List Placed := []
  ended : Bool := false
  /-- system-area row batches that wait for a tile, those of the rotation in progress, those of a rotation that has ended (R176, R180) -/
  sysq : List SysRow := []
  sysRows : List SysRow := []
  sysEnding : List SysRow := []
  /-- the SYSTEM band in use and its next row (R176); those of the second journal copy of the -17A, which lies in another band -/
  sysBand : Option Nat := none
  sysNext : Nat := 0
  sysBand1 : Option Nat := none
  sysNext1 : Nat := 0
  /-- the program buffers (R97): the 16 chunks loaded for die position p, tile t, level v, fragment f at key ((16 p + t) 3 + v) 16 + f -/
  bufs : SMap (List Chunk) := []
  /-- bell in which some die of the gang takes program data, in positions 0 to 7 of its slots (R93, R97) -/
  loading : Option Nat := none
  /-- the Vent turns still to run in this gang (R681); clk from which its dies take Vent data, and the end of an SLC turn that goes on (R680) -/
  ventTurns : Nat := 0
  ventFrom : Nat := 0
  ventSlow : Nat := 0
deriving DecidableEq, Repr


/-! ### Protection (chapter 11) -/

/-- A region table entry (R531): logical paddocks START to END, KEYID, MODE (0 PLAINTEXT, 1 TAG_ONLY, 2 XTS_TAG), flags, RIGHTS as R577 numbers them. -/
structure Region where
  valid : Bool := false
  first : Nat := 0
  last : Nat := 0
  keyid : Nat := 0
  mode : Nat := 0
  versioning : Bool := false
  strict : Bool := false
  grouped : Bool := false
  compressed : Bool := false
  rights : Nat := 0
deriving DecidableEq, Repr

/-- Generation state of a region (R541, R543, R544) and its re-encryption pass (R546). -/
structure GenSt where
  cur : Nat := 0
  low : Nat := 0
  oldCur : Nat := 0
  oldLow : Nat := 0
  oldValid : Bool := false
  rekeyReq : Bool := false
  /-- advances that await their PNV write (R543) -/
  advancing : Nat := 0
  passActive : Bool := false
  passTarget : Nat := 0
  passPos : Nat := 0
deriving DecidableEq, Repr

/-- A key slot (R535): 0 EMPTY, 1 LOADED, 2 REKEYING; current and previous title key; LABEL; persisted; holds TK0. -/
structure KeySlot where
  st : Nat := 0
  key : BitVec 256 := 0
  prev : BitVec 256 := 0
  label : Nat := 0
  persisted : Bool := false
  system : Bool := false
deriving DecidableEq, Repr

/-- A key operation in progress (R537): operation, slot, persist, result already known, the slot as the operation leaves it, whether it waits only for the bell boundary. -/
structure KeyOp where
  op : Nat
  slot : Nat
  persist : Bool
  result : Nat
  after : KeySlot
deriving DecidableEq, Repr

/-- Protection state: regions as applied and as staged, generations, key slots, WRAP registers, alarm. -/
structure Prot where
  regions : SMap Region := []
  staged : SMap Region := []
  gens : SMap GenSt := []
  slots : SMap KeySlot := []
  /-- blob words written since the last operation completed, by index (R568) -/
  wrap : SMap (Option Word) := []
  op : Option KeyOp := none
  /-- slot changes that take effect at the next bell boundary (R537): operation, slot, slot afterwards -/
  due : List (Nat × Nat × KeySlot) := []
  /-- removed keys kept for builds of writes accepted before the removal (R537) -/
  removed : SMap KeySlot := []
  /-- Tremor codes seen in the present flock, bit n for code n (R555) -/
  tremors : BitVec 9 := 0
  /-- the signature words written to RESP (R595) -/
  resp : SMap Word := []
  /-- a challenge is outstanding (R559) -/
  challenge : Bool := false
  /-- the DRAM keys (R377): numbers of the draws that gave the key of the sector cache and the key of the other areas -/
  scKey : Nat := 0
  memKey : Nat := 0
deriving DecidableEq, Repr

/-! ### Caches (chapter 06) -/

/-- A valid line of a cache (R299). -/
structure CLine where
  internal : Bool
  keyid : Nat
  tag : Nat
  data : Line
  dirty : Bool := false
  poison : Bool := false
deriving DecidableEq, Repr

/-- A set: the round-robin pointer and the valid lines by way (R306). -/
structure CSet where
  ptr : Nat := 0
  ways : SMap (Option CLine) := []
deriving DecidableEq, Repr

/-- Error bookkeeping of a small cache (R315): disabled ways, access count, per way error count and anchor. -/
structure Small where
  disabled : Nat := 0
  accesses : Nat := 0
  errs : SMap Nat := []
  anchor : SMap Nat := []
deriving DecidableEq, Repr

/-- A maintenance operation in progress (R308): operation 1 clean, 2 invalidate, 3 both; mode 0 ADDRESS, 1 SET_WAY, 2 ALL; cache code; lines; the line or entry that it names, as at the write of MAINT_CTRL; the clk by which its last line has been examined (R309); the reads in flight whose fills go before it at the home (R310). -/
structure Maint where
  op : Nat
  mode : Nat
  cache : Nat
  lines : Nat
  addr : Nat := 0
  internal : Bool := false
  keyid : Nat := 0
  slice : Nat := 0
  set : Nat := 0
  way : Nat := 0
  doneAt : Nat := 0
  behind : List Nat := []
deriving DecidableEq, Repr

/-- The caches: sets keyed by cache code (0 L2, 1 to 4 L1P, 5 to 12 core L1, 13 and 14 stream caches), slice and set; way power; disabled L2 locations. -/
structure Caches where
  sets : SMap CSet := []
  small : SMap Small := []
  locs : SMap (List (Nat × Nat)) := []
  maint : Option Maint := none
  /-- L2 ways in allocation, and in transition: powering down, powering up (R312) -/
  wayOn : BitVec 16 := 0xFFFF
  goingDown : BitVec 16 := 0
  goingUp : BitVec 16 := 0
  /-- internal space (R299): the device's own DRAM working area and banks, by line address, with POISON -/
  mem : SMap (Line × Bool) := []
  /-- the errors that stand in the arrays and that nothing has met yet (R314, R317, R318) -/
  errs : List ArrErr := []
deriving DecidableEq, Repr

/-! ### DRAM (chapter 08) -/

/-- A sector-cache entry (R384): tag, POISON, the plaintext; an entry not listed is not valid. -/
structure ScE where
  tag : Nat
  poison : Bool
  data : SectorData
deriving DecidableEq, Repr

/-- What an update-buffer entry writes (R389). -/
inductive UbKind where
  | mapLine | fill | inval | line
deriving DecidableEq, Repr

/-- An update-buffer entry: the area line it writes (map line or sector-cache entry or line index), copies still to be written (A, B). -/
structure UbE where
  kind : UbKind
  idx : Nat
  needA : Bool := true
  needB : Bool := true
deriving DecidableEq, Repr

/-- State of the LPDDR6 controller. -/
structure Dram where
  sc : SMap (Option ScE) := []
  ub : List UbE := []
  /-- written-page bitmap (R387): pages of subchannel h of channel c at key (2 c + h) 2^24 + page -/
  bitmap : SMap Bool := []
  /-- map lines written with POISON = 1 (R393) -/
  badMap : List Nat := []
  /-- row activations of the present flock (R395), by key channel, subchannel, bank, row and class -/
  acts : SMap Nat := []
  /-- classes that reached RD_THRESH in the present flock (R396) -/
  overThresh : BitVec 7 := 0
  /-- neighbour refreshes due (R395): channel, subchannel, bank, row -/
  neighbours : List (Nat × Nat × Nat × Nat) := []
  /-- flock of the last retraining of a subchannel (R381), by 2 channel + subchannel -/
  retrained : SMap (Option Nat) := []
deriving DecidableEq, Repr

/-! ### Host link, events and reads (chapters 01, 09) -/

/-- An event record (R443): kind (0 General Media, 1 DRAM, 2 Memory Module, 3 vendor-specific) and the values that its rule names. -/
structure Evt where
  kind : Nat
  args : List Nat
  handle : Nat
  bell : Nat
deriving DecidableEq, Repr

/-- An event log (R443): at most 64 records, oldest first, and how many did not fit. -/
structure EvtLog where
  recs : List Evt := []
  overflow : Nat := 0
  /-- interrupt mode of the policy: 1 sends MSI-X vector 1 -/
  policy : Nat := 0
deriving DecidableEq, Repr

/-- Who waits for a read of the medium path (R36): a host read with its Tag, a STRICT check of a staged write (R549), a stream request. -/
inductive Client where
  | host (tag : Nat)
  | strict (tag : Nat) (data : Line) (mask : Mask)
  | stream (req : Nat) (seg : Nat)
deriving DecidableEq, Repr

/-- How far a read has come (R36, R38, R39); `done` is a stream read whose data its engine has not yet taken. -/
inductive RdSt where
  | miss | looked | relook | bound | sensing | second | reread | sensing2 | cart | done
deriving DecidableEq, Repr

/-- A read that has missed the L2 (R36). -/
structure Rd where
  id : Nat
  who : Client
  /-- byte address of the line in DPA space -/
  dpa : Nat
  keyid : Nat
  /-- clk of acceptance, of the known L2 miss, of the lookup's DRAM slot start, of the media arrival point -/
  acc : Nat
  missAt : Nat
  look : Nat := 0
  arrive : Nat := 0
  st : RdSt := .miss
  psa : Nat := 0
  slc : Bool := false
  /-- staged bytes at the lookup, by line address (R169) -/
  parts : List (Nat × Line × Mask) := []
  /-- requester class (R60), and what intervened: codes of R500, oldest first -/
  cls : Nat := 0
  struck : List Nat := []
  /-- the deciding lines that the first lookup found uncorrectable (R392): sector-cache line, map line -/
  scBad : Bool := false
  mapBad : Bool := false
  /-- S of the first and of the second sense, and whether the second is a re-read (R39) -/
  s1 : Nat := 0
  s2 : Nat := 0
  reread : Bool := false
  /-- gang-local dies that the sense in progress does not sense, and the one of them that is programming (R32, R131) -/
  er : List Nat := []
  progDie : Option Nat := none
  /-- clk at which the program turn of the first sense ends (R39) -/
  turnEnd : Nat := 0
  /-- sectors read, the outcomes of those decided (plaintext), the causes of those that failed their first attempt (R132, R138), their chunks in the first sense (R39) -/
  sectors : List Nat := []
  outs : List (Nat × SecOut) := []
  fails : List (Nat × Nat) := []
  first : List (Nat × List Chunk) := []
  /-- chunks (sector, position) that the first sense did not bring, or whose transfer parity failed in it (R39, R131) -/
  par1 : List (Nat × Nat) := []
  /-- chunk faults of the first attempt: sector, position (R110) -/
  faults : List (Nat × Nat) := []
  /-- bank and sets named by the first sense: age bin and temperature class of each die (R256, R269); it started in a change window (R270) -/
  bank : Nat := 0
  bin : Nat := 0
  classes : List Nat := []
  window : Bool := false
  /-- lines (DPA div 64) that a host write has reached since, so that they are filled nowhere (R348); the read's data may be filled (R301) -/
  noFill : List Nat := []
  alloc : Bool := true
  /-- the segment's map entry has changed by a write since the lookup, so that nothing is filled -/
  stale : Bool := false
deriving DecidableEq, Repr

/-- What a background sense is for (R141, R178, R185, R186, R190, R191, R140, R546). -/
inductive BgWork where
  | shepherd
  /-- old segment of the snapshot with this number -/
  | oldRead (snap : Nat)
  /-- source of a fold slot of gang `dest` -/
  | foldSource (dest slot : Nat)
  | foldVerify (dest slot : Nat)
  | padVerify (paddock seg : Nat)
  /-- segment `seg` of the paddock for the parity rebuild with this number -/
  | rebuild (n seg : Nat)
  /-- a queued rewrite with the sectors to be stored poisoned -/
  | rewrite (bad : List Nat)
  | reencrypt (region : Nat)
deriving DecidableEq, Repr

/-- A background sense of a whole segment (R29, R95): what for, gang, segment, start, the clk by which its last chunk has left the output latches (R93), mode, dies not sensed, those erased because they programmed, references named, and after a first attempt with failures the images decoded so far, the sectors that failed with their causes, the corrected symbols. -/
structure Bg where
  id : Nat
  work : BgWork
  psa : Nat
  lseg : Nat
  start : Nat
  ready : Nat := 0
  slc : Bool
  er : List Nat
  progDies : List Nat
  bank : Nat
  bin : Nat
  classes : List Nat
  failed : Bool := false
  known : Nat := 0
  imgs : List SecImg := []
  fails : List (Nat × Nat) := []
  faults : List (Nat × Nat) := []
  syms : Nat := 0
  /-- those of them in sectors that failed the first attempt -/
  fsyms : Nat := 0
  /-- what the last sense met -/
  last : Sensed := {}
deriving DecidableEq, Repr

/-- The host link (chapter 09). -/
structure Link where
  up : Bool := false
  cxl : Bool := false
  recovery : Bool := false
  perst : Bool := true
  /-- what the partner offers, rate code and lanes (R418); the present Recovery is a retraining (R448) -/
  pRate : Nat := 0
  pWidth : Nat := 0
  pFlit : Bool := false
  retraining : Bool := false
  /-- TPH Requester mode (0 off, 1 no-ST, 2 device-specific) and maximum payload of outbound writes (R422, R444) -/
  tph : Nat := 0
  mps : Nat := 128
  /-- clk from which a response waits for an S2M credit (R431) -/
  starved : Option Nat := none
  /-- the clk from which each L1P can take a request (R420) -/
  l1pFree : SMap Nat := []
  /-- S2M credits held: DRS and NDR (R431) -/
  drs : Nat := 64
  ndr : Nat := 64
  /-- clk in which the responses to accepted requests are handed off and give back their Req credits (R429) -/
  reqTill : List Nat := []
  /-- RwD credits that are withheld from the host (R430) -/
  rwdHeld : Nat := 0
  /-- responses handed off that wait for a credit or for the end of Recovery, oldest first -/
  held : List Output := []
  /-- HDM decoder committed, its base, size (R425) -/
  hdmOn : Bool := false
  hdmErr : Bool := false
  hdmLocked : Bool := false
  hdmBase : Nat := 0
  /-- messages are dropped after an IDE failure until keys are programmed again (R439) -/
  ideDrop : Bool := false
  ideIo : Bool := false
  ideMem : Bool := false
  /-- IDE keys are held, of CXL.io and of CXL.cachemem (R439, R556) -/
  ideKeys : Bool := false
  ideMemKeys : Bool := false
  /-- GPF phase 2 in progress (R434) -/
  gpf2 : Bool := false
  /-- what AT_RISK waits for (R433): snapshots not yet programmed, journal blocks not yet programmed -/
  riskSegs : List Nat := []
  riskBlocks : List Nat := []
  logs : SMap EvtLog := []
  nextHandle : Nat := 1
  /-- a capability or AER status bit logged by a violation (R445): code of the violation -/
  logged : List Nat := []
deriving DecidableEq, Repr

/-- Reads in flight. -/
structure Reads where
  list : List Rd := []
  next : Nat := 0
  /-- background senses that hold an engine and a latch (R95) -/
  bg : List Bg := []
  /-- confirmation and catch-up senses in progress: die, clk by which the fragment has left its latch (R95, R110, R143) -/
  short : List (Nat × Nat) := []
  /-- second background senses in progress: gang, bank, clk by which the fragment has left its latches (R95, R137) -/
  second : List (Nat × Nat × Nat) := []
  /-- output positions in use, bit p for position p, of gang g in slot n at key 2 n + g (R93); program data is counted by Gang.loading -/
  outs : SMap Nat := []
deriving DecidableEq, Repr

/-! ### PNV content that the commands use (chapter 15) -/

/-- A page that the Vent writes (R682): a journal block, 128 slots of the Tally buffer, up to 50 lines of the staging image with the page's index, the trailer. -/
inductive VentPage where
  | block (b : JBlock)
  | records (l : List Rec)
  | lines (index : Nat) (l : List (Nat × StLine))
  | trailer
deriving DecidableEq, Repr

/-- What a Vent writes into the Vent band of gang `gang`: its pages in order, and the Vent rotations completed, of 256 pages each. -/
structure VentBand where
  gang : Nat
  pages : List VentPage
  rots : Nat := 0
deriving DecidableEq, Repr

/-- The bands of one Vent (R682), and whether a mount has replayed them (R684). `orderly` marks what an orderly power-down keeps (R432). -/
structure VentImg where
  seq : Nat
  bands : List VentBand
  replayed : Bool := false
  orderly : Bool := false
deriving DecidableEq, Repr

/-- The PNV Vent page (R683): sequence number, device epoch, NEXT_SEG of each gang, AT_RISK, the final record, whether the Vent ran on entry to HALT, staging-image pages, bell of entry. -/
structure VentPnv where
  seq : Nat
  epoch : Nat
  next : List Nat
  atRisk : Bool
  rcd : Rec
  fromVin : Bool
  pages : Nat
  bell : Nat
  /-- Vents over the device's life, this one included -/
  total : Nat := 0
deriving DecidableEq, Repr

/-- What the device holds of the PNV's records, as loaded in step 6 and changed since, and what the power die and the medium keep beside them over a power-down (R753 to R760, R778). -/
structure Pnv where
  /-- cause by failed die (R112, R114) -/
  failed : SMap Nat := []
  /-- channels recorded for disabling (R394) -/
  marked : List Nat := []
  regions : SMap Region := []
  gens : SMap GenSt := []
  /-- wrapped-key cache: the persisted slots (R538) -/
  keys : SMap KeySlot := []
  /-- a cache key is held (R538) -/
  ck : Bool := false
  erupted : Bool := false
  cause : Nat := 0
  eruptions : Nat := 0
  level : Nat := 0
  /-- detections latched in the power die while the device was down (R557) -/
  latched : Nat := 0
  /-- an erasure whose intent record is open (R556, R760) -/
  erasing : Bool := false
  epoch : Nat := 0
  dirty : Nat := 0
  /-- AT_RISK was set when the device went down without a Vent (R435) -/
  risky : Bool := false
  /-- Vent sequence number last used and its LIMIT (R757); Vents over the device's life, those found incomplete (R716) -/
  ventSeq : Nat := 0
  ventLimit : Nat := 0
  vents : Nat := 0
  ventsBad : Nat := 0
  /-- the PNV Vent page (R683), and the one that the Vent in progress programs -/
  ventPend : Option VentPnv := none
  ventPage : Option VentPnv := none
  /-- what Vents have left in the Vent bands, oldest first (R682) -/
  images : List VentImg := []
  shpPos : SMap Nat := []
  rollback : Nat := 0
  /-- slot tried first: 1 A, 2 B (R597) -/
  next : Nat := 1
  /-- shutdown state set by the host (R435) -/
  shutdown : Nat := 0
  /-- images that Transfer FW has stored in slots 1 (A) and 2 (B); an unlisted slot holds the image of the factory (R441, R550) -/
  firmware : SMap (List Nat) := []
  /-- the RMA seal fuse is blown (R560, R826) -/
  sealed : Bool := false
  /-- FATAL record kept before the Tally can take it (R15, R725): severity, code and parameters -/
  early : Option Report := none
  /-- intent sequence number last used and its LIMIT (R757, R759) -/
  seq : Nat := 0
  seqLimit : Nat := 0
  /-- a persisted installation or rekey that has begun and is not durable (R538, R759): the slot, and how it leaves it -/
  inst : Option (Nat × KeySlot) := none
  /-- hidden program counts by page (R751, R752); the operation in progress -/
  programs : SMap Nat := []
  op : Option PnvOp := none
deriving DecidableEq, Repr

/-- The record instances of the PNV (R751): failed dies, marked channels, slot NEXT, 20 entries of the region table; device epoch, Shepherd position of a gang, Tremor LEVEL, dirty shutdown count, Vents, incomplete Vents, Eruptions,
the Vent page, Vent sequence number, intent sequence number, 64 regions of the generation table; a page of the wrapped-key cache, CK, rollback counter, ERUPTED; the intent record. -/
inductive NvRec where
  | failed | marked | next | regions (i : Nat)
  | epoch | shepherd (gang : Nat) | level | dirty | vents | ventsBad | eruptions | vent | ventSeq | intentSeq | gens (i : Nat)
  | slot (k : Nat) | ck | rollback | erupted
  | intent
deriving DecidableEq, Repr

/-- What the payload of a record says (R754, R757). -/
inductive NvPay where
  | none
  | counter (value limit : Nat)
  | dies (l : SMap Nat)
  | list (l : List Nat)
  | regions (l : SMap Region)
  | gens (l : SMap GenSt)
  | slot (x : KeySlot)
  | vent (v : Option VentPnv)
  | erupted (set : Bool) (cause : Nat)
  | intent (erasing : Bool)
deriving DecidableEq, Repr

/-- A page of the PNV: its 256 bytes, byte 0 in bits [7:0], and what the record programmed into it says. -/
structure NvPage where
  bytes : BitVec 2048 := BitVec.allOnes 2048
  pay : NvPay := .none
deriving DecidableEq, Repr

/-- The cells of the PNV (R751, R752): its pages by number, an unlisted one as it left the factory; the page that the operation in progress leaves, and the clk of its start. -/
structure Nvm where
  pages : SMap NvPage := []
  job : Option (Nat × NvPage) := none
  since : Nat := 0
deriving DecidableEq, Repr

/-! ### Drift tracking (chapter 05) and performance counters (chapter 17) -/

/-- One set of a die (R256, R264, R265): the working codes and the codes of banks A and B as steps from the factory codes of boundaries 1 to 7; the codes before the last switch and the boundaries (bit k - 1) that it stepped; hold counts in flocks; HIGH and LOW; OBS and ERR. -/
structure DriftSet where
  code : List Int := [0, 0, 0, 0, 0, 0, 0]
  bankA : List Int := [0, 0, 0, 0, 0, 0, 0]
  bankB : List Int := [0, 0, 0, 0, 0, 0, 0]
  prev : List Int := [0, 0, 0, 0, 0, 0, 0]
  stepped : Nat := 0
  hold : List Nat := [0, 0, 0, 0, 0, 0, 0]
  high : List Nat := [0, 0, 0, 0, 0, 0, 0]
  low : List Nat := [0, 0, 0, 0, 0, 0, 0]
  obs : Nat := 0
  err : Nat := 0
deriving DecidableEq, Repr

/-- What the factory has put into a die: its repair map in the fuse array (R105), that is spare rows in use as (tile, row), spare columns as (tile, cell group, column) and the CRC-16 over them; and fragment 0 of band row 255 where it differs from the fixed pattern (R91), the band rows 255 of the other bands being alike. -/
structure DieRom where
  rows : List (Nat × Nat) := []
  cols : List (Nat × Nat × Nat) := []
  crc : Nat := 0xFFFF
  worn : SectorData := 0
deriving DecidableEq, Repr

/-- The drift tracker: the SLC references of banks A and B of the dies, at key 2 die + bank, once written (R96); gangs whose spare bank waits to be written (R96); sets at key 64 die + set; votes and flock of the last switch by gang (R268, R271); gangs that switch at the next flock boundary (R267); classes decided and not yet in effect (R262); the units of EPOCH_ADVANCE that wait (R273); live chunk observations of this flock and of the last one by 64 die + set (R266); the tables as last written to the system area and those on their way into it (R275); capture of INSPECT_SEL (R293). -/
structure Drift where
  slc : SMap (Option Nat) := []
  spareDue : List Nat := []
  sets : SMap DriftSet := []
  votes : SMap Nat := []
  lastSwitch : SMap (Option Nat) := []
  switching : List Nat := []
  classNext : List (Nat × Nat) := []
  advance : Nat := 0
  live : SMap Nat := []
  liveOld : SMap Nat := []
  saved : SMap DriftSet := []
  toSave : SMap DriftSet := []
  inspect : Option Nat := none
deriving DecidableEq, Repr

/-- Performance counters (R814 to R821): programmable counters, bytes of the running window by fixed counter, bell at which the windows were laid out, the applied filter acts, a CLEAR is due, clk up to which clk-counting events are settled, clk of the last counter read. -/
structure Pmc where
  val : SMap Nat := []
  run : SMap Nat := []
  winStart : Nat := 0
  active : Bool := false
  clear : Bool := false
  settled : Nat := 0
  lastRead : Option Nat := none
deriving DecidableEq, Repr

/-! ### Cartridge slots (chapter 12) -/

/-- What a command to a cartridge serves (R612, R615, R623 to R627). -/
inductive CartUse where
  | host (read : Nat) (retry : Bool)
  | stream (req first : Nat) (retry : Bool)
  | copy (first : Nat) (retry : Bool)
  | save0 (retry : Bool)
  | saveWrite (again : Bool)
  | ident
  | cert (chunk : Nat)
  | challenge
  | manifest (chunk : Nat)
  /-- a read of the Deleper port (R825): line of the sector -/
  | debug (line : Nat) (retry : Bool)
deriving DecidableEq, Repr

/-- A command of a slot that waits to be sent or is outstanding (R612): OPCODE, TAG, COUNT, number in bytes 4 to 7; place in the sending order (2 PRIORITY, 1 host READ, 0 other); the WDATA that follow it; what it serves; clk of its frame; what its response has brought so far. -/
structure CartCmd where
  op : Nat
  tag : Nat
  count : Nat
  arg : Nat
  prio : Nat
  wdata : List Line := []
  use : CartUse
  /-- clk at which its frame was sent; none while it waits -/
  sent : Option Nat := none
  /-- payload of the header frame, and the frames after it, oldest first -/
  head : Option Line := none
  data : List Line := []
deriving DecidableEq, Repr

/-- A sequenced frame of the device that is not yet acknowledged (R609). -/
structure TxFrame where
  seq : Nat
  ty : Nat
  payload : Line
deriving DecidableEq, Repr

/-- A copy in progress (R626): first cartridge sector, destination DPA, KeyID, sectors read and in all, snapshots or journal blocks still awaited are found by its segments. -/
structure Copy where
  src : Nat
  dst : Nat
  keyid : Nat
  total : Nat
  next : Nat := 0
  got : Nat := 0
  /-- plaintext of sectors that have arrived and are not yet staged, by sector; lines of the present one already staged -/
  buf : SMap (List Nat) := []
  lines : Nat := 0
deriving DecidableEq, Repr

/-- A save in progress (R627): cartridge segment, the 4 KiB from the host by 512-byte read, sector 0 decided, the pair chosen. -/
structure Save where
  seg : Nat
  reads : SMap (List Nat) := []
  pair : Option (Nat × Nat) := none
deriving DecidableEq, Repr

/-- A cartridge slot. -/
structure Zl where
  cmds : List CartCmd := []
  nextTag : Nat := 0
  /-- WDATA frames that wait (R612) -/
  wdata : List Line := []
  /-- next SEQ; frames not acknowledged, oldest first; how many of them a replay has still to send (R609) -/
  seq : Nat := 0
  unacked : List TxFrame := []
  replay : Nat := 0
  /-- SEQ expected from the target; a LINK frame with ACK, with NAK is due -/
  expect : Nat := 0
  ackDue : Bool := false
  nakDue : Bool := false
  /-- frames sent since an acknowledgement became due (R609) -/
  sinceAck : Nat := 0
  /-- lanes 0 and 1 retrain alone (R610) -/
  degrading : Bool := false
  /-- the response whose frames arrive: its TAG; frames of a dropped response are dropped (R631) -/
  resp : Option Nat := none
  dropping : Bool := false
  /-- clk of the last frame sent that awaits an acknowledgement or of the last acknowledgement (R609), of the last good frame (R611), of the start of the bring-up step (R604) -/
  timer : Nat := 0
  lastGood : Nat := 0
  stepAt : Nat := 0
  /-- certificate and manifest as received, challenge, serial -/
  cert : SMap Line := []
  manifest : SMap Line := []
  challenge : Nat := 0
  /-- the key install takes effect at the next bell boundary (R537, R619) -/
  mounting : Bool := false
  /-- the insertion of this seating has been accepted (R604, R629) -/
  inserted : Bool := false
  /-- the scrambler of each lane that the device sends on (R607) -/
  scr : List Nat := []
  /-- the link has been lost once in this seating (R611) -/
  lostOnce : Bool := false
  /-- what follows POWERING_OFF: STATUS.STATE code, and cause -/
  after : Nat := 0
  afterCause : Nat := 0
  /-- CARTn_PWR, CARTn_CLK, CARTn_RST_N -/
  power : Bool := false
  clock : Bool := false
  rstN : Bool := false
  copy : Option Copy := none
  save : Option Save := none
deriving DecidableEq, Repr


/-! ### The coherence ring (chapter 07) -/

/-- A line as every message names it (R299, R342): space, KeyID, byte address of its first byte. -/
structure RLine where
  internal : Bool
  keyid : Nat
  addr : Nat
deriving DecidableEq, Repr

/-- Messages in flight (R342): COMP, RETRY with its credit's sequence number if it carries one, CREDIT, SNP_DONE of a transaction with the line if it brings it, WB header, WB data, WB_DONE, data to a requester, data to a stash target, a request issued again with its credit, and a fill on its way to the home as the crypto engine's STASH_FILL (R353) with its target. -/
inductive RTy where
  | comp
  | retry (cred : Option Nat)
  | credit (seq : Nat)
  | snpDone (tx : Nat) (line : Option (Line × Bool))
  | wb
  | wbData (data : Line) (poison : Bool)
  | wbDone
  | data (d : Line) (poison : Bool)
  | stash (cache : Nat) (d : Line) (poison : Bool)
  | again
  | fill (target : Nat) (d : Line)
deriving DecidableEq, Repr

/-- A message on the ring or waiting at its stop: number, stops of its sender and receiver, the line, first clk in which it can leave, clk in which it leaves; a fill that is stale (R348). -/
structure RMsg where
  id : Nat
  ty : RTy
  src : Nat
  dst : Nat
  line : RLine
  ready : Nat
  sent : Nat
  stale : Bool := false
deriving DecidableEq, Repr

/-- What runs at a home (R344): the requests of the ring, the maintenance of a line, a host write on the port crossbar. -/
inductive ROp where
  | rdShared | rdOwn | rdStream | stashWrite | stashFill | maint | hostWrite
deriving DecidableEq, Repr

/-- Where a request stands at its requester (R351, R352): at the home; its RETRY without a credit on the way; held without a credit; issued again with a credit. -/
inductive RReqSt where
  | sent | refused | held | reissue
deriving DecidableEq, Repr

/-- A request of a requester stop: the bytes that it stores or stashes, target and agent of a stash (0 Drover, 1 Shepherd, 2 DMA master, 3 crypto engine); the home has completed it; data and COMP received; the fill is handed over without allocation (R348); snoops (transaction, code) that wait for its store (R346). -/
structure RReq where
  stop : Nat
  op : ROp
  line : RLine
  store : Line := 0
  mask : Mask := 0
  target : Nat := 0
  agent : Nat := 0
  st : RReqSt := .sent
  granted : Bool := false
  data : Option (Line × Bool) := none
  comp : Bool := false
  noFill : Bool := false
  deferred : List (Nat × Nat) := []
  mem : Option MemErr := none
deriving DecidableEq, Repr

/-- A transaction at a home (R344, R345); requester's stop; snoop code 0 SHARE, 1 OWN, 2 INV, 3 CLEAN, 4 CLINV; stops of its mask still to be passed; clk of injection; follow-ups owed (stop, whether it is a WB); an owner forwards the line; the snoop is back; it came credited; what a stash writes, and its target; the reads in flight whose fills go before a maintenance (R310). -/
structure RTx where
  id : Nat
  op : ROp
  stop : Nat
  line : RLine
  snoop : Nat
  mask : List Nat
  at_ : Nat
  owed : List (Nat × Bool) := []
  owner : Bool := false
  back : Bool := false
  credited : Bool := false
  data : Line := 0
  bytes : Mask := 0
  target : Nat := 0
  agent : Nat := 0
  behind : List Nat := []
  mem : Option MemErr := none
deriving DecidableEq, Repr

/-- A reserved entry in use (R351): slice, requester's stop, credit sequence number, the credited request once it waits at the home, the clk in which it is freed once that is known. -/
structure RCred where
  slice : Nat
  stop : Nat
  seq : Nat
  wait : Option RLine := none
  free : Option Nat := none
deriving DecidableEq, Repr

/-- A write-back buffer entry (R350): the writer's stop, the line, its data; clk at which the header reached the home; the data is at the home; it has been written. -/
structure RWb where
  stop : Nat
  line : RLine
  data : Line
  poison : Bool
  header : Option Nat := none
  got : Bool := false
  written : Bool := false
deriving DecidableEq, Repr

/-- The ring. -/
structure Ring where
  msgs : List RMsg := []
  reqs : List RReq := []
  txs : List RTx := []
  /-- maintenance of lines that are not IDLE, or that a fill goes before, oldest first (R310, R349) -/
  waits : List RTx := []
  /-- lines whose transaction has ended, whether it was credited, and the clk in which its COMP leaves (R350) -/
  busy : List (RLine × Bool × Nat) := []
  /-- requests that reached their home during a hardware invalidation (R307), oldest first -/
  parked : List RReq := []
  creds : List RCred := []
  wbs : List RWb := []
  /-- next credit sequence number of each slice (R351), 8 bits -/
  seqs : SMap Nat := []
  next : Nat := 0
deriving DecidableEq, Repr


/-! ### The stream engine (chapter 10) -/

/-- A staging slot that is not IDLE (R476): BROKEN or OPEN; the words written, none where not present; bell at which it left IDLE. -/
structure PenSlot where
  broken : Bool := false
  words : List (Option Nat) := [none, none, none, none, none, none, none, none]
  since : Nat := 0
deriving DecidableEq, Repr

/-- A committed packet (R477, R480): its pen, its eight words, the clk of its commit. -/
structure Packet where
  pen : Nat
  words : List Nat
  at_ : Nat
deriving DecidableEq, Repr

/-- The packet in the admission unit (R498): the clk D of its decision; its pen has been flushed (R481). -/
structure Adm where
  pkt : Packet
  due : Nat
  flushed : Bool := false
deriving DecidableEq, Repr

/-- The booking of a source segment (R497, R499): its number, the resource (0, 1 gang; 2, 3 cartridge slot; none where no media is needed), the bell, the lag, units. -/
structure Book where
  seg : Nat
  res : Option Nat
  bell : Nat
  lag : Nat
  units : Nat
  /-- it has been looked up or sent to its cartridge (R488, R625) -/
  started : Bool := false
deriving DecidableEq, Repr

/-- An accepted request. -/
structure Req where
  id : Nat
  pkt : Packet
  /-- finish bell f (R499) -/
  finish : Nat := 0
  books : List Book := []
  /-- lane, first lane bell and number of lane bells (R499) -/
  lane : Option (Nat × Nat × Nat) := none
  /-- dictionary generation that it is bound to, or that it loads (R492) -/
  gen : Option Nat := none
  /-- source sectors in the engine, by number (R488), and those that ended in poison -/
  got : SMap (List Nat) := []
  bad : List Nat := []
  /-- STATUS, DETAIL and source offset of a failure (R486) -/
  fail : Option (Nat × Nat × Nat) := none
  /-- bell in which its lane started, the lane is decoding, decoded bytes, blocks of its frame, the lane has finished or the load has ended -/
  started : Option Nat := none
  decoding : Bool := false
  out : List Nat := []
  blocks : Nat := 0
  decoded : Bool := false
  /-- bytes delivered -/
  sent : Nat := 0
  /-- first intervention that struck it (R500) -/
  strike : Nat := 0
  /-- WRITE: next source offset to read from the host, bytes that have arrived by offset, lines staged (R491) -/
  asked : Nat := 0
  arrived : SMap (List Nat) := []
  staged : Nat := 0
  /-- COMMIT_GROUP and ABORT_GROUP: the group slot on which it has acted (R493) -/
  acted : Option Nat := none
deriving DecidableEq, Repr

/-- A dictionary slot (R492): generation of the latest accepted load, its booked finish, the last lane bell of the READs bound to it; generation and content loaded; failed generations; it can be named. -/
structure Dict where
  named : Bool := false
  gen : Nat := 0
  finish : Nat := 0
  lastLane : Nat := 0
  loaded : Option Nat := none
  ident : Nat := 0
  tables : List Nat := []
  content : List Nat := []
  failed : List Nat := []
deriving DecidableEq, Repr

/-- A CXL.io read outstanding (R491, R627): its tag, the request, or the cartridge slot whose save it serves; source offset and length. -/
structure HostRd where
  tag : Nat
  req : Option Nat
  slot : Nat := 0
  off : Nat
  len : Nat
deriving DecidableEq, Repr

/-- The stream engine: staging slots at key 64 pen + slot, committed packets in commit order, the admission unit, the ledger (key 8 bell + resource; 4 is the link), the next free bell of each lane, last bell of each input buffer (key 2 lane + buffer), requests, dictionary slots, CXL.io reads, status records that wait for bus mastering. -/
structure Strm where
  slots : SMap (Option PenSlot) := []
  packets : List Packet := []
  adm : Option Adm := none
  ledger : SMap Nat := []
  /-- media units that reads have used, by the ledger's key (R500) -/
  used : SMap Nat := []
  lanes : SMap Nat := []
  bufs : SMap Nat := []
  reqs : List Req := []
  next : Nat := 0
  dicts : SMap Dict := []
  hostReads : List HostRd := []
  nextTag : Nat := 0
  waiting : List Output := []
deriving DecidableEq, Repr

/-! ### Mailbox, DOE and secure sessions (chapters 09 and 11) -/

/-- The mailbox (R441) and the DOE responder (R553): response message limit, host timestamp and the clk at which it was set, alert configuration as written, firmware being transferred (slot and the next offset), negotiated version and algorithms, sessions by identifier (true once FINISH has completed), the transcript hash input collected. -/
structure Mbox where
  limit : Nat := 16
  stamp : Option (Nat × Nat) := none
  alerts : List Nat := []
  transfer : Option (Nat × Nat) := none
  version : Bool := false
  caps : Bool := false
  algs : Bool := false
  sessions : SMap (Option Bool) := []
  /-- Life Used has crossed the alert threshold as configured (R443) -/
  lifeWarned : Bool := false
deriving DecidableEq, Repr

/-! ### The whole state -/

/-- Interrupt summaries and MSI-X (R865, R422). -/
structure Irq where
  /-- the MSI summary and the pin summary as last formed (R865) -/
  msi : Bool := false
  pin : Bool := false
  /-- MSI-X Enable, Bus Master Enable (R865, R501) -/
  msixEn : Bool := false
  busMaster : Bool := false
  /-- in-band interrupts enabled by ENEC (R866) -/
  ibiEn : Bool := false
  /-- MSI-X pending bits, bit v for vector v -/
  pend : BitVec 3 := 0
deriving DecidableEq, Repr

/-- The Deleper port (R822 to R826): the instruction register (after Test-Logic-Reset it holds IDCODE), what SAMPLE/PRELOAD or EXTEST has shifted into the boundary register, an AUTH challenge that has not been answered, an RMA_SEAL challenge, L2_LOCK, which only the removal of VIN clears. -/
structure Dbg where
  ir : Nat := 0x02
  boundary : Nat := 0
  challenge : Bool := false
  rmaChallenge : Option Nat := none
  lock : Bool := false
deriving DecidableEq, Repr

/-- The I3C target (R866): its dynamic address, if it has one. -/
structure I3c where
  addr : Option Nat := none
deriving DecidableEq, Repr

/-- The march engine (R749): the pass in progress, its bank and mode (0 destructive, 1 preserving). -/
structure Srm where
  march : Option (Nat × Nat) := none
  /-- banks that wake, beside parity slots, which `Xlt.waking` lists (R745) -/
  waking : List Nat := []
deriving DecidableEq, Repr

/-- Why the block stops. No meaning of this model raises one: every command has an effect that the spec gives (see NOTES.md, Stops). -/
inductive Fault where
  /-- Raised by nobody. It would be safe: the model stops where the hardware goes on. -/
  | none
deriving DecidableEq, Repr

/-- Why a command has no meaning. -/
inductive Refusal where
  /-- Raised by an arm of exec for a command that is not modelled, by its mnemonic. Safe: the model stops where the hardware goes on. -/
  | notModelled (mnemonic : String)
deriving DecidableEq, Repr

/-- The state of the block. -/
structure State where
  /-- commands that wait, first in, first out -/
  pending : List Instr := []
  variant : Variant := .v35A
  /-- register words by BAR0 offset; an unlisted register holds its reset value -/
  regs : SMap Word := []
  /-- applied values of staged (ST) fields, register words by BAR0 offset (R857) -/
  applied : SMap Word := []
  /-- _HI latches, keyed by accessor (0 host, 1 cores, 2 I3C) times 0x40000 plus the offset of the _HI register (R856) -/
  latches : SMap Word := []
  /-- pages with COMMIT_PEND set (R857) -/
  commits : List Nat := []
  /-- pages in RESETTING (R861) -/
  resetting : List Nat := []
  irq : Irq := {}
  dev : Dev := {}
  pwr : Pwr := {}
  hk : Hk := {}
  clk : Clock := {}
  bw : Bellw := {}
  gang0 : Gang := {}
  gang1 : Gang := {}
  /-- the medium: chunk of position p of sector k of physical segment a at key (16 a + k) 20 + p (R90, R125) -/
  med : SMap Chunk := []
  /-- what the factory has put into the dies (R91, R105); an unlisted die has no spare in use, the CRC of that map, and the fixed pattern -/
  roms : SMap DieRom := []
  xlt : Xlt := {}
  tally : Tally := {}
  prot : Prot := {}
  caches : Caches := {}
  dram : Dram := {}
  link : Link := {}
  reads : Reads := {}
  drift : Drift := {}
  zl0 : Zl := {}
  zl1 : Zl := {}
  pmc : Pmc := {}
  ring : Ring := {}
  strm : Strm := {}
  mbox : Mbox := {}
  pnv : Pnv := {}
  nvm : Nvm := {}
  srm : Srm := {}
  dbg : Dbg := {}
  i3c : I3c := {}
  /-- the model's own counter of free values drawn (no state of the spec) -/
  drawn : Nat := 0
  /-- everything the device has sent, oldest first (the environment takes it from here) -/
  out : List Output := []
deriving DecidableEq, Repr

/-- The machine right after reset: every field at its reset value, nothing pending, nothing sent. -/
def State.reset : State := {}

end Sys2Proof.Machine
end

