-- ==== Sys2Proof/Machine/Ops.lean ====
section
/-! DEFINITION. Reading and writing register words and fields, their reset values, counters, and the two gangs. -/

namespace Sys2Proof.Machine

/-! ### Bit fields -/

/-- Bits [hi:lo] of `v`. -/
def bitsOf (v hi lo : Nat) : Nat := (v >>> lo) % 2 ^ (hi + 1 - lo)

/-- `v` with bits [hi:lo] replaced by `x`. -/
def putBits (v hi lo x : Nat) : Nat :=
  v - (bitsOf v hi lo) * 2 ^ lo + (x % 2 ^ (hi + 1 - lo)) * 2 ^ lo

/-- Bit `i` of `v`. -/
def bitOf (v i : Nat) : Bool := (v >>> i) % 2 = 1

/-- 1 for true. -/
def b2n (b : Bool) : Nat := if b then 1 else 0

/-- How many of bits [n-1:0] of `v` are set. -/
def popCount (n v : Nat) : Nat :=
  match n with
  | 0 => 0
  | k + 1 => popCount k v + b2n (bitOf v k)

/-- A two's complement value of `w` bits. -/
def toSigned (w v : Nat) : Int := if v < 2 ^ (w - 1) then (v : Int) else (v : Int) - 2 ^ w

/-- `x` as `w` bits of two's complement. -/
def ofSigned (w : Nat) (x : Int) : Nat := (x % (2 ^ w : Int)).toNat

/-- Division rounded up. -/
def ceilDiv (a b : Nat) : Nat := (a + b - 1) / b

/-! ### The register tables -/

/-- A page in use (R868): three ASCII characters of its name, its instance number, its registers. -/
structure PageInfo where
  name : Nat
  inst : Nat
  rows : List RegRow

/-- The pages in use (R868, R847). -/
def pageInfo (p : Nat) : Option PageInfo :=
  match p with
  | 0x00 => some ⟨0x444556, 0, devRows⟩
  | 0x01 => some ⟨0x425754, 0, bwtRows⟩
  | 0x02 => some ⟨0x524F54, 0, rotRows⟩
  | 0x03 => some ⟨0x524F54, 1, rotRows⟩
  | 0x04 => some ⟨0x4D4544, 0, medRows⟩
  | 0x05 => some ⟨0x4D4544, 1, medRows⟩
  | 0x06 => some ⟨0x4D4544, 2, medRows⟩
  | 0x07 => some ⟨0x4D4544, 3, medRows⟩
  | 0x08 => some ⟨0x4D4544, 4, medRows⟩
  | 0x09 => some ⟨0x534543, 0, secRows⟩
  | 0x0A => some ⟨0x534850, 0, shpRows⟩
  | 0x0B => some ⟨0x584C54, 0, xltRows⟩
  | 0x0C => some ⟨0x445256, 0, drvRows⟩
  | 0x0D => some ⟨0x43414C, 0, calRows⟩
  | 0x0E => some ⟨0x445246, 0, drfRows⟩
  | 0x10 => some ⟨0x4C3150, 0, l1pRows⟩
  | 0x11 => some ⟨0x4C3243, 0, l2cRows⟩
  | 0x12 => some ⟨0x524E47, 0, rngRows⟩
  | 0x14 => some ⟨0x444D43, 0, dmcRows ++ dmc0Rows⟩
  | 0x15 => some ⟨0x444D43, 1, dmcRows⟩
  | 0x16 => some ⟨0x444D43, 2, dmcRows⟩
  | 0x17 => some ⟨0x444D43, 3, dmcRows⟩
  | 0x18 => some ⟨0x484C4B, 0, hlkRows⟩
  | 0x19 => some ⟨0x48444D, 0, hdmRows⟩
  | 0x1A => some ⟨0x535452, 0, strRows⟩
  | 0x1B => some ⟨0x50454E, 0, penRows⟩
  | 0x1C => some ⟨0x444358, 0, dcxRows⟩
  | 0x20 => some ⟨0x435259, 0, cryRows⟩
  | 0x21 => some ⟨0x4B4559, 0, keyRows⟩
  | 0x22 => some ⟨0x52474E, 0, rgnRows⟩
  | 0x23 => some ⟨0x414C4D, 0, almRows⟩
  | 0x24 => some ⟨0x415454, 0, attRows⟩
  | 0x28 => some ⟨0x5A4C20, 0, zlRows⟩
  | 0x29 => some ⟨0x5A4C20, 1, zlRows⟩
  | 0x30 => some ⟨0x505752, 0, pwrRows⟩
  | 0x31 => some ⟨0x484B41, 0, hkaRows⟩
  | 0x32 => some ⟨0x54484D, 0, thmRows⟩
  | 0x33 => some ⟨0x564E54, 0, vntRows⟩
  | 0x38 => some ⟨0x53524D, 0, srmRows⟩
  | 0x39 => some ⟨0x504E56, 0, pnvRows⟩
  | 0x3A => some ⟨0x544C59, 0, tlyRows⟩
  | 0x3B => some ⟨0x455252, 0, errRows⟩
  | 0x3C => some ⟨0x504D43, 0, pmcRows⟩
  | 0x3D => some ⟨0x444247, 0, dbgRows⟩
  | _ => none

/-- The page numbers in use (R868). -/
def pagesInUse : List Nat :=
  [0x00, 0x01, 0x02, 0x03, 0x04, 0x05, 0x06, 0x07, 0x08, 0x09, 0x0A, 0x0B, 0x0C, 0x0D, 0x0E, 0x10, 0x11, 0x12, 0x14, 0x15, 0x16, 0x17, 0x18, 0x19, 0x1A,
   0x1B, 0x1C, 0x20, 0x21, 0x22, 0x23, 0x24, 0x28, 0x29, 0x30, 0x31, 0x32, 0x33, 0x38, 0x39, 0x3A, 0x3B, 0x3C, 0x3D]

/-- The instance number of a page (R847); 0 for a page that has none. -/
def pageInst (p : Nat) : Nat :=
  match pageInfo p with
  | some i => i.inst
  | none => 0

/-- The row of `rows` that defines the register at offset `off`. -/
def findRow (rows : List RegRow) (off : Nat) : Option RegRow :=
  rows.find? (fun r => decide (r.off ≤ off) && decide ((off - r.off) % r.stride = 0) && decide ((off - r.off) / r.stride < r.count))

/-- The fields of the block register at BAR0 offset `addr`, none where no chapter defines a register. -/
def regFields (addr : Nat) : Option (List RegField) :=
  match pageInfo (addr / 0x1000) with
  | none => none
  | some i => (findRow i.rows (addr % 0x1000)).map (·.fields)

/-- The word that a list of fields reads after reset. -/
def fieldsReset (fs : List RegField) : Nat :=
  fs.foldl (fun w f => putBits w f.hi f.lo f.reset) 0

/-- The registers whose reset value depends on the variant or on the register's index (R28, R77 to R79, R120, R210, R634, R692, R737). -/
def resetSpecial (v : Variant) (addr : Nat) : Option Nat :=
  let p := addr / 0x1000
  let off := addr % 0x1000
  if p = 0x02 && off = 0x48 then some 0x40100400
  else if p = 0x03 && off = 0x44 then some 0x8
  else if p = 0x03 && off = 0x48 then some 0x04004010
  else if 0x04 ≤ p && p ≤ 0x08 && 0x60 ≤ off && off < 0x80 && off % 4 = 0 then
    some (if v = .v35A || (off - 0x60) / 4 < 4 then 0x90000000 else 0)
  else if p = 0x0B && off = 0x44 then some (match v with | .v35A => 0x38000000 | .v17A => 0x1C000000)
  else if p = 0x28 && off = 0x40 then some 0x13E
  else if p = 0x29 && off = 0x40 then some 0x13F
  else if p = 0x30 && 0x50 ≤ off && off < 0x70 && off % 4 = 0 then
    let n := (off - 0x50) / 4
    let stage := if n = 0 then 5 else if n ≤ 2 then 6 else if n = 3 then 7 else 0xC
    some (b2n (n ≤ 3) * 2 ^ 31 + b2n (n ≤ 2) * 2 ^ 30 + stage * 2 ^ 24 + 0x0A0A)
  else if p = 0x00 && off = 0x44 then some (match v with | .v35A => 0x46801200 | .v17A => 0x46802100)
  else none

/-- PAGE_CTRL after reset (R849): ENABLE, ROUTE_MSI, and ROUTE_PIN on DEV, PWR, THM and ALM. -/
def pageCtrlReset (p : Nat) : Nat :=
  0x201 + (if p = 0x00 || p = 0x30 || p = 0x32 || p = 0x23 then 0x100 else 0)

/-- The reset value of the register at BAR0 offset `addr`. -/
def regReset (v : Variant) (addr : Nat) : Word :=
  match resetSpecial v addr with
  | some w => BitVec.ofNat 32 w
  | none =>
    if addr % 0x1000 = 0x08 then BitVec.ofNat 32 (pageCtrlReset (addr / 0x1000))
    else match regFields addr with
      | some fs => BitVec.ofNat 32 (fieldsReset fs)
      | none => 0

/-! ### Registers and fields of the state -/

/-- The word held for the register at BAR0 offset `a`. -/
def State.reg (s : State) (a : Nat) : Nat := (SMap.get (regReset s.variant) s.regs a).toNat

/-- The register at `a` holding `v`. -/
def State.setReg (s : State) (a v : Nat) : State :=
  { s with regs := SMap.set (regReset s.variant) s.regs a (BitVec.ofNat 32 v) }

/-- The applied word of the staged register at `a` (R857). -/
def State.appliedWord (s : State) (a : Nat) : Nat := (SMap.get (regReset s.variant) s.applied a).toNat

/-- The applied word of the staged register at `a` holding `v`. -/
def State.setApplied (s : State) (a v : Nat) : State :=
  { s with applied := SMap.set (regReset s.variant) s.applied a (BitVec.ofNat 32 v) }

/-- The value of a field. -/
def State.fld (s : State) (f : Fld) : Nat := bitsOf (s.reg f.addr) f.hi f.lo

/-- The field `f` holding `v`. -/
def State.setFld (s : State) (f : Fld) (v : Nat) : State :=
  s.setReg f.addr (putBits (s.reg f.addr) f.hi f.lo v)

/-- The applied value of a staged field. -/
def State.appFld (s : State) (f : Fld) : Nat := bitsOf (s.appliedWord f.addr) f.hi f.lo

/-- A one-bit field. -/
def State.flag (s : State) (f : Fld) : Bool := s.fld f = 1

/-- The one-bit field `f` holding `b`. -/
def State.setFlag (s : State) (f : Fld) (b : Bool) : State := s.setFld f (b2n b)

/-- The greatest value of a field. -/
def Fld.max (f : Fld) : Nat := 2 ^ (f.hi + 1 - f.lo) - 1

/-- A counter that wraps to 0, raised by `n`. -/
def State.bumpBy (s : State) (f : Fld) (n : Nat) : State := s.setFld f ((s.fld f + n) % (f.max + 1))

/-- A counter that wraps to 0, raised by 1. -/
def State.bump (s : State) (f : Fld) : State := s.bumpBy f 1

/-- A counter that saturates, raised by `n`. -/
def State.bumpSatBy (s : State) (f : Fld) (n : Nat) : State := s.setFld f (min (s.fld f + n) f.max)

/-- A counter that saturates, raised by 1. -/
def State.bumpSat (s : State) (f : Fld) : State := s.bumpSatBy f 1

/-- A 48-bit counter held in a _LO and a _HI register, raised by `n` (R44, R505). -/
def State.bump48 (s : State) (lo hi : Fld) (n : Nat) : State :=
  let v := (s.fld lo + s.fld hi * 2 ^ 32 + n) % 2 ^ 48
  (s.setFld lo (v % 2 ^ 32)).setFld hi (v / 2 ^ 32)

/-- One more message sent. -/
def State.emit (s : State) (o : Output) : State := { s with out := s.out ++ [o] }

/-! ### Bytes moved (R819) -/

/-- `s` with the counter state changed by `f`. -/
def State.onPmc (s : State) (f : Pmc → Pmc) : State := { s with pmc := f s.pmc }

/-- Port `p` moves `n` bytes in its read (`w` false) or write direction (R819). -/
def State.moved (s : State) (p : Nat) (w : Bool) (n : Nat) : State :=
  let k := 2 * p + b2n w
  if n = 0 then s else s.onPmc (fun x => { x with run := SMap.set (fun _ => 0) x.run k ((SMap.get (fun _ => 0) x.run k + n) % 2 ^ 48) })

/-! ### Gangs -/

/-- Gang `g`. -/
def State.gang (s : State) (g : Nat) : Gang := if g = 0 then s.gang0 else s.gang1

/-- Gang `g` replaced. -/
def State.setGang (s : State) (g : Nat) (x : Gang) : State :=
  if g = 0 then { s with gang0 := x } else { s with gang1 := x }

/-- Gang `g` changed by `f`. -/
def State.onGang (s : State) (g : Nat) (f : Gang → Gang) : State := s.setGang g (f (s.gang g))

/-- The rota of gang `g`. -/
def State.rota (s : State) (g : Nat) : Rota := (s.gang g).rota

/-- The rota of gang `g` changed by `f`. -/
def State.onRota (s : State) (g : Nat) (f : Rota → Rota) : State :=
  s.onGang g (fun x => { x with rota := f x.rota })

/-- Number of gangs of the variant (R1). -/
def State.nGangs (s : State) : Nat := match s.variant with | .v35A => 2 | .v17A => 1

/-- The gangs of the variant. -/
def State.gangIds (s : State) : List Nat := List.range s.nGangs

/-- Number of dies of the variant (R1). -/
def State.nDies (s : State) : Nat := 20 * s.nGangs

/-- `x` put into an ascending list by key. -/
def insertBy {α : Type} (key : α → Nat) (x : α) (l : List α) : List α :=
  match l with
  | [] => [x]
  | y :: rest => if key x < key y then x :: y :: rest else y :: insertBy key x rest

/-- A list in ascending order of a key; equal ones keep their order. -/
def sortKey {α : Type} (key : α → Nat) (l : List α) : List α := l.foldl (fun acc x => insertBy key x acc) []

/-- `s` after `f` for every element of `l`, in order. -/
def State.each {α : Type} (s : State) (l : List α) (f : State → α → State) : State := l.foldl f s

/-- `s` after `f` where `c` holds. -/
def State.cond (s : State) (c : Bool) (f : State → State) : State := if c then f s else s

/-! ### Time -/

/-- The present clk, counted from bell 0 (R24). -/
def State.now (s : State) : Nat := s.clk.bell * 4096 + s.clk.phase

/-- The flock number (R24). -/
def State.flock (s : State) : Nat := s.clk.bell / 64

/-- The phase at which a command arrives (R24). -/
def State.at_ (s : State) (phase : Nat) : State := { s with clk := { s.clk with phase := phase % 4096 } }

/-- A destructive march pass runs on bank `b` (R749, R750). -/
def State.underMarch (s : State) (b : Nat) : Bool := s.srm.march = some (b, 0)

/-- What every meaning answers with: the state after the command. -/
abbrev Res := Host.Outcome State Fault Refusal

end Sys2Proof.Machine
end

