-- ==== Sys2Proof/Machine/Crc.lean ====
section
/-! DEFINITION. The frame and record checks: CRC-16 of R607 and CRC-32C. -/

namespace Sys2Proof.Machine

/-- `n` shifts of a CRC-16 register with polynomial 0x1021. -/
def crc16Shift (n c : Nat) : Nat :=
  match n with
  | 0 => c
  | k + 1 => crc16Shift k (if 0x8000 ≤ c then (2 * c % 0x10000) ^^^ 0x1021 else 2 * c)

/-- CRC-16 of R607: initial value 0xFFFF, no reflection, no final XOR. -/
def crc16 (bytes : List Nat) : Nat := bytes.foldl (fun c b => crc16Shift 8 (c ^^^ (b % 256 * 256))) 0xFFFF

/-- `n` shifts of a reflected CRC-32C register with polynomial 0x82F63B78. -/
def crc32cShift (n c : Nat) : Nat :=
  match n with
  | 0 => c
  | k + 1 => crc32cShift k (if c % 2 = 1 then (c / 2) ^^^ 0x82F63B78 else c / 2)

/-- CRC-32C: reflected, initial value and final XOR 0xFFFF_FFFF. -/
def crc32c (bytes : List Nat) : Nat :=
  (bytes.foldl (fun c b => crc32cShift 8 (c ^^^ (b % 256))) 0xFFFFFFFF) ^^^ 0xFFFFFFFF

/-- The `n` bytes of `v`, least significant first. -/
def bytesLe (n v : Nat) : List Nat :=
  match n with
  | 0 => []
  | k + 1 => (v % 256) :: bytesLe k (v / 256)

/-- The `n` bytes of `v`, most significant first. -/
def bytesBe (n v : Nat) : List Nat := (bytesLe n v).reverse

/-- The number whose bytes are `l`, least significant first. -/
def ofBytesLe (l : List Nat) : Nat := l.foldr (fun b acc => b % 256 + 256 * acc) 0

/-- The number whose bytes are `l`, most significant first. -/
def ofBytesBe (l : List Nat) : Nat := l.foldl (fun acc b => acc * 256 + b % 256) 0

end Sys2Proof.Machine
end

