-- ==== Sys2Proof/Machine/Formats.lean ====
section
/-! DEFINITION. The compressed formats of chapter 10: LZ4 blocks (R494), Zstandard frames and dictionaries (R492, R495), the lane time of a request (R496).
A decoder answers the bytes it has produced and a STATUS and DETAIL of R486 where it fails. -/

namespace Sys2Proof.Machine

/-- What a decoder produces: bytes, blocks, and the failure's STATUS and DETAIL if it fails. -/
structure Decoded where
  bytes : List Nat
  blocks : Nat := 1
  fail : Option (Nat × Nat) := none
deriving DecidableEq, Repr

/-! ### LZ4 (R494) -/

/-- The rest of a length that is coded with bytes of 255, and what follows; none where the source ends inside it. -/
def lz4Ext (src : List Nat) (n : Nat) : Option (Nat × List Nat) :=
  match src with
  | [] => none
  | b :: rest => if b = 255 then lz4Ext rest (n + 255) else some (n + b, rest)

/-- A length nibble with its extension. -/
def lz4Len (nibble : Nat) (src : List Nat) : Option (Nat × List Nat) := if nibble = 15 then lz4Ext src 15 else some (nibble, src)

/-- `n` bytes copied from `off` bytes back; the output is kept newest first. -/
def lz4Copy (n off : Nat) (rev : List Nat) : List Nat :=
  match n with
  | 0 => rev
  | k + 1 => lz4Copy k off (rev.getD (off - 1) 0 :: rev)

/-- The match of a sequence: none where it is not valid. -/
def lz4Match (nibble : Nat) (src rev : List Nat) : Option (List Nat × List Nat) :=
  match src with
  | a :: b :: rest =>
    let off := a + 256 * b
    if off = 0 || decide (rev.length < off) then none
    else (lz4Len nibble rest).map (fun x => (x.2, lz4Copy (x.1 + 4) off rev))
  | _ => none

/-- Sequences until the source ends; `fuel` exceeds the number of source bytes. The last sequence must be literals only. -/
def lz4Seqs (fuel : Nat) (src rev : List Nat) : List Nat × Bool :=
  match fuel, src with
  | 0, _ => (rev, false)
  | _, [] => (rev, false)
  | k + 1, tok :: rest =>
    match lz4Len (tok / 16) rest with
    | none => (rev, false)
    | some (n, body) =>
      if body.length < n then (rev, false)
      else
        let rev1 := (body.take n).reverse ++ rev
        let tail := body.drop n
        if tail.isEmpty then (rev1, true)
        else match lz4Match (tok % 16) tail rev1 with
          | none => (rev1, false)
          | some (more, rev2) => lz4Seqs k more rev2

/-- An LZ4 block that must decode to `dst` bytes (R494). -/
def lz4 (src : List Nat) (dst : Nat) : Decoded :=
  let r := lz4Seqs (src.length + 1) src []
  let b := r.1.reverse
  { bytes := b.take dst, fail := if !r.2 then some (0x21, 1) else if b.length ≠ dst then some (0x22, 0) else none }

/-! ### Zstandard (R495) -/

/-- A 32-bit little-endian number at the head of a list. -/
def head32 (l : List Nat) : Nat := ofBytesLe (l.take 4)

/-- The bytes after the skippable frames at the head of `l`; none where one is cut short. -/
def zSkip (fuel : Nat) (l : List Nat) : Option (List Nat) :=
  match fuel with
  | 0 => some l
  | k + 1 =>
    if 8 ≤ l.length && decide (head32 l / 16 = 0x184D2A5) then
      let n := head32 (l.drop 4)
      if l.length < 8 + n then none else zSkip k (l.drop (8 + n))
    else some l

/-- A frame header: the window size, the content size if present, the dictionary identifier, whether a checksum follows, what follows the header, reserved bit clear. -/
structure ZHeader where
  window : Nat
  size : Option Nat
  dict : Nat
  check : Bool
  rest : List Nat
  ok : Bool

/-- The header after the magic number; none where the source ends inside it. -/
def zHeader (l : List Nat) : Option ZHeader :=
  match l with
  | [] => none
  | d :: l1 =>
    let single := d / 32 % 2 = 1
    let wb := if single then 0 else 1
    let db := [0, 1, 2, 4].getD (d % 4) 0
    let fb := if d / 64 = 0 then (if single then 1 else 0) else 2 ^ (d / 64)
    if l1.length < wb + db + fb then none
    else
      let w := l1.headD 0
      let base := 2 ^ (10 + w / 8)
      let l2 := l1.drop wb
      let l3 := l2.drop db
      let fcs := ofBytesLe (l3.take fb) + (if fb = 2 then 256 else 0)
      some { window := if single then fcs else base + base / 8 * (w % 8), size := if fb = 0 then none else some fcs, dict := ofBytesLe (l2.take db),
             check := d / 4 % 2 = 1, rest := l3.drop fb, ok := d / 8 % 2 = 0 }

/-- The last `n` bytes of a list. -/
def lastBytes (n : Nat) (l : List Nat) : List Nat := l.drop (l.length - n)

/-- Blocks until the last one: the source that follows, the bytes produced, the number of blocks, the failure. `dict` stands before the output. -/
def zBlocks (fuel window : Nat) (dict tables src out : List Nat) (n : Nat) : List Nat × List Nat × Nat × Option (Nat × Nat) :=
  match fuel with
  | 0 => (src, out, n, some (0x21, 1))
  | k + 1 =>
    if src.length < 3 then (src, out, n, some (0x21, 1))
    else
      let h := ofBytesLe (src.take 3)
      let ty := h / 2 % 4
      let size := h / 8
      let body := src.drop 3
      let max := min window 131072
      let used := if ty = 1 then 1 else size
      if ty = 3 || decide (max < size) then (src, out, n, some (0x21, 4))
      else if body.length < used then (src, out, n, some (0x21, 1))
      else
        let step := if ty = 0 then some (tables, body.take size)
          else if ty = 1 then some (tables, List.replicate size (body.headD 0))
          else Config.zstdBlock tables (lastBytes window (dict ++ out)) (body.take size)
        match step with
        | none => (src, out, n + 1, some (0x21, 1))
        | some (t, b) =>
          if max < b.length then (src, out, n + 1, some (0x21, 4))
          else if h % 2 = 1 then (body.drop used, out ++ b, n + 1, none)
          else zBlocks k window dict t (body.drop used) (out ++ b) (n + 1)

/-- What the frame's dictionary is (R495): identifier, tables and content of the request's slot, if it uses one. -/
structure ZDict where
  ident : Nat := 0
  tables : List Nat := []
  content : List Nat := []

/-- The failure of a frame header, in the order of R495; none where it is good. -/
def zHeaderFail (h : ZHeader) (dst : Nat) (dict : Option ZDict) : Option (Nat × Nat) :=
  if !h.ok then some (0x21, 4)
  else if 2 ^ 20 < h.window then some (0x21, 2)
  else if (match h.size with | some n => decide (n ≠ dst) | none => false) then some (0x22, 0)
  else if h.dict ≠ 0 && !(match dict with | some d => decide (d.ident = h.dict) | none => false) then some (0x21, 3)
  else none

/-- What ends a frame whose blocks are done: its checksum, what stands after it, its size. -/
def zEnd (h : ZHeader) (dst : Nat) (rest out : List Nat) : Option (Nat × Nat) :=
  let c := if h.check then 4 else 0
  if rest.length < c then some (0x21, 1)
  else if h.check && decide (head32 rest ≠ Config.xxh64 out % 2 ^ 32) then some (0x23, 0)
  else if zSkip rest.length (rest.drop c) ≠ some [] then some (0x21, 1)
  else if out.length ≠ dst then some (0x22, 0) else none

/-- A Zstandard source that must decode to `dst` bytes (R495). -/
def zstd (src : List Nat) (dst : Nat) (dict : Option ZDict) : Decoded :=
  match zSkip src.length src with
  | none => { bytes := [], blocks := 0, fail := some (0x21, 1) }
  | some l =>
    if l.length < 4 || decide (head32 l ≠ 0xFD2FB528) then { bytes := [], blocks := 0, fail := some (0x21, 1) }
    else match zHeader (l.drop 4) with
      | none => { bytes := [], blocks := 0, fail := some (0x21, 1) }
      | some h =>
        match zHeaderFail h dst dict with
        | some f => { bytes := [], blocks := 0, fail := some f }
        | none =>
          let d := dict.getD {}
          let r := zBlocks (src.length + 1) h.window d.content d.tables h.rest [] 0
          { bytes := r.2.1.take dst, blocks := r.2.2.1, fail := match r.2.2.2 with | some f => some f | none => zEnd h dst r.1 r.2.1 }

/-! ### Dictionaries and lane time (R492, R496) -/

/-- A dictionary's bytes parsed: identifier, tables, content; none where the parse fails. -/
def parseDict (b : List Nat) : Option ZDict :=
  if 4 ≤ b.length && decide (head32 b = 0xEC30A437) then
    if b.length < 8 then none
    else (Config.zstdDict (b.drop 8)).map (fun x => { ident := head32 (b.drop 4), tables := x.1, content := x.2 })
  else some { content := b }

/-- Blocks that a compressed READ is charged (R496). -/
def chargedBlocks (format dst : Nat) : Nat := if format = 2 then ceilDiv dst 131072 else 1

/-- The lane time L (R496). -/
def laneTime (format src dst : Nat) : Nat := 6 * ceilDiv src 64 + 12 * ceilDiv dst 64 + 1024 * chargedBlocks format dst + 512

end Sys2Proof.Machine
end

