-- ==== Sys2Proof/Machine/Operands.lean ====
section
/-! DEFINITION. Addresses and where things lie: dies and gangs (R3), DPAs (R6, R7), physical segment addresses (R89, R90), bands, guard words, free values. -/

namespace Sys2Proof.Machine

/-- `x` as a member of the list `l` without repeats. -/
def addNew (x : Nat) (l : List Nat) : List Nat := if l.contains x then l else l ++ [x]

/-! ### Dies (R3) -/

/-- Die number of gang-local die `i` of gang `g`. -/
def dieNo (g i : Nat) : Nat := 20 * g + i
/-- Gang of die `d`. -/
def dieGang (d : Nat) : Nat := d / 20
/-- Gang-local number of die `d`. -/
def dieLocal (d : Nat) : Nat := d % 20
/-- Stack of die `d`. -/
def dieStack (d : Nat) : Nat := d % 20 / 4
/-- Position of die `d` in its stack. -/
def diePos (d : Nat) : Nat := 4 * (d / 20) + d % 4
/-- Die at position `p` of stack `st`. -/
def dieAt (st p : Nat) : Nat := 20 * (p / 4) + 4 * st + p % 4

/-- Die `d` is declared failed (R118). -/
def State.dieFailed (s : State) (d : Nat) : Bool := bitOf (s.fld (Reg.MED.FAILED_MAP.FAILED (dieStack d))) (diePos d)

/-- Gang-local numbers of the failed dies of gang `g`. -/
def State.failedOf (s : State) (g : Nat) : List Nat := (List.range 20).filter (fun i => s.dieFailed (dieNo g i))

/-- MARGIN of gang `g` (R146): 0 full, 1 one failed die, 2 two, 3 offline. -/
def State.margin (s : State) (g : Nat) : Nat := min (s.failedOf g).length 3

/-- The gangs that take writes: fewer than two failed dies (R115). -/
def State.writable (s : State) : List Nat := s.gangIds.filter (fun g => decide (s.margin g < 2))

/-! ### DPAs (R6, R7) -/

/-- The DPA is in internal user space of the variant. -/
def State.dpaInternal (s : State) (dpa : Nat) : Bool :=
  decide (dpa < (match s.variant with | .v35A => 0x38000000000 | .v17A => 0x1C000000000))

/-- Slot of a DPA in a cartridge range (R6). -/
def dpaCart (dpa : Nat) : Option Nat :=
  if 0x38000000000 ≤ dpa && dpa < 0x3C000000000 then some 0
  else if 0x3C000000000 ≤ dpa && dpa < 0x40000000000 then some 1 else none

/-- Logical sector number, logical segment number, sector within the segment, logical paddock (R7). -/
def dpaLsn (dpa : Nat) : Nat := dpa / 256
def dpaSeg (dpa : Nat) : Nat := dpa / 4096
def dpaSector (dpa : Nat) : Nat := dpa / 256 % 16
def dpaPaddock (dpa : Nat) : Nat := dpa / 2 ^ 24

/-! ### Physical segments (R89, R90) -/

/-- Gang, paddock of the gang, segment within the paddock, band of the gang, paddock within the band. -/
def psaGang (psa : Nat) : Nat := psa / 2 ^ 29 % 2
def psaPaddock (psa : Nat) : Nat := psa / 4096 % 2 ^ 17
def psaSeg (psa : Nat) : Nat := psa % 4096
def psaBand (psa : Nat) : Nat := psaPaddock psa / 3
def psaK (psa : Nat) : Nat := psaPaddock psa % 3

/-- The physical segment address of segment `sg` of paddock `p` of gang `g`. -/
def psaOf (g p sg : Nat) : Nat := g * 2 ^ 29 + p * 4096 + sg

/-- TLC page q of a segment (R90). -/
def psaPageTlc (psa : Nat) : Nat := 256 * psaK psa + psaSeg psa / 16
/-- Band row of a segment in a TLC band and in an SLC band (R90). -/
def psaRowTlc (psa : Nat) : Nat := psaPageTlc psa / 3
def psaRowSlc (psa : Nat) : Nat := 85 * psaK psa + psaSeg psa / 16
/-- Level of a TLC segment (R90). -/
def psaLevel (psa : Nat) : Nat := psaPageTlc psa % 3
/-- Fragment (R90). -/
def psaFragment (psa : Nat) : Nat := psaSeg psa % 16
/-- Tile and tile row of band row `j` of band `b` (R89). -/
def rowTile (j : Nat) : Nat := j % 16
def rowTileRow (b j : Nat) : Nat := 16 * b + j / 16

/-- The PSA of slot `n` (page q = n div 16, fragment n mod 16) of a TLC band (R90, R185). -/
def psaOfTlcSlot (g b n : Nat) : Nat := psaOf g (3 * b + n / 16 / 256) (n / 16 % 256 * 16 + n % 16)

/-- Number of bands of a gang; the last holds only paddocks 0 and 1 (R89). -/
abbrev bandsPerGang : Nat := 43691
/-- Paddocks of a band. -/
def bandPaddocks (b : Nat) : Nat := if b = 43690 then 2 else 3
/-- First band of the system area: the 512 highest-numbered paddocks (R176). -/
abbrev firstSystemBand : Nat := 43520

/-- Key of band `b` of gang `g`, of paddock `p` of gang `g`, of a chunk of the medium. -/
def bandKey (g b : Nat) : Nat := g * bandsPerGang + b
def padKey (g p : Nat) : Nat := g * 2 ^ 17 + p
def chunkKey (psa sector pos : Nat) : Nat := (psa * 16 + sector) * 20 + pos
/-- The gang and the paddock of a paddock's key; the band of a paddock. -/
def keyGang (k : Nat) : Nat := k / 2 ^ 17
def keyPad (k : Nat) : Nat := k % 2 ^ 17
def padBand (p : Nat) : Nat := p / 3

/-! ### Guards and free values -/

/-- The GUARD byte of a register word, bits [15:8] (R854 and the command registers). -/
def guardOf (w : Nat) : Nat := bitsOf w 15 8

/-- A free value of `n` bits (log entry 3), and the state that has drawn it. -/
def State.draw (s : State) (n : Nat) : Nat × State :=
  ((Config.free s.drawn n).toNat, { s with drawn := s.drawn + 1 })

/-! ### Power domains of a die (R107, R695) -/

/-- The domains of die `d` as bits of PWR's domains: the interface domain, and the array domain (R107, R695). -/
def ifBit (d : Nat) : BitVec 136 := 1#136 <<< (56 + 2 * d)
def arrayBit (d : Nat) : BitVec 136 := 1#136 <<< (57 + 2 * d)

/-- The interface domain of die `d` is switched on, then its array domain (R107). The isolation cells let go of its lanes. -/
def State.domainsOn (s : State) (d : Nat) : State :=
  let s1 := { s with pwr := { s.pwr with dom := s.pwr.dom ||| ifBit d, iso := s.pwr.iso &&& ~~~(1#40 <<< d) } }
  let s2 := (s1.emit (.domain d false true))
  ({ s2 with pwr := { s2.pwr with dom := s2.pwr.dom ||| arrayBit d } }).emit (.domain d true true)

/-- The array domain of die `d` is switched off, then its interface domain (R107). -/
def State.domainsOff (s : State) (d : Nat) : State :=
  let s1 := ({ s with pwr := { s.pwr with dom := s.pwr.dom &&& ~~~(arrayBit d) } }).emit (.domain d true false)
  ({ s1 with pwr := { s1.pwr with dom := s1.pwr.dom &&& ~~~(ifBit d) } }).emit (.domain d false false)

/-- The domains of every die that has one on are switched off (R107, R664, R675). -/
def State.dieDomainsOff (s : State) : State :=
  s.each ((List.range 40).filter (fun d => s.pwr.dom.getLsbD (56 + 2 * d) || s.pwr.dom.getLsbD (57 + 2 * d))) State.domainsOff

end Sys2Proof.Machine
end

