-- ==== Sys2Proof/Machine/Flags.lean ====
section
/-! DEFINITION. Status flags: interrupt bits and their summaries (R852, R865), reports to the aggregator (R785, R788), configuration errors (R853, R860),
the order of events of one clk (R13). -/

namespace Sys2Proof.Machine

/-! ### Severities (R776) and master classes (R530) -/

abbrev sevNotice : Nat := 2
abbrev sevWarn : Nat := 3
abbrev sevError : Nat := 4
abbrev sevCrit : Nat := 5
abbrev sevAlarm : Nat := 6
abbrev sevFatal : Nat := 7
abbrev clsHost : Nat := 0
abbrev clsStream : Nat := 1
abbrev clsDma : Nat := 2
abbrev clsDebug : Nat := 3
abbrev clsCart : Nat := 4
abbrev clsDevice : Nat := 5

/-! ### Interrupts -/

/-- INT_PEND of a page (R850, R865): some bit is set in both INT_STATUS and INT_ENABLE. -/
def State.intPend (s : State) (p : Nat) : Bool :=
  decide (s.reg (p * 0x1000 + 0x10) &&& s.reg (p * 0x1000 + 0x14) ≠ 0)

/-- The OR of INT_PEND over the pages whose PAGE_CTRL bit `b` is 1 (R865). -/
def State.summary (s : State) (b : Nat) : Bool :=
  pagesInUse.any (fun p => s.intPend p && bitOf (s.reg (p * 0x1000 + 0x08)) b)

/-- MSI-X vector `v` is sent, or its pending bit is set while Bus Master Enable or MSI-X Enable is 0 (R865). -/
def State.sendMsi (s : State) (v : Nat) : State :=
  if s.irq.msixEn && s.irq.busMaster && !s.link.recovery then s.emit (.msix v)
  else { s with irq := { s.irq with pend := s.irq.pend ||| (1#3 <<< v) } }

/-- The two summaries formed again; MSI-X vector 2 on a rise of the MSI summary, or if `always` and it stays 1; an in-band interrupt on a rise of the pin summary (R865, R866). -/
def State.refreshIrq (s : State) (always : Bool) : State :=
  let m := s.summary 9
  let p := s.summary 8
  let s1 := { s with irq := { s.irq with msi := m, pin := p } }
  let s2 := if m && (!s.irq.msi || always) then s1.sendMsi 2 else s1
  if p && !s.irq.pin && s.irq.ibiEn then s2.emit .ibi else s2

/-- The INT_STATUS bit `f` is raised (R852). -/
def State.raise (s : State) (f : Fld) : State := (s.setFlag f true).refreshIrq false

/-! ### Reports -/

/-- The LOST counter of a severity (R801). -/
def lostFld (sev : Nat) : Fld := if sev % 2 = 1 then Reg.TLY.LOST.HIGH (sev / 2) else Reg.TLY.LOST.LOW (sev / 2)

/-- The OVER counter of a severity (R802). -/
def overFld (sev : Nat) : Fld := if sev % 2 = 1 then Reg.TLY.OVER.HIGH (sev / 2) else Reg.TLY.OVER.LOW (sev / 2)

/-- The FIFO of page `p` (R785). -/
def Tally.fifoOf (t : Tally) (p : Nat) : List Report := SMap.get (fun _ => []) t.fifo p

/-- The queue of severity `v` (R786). -/
def Tally.queueOf (t : Tally) (v : Nat) : List Report := SMap.get (fun _ => []) t.queue v

/-- `s` with the Tally state changed by `f`. -/
def State.onTally (s : State) (f : Tally → Tally) : State := { s with tally := f s.tally }

/-- A report counted in LOST and not queued (R788). -/
def State.lost (s : State) (sev : Nat) : State := (s.bumpSat (lostFld sev)).raise Reg.TLY.INT_STATUS.LOST

/-- A block offers a report (R785, R788). In OFF, SEQ_UP and SEQ_DOWN it is counted in LOST. In VENT likewise, but a FATAL report is queued (R687). -/
def State.report (s : State) (r : Report) : State :=
  if s.dev.st = .off || s.dev.st = .seqUp || s.dev.st = .seqDown || (s.dev.st = .vent && decide (r.sev < 7)) then s.lost r.sev
  else if (s.tally.fifoOf r.page).length < 2 then
    s.onTally (fun t => { t with fifo := SMap.set (fun _ => []) t.fifo r.page (t.fifoOf r.page ++ [r]) })
  else (s.bump Reg.ERR.INTAKE_OVF.COUNT).raise Reg.ERR.INT_STATUS.INTAKE_OVF

/-- A report with code `code` of the page `code >> 8`, of no requester (R775, R777). -/
def State.reportCode (s : State) (sev code inst p1 p2 p3 : Nat) : State :=
  s.report { sev, cls := clsDevice, code, page := code / 256, inst, p1, p2, p3 }

/-- The INT_STATUS bit `f` is raised and its record is offered: the low byte of CODE is the bit number plus 1 (R777). -/
def State.raiseRec (s : State) (f : Fld) (sev cls inst p1 p2 p3 : Nat) : State :=
  (s.raise f).report { sev, cls, code := f.addr / 0x1000 * 256 + f.lo + 1, page := f.addr / 0x1000, inst, p1, p2, p3 }

/-! ### Configuration errors -/

/-- SOURCE code of a register access (R853). -/
def Source.code (src : Source) : Nat :=
  match src with
  | .host => 0
  | .core _ => 1
  | .i3c => 2

/-- A configuration error on page `p` (R853, R854, R860): captured if CFG_ERR was clear, else added to MORE; a NOTICE record in either case. -/
def State.cfgErr (s : State) (p cause source off value : Nat) : State :=
  let a := p * 0x1000
  let s1 :=
    if bitOf (s.reg (a + 0x0C)) 27 then s.setReg (a + 0x28) (min (s.reg (a + 0x28) + 1) 0xFFFF)
    else (((s.setReg (a + 0x0C) (putBits (s.reg (a + 0x0C)) 27 27 1)).setReg (a + 0x1C) (cause * 2 ^ 28 + source * 2 ^ 26 + off)).setReg
      (a + 0x20) value).setReg (a + 0x24) (s.clk.bell % 2 ^ 32)
  s1.report { sev := sevNotice, cls := clsDevice, code := p * 256 + 0x41, page := p, inst := pageInst p, p1 := cause, p2 := off, p3 := value }

/-! ### Events of one clk (R13) -/

/-- Rank of an event that falls at `phase` too: VIN collapse and PWR_REQ off, which fall in the clk of the command before them (log entry 5), and a record step of that phase. -/
def sameRank (phase : Nat) (c : Instr) : Option Nat :=
  match c with
  | .vinCollapse => some 1
  | .recordStep p => if p % 4096 = phase then some 2 else none
  | .pwrReqOff => some 3
  | _ => none

/-- The ranks of the waiting commands that fall in the clk of the present one: a run at the front of the queue. -/
def sameClk (phase : Nat) (l : List Instr) : List Nat :=
  match l with
  | [] => []
  | c :: rest => match sameRank phase c with | some k => k :: sameClk phase rest | none => []

/-- An event of rank `k` loses its transition to an earlier-ranked event of the same clk (R13); a record step counts where the report it takes is FATAL. -/
def State.outranked (s : State) (k : Nat) : Bool :=
  let fatal := !(s.tally.queueOf 7).isEmpty
  (sameClk s.clk.phase s.pending).any (fun r => decide (r < k) && (decide (r ≠ 2) || fatal))

end Sys2Proof.Machine
end

