-- ==== Sys2Proof/Machine/PnvStore.lean ====
section
/-! DEFINITION. The parameter NVM (R751 to R760): its records and their pages, which copy a reader takes, what a write does, and what an operation that is cut leaves. -/

namespace Sys2Proof.Machine

/-- `s` with what the device holds of the PNV changed by `f`. -/
def State.onPnv (s : State) (f : Pnv → Pnv) : State := { s with pnv := f s.pnv }

/-- `s` with the cells of the PNV changed by `f`. -/
def State.onNvm (s : State) (f : Nvm → Nvm) : State := { s with nvm := f s.nvm }

/-! ### Record instances and their pages (R751, R754, R755; log entry 112) -/

/-- Partition of a PNV page (R751, chapter 15's index p). -/
def pnvPart (page : Nat) : Nat :=
  if page < 256 then 0 else if page < 512 then 1 else if page < 1536 then 2 else if page < 1792 then 3 else 4

/-- Page A of a record. -/
def NvRec.page (r : NvRec) : Nat :=
  match r with
  | .failed => 0
  | .marked => 2
  | .next => 4
  | .regions i => 6 + 2 * i
  | .epoch => 256
  | .shepherd g => 258 + 2 * g
  | .level => 262
  | .dirty => 264
  | .vents => 266
  | .ventsBad => 268
  | .eruptions => 270
  | .vent => 272
  | .ventSeq => 274
  | .intentSeq => 276
  | .gens i => 278 + 2 * i
  | .slot k => 1536 + k
  | .ck => 1600
  | .rollback => 1602
  | .erupted => 1604
  | .intent => 1792

/-- TYPE and INDEX of a record. -/
def NvRec.ty (r : NvRec) : Nat :=
  match r with
  | .failed => 1
  | .marked => 2
  | .next => 3
  | .regions _ => 4
  | .epoch => 5
  | .shepherd _ => 6
  | .level => 7
  | .dirty => 8
  | .vents => 9
  | .ventsBad => 10
  | .eruptions => 11
  | .vent => 12
  | .ventSeq => 13
  | .intentSeq => 14
  | .gens _ => 15
  | .slot _ => 16
  | .ck => 17
  | .rollback => 18
  | .erupted => 19
  | .intent => 20
def NvRec.index (r : NvRec) : Nat := match r with | .regions i | .gens i => i | .shepherd g => g | .slot k => k | _ => 0

/-- A record with one page alone (R755). -/
def NvRec.single (r : NvRec) : Bool := match r with | .slot _ | .ck => true | _ => false
/-- Its pages: A, and B where it has two. -/
def NvRec.pages (r : NvRec) : List Nat := if r.single then [r.page] else [r.page, r.page + 1]

/-- Every record instance, in the order in which waiting writes are taken: the intent record first, CK before the cache pages (R556, R760). -/
def nvRecs : List NvRec :=
  [.intent, .erupted, .ck] ++ (List.range 64).map NvRec.slot ++ [.rollback, .ventSeq, .intentSeq] ++ (List.range 4).map NvRec.gens ++ [.failed, .marked, .next] ++ (List.range 13).map NvRec.regions ++
    [.epoch, .shepherd 0, .shepherd 1, .level, .dirty, .vents, .ventsBad, .eruptions, .vent]

/-- A record without a valid copy is a boot failure (R758): configuration and keys partitions, intent record, security counters. -/
def NvRec.vital (r : NvRec) : Bool := match r with | .ventSeq | .intentSeq | .gens _ => true | _ => decide (pnvPart r.page ≠ 1)

/-! ### What a record says -/

/-- What `p` makes a record say. Ordinary counters keep LIMIT at 0 (R757). -/
def Pnv.pay (p : Pnv) (r : NvRec) : NvPay :=
  match r with
  | .failed => .dies p.failed
  | .marked => .list p.marked
  | .next => .list [p.next]
  | .regions i => .regions (p.regions.within (20 * i) (20 * i + 20))
  | .epoch => .counter p.epoch 0
  | .shepherd g => .counter (SMap.get (fun _ => 0) p.shpPos g) 0
  | .level => .counter p.level 0
  | .dirty => .counter p.dirty 0
  | .vents => .counter p.vents 0
  | .ventsBad => .counter p.ventsBad 0
  | .eruptions => .counter p.eruptions 0
  | .vent => .vent p.ventPage
  | .ventSeq => .counter p.ventLimit p.ventLimit
  | .intentSeq => .counter p.seqLimit p.seqLimit
  | .gens i => .gens (p.gens.within (64 * i) (64 * i + 64))
  | .slot k => let x := SMap.get (fun _ => ({} : KeySlot)) p.keys k; if x = {} then .none else .slot x
  | .ck => if p.ck then .list [1] else .none
  | .rollback => .counter p.rollback p.rollback
  | .erupted => .erupted p.erupted p.cause
  | .intent => .intent p.erasing

/-- `p` with what a record says; where it says nothing, what R758 takes. -/
def Pnv.put (p : Pnv) (r : NvRec) (x : NvPay) : Pnv :=
  let v := match x with | .counter v _ => v | _ => 0
  let limit := match x with | .counter _ l => l | _ => 0
  let list := match x with | .list l => l | _ => []
  match r with
  | .failed => { p with failed := match x with | .dies l => l | _ => [] }
  | .marked => { p with marked := list }
  | .next => { p with next := list.headD 1 }
  | .regions i => { p with regions := (p.regions.within 0 (20 * i)) ++ (match x with | .regions l => l | _ => []) ++ (p.regions.within (20 * i + 20) 256) }
  | .epoch => { p with epoch := v }
  | .shepherd g => { p with shpPos := SMap.set (fun _ => 0) p.shpPos g v }
  | .level => { p with level := v }
  | .dirty => { p with dirty := v }
  | .vents => { p with vents := v }
  | .ventsBad => { p with ventsBad := v }
  | .eruptions => { p with eruptions := v }
  | .vent => { p with ventPage := match x with | .vent w => w | _ => none }
  | .ventSeq => { p with ventLimit := limit }
  | .intentSeq => { p with seqLimit := limit }
  | .gens i => { p with gens := (p.gens.within 0 (64 * i)) ++ (match x with | .gens l => l | _ => []) ++ (p.gens.within (64 * i + 64) 256) }
  | .slot k => { p with keys := SMap.set (fun _ => {}) p.keys k (match x with | .slot y => y | _ => {}) }
  | .ck => { p with ck := decide (list = [1]) }
  | .rollback => { p with rollback := v }
  | .erupted => { p with erupted := (match x with | .erupted b _ => b | _ => false), cause := (match x with | .erupted _ c => c | _ => 0) }
  | .intent => { p with erasing := match x with | .intent b => b | _ => false }

/-! ### Bytes (R754, R757, R759; log entry 112) -/

/-- A region entry as its three words. -/
def Region.bytes (i : Nat) (x : Region) : List Nat :=
  bytesLe 1 i ++ bytesLe 4 (b2n x.valid * 2 ^ 31 + x.first) ++ bytesLe 3 x.last ++
    bytesLe 4 (x.keyid * 2 ^ 24 + x.mode * 2 ^ 20 + b2n x.versioning * 2 ^ 19 + b2n x.strict * 2 ^ 18 + b2n x.grouped * 2 ^ 17 + b2n x.compressed * 2 ^ 16 + x.rights)

/-- A generation entry. -/
def GenSt.bytes (i : Nat) (x : GenSt) : List Nat := [i, x.cur, x.low, x.oldCur, x.oldLow, b2n x.oldValid + 2 * b2n x.rekeyReq + 4 * b2n x.passActive]

/-- Bytes 0 to 29 of a Tally record (R775). -/
def Rec.body (r : Rec) : List Nat :=
  bytesLe 4 r.seq ++ bytesLe 7 r.bell ++ [r.sev % 8 * 32 + r.cls % 8 * 4] ++ bytesLe 2 r.code ++ [r.page % 64, r.inst % 256] ++
    bytesLe 4 r.p1 ++ bytesLe 4 r.p2 ++ bytesLe 4 r.p3 ++ bytesLe 2 r.rep

/-- The 32 bytes of a Tally record; its CRC is big-endian (R775). -/
def Rec.bytes (r : Rec) : List Nat := r.body ++ bytesBe 2 (crc16 r.body)

/-- The entries of the erasure's intent (R556, R759): CK and then the cache pages, each a PAGE_CLEAR. -/
def eraseEntries : List Nat := ((1600 :: (List.range 64).map (fun k => 1536 + k)).map (fun p => bytesLe 3 (p + 2 ^ 22))).flatten

/-- The payload, from byte 8 on. -/
def NvPay.bytes (x : NvPay) : List Nat :=
  match x with
  | .none => []
  | .counter v l => bytesLe 8 v ++ bytesLe 8 l
  | .dies l => l.flatMap (fun e => [e.1, e.2])
  | .list l => l
  | .regions l => l.flatMap (fun e => Region.bytes e.1 e.2)
  | .gens l => l.flatMap (fun e => GenSt.bytes e.1 e.2)
  | .slot _ => []
  | .vent (some v) => bytesLe 4 v.seq ++ bytesLe 4 v.epoch ++ v.next.flatMap (bytesLe 4) ++ [b2n v.atRisk, b2n v.fromVin] ++ bytesLe 4 v.pages ++ bytesLe 8 v.bell ++ bytesLe 2 v.total ++ v.rcd.bytes
  | .vent Option.none => []
  | .erupted b c => [b2n b, c]
  | .intent b => if b then [1, 16, 65] ++ eraseEntries else [0, 0, 0]

/-- The first 252 bytes of a record. -/
def recordBody (ty index seq : Nat) (payload : List Nat) : List Nat :=
  bytesLe 2 ty ++ bytesLe 2 index ++ bytesLe 4 seq ++ (payload ++ List.replicate 244 0).take 244

/-- A page with a record: its CRC-32C over bytes 0 to 251 lies in bytes 252 to 255. -/
def recordBytes (ty index seq : Nat) (payload : List Nat) : BitVec 2048 :=
  let b := recordBody ty index seq payload
  BitVec.ofNat 2048 (ofBytesLe (b ++ bytesLe 4 (crc32c b)))

/-- SEQ of a page. -/
def pageSeq (b : BitVec 2048) : Nat := (b.extractLsb' 32 32).toNat

/-- A page holds a valid record of TYPE `ty` and INDEX `index` (R754). -/
def validPage (ty index : Nat) (b : BitVec 2048) : Bool :=
  decide ((b.extractLsb' 0 16).toNat = ty) && decide ((b.extractLsb' 16 16).toNat = index) && decide ((b.extractLsb' 2016 32).toNat = crc32c (bytesLe 252 (b.toNat % 2 ^ 2016)))

/-! ### Pages -/

/-- A page with the record `r` saying `x`. -/
def recordPage (r : NvRec) (seq : Nat) (x : NvPay) : NvPage := { bytes := recordBytes r.ty r.index seq x.bytes, pay := x }

/-- A page as it left the factory (log entry 112): in page A each record says what it says of a new device, with SEQ 0; every other page was never written. -/
def factoryPage (n : Nat) : NvPage :=
  match nvRecs.find? (fun r => !r.single && r.page = n) with
  | some r => recordPage r 0 (({} : Pnv).pay r)
  | none => {}

/-- A page as it stands. -/
def State.nvPage (s : State) (n : Nat) : NvPage := SMap.get factoryPage s.nvm.pages n
/-- A page replaced. -/
def State.setNv (s : State) (n : Nat) (x : NvPage) : State := s.onNvm (fun m => { m with pages := SMap.set factoryPage m.pages n x })

/-- The copy that a reader takes (R755): the valid page with the larger SEQ. -/
def State.nvCopy (s : State) (r : NvRec) : Option (Nat × NvPage) :=
  ((r.pages.map (fun n => (n, s.nvPage n))).filter (fun e => validPage r.ty r.index e.2.bytes)).foldl (fun acc e => match acc with
    | none => some e
    | some x => if pageSeq x.2.bytes < pageSeq e.2.bytes then some e else some x) none

/-- What the record says in the cells; a single page that is cleared or never written says nothing. -/
def State.nvSays (s : State) (r : NvRec) : Option NvPay :=
  match s.nvCopy r with
  | some e => some e.2.pay
  | none => if r.single && ((s.nvPage r.page).bytes = 0 || (s.nvPage r.page).bytes = BitVec.allOnes 2048) then some .none else none

/-- What the device holds of a record is not yet in the cells. -/
def State.nvDirty (s : State) (r : NvRec) : Bool := decide (s.nvSays r ≠ some (s.pnv.pay r))

/-- The page that a write of the record goes to, and what it leaves there (R752, R755): the page that does not hold the copy, with SEQ one greater; a page that says nothing is cleared. -/
def State.nvTarget (s : State) (r : NvRec) : Nat × NvPage :=
  let x := s.pnv.pay r
  let c := s.nvCopy r
  if r.single then (r.page, if x = .none then { bytes := 0 } else recordPage r ((c.map (fun e => pageSeq e.2.bytes + 1)).getD 0) x)
  else match c with
    | some e => (if e.1 = r.page then r.page + 1 else r.page, recordPage r (pageSeq e.2.bytes + 1) x)
    | none => (r.page, recordPage r 0 x)

/-! ### Operations (R752, R769, R772, R773) -/

/-- The program count of a page rises. -/
def State.pnvWear (s : State) (page : Nat) : State :=
  let n := SMap.get (fun _ => 0) s.pnv.programs page + 1
  let f := Reg.PNV.PART_MAX.MAX (pnvPart page)
  let s1 := (s.onPnv (fun p => { p with programs := SMap.set (fun _ => 0) p.programs page n })).setFld f (max (s.fld f) (min n f.max))
  if n = 900000 then s1.raise Reg.PNV.INT_STATUS.WEAR_HIGH else s1

/-- A PROGRAM or PAGE_CLEAR that leaves `x` in page `n` has ended: it counts, and the page's own count rises where a group was programmed. A PROGRAM moves its page buffer of 256 bytes into the PNV (R819). -/
def State.nvDone (s : State) (n : Nat) (x : NvPage) : State :=
  (((if (s.nvPage n).bytes = x.bytes && x.bytes ≠ 0 then s else s.pnvWear n).bump Reg.PNV.PROGRAMS.PROGRAMS).moved 20 true (if x.bytes = 0 then 0 else 256)).setNv n x

/-- A record is written now: the operation that makes it durable has ended. -/
def State.nvWrite (s : State) (r : NvRec) : State := let t := s.nvTarget r; s.nvDone t.1 t.2

/-- Everything that waits is in the cells: what a command does that comes when its write is durable. -/
def State.nvFlush (s : State) : State := s.each (nvRecs.filter s.nvDirty) State.nvWrite

/-- The operation on a page. -/
def nvOp (cur : NvPage) (t : Nat × NvPage) : PnvOp := if t.2.bytes = 0 then .pageClear t.1 else .program t.1 (decide (cur.bytes ≠ t.2.bytes))

/-- The page of an operation. -/
def PnvOp.page (o : PnvOp) : Nat := match o with | .read p | .program p _ | .pageClear p => p

/-- An operation starts, or none: BUSY, and PAGE of the operation in progress. -/
def State.nvStart (s : State) (o : Option PnvOp) (job : Option (Nat × NvPage)) : State :=
  let s1 := ((s.onPnv (fun p => { p with op := o })).onNvm (fun m => { m with job, since := s.now })).setFlag Reg.PNV.STATUS.BUSY o.isSome
  match o with | some x => s1.setFld Reg.PNV.STATUS.PAGE x.page | none => s1

/-! ### Operations that are cut (R753, R756) -/

/-- Group `k` of a page: bytes 4k to 4k + 3. -/
def nvGroup (b : BitVec 2048) (k : Nat) : BitVec 32 := b.extractLsb' (32 * k) 32

/-- The groups that a PROGRAM changes, in ascending order. -/
def changedGroups (old new : BitVec 2048) : List Nat := (List.range 64).filter (fun k => decide (nvGroup old k ≠ nvGroup new k))

/-- A page whose bits are those of `new` where `m` is 1, else those of `old`. -/
def mixBits (old new m : BitVec 2048) : BitVec 2048 := (new &&& m) ||| (old &&& ~~~m)

/-- The bits of group `k`. -/
def groupMask (k : Nat) : BitVec 2048 := (BitVec.allOnes 32).setWidth 2048 <<< (32 * k)

/-- What a PROGRAM leaves that is cut during its `n`-th changed group (R756): the groups before it new, those after it old, and in the group itself each bit old or new, as `free` has it. -/
def cutProgram (old new : BitVec 2048) (n : Nat) (free : BitVec 32) : BitVec 2048 :=
  let l := changedGroups old new
  let done := (l.take n).foldl (fun m k => m ||| groupMask k) (0 : BitVec 2048)
  let part := match l[n]? with | some k => free.setWidth 2048 <<< (32 * k) | none => 0
  mixBits old new (done ||| part)

/-- The clk that one group takes: 5 µs (R752). -/
abbrev groupClk : Nat := 15000

/-- Power fails, or a Vent starts: a PROGRAM in progress is cut at the group that its time has reached. A PAGE_CLEAR that is cut leaves each bit as it was or 0; at the entry to VENT (`vent`) it completes (R753, R756). -/
def State.nvCut (s : State) (vent : Bool) : State :=
  match s.nvm.job with
  | none => s.nvStart none none
  | some (n, x) =>
    let old := s.nvPage n
    let s1 := if x.bytes = 0 then
        (if vent then s.nvDone n x
         else let d := s.draw 2048; d.2.setNv n { bytes := old.bytes &&& BitVec.ofNat 2048 d.1, pay := old.pay })
      else
        let d := s.draw 32
        let b := cutProgram old.bytes x.bytes ((s.now - s.nvm.since) / groupClk) (BitVec.ofNat 32 d.1)
        (if b = old.bytes then s else s.pnvWear n) |> fun s => { s with drawn := d.2.drawn } |>.setNv n { bytes := b, pay := if b = old.bytes then old.pay else x.pay }
    s1.nvStart none none

end Sys2Proof.Machine
end

