-- ==== Sys2Proof/Machine/DevState.lean ====
section
/-! DEFINITION. The device state and its transitions (R11, R12, R552). -/

namespace Sys2Proof.Machine

/-! ### Device states -/

/-- The code of a device state (R11). -/
def DevSt.code (d : DevSt) : Nat :=
  match d with
  | .off => 0
  | .seqUp => 1
  | .boot => 2
  | .mount => 3
  | .service => 4
  | .degraded => 5
  | .vent => 6
  | .seqDown => 7
  | .halt => 8
  | .test => 9
  | .rma => 10

/-- The device is in SERVICE or DEGRADED. -/
def State.serving (s : State) : Bool := s.dev.st = .service || s.dev.st = .degraded

/-- Background work of the Drover and its queues goes on: from MOUNT to DEGRADED, outside standby (R675, R680). -/
def State.working (s : State) : Bool := (s.serving || s.dev.st = .mount) && !s.pwr.standby

/-- A Vent is in progress: in VENT, or on entry to HALT (R15, R680). -/
def State.venting (s : State) : Bool := s.dev.st = .vent || s.dev.haltVent

/-- The rollback counter is raised to the running image's SVN when the device first reaches SERVICE under it (R552). -/
def State.rollbackUp (s : State) : State :=
  let n := s.fld Reg.ATT.SVN.SVN
  if s.pnv.rollback < n then
    (((s.onPnv (fun p => { p with rollback := n })).nvWrite .rollback).setFld Reg.ATT.ROLLBACK.COUNTER n).raise Reg.ATT.INT_STATUS.ROLLBACK_ADVANCED
  else s

/-- The device changes to state `d` (R12, R736): PREV_STATE, STATE_CHANGE. -/
def State.toState (s : State) (d : DevSt) : State :=
  if s.dev.st = d then s
  else
    let s1 := ({ s with dev := { s.dev with st := d, prev := s.dev.st } }).raise Reg.DEV.INT_STATUS.STATE_CHANGE
    if d = .service then s1.rollbackUp else s1

end Sys2Proof.Machine
end

