-- ==== Sys2Proof/Machine/Pmc.lean ====
section
/-! DEFINITION. Counting (R814 to R820): occurrences of events of R816, bytes of the fixed-function counters of R819, clk-counting events, windows. -/

namespace Sys2Proof.Machine

/-- The value of programmable counter `k`. -/
def State.pval (s : State) (k : Nat) : Nat := SMap.get (fun _ => 0) s.pmc.val k

/-- The programmable counters that count: PCTLk.EN applied (R815). Only a staged word that has been applied can enable one. -/
def State.counting (s : State) : List Nat :=
  if (s.applied.within 0x3C100 0x3C200).isEmpty || s.appFld Reg.PMC.CTRL.RUN = 0 then []
  else ((s.applied.within 0x3C100 0x3C200).filter (fun e => bitOf e.2.toNat 31)).map (fun e => (e.1 - 0x3C100) / 4)

/-- Counter `k` grows by `n`; a wrap sets PCTLk.OVF and raises OVERFLOW (R815). -/
def State.pcount (s : State) (k n : Nat) : State :=
  let v := s.pval k + n
  let s1 := s.onPmc (fun p => { p with val := SMap.set (fun _ => 0) p.val k (v % 2 ^ 48) })
  if 2 ^ 48 ≤ v then (s1.setFlag (Reg.PMC.PCTL.OVF k) true).raise Reg.PMC.INT_STATUS.OVERFLOW else s1

/-- An occurrence passes the filter (R817): event class, master class, logical paddock. -/
def State.passes (s : State) (num : Nat) (dpa cls : Option Nat) : Bool :=
  bitOf (s.appFld Reg.PMC.FILTER.EVCLASS) (num / 16) &&
    (match cls with | some c => bitOf (s.appFld Reg.PMC.FILTER.CLASS) c | none => true) &&
    (match dpa with
     | some a => decide (s.appFld Reg.PMC.FILTER_LO.START ≤ a / 2 ^ 24) && decide (a / 2 ^ 24 ≤ s.appFld Reg.PMC.FILTER_HI.END)
     | none => true)

/-- `n` occurrences of event `num`, with the DPA and the master class that they carry (R814, R816, R817). -/
def State.ev (s : State) (num : Nat) (dpa cls : Option Nat) (n : Nat) : State :=
  if n = 0 then s
  else s.each (s.counting.filter (fun k => decide (s.appFld (Reg.PMC.PCTL.EVENT k) = num))) (fun s k =>
    if s.pmc.active && decide (s.appFld (Reg.PMC.PCTL.FILT k) = 1) && !s.passes num dpa cls then s else s.pcount k n)

/-- The numbers of R816 that name an event. -/
def eventNumbers : List Nat :=
  [0x00, 0x01, 0x10, 0x11, 0x12, 0x13, 0x20, 0x21, 0x22, 0x23, 0x30, 0x31, 0x32, 0x33, 0x34, 0x40, 0x41, 0x42, 0x43, 0x50, 0x51, 0x52, 0x60, 0x61, 0x62,
   0x70, 0x71, 0x72, 0x73, 0x80, 0x81, 0x82, 0x83, 0x90, 0x91, 0xA0, 0xA1, 0xB0, 0xB1]

/-- The clk since the last settling are added to the events that count clk: clk (0x00), write-through (0x34), panic (0x62), thermal level T1 or above (0xB0). Called before any of these conditions changes, at each bell boundary and at a counter read. -/
def State.settle (s : State) : State :=
  let n := s.now - s.pmc.settled
  let s1 := s.onPmc (fun p => { p with settled := s.now })
  if n = 0 || s.counting.isEmpty then s1
  else
    let s2 := s1.ev 0x00 none none n
    let s3 := if s.hk.vholdQual then s2 else s2.ev 0x34 none none n
    let s4 := if s.flag Reg.DMC0.RT_STATUS.PANIC then s3.ev 0x62 none none n else s3
    if 1 ≤ s.fld Reg.BWT.LAT_STATUS.THROT_LEVEL then s4.ev 0xB0 none none n else s4

/-- WINDOW_END (R820): the counts of the window just ended are held, the running ones cleared. -/
def State.windowEnd (s : State) : State :=
  let s1 := s.each (List.range 128) (fun s k =>
    let v := SMap.get (fun _ => 0) s.pmc.run k
    (s.setFld (Reg.PMC.FIX_LO.FIX_LO k) (v % 2 ^ 32)).setFld (Reg.PMC.FIX_HI.FIX_HI k) (v / 2 ^ 32))
  ((s1.onPmc (fun p => { p with run := [] })).bump Reg.PMC.STATUS.WINDOW_SEQ).raise Reg.PMC.INT_STATUS.WINDOW_END

end Sys2Proof.Machine
end

