-- ==== Sys2Proof/Machine/Bell.lean ====
section
/-! DEFINITION. The Bellwether of chapter 01: slots, waits, write budget, announced changes, FRAME_SYNC, bell compare, and the commands that touch them alone. -/

namespace Sys2Proof.Machine

/-! ### Slots (R24, R27, R49) -/

/-- Slot types (R27). -/
inductive SlotTy where
  | r | b | i
deriving DecidableEq, Repr

/-- Cap and thermal level in effect (R60). -/
def State.capNow (s : State) : Nat := s.fld Reg.BWT.LAT_STATUS.CAP
def State.levelNow (s : State) : Nat := s.fld Reg.BWT.LAT_STATUS.THROT_LEVEL

/-- The pattern of gang `g` in force (R27). -/
def State.pattern (s : State) (g : Nat) : Nat := s.appFld (Reg.ROT.PATTERN.B_MASK g)

/-- R27: 1 to 8 B positions, no two adjacent, position 15 is B. -/
def patternValid (m : Nat) : Bool :=
  decide (1 ≤ popCount 16 m) && decide (popCount 16 m ≤ 8) && bitOf m 15 &&
    (List.range 16).all (fun k => !(bitOf m k && bitOf m ((k + 1) % 16)))

/-- The type of pattern position `k` of gang `g` under the thermal level in effect (R49). -/
def State.slotTyPos (s : State) (g k : Nat) : SlotTy :=
  let l := s.levelNow
  if l ≤ 1 then (if bitOf (s.pattern g) k then .b else .r)
  else if l = 2 then (if bitOf (s.pattern g) k then .i else .r)
  else if l = 3 then (if k % 2 = 0 then .r else .i)
  else (if k % 4 = 0 then .r else .i)

/-- SLOT_OFFSET of gang `g` (R78). -/
def State.slotOffset (s : State) (g : Nat) : Nat := s.fld (Reg.ROT.OFFSET.SLOT_OFFSET g)

/-- The type of bell slot `k` of gang `g` (R27): position (k - SLOT_OFFSET) mod 16. -/
def State.slotTy (s : State) (g k : Nat) : SlotTy := s.slotTyPos g ((k % 16 + 16 - s.slotOffset g) % 16)

/-- The first slot number (clk div 256) at or after slot `n` whose type is `ty`, looking at `fuel` slots; slot `n` itself where there is none. -/
def State.findSlot (s : State) (g : Nat) (ty : SlotTy) (fuel n : Nat) : Nat :=
  match fuel with
  | 0 => n
  | k + 1 => if s.slotTy g n = ty then n else s.findSlot g ty k (n + 1)

/-- The start of the first R slot of gang `g` at or after clk `c` (R30). -/
def State.nextR (s : State) (g c : Nat) : Nat := 256 * s.findSlot g .r 16 (ceilDiv c 256)

/-! ### Write budget (R43 to R45) -/

/-- Idle turns of a CAP code (R33). -/
def capIdle (cap : Nat) : Nat := [4, 5, 20, 40, 80].getD cap 80
/-- Write-budget ceiling of a CAP code in lines per bell (R33). -/
def capLines (cap : Nat) : Nat := [512, 480, 288, 192, 112].getD cap 112

/-- Thermal ceiling (R49). -/
def thermalLines (cap level : Nat) : Nat :=
  if level = 0 then capLines cap else if level = 1 then capLines cap / 2 else 0

/-- The effective budget (R45). -/
def State.budget (s : State) : Nat :=
  min (s.appFld Reg.BWT.WB_BUDGET.WRITE_BUDGET) (min (capLines s.capNow) (thermalLines s.capNow s.levelNow))

/-- The bucket's depth in lines (R43). -/
def State.depth (s : State) : Nat := s.appFld Reg.BWT.WB_BUDGET.WB_DEPTH * 1024

/-- Lines that the staging bank holds, those of snapshots included (R177). -/
def State.stagingUsed (s : State) : Nat := s.xlt.staged.length + (s.xlt.snaps.map (fun x => x.lines.length)).sum

/-- The size of the staging bank in lines (R177). -/
abbrev stagingLines : Nat := 131072

/-- Request-with-data credits must be withheld (R43); 64 lines of the staging bank are kept apart (R430). -/
def State.mustHold (s : State) : Bool :=
  decide (s.fld Reg.BWT.WB_LEVEL.LEVEL = 0) || decide (stagingLines ≤ s.stagingUsed + 64)

/-- Withholding starts where R43 asks for it (R44). -/
def State.checkHold (s : State) : State :=
  if s.mustHold && !s.bw.holding then
    ((({ s with bw := { s.bw with holding := true, heldFrom := s.clk.phase } }).setFlag Reg.BWT.LAT_STATUS.WB_HOLDING true).bump
      Reg.BWT.WB_HELD_BELLS.BELLS).raise Reg.BWT.INT_STATUS.WB_HOLD
  else s

/-- Clk withheld so far in the present bell (R44). -/
def State.heldHere (s : State) : Nat := if s.bw.holding then s.clk.phase - s.bw.heldFrom else 0

/-- The withheld clk up to phase `e` of the present bell are added (R44). -/
def State.settleHeldTo (s : State) (e : Nat) : State :=
  if s.bw.holding && decide (s.bw.heldFrom < e) then
    let n := e - s.bw.heldFrom
    (({ s with bw := { s.bw with heldFrom := e } }).bump48 Reg.BWT.WB_HELD_LO.HELD_LO Reg.BWT.WB_HELD_HI.HELD_HI n).ev 0x72 none none n
  else s

/-- At the end of a bell the withheld clk of that bell are added (R44). -/
def State.settleHeld (s : State) : State :=
  let t := s.settleHeldTo 4096
  { t with bw := { t.bw with heldFrom := 0 } }

/-- WB_REFILL: the refill of a bell boundary, and the return of credits (R43). -/
def State.refill (s : State) : State :=
  let l := min (s.fld Reg.BWT.WB_LEVEL.LEVEL + s.budget) s.depth
  let s1 := ({ s with bw := { s.bw with debt := s.bw.debt - l } }).setFld Reg.BWT.WB_LEVEL.LEVEL (l - s.bw.debt)
  if s1.bw.holding then
    if s1.mustHold then s1.bump Reg.BWT.WB_HELD_BELLS.BELLS
    else ({ s1 with bw := { s1.bw with holding := false, heldFrom := 0 }, link := { s1.link with rwdHeld := 0 } }).setFlag Reg.BWT.LAT_STATUS.WB_HOLDING false
  else s1.checkHold

/-- One accepted CXL.mem write takes one line (R43); at level 0 it is taken from the next refill (R430). -/
def State.takeLine (s : State) : State :=
  (if s.fld Reg.BWT.WB_LEVEL.LEVEL = 0 then { s with bw := { s.bw with debt := s.bw.debt + 1 } }
   else s.setFld Reg.BWT.WB_LEVEL.LEVEL (s.fld Reg.BWT.WB_LEVEL.LEVEL - 1)).checkHold

/-! ### Announced changes (R47) -/

/-- A change of cap or thermal level is posted. -/
def State.postLat (s : State) (cap level : Option Nat) : State :=
  let c0 := if s.flag Reg.BWT.LAT_NEXT.NEXT_VALID then s.fld Reg.BWT.LAT_NEXT.CAP else s.capNow
  let l0 := if s.flag Reg.BWT.LAT_NEXT.NEXT_VALID then s.fld Reg.BWT.LAT_NEXT.THROT_LEVEL else s.levelNow
  (((s.setFld Reg.BWT.LAT_NEXT.CAP (cap.getD c0)).setFld Reg.BWT.LAT_NEXT.THROT_LEVEL (level.getD l0)).setFlag
    Reg.BWT.LAT_NEXT.NEXT_VALID true).raise Reg.BWT.INT_STATUS.LAT_POSTED

/-- LAT_APPLIED: at a flock boundary a posted change takes effect (R47). -/
def State.applyLat (s : State) : State :=
  if s.flag Reg.BWT.LAT_NEXT.NEXT_VALID then
    ((((s.setFld Reg.BWT.LAT_STATUS.CAP (s.fld Reg.BWT.LAT_NEXT.CAP)).setFld Reg.BWT.LAT_STATUS.THROT_LEVEL
      (s.fld Reg.BWT.LAT_NEXT.THROT_LEVEL)).setFld Reg.BWT.LAT_FLOCK.FLOCK (s.flock % 2 ^ 32)).setFlag
      Reg.BWT.LAT_NEXT.NEXT_VALID false).raise Reg.BWT.INT_STATUS.LAT_APPLIED
  else s

/-! ### Bell compare (R52) -/

/-- The armed value {CMP_HI, CMP_LO}. -/
def State.cmpValue (s : State) : Nat := s.fld Reg.BWT.CMP_HI.CMP_HI * 2 ^ 32 + s.fld Reg.BWT.CMP_LO.CMP_LO

/-- BELL_CMP: at a bell boundary, raised once at or after the armed value. -/
def State.bellCmp (s : State) : State :=
  if s.bw.cmpArmed && decide (s.cmpValue ≤ s.clk.bell) then
    ({ s with bw := { s.bw with cmpArmed := false } }).raise Reg.BWT.INT_STATUS.BELL_CMP
  else s

/-! ### FRAME_SYNC (R51) -/

/-- FRAME_SYNC_EDGE (R51): the synchroniser output shows a new level; FS_FILTER is taken if the level is the selected one and capture is enabled. -/
def execFrameSyncEdge (level : Bool) (phase : Nat) (s : State) : Res :=
  let s0 := s.at_ phase
  let wanted := level != s0.flag Reg.BWT.FS_CTRL.FS_EDGE
  .next { s0 with bw := { s0.bw with
    fsLevel := level,
    fsPending := s0.flag Reg.BWT.FS_CTRL.FS_ENABLE && wanted && (level != s0.bw.fsLevel),
    fsFilter := s0.fld Reg.BWT.FS_CTRL.FS_FILTER,
    fsClk := s0.now } }

/-- The clk stored for an accepted edge: detection minus (FS_FILTER + 2), one clk either way (R51). The last is free: 0, 1 or 2 of the drawn value. -/
def fsStored (detect filter free : Nat) : Nat := detect - (filter + 2) + free % 3 - 1

/-- The registers that an accepted edge fills (R51, R70 to R73). -/
def State.fsCapture (s : State) (clk : Nat) : State :=
  ((((s.setFld Reg.BWT.FS_BELL_LO.FS_BELL_LO (clk / 4096 % 2 ^ 32)).setFld Reg.BWT.FS_BELL_HI.FS_BELL_HI (clk / 4096 / 2 ^ 32)).setFld
    Reg.BWT.FS_PHASE.FS_PHASE (clk % 4096)).bump Reg.BWT.FS_COUNT.FS_COUNT)

/-- FRAME_SYNC_ACCEPT (R51): the level has been stable for FS_FILTER clk. Edges closer than 64 clk to the last accepted one are ignored. DESIGN CHOICE (log entry 106), unsafe: where FS_ENABLE is cleared
or FS_EDGE changed (R69) while an edge is being filtered, the edge is still accepted and captured; the spec settles only a change of FS_FILTER. -/
def execFrameSyncAccept (phase : Nat) (s : State) : Res :=
  let s0 := s.at_ phase
  if s0.bw.fsPending && decide (s0.bw.fsClk + s0.bw.fsFilter ≤ s0.now) then
    let s1 := { s0 with bw := { s0.bw with fsPending := false } }
    if (match s0.bw.fsLast with | some c => decide (s0.now < c + 64) | none => false) then .next s1
    else
      let d := s1.draw 2
      let s2 := { d.2 with bw := { d.2.bw with fsLast := some s0.now } }
      let s3 := s2.fsCapture (fsStored s0.now s0.bw.fsFilter d.1)
      let s4 := if s3.flag Reg.BWT.INT_STATUS.FS_EDGE then s3.raise Reg.BWT.INT_STATUS.FS_OVERRUN else s3
      .next (s4.raise Reg.BWT.INT_STATUS.FS_EDGE)
  else .next s0

/-! ### Clock loss and latched reads -/

/-- PLL_LOCK_LOSS (R22): PLL_LOCKED clears, so the bell counter stops; in BOOT, MOUNT, SERVICE, DEGRADED and TEST a FATAL record of code 0x0140 is offered, which leads to HALT (R787). -/
def execPllLockLoss (s : State) : Res :=
  let s1 := s.setFlag Reg.BWT.CLK_STATUS.PLL_LOCKED false
  .next (match s1.dev.st with
    | .boot | .mount | .service | .degraded | .test => s1.reportCode sevFatal 0x0140 0 s1.clk.phase 0 0
    | _ => s1)

/-- The accessor's number for _HI latches (R856): host, cores, I3C. -/
def Source.latch (src : Source) : Nat := src.code

/-- The latch of the accessor `src` for the _HI register at `addr`. -/
def State.latched (s : State) (src : Source) (addr : Nat) : Nat :=
  (SMap.get (fun _ => (0 : Word)) s.latches (src.latch * 0x40000 + addr)).toNat

/-- The latch of `src` for the _HI register at `addr` takes `v` (R856). -/
def State.latch (s : State) (src : Source) (addr v : Nat) : State :=
  { s with latches := SMap.set (fun _ => (0 : Word)) s.latches (src.latch * 0x40000 + addr) (BitVec.ofNat 32 v) }

/-- BELL_LO_READ (R25): the read answers bell [31:0] and latches bell [55:32] into BELL_HI and the phase into PHASE. -/
def execBellLoRead (src : Source) (phase : Nat) (s : State) : Res :=
  let s0 := s.at_ phase
  let s1 := (s0.latch src Reg.BWT.BELL_HI.word (s0.clk.bell / 2 ^ 32 % 2 ^ 24)).latch src Reg.BWT.PHASE.word s0.clk.phase
  .next (s1.emit (.regValue src Reg.BWT.BELL_LO.word (BitVec.ofNat 32 s0.clk.bell)))

/-- WB_HELD_LO_READ (R66): the read answers the withheld clk [31:0] and latches [47:32]. -/
def execWbHeldLoRead (src : Source) (phase : Nat) (s : State) : Res :=
  let s0 := s.at_ phase
  let v := (s0.fld Reg.BWT.WB_HELD_LO.HELD_LO + s0.fld Reg.BWT.WB_HELD_HI.HELD_HI * 2 ^ 32 + s0.heldHere) % 2 ^ 48
  .next ((s0.latch src Reg.BWT.WB_HELD_HI.word (v / 2 ^ 32)).emit (.regValue src Reg.BWT.WB_HELD_LO.word (BitVec.ofNat 32 v)))

end Sys2Proof.Machine
end

