-- ==== Sys2Proof/Machine/SectorCode.lean ====
section
/-! DEFINITION. The die-loss code of chapter 03: GF(2^8), the Reed–Solomon encoder (R127), the bounded-distance decoder (R128), stripes (R125, R126), the metadata symbol (R133). -/

namespace Sys2Proof.Machine

/-! ### The field (R127) -/

/-- Multiplication by α = 0x02 modulo 0x11D. -/
def gfDouble (a : Nat) : Nat := if a < 128 then 2 * a else (2 * a) ^^^ 0x11D

/-- `a` times the low `n` bits of `b`, highest bit first. -/
def gfMulAux (n a b : Nat) : Nat :=
  match n with
  | 0 => 0
  | k + 1 => (if b % 2 = 1 then a else 0) ^^^ gfMulAux k (gfDouble a) (b / 2)

/-- Multiplication in GF(2^8). -/
def gfMul (a b : Nat) : Nat := gfMulAux 8 a b

/-- `a` to the power `n`. -/
def gfPow (a n : Nat) : Nat :=
  match n with
  | 0 => 1
  | k + 1 => gfMul a (gfPow a k)

/-- The square of the square ... : the inverse of `a ≠ 0` is a^254. -/
def gfInv (a : Nat) : Nat :=
  let a2 := gfMul a a
  let a4 := gfMul a2 a2
  let a8 := gfMul a4 a4
  let a16 := gfMul a8 a8
  let a32 := gfMul a16 a16
  let a64 := gfMul a32 a32
  let a128 := gfMul a64 a64
  gfMul a2 (gfMul a4 (gfMul a8 (gfMul a16 (gfMul a32 (gfMul a64 a128)))))

/-- α^(19 - i): the point at which symbol i of a codeword weighs (R127). -/
def symPoint (i : Nat) : Nat := gfPow 2 (19 - i)

/-! ### Encoding (R127) -/

/-- One step of the division of m(x) by g(x) = x^3 + 0x07 x^2 + 0x0E x + 0x08; (r2, r1, r0) is the remainder so far. -/
def rsStep (r : Nat × Nat × Nat) (c : Nat) : Nat × Nat × Nat :=
  let k := c ^^^ r.1
  (r.2.1 ^^^ gfMul k 0x07, r.2.2 ^^^ gfMul k 0x0E, gfMul k 0x08)

/-- The check symbols c_17, c_18, c_19 of the 17 symbols `m`. -/
def rsCheck (m : List Nat) : Nat × Nat × Nat := m.foldl rsStep (0, 0, 0)

/-! ### Decoding (R128) -/

/-- The syndrome c(α^k) of 20 symbols. -/
def syndrome (syms : List Nat) (k : Nat) : Nat :=
  syms.foldl (fun acc c => gfMul acc (gfPow 2 k) ^^^ c) 0

/-- The values to add at the positions `u` so that the three syndromes vanish, if there are any. -/
def solveAt (u : List Nat) (s0 s1 s2 : Nat) : Option (List Nat) :=
  match u with
  | [] => if s0 = 0 && s1 = 0 && s2 = 0 then some [] else none
  | [i] =>
    let x := symPoint i
    if gfMul s0 x = s1 && gfMul s1 x = s2 then some [s0] else none
  | [i, j] =>
    let x := symPoint i
    let y := symPoint j
    let v := gfMul (s1 ^^^ gfMul s0 x) (gfInv (x ^^^ y))
    let u0 := s0 ^^^ v
    if gfMul u0 (gfMul x x) ^^^ gfMul v (gfMul y y) = s2 then some [u0, v] else none
  | [i, j, k] =>
    let x := symPoint i
    let y := symPoint j
    let z := symPoint k
    let t1 := s1 ^^^ gfMul s0 x
    let t2 := s2 ^^^ gfMul s1 x
    let w := gfMul (t2 ^^^ gfMul t1 y) (gfInv (gfMul (x ^^^ z) (y ^^^ z)))
    let v := gfMul (t1 ^^^ gfMul w (x ^^^ z)) (gfInv (x ^^^ y))
    some [s0 ^^^ v ^^^ w, v, w]
  | _ => none

/-- `syms` with `vals` added at the positions `u`. -/
def addAt (syms u vals : List Nat) : List Nat :=
  (u.zip vals).foldl (fun l p => l.set p.1 (l.getD p.1 0 ^^^ p.2)) syms

/-- Result of decoding one interleave: the codeword and the positions found in error, or none for DETECTED (R128). -/
def bdDecode (syms er : List Nat) : Option (List Nat × List Nat) :=
  let r := er.foldl (fun l i => l.set i 0) syms
  let s0 := syndrome r 0
  let s1 := syndrome r 1
  let s2 := syndrome r 2
  if er.length > 3 then none
  else match solveAt er s0 s1 s2 with
    | some v => some (addAt r er v, [])
    | none =>
      if er.length ≤ 1 then
        (List.range 20).findSome? (fun p =>
          if er.contains p then none
          else match solveAt (p :: er) s0 s1 s2 with
            | some v => if v.headD 0 = 0 then none else some (addAt r (p :: er) v, [p])
            | none => none)
      else none

/-! ### Stripes (R125, R126) -/

/-- Byte `j` of a chunk. -/
def chunkByte (c : Chunk) (j : Nat) : Nat := bitsOf c.toNat (8 * j + 7) (8 * j)

/-- The chunk of 16 bytes, byte 0 first. -/
def chunkOf (bytes : List Nat) : Chunk :=
  BitVec.ofNat 128 (bytes.foldr (fun b acc => acc * 256 + b % 256) 0)

/-- Position `i` (0 to 15) of the stored bytes of a sector (R125). -/
def dataChunk (d : SectorData) (i : Nat) : Chunk := BitVec.ofNat 128 (d.toNat >>> (128 * i))

/-- The stored bytes made of positions 0 to 15. -/
def dataOf (chunks : List Chunk) : SectorData :=
  BitVec.ofNat 2048 ((chunks.take 16).foldr (fun c acc => acc * 2 ^ 128 + c.toNat) 0)

/-- The 20 positions of the stripe that stores a sector (R125 to R127). -/
def encodeStripe (x : SecImg) : List Chunk :=
  let m := (List.range 16).map (dataChunk x.data) ++ [x.md]
  let checks := (List.range 16).map (fun j => rsCheck (m.map (fun c => chunkByte c j)))
  m ++ [chunkOf (checks.map (·.1)), chunkOf (checks.map (·.2.1)), chunkOf (checks.map (·.2.2))]

/-- Result of decoding a stripe: the corrected positions, none where some interleave is DETECTED; the positions found in error in interleaves that are CORRECTED, and how many symbols these are (R128). -/
structure StripeDec where
  cor : Option (List Chunk)
  hit : List Nat
  syms : Nat

/-- Decoding a stripe: the 16 interleaves decoded alone with one erasure set (R126). -/
def decodeStripe (chunks : List Chunk) (er : List Nat) : StripeDec :=
  let rs := (List.range 16).map (fun j => bdDecode (chunks.map (fun c => chunkByte c j)) er)
  let ok := rs.filterMap id
  { cor := if rs.any Option.isNone then none else some ((List.range 20).map (fun i => chunkOf (ok.map (fun r => r.1.getD i 0)))),
    hit := (ok.flatMap (·.2)).eraseDups, syms := (ok.map (fun r => r.2.length)).sum }

/-! ### The metadata symbol (R133, R134) -/

/-- TAG: bytes 0 to 7, byte 0 first. -/
def mdTag (m : Chunk) : Nat := bitsOf m.toNat 63 0
/-- VERSION: bytes 8 and 9, little-endian. -/
def mdVersion (m : Chunk) : Nat := bitsOf m.toNat 79 64
/-- KEYGEN: byte 10. -/
def mdKeygen (m : Chunk) : Nat := bitsOf m.toNat 87 80
/-- FLAGS[0]. -/
def mdValid (m : Chunk) : Bool := bitOf m.toNat 88
/-- FLAGS[1]. -/
def mdPoison (m : Chunk) : Bool := bitOf m.toNat 89
/-- FLAGS[2]. -/
def mdSlc (m : Chunk) : Bool := bitOf m.toNat 90
/-- FLAGS[3]. -/
def mdStrict (m : Chunk) : Bool := bitOf m.toNat 91

/-- A metadata symbol. -/
def mdMake (tag version keygen : Nat) (valid poison slc strict : Bool) : Chunk :=
  BitVec.ofNat 128 (tag % 2 ^ 64 + version % 2 ^ 16 * 2 ^ 64 + keygen % 256 * 2 ^ 80 +
    (b2n valid + 2 * b2n poison + 4 * b2n slc + 8 * b2n strict) * 2 ^ 88)

/-- The symbol with its SLC flag replaced where the sector is valid (R134, R185). -/
def mdWithSlc (m : Chunk) (slc : Bool) : Chunk :=
  if mdValid m then mdMake (mdTag m) (mdVersion m) (mdKeygen m) true (mdPoison m) slc (mdStrict m) else m

end Sys2Proof.Machine
end

