-- ==== Sys2Proof/Machine/Translate.lean ====
section
/-! DEFINITION. Translation as operations (chapter 04): segment map and reverse map, bands and the free heap, paddocks, the journal, the staging bank, row batches and rotations. -/

namespace Sys2Proof.Machine

/-- `s` with the translation state changed by `f`. -/
def State.onXlt (s : State) (f : Xlt → Xlt) : State := { s with xlt := f s.xlt }

/-! ### The maps (R167, R170) -/

/-- The segment map entry of a logical segment. -/
def State.mapOf (s : State) (lseg : Nat) : MapE := SMap.get (fun _ => {}) s.xlt.map lseg
/-- The reverse map entry of a physical segment. -/
def State.revOf (s : State) (psa : Nat) : RevE := SMap.get (fun _ => {}) s.xlt.rev psa

/-- The state of a band that nothing has changed: the system area (R176) or free. -/
def bandDflt (k : Nat) : Band := if firstSystemBand ≤ k % bandsPerGang then { st := .system } else {}
/-- Band `b` of gang `g`. -/
def State.band (s : State) (g b : Nat) : Band := SMap.get bandDflt s.xlt.bands (bandKey g b)
/-- Band `b` of gang `g` replaced. -/
def State.setBand (s : State) (g b : Nat) (x : Band) : State :=
  s.onXlt (fun t => { t with bands := SMap.set bandDflt t.bands (bandKey g b) x })
/-- Paddock `p` of gang `g`. -/
def State.pad (s : State) (g p : Nat) : Pad := SMap.get (fun _ => {}) s.xlt.pads (padKey g p)
/-- Paddock `p` of gang `g` replaced. -/
def State.setPad (s : State) (g p : Nat) (x : Pad) : State :=
  s.onXlt (fun t => { t with pads := SMap.set (fun _ => {}) t.pads (padKey g p) x })

/-- The band that holds a physical segment is run in SLC mode (R89, R171). -/
def State.psaSlc (s : State) (psa : Nat) : Bool :=
  match (s.band (psaGang psa) (psaBand psa)).st with
  | .caldera | .system => true
  | _ => false

/-- A reverse map entry counts toward its band's LIVE and PENDING segments (R171). -/
def RevSt.counts (r : RevSt) : Bool := match r with | .live | .pending => true | _ => false

/-! ### The journal (R198, R199) -/

/-- JOURNAL_HIGH is raised when the tail reaches 192 blocks. -/
def State.journalHigh (s : State) : State :=
  if s.xlt.tail.length = 192 then s.raise Reg.XLT.INT_STATUS.JOURNAL_HIGH else s

/-- A record enters the journal tail: in the open block, or in a new one (R198, R199). -/
def State.journal (s : State) (r : JRec) : State :=
  match s.xlt.tail.getLast? with
  | some b =>
    if b.closed then newBlock s r
    else
      let b1 := { b with recs := b.recs ++ [r], closed := decide (255 ≤ b.recs.length + 1) }
      s.onXlt (fun t => { t with tail := t.tail.dropLast ++ [b1] })
  | none => newBlock s r
where
  /-- a new block of the tail with the record -/
  newBlock (s : State) (r : JRec) : State :=
    (s.onXlt (fun t => { t with tail := t.tail ++ [{ seq := t.nextBlock, recs := [r] }], nextBlock := t.nextBlock + 1 })).journalHigh

/-- A segment map entry as the 32-bit word of R167. -/
def MapE.word (e : MapE) : Nat :=
  (match e.st with | .unmapped => 0 | .caldera => 1 | .tlc => 2 | .poisoned => 3) * 2 ^ 30 + e.psa % 2 ^ 30

/-- The entry that a 32-bit word encodes (R167). -/
def MapE.ofWord (w : Nat) : MapE :=
  match w / 2 ^ 30 % 4 with
  | 1 => { st := .caldera, psa := w % 2 ^ 30 }
  | 2 => { st := .tlc, psa := w % 2 ^ 30 }
  | 3 => { st := .poisoned }
  | _ => {}

/-- The records of R198. -/
def jMapSet (lseg : Nat) (e : MapE) : JRec := { ty := 0x01, slot := 0xFF, a := lseg, b := e.word }
def jTrim (first count : Nat) : JRec := { ty := 0x02, slot := 0xFF, a := first, b := count }
def jGroupPend (slot lseg : Nat) (e : MapE) : JRec := { ty := 0x03, slot, a := lseg, b := e.word }
def jGroupCommit (slot region count : Nat) : JRec := { ty := 0x04, slot, a := region, b := count }
def jGroupAbort (slot region count : Nat) : JRec := { ty := 0x05, slot, a := region, b := count }
def jBand (ty g b x : Nat) : JRec := { ty, slot := 0xFF, a := g * 2 ^ 16 + b, b := x }
def jPadClose (g p : Nat) : JRec := { ty := 0x0B, slot := 0xFF, a := g * 2 ^ 17 + p, b := 0 }
def jMapPage (page psa : Nat) : JRec := { ty := 0x0A, slot := 0xFF, a := page, b := psa }

/-! ### Bands (R171 to R174, R192) -/

/-- A band ceases to hold any LIVE or PENDING segment: RELEASED in that clk (R171, R174). Its paddocks are no Caldera paddocks any more, and what parity slots they held is free (R172). -/
def State.releaseBand (s : State) (g b : Nat) : State :=
  let s1 := (s.setBand g b { s.band g b with st := .released, relFlock := s.flock, refresh := false }).journal (jBand 0x08 g b 0)
  (s1.onXlt (fun t => { t with
    pads := t.pads.filter (fun e => !(decide (padKey g (3 * b) ≤ e.1) && decide (e.1 < padKey g (3 * b + 3)))),
    rebuilds := t.rebuilds.filter (fun r => !(decide (r.gang = g) && decide (r.paddock / 3 = b))) })).onGang g (fun x => { x with
      order := x.order.filter (fun p => decide (p / 3 ≠ b)), fulls := x.fulls.filter (fun p => decide (p / 3 ≠ b)), padVer := x.padVer.filter (fun v => decide (v.paddock / 3 ≠ b)) })

/-- A rotation in progress, or one whose map update is still to come, programs row batches of the band. -/
def State.bandBusy (s : State) (g b : Nat) : Bool :=
  (s.gang g).placed.any (fun p => decide (p.paddock / 3 = b)) || (s.gang g).ending.any (fun p => decide (p.paddock / 3 = b))

/-- A CALDERA or TLC_CLOSED band that holds no LIVE or PENDING segment is released (R171). DESIGN CHOICE (log entry 107): a band into which a rotation is programming row batches is released at the
end of that rotation at the earliest, for its segments are about to be LIVE. -/
def State.releaseEmpty (s : State) (g b : Nat) : State :=
  let x := s.band g b
  if x.live = 0 && (x.st = .tlcClosed || (x.st = .caldera && !s.bandBusy g b)) then s.releaseBand g b else s

/-- The reverse map entry of a physical segment replaced; the count of its band follows, and a band whose last LIVE or PENDING segment it was is released. -/
def State.setRev (s : State) (psa : Nat) (e : RevE) : State :=
  let old := s.revOf psa
  let s1 := s.onXlt (fun t => { t with rev := SMap.set (fun _ => {}) t.rev psa e })
  let g := psaGang psa
  let b := psaBand psa
  let x := s1.band g b
  let live := x.live + b2n e.st.counts - b2n old.st.counts
  if live = x.live then s1
  else
    (s1.setBand g b { x with live }).releaseEmpty g b

/-- The physical segment that a map entry names becomes STALE (R140, R203, R206). -/
def State.staleOld (s : State) (e : MapE) : State :=
  match e.st with
  | .caldera | .tlc => s.setRev e.psa { s.revOf e.psa with st := .stale }
  | _ => s

/-- The counts of XLT (R211 to R214) when an entry changes from `a` to `b`. -/
def State.mapCounts (s : State) (a b : MapSt) : State :=
  let d (s : State) (f : Fld) (p : MapSt → Bool) : State := s.setFld f (s.fld f + b2n (p b) - b2n (p a))
  d (d (d (d s Reg.XLT.MAPPED.MAPPED (fun m => decide (m ≠ .unmapped))) Reg.XLT.CALDERA_SEGS.CALDERA_SEGS (fun m => decide (m = .caldera)))
    Reg.XLT.TLC_SEGS.TLC_SEGS (fun m => decide (m = .tlc))) Reg.XLT.POISONED_SEGS.POISONED_SEGS (fun m => decide (m = .poisoned))

/-- A segment map entry is set; its map page has changed since its last copy (R200). -/
def State.setMap (s : State) (lseg : Nat) (e : MapE) : State :=
  let old := s.mapOf lseg
  (s.onXlt (fun t => { t with
    map := SMap.set (fun _ => {}) t.map lseg e,
    dirty := if t.dirty.contains (lseg / 16384) then t.dirty else t.dirty ++ [lseg / 16384] })).mapCounts old.st e.st

/-- The map entry of `lseg` moves to `e`: the segment it named becomes STALE, the new one LIVE, and a MAP_SET record enters the tail (R180, R186). -/
def State.mapMove (s : State) (lseg : Nat) (e : MapE) : State :=
  let s1 := (s.staleOld (s.mapOf lseg)).journal (jMapSet lseg e)
  let s2 := s1.setMap lseg e
  match e.st with
  | .caldera | .tlc => s2.setRev e.psa { st := .live, lseg }
  | _ => s2

/-- The listed FREE bands of gang `g` with their wear, and the lowest unlisted band, which is free with wear 0 (R173). -/
def State.freeCandidates (s : State) (g : Nat) : List (Nat × Nat) :=
  let mine := s.xlt.bands.within (bandKey g 0) (bandKey g 0 + bandsPerGang)
  let listed := (mine.filter (fun e => decide (e.2.st = .free))).map (fun e => (e.2.wear, e.1 - bandKey g 0))
  match firstGap mine (bandKey g 0) (bandKey g firstSystemBand) with
  | some k => (0, k - bandKey g 0) :: listed
  | none => listed
where
  /-- least number from `k` on, below `n`, that is no key of `m` -/
  firstGap (m : SMap Band) (k n : Nat) : Option Nat :=
    match m with
    | [] => if k < n then some k else none
    | (k', _) :: rest => if k < k' then (if k < n then some k else none) else firstGap rest (k' + 1) n

/-- Number of bands in the free heap of gang `g` (R255); none before the band table is loaded (R726, R863). -/
def State.heapSize (s : State) (g : Nat) : Nat :=
  if !s.xlt.loaded then 0
  else
  let mine := s.xlt.bands.within (bandKey g 0) (bandKey g firstSystemBand)
  firstSystemBand - mine.length + (mine.filter (fun e => decide (e.2.st = .free))).length

/-- The band that take_free_band of R173 takes in gang `g`: least wear, then lowest number. -/
def State.freeBand (s : State) (g : Nat) : Option Nat :=
  ((s.freeCandidates g).foldl (fun acc x => match acc with
      | none => some x
      | some y => if x.1 < y.1 || (x.1 = y.1 && decide (x.2 < y.2)) then some x else some y) (none : Option (Nat × Nat))).map (fun x => x.2)

/-- Free band `b` is opened (R173): BAND_OPEN is journaled and the wear units of R192 are added. -/
def State.takeBand (s : State) (g b : Nat) (tlc : Bool) : State :=
  let x := s.band g b
  (s.journal (jBand 0x06 g b (if tlc then 2 else 1))).setBand g b
    { x with st := if tlc then .tlcOpen else .caldera, wear := x.wear + (if tlc then 10 else 1), epoch := s.fld Reg.DRF.EPOCH.EPOCH, live := 0, refresh := false }

/-- The bands of gang `g` in state `st`, lowest number first. -/
def State.bandsIn (s : State) (g : Nat) (st : BandSt) : List Nat :=
  ((s.xlt.bands.within (bandKey g 0) (bandKey g 0 + bandsPerGang)).filter (fun e => decide (e.2.st = st))).map (fun e => e.1 - bandKey g 0)

/-- USED(g): 3 × the number of CALDERA bands (R182). -/
def State.used (s : State) (g : Nat) : Nat := 3 * (s.bandsIn g .caldera).length

/-- Retirement allowance of a gang in paddocks (R175). -/
abbrev retireAllowance : Nat := 1536

/-- BAND_RELEASE work of a flock boundary (R174, R188): at the second flock boundary after its release a band is free again, its reverse map entries FREE, or retired with two strikes. -/
def State.bandRelease (s : State) (g b : Nat) : State :=
  let x := s.band g b
  if x.st = .released && decide (x.relFlock + 2 ≤ s.flock) then
    let s0 := s.onXlt (fun t => { t with rev := t.rev.filter (fun e => !(decide (psaOf g (3 * b) 0 ≤ e.1) && decide (e.1 < psaOf g (3 * b + 3) 0))) })
    if 2 ≤ x.strikes then
      let s1 := ((s0.setBand g b { x with st := .retired }).journal (jBand 0x09 g b x.strikes)).bumpSat (Reg.DRV.RETIRED.RETIRED g)
      let s2 := s1.raiseRec Reg.DRV.INT_STATUS.BAND_RETIRED sevWarn clsDevice 0 0 0 0
      let retired := 3 * (s2.bandsIn g .retired).length
      if retireAllowance < retired then s2.reportCode sevError 0x0C40 g g retired 0 else s2
    else s0.setBand g b { x with st := .free }
  else s

/-! ### Caldera paddocks (R172, R182, R183) -/

/-- A parity slot that no paddock holds (R189). -/
def State.freeParity (s : State) : Option Nat :=
  (List.range 4).find? (fun i => !s.underMarch (10 + i) && !(s.xlt.pads.any (fun e => decide (e.2.slot = some i))) && !(s.xlt.waking.any (fun w => decide (w.2.2 = i))))

/-- The OPEN Caldera paddock of gang `g` (R172). -/
def State.openPad (s : State) (g : Nat) : Option Nat :=
  ((s.xlt.pads.within (padKey g 0) (padKey g 0 + 2 ^ 17)).find? (fun e => decide (e.2.st = .opened))).map (fun e => e.1 - padKey g 0)

/-- The EMPTY paddocks of the CALDERA bands of gang `g`, in the order k = 0, 1, 2 of each band. -/
def State.emptyPads (s : State) (g : Nat) : List Nat :=
  (s.bandsIn g .caldera).flatMap (fun b => ((List.range (bandPaddocks b)).map (fun k => 3 * b + k)).filter (fun p => decide ((s.pad g p).st = .empty)))

/-- TARGET(g) of R182. -/
def State.targetOf (s : State) (g : Nat) : Nat := s.fld (Reg.CAL.TARGET_OF.TARGET_G g)

/-- Paddock `p` of gang `g` becomes OPEN with parity slot `i`, which holds nothing yet (R172, R189). -/
def State.openPadWith (s : State) (g p i : Nat) : State :=
  let s1 := (s.setPad g p { st := .opened, next := 0, slot := some i }).onGang g (fun x => { x with order := (x.order.erase p) ++ [p] })
  s1.onXlt (fun t => { t with parity := t.parity.filter (fun e => !(decide (i * 81920 ≤ e.1) && decide (e.1 < (i + 1) * 81920))) })

/-- A paddock becomes OPEN, once its parity slot is awake (R745), with a free parity slot, growing Caldera by a band where R183 allows it; AT_TARGET where it does not (R172, R183). -/
def State.openNext (s : State) (g : Nat) : State :=
  match s.openPad g with
  | some _ => s
  | none =>
    let s1 := if (s.emptyPads g).isEmpty then
        (if s.used g < s.targetOf g then (match s.freeBand g with | some b => s.takeBand g b false | none => s)
         else s.raise Reg.CAL.INT_STATUS.AT_TARGET)
      else s
    if s1.xlt.waking.any (fun w => decide (w.1 = g)) then s1
    else match s1.emptyPads g, s1.freeParity with
    | p :: _, some i =>
      if s1.appFld Reg.SRM.RET_CTRL.AUTO_PARITY = 1 then s1.onXlt (fun t => { t with waking := t.waking ++ [(g, p, i)] })
      else s1.openPadWith g p i
    | _, _ => s1

/-! ### Staging (R177) -/

/-- Key of a staged line: line address (DPA div 64) and the group slot, 0 for none. -/
def stKey (line : Nat) (group : Option Nat) : Nat := line * 32 + (match group with | none => 0 | some i => i + 1)

/-- The staged line at a key. -/
def State.stagedAt (s : State) (k : Nat) : StLine := SMap.get (fun _ => {}) s.xlt.staged k

/-- The bytes of a byte mask as a bit mask of a line. -/
def maskBits (n : Nat) (m : Nat) : Nat :=
  match n with
  | 0 => 0
  | k + 1 => (if m % 2 = 1 then 0xFF else 0) + 256 * maskBits k (m / 2)

/-- `old` with the bytes of `new` that `m` enables. -/
def mergeLine (old new : Line) (m : Mask) : Line :=
  let b : Line := BitVec.ofNat 512 (maskBits 64 m.toNat)
  (old &&& ~~~b) ||| (new &&& b)

/-- A write of a line is staged: merged into the line held for its address, or into a free line (R177). -/
def State.stage (s : State) (line : Nat) (group : Option Nat) (data : Line) (m : Mask) (keyid : Nat) (strict : Bool) : State :=
  let k := stKey line group
  let x := s.stagedAt k
  s.onXlt (fun t => { t with
    staged := SMap.set (fun _ => {}) t.staged k { data := mergeLine x.data data m, mask := x.mask ||| m, bell := s.clk.bell, keyid, clk := s.now, strict := x.strict || strict, lost := x.lost } })

/-- The read view of a line (R169, R177): snapshots of committed segments oldest first, then the staged line; lines of open groups are not in it. -/
def State.readView (s : State) (line : Nat) : Line × Mask :=
  let base := (s.xlt.snaps.filter (fun x => x.group.isNone && decide (x.lseg = line / 64))).foldl
    (fun (acc : Line × Mask) x => let l := SMap.get (fun _ => {}) x.lines (line % 64); (mergeLine acc.1 l.data l.mask, acc.2 ||| l.mask)) (0, 0)
  let l := s.stagedAt (stKey line none)
  (mergeLine base.1 l.data l.mask, base.2 ||| l.mask)

/-- The keys of the staged lines of a segment, of a group or of none. -/
def State.segLines (s : State) (lseg : Nat) (group : Option Nat) : SMap StLine :=
  (s.xlt.staged.within (lseg * 64 * 32) ((lseg + 1) * 64 * 32)).filter (fun e => decide (e.1 % 32 = (match group with | none => 0 | some i => i + 1)))

/-- Segment `lseg` closes: its lines move into a snapshot (R177, R178). -/
def State.closeSeg (s : State) (lseg : Nat) (group : Option Nat) : State :=
  let ls := s.segLines lseg group
  if ls.isEmpty then s
  else s.onXlt (fun t => { t with
    staged := t.staged.filter (fun e => !(decide (e.1 / 32 / 64 = lseg) && decide (e.1 % 32 = (match group with | none => 0 | some i => i + 1)))),
    snaps := t.snaps ++ [{ id := t.nextSnap, lseg, group, lines := ls.map (fun e => (e.1 / 32 % 64, e.2)) }],
    nextSnap := t.nextSnap + 1,
    wtAcks := t.wtAcks.map (fun a => if a.lseg = lseg && a.snap.isNone && group.isNone then { a with snap := some t.nextSnap } else a) })

/-- Every byte of every line of the segment is staged (R177, first case). -/
def State.segFull (s : State) (lseg : Nat) (group : Option Nat) : Bool :=
  let ls := s.segLines lseg group
  decide (ls.length = 64) && ls.all (fun e => decide (e.2.mask = BitVec.allOnes 64))

/-- The (segment, group) pairs that have staged lines outside snapshots. -/
def State.openSegs (s : State) : List (Nat × Option Nat) :=
  (s.xlt.staged.map (fun e => (e.1 / 32 / 64, if e.1 % 32 = 0 then none else some (e.1 % 32 - 1)))).eraseDups

/-- Clk of the last write of an open segment. -/
def State.lastWrite (s : State) (x : Nat × Option Nat) : Nat := (s.segLines x.1 x.2).foldl (fun m e => max m e.2.clk) 0

/-- The third case of R177: while the lines outside snapshots exceed 4 MiB (65,536 lines), the segment with the oldest last write closes. -/
def State.closeOldest (s : State) (fuel : Nat) : State :=
  match fuel with
  | 0 => s
  | k + 1 =>
    if 65536 < s.xlt.staged.length then
      match s.openSegs.foldl (fun acc x => match acc with
          | none => some x
          | some y => if s.lastWrite x < s.lastWrite y then some x else some y) none with
      | some x => (s.closeSeg x.1 x.2).closeOldest k
      | none => s
    else s

/-- Write-through is in force: VHOLD is not qualified (R46). -/
def State.writeThrough (s : State) : Bool := !s.hk.vholdQual

/-- Staging bank and journal tail are drained: under write-through, and for a standby that waits (R46, R675). -/
def State.draining (s : State) : Bool := s.writeThrough || s.pwr.standbyWait

/-- After a write to a segment, R177's first and third case. Under write-through the segment closes at once, so that the next rotation can program the write (R46). Log entry 24. -/
def State.afterStage (s : State) (lseg : Nat) (group : Option Nat) : State :=
  let s1 := if s.segFull lseg group || (s.writeThrough && group.isNone) then s.closeSeg lseg group else s
  s1.closeOldest s1.xlt.staged.length

/-! ### Row batches and rotations (R179 to R181) -/

/-- The gang under evacuation (R196): on the -35A, a gang with a failed die while the other has full margin. -/
def State.evacuating (s : State) (g : Nat) : Bool :=
  decide (s.variant = .v35A) && decide (s.margin g ≠ 0) && decide (s.margin (1 - g) = 0)

/-- Gang `g` has room in an OPEN Caldera paddock (R179). -/
def State.hasRoom (s : State) (g : Nat) : Bool :=
  match s.openPad g with | some p => decide ((s.pad g p).next < 85) | none => false

/-- The gang that takes the next row batch: round robin over writable gangs with room; one under evacuation only while no other has room (R179). -/
def State.nextGang (s : State) : Option Nat :=
  let order := (List.range 2).map (fun i => (s.xlt.gangRR + i) % 2)
  let can := order.filter (fun g => s.writable.contains g && s.hasRoom g)
  match can.filter (fun g => !s.evacuating g) with
  | g :: _ => some g
  | [] => can.head?

/-- A built segment joins the row batch that fills, or opens one in the next gang with room (R179). Rewrites go ahead of host segments. It waits while no gang has room. -/
def State.joinBatch (s : State) (b : Built) : State :=
  let add (g : Nat) (s : State) : State :=
    s.onGang g (fun x =>
      match x.batches.getLast? with
      | some l =>
        if l.ready then { x with batches := x.batches ++ [{ segs := [b], joined := s.now }] }
        else
          let segs := if b.cmp.isSome then b :: l.segs else l.segs ++ [b]
          { x with batches := x.batches.dropLast ++ [{ segs, joined := s.now, ready := decide (16 ≤ segs.length) }] }
      | none => { x with batches := [{ segs := [b], joined := s.now }] })
  match s.gangIds.find? (fun g => match (s.gang g).batches.getLast? with | some l => !l.ready && s.writable.contains g | none => false) with
  | some g => add g s
  | none =>
    match s.nextGang with
    | some g => add g (s.onXlt (fun t => { t with gangRR := 1 - g }))
    | none => s.onXlt (fun t => { t with wait := if b.cmp.isSome then b :: t.wait else t.wait ++ [b] })

/-- The built segments that waited for room join row batches as far as there is room now. -/
def State.joinWaiting (s : State) : State :=
  let l := s.xlt.wait
  l.foldl State.joinBatch (s.onXlt (fun t => { t with wait := [] }))

/-- The number of row batches ready for gang `g` (R181). -/
def State.slcReady (s : State) (g : Nat) : Nat := ((s.gang g).batches.filter (fun b => b.ready)).length

/-- fold_rows_loaded(g): the next 16 band rows (768 segments) are in every buffer (R181, R185). -/
def State.foldLoaded (s : State) (g : Nat) : Bool :=
  let f := (s.gang g).fold
  f.band.isSome && decide (768 * (f.rots + 1) ≤ f.segs.length) && (f.segs.take (768 * (f.rots + 1))).all (fun x => x.ready)

/-- tail_unwritten(g): the journal tail holds a block not yet programmed in the copy of gang `g` (R46, R181). -/
def State.tailUnwritten (s : State) (g : Nat) : Bool := s.xlt.tail.any (fun b => if g = 0 then !b.done0 else !b.done1)

/-- choose_kind of R181. Row batches of the system area that wait count as ready ones (R180). -/
def State.chooseKind (s : State) (g : Nat) : TurnKind :=
  let slc := decide (0 < s.slcReady g) || !(s.gang g).sysq.isEmpty
  let tlc := s.foldLoaded g
  if 2 ≤ s.margin g then .none
  else if s.draining then (if slc || s.tailUnwritten g then .slc else .none)
  else if slc && tlc then
    (if s.targetOf g ≤ s.used g then .tlc
     else if s.targetOf g * s.appFld Reg.CAL.CTRL.FOLD_HIGH ≤ s.used g * 100 && (s.rota g).lastKind = .slc then .tlc
     else .slc)
  else if slc then .slc else if tlc then .tlc else .none

/-- A row batch is placed at the next row batch of paddock `p`; after the 85th the rotation programs no more of the paddock, which is FULL once that one is programmed (R172). -/
def State.placeOne (s : State) (g p : Nat) (b : RowBatch) : State :=
  let x := s.pad g p
  let s1 := s.setPad g p { x with next := x.next + 1 }
  s1.onGang g (fun y => { y with placed := y.placed ++ [{ paddock := p, row := x.next, segs := b.segs }], batches := y.batches.erase b })

/-- An SLC rotation takes ready row batches in order, each on a tile of its own, at most 16 (R180). -/
def State.placeBatches (s : State) (g fuel : Nat) (tiles : List Nat) : State :=
  match fuel with
  | 0 => s
  | k + 1 =>
    match (s.gang g).batches.find? (fun b => b.ready) with
    | none => s
    | some b =>
      let s1 := s.openNext g
      match s1.openPad g with
      | none => s1
      | some p =>
        let t := rowTile (85 * (p % 3) + (s1.pad g p).next)
        if tiles.contains t || decide (85 ≤ (s1.pad g p).next) then s1 else (s1.placeOne g p b).placeBatches g k (t :: tiles)

/-- The PSA of segment `i` of a placed row batch (R90, R180). -/
def Placed.psa (p : Placed) (g i : Nat) : Nat := psaOf g p.paddock (16 * p.row + i)

/-- A chunk of the medium. -/
def State.chunk (s : State) (psa sector pos : Nat) : Chunk := SMap.get (fun _ => 0) s.med (chunkKey psa sector pos)

/-- A chunk of the medium is programmed. -/
def State.setChunk (s : State) (psa sector pos : Nat) (c : Chunk) : State :=
  { s with med := SMap.set (fun _ => 0) s.med (chunkKey psa sector pos) c }

/-- The 16 chunks that position `pos` stores of a segment (R90, R125). -/
def State.programSeg (s : State) (psa pos : Nat) (secs : List SecImg) : State :=
  s.each (List.range 16) (fun s k => s.setChunk psa k pos ((encodeStripe (secs.getD k {})).getD pos 0))

/-- Key of a parity slot's chunk: slot, die position, tile, and the chunk within the tile's page (fragment and sector) (R189). -/
def parityKey (slot pos tile frag sector : Nat) : Nat := (((slot * 20 + pos) * 16 + tile) * 16 + frag) * 16 + sector

/-- The parity slot of a paddock takes in a programmed page (R189). -/
def State.parityAdd (s : State) (slot pos tile frag : Nat) (secs : List SecImg) : State :=
  s.each (List.range 16) (fun s k =>
    let key := parityKey slot pos tile frag k
    s.onXlt (fun t => { t with
      parity := SMap.set (fun _ => 0) t.parity key (SMap.get (fun _ => 0) t.parity key ^^^ (encodeStripe (secs.getD k {})).getD pos 0) }))

/-- A parity rebuild is queued (R190, R191): row batch `row` of paddock `p`, die position `pos` where its program failed; the rows `rows` of the tile and the fragments `frags` are to be sensed. -/
def State.addRebuild (s : State) (g p : Nat) (pos : Option Nat) (row : Nat) (rows frags : List Nat) : State :=
  let l := rows.flatMap (fun i => frags.map (fun f => 16 * i + f))
  s.onXlt (fun t => { t with rebuilds := t.rebuilds ++ [{ id := t.nextRebuild, gang := g, paddock := p, pos, row, todo := l, left := l.length }], nextRebuild := t.nextRebuild + 1 })

/-! ### Builds on their way (R179, R206, R542) -/

/-- `l` with every build that satisfies `p` dropped. -/
def dropBuilt (p : Built → Bool) (l : List Built) : List Built := l.map (fun b => if p b then { b with dropped := true } else b)

/-- Builds that satisfy `p`, in row batches or in a rotation, are dropped: their slots become STALE (R206, R542). Those that wait for a row batch go. -/
def State.dropBuilds (s : State) (p : Built → Bool) : State :=
  (s.each [0, 1] (fun s g => s.onGang g (fun x => { x with
    batches := x.batches.map (fun b => { b with segs := dropBuilt p b.segs }),
    placed := x.placed.map (fun b => { b with segs := dropBuilt p b.segs }),
    ending := x.ending.map (fun b => { b with segs := dropBuilt p b.segs }) }))).onXlt (fun t => { t with wait := dropBuilt p t.wait })

/-- The builds not yet mapped, in the order in which they were made as far as their places tell it. -/
def State.builds (s : State) : List Built :=
  ([0, 1].flatMap (fun g => let x := s.gang g; (x.ending ++ x.placed).flatMap (fun b => b.segs) ++ x.batches.flatMap (fun b => b.segs))) ++ s.xlt.wait

/-- Some build that satisfies `p` is not yet mapped. -/
def State.anyBuild (s : State) (p : Built → Bool) : Bool := s.builds.any p

end Sys2Proof.Machine
end

