-- ==== Sys2Proof/Machine/Positions.lean ====
section
/-! DEFINITION. Senses on the die interface (R92 to R96, R101): windows, sense commands, the output positions that a sense books, the reference banks that senses in flight name. -/

namespace Sys2Proof.Machine

/-- `s` with the reads in flight changed by `f`. -/
def State.onReads (s : State) (f : Reads → Reads) : State := { s with reads := f s.reads }

/-! ### Windows (R92) -/

/-- Length of a sense window (R92). -/
def senseLen (slc : Bool) : Nat := if slc then 256 else 512

/-- Length of a foreground sense up to the chunks: 512 TLC, 256 SLC; a stream sense of an SLC segment leaves in the next slot (R92, R489). -/
def Rd.len (r : Rd) : Nat := if r.slc && (match r.who with | .stream _ _ => false | _ => true) then 256 else 512
/-- Start of a read's sense in progress, or of its last one. -/
def Rd.start (r : Rd) : Nat := if r.st = .sensing2 then r.s2 else r.s1
/-- The slot in which a sense's chunks leave, and how many positions they take. -/
def Rd.outSlot (r : Rd) : Nat := (r.start + r.len) / 256 - 1
def Rd.width (r : Rd) : Nat := match r.who with | .stream _ _ => 16 | _ => 1
/-- The read has a sense in progress. -/
def Rd.onAir (r : Rd) : Bool := r.st = .sensing || r.st = .sensing2

/-! ### Sense commands (R101) -/

/-- The sense command for die position `i` (R101): tile, tile row, level in TLC, fragment, bank, set in TLC, and the output positions, 64 times the slot after the sense's first output slot plus the position. -/
def senseCmd (psa : Nat) (slc : Bool) (bank bin cls : Nat) (outs : List Nat) (i : Nat) : Output :=
  let d := dieNo (psaGang psa) i
  if slc then .die d 0x02 ([rowTile (psaRowSlc psa), rowTileRow (psaBand psa) (psaRowSlc psa), psaFragment psa, bank] ++ outs)
  else .die d 0x01 ([rowTile (psaRowTlc psa), rowTileRow (psaBand psa) (psaRowTlc psa), psaLevel psa, psaFragment psa, bank, 16 * cls + bin] ++ outs)

/-- The sense commands to every die that is not in `er`. -/
def senseCmds (psa : Nat) (slc : Bool) (bank bin : Nat) (classes er outs : List Nat) : List Output :=
  ((List.range 20).filter (fun i => !er.contains i)).map (fun i => senseCmd psa slc bank bin (classes.getD i 0) outs i)

/-! ### Output positions (R93, R94) -/

/-- Output positions in use in slot `n` (clk div 256) for gang `g`, as a mask. -/
def State.posUsed (s : State) (g n : Nat) : Nat := SMap.get (fun _ => 0) s.reads.outs (2 * n + g)

/-- Positions `l` of slot `n` are booked. -/
def State.posTake (s : State) (g n : Nat) (l : List Nat) : State :=
  s.onReads (fun x => { x with outs := SMap.set (fun _ => 0) x.outs (2 * n + g) (l.foldl (fun m p => m + 2 ^ p) (s.posUsed g n)) })

/-- The free positions of slot `n` from `lo` to `hi`. -/
def State.posFree (s : State) (g n lo hi : Nat) : List Nat :=
  ((List.range (hi + 1 - lo)).map (fun k => lo + k)).filter (fun p => !bitOf (s.posUsed g n) p)

/-- The positions that background output may take in slot `n` (R93, R94): 8 to 17, which foreground output of at most 24 positions leaves; 0 to 7 as well in the present bell, where no program data comes. -/
def State.bgFree (s : State) (g n : Nat) : List Nat :=
  (if n / 16 = s.clk.bell && (s.gang g).loading ≠ some s.clk.bell then s.posFree g n 0 7 else []) ++ s.posFree g n 8 17

/-- A background fragment of `n` chunks leaves in free positions from slot `slot` on, counted from slot `base` (R93): the positions booked, and the clk by which the last has left. -/
def State.bookFrom (s : State) (g fuel slot base n : Nat) (acc : List Nat) (done : Nat) : List Nat × Nat × State :=
  match fuel with
  | 0 => (acc, done, s)
  | k + 1 =>
    if n = 0 then (acc, done, s)
    else
      let take := (s.bgFree g slot).take n
      (s.posTake g slot take).bookFrom g k (slot + 1) base (n - take.length) (acc ++ take.map (fun p => 64 * (slot - base) + p))
        (match take.getLast? with | some p => 256 * slot + 6 * p + 6 | none => done)

/-- The slot in which a sense that starts now first has output: the same slot for SLC, from position 18 on, the next one for TLC (R92). A background fragment of an SLC sense leaves from the next slot on. -/
def State.bookBg (s : State) (g n : Nat) : List Nat × Nat × State :=
  let base := s.now / 256 + 1
  s.bookFrom g 64 base base n [] s.now

/-- The positions of a foreground read: the first free ones from 8 on, for an SLC chunk from 18 on, in the order in which reads were bound to slots (R93). -/
def State.bookFg (s : State) (r : Rd) : List Nat × State :=
  let g := psaGang r.psa
  let take := (s.posFree g r.outSlot (if r.len = 512 then 8 else 18) 41).take r.width
  (take, s.posTake g r.outSlot take)

/-- The bookings of slots that have ended are forgotten. -/
def State.forgetOuts (s : State) : State := s.onReads (fun x => { x with outs := x.outs.filter (fun e => decide (s.now / 256 ≤ e.1 / 2)) })

/-! ### Banks (R96) -/

/-- A sense in flight in gang `g` names reference bank `bank`. -/
def State.namesBank (s : State) (g bank : Nat) : Bool :=
  s.reads.list.any (fun r => r.onAir && decide (psaGang r.psa = g) && decide (r.bank = bank) && decide (s.now < r.start + senseLen r.slc)) ||
    s.reads.bg.any (fun b => decide (psaGang b.psa = g) && decide (b.bank = bank) && decide (s.now < b.start + senseLen b.slc)) ||
    s.reads.second.any (fun e => decide (e.1 = g) && decide (e.2.1 = bank) && decide (s.now < e.2.2))

/-- A sense on die `d` is in progress: a foreground or whole-segment sense that includes it, or a sense of it alone (R107, R112). -/
def State.senseOn (s : State) (d : Nat) : Bool :=
  let g := dieGang d
  s.reads.list.any (fun r => r.onAir && decide (psaGang r.psa = g) && !r.er.contains (dieLocal d) && decide (s.now < r.start + senseLen r.slc)) ||
    s.reads.bg.any (fun b => decide (psaGang b.psa = g) && !b.er.contains (dieLocal d) && decide (s.now < b.start + senseLen b.slc)) ||
    s.reads.second.any (fun e => decide (e.1 = g) && decide (s.now < e.2.2)) || s.reads.short.any (fun e => decide (e.1 = d) && decide (s.now < e.2))

end Sys2Proof.Machine
end

