-- ==== Sys2Proof/Machine/Media.lean ====
section
/-! DEFINITION. What a failed die brings about (R112, R115), event records (R443), reductions (R11), and the cut of a turn (R31). -/

namespace Sys2Proof.Machine

/-! ### Event logs (R443) -/

/-- An event log: 0 Informational, 1 Warning, 2 Failure, 3 Fatal. -/
def State.log (s : State) (n : Nat) : EvtLog := SMap.get (fun _ => {}) s.link.logs n

/-- An event log replaced. -/
def State.setLog (s : State) (n : Nat) (l : EvtLog) : State :=
  { s with link := { s.link with logs := SMap.set (fun _ => {}) s.link.logs n l } }

/-- An event of kind 0 General Media, 1 DRAM, 2 Memory Module or 3 vendor-specific enters log `n`; MSI-X vector 1 under the log's policy (R443). -/
def State.event (s : State) (kind n : Nat) (args : List Nat) : State :=
  let l := s.log n
  if l.recs.length < 64 then
    let s1 := (s.setLog n { l with recs := l.recs ++ [{ kind, args, handle := s.link.nextHandle, bell := s.clk.bell }] })
    let s2 := { s1 with link := { s1.link with nextHandle := (s1.link.nextHandle + 1) % 65536 } }
    if l.policy = 1 then s2.sendMsi 1 else s2
  else s.setLog n { l with overflow := l.overflow + 1 }

/-! ### Reductions (R11, R12) -/

/-- What DEV.STATE shows of a list of reductions (R736): a channel disabled, an agent dead, margin lost. -/
def reductionBits (l : List Nat) : Nat :=
  4 * b2n (l.any (fun r => decide (200 ≤ r))) + 2 * b2n (l.any (fun r => decide (100 ≤ r) && decide (r < 200))) + b2n (l.any (fun r => decide (r < 100)))

/-- The reductions become `l`: REDUCTION where STATE shows another set (R735). -/
def State.setReduced (s : State) (l : List Nat) : State :=
  let s1 := { s with dev := { s.dev with reduced := l } }
  if reductionBits l = reductionBits s.dev.reduced then s1 else s1.raise Reg.DEV.INT_STATUS.REDUCTION

/-- A reduction arises: SERVICE becomes DEGRADED. -/
def State.reduce (s : State) (r : Nat) : State :=
  let s1 := s.setReduced (if s.dev.reduced.contains r then s.dev.reduced else s.dev.reduced ++ [r])
  if s1.dev.st = .service then s1.toState .degraded else s1

/-- A reduction clears: with none left DEGRADED becomes SERVICE. -/
def State.restore (s : State) (p : Nat → Bool) : State :=
  let s1 := s.setReduced (s.dev.reduced.filter (fun r => !p r))
  if s1.dev.st = .degraded && s1.dev.reduced.isEmpty then s1.toState .service else s1

/-! ### Turns: what a position places (R31, R33) -/

/-- The idle turns in a rotation of gang `g`, n of R33, as in force now; the cap's are omitted during a rotation that omits them (R34). -/
def State.idlePerRot (s : State) (g : Nat) : Nat :=
  (if (s.rota g).rotating && (s.rota g).omitting && decide (s.capNow = 0) && decide (s.levelNow = 0) then 0 else capIdle s.capNow) +
    s.appFld (Reg.ROT.TURN_CTRL.EXTRA_IDLE g) + (if 1 ≤ s.levelNow then 20 else 0)

/-- The idle turns that position `i` places when a rotation holds `n` (R33). -/
def idleAfter (n i : Nat) : Nat := (i + 1) * n / 20 - i * n / 20

/-- Position `pos` has ended: its idle turns are next, then the next position. -/
def State.passPos (s : State) (g : Nat) : State :=
  let n := s.idlePerRot g
  s.onRota g (fun r => { r with kind := .none, idleLeft := idleAfter n r.pos, pos := r.pos + 1 })

/-- Positions of failed dies take no time, and their idle turns follow at once (R31). -/
def State.skipFailed (s : State) (g fuel : Nat) : State :=
  match fuel with
  | 0 => s
  | k + 1 =>
    let r := s.rota g
    if r.idleLeft = 0 && decide (r.pos < 20) && s.dieFailed (dieNo g r.pos) then (s.passPos g).skipFailed g k else s

/-- The rotation is over once nothing is left of it (R31): ROTATIONS counts, and its ending waits to be carried out (R180). -/
def State.checkOver (s : State) (g : Nat) : State :=
  let s1 := s.skipFailed g 21
  let r := s1.rota g
  if r.rotating && decide (r.idleLeft = 0) && decide (20 ≤ r.pos) then
    (s1.onGang g (fun x => { x with
      rota := { x.rota with rotating := false, cut := false, kind := .none, lastKind := x.rota.rotKind },
      ended := true, ending := x.ending ++ x.placed, placed := [], sysEnding := x.sysEnding ++ x.sysRows, sysRows := [] })).bump (Reg.ROT.ROTATIONS.COUNT g)
  else s1

/-- Reads whose re-read waits for the end of the turn of die position `i` find it ended now (R39, R112). -/
def State.turnCutFor (s : State) (g i : Nat) : State :=
  s.onReads (fun x => { x with list := x.list.map (fun r =>
    if psaGang r.psa = g && decide (r.progDie = some i) && decide (s.now < r.turnEnd) then { r with turnEnd := s.now } else r) })

/-- A die declared failed in its own turn ends that turn, which is counted in no counter (R31, R112). -/
def State.cutTurn (s : State) (d : Nat) : State :=
  let g := dieGang d
  let r := s.rota g
  if (r.kind = .slc || r.kind = .tlc) && decide (r.pos = dieLocal d) then
    (((s.turnCutFor g (dieLocal d)).passPos g).onRota g (fun r => { r with cut := true })).checkOver g
  else s

/-! ### Die failure (R112, R115) -/

/-- Requests with a read booked in gang `g` that has not begun meet the failure of one of its dies (R500); the first intervention stays. -/
def State.strikeGang (s : State) (g : Nat) : State :=
  { s with strm := { s.strm with reqs := s.strm.reqs.map (fun r => if r.strike = 0 && r.books.any (fun b => decide (b.res = some g) && !b.started) then { r with strike := 2 } else r) } }

/-- Die `d` of the variant is declared failed with a cause of R120. A die already failed stays as it is. -/
def State.dieFail (s : State) (d cause : Nat) : State :=
  if s.dieFailed d || decide (s.nDies ≤ d) then s
  else
    let st := dieStack d
    let n := diePos d
    let s1 := ((s.setFld (Reg.MED.FAILED_MAP.FAILED st) (s.fld (Reg.MED.FAILED_MAP.FAILED st) + 2 ^ n)).setFld
      (Reg.MED.DIE_STATUS.STATE st n) 4).setFld (Reg.MED.DIE_STATUS.FAIL_CAUSE st n) cause
    let s2 := s1.onPnv (fun p => { p with failed := SMap.set (fun _ => 0) p.failed d cause })
    let s3 := (s2.raiseRec (Reg.MED.INT_STATUS.DIE_FAILED st) sevError clsDevice d cause 0 0).event 0 2 [d, cause]
    let s4 := ((s3.cutTurn d).reduce d).strikeGang (dieGang d)
    if (s4.failedOf (dieGang d)).length = 3 then
      s4.raiseRec Reg.SEC.INT_STATUS.GANG_OFFLINE sevCrit clsDevice (dieGang d) 0 0 0
    else s4

/-- A lasting chunk fault of die `d` is counted (R110, R111, R121): the eighth of a flock declares the die failed, and the count stays at 8. -/
def State.lastingChunk (s : State) (d : Nat) : State :=
  let st := dieStack d
  let n := diePos d
  let s1 := ((s.setFld (Reg.MED.DIE_FAULTS.FLOCK_LASTING st n) (min 8 (s.fld (Reg.MED.DIE_FAULTS.FLOCK_LASTING st n) + 1))).bumpSat
    (Reg.MED.DIE_FAULTS.LASTING_TOTAL st n)).raise (Reg.MED.INT_STATUS.LASTING_FAULT st)
  if 8 ≤ s1.fld (Reg.MED.DIE_FAULTS.FLOCK_LASTING st n) then s1.dieFail d 1 else s1

/-- FORCE_FAIL (R119): a guarded write declares the dies of its bits failed with cause SOFTWARE. `s` is the stack. -/
def State.forceFail (s : State) (st w : Nat) : State :=
  s.each (List.range 8) (fun s n => if bitOf w n then s.dieFail (dieAt st n) 5 else s)

/-- DIE_POWER_OFF (R112, R107): once no sense on the failed die remains in progress, its array and then its interface domain are switched off, and the isolation cells are set. -/
def execDiePowerOff (die : Timed Nat) (s : State) : Res :=
  let s0 := s.at_ die.phase
  let d := die.what
  .next (if s0.dieFailed d && !s0.senseOn d then
    let s1 := s0.domainsOff d
    ({ s1 with pwr := { s1.pwr with iso := s1.pwr.iso ||| (1#40 <<< d) } }).emit (.isolate d)
  else s0)

end Sys2Proof.Machine
end

