-- ==== Sys2Proof/Machine/Dram.lean ====
section
/-! DEFINITION. The LPDDR6 controller (chapter 08): layout, the sector cache, the update buffer with its panic, errors, and the commands of the off-duty spans. -/

namespace Sys2Proof.Machine

/-- `s` with the DRAM state changed by `f`. -/
def State.onDram (s : State) (f : Dram → Dram) : State := { s with dram := f s.dram }

/-! ### Layout (R375, R376) -/

/-- E, the number of sector-cache entries in each copy; 0 before mount. -/
def State.scEntries (s : State) : Nat := if s.fld Reg.DMC0.SC_GEOM.LOG2_E = 0 then 0 else 2 ^ s.fld Reg.DMC0.SC_GEOM.LOG2_E
/-- Enabled channels. -/
def State.channels (s : State) : List Nat := (List.range 4).filter (fun c => s.fld (Reg.DMC.STATUS.STATE c) = 2 || s.fld (Reg.DMC.STATUS.STATE c) = 3)
/-- Lines in one copy of the segment map. -/
def mapLines (v : Variant) : Nat := match v with | .v35A => 58720256 | .v17A => 29360128
/-- Bases of the sector cache, the reverse map and the working area in placement indices. -/
def State.scBase (s : State) : Nat := mapLines s.variant
/-- Channel and subchannel line address of line `i` of a mirrored area at `base`. -/
def State.mirrored (s : State) (base i : Nat) : Nat × Nat :=
  let cs := s.channels
  let c := max cs.length 1
  (cs.getD ((base + i) % c) 0, (base + i) / c)

/-- A0 (R376): the subchannel line addresses of the mirrored areas end below it. -/
def State.mirrorEnd (s : State) : Nat :=
  let c := max s.channels.length 1
  (mapLines s.variant + 4 * s.scEntries + c - 1) / c + 63 |> fun n => n / 64 * 64
/-- Bases of the reverse map and of the working area. -/
def State.revBase (s : State) : Nat := 2 * max s.channels.length 1 * s.mirrorEnd
def State.workBase (s : State) : Nat := s.revBase + (match s.variant with | .v35A => 2 ^ 26 | .v17A => 2 ^ 25)
/-- Channel, subchannel and subchannel line address of line `i` of an area at `base` that is held once (R376). -/
def State.single (s : State) (base i : Nat) : Nat × Nat × Nat :=
  let cs := s.channels
  let c := max cs.length 1
  (cs.getD ((base + i) % c) 0, (base + i) / c % 2, (base + i) / c / 2)

/-! ### Metadata and the line code (R382, R383) -/

/-- Bits [15:0] of the metadata of both bursts of a line. -/
def lineMeta (poison valid : Bool) (tag : Nat) : Nat := b2n poison * 2 ^ 15 + b2n valid * 2 ^ 14 + tag % 2 ^ 14

/-- Syndrome `k` of a codeword of RS(72,68) whose symbols `e` are wrong; symbol i weighs α^(71 - i). -/
def lineSyndrome (e : List SymErr) (k : Nat) : Nat := e.foldl (fun a x => a ^^^ gfMul x.add.toNat (gfPow 2 (k * (71 - x.pos)))) 0

/-- What the decoder makes of the wrong symbols: the syndromes of a codeword vanish, those of a single wrong symbol stand in the ratio of its place. From four wrong symbols on the spec says nothing: they are taken as uncorrectable (log
entry 113). -/
def lineDecode (e : List SymErr) : LineErr :=
  let s (k : Nat) : Nat := lineSyndrome e k
  if 4 ≤ ((e.filter (fun x => x.add ≠ 0)).map SymErr.pos).eraseDups.length then .bad
  else if s 0 = 0 && s 1 = 0 && s 2 = 0 && s 3 = 0 then .good
  else if s 0 ≠ 0 && (List.range 72).any (fun i => let p := gfPow 2 (71 - i); decide (s 1 = gfMul p (s 0)) && decide (s 2 = gfMul p (s 1)) && decide (s 3 = gfMul p (s 2))) then .corrected
  else .bad

/-- The subchannel (0 A, 1 B) from which a lookup in DRAM slot `d` reads (R379). -/
def lookupSub (d : Nat) : Nat := if d % 128 ≤ 57 || 122 ≤ d % 128 then 1 else 0
/-- Subchannel `h` is off duty at clk phase `p` (R378). -/
def offDuty (h p : Nat) : Bool :=
  let d := p % 4096 / 32
  if h = 0 then decide (d < 56) else decide (64 ≤ d) && decide (d < 120)

/-! ### The update buffer (R389, R390) -/

/-- Free entries. -/
def State.ubFree (s : State) : Nat := 1024 - s.dram.ub.length
/-- A step that needs map updates may start (R389). -/
def State.ubReserve (s : State) : Bool := decide (256 ≤ s.ubFree)

/-- An entry joins the buffer; at PANIC_LEVEL the port enters panic (R390). -/
def State.ubPush (s : State) (e : UbE) : State :=
  let s1 := s.onDram (fun d => { d with ub := d.ub ++ [e] })
  if s.appFld Reg.DMC0.RT_CFG.PANIC_LEVEL ≤ s1.dram.ub.length && !s1.flag Reg.DMC0.RT_STATUS.PANIC then
    ((s1.settle.setFlag Reg.DMC0.RT_STATUS.PANIC true).bump Reg.DMC0.PANICS.PANICS).raise (Reg.DMC.INT_STATUS.PANIC 0)
  else s1

/-- The map line of a segment waits to be written, once per line. -/
def State.ubMap (s : State) (lseg : Nat) : State :=
  if s.dram.ub.any (fun e => decide (e.kind = .mapLine) && decide (e.idx = lseg / 16)) then s else s.ubPush { kind := .mapLine, idx := lseg / 16 }

/-! ### The sector cache (R384 to R387) -/

/-- The valid entry of a sector, if its tag matches. -/
def State.scFind (s : State) (lsn : Nat) : Option ScE :=
  if s.scEntries = 0 then none
  else match SMap.get (fun _ => none) s.dram.sc (lsn % s.scEntries) with
    | some e => if e.tag = lsn / s.scEntries then some e else none
    | none => none

/-- The line `i` (0 to 3) of a sector. -/
def sectorLine (d : SectorData) (i : Nat) : Line := BitVec.ofNat 512 (d.toNat >>> (512 * i))

/-- A sector with line `i` replaced. -/
def sectorPut (d : SectorData) (i : Nat) (l : Line) : SectorData :=
  BitVec.ofNat 2048 (putBits d.toNat (512 * i + 511) (512 * i) l.toNat)

/-- The entries of a segment's 16 sectors are invalidated (R386): one entry of the update buffer where some sector was held. Reads of the segment in flight fill nothing. -/
def State.scInvalidate (s : State) (lseg : Nat) : State :=
  let s0 := { s with reads := { s.reads with list := s.reads.list.map (fun r => if r.dpa / 4096 = lseg then { r with stale := true } else r) } }
  let held := (List.range 16).filter (fun k => (s.scFind (lseg * 16 + k)).isSome)
  if held.isEmpty then s0
  else (held.foldl (fun s k => s.onDram (fun d => { d with sc := SMap.set (fun _ => none) d.sc ((lseg * 16 + k) % s.scEntries) none })) s0).ubPush
    { kind := .inval, idx := lseg }

/-- SECTOR_CACHE_FILL (R385): the entry of a sector is filled, or the fill is dropped below the reserve. -/
def State.scFill (s : State) (lsn : Nat) (poison : Bool) (d : SectorData) : State :=
  if s.scEntries = 0 then s
  else if s.ubReserve then
    (s.onDram (fun x => { x with sc := SMap.set (fun _ => none) x.sc (lsn % s.scEntries) (some { tag := lsn / s.scEntries, poison, data := d }) })).ubPush
      { kind := .fill, idx := lsn % s.scEntries }
  else (s.bump Reg.DMC0.FILL_DROPS.FILL_DROPS).raise (Reg.DMC.INT_STATUS.FILL_DROPPED 0)

/-- Page `k` of a subchannel of channel `ch` holds only lines of the sector cache. -/
def State.scPage (s : State) (ch k : Nat) : Bool :=
  let c := max s.channels.length 1
  let i := s.channels.findIdx (fun x => decide (x = ch))
  decide (s.scBase ≤ 64 * k * c + i) && decide ((64 * k + 63) * c + i < s.scBase + 4 * s.scEntries)

/-- On an Eruption the sector cache holds nothing, its pages are unwritten, and its key is drawn anew (R377, R386, R387). A page that it shares with another area stays written: its entries alone are gone (log entry 113). -/
def State.scErupt (s : State) : State :=
  let s1 := s.onDram (fun d => { d with
    sc := [], ub := d.ub.filter (fun e => decide (e.kind ≠ .fill) && decide (e.kind ≠ .inval) && !(decide (e.kind = .line) && decide (s.scBase ≤ e.idx))),
    bitmap := d.bitmap.filter (fun x => !s.scPage (x.1 / 2 ^ 25) (x.1 % 2 ^ 24)) })
  { s1 with drawn := s.drawn + 1, prot := { s1.prot with scKey := s.drawn } }

/-! ### Errors (R391 to R394) -/

/-- The master class (R530) of a requester class of R60: 0 HOST, 1 STREAM0, 2 STREAM1, 3 DMA, the others DEVICE. -/
def masterOf (cls : Nat) : Nat := if cls = 0 then clsHost else if cls ≤ 2 then clsStream else if cls = 3 then clsDma else clsDevice

/-- An uncorrectable line's second read is decided (R392): ERR_INFO, ERR_LINE, the counter and its record. Class and area as R405 codes them. -/
def State.dramUe (s : State) (ch sub cls area line : Nat) (lasting : Bool) : State :=
  let s1 := ((((s.setFlag (Reg.DMC.ERR_INFO.LASTING ch) lasting).setFld (Reg.DMC.ERR_INFO.SUBCH ch) sub).setFld (Reg.DMC.ERR_INFO.CLASS ch) cls).setFld
    (Reg.DMC.ERR_INFO.AREA ch) area).setFld (Reg.DMC.ERR_LINE.LINE ch) line
  if lasting then
    let s2 := (s1.bumpSat (Reg.DMC.UE_LASTING.UE_LASTING ch)).raiseRec (Reg.DMC.INT_STATUS.UE_LASTING ch) sevError (masterOf cls) ch 0 0 0
    let s3 := s2.event 1 2 [ch, sub, area, line]
    if s3.fld (Reg.DMC.UE_LASTING.UE_LASTING ch) = 256 then
      let s4 := s3.onPnv (fun p => { p with marked := if p.marked.contains ch then p.marked else p.marked ++ [ch] })
      ((s4.setFlag (Reg.DMC.STATUS.MARKED ch) true).reportCode sevCrit ((0x14 + ch) * 256 + 0x40) ch 256 0 0).event 1 3 [ch]
    else s3
  else (s1.bump (Reg.DMC.UE_TRANSIENT.UE_TRANSIENT ch)).raiseRec (Reg.DMC.INT_STATUS.UE_TRANSIENT ch) sevNotice (masterOf cls) ch 0 0 0

/-- A corrected line (R391): counted, and written back through the buffer above its reserve. -/
def State.dramCe (s : State) (ch : Nat) (kind : UbKind) (idx : Nat) : State :=
  let s1 := (s.bump (Reg.DMC.CE.CE ch)).raise (Reg.DMC.INT_STATUS.CE ch)
  if s1.ubReserve then s1.ubPush { kind, idx } else s1

/-- A core's read of the working area meets a line in error (R391 to R393): corrected, or read again in the next off-duty span, and poisoned where that fails too. Answers whether it is. A corrected or poisoned line of an area that is held
once is written at once: the update buffer is that of the mirrored areas (log entry 113). -/
def State.coreMem (s : State) (m : MemErr) : Bool × State :=
  let p := s.single s.workBase m.line
  let first := lineDecode m.first
  let again := lineDecode m.again
  let ce (s : State) (e : LineErr) : State := if e = .corrected then (s.bump (Reg.DMC.CE.CE p.1)).raise (Reg.DMC.INT_STATUS.CE p.1) else s
  if first = .bad then (decide (again = .bad), (ce s again).dramUe p.1 p.2.1 6 3 p.2.2 (decide (again = .bad))) else (false, ce s first)

/-! ### Row disturbance (R395, R396) -/

/-- Requester classes (R60): 0 HOST, 1 STREAM0, 2 STREAM1, 3 DMA, 4 DROVER, 5 SHEPHERD, 6 CORES. -/
def actKey (ch sub bank row cls : Nat) : Nat := (((ch * 2 + sub) * 16 + bank) * 2 ^ 18 + row) * 8 + cls

/-- Activations of a row by a class in this flock. -/
def State.actsOf (s : State) (ch sub bank row cls : Nat) : Nat := SMap.get (fun _ => 0) s.dram.acts (actKey ch sub bank row cls)

/-- The row's total over all classes. -/
def State.rowTotal (s : State) (ch sub bank row : Nat) : Nat := ((List.range 7).map (s.actsOf ch sub bank row)).sum

/-- RD_THRESH as applied. -/
def State.rdThresh (s : State) : Nat := s.appFld Reg.DMC0.RD_CFG.RD_THRESH

/-- HAMMER_DECLARE (R396): a class's count for one row reaches RD_THRESH. The record's class is the master class of its requester. -/
def State.hammer (s : State) (ch sub bank row cls : Nat) : State :=
  let s1 := ((((s.bump (Reg.DMC.RD_TRIGGERS.RD_TRIGGERS ch)).setFld (Reg.DMC.RD_LAST.CLASS ch) cls).setFld (Reg.DMC.RD_LAST.SUBCH ch) sub).setFld
    (Reg.DMC.RD_LAST.BANK ch) bank).setFld (Reg.DMC.RD_LAST.ROW ch) row
  let s2 := s1.raiseRec (Reg.DMC.INT_STATUS.RD_TRIGGER ch) sevWarn (masterOf cls)
    ch cls (sub * 256 + bank) row
  { s2 with dram := { s2.dram with overThresh := s2.dram.overThresh ||| (1#7 <<< cls) }, bw := { s2.bw with hammerNew := s2.bw.hammerNew ||| (1#7 <<< cls) } }

/-- One activation of a row by a class (R395): counts, neighbour refreshes at multiples of RD_THRESH, the declaration. -/
def State.activate (s : State) (ch sub bank row cls : Nat) : State :=
  let n := s.actsOf ch sub bank row cls + 1
  let s1 := s.onDram (fun d => { d with acts := SMap.set (fun _ => 0) d.acts (actKey ch sub bank row cls) n })
  let s2 := if s1.rowTotal ch sub bank row % s1.rdThresh = 0 then s1.onDram (fun d => { d with neighbours := d.neighbours ++ [(ch, sub, bank, row)] }) else s1
  if n = s2.rdThresh then s2.hammer ch sub bank row cls else s2

/-! ### Commands -/

/-- REFRESH (R380): one all-bank refresh at the first DRAM slot of the off-duty span of subchannel `sub` of every enabled channel. -/
def execRefresh (sub phase : Nat) (s : State) : Res :=
  let s0 := s.at_ phase
  .next (if s0.pwr.standby then s0 else if (sub = 0 && decide (s0.clk.phase < 32)) || (sub = 1 && decide (2048 ≤ s0.clk.phase) && decide (s0.clk.phase < 2080)) then
    s0.each s0.channels (fun s c => s.emit (.dram .refresh c sub []))
  else s0)

/-- A subchannel is due for retraining: 1,024 flocks have passed since the last one (R381). -/
def State.retrainDue (s : State) (channel sub : Nat) : Bool :=
  match SMap.get (fun _ => none) s.dram.retrained (2 * channel + sub) with
  | some f => decide (f + 1024 ≤ s.flock)
  | none => true

/-- DRAM_RETRAIN (R381): tracking and ZQ latch of a subchannel end, in its off-duty span; a result outside the window is counted and recorded. -/
def execDramRetrain (channel sub : Nat) (failed : Timed Bool) (s : State) : Res :=
  let s0 := s.at_ failed.phase
  .next (if s0.channels.contains channel && !s0.pwr.standby && offDuty sub s0.clk.phase && s0.retrainDue channel sub then
    let s1 := (s0.onDram (fun d => { d with retrained := SMap.set (fun _ => none) d.retrained (2 * channel + sub) (some s0.flock) })).emit (.dram .retrain channel sub [])
    if failed.what then (s1.bump (Reg.DMC.RETRAIN_FAIL.RETRAIN_FAIL channel)).raiseRec (Reg.DMC.INT_STATUS.TRAIN_FAIL channel) sevWarn clsDevice channel 0 0 0
    else s1
  else s0)

/-- Metadata of the lines of sector-cache entry `x` (R382). -/
def State.scMeta (s : State) (x : Nat) : Nat :=
  match SMap.get (fun _ => none) s.dram.sc x with
  | some e => lineMeta e.poison true e.tag
  | none => 0

/-- The lines, as placement indices, that an entry writes, each with its metadata (R376, R382, R389). -/
def State.ubLines (s : State) (e : UbE) : List (Nat × Nat) :=
  let entry (x : Nat) : List (Nat × Nat) := (List.range 4).map (fun i => (s.scBase + 4 * x + i, s.scMeta x))
  match e.kind with
  | .mapLine => [(e.idx, lineMeta (s.dram.badMap.contains e.idx) false 0)]
  | .fill => entry e.idx
  | .inval => (List.range 16).flatMap (fun k => entry ((e.idx * 16 + k) % max s.scEntries 1))
  | .line => [(e.idx, if s.scBase ≤ e.idx then s.scMeta ((e.idx - s.scBase) / 4) else lineMeta (s.dram.badMap.contains e.idx) false 0)]

/-- An entry is written in subchannel `h`: its lines, and the pages they lie in are written (R387). -/
def State.markWritten (s : State) (e : UbE) (h : Nat) : State :=
  s.each (s.ubLines e) (fun s x =>
    let l := s.mirrored 0 x.1
    (((s.onDram (fun d => { d with bitmap := SMap.set (fun _ => false) d.bitmap ((2 * l.1 + h) * 2 ^ 24 + l.2 / 64) true })).ev 0x61 none none 1).moved (9 + 2 * l.1 + h) true 64).emit
      (.dram .write l.1 h [l.2, x.2]))

/-- Panic ends when occupancy is PANIC_CLEAR or below (R390). -/
def State.panicEnd (s : State) : State :=
  if s.flag Reg.DMC0.RT_STATUS.PANIC && decide (s.dram.ub.length ≤ s.appFld Reg.DMC0.RT_CFG.PANIC_CLEAR) then s.settle.setFlag Reg.DMC0.RT_STATUS.PANIC false else s

/-- UPDATE_BUFFER_WRITE (R389): entry `n` of the buffer is written in the off-duty span of subchannel `sub`, and freed when both copies are written. -/
def execUpdateBufferWrite (n sub phase : Nat) (s : State) : Res :=
  let s0 := s.at_ phase
  .next (match s0.dram.ub[n]? with
    | some e =>
      if offDuty sub s0.clk.phase && (if sub = 0 then e.needA else e.needB) then
        let e1 := if sub = 0 then { e with needA := false } else { e with needB := false }
        let s1 := s0.markWritten e sub
        (s1.onDram (fun d => { d with ub := if e1.needA || e1.needB then d.ub.set n e1 else d.ub.eraseIdx n })).panicEnd
      else s0
    | none => s0)

/-- NEIGHBOUR_REFRESH (R395): rows r - 1 and r + 1 of the oldest hot row that waits are activated and precharged in the off-duty span. -/
def execNeighbourRefresh (phase : Nat) (s : State) : Res :=
  let s0 := s.at_ phase
  .next (match s0.dram.neighbours with
    | (ch, sub, bank, row) :: rest =>
      if offDuty sub s0.clk.phase then
        ((s0.onDram (fun d => { d with neighbours := rest })).bump (Reg.DMC.NEIGHBOUR_REF.NEIGHBOUR_REF ch)).emit (.dram .neighbour ch sub (bank :: ((List.range 3).filterMap (fun k => if k = 1 || row + k = 0 then none else some (row + k - 1)))))
      else s0
    | [] => s0)

end Sys2Proof.Machine
end

