-- ==== Sys2Proof/Machine/RingMsg.lean ====
section
/-! DEFINITION. What the coherence ring carries and when (R339, R341 to R344): stops, lanes, the clk in which a message leaves its stop, snoops and their injection. -/

namespace Sys2Proof.Machine

/-- `s` with the ring changed by `f`. -/
def State.onRing (s : State) (f : Ring → Ring) : State := { s with ring := f s.ring }

/-! ### Stops (R339, R341) -/

/-- The L2 slice of a byte address (R300). -/
def l2Slice (a : Nat) : Nat := bitsOf a 9 6 ^^^ bitsOf a 13 10 ^^^ bitsOf a 17 14
/-- Home stop of a line (R339). -/
def RLine.home (l : RLine) : Nat := 2 * l2Slice l.addr
/-- Its address as POISON_ADDR_LO and POISON_ADDR_HI show it (R363, R364). -/
def RLine.addrLo (l : RLine) : Nat := l.addr % 2 ^ 32
def RLine.addrHi (l : RLine) : Nat := b2n l.internal * 2 ^ 31 + l.keyid * 2 ^ 16 + l.addr / 2 ^ 32
/-- The line of internal space that holds a byte address. -/
def ownLine (a : Nat) : RLine := { internal := true, keyid := 0, addr := a / 64 * 64 }
/-- The line of host space that holds a DPA, under a KeyID. -/
def hostLine (a keyid : Nat) : RLine := { internal := false, keyid, addr := a / 64 * 64 }
/-- Ring stop of a small cache (R339). -/
def stopOf (c : Nat) : Nat := if c ≤ 4 then 8 * c - 7 else if c ≤ 12 then [3, 5, 11, 13, 19, 21, 27, 29].getD (c - 5) 0 else if c = 13 then 7 else 23
/-- Cache code of a caching stop. -/
def cacheAt (stop : Nat) : Option Nat := (List.range 14).findSome? (fun i => if stopOf (i + 1) = stop then some (i + 1) else none)
/-- The core stops. -/
def coreStops : List Nat := [3, 5, 11, 13, 19, 21, 27, 29]
/-- Hops from one stop to another along the shorter direction. -/
def hops (a b : Nat) : Nat := let k := (b + 32 - a) % 32; min k (32 - k)
/-- The agent at a stop is dead. -/
def State.stopDead (s : State) (stop : Nat) : Bool := bitOf (s.fld Reg.RNG.DEAD.DEAD) stop
/-- The agent of a small cache is dead (R357). -/
def State.agentDead (s : State) (c : Nat) : Bool := s.stopDead (stopOf c)

/-! ### Lanes and injection (R341, R342) -/

/-- A message takes the clockwise direction; a distance of 16 goes clockwise. -/
def RMsg.clockwise (m : RMsg) : Bool := decide ((m.dst + 32 - m.src) % 32 ≤ 16)
/-- It needs the header lane, and the data lane. A DAT message brings its header on the data lane; SNP_DONE with a line and a fill take both. -/
def RTy.header (t : RTy) : Bool := match t with | .data _ _ | .wbData _ _ | .stash _ _ _ => false | _ => true
def RTy.dat (t : RTy) : Bool := match t with | .data _ _ | .wbData _ _ | .stash _ _ _ | .fill _ _ => true | .snpDone _ l => l.isSome | _ => false
/-- Injection class: 0 responses, 1 data, 2 requests. -/
def RTy.rank (t : RTy) : Nat := match t with | .data _ _ | .wbData _ _ | .stash _ _ _ => 1 | .wb | .again | .fill _ _ => 2 | _ => 0

/-- The place on the ring that a message leaving at clk `t` moves with. -/
def RMsg.place (m : RMsg) (t : Nat) : Nat := if m.clockwise then (m.src + 31 * t) % 32 else (m.src + t) % 32

/-- Message `m`, leaving at clk `t`, would need a hop and lane of message `n` in one clk. -/
def RMsg.clash (m : RMsg) (t : Nat) (n : RMsg) : Bool :=
  decide (m.clockwise = n.clockwise) && ((m.ty.header && n.ty.header) || (m.ty.dat && n.ty.dat)) && decide (m.place t = n.place n.sent) &&
    decide (t < n.sent + hops n.src n.dst) && decide (n.sent < t + hops m.src m.dst)

/-- The first clk from `t` on in which `m` can leave beside the messages `l`. -/
def RMsg.firstClk (m : RMsg) (l : List RMsg) (fuel t : Nat) : Nat :=
  match fuel with
  | 0 => t
  | k + 1 => if l.any (m.clash t) then m.firstClk l k (t + 1) else t

/-- At clk `t` the messages of `wait`, in injection order, leave as far as they can beside `gone`. -/
def injectClk (t : Nat) (acc : List RMsg × List RMsg) (wait : List RMsg) : List RMsg × List RMsg :=
  wait.foldl (fun acc m => if m.ready ≤ t && !acc.1.any (m.clash t) then (acc.1 ++ [{ m with sent := t }], acc.2) else (acc.1, acc.2 ++ [m])) acc

/-- Clk by clk: what passes goes before what is injected; of what waits, responses, then data, then requests, the oldest first. -/
def injectAll (fuel t : Nat) (gone wait : List RMsg) : List RMsg :=
  match fuel with
  | 0 => gone ++ wait
  | k + 1 =>
    if wait.isEmpty then gone
    else
      let t1 := wait.foldl (fun n m => min n (max t m.ready)) (wait.foldl (fun n m => max n m.ready) t)
      let r := injectClk t1 (gone, []) wait
      injectAll k (t1 + 1) r.1 r.2

/-- Messages in the order in which one stop injects them. -/
def injectOrder (l : List RMsg) : List RMsg := [0, 1, 2].flatMap (fun k => sortKey RMsg.id (l.filter (fun m => m.ty.rank = k)))

/-- Message `m` joins: at its first clk where nothing hinders it, or where only earlier messages of its own stop with no lower claim do; else everything that has not left yet is set anew. -/
def State.schedule (s : State) (l : List RMsg) (m : RMsg) : List RMsg :=
  let hinder := l.filter (m.clash m.ready)
  if hinder.all (fun n => decide (n.sent ≤ s.now) || (decide (n.src = m.src) && decide (n.ty.rank ≤ m.ty.rank))) then l ++ [{ m with sent := m.firstClk l (64 + l.length) m.ready }]
  else injectAll (64 + 34 * l.length) (s.now + 1) (l.filter (fun n => decide (n.sent ≤ s.now))) (injectOrder (l.filter (fun n => decide (s.now < n.sent)) ++ [m]))

/-- A message that can leave from clk `t` on. -/
def State.sendAt (s : State) (t : Nat) (ty : RTy) (src dst : Nat) (l : RLine) : State :=
  s.onRing (fun r => { r with msgs := s.schedule r.msgs { id := r.next, ty, src, dst, line := l, ready := t, sent := t }, next := r.next + 1 })

/-- A message that can leave in the next clk. -/
def State.send (s : State) (ty : RTy) (src dst : Nat) (l : RLine) : State := s.sendAt (s.now + 1) ty src dst l

/-- Message `id` reaches its receiver in the present clk. -/
def State.arrived (s : State) (id : Nat) : Option RMsg := s.ring.msgs.find? (fun m => decide (m.id = id) && decide (m.sent + hops m.src m.dst = s.now))
/-- It leaves the ring. -/
def State.taken (s : State) (id : Nat) : State := s.onRing (fun r => { r with msgs := r.msgs.filter (fun m => m.id ≠ id) })

/-! ### Snoops (R343, R344) -/

/-- The snoop code and mask of an operation; `whole`: a stash writes the whole line. -/
def snoopOf (op : ROp) (stop target : Nat) (whole : Bool) (l : RLine) : Nat × List Nat :=
  let but (x : Nat) (ls : List Nat) : List Nat := ls.filter (fun y => y ≠ x)
  let tstop := if 1 ≤ target ∧ target ≤ 14 then stopOf target else 32
  match op with
  | .rdShared => (0, but stop coreStops)
  | .rdOwn => (1, but stop coreStops)
  | .stashWrite => if l.internal then (if whole then 2 else 4, but tstop coreStops) else (2, but tstop [stopOf (1 + bitsOf l.addr 7 6), 7, 23])
  | .hostWrite => (2, [7, 23])
  | .rdStream | .stashFill => (2, [])
  | .maint => (3, (List.range 14).map (fun i => stopOf (i + 1)))

/-- A snoop injected at stop `h` at clk `t` would need a hop of the snoop of transaction `x` in one clk. -/
def snoopClash (h t : Nat) (x : RTx) : Bool := decide ((h + 31 * t) % 32 = (x.line.home + 31 * x.at_) % 32) && decide (t < x.at_ + 32) && decide (x.at_ < t + 32)

/-- The first clk from `t` on in which stop `h` can inject a snoop. -/
def snoopClk (h : Nat) (l : List RTx) (fuel t : Nat) : Nat :=
  match fuel with
  | 0 => t
  | k + 1 => if l.any (snoopClash h t) then snoopClk h l k (t + 1) else t

/-- A transaction starts: its snoop is injected from clk `t` on. -/
def State.startTx (s : State) (t : Nat) (x : RTx) : State :=
  let s1 := (s.bump Reg.RNG.SNOOPS.SNOOPS).ev 0x50 none none 1
  s1.onRing (fun r => { r with txs := r.txs ++ [{ x with id := r.next, at_ := snoopClk x.line.home r.txs (32 + r.txs.length) t }], next := r.next + 1 })

/-- The snoop of a host write (R344): it runs as soon as the write has reached the home, and waits on no line. The spec gives the crossbar no clk: it leaves in the clk after acceptance (log entry 111). -/
def State.snoopWrite (s : State) (l : RLine) : State :=
  let m := snoopOf .hostWrite 32 0 true l
  s.startTx (s.now + 1) { id := 0, op := .hostWrite, stop := 32, line := l, snoop := m.1, mask := m.2, at_ := 0 }

/-- A host write marks every fill of its line that is under way stale (R348): of reads in flight, and of messages on the ring. -/
def State.staleFills (s : State) (l : RLine) : State :=
  let mine (r : Rd) : Bool := decide (r.keyid = l.keyid) && (match r.who with | .stream _ _ => decide (r.dpa / 4096 = l.addr / 4096) | _ => decide (r.dpa / 64 = l.addr / 64))
  { s with
    reads := { s.reads with list := s.reads.list.map (fun r => if mine r then { r with noFill := l.addr / 64 :: r.noFill } else r) },
    ring := { s.ring with msgs := s.ring.msgs.map (fun m => match m.ty with | .fill _ _ | .stash _ _ _ => if m.line = l then { m with stale := true } else m | _ => m) } }

/-- A fill of a line of host space, decided at clk `t`, as the crypto engine's STASH_FILL from stop 31 to the home (R301, R353). -/
def State.sendFill (s : State) (t target a keyid : Nat) (d : Line) : State :=
  let l := hostLine a keyid
  s.sendAt (t + 1) (.fill target d) 31 l.home l

end Sys2Proof.Machine
end

