-- ==== Sys2Proof/Machine/Cache.lean ====
section
/-! DEFINITION. The caches (chapter 06): geometry, lookup, replacement, array errors, invalidation, way power, maintenance. Cache codes are those of R328: 0 L2, 1 to 4 L1P, 5 to 12 core L1, 13 and 14 stream caches. -/

namespace Sys2Proof.Machine

/-- `s` with the cache state changed by `f`. -/
def State.onCaches (s : State) (f : Caches → Caches) : State := { s with caches := f s.caches }

/-! ### Geometry (R299, R300) -/

/-- Ways and sets of a cache. -/
def cacheWays (c : Nat) : Nat := if c = 0 then 16 else if c ≤ 4 then 8 else if c ≤ 12 then 2 else 8
def cacheSets (c : Nat) : Nat := if c = 0 then 4096 else if c ≤ 4 then 512 else if c ≤ 12 then 256 else 1024

/-- The L1P that a DPA enters. -/
def l1pOf (a : Nat) : Nat := 1 + bitsOf a 7 6
/-- Set and tag of a byte address in cache `c`. -/
def cacheSet (c a : Nat) : Nat := if c = 0 then bitsOf a 21 10 else if c ≤ 4 then bitsOf a 16 8 else if c ≤ 12 then bitsOf a 13 6 else bitsOf a 15 6
def cacheTag (c a : Nat) : Nat := if c = 0 then bitsOf a 41 22 else if c ≤ 4 then bitsOf a 41 17 else if c ≤ 12 then bitsOf a 41 14 else bitsOf a 41 16
/-- Key of a set. -/
def setKey (c slice set : Nat) : Nat := (c * 16 + slice) * 4096 + set
/-- Key of the set in which cache `c` holds address `a`. -/
def keyOf (c a : Nat) : Nat := setKey c (if c = 0 then l2Slice a else 0) (cacheSet c a)
/-- The byte address of the line with tag `t` in the set of key `k`. -/
def lineAddr (k t : Nat) : Nat :=
  let c := k / 65536
  let slice := k / 4096 % 16
  let set := k % 4096
  if c = 0 then
    let a := t * 2 ^ 22 + set * 2 ^ 10
    a + (slice ^^^ bitsOf a 13 10 ^^^ bitsOf a 17 14) * 64
  else if c ≤ 4 then t * 2 ^ 17 + set * 256 + (c - 1) * 64
  else if c ≤ 12 then t * 2 ^ 14 + set * 64
  else t * 2 ^ 16 + set * 64

/-! ### Sets and lines -/

/-- The set of a key. -/
def State.cset (s : State) (k : Nat) : CSet := SMap.get (fun _ => {}) s.caches.sets k
/-- The set of a key replaced. -/
def State.setCset (s : State) (k : Nat) (x : CSet) : State := s.onCaches (fun c => { c with sets := SMap.set (fun _ => {}) c.sets k x })
/-- The way of a set that holds a line of this space, KeyID and tag (R299). -/
def CSet.find (x : CSet) (internal : Bool) (keyid tag : Nat) : Option (Nat × CLine) :=
  x.ways.findSome? (fun e => match e.2 with
    | some l => if l.internal = internal && l.keyid = keyid && l.tag = tag then some (e.1, l) else none
    | none => none)
/-- A way holding a line, or nothing. -/
def CSet.put (x : CSet) (w : Nat) (l : Option CLine) : CSet := { x with ways := SMap.set (fun _ => none) x.ways w l }

/-- Bookkeeping of a small cache. -/
def State.small (s : State) (c : Nat) : Small := SMap.get (fun _ => {}) s.caches.small c
/-- Bookkeeping of a small cache replaced. -/
def State.setSmall (s : State) (c : Nat) (x : Small) : State := s.onCaches (fun k => { k with small := SMap.set (fun _ => {}) k.small c x })

/-- Way `w` of the set of key `k` takes fills: not disabled, powered, its location not disabled, its agent not dead (R306, R357). -/
def State.usable (s : State) (k w : Nat) : Bool :=
  let c := k / 65536
  if c = 0 then
    s.caches.wayOn.getLsbD w && !s.caches.goingDown.getLsbD w &&
      !((SMap.get (fun _ => []) s.caches.locs (k / 4096 % 16)).contains (k % 4096, w))
  else !bitOf (s.small c).disabled w && !s.agentDead c

/-- The line that cache `c` holds for an address. -/
def State.cached (s : State) (c a : Nat) (internal : Bool) (keyid : Nat) : Option (Nat × CLine) :=
  (s.cset (keyOf c a)).find internal keyid (cacheTag c a)

/-- A lookup in a small cache counts as an access (R315). -/
def State.touch (s : State) (c : Nat) : State := if c = 0 then s else s.setSmall c { s.small c with accesses := (s.small c).accesses + 1 }

/-! ### Replacement (R306) -/

/-- The first usable way from the pointer on. -/
def State.victim (s : State) (k ptr : Nat) (n fuel : Nat) : Option Nat :=
  match fuel with
  | 0 => none
  | f + 1 => if s.usable k (ptr % n) then some (ptr % n) else s.victim k (ptr + 1) n f

/-- Where the pointer stands after a fill of way `w`: at the next way that takes fills. -/
def State.nextPtr (s : State) (k w n : Nat) : Nat := (s.victim k (w + 1) n n).getD ((w + 1) % n)

/-! ### Internal space -/

/-- A line of internal space as memory holds it from now on. -/
def State.memPut (s : State) (a : Nat) (d : Line) (poison : Bool) : State :=
  s.onCaches (fun c => { c with mem := SMap.set (fun _ => (0, false)) c.mem (a / 64) (d, poison) })

/-! ### Array errors that stand in a location -/

/-- The set of an array error. -/
def ArrErr.key (e : ArrErr) : Nat := setKey e.cache e.slice e.set

/-- The errors of way `w` of the set of key `k`. -/
def State.errsAt (s : State) (k w : Nat) : List ArrErr := s.caches.errs.filter (fun e => decide (e.key = k) && decide (e.way = w))

/-- The tag errors of the set of key `k`. -/
def State.tagErrs (s : State) (k : Nat) : List ArrErr := s.caches.errs.filter (fun e => decide (e.key = k) && decide (e.kind = .tag))

/-- The errors of a location are gone: met, or overwritten by a fill. -/
def State.clearErrs (s : State) (k w : Nat) : State := s.onCaches (fun c => { c with errs := c.errs.filter (fun e => !(decide (e.key = k) && decide (e.way = w))) })

/-- One error is gone. -/
def State.clearErr (s : State) (e : ArrErr) : State := s.onCaches (fun c => { c with errs := c.errs.erase e })

/-- Errors appear in the arrays. -/
def State.addErrs (s : State) (l : List ArrErr) : State := s.onCaches (fun c => { c with errs := c.errs ++ l })

/-! ### Errors of the L2 (R317 to R319) -/

/-- LAST_ERR (R335). -/
def State.l2Last (s : State) (k w kind : Nat) (dirty lasting : Bool) : State :=
  (((((s.setFld Reg.L2C.LAST_ERR.SLICE (k / 4096 % 16)).setFld Reg.L2C.LAST_ERR.SET (k % 4096)).setFld Reg.L2C.LAST_ERR.WAY w).setFld Reg.L2C.LAST_ERR.KIND kind).setFlag
    Reg.L2C.LAST_ERR.DIRTY dirty).setFlag Reg.L2C.LAST_ERR.LASTING lasting

/-- A lasting location fault (R319). -/
def State.locFault (s : State) (k w : Nat) : State :=
  let sl := k / 4096 % 16
  let t := SMap.get (fun _ => []) s.caches.locs sl
  if t.contains (k % 4096, w) then s
  else if t.length < 16 then
    let s1 := s.onCaches (fun c => { c with locs := SMap.set (fun _ => []) c.locs sl (t ++ [(k % 4096, w)]) })
    let s2 := s1.setFld Reg.L2C.LOC_DISABLED.TOTAL (s1.fld Reg.L2C.LOC_DISABLED.TOTAL + 1)
    let s3 := if t.length + 1 = 16 then s2.setFld Reg.L2C.LOC_DISABLED.FULL (s2.fld Reg.L2C.LOC_DISABLED.FULL ||| 2 ^ sl) else s2
    s3.raiseRec Reg.L2C.INT_STATUS.LOC_DISABLED sevWarn clsDevice 0 0 0 0
  else s.raiseRec Reg.L2C.INT_STATUS.LOC_FULL sevError clsDevice 0 0 0 0

/-- A way of the set of key `k` holds nothing from now on. -/
def State.dropWay (s : State) (k w : Nat) : State := s.setCset k ((s.cset k).put w none)

/-- An uncorrectable word in way `w` holding `l` (R317): a clean line goes; the second read of a DIRTY one decides, and a lasting fault sends it to memory poisoned. -/
def State.l2Uncorr (s : State) (k w : Nat) (l : CLine) (again bad : Bool) : State :=
  let s1 := (s.bump Reg.L2C.ECC_UNCORR.UNCORR).l2Last k w 1 l.dirty (if l.dirty then again else bad)
  if l.dirty then
    if again then
      ((s1.memPut (lineAddr k l.tag) l.data true).raiseRec Reg.L2C.INT_STATUS.UNCORR sevError clsDevice 0 0 0 0).dropWay k w
    else s1.raise Reg.L2C.INT_STATUS.UNCORR
  else
    let s2 := (s1.dropWay k w).raiseRec Reg.L2C.INT_STATUS.UNCORR sevNotice clsDevice 0 0 0 0
    if bad then s2.locFault k w else s2

/-- A tag parity error in way `w` holding `l` (R318): a clean entry goes; an entry whose DIRTY bit reads 1 is read again, and a second failure is FATAL. -/
def State.l2Tag (s : State) (k w : Nat) (l : CLine) (again bad : Bool) : State :=
  let s1 := (s.bump Reg.L2C.TAG_PAR.TAG_PAR).l2Last k w 2 l.dirty (if l.dirty then again else bad)
  if l.dirty then
    if again then s1.raiseRec Reg.L2C.INT_STATUS.TAG_PARITY sevFatal clsDevice 0 0 0 0
    else s1.raise Reg.L2C.INT_STATUS.TAG_PARITY
  else
    let s2 := (s1.dropWay k w).raiseRec Reg.L2C.INT_STATUS.TAG_PARITY sevNotice clsDevice 0 0 0 0
    if bad then s2.locFault k w else s2

/-- An error of the L2 is met: nothing where the way holds no line. -/
def State.l2Meet (s : State) (e : ArrErr) : State :=
  let s1 := s.clearErr e
  match SMap.get (fun _ => none) (s.cset e.key).ways e.way with
  | none => s1
  | some l => match e.kind with
    | .tag => s1.l2Tag e.key e.way l e.again e.bad
    | .data => s1.l2Uncorr e.key e.way l e.again e.bad
    | .corrected => (s1.bump Reg.L2C.ECC_CORR.CORR).l2Last e.key e.way 0 l.dirty false

/-! ### Fills of the L2 (R306, R347) -/

/-- The line of way `w` leaves the L2 for another: a DIRTY one goes to memory, as far as its errors allow. -/
def State.l2Evict (s : State) (k w : Nat) : State :=
  match SMap.get (fun _ => none) (s.cset k).ways w with
  | some l =>
    if l.dirty then
      let s1 := s.each (s.errsAt k w) State.l2Meet
      (match SMap.get (fun _ => none) (s1.cset k).ways w with
       | some x => s1.memPut (lineAddr k x.tag) x.data x.poison
       | none => s1)
    else s
  | none => s

/-- A line is filled into way `w`: its errors are gone, and the pointer moves on. -/
def State.putWay (s : State) (k w n : Nat) (l : CLine) : State :=
  let s1 := s.clearErrs k w
  s1.setCset k { (s1.cset k).put w (some l) with ptr := s1.nextPtr k w n }

/-- A line is filled into the L2, or a host line into a small cache: in place where present, else at the pointer. -/
def State.fill (s : State) (c a : Nat) (l : CLine) : State :=
  let k := keyOf c a
  let x := s.cset k
  match x.find l.internal l.keyid l.tag with
  | some (w, _) => (s.clearErrs k w).setCset k (x.put w (some l))
  | none =>
    let n := cacheWays c
    match s.victim k x.ptr n n with
    | none => s
    | some w => (if c = 0 then s.l2Evict k w else s).putWay k w n l

/-- A host line is filled into cache `c`. -/
def State.fillHost (s : State) (c a keyid : Nat) (d : Line) : State :=
  s.fill c a { internal := false, keyid, tag := cacheTag c a, data := d }

/-- The DIRTY line `l` of the set of key `k` is written back to its home (R306, R308): a core L1's to the L2, the L2's to memory. -/
def State.writeBack (s : State) (k : Nat) (l : CLine) : State :=
  let a := lineAddr k l.tag
  if k / 65536 = 0 then s.memPut a l.data l.poison
  else s.fill 0 a { internal := true, keyid := 0, tag := cacheTag 0 a, data := l.data, dirty := true, poison := l.poison }

/-! ### Errors of the small caches (R314 to R316) -/

/-- The register field that shows a small cache's disabled ways, shifted by the second component (R321, R337). -/
def disabledFld (c : Nat) : Fld × Nat :=
  if c ≤ 4 then (Reg.L1P.WAYS.DISABLED (c - 1), 0)
  else if c ≤ 12 then (Reg.L2C.SMALL_WAYS.CORE, 2 * (c - 5))
  else if c = 13 then (Reg.L2C.SMALL_WAYS.STREAM0, 0) else (Reg.L2C.SMALL_WAYS.STREAM1, 0)

/-- A parity error in way `w`, which holds `x`, is counted and recorded (R314): the line goes; a DIRTY one goes home poisoned, with an ERROR record naming core and set. -/
def State.smallLoss (s : State) (k w : Nat) (x : CLine) (inTag : Bool) : State :=
  let c := k / 65536
  let s1 := if c ≤ 4 then
      ((((s.bump (Reg.L1P.PARITY.PARITY (c - 1))).setFld Reg.L1P.LAST_ERR.PORT (c - 1)).setFlag Reg.L1P.LAST_ERR.IN_TAG inTag).setFld Reg.L1P.LAST_ERR.SET (k % 4096)).setFld
        Reg.L1P.LAST_ERR.WAY w
    else s.bump (if c ≤ 12 then Reg.L2C.SMALL_PARITY.CORE else Reg.L2C.SMALL_PARITY.STREAM)
  let f := if c ≤ 4 then Reg.L1P.INT_STATUS.PARITY_ERR else Reg.L2C.INT_STATUS.SMALL_PARITY
  let s2 := s1.raiseRec f sevNotice clsDevice (if c ≤ 4 then c - 1 else 0) (k % 4096) 0 0
  let s3 := if x.dirty then
      (s2.writeBack k { x with poison := true }).raiseRec f sevError clsDevice (c - 5) (k % 4096) 0 0
    else s2
  s3.dropWay k w

/-- The error window of way `w` (R315), and whether this error is its fourth. -/
def State.wayCount (s : State) (c w : Nat) : State × Bool :=
  let x := s.small c
  let n := SMap.get (fun _ => 0) x.errs w
  let fresh := n = 0 || decide (2 ^ 20 ≤ x.accesses - SMap.get (fun _ => 0) x.anchor w)
  let n1 := if fresh then 1 else n + 1
  (s.setSmall c { x with
    errs := SMap.set (fun _ => 0) x.errs w n1, anchor := if fresh then SMap.set (fun _ => 0) x.anchor w x.accesses else x.anchor }, decide (n1 = 4))

/-- Way `w` of the set of key `k` is cleaned and invalidated: a DIRTY line goes home, poisoned where it meets an error (R314, R315). -/
def State.flushWay (s : State) (w k : Nat) : State :=
  match SMap.get (fun _ => none) (s.cset k).ways w with
  | some l =>
    if k / 65536 = 0 then (s.l2Evict k w).dropWay k w
    else if !l.dirty then s.dropWay k w
    else match s.errsAt k w with
      | e :: _ => ((s.clearErrs k w).smallLoss k w l (decide (e.kind = .tag))).wayCount (k / 65536) w |>.1
      | [] => (s.writeBack k l).dropWay k w
  | none => s

/-- Every line of way `w` of cache `c` goes; DIRTY lines are written back first. -/
def State.cleanWay (s : State) (c w : Nat) : State := s.each ((s.caches.sets.filter (fun e => e.1 / 65536 = c)).map (fun e => e.1)) (fun s k => s.flushWay w k)

/-- WAY_DISABLE (R315, R316): way `w` leaves allocation and is cleaned and invalidated. -/
def State.disableWay (s : State) (c w : Nat) : State :=
  let x := s.small c
  let f := disabledFld c
  let s1 := (s.setSmall c { x with disabled := x.disabled ||| 2 ^ w }).setFld f.1 (s.fld f.1 ||| 2 ^ (w + f.2))
  let s2 := (s1.cleanWay c w).raiseRec (if c ≤ 4 then Reg.L1P.INT_STATUS.WAY_DISABLED else Reg.L2C.INT_STATUS.SMALL_WAY_DISABLED) sevWarn clsDevice
    (if c ≤ 4 then c - 1 else 0) (if c ≤ 4 then w else c) (if c ≤ 4 then 0 else w) 0
  if popCount (cacheWays c) (s2.small c).disabled = cacheWays c then
    (if c ≤ 4 then s2.reportCode sevError 0x1040 (c - 1) (c - 1) 0 0 else s2.reportCode sevError 0x1140 0 c 0 0)
  else s2

/-- An error of a small cache is met: nothing where the way holds no line. -/
def State.smallMeet (s : State) (e : ArrErr) : State :=
  let s1 := s.clearErr e
  match SMap.get (fun _ => none) (s.cset e.key).ways e.way with
  | none => s1
  | some l =>
    let r := (s1.smallLoss e.key e.way l (decide (e.kind = .tag))).wayCount e.cache e.way
    if r.2 then r.1.disableWay e.cache e.way else r.1

/-- An array error is met. -/
def State.meet (s : State) (e : ArrErr) : State := if e.cache = 0 then s.l2Meet e else s.smallMeet e

/-! ### Lookups (R314, R315, R317, R318) -/

/-- What a lookup of a line in cache `c` meets: the tag errors of its whole set, then the errors of the way that it hits. -/
def State.lookIn (s : State) (c a : Nat) (internal : Bool) (keyid : Nat) : State :=
  let k := keyOf c a
  let s1 := s.each (s.tagErrs k) State.meet
  match s1.cached c a internal keyid with
  | some (w, _) => s1.each ((s1.errsAt k w).filter (fun e => decide (e.kind ≠ .tag))) State.meet
  | none => s1

/-- A lookup in a small cache, which counts as an access. -/
def State.lookSmall (s : State) (c a : Nat) (internal : Bool) (keyid : Nat) : State := (s.touch c).lookIn c a internal keyid

/-! ### Writes (R302, R344, R348) -/

/-- Bytes of a line present in cache `c` are updated by mask (R302). -/
def State.updateLine (s : State) (c a keyid : Nat) (d : Line) (m : Mask) : State :=
  let k := keyOf c a
  match (s.cset k).find false keyid (cacheTag c a) with
  | some (w, l) => s.setCset k ((s.cset k).put w (some { l with data := mergeLine l.data d m }))
  | none => s

/-- An accepted host write acts on the caches (R302): its L1P, the home, and by the home's snoop the stream caches. Fills of its line that are under way become stale. -/
def State.writeCaches (s : State) (a keyid : Nat) (d : Line) (m : Mask) : State :=
  let p := l1pOf a
  let s1 := (s.lookSmall p a false keyid).updateLine p a keyid d m
  let s2 := (s1.lookIn 0 a false keyid).updateLine 0 a keyid d m
  (s2.staleFills (hostLine a keyid)).snoopWrite (hostLine a keyid)

/-- Fills of host lines whose address satisfies `p` that are on the ring, or that a stream stop waits for, install nothing (R304). -/
def State.dropFills (s : State) (p : Nat → Bool) : State :=
  s.onRing (fun r => { r with
    msgs := r.msgs.map (fun m => match m.ty with | .fill _ _ | .stash _ _ _ => if !m.line.internal && p m.line.addr then { m with stale := true } else m | _ => m),
    reqs := r.reqs.map (fun q => if !q.line.internal && p q.line.addr then { q with noFill := true } else q) })

/-- The walks of R304: every host line of the L1Ps, the stream caches and the L2 whose address satisfies `p` is invalidated, and none that is on its way is filled. -/
def State.dropHost (s : State) (p : Nat → Bool) : State :=
  (s.dropFills p).onCaches (fun c => { c with sets := c.sets.filterMap (fun e =>
    let code := e.1 / 65536
    if 5 ≤ code && code ≤ 12 then some e
    else
      let ways := e.2.ways.filter (fun w => match w.2 with
        | some l => l.internal || !p (lineAddr e.1 l.tag)
        | none => false)
      if ways.isEmpty && e.2.ptr = 0 then none else some (e.1, { e.2 with ways })) })

/-! ### Hardware invalidation (R307) -/

/-- The caches whose code satisfies `p` are cleared: lines, pointers, parity windows, disabled ways, and with the L2 its disabled locations. -/
def State.hwInval (s : State) (p : Nat → Bool) : State :=
  let s1 := s.onCaches (fun c => { c with
    sets := c.sets.filter (fun e => !p (e.1 / 65536)), small := c.small.filter (fun e => !p e.1), locs := if p 0 then [] else c.locs,
    errs := c.errs.filter (fun e => !p e.cache) })
  let s2 := s1.each (List.range 4) (fun s i => if p (1 + i) then s.setFld (Reg.L1P.WAYS.DISABLED i) 0 else s)
  if p 0 then
    (((s2.setFld Reg.L2C.LOC_DISABLED.TOTAL 0).setFld Reg.L2C.LOC_DISABLED.FULL 0).setFld Reg.L2C.SMALL_WAYS.CORE 0).setFld Reg.L2C.SMALL_WAYS.STREAM0 0
      |>.setFld Reg.L2C.SMALL_WAYS.STREAM1 0
  else s2

/-! ### Way power-down (R312, R313) -/

/-- A way is in transition. -/
def State.wayMoving (s : State) : Bool := decide (s.caches.goingDown ≠ 0) || decide (s.caches.goingUp ≠ 0)

/-- WAY_PD_APPLY: ways newly set leave allocation and are cleaned; ways newly clear are switched on. -/
def State.wayPdApply (s : State) : State :=
  let m := BitVec.ofNat 16 (s.appFld Reg.L2C.WAY_PD.PD_MASK)
  s.onCaches (fun c => { c with goingDown := m &&& c.wayOn, goingUp := ~~~m &&& ~~~c.wayOn })

/-- WAY_TRANSITION_END: the way's ON bit changes; after the last one WAY_PD_DONE. -/
def execWayTransitionEnd (way : Nat) (s : State) : Res :=
  let bit : BitVec 16 := 1#16 <<< way
  .next (
    let done (s : State) : State := if s.wayMoving then s else s.raise Reg.L2C.INT_STATUS.WAY_PD_DONE
    if s.caches.goingDown.getLsbD way then
      done ((s.cleanWay 0 way).onCaches (fun c => { c with goingDown := c.goingDown &&& ~~~bit, wayOn := c.wayOn &&& ~~~bit }))
    else if s.caches.goingUp.getLsbD way then
      done (s.onCaches (fun c => { c with goingUp := c.goingUp &&& ~~~bit, wayOn := c.wayOn ||| bit }))
    else s)

/-! ### Maintenance (R308 to R310) -/

/-- The operation of `op` on way `w` of the set of key `k`: 1 clean, 2 invalidate, 3 both. A clean that meets an error of a DIRTY line acts as R314 and R317 give; a powered-down way holds nothing (R312). -/
def State.maintEntry (s : State) (op k w : Nat) : State :=
  match SMap.get (fun _ => none) (s.cset k).ways w with
  | none => s
  | some l =>
    if op = 2 then s.dropWay k w
    else
      let s1 := if l.dirty then s.each (s.errsAt k w) State.meet else s
      match SMap.get (fun _ => none) (s1.cset k).ways w with
      | none => s1
      | some x =>
        let s2 := if x.dirty then s1.writeBack k x else s1
        if op = 1 then s2.setCset k ((s2.cset k).put w (some { x with dirty := false })) else s2.dropWay k w

/-- The operation on the line at `a` in cache `c`, if it is there. -/
def State.maintLine (s : State) (op c a : Nat) (internal : Bool) (keyid : Nat) : State :=
  match (s.cset (keyOf c a)).find internal keyid (cacheTag c a) with
  | some (w, _) => s.maintEntry op (keyOf c a) w
  | none => s

/-- The named address of a maintenance operation (R325, R326). -/
def State.maintAddr (s : State) : Nat := s.fld Reg.L2C.MAINT_ADDR_LO.ADDR_LO * 64 + s.fld Reg.L2C.MAINT_ADDR_HI.ADDR_HI * 2 ^ 32

/-- Clk per line, entry or set that a maintenance operation examines (R309): one while the page is in state IDLE, that is in BOOT and MOUNT, four otherwise. -/
def State.maintStep (s : State) : Nat := if s.dev.st = .boot || s.dev.st = .mount then 1 else 4

/-- MAINT_CTRL (R308, R310, R328): the operation starts, or the write is ignored with CFG_ERR. -/
def State.maintStart (s : State) (src : Source) (w : Nat) : State :=
  let op := bitsOf w 31 30
  let mode := bitsOf w 29 28
  let c := bitsOf w 27 24
  let way := s.fld Reg.L2C.MAINT_SETWAY.WAY
  let set := s.fld Reg.L2C.MAINT_SETWAY.SET
  if s.caches.maint.isSome then s.cfgErr 0x11 6 src.code 0x4C w
  else if op = 0 || mode = 3 || c = 15 || (mode = 1 && (decide (cacheWays c ≤ way) || decide (cacheSets c ≤ set))) ||
      (mode = 0 && s.flag Reg.L2C.MAINT_ADDR_HI.SPACE && decide (s.fld Reg.L2C.MAINT_ADDR_HI.KEYID ≠ 0)) then s.cfgErr 0x11 2 src.code 0x4C w
  else
    let lines := if mode = 0 then bitsOf w 15 0 + 1 else if mode = 1 then 1 else cacheSets c * cacheWays c * (if c = 0 then 16 else 1)
    let steps := if mode = 2 then cacheSets c else lines
    let m : Maint := {
      op, mode, cache := c, lines, addr := s.maintAddr / 64 * 64, internal := s.flag Reg.L2C.MAINT_ADDR_HI.SPACE, keyid := s.fld Reg.L2C.MAINT_ADDR_HI.KEYID,
      slice := if c = 0 then s.fld Reg.L2C.MAINT_SETWAY.SLICE else 0, set, way,
      doneAt := s.now + s.maintStep * steps + (if mode = 2 then (if c = 0 then 8 else 4) else 0), behind := if c = 0 then s.reads.list.map (fun r => r.id) else [] }
    (s.onCaches (fun x => { x with maint := some m })).setFld Reg.L2C.MAINT_STATUS.LINES_DONE 0

/-- The line at `a` in the space and under the KeyID that an operation in ADDRESS mode names. -/
def Maint.line (m : Maint) (i : Nat) : RLine := { internal := m.internal, keyid := m.keyid, addr := m.addr + 64 * i }

/-- The effect of the operation in progress on its cache. The snoops of an L2 operation in ADDRESS mode are transactions of the ring (R308, R344). -/
def State.maintRun (s : State) (m : Maint) : State :=
  match m.mode with
  | 0 => s.each (List.range m.lines) (fun s i => s.maintLine m.op m.cache (m.line i).addr m.internal m.keyid)
  | 1 => s.maintEntry m.op (setKey m.cache m.slice m.set) m.way
  | _ => s.each (s.caches.sets.filter (fun e => e.1 / 65536 = m.cache)) (fun s e => s.each (List.range (cacheWays m.cache)) (fun s w => s.maintEntry m.op e.1 w))

end Sys2Proof.Machine
end

