-- ==== Sys2Proof/Machine/Respond.lean ====
section
/-! DEFINITION. Responses to the host (R420, R421, R428, R431) and the end of a risk to acknowledged writes (R433). -/

namespace Sys2Proof.Machine

/-- DevLoad (R428). -/
def State.devLoad (s : State) : Nat :=
  if s.flag Reg.BWT.LAT_STATUS.WB_HOLDING then 3
  else if 1 ≤ s.levelNow || bitOf (s.fld Reg.BWT.LAT_STATUS.RD_THROTTLED) 0 then 2 else 0

/-- A response uses a DRS credit; the others use an NDR credit. -/
def Output.isDrs (o : Output) : Bool := match o with | .memData _ _ _ _ _ => true | _ => false

/-- `s` with the link state changed by `f`. -/
def State.onLink (s : State) (f : Link → Link) : State := { s with link := f s.link }

/-- The clk of hand-off of a response. -/
def Output.clk (o : Output) : Nat := match o with | .memData _ _ _ _ c => c | .cmp _ _ c => c | _ => 0
/-- A response that has waited leaves in clk `t`, 72 clk before it is out (R421, R431). -/
def Output.late (o : Output) (t : Nat) : Output :=
  match o with
  | .memData tag p d l c => .memData tag p d l (max c t)
  | .cmp tag l c => .cmp tag l (max c t)
  | o => o

/-- The credits of a response's class. -/
def State.creditsFor (s : State) (o : Output) : Nat := if o.isDrs then s.link.drs else s.link.ndr

/-- A response leaves and takes its credit. -/
def State.leave (s : State) (o : Output) : State :=
  (s.onLink (fun l => if o.isDrs then { l with drs := l.drs - 1 } else { l with ndr := l.ndr - 1 })).emit o

/-- The device sends responses: the link is up and no Vent is in progress (R436, R437). -/
def State.answering (s : State) : Bool := s.link.up && decide (s.dev.st ≠ .vent)

/-- A response is handed off: it leaves at once, or waits for the end of Recovery or a credit, behind earlier ones of its class (R421, R431). -/
def State.respond (s : State) (o : Output) : State :=
  if !s.answering then s
  else if s.link.recovery || s.link.held.any (fun h => h.isDrs == o.isDrs) then s.onLink (fun l => { l with held := l.held ++ [o] })
  else if s.creditsFor o = 0 then (s.onLink (fun l => { l with held := l.held ++ [o], starved := some (l.starved.getD (max s.now o.clk)) })).raise Reg.HLK.INT_STATUS.S2M_STARVED
  else s.leave o

/-- A Cmp handed off at clk `c`. Tags from 2^16 on are the model's own (lines written by an engine or a copy, requests of an earlier link): they have no Cmp. -/
def State.sendCmp (s : State) (tag c : Nat) : State := if 2 ^ 16 ≤ tag then s else s.respond (.cmp tag s.devLoad c)

/-- AT_RISK ends once nothing is awaited any more (R433); a waiting phase 2 then completes (R434). -/
def State.riskEnd (s : State) : State :=
  let s1 := ((s.setFlag Reg.HDM.STATUS.AT_RISK false).raise Reg.HDM.INT_STATUS.RISK_CLEARED).onLink (fun l => { l with riskSegs := [], riskBlocks := [] })
  if s1.link.gpf2 then (s1.onLink (fun l => { l with gpf2 := false })).emit (.gpfDone 2) else s1

/-- The end of AT_RISK, if nothing is awaited. -/
def State.riskCheck (s : State) : State :=
  if s.flag Reg.HDM.STATUS.AT_RISK && s.link.riskSegs.isEmpty && s.link.riskBlocks.isEmpty then s.riskEnd else s

end Sys2Proof.Machine
end

