-- ==== Sys2Proof/Machine/SysArea.lean ====
section
/-! DEFINITION. The system area (R170, R176, R180, R198 to R200): the bytes of journal blocks and map pages, where a row batch goes, its place in a rotation, and what its programming brings about; the programming of a die (R97, R180, R185, R189). -/

namespace Sys2Proof.Machine

/-! ### Bytes (R167, R198, R200) -/

/-- A journal record's 16 bytes (R198). -/
def JRec.bytes (r : JRec) : List Nat := [r.ty % 256, r.slot % 256, 0, 0] ++ bytesLe 4 r.a ++ bytesLe 4 r.b ++ [0, 0, 0, 0]

/-- Bytes 0 to 11 of a block, and 16 to 4,095. -/
def JBlock.head (b : JBlock) : List Nat := bytesLe 8 b.seq ++ bytesLe 2 b.recs.length ++ [0, 0]
def JBlock.body (b : JBlock) : List Nat := let l := b.recs.flatMap JRec.bytes; l ++ List.replicate (4080 - l.length) 0

/-- A journal block's 4,096 bytes with its CRC-32C (R198). -/
def JBlock.bytes (b : JBlock) : List Nat := b.head ++ bytesLe 4 (crc32c (b.head ++ b.body)) ++ b.body

/-- The stored sector of 256 bytes of system content: VALID and SLC set (R134), no tag, version or generation. -/
def sysSec (d : SectorData) : SecImg := { data := d, md := mdMake 0 0 0 true false true false }

/-- 64 four-byte words as 256 bytes, little-endian. -/
def wordsSec (f : Nat → Nat) : SectorData := BitVec.ofNat 2048 ((List.range 64).foldr (fun i acc => acc * 2 ^ 32 + f i % 2 ^ 32) 0)

/-- 256 bytes as stored data. -/
def bytesSec (l : List Nat) : SectorData := BitVec.ofNat 2048 (ofBytesLe l)

/-- The block of the tail with sequence number `n`. -/
def State.tailBlock (s : State) (n : Nat) : Option JBlock := s.xlt.tail.find? (fun b => b.seq = n)

/-- The 16 sectors of segment `i` of a system-area row batch. A map page holds 16,384 entries of 4 bytes, the directory the PSA of each page's copy in 4 bytes; the layout of the other tables is free. -/
def State.sysSeg (s : State) (k : SysKind) (i : Nat) : List SecImg :=
  match k with
  | .journal _ seqs =>
    (match seqs[i]? with
     | some n => (match s.tailBlock n with
        | some b => (List.range 16).map (fun q => sysSec (bytesSec ((b.bytes.drop (256 * q)).take 256)))
        | none => [])
     | none => [])
  | .mapPage n e => (List.range 16).map (fun q => sysSec (wordsSec (fun w => (SMap.get (fun _ => ({} : MapE)) e (16384 * n + 1024 * i + 64 * q + w)).word)))
  | .directory n =>
    let dir := match s.xlt.tables with | some t => t.dir | none => s.xlt.mapDir
    (List.range 16).map (fun q => sysSec (wordsSec (fun w => (SMap.get (fun _ => none) dir (16384 * n + 1024 * i + 64 * q + w)).getD 0)))
  | .bandTable n => (List.range 16).map (fun q => sysSec (Config.tableSec 1 n (16 * i + q) s.xlt.cycles))
  | .driftTable n => (List.range 16).map (fun q => sysSec (Config.tableSec 2 n (16 * i + q) s.xlt.cycles))

/-- How many segments a row batch fills. -/
def SysKind.segs (k : SysKind) : Nat := match k with | .journal _ seqs => seqs.length | _ => 16

/-- Band row, tile and PSAs of a system-area row batch (R89, R90). -/
def SysRow.bandRow (r : SysRow) : Nat := 85 * (r.paddock % 3) + r.row
def SysRow.tile (r : SysRow) : Nat := rowTile r.bandRow
def SysRow.psa (r : SysRow) (g i : Nat) : Nat := psaOf g r.paddock (16 * r.row + i)

/-! ### Where a row batch goes (R176) -/

/-- Bands of a gang's system area that firmware slots take: 13 paddocks a slot, two slots in gang 0 on the -17A (R176, R723). Log entry 108. -/
def firmwareBands (v : Variant) : Nat := match v with | .v35A => 5 | .v17A => 9

/-- Row batches of a SYSTEM band (R91). -/
def bandRows (b : Nat) : Nat := 85 * bandPaddocks b

/-- The gang still has a system-area row batch under way in band `b`. -/
def State.sysBusy (s : State) (g b : Nat) : Bool :=
  let x := s.gang g
  (x.sysq ++ x.sysRows ++ x.sysEnding).any (fun r => decide (r.paddock / 3 = b))

/-- The two Vent bands of a gang (R682), and the one that the Vent with sequence number `n` writes. Log entry 110. -/
def ventBandNo (n : Nat) : Nat := bandsPerGang - 3 + n % 2

/-- A SYSTEM band that holds no live content (R176) and is no Vent band. -/
def State.freeSysBand (s : State) (g : Nat) : Option Nat :=
  let x := s.gang g
  ((List.range (bandsPerGang - 3 - firstSystemBand - firmwareBands s.variant)).map (fun i => firstSystemBand + firmwareBands s.variant + i)).find? (fun b =>
    (s.band g b).st = .system && decide ((s.band g b).live = 0) && decide (x.sysBand ≠ some b) && decide (x.sysBand1 ≠ some b) && !s.sysBusy g b)

/-- The band in use of a writer (0, or 1 for the second copy on the -17A) and its next row; set. -/
def Gang.sysAt (x : Gang) (w : Nat) : Option Nat × Nat := if w = 0 then (x.sysBand, x.sysNext) else (x.sysBand1, x.sysNext1)
def Gang.setSysAt (x : Gang) (w : Nat) (b n : Nat) : Gang := if w = 0 then { x with sysBand := some b, sysNext := n } else { x with sysBand1 := some b, sysNext1 := n }

/-- The next row on a tile that `tiles` does not hold: in the band in use, else in another, whose paddocks take 1 wear unit each (R176). -/
def State.sysTake (s : State) (g w : Nat) (tiles : List Nat) : Option (Nat × Nat) × State :=
  let x := s.gang g
  let free (b n : Nat) : Option Nat := ((List.range (bandRows b - n)).map (fun i => n + i)).find? (fun j => !tiles.contains (rowTile j))
  let old := match (x.sysAt w).1 with | some b => (free b (x.sysAt w).2).map (fun j => (b, j)) | none => none
  match old with
  | some (b, j) => (some (3 * b + j / 85, j % 85), s.onGang g (fun y => y.setSysAt w b (j + 1)))
  | none =>
    match s.freeSysBand g with
    | some b =>
      match free b 0 with
      | some j => (some (3 * b + j / 85, j % 85), (s.setBand g b { s.band g b with wear := (s.band g b).wear + 1 }).onGang g (fun y => y.setSysAt w b (j + 1)))
      | none => (none, s)
    | none => (none, s)

/-- The writer that a kind goes through. -/
def State.sysWriter (s : State) (k : SysKind) : Nat := match k with | .journal c _ => (match s.variant with | .v17A => c | .v35A => 0) | _ => 0

/-- A row batch joins the gang's queue, and whether there was room for it. -/
def State.sysQueue (s : State) (g : Nat) (k : SysKind) : Bool × State :=
  let r := s.sysTake g (s.sysWriter k) []
  match r.1 with
  | some (p, j) => (true, r.2.onGang g (fun x => { x with sysq := x.sysq ++ [{ kind := k, paddock := p, row := j }] }))
  | none => (false, r.2)

/-- The gang that takes system content number `n`: in turn over the gangs that take program turns. -/
def State.sysGang (s : State) (n : Nat) : Option Nat := match s.writable with | [] => none | l => l[n % l.length]?

/-! ### Journal copies (R46, R176, R199) -/

/-- The journal copies that lie in gang `g`. -/
def State.copiesOf (s : State) (g : Nat) : List Nat := match s.variant with | .v35A => [g] | .v17A => [0, 1]

/-- The block is programmed in copy `c`. -/
def JBlock.doneIn (b : JBlock) (c : Nat) : Bool := if c = 0 then b.done0 else b.done1

/-- A row batch of a copy with block `n` is under way in gang `g`. -/
def State.copying (s : State) (g c n : Nat) : Bool :=
  let x := s.gang g
  (x.sysq ++ x.sysRows ++ x.sysEnding).any (fun r => match r.kind with | .journal d l => decide (d = c) && l.contains n | _ => false)

/-- The blocks of the tail that copy `c` in gang `g` still lacks and that are not on their way. -/
def State.lacking (s : State) (g c : Nat) : List Nat := (s.xlt.tail.filter (fun b => !b.doneIn c && !s.copying g c b.seq)).map (fun b => b.seq)

/-- The list in pieces of 16. -/
def chunks16 (fuel : Nat) (l : List Nat) : List (List Nat) :=
  match fuel with
  | 0 => []
  | k + 1 => if l.isEmpty then [] else l.take 16 :: chunks16 k (l.drop 16)

/-! ### In a rotation (R180) -/

/-- Under write-through the open block is closed and every block of the tail that a copy of the gang lacks goes into the rotation, on tiles that are not in use (R46, R199). -/
def State.placeJournal (s : State) (g : Nat) (tiles : List Nat) : State :=
  if s.draining then
    let s1 := s.onXlt (fun t => { t with tail := t.tail.map (fun b => { b with closed := true }) })
    ((s.copiesOf g).flatMap (fun c => (chunks16 16 (s1.lacking g c)).map (fun l => (c, l)))).foldl (fun s e =>
      let k : SysKind := .journal e.1 e.2
      let r := s.sysTake g (s.sysWriter k) (tiles ++ (s.gang g).sysRows.map SysRow.tile)
      match r.1 with
      | some (p, j) => r.2.onGang g (fun x => { x with sysRows := x.sysRows ++ [{ kind := k, paddock := p, row := j }] })
      | none => r.2) s1
  else s

/-- System-area row batches of the queue take the tiles that the rotation has left (R180). -/
def State.placeSys (s : State) (g : Nat) (tiles : List Nat) : State :=
  (s.gang g).sysq.foldl (fun s r =>
    if (tiles ++ (s.gang g).sysRows.map SysRow.tile).contains r.tile then s
    else s.onGang g (fun x => { x with sysRows := x.sysRows ++ [r], sysq := x.sysq.erase r })) s

/-- The tiles of the placed row batches. -/
def State.placedTiles (s : State) (g : Nat) : List Nat := (s.gang g).placed.map (fun p => rowTile (85 * (p.paddock % 3) + p.row))

/-- The system-area row batches of the rotation that starts. -/
def State.placeSystem (s : State) (g : Nat) : State :=
  let t := s.placedTiles g
  (s.placeJournal g t).placeSys g t

/-! ### What programming brings about (R170, R199, R200) -/

/-- The segments of a row batch at `psa` become LIVE system content, or STALE. -/
def State.sysRev (s : State) (psa : Nat) (st : RevSt) : State := s.each (List.range 16) (fun s i => s.setRev (psa + i) { st, lseg := 0x3FFFFFFF })

/-- The segment of a journal block at `psa` becomes STALE. -/
def State.blockStale (s : State) (psa : Option Nat) : State := match psa with | some p => s.setRev p { st := .stale, lseg := 0x3FFFFFFF } | none => s

/-- A block in every copy leaves the tail for the area (R199). -/
def State.blocksMove (s : State) : State :=
  s.onXlt (fun t => { t with
    area := t.area ++ (t.tail.filter (fun b => b.done0 && b.done1)).map (fun b => { b with cycle := t.cycles }),
    tail := t.tail.filter (fun b => !(b.done0 && b.done1)) })

/-- Copy `c` holds the blocks `seqs`, from `psa` on. -/
def State.blocksDone (s : State) (c : Nat) (seqs : List Nat) (psa : Nat) : State :=
  (s.onXlt (fun t => { t with tail := t.tail.map (fun b =>
    match seqs.idxOf? b.seq with
    | some i => if c = 0 then { b with done0 := true, at0 := some (psa + i) } else { b with done1 := true, at1 := some (psa + i) }
    | none => b) })).blocksMove

/-- A part of a table lies at `psa` now; the older copy is STALE. With the last part the tables of the cycle are in the system area. -/
def State.tabDone (s : State) (k psa : Nat) : State :=
  let s1 := (match SMap.get (fun _ => none) s.xlt.tabAt k with | some p => s.sysRev p .stale | none => s).onXlt (fun t => { t with tabAt := SMap.set (fun _ => none) t.tabAt k (some psa) })
  match s1.xlt.tables with
  | some t =>
    if t.left ≤ 1 then { s1.onXlt (fun x => { x with tables := none, bandCopy := t.bands, dirCopy := t.dir }) with drift := { s1.drift with saved := s1.drift.toSave, toSave := [] } }
    else s1.onXlt (fun x => { x with tables := some { t with left := t.left - 1 } })
  | none => s1

/-- A system-area row batch of gang `g` has been programmed on every die. -/
def State.sysDone (s : State) (g : Nat) (r : SysRow) : State :=
  let psa := r.psa g 0
  match r.kind with
  | .journal c seqs => (s.each (List.range seqs.length) (fun s i => s.setRev (psa + i) { st := .live, lseg := 0x3FFFFFFF })).blocksDone c seqs psa
  | .mapPage n e =>
    let s1 := (match SMap.get (fun _ => none) s.xlt.mapDir n with | some p => s.sysRev p .stale | none => s).sysRev psa .live
    let lo := n * 16384
    (s1.onXlt (fun t => { t with
      mapCopy := t.mapCopy.within 0 lo ++ e ++ t.mapCopy.filter (fun x => decide (lo + 16384 ≤ x.1)), mapDir := SMap.set (fun _ => none) t.mapDir n (some psa) })).journal (jMapPage n psa)
  | .directory n => (s.sysRev psa .live).tabDone n psa
  | .bandTable n => (s.sysRev psa .live).tabDone (1000 + n) psa
  | .driftTable n => (s.sysRev psa .live).tabDone (2000 + n) psa

/-! ### Programming a die (R97, R180, R185, R189) -/

/-- Die position `pos` of gang `g` programs its chunks of the rotation in progress (R97, R180, R185). -/
def State.programDie (s : State) (g pos : Nat) : State :=
  let x := s.gang g
  match x.rota.rotKind with
  | .tlc =>
    match x.fold.band with
    | some b =>
      s.each (List.range 768) (fun s i =>
        let n := 768 * x.fold.rots + i
        match x.fold.segs[n]? with
        | some f => s.programSeg (psaOfTlcSlot g b n) pos f.secs
        | none => s)
    | none => s
  | _ =>
    (s.each x.sysRows (fun s r => s.each (List.range 16) (fun s i => s.programSeg (r.psa g i) pos (s.sysSeg r.kind i)))).each x.placed (fun s p =>
      (s.each (List.range 16) (fun s i =>
        let secs := match p.segs[i]? with | some b => b.secs | none => []
        let s1 := s.programSeg (p.psa g i) pos secs
        match (s.pad g p.paddock).slot with
        | some slot => s1.parityAdd slot pos (rowTile (85 * (p.paddock % 3) + p.row)) i secs
        | none => s1)))

end Sys2Proof.Machine
end

