-- ==== Sys2Proof/Machine/Turns.lean ====
section
/-! DEFINITION. Rotations and turns (R31 to R34, R46, R48, R97 to R99, R180, R181): starting a turn, its end with tile status, idle turns, and the map update at the end of a rotation. -/

namespace Sys2Proof.Machine

/-- A page: tile, tile row, level, fragment, and the 16 sectors it stores (R87, R90). -/
abbrev PageOf := Nat × Nat × Nat × Nat × List SecImg

/-- The 16 pages of a Caldera row batch, and of a system-area row batch (R90, R180). -/
def Placed.pages (p : Placed) : List PageOf :=
  let j := 85 * (p.paddock % 3) + p.row
  (List.range 16).map (fun i => (rowTile j, rowTileRow (p.paddock / 3) j, 0, i, match p.segs[i]? with | some b => b.secs | none => []))
def State.sysPages (s : State) (r : SysRow) : List PageOf :=
  (List.range 16).map (fun i => (r.tile, rowTileRow (r.paddock / 3) r.bandRow, 0, i, s.sysSeg r.kind i))

/-- The pages of TLC rotation `n` of the fold band of gang `g` (R185). -/
def State.foldPages (s : State) (g n : Nat) : List PageOf :=
  let f := (s.gang g).fold
  match f.band with
  | some b => (List.range 768).map (fun i =>
      let m := 768 * n + i
      let q := m / 16
      (rowTile (q / 3), rowTileRow b (q / 3), q % 3, m % 16, match f.segs[m]? with | some x => x.secs | none => []))
  | none => []

/-- What the rotation in progress programs on every die of gang `g` (R97, R180, R185). -/
def State.turnPages (s : State) (g : Nat) : List PageOf :=
  let x := s.gang g
  match x.rota.rotKind with
  | .tlc => s.foldPages g x.fold.rots
  | _ => x.placed.flatMap Placed.pages ++ x.sysRows.flatMap s.sysPages

/-! ### Program buffers (R93, R97, R101) -/

/-- Key of a page in a gang's program buffers. -/
def bufKey (pos : Nat) (p : PageOf) : Nat := ((16 * pos + p.1) * 3 + p.2.2.1) * 16 + p.2.2.2.1

/-- The 16 chunks of a page for die position `pos`. -/
def pageChunks (pos : Nat) (p : PageOf) : List Chunk := (List.range 16).map (fun k => (encodeStripe (p.2.2.2.2.getD k {})).getD pos 0)

/-- The program buffer of die position `pos` holds the page. -/
def State.pageIn (s : State) (g pos : Nat) (p : PageOf) : Bool := decide (SMap.get (fun _ => []) (s.gang g).bufs (bufKey pos p) = pageChunks pos p)

/-- The buffer of die position `pos` holds every page that its turn programs (R97). -/
def State.loaded (s : State) (g pos : Nat) : Bool := (s.turnPages g).all (fun p => s.pageIn g pos p)

/-- The row batches that the next SLC rotation of gang `g` takes, as far as its OPEN paddock and its tiles tell now, and their pages. -/
def State.slcPlan (s : State) (g : Nat) : List PageOf :=
  let ready := ((s.gang g).batches.filter (fun b => b.ready || s.draining)).take 16
  let own : List Placed := match s.openPad g with
    | some p => (ready.zipIdx.map (fun e => { paddock := p, row := (s.pad g p).next + e.2, segs := e.1.segs })).filter (fun x => decide (x.row < 85))
    | none => []
  let used := own.map (fun p => rowTile (85 * (p.paddock % 3) + p.row))
  own.flatMap Placed.pages ++ ((s.gang g).sysq.filter (fun r => !used.contains r.tile)).flatMap s.sysPages

/-- What the next rotation of gang `g` programs, as choose_kind would choose now. DESIGN CHOICE (log entry 109), unsafe: the spec gives the buffers and the rate, and leaves it open which of two kinds that
are both ready a die loads first. -/
def State.nextPages (s : State) (g : Nat) : List PageOf :=
  match s.chooseKind g with
  | .tlc => s.foldPages g ((s.gang g).fold.rots + b2n ((s.rota g).rotating && decide ((s.rota g).rotKind = TurnKind.tlc)))
  | .slc => s.slcPlan g
  | _ => []

/-- The pages that the buffer of die position `pos` is to hold next: of the rotation in progress while the die's turn is to come, then of the next one. -/
def State.wantPages (s : State) (g pos : Nat) : List PageOf :=
  let r := s.rota g
  if r.rotating && (decide (r.pos < pos) || (decide (r.pos = pos) && decide (r.kind = .none ∨ r.kind = .idle))) then s.turnPages g else s.nextPages g

/-- The LOAD commands (R97, R101) of a page for die position `pos`: tile, level, buffer offset, 16 bytes. -/
def loadCmds (d pos : Nat) (p : PageOf) : List Output :=
  (pageChunks pos p).zipIdx.map (fun c => Output.die d 0x03 [p.1, p.2.2.1, 256 * p.2.2.2.1 + 16 * c.2, c.1.toNat])

/-- Die position `pos` loads one page. -/
def State.loadPage (s : State) (g pos : Nat) (p : PageOf) : State :=
  let d := dieNo g pos
  let s1 := s.onGang g (fun x => { x with bufs := SMap.set (fun _ => []) x.bufs (bufKey pos p) (pageChunks pos p), loading := some s.clk.bell })
  let s2 := (s1.moved (24 + d) true 256).moved (17 + g) true 256
  { s2 with out := s2.out ++ loadCmds d pos p }

/-- In a bell each die of gang `g` that is not programming takes at most 128 chunks, 8 pages, of what its buffer lacks (R97: 8 positions in each of 16 slots). -/
def State.loadBell (s : State) (g : Nat) : State :=
  s.each ((List.range 20).filter (fun p => !s.dieFailed (dieNo g p) && !(decide ((s.rota g).pos = p) && decide ((s.rota g).kind = .slc ∨ (s.rota g).kind = .tlc)))) (fun s p =>
    s.each (((s.wantPages g p).filter (fun q => !s.pageIn g p q)).take 8) (fun s q => s.loadPage g p q))

/-- The program command's operands (R101): the 16-bit tile mask, and the tile row of each tile of it. -/
def programArgs (pages : List PageOf) : List Nat :=
  let rows := (List.range 16).map (fun t => (pages.find? (fun p => p.1 = t)).map (fun p => p.2.1))
  (rows.zipIdx.foldl (fun m r => if r.1.isSome then m + 2 ^ r.2 else m) 0) :: rows.filterMap id

/-- No turn may start in gang `g` now (R48, R49, R115, R181). -/
def State.turnsBlocked (s : State) (g : Nat) : Bool :=
  !(s.rota g).on || decide (2 ≤ s.levelNow) || decide (2 ≤ s.margin g) || !s.serving

/-- An idle turn starts: 2 bells (R31). -/
def State.startIdle (s : State) (g : Nat) : State :=
  (s.onRota g (fun r => { r with kind := .idle, cut := false, idleLeft := r.idleLeft - 1, turnEnd := s.now + 8192 })).ev 0xB1 none none 1

/-- Die position `pos` of gang `g` starts to program: the senses whose windows reach into the turn do not hold its chunk (R32). -/
def State.meetTurn (s : State) (g pos : Nat) : State :=
  s.onReads (fun x => { x with
    bg := x.bg.map (fun b => if psaGang b.psa = g && decide (s.now < b.start + senseLen b.slc) then { b with er := addNew pos b.er, progDies := addNew pos b.progDies } else b),
    list := x.list.map (fun r => if r.onAir && decide (psaGang r.psa = g) && decide (s.now < r.start + senseLen r.slc) then
      { r with er := addNew pos r.er, progDie := some pos, turnEnd := (s.rota g).turnEnd } else r) })

/-- The turn of the die at the current position starts (R31, R98, R101). -/
def State.startDie (s : State) (g : Nat) : State :=
  let r := s.rota g
  let d := dieNo g r.pos
  let pages := s.turnPages g
  let s0 := (s.onRota g (fun r => { r with kind := r.rotKind, cut := false, turnEnd := s.now + (if r.rotKind = TurnKind.tlc then 24576 else 8192) })).meetTurn g r.pos
  (s0.ev 0x12 none none 1).emit (.die d (if r.rotKind = TurnKind.tlc then 0x05 else 0x04) (programArgs pages))

/-- R34: whether the rotation that starts now omits its cap idle turns. -/
def State.omitRule (s : State) (r : Rota) : Rota :=
  if 0 < r.keepLeft then { r with omitting := false, omitRun := 0, keepLeft := r.keepLeft - 1 }
  else if s.capNow = 0 && s.levelNow = 0 && decide (65536 < s.stagingUsed) then
    if r.omitRun + 1 = 16 then { r with omitting := true, omitRun := 0, keepLeft := 16 } else { r with omitting := true, omitRun := r.omitRun + 1 }
  else if 0 < r.omitRun then { r with omitting := false, omitRun := 0, keepLeft := 15 }
  else { r with omitting := false }

/-- Write-through rotations may start from the first flock boundary after write-through began (R46). -/
def State.wtReady (s : State) : Bool :=
  !s.writeThrough || (match s.xlt.wtFlock with | some f => decide (f < s.flock) | none => true)

/-- The journal tail of 256 blocks has no room for the up to 256 MAP_SET records of a rotation, which may take two more blocks (R180, R224). -/
def State.tailFull (s : State) : Bool := decide (254 < s.xlt.tail.length)

/-- Under write-through the row batch that fills is completed for the rotation that starts (R46). Log entry 24. -/
def State.completeBatch (s : State) (g : Nat) : State :=
  if s.writeThrough then s.onGang g (fun x => { x with batches := x.batches.map (fun b => { b with ready := true }) }) else s

/-- CHOOSE_KIND (R181) and the start of a rotation with what it programs; the gang stays paused where there is no work. -/
def State.startRotation (s0 : State) (g : Nat) : State :=
  let s := if s0.wtReady then s0.completeBatch g else s0
  let r := s.rota g
  let kind := if s.wtReady && !((s.gang g).ended && decide (r.lastKind = TurnKind.tlc)) then s.chooseKind g else .none
  let begin (s : State) (k : TurnKind) : State :=
    (s.onRota g (fun r => s.omitRule { r with rotating := true, rotKind := k, pos := 0, idleLeft := 0, kind := .none })).skipFailed g 21
  match kind with
  | .tlc => begin s .tlc
  | .slc =>
    let s1 := (if s.tailFull then s else s.placeBatches g 16 []).placeSystem g
    if (s1.gang g).placed.isEmpty && (s1.gang g).sysRows.isEmpty then s1 else begin s1 .slc
  | _ => s

/-- The next item of the rotation starts: an idle turn, or the turn of the next die that is not failed, once its program buffer holds every page of it (R31, R97). -/
def State.startItem (s : State) (g : Nat) : State :=
  let t := s.checkOver g
  let r := t.rota g
  if !r.rotating || r.kind ≠ .none then t
  else if 0 < r.idleLeft then t.startIdle g
  else if r.pos < 20 && t.loaded g r.pos then t.startDie g else t

/-- PROGRAM_TURN_START (R31): at the start of pattern position 0 of gang `g`, with no turn in progress, the next item of the rotation starts, or a rotation starts. -/
def execProgramTurnStart (gang phase : Nat) (s : State) : Res :=
  let s0 := s.at_ phase
  .next (if s0.clk.phase = 256 * s0.slotOffset gang && (s0.rota gang).kind = .none && decide (gang < s0.nGangs) then
    (if s0.turnsBlocked gang then s0.onRota gang (fun r => { r with cut := false })
     else (if (s0.rota gang).rotating then s0 else s0.startRotation gang).startItem gang)
  else s0)

/-- After a turn, an idle turn that is next follows at once (R33); a die's turn waits for PROGRAM_TURN_START. -/
def State.followOn (s : State) (g : Nat) : State :=
  let s1 := s.checkOver g
  let r := s1.rota g
  if r.rotating && decide (0 < r.idleLeft) && !s1.turnsBlocked g then s1.startIdle g else s1

/-- PROGRAM_FAIL (R99): a tile of die position `pos` reports failure; in a Caldera paddock it is handed to the parity rebuild (R190). -/
def State.tileFail (s : State) (g pos tile : Nat) : State :=
  let d := dieNo g pos
  let row := ((s.turnPages g).find? (fun p => p.1 = tile)).map (fun p => p.2.1)
  let s1 := (s.bumpSat (Reg.MED.DIE_ERR.PROG_FAIL (dieStack d) (diePos d))).raiseRec (Reg.MED.INT_STATUS.PROG_FAIL (dieStack d)) sevWarn clsDevice d
    tile (row.getD 0) 0
  match (s.gang g).placed.find? (fun p => rowTile (85 * (p.paddock % 3) + p.row) = tile) with
  | some p => s1.addRebuild g p.paddock (some pos) p.row ((List.range (p.row + 1)).filter (fun i => decide (i % 16 = p.row % 16))) (List.range 16)
  | none => s1

/-- The buffer of the die that has programmed is free again; the fold epoch of the band is the device epoch at the end of its last program turn (R97, R186). -/
def State.turnOver (s : State) (g pos : Nat) : State :=
  let keys := (s.turnPages g).map (bufKey pos)
  s.onGang g (fun x => { x with bufs := x.bufs.filter (fun e => !keys.contains e.1), fold := { x.fold with tepoch := if x.rota.rotKind = TurnKind.tlc then s.fld Reg.DRF.EPOCH.EPOCH else x.fold.tepoch } })

/-- PROGRAM_TURN_END (R98, R99): the turn in progress in gang `g` ends; `fails` are the tiles that report failure. During a Vent the rotation stops with it (R680). -/
def execProgramTurnEnd (gang : Nat) (fails : List Nat) (phase : Nat) (s : State) : Res :=
  let s0 := s.at_ phase
  let r := s0.rota gang
  .next (if (r.kind = .slc || r.kind = TurnKind.tlc) && r.ventTurn.isNone then
    let s1 := s0.programDie gang r.pos
    let s2 := (fails.filter (fun t => (s0.turnPages gang).any (fun p => p.1 = t))).eraseDups.foldl (fun s t => s.tileFail gang r.pos t) s1
    let s3 := ((s2.emit (.die (dieNo gang r.pos) 0x06 [])).bump (if r.kind = TurnKind.tlc then Reg.ROT.TLC_TURNS.COUNT gang else Reg.ROT.SLC_TURNS.COUNT gang)).turnOver gang r.pos
    if s3.venting then s3.onGang gang (fun x => { x with placed := [], sysRows := [], rota := { x.rota with kind := .none, rotating := false } })
    else (s3.passPos gang).followOn gang
  else s0)

/-- IDLE_TURN_END (R33): the idle turn in progress ends. During a Vent nothing follows (R680, R887). -/
def execIdleTurnEnd (gang phase : Nat) (s : State) : Res :=
  let s0 := s.at_ phase
  .next (if (s0.rota gang).kind = .idle then
    let s1 := (s0.onRota gang (fun r => { r with kind := .none, rotating := r.rotating && !s0.venting })).bump (Reg.ROT.IDLE_TURNS.COUNT gang)
    if s0.venting then s1 else s1.followOn gang
  else s0)

/-! ### The end of a rotation (R46, R180, R386, R389) -/

/-- Sequence number of the journal block that the next record enters. -/
def State.openBlock (s : State) : Nat :=
  match s.xlt.tail.getLast? with
  | some b => if b.closed then s.xlt.nextBlock else b.seq
  | none => s.xlt.nextBlock

/-- A group of slot `i`. -/
def State.group (s : State) (i : Nat) : Group := SMap.get (fun _ => {}) s.xlt.groups i
/-- A group replaced. -/
def State.setGroup (s : State) (i : Nat) (x : Group) : State :=
  s.onXlt (fun t => { t with groups := SMap.set (fun _ => {}) t.groups i x })

/-- A segment of an open group has been programmed: GROUP_PEND, PENDING, and the version it replaces in the group is STALE (R202). -/
def State.pendSeg (s : State) (slot psa : Nat) (b : Built) : State :=
  let e : MapE := { st := .caldera, psa }
  let x := s.group slot
  let old := SMap.get (fun _ => ({} : MapE)) x.pend b.lseg
  let s1 := ((s.staleOld old).journal (jGroupPend slot b.lseg e)).setRev psa { st := .pending, lseg := b.lseg }
  s1.setGroup slot { s1.group slot with pend := SMap.set (fun _ => ({} : MapE)) x.pend b.lseg e }

/-- The snapshot that a segment was built from has been programmed: its lines are free, and what waits for its MAP_SET knows its block (R46, R180, R433). -/
def State.snapDone (s : State) (g : Nat) (block : Nat) (snap : Option Nat) : State :=
  match snap with
  | none => s
  | some id =>
    let s1 := s.onXlt (fun t => { t with
      snaps := t.snaps.filter (fun x => x.id ≠ id),
      wtAcks := t.wtAcks.map (fun a => if a.snap = some id then { a with block := some (block, g) } else a) })
    if s1.link.riskSegs.contains id then
      s1.onLink (fun l => { l with riskSegs := l.riskSegs.erase id, riskBlocks := if l.riskBlocks.contains block then l.riskBlocks else l.riskBlocks ++ [block] })
    else s1

/-- A trim of a range that holds the segment is busy (R206). -/
def State.inTrim (s : State) (lseg : Nat) : Bool :=
  s.xlt.trim.busy && decide (s.xlt.trim.first ≤ lseg) && decide (lseg < s.xlt.trim.first + s.xlt.trim.count)

/-- One segment of the rotation is mapped (R180), or its slot is STALE: an empty slot, a dropped build, a rewrite whose map entry moved (R140, R179). Older builds of the same segment that are still to be mapped are superseded, and their snapshots, whose writes it holds, are done with it. -/
def State.mapBuilt (s : State) (g psa : Nat) (b : Built) : State :=
  let stay := match b.cmp with
    | some p => decide ((s.mapOf b.lseg).psa = p) && decide ((s.mapOf b.lseg).st = .caldera || (s.mapOf b.lseg).st = .tlc)
    | none => true
  let blk := s.openBlock
  let s0 := match b.snap with | some i => s.dropBuilds (fun c => decide (c.lseg = b.lseg) && decide (c.group = b.group) && (match c.snap with | some j => decide (j < i) | none => false)) | none => s
  let older := match b.snap with
    | some i => if b.dropped then [] else (s.xlt.snaps.filter (fun x => decide (x.lseg = b.lseg) && decide (x.group = b.group) && decide (x.id < i))).map (fun x => x.id)
    | none => []
  let s1 := if b.dropped || !stay then s0.setRev psa { st := .stale, lseg := b.lseg }
    else match b.group with
      | some slot => s0.pendSeg slot psa b
      | none =>
        let s1 := (s0.mapMove b.lseg { st := .caldera, psa }).ubMap b.lseg
        let s2 := if b.fresh then s1.scInvalidate b.lseg else s1
        if b.cmp.isNone && s2.inTrim b.lseg then s2.onXlt (fun t => { t with trim := { t.trim with kept := b.lseg :: t.trim.kept } }) else s2
  (s1.each older (fun s i => s.snapDone g blk (some i))).snapDone g blk b.snap

/-- A placed row batch is mapped, slot by slot; an empty slot's entry is STALE and names no logical segment (R179). After its 85th row batch the paddock is FULL, and its verify is queued (R172). -/
def State.mapPlaced (s : State) (g : Nat) (p : Placed) : State :=
  let s1 := s.each (List.range 16) (fun s i =>
    match p.segs[i]? with
    | some b => s.mapBuilt g (p.psa g i) b
    | none => s.setRev (p.psa g i) { st := .stale, lseg := 0x3FFFFFFF })
  if p.row = 84 then (s1.setPad g p.paddock { s1.pad g p.paddock with st := .full }).onGang g (fun x => { x with fulls := x.fulls ++ [p.paddock] }) else s1

/-- Write-through writes of gang `g` whose MAP_SET is now programmed are acknowledged, 22 clk after that end (R37, R46); what AT_RISK awaits is crossed off (R433). -/
def State.ackBlocks (s : State) (g : Nat) (seqs : List Nat) : State :=
  let due := s.xlt.wtAcks.filter (fun a => match a.block with | some b => b.2 = g && seqs.contains b.1 | none => false)
  let s1 := s.onXlt (fun t => { t with wtAcks := t.wtAcks.filter (fun a => !due.contains a) })
  let s2 := s1.each due (fun s a => s.sendCmp a.tag (s.now + 22))
  (s2.onLink (fun l => { l with riskBlocks := l.riskBlocks.filter (fun b => !seqs.contains b) })).riskCheck

/-- A TLC rotation has ended: the next 16 band rows, or after the sixteenth TLC_VERIFY with the epoch of the fold (R171, R186). A band whose predecessor is still in verify waits for it. -/
def State.foldTurned (s : State) (g : Nat) : State :=
  let f := (s.gang g).fold
  match f.band with
  | some b =>
    if f.rots + 1 < 16 then s.onGang g (fun x => { x with fold := { f with rots := f.rots + 1 } })
    else
      let s1 := s.setBand g b { s.band g b with st := .tlcVerify }
      let g0 : Fold := { f with band := none, segs := [], rots := 0 }
      s1.onGang g (fun x => { x with fold :=
        if f.vband.isSome then { g0 with vwait := f.vwait ++ [(b, f.segs, f.tepoch)] }
        else { g0 with vband := some b, vsegs := f.segs, vnext := 0, vfail := [], vdone := 0, vepoch := f.tepoch } })
  | none => s

/-- Segments that the row batches of a rotation that has ended programmed (R244). -/
def Gang.programmed (x : Gang) : Nat := (x.ending.map (fun p => p.segs.length)).sum + (x.sysEnding.map (fun r => r.kind.segs)).sum

/-- The blocks that the rotation programmed into the journal copy whose end acknowledges the gang's writes (R46): the gang's own, on the -17A the first of the two. -/
def State.ackSeqs (s : State) (g : Nat) : List Nat :=
  let c := match s.variant with | .v35A => g | .v17A => 0
  (s.gang g).sysEnding.flatMap (fun r => match r.kind with | .journal d l => if d = c then l else [] | _ => [])

/-- ROTATION_END (R180): once 256 update-buffer entries are free, the rotation's segments are journaled and mapped and their staged lines freed, in one clk. Data written to a gang with a failed die restores its reduction (R196). -/
def execRotationEnd (gang phase : Nat) (s : State) : Res :=
  let s0 := s.at_ phase
  let x := s0.gang gang
  .next (if !x.ended then s0
    else if x.rota.lastKind = .tlc then
      ((s0.foldTurned gang).onGang gang (fun x => { x with ended := false })).bumpBy Reg.DRV.PROG_SEGS.PROG_SEGS (min 768 (x.fold.segs.length - 768 * x.fold.rots))
    else if s0.ubReserve then
      let s1 := (s0.each x.ending (fun s p => s.mapPlaced gang p)).each x.sysEnding (fun s r => s.sysDone gang r)
      let s2 := (s1.onGang gang (fun x => { x with ended := false, ending := [], sysEnding := [] })).bumpBy Reg.DRV.PROG_SEGS.PROG_SEGS x.programmed
      let s3 := s2.each ((x.ending.map (fun p => p.paddock / 3)).eraseDups) (fun s b => s.releaseEmpty gang b)
      let s4 := if x.ending.isEmpty then s3 else s3.each (s3.failedOf gang) (fun s i => s.reduce (dieNo gang i))
      ((s4.openNext gang).joinWaiting).ackBlocks gang (s0.ackSeqs gang)
    else s0)

end Sys2Proof.Machine
end

