-- ==== Sys2Proof/Machine/Protect.lean ====
section
/-! DEFINITION. Regions, keys, the sector cipher and tag, versions and generations (R530 to R547). -/

namespace Sys2Proof.Machine

/-- `s` with the protection state changed by `f`. -/
def State.onProt (s : State) (f : Prot → Prot) : State := { s with prot := f s.prot }

/-! ### Regions (R531, R533) -/

/-- Region `i` as applied. -/
def State.region (s : State) (i : Nat) : Region := SMap.get (fun _ => {}) s.prot.regions i
/-- Generation state of region `i`. -/
def State.gen (s : State) (i : Nat) : GenSt := SMap.get (fun _ => {}) s.prot.gens i
/-- Generation state of region `i` replaced. -/
def State.setGen (s : State) (i : Nat) (x : GenSt) : State := s.onProt (fun p => { p with gens := SMap.set (fun _ => {}) p.gens i x })
/-- The valid region that covers a logical paddock. -/
def State.regionOf (s : State) (paddock : Nat) : Option Nat :=
  (s.prot.regions.find? (fun e => e.2.valid && decide (e.2.first ≤ paddock) && decide (paddock ≤ e.2.last))).map (fun e => e.1)
/-- The region that covers a logical segment. -/
def State.regionOfSeg (s : State) (lseg : Nat) : Option Nat := s.regionOf (lseg / 4096)
/-- A region is keyed (R531). -/
def Region.keyed (r : Region) : Bool := r.valid && (r.mode = 1 || r.mode = 2)

/-- Key slot `k`. -/
def State.slot (s : State) (k : Nat) : KeySlot := SMap.get (fun _ => {}) s.prot.slots k
/-- Key slot `k` replaced. -/
def State.setSlot (s : State) (k : Nat) (x : KeySlot) : State := s.onProt (fun p => { p with slots := SMap.set (fun _ => {}) p.slots k x })

/-- The right that a class needs (R577). -/
def rightBit (cls : Nat) (write : Bool) : Nat := if cls = 4 then 8 else 2 * cls + b2n write

/-- Checks 4 to 8 of R426 for a class (R533): the cause code of the first that fails, 0 for none. -/
def State.checkRegion (s : State) (cls : Nat) (write : Bool) (dpa keyid : Nat) : Nat :=
  match s.regionOf (dpaPaddock dpa) with
  | none => 4
  | some i =>
    let r := s.region i
    if keyid ≠ r.keyid || (r.keyed && decide ((s.slot r.keyid).st = 0)) then 5
    else if !bitOf r.rights (rightBit cls write) then 6
    else if r.compressed && (cls = 0 || (cls = 1 && write)) then 7
    else if write && (s.gen i).rekeyReq then 8 else 0

/-- Check 5 failed on the KeyID itself, which is a Tremor (R533). -/
def State.keyMismatch (s : State) (dpa keyid : Nat) : Bool :=
  match s.regionOf (dpaPaddock dpa) with
  | some i => decide (keyid ≠ (s.region i).keyid)
  | none => false

/-! ### Derived keys (R534) -/

/-- The block of label byte `l` and byte `j`, byte 0 in bits [7:0]. -/
def labelBlock (l j : Nat) : BitVec 128 := BitVec.ofNat 128 (l + 256 * j)
/-- D(K, label). -/
def deriveKey (k : BitVec 256) (l : Nat) : BitVec 256 := Config.aes256 k (labelBlock l 1) ++ Config.aes256 k (labelBlock l 0)
/-- KEK and TK0. -/
def kek : BitVec 256 := deriveKey Config.root 0x4B
def tk0 : BitVec 256 := deriveKey Config.root 0x53

/-- The tweak value of a sector (R539). -/
def tweakOf (lsn version keygen : Nat) : BitVec 128 := BitVec.ofNat 128 (lsn + version * 2 ^ 34 + keygen * 2 ^ 50)
/-- The IV of a sector's tag (R540). -/
def ivOf (lsn version keygen region : Nat) : BitVec 96 := BitVec.ofNat 96 (lsn + version * 2 ^ 34 + keygen * 2 ^ 50 + region * 2 ^ 58)
/-- The tag of a sector under a title key. -/
def tagOf (tk : BitVec 256) (lsn version keygen region : Nat) (stored : SectorData) : Nat :=
  (Config.gmac (deriveKey tk 0x03) (ivOf lsn version keygen region) (BitVec.ofNat 64 lsn) stored).toNat
/-- The stored bytes of a plaintext in a region mode (R539). -/
def encryptAs (mode : Nat) (tk : BitVec 256) (lsn version keygen : Nat) (d : SectorData) : SectorData :=
  if mode = 2 then Config.xtsEnc (deriveKey tk 0x01) (deriveKey tk 0x02) (tweakOf lsn version keygen) d else d
/-- The plaintext of stored bytes. -/
def decryptAs (mode : Nat) (tk : BitVec 256) (lsn version keygen : Nat) (d : SectorData) : SectorData :=
  if mode = 2 then Config.xtsDec (deriveKey tk 0x01) (deriveKey tk 0x02) (tweakOf lsn version keygen) d else d

/-! ### The tag check (R541) -/

/-- The slot under which a region's sectors are read and built: its own, or the removed key kept for writes accepted before (R537). -/
def State.slotFor (s : State) (k : Nat) : KeySlot :=
  let x := s.slot k
  if x.st = 0 then SMap.get (fun _ => {}) s.prot.removed k else x

/-- The title key under which a sector verifies in region `i`, if any. -/
def State.tagKey (s : State) (i lsn : Nat) (md : Chunk) (stored : SectorData) : Option (BitVec 256) :=
  let r := s.region i
  let g := s.gen i
  let x := s.slotFor r.keyid
  let ok (k : BitVec 256) (lo hi : Nat) : Bool :=
    decide (lo ≤ mdKeygen md) && decide (mdKeygen md ≤ hi) && decide (tagOf k lsn (mdVersion md) (mdKeygen md) i stored = mdTag md)
  if ok x.key g.low g.cur then some x.key
  else if g.oldValid && ok x.prev g.oldLow g.oldCur then some x.prev else none

/-- No key window holds the KEYGEN (R541). -/
def State.windowFail (s : State) (i : Nat) (md : Chunk) : Bool :=
  let g := s.gen i
  !(decide (g.low ≤ mdKeygen md) && decide (mdKeygen md ≤ g.cur)) &&
    !(g.oldValid && decide (g.oldLow ≤ mdKeygen md) && decide (mdKeygen md ≤ g.oldCur))

/-- A sector is under the region's previous key (R542). -/
def State.underOld (s : State) (i lsn : Nat) (md : Chunk) (stored : SectorData) : Bool :=
  (s.gen i).oldValid && decide (s.tagKey i lsn md stored = some (s.slotFor (s.region i).keyid).prev) &&
    decide ((s.slotFor (s.region i).keyid).prev ≠ (s.slotFor (s.region i).keyid).key)

/-- A failed tag check is counted and shown (R562, R563, R566). -/
def State.tagFailed (s : State) (i : Nat) (md : Chunk) : State :=
  let win := s.windowFail i md
  let s1 := (s.bump Reg.CRY.TAG_FAILS.TAG_FAILS).raise Reg.CRY.INT_STATUS.TAG_FAIL
  let s2 := if win then (s1.bump Reg.CRY.WINDOW_FAILS.WINDOW_FAILS).raise Reg.CRY.INT_STATUS.WINDOW_FAIL else s1
  (((s2.setFld Reg.CRY.LAST_FAIL.REGION i).setFld Reg.CRY.LAST_FAIL.KEYID (s.region i).keyid).setFld Reg.CRY.LAST_FAIL.KEYGEN (mdKeygen md)).setFld
    Reg.CRY.LAST_FAIL.CAUSE (if win then 2 else 1)

/-- The plaintext of a stored sector, as its region's mode and keys give it. -/
def State.plainOf (s : State) (lsn : Nat) (md : Chunk) (stored : SectorData) : SectorData :=
  match s.regionOf (lsn / 2 ^ 16) with
  | some i =>
    if (s.region i).keyed then
      match s.tagKey i lsn md stored with
      | some k => decryptAs (s.region i).mode k lsn (mdVersion md) (mdKeygen md) stored
      | none => stored
    else stored
  | none => stored

/-! ### Versions and generations (R542 to R544) -/

/-- advance(r) (R543): the new CUR is reserved in the PNV; at CUR 255 REKEY_REQUIRED is set instead (R544). -/
def State.advance (s : State) (i : Nat) : State :=
  let g := s.gen i
  if 255 ≤ g.cur + g.advancing then
    if g.rekeyReq then s
    else (s.setGen i { g with rekeyReq := true }).raiseRec Reg.RGN.INT_STATUS.REKEY_REQUIRED sevWarn clsDevice i 0 0 0
  else s.setGen i { g with advancing := g.advancing + 1 }

/-- A re-encryption pass of region `i` starts or restarts from its first segment (R546). -/
def State.startPass (s : State) (i : Nat) : State :=
  let g := s.gen i
  s.setGen i { g with passActive := true, passTarget := g.cur, passPos := (s.region i).first * 4096 }

/-- What R542 gives a sector that is written: its version and generation, or none where it must wait for an advance. `old` is the old sector's metadata symbol and whether it is under the previous key. -/
def State.versionFor (s : State) (r : Option Nat) (old : Option (Chunk × Bool)) : Option (Nat × Nat) :=
  match r with
  | none => some (0, 0)
  | some i =>
    let x := s.region i
    let g := s.gen i
    if !x.keyed then
      match old with
      | some (m, _) => if x.versioning && mdValid m then some ((mdVersion m + 1) % 65536, 0) else some (0, 0)
      | none => some (0, 0)
    else
      match old with
      | none => some (0, g.cur)
      | some (m, under) =>
        if !mdValid m || under || decide (mdKeygen m < g.cur) then some (0, g.cur)
        else if mdVersion m < 0xFFFF then some (mdVersion m + 1, g.cur) else none

/-- A sector stored as zero data with POISON = 1 (R138, R545). -/
def State.poisonSec (s : State) (r : Option Nat) (strict : Bool) : SecImg :=
  let kg := match r with | some i => if (s.region i).keyed then (s.gen i).cur else 0 | none => 0
  { data := 0, md := mdMake 0 0xFFFF kg true true true strict }

/-- A written sector as it is stored in Caldera (R134, R539, R540). -/
def State.sealSec (s : State) (r : Option Nat) (lsn version keygen : Nat) (strict : Bool) (d : SectorData) : SecImg :=
  match r with
  | some i =>
    let x := s.region i
    if x.keyed then
      let k := (s.slotFor x.keyid).key
      let st := encryptAs x.mode k lsn version keygen d
      { data := st, md := mdMake (tagOf k lsn version keygen i st) version keygen true false true strict }
    else { data := d, md := mdMake 0 version keygen true false true strict }
  | none => { data := d, md := mdMake 0 version keygen true false true strict }

/-- No cache takes the line of a read (R301): cartridge, GROUPED or COMPRESSED region, a trim in progress. -/
def State.noAlloc (s : State) (dpa : Nat) : Bool :=
  (dpaCart dpa).isSome || s.inTrim (dpaSeg dpa) ||
    (match s.regionOf (dpaPaddock dpa) with | some i => (s.region i).grouped || (s.region i).compressed | none => false)

end Sys2Proof.Machine
end

