-- ==== Sys2Proof/Machine/Groups.lean ====
section
/-! DEFINITION. Atomic commit groups (R202 to R205), trim (R206, R207) and the map query (R215, R216). -/

namespace Sys2Proof.Machine

/-! ### Groups -/

/-- The codes of R223. -/
def GroupSt.code (g : GroupSt) : Nat :=
  match g with
  | .free => 0
  | .opened => 1
  | .draining => 2
  | .committed => 3
  | .done => 4
  | .overflow => 5
  | .aborted => 6

/-- The slot of the group of region `r` that takes writes or a command: OPEN or OVERFLOW (R202, R204). -/
def State.openGroup (s : State) (r : Nat) : Option Nat :=
  (s.xlt.groups.find? (fun e => decide (e.2.region = r) && (decide (e.2.st = .opened) || (decide (e.2.st = .overflow) && !e.2.ended)))).map (fun e => e.1)

/-- The lowest-numbered slot that is free; an aborted group has freed its slot (R204, R223). -/
def State.freeGroup (s : State) : Option Nat :=
  (List.range 16).find? (fun i => decide ((s.group i).st = .free) || decide ((s.group i).st = .aborted))

/-- Region `r` has a group that is not finished: it has staged or pending segments (R532). -/
def State.hasGroup (s : State) (r : Nat) : Bool :=
  s.xlt.groups.any (fun e => decide (e.2.region = r) && (match e.2.st with | .opened | .draining | .committed => true | .overflow => !e.2.ended | _ => false))

/-- The snapshots that satisfy `p` go; write-through writes that waited for them are acknowledged at once (R432, R556). -/
def State.dropSnaps (s : State) (p : Snap → Bool) : State :=
  let ids := (s.xlt.snaps.filter p).map (fun x => x.id)
  let due := s.xlt.wtAcks.filter (fun a => match a.snap with | some i => ids.contains i | none => false)
  let s1 := s.onXlt (fun t => { t with snaps := t.snaps.filter (fun x => !p x), wtAcks := t.wtAcks.filter (fun a => !due.contains a) })
  let s2 := s1.onLink (fun l => { l with riskSegs := l.riskSegs.filter (fun i => !ids.contains i) })
  s2.each due (fun s a => s.sendCmp a.tag s.now)

/-- The staged lines that satisfy `p` (segment, group) go, and write-through writes that they held are acknowledged at once. -/
def State.dropStaged (s : State) (p : Nat → Option Nat → Bool) : State :=
  let due := s.xlt.wtAcks.filter (fun a => a.snap.isNone && p a.lseg none)
  let s1 := s.onXlt (fun t => { t with
    staged := t.staged.filter (fun e => !p (e.1 / 32 / 64) (if e.1 % 32 = 0 then none else some (e.1 % 32 - 1))), wtAcks := t.wtAcks.filter (fun a => !due.contains a) })
  s1.each due (fun s a => s.sendCmp a.tag s.now)

/-- A group is aborted (R204). DESIGN CHOICE (log entry 106): an OVERFLOW group that has ended keeps its slot until its status is read (R223), where an ABORTED one's slot can be taken at once. Its PENDING segments become STALE, its staged data and builds go, GROUP_ABORT is journaled, the region's generation advances (R543). -/
def State.abortGroup (s : State) (i : Nat) : State :=
  let x := s.group i
  let s1 := s.each x.pend (fun s e => s.staleOld e.2)
  let s2 := ((s1.dropStaged (fun _ g => g = some i)).dropSnaps (fun y => y.group = some i)).dropBuilds (fun b => b.group = some i)
  let s3 := s2.journal (jGroupAbort i x.region x.pend.length)
  let s4 := s3.setGroup i (if x.st = .overflow then { st := .overflow, region := x.region, ended := true } else { st := .aborted, region := x.region })
  if (s4.region x.region).keyed then s4.advance x.region else s4

/-- A commit (R203, R204): an OPEN group drains, all its staged lines closing at once; an OVERFLOW group is aborted and GROUP_FAILED raised. -/
def State.commitGroup (s : State) (i : Nat) : State :=
  let x := s.group i
  if x.st = .overflow then (s.abortGroup i).raise Reg.XLT.INT_STATUS.GROUP_FAILED
  else (s.each x.segs (fun s l => s.closeSeg l (some i))).onXlt (fun t => { t with groups := SMap.set (fun _ => {}) t.groups i { x with st := .draining } })

/-- GROUP_CTRL (R221): OP COMMIT or ABORT on the open group of REGION; no open group is a configuration error. -/
def State.groupCtrl (s : State) (src : Source) (op w : Nat) : State :=
  match s.openGroup (bitsOf w 7 0) with
  | some i => if op = 1 then s.commitGroup i else s.abortGroup i
  | none => s.cfgErr 0x0B 2 src.code 0x70 w

/-- GROUP_COMMITTED (R203): the rotations that program a draining group have ended, and GROUP_COMMIT enters the journal tail. -/
def execGroupCommitted (slot : Nat) (s : State) : Res :=
  let x := s.group slot
  .next (if s.working && x.st = .draining && !s.xlt.snaps.any (fun y => y.group = some slot) && !s.anyBuild (fun b => b.group = some slot) then
    (s.journal (jGroupCommit slot x.region x.pend.length)).setGroup slot { x with st := .committed }
  else s)

/-- One pending entry is applied (R203): the replaced segment STALE, the pending one LIVE, the sector-cache entries invalidated (R386). An entry that a rebuild has set to POISONED names no segment (R190). -/
def State.applyPend (s : State) (lseg : Nat) (e : MapE) : State :=
  let s1 := (s.staleOld (s.mapOf lseg)).setMap lseg e
  ((match e.st with | .caldera | .tlc => s1.setRev e.psa { st := .live, lseg } | _ => s1).ubMap lseg).scInvalidate lseg

/-- GROUP_APPLY (R203): once the update buffer has its reserve, the pending entries of a committed group are applied and the group is DONE. -/
def execGroupApply (slot : Nat) (s : State) : Res :=
  let x := s.group slot
  .next (if s.working && x.st = .committed && s.ubReserve then
    ((s.each x.pend (fun s e => s.applyPend e.1 e.2)).setGroup slot { x with st := .done, segs := [] }).raise Reg.XLT.INT_STATUS.GROUP_DONE
  else s)

/-- What GROUP_STATUSi reads (R223). DESIGN CHOICE (log entry 106): PENDING of a DONE group goes on showing the number of segments that it applied, until the read frees the slot. -/
def State.groupWord (s : State) (i : Nat) : Nat :=
  let x := s.group i
  if x.st = .free then 0 else x.st.code * 2 ^ 29 + x.pend.length * 256 + x.region

/-! ### Trim -/

/-- The logical paddock range of a trim meets a region. -/
def trimMeets (r : Region) (first count : Nat) : Bool := r.valid && decide (r.first ≤ (first + count - 1) / 4096) && decide (first / 4096 ≤ r.last)

/-- The regions that a range of segments touches. -/
def State.regionsIn (s : State) (first count : Nat) : List Nat := (s.prot.regions.filter (fun e => trimMeets e.2 first count)).map (fun e => e.1)

/-- TRIM_CTRL.GO (R206, R207). `w` has the guard and GO. -/
def State.trimGo (s : State) : State :=
  let first := s.fld Reg.XLT.TRIM_START.FIRST
  let count := s.fld Reg.XLT.TRIM_COUNT.COUNT
  if count = 0 || decide (s.fld Reg.XLT.USER_SEGS.USER_SEGS < first + count) || s.xlt.trim.busy || (s.regionsIn first count).any (fun r => (s.openGroup r).isSome) then
    s.raise Reg.XLT.INT_STATUS.TRIM_REFUSED
  else
    let inR (l : Nat) : Bool := decide (first ≤ l) && decide (l < first + count)
    let s1 := s.journal (jTrim first count)
    let s2 := ((s1.dropStaged (fun l g => inR l && g.isNone)).dropSnaps (fun x => inR x.lseg && x.group.isNone)).dropBuilds (fun b => inR b.lseg && b.group.isNone && b.cmp.isNone)
    let s3 := s2.onXlt (fun t => { t with trim := { busy := true, first, count, at_ := s.now } })
    let s4 := (s3.setFlag Reg.XLT.STATUS.TRIM_BUSY true).setFld Reg.XLT.TRIM_PROGRESS.DONE 0
    s4.each ((s4.regionsIn first count).filter (fun r => (s4.region r).keyed)) State.advance

/-- TRIM_CACHE_WALK_END (R304): the walk has invalidated every host line of the range, and step 3 may begin. -/
def execTrimCacheWalkEnd (s : State) : Res :=
  let t := s.xlt.trim
  .next (if t.busy && !t.walked then
    (s.dropHost (fun a => decide (t.first * 4096 ≤ a) && decide (a < (t.first + t.count) * 4096))).onXlt (fun x => { x with trim := { x.trim with walked := true } })
  else s)

/-- One entry of the range becomes UNMAPPED (R206). -/
def State.unmap (s : State) (lseg : Nat) : State :=
  let e := s.mapOf lseg
  if e.st = .unmapped then s else (((s.staleOld e).setMap lseg {}).ubMap lseg).scInvalidate lseg

/-- TRIM_MAP_UPDATE (R206): once the update buffer has its reserve, every map entry of the range is UNMAPPED, and TRIM_DONE is raised. -/
def execTrimMapUpdate (s : State) : Res :=
  let t := s.xlt.trim
  .next (if s.working && t.busy && t.walked && s.ubReserve then
    let segs := ((s.xlt.map.within t.first (t.first + t.count)).map (fun e => e.1)).filter (fun l => !t.kept.contains l)
    let s1 := s.each segs State.unmap
    let s2 := s1.onXlt (fun x => { x with trim := { x.trim with busy := false } })
    ((s2.setFlag Reg.XLT.STATUS.TRIM_BUSY false).setFld Reg.XLT.TRIM_PROGRESS.DONE t.count).raise Reg.XLT.INT_STATUS.TRIM_DONE
  else s)

/-! ### Query -/

/-- A write of QUERY (R215): the query starts and DONE clears. -/
def State.queryStart (s : State) (w : Nat) : State :=
  ((s.setFld Reg.XLT.QUERY.SEGMENT (bitsOf w 29 0)).setFlag Reg.XLT.QUERY_RESULT.DONE false).onXlt (fun t => { t with query := some (bitsOf w 29 0) })

/-- The result of a query (R216). -/
def State.queryWord (s : State) (lseg : Nat) : Nat :=
  if s.fld Reg.XLT.USER_SEGS.USER_SEGS ≤ lseg then 2 ^ 31 + 2 ^ 30
  else
    let e := s.mapOf lseg
    let staged := !(s.segLines lseg none).isEmpty || s.xlt.snaps.any (fun x => x.group.isNone && decide (x.lseg = lseg))
    let pend := s.xlt.groups.any (fun g => (match g.2.st with | .opened | .draining | .committed => true | .overflow => !g.2.ended | _ => false) &&
      decide ((SMap.get (fun _ => ({} : MapE)) g.2.pend lseg).st ≠ .unmapped))
    let gang := match e.st with | .caldera | .tlc => psaGang e.psa | _ => 0
    2 ^ 31 + e.word / 2 ^ 30 * 2 ^ 28 + b2n staged * 2 ^ 27 + b2n pend * 2 ^ 26 + gang * 2 ^ 25

/-- QUERY_RESULT_READY (R216). -/
def execQueryResultReady (s : State) : Res :=
  .next (match s.xlt.query with
    | some l => (s.setReg Reg.XLT.QUERY_RESULT.word (s.queryWord l)).onXlt (fun t => { t with query := none })
    | none => s)

end Sys2Proof.Machine
end

