-- ==== Sys2Proof/Machine/CartState.lean ====
section
/-! DEFINITION. The state of the cartridge slots (R604, R619, R629, R636) and what leaving MOUNTED does to the work that a slot serves. -/

namespace Sys2Proof.Machine

/-- Slot `n`. -/
def State.zl (s : State) (n : Nat) : Zl := if n = 0 then s.zl0 else s.zl1
/-- Slot `n` changed by `f`. -/
def State.onZl (s : State) (n : Nat) (f : Zl → Zl) : State := if n = 0 then { s with zl0 := f s.zl0 } else { s with zl1 := f s.zl1 }

/-- STATUS.STATE codes of R636. -/
abbrev zlEmpty : Nat := 0
abbrev zlPowering : Nat := 1
abbrev zlTraining : Nat := 2
abbrev zlAuth : Nat := 3
abbrev zlMounted : Nat := 4
abbrev zlLocked : Nat := 5
abbrev zlFault : Nat := 6
abbrev zlPoweringOff : Nat := 7

/-- State of slot `n`. -/
def State.zlState (s : State) (n : Nat) : Nat := s.fld (Reg.ZL.STATUS.STATE n)
/-- Slot `n` enters state `c`. -/
def State.zlTo (s : State) (n c : Nat) : State := s.setFld (Reg.ZL.STATUS.STATE n) c
/-- Slot `n` is MOUNTED. -/
def State.cartMounted (s : State) (n : Nat) : Bool := decide (s.zlState n = zlMounted)
/-- Base of slot `n` in the DPA space (R620). -/
def cartBase (n : Nat) : Nat := if n = 0 then 0x38000000000 else 0x3C000000000
/-- Segments of the mounted cartridge that are decoded (R620). -/
def State.cartSegs (s : State) (n : Nat) : Nat := s.fld (Reg.ZL.CONTENT.CONTENT_SEGS n) + s.fld (Reg.ZL.SAVE_SEGS.SAVE_SEGS n)
/-- A cartridge DPA is decoded now (R620). -/
def State.cartDecoded (s : State) (n dpa : Nat) : Bool := s.cartMounted n && decide ((dpa - cartBase n) / 4096 < s.cartSegs n)
/-- Key slot and KeyID of slot `n` (R634). -/
def State.cartKeyid (s : State) (n : Nat) : Nat := s.fld (Reg.ZL.CFG.CART_KEYID n)
/-- Manifest right `b` of slot `n`. -/
def State.cartRight (s : State) (n b : Nat) : Bool := bitOf (s.fld (Reg.ZL.STATUS.RIGHTS n)) b

/-! ### Ends of copies and saves (R626, R627, R650, R655) -/

/-- The commands of an ended copy serve no copy any more. -/
def CartCmd.orphan (c : CartCmd) : CartCmd :=
  match c.use with
  | .copy _ _ => { c with use := .copy (2 ^ 40) true }
  | _ => c

/-- A copy ends with a RESULT of R650. -/
def State.copyEnd (s : State) (n result cause : Nat) : State :=
  (((((s.onZl n (fun z => { z with copy := none, cmds := z.cmds.map CartCmd.orphan })).setFlag (Reg.ZL.COPY_STATUS.BUSY n) false).setFld (Reg.ZL.COPY_STATUS.RESULT n) result).setFld
    (Reg.ZL.COPY_STATUS.CAUSE n) cause).raise (Reg.ZL.INT_STATUS.COPY_DONE n))

/-- The CXL.io reads that satisfy `p` stay awaited. -/
def State.onStrmReads (s : State) (p : HostRd → Bool) : State := { s with strm := { s.strm with hostReads := s.strm.hostReads.filter p } }

/-- A save ends with a RESULT of R655. -/
def State.saveEnd (s : State) (n result : Nat) : State :=
  ((((s.onZl n (fun z => { z with save := none })).onStrmReads (fun h => h.req.isSome || h.slot ≠ n)).setFlag (Reg.ZL.SAVE_STATUS.BUSY n) false).setFld
    (Reg.ZL.SAVE_STATUS.RESULT n) result).raise (Reg.ZL.INT_STATUS.SAVE_DONE n)

/-! ### Leaving the link (R619, R629) -/

/-- A read in flight of slot `n`. -/
def Rd.onCart (r : Rd) (n : Nat) : Bool := r.st = .cart && decide (dpaCart r.dpa = some n)

/-- A stream request is owed sectors by slot `n`. -/
def Req.onCart (r : Req) (n : Nat) : Bool :=
  (r.pkt.words.getD 0 0 % 256 = 1 || r.pkt.words.getD 0 0 % 256 = 3) && decide (dpaCart (bitsOf (r.pkt.words.getD 1 0) 41 0) = some n) && !r.decoded &&
    r.started.isNone && ((List.range ((bitsOf (r.pkt.words.getD 1 0) 41 0 + bitsOf (r.pkt.words.getD 2 0) 24 0 - 1) / 256 - bitsOf (r.pkt.words.getD 1 0) 41 0 / 256 + 1)).any
      (fun k => (SMap.get (fun _ => []) r.got (bitsOf (r.pkt.words.getD 1 0) 41 0 / 256 + k)).isEmpty))

/-- What slot `n` serves ends (R629): its host reads answer poison at their count, its stream requests fail, a copy and a save end REMOVED, its key slot empties. -/
def State.cartLeave (s : State) (n : Nat) : State :=
  let mounted := s.cartMounted n
  let rds := s.reads.list.map (fun (r : Rd) => if r.onCart n then { r with outs := [(dpaSector r.dpa, .poison 0)] } else r)
  let reqs := s.strm.reqs.map (fun (r : Req) => if r.onCart n && r.fail.isNone then { r with fail := some (0x25, 0, 0) } else r)
  let s2 := { s with reads := { s.reads with list := rds }, strm := { s.strm with reqs } }
  let s3 := if (s.zl n).copy.isSome then s2.copyEnd n 5 0 else s2
  let s4 := if (s.zl n).save.isSome then s3.saveEnd n 7 else s3
  let s5 := if mounted || (s.zl n).mounting then s4.setSlot (s.cartKeyid n) {} else s4
  let s6 := s5.onProt (fun p => if (s.zl n).mounting then { p with due := p.due.filter (fun d => d.2.1 ≠ s.cartKeyid n) } else p)
  (s6.onZl n (fun z => { z with
    cmds := [], wdata := [], unacked := [], replay := 0, ackDue := false, nakDue := false, resp := none, dropping := false, mounting := false, degrading := false })).setFld
    (Reg.ZL.STATUS.RIGHTS n) 0

/-- The lanes stop, CARTn_RST_N and CARTn_CLK go off, CARTn_PWR goes low (R629); `state` shows until CARTn_PG has been low, then the slot is in `after`. -/
def State.cartPowerOff (s : State) (n state after : Nat) : State :=
  ((s.onZl n (fun z => { z with power := false, clock := false, rstN := false, after })).setFld (Reg.ZL.STATUS.WIDTH n) 0).zlTo n state

/-- The slot is LOCKED with a cause of R618, its outputs off. -/
def State.cartLock (s : State) (n cause : Nat) : State := ((s.cartPowerOff n zlLocked zlLocked).setFld (Reg.ZL.STATUS.AUTH_CAUSE n) cause)

/-- A mount fails, without its Tremor (R618): AUTH_CAUSE, AUTH_FAIL, a WARN record, LOCKED. -/
def State.mountFailed (s : State) (n cause : Nat) : State :=
  ((s.cartLeave n).cartLock n cause).raiseRec (Reg.ZL.INT_STATUS.AUTH_FAIL n) sevWarn clsCart n 0 0 0

end Sys2Proof.Machine
end

