-- ==== Sys2Proof/Machine/Ends.lean ====
section
/-! DEFINITION. How an Eruption ends the work of the stream engine, the cartridge slots and the secure sessions (R492, R553, R556, R619). -/

namespace Sys2Proof.Machine

/-- Secure sessions end with their keys (R556). -/
def State.endSessions (s : State) : State := { s.setFld Reg.ATT.SPDM.SESSIONS 0 with mbox := { s.mbox with sessions := [] } }

/-- Every dictionary slot is cleared (R492); its generations go on. -/
def State.clearDicts (s : State) : State :=
  ({ s with strm := { s.strm with dicts := SMap.mapv (fun _ => {}) (fun _ d => { gen := d.gen }) s.strm.dicts } }).each (List.range 4) (fun s i =>
    (s.setFld (Reg.DCX.DICT.STATE i) 0).setFld (Reg.DCX.DICT_ID.ID i) 0)

/-- Accepted stream requests on keyed regions fail with FAILED_POISON (R556). -/
def State.poisonStreams (s : State) : State :=
  let keyed (r : Req) : Bool :=
    let dpa := bitsOf (r.pkt.words.getD 1 0) 41 0
    (match s.regionOf (dpaPaddock dpa) with | some i => (s.region i).keyed | none => false) && decide (r.pkt.words.getD 0 0 % 256 ≤ 3)
  { s with strm := { s.strm with reqs := s.strm.reqs.map (fun (r : Req) => if keyed r && r.fail.isNone then { r with fail := some (0x20, 0, 0) } else r) } }

/-- A slot that is mounted, or in authentication, is LOCKED with cause 0xB (R618, R619, R630). -/
def State.eruptCart (s : State) (n : Nat) : State := if s.cartMounted n || s.zlState n = zlAuth then s.mountFailed n 0xB else s

/-- Level 2 of the Deleper port ends (R824). -/
def State.endDebug (s : State) : State :=
  if s.fld Reg.DBG.STATUS.LEVEL = 2 then (s.setFld Reg.DBG.STATUS.LEVEL 1).raise Reg.DBG.INT_STATUS.SESSION_END else s

/-- Stream requests and dictionaries, cartridge mounts, and the debug session (R492, R556, R619, R824). -/
def State.eruptOthers (s : State) : State := (((s.poisonStreams.clearDicts).eruptCart 0).eruptCart 1).endDebug

end Sys2Proof.Machine
end

