-- ==== Sys2Proof/Machine/Alarm.lean ====
section
/-! DEFINITION. Tremor and Eruption (R555 to R558) as operations. -/

namespace Sys2Proof.Machine

/-- Every key slot, derived schedule, session key and IDE key is zeroised (R556). A KEY operation in progress ends with RESULT 7. -/
def State.zeroiseKeys (s : State) : State :=
  ((s.onProt (fun p => { p with slots := [], removed := [], due := [], op := p.op.map (fun o => { o with result := 7 }) })).onLink
    (fun l => { l with ideKeys := false, ideMemKeys := false })).endSessions

/-- The segment belongs to a keyed region. -/
def State.segKeyed (s : State) (lseg : Nat) : Bool := match s.regionOfSeg lseg with | some i => (s.region i).keyed | none => false

/-- What an Eruption does to data (R304, R377, R386, R556): staged lines and unbuilt snapshots of keyed regions go, their open groups are aborted, caches and the sector cache are cleared, stream and cartridge work on keys ends. -/
def State.eruptData (s : State) : State :=
  let groups := (s.xlt.groups.filter (fun e => (match e.2.st with | .opened | .draining => true | .overflow => !e.2.ended | _ => false) && (s.region e.2.region).keyed)).map (fun e => e.1)
  let s1 := (s.each groups State.abortGroup).dropStaged (fun l _ => s.segKeyed l)
  let s2 := s1.dropSnaps (fun x => x.st = .waiting && s.segKeyed x.lseg)
  ((s2.dropHost (fun _ => true)).scErupt).eruptOthers

/-- An intent sequence number is taken, its LIMIT raised by steps of 64 where needed (R757, R759). -/
def Pnv.nextIntent (p : Pnv) : Pnv :=
  let n := p.seq + 1
  { p with seq := n, seqLimit := if p.seqLimit < n then n + 63 else p.seqLimit }

/-- ERUPTION (R556, R558): a cause of R556 as a bit mask. -/
def State.erupt (s : State) (bits : Nat) : State :=
  match s.dev.st with
  | .off | .seqUp => s.onPnv (fun p => { p with latched := p.latched ||| bits })
  | .seqDown => (s.onPnv (fun p => { p with latched := p.latched ||| bits })).zeroiseKeys
  | _ =>
    if s.pwr.standby then (s.onPnv (fun p => { p with latched := p.latched ||| bits })).zeroiseKeys
    else if s.flag Reg.ALM.STATUS.ZEROISING then
      let m := s.fld Reg.ALM.CAUSE.CAUSE ||| bits
      ((s.setFld Reg.ALM.CAUSE.CAUSE m).onPnv (fun p => { p with cause := m })).report
        { sev := sevAlarm, cls := clsDevice, code := 0x2303, page := 0x23, inst := 0, p1 := m, p2 := 0, p3 := 0 }
    else
      let n := min (s.pnv.eruptions + 1) 0xFFFF
      let s1 := ((((s.setFld Reg.ALM.CAUSE.CAUSE bits).setFlag Reg.ALM.STATUS.ERUPTED true).setFlag Reg.ALM.STATUS.ZEROISING true).setFld
        Reg.ALM.ERUPT_BELL.BELL (s.clk.bell % 2 ^ 32)).setFld Reg.ALM.COUNTS.ERUPTIONS n
      let s2 := s1.onPnv (fun p => { p.nextIntent with erupted := true, cause := bits, eruptions := n, erasing := true, inst := none })
      (s2.zeroiseKeys.eruptData).raiseRec Reg.ALM.INT_STATUS.ERUPTION sevAlarm clsDevice 0 0 0 0

/-- Detections latched while the device was down or in standby are carried out (R557). -/
def State.eruptLatched (s : State) : State :=
  if s.pnv.latched = 0 then s else (s.onPnv (fun p => { p with latched := 0 })).erupt s.pnv.latched

/-- The level rises, or returns to 0 at an Eruption; saved to the PNV (R555). -/
def State.setLevel (s : State) (n : Nat) : State := (s.setFld Reg.ALM.STATUS.LEVEL n).onPnv (fun p => { p with level := n })

/-- A Tremor of code `code`, raised by an access of class `cls` (R555). -/
def State.tremor (s : State) (code cls : Nat) : State :=
  let s1 := ((s.bump Reg.ALM.COUNTS.TREMORS).setFld Reg.ALM.STATUS.LAST_SRC code).raiseRec Reg.ALM.INT_STATUS.TREMOR sevWarn cls 0 code 0 0
  let s2 := s1.event 3 0 [0x2301, s1.tally.seq]
  if code = 8 || s2.prot.tremors.getLsbD code || !bitOf (s2.fld Reg.ALM.SRC_EN.EN) (code - 1) then s2
  else
    let n := s2.fld Reg.ALM.STATUS.LEVEL + 1
    let c := s2.fld Reg.ALM.CFG.CEILING
    let s3 := (s2.onProt (fun p => { p with tremors := p.tremors ||| (1#9 <<< code) })).setLevel n
    let s4 := if n = (c + 1) / 2 then s3.raise Reg.ALM.INT_STATUS.LEVEL_HALF else s3
    if c ≤ n then (s4.setLevel 0).erupt 0x20 else s4

/-- At a flock boundary LEVEL decays and every Tremor code counts again (R555). -/
def State.tremorFlock (s : State) : State :=
  let s1 := s.onProt (fun p => { p with tremors := 0 })
  if s1.flock % 2 ^ s1.fld Reg.ALM.CFG.DECAY = 0 then
    let n := s1.fld Reg.ALM.STATUS.LEVEL
    if 0 < n then s1.setFld Reg.ALM.STATUS.LEVEL (n - 1) else s1
  else s1

end Sys2Proof.Machine
end

