-- ==== Sys2Proof/Machine/Drift.lean ====
section
/-! DEFINITION. Drift tracking (chapter 05): sets and classes, counting of decodes, the evaluation at bell 62, the bank switch, predictions, and the inspection registers. -/

namespace Sys2Proof.Machine

/-- `s` with the drift state changed by `f`. -/
def State.onDrift (s : State) (f : Drift → Drift) : State := { s with drift := f s.drift }

/-! ### Sets (R256, R260 to R262) -/

/-- The temperature class of die `d` in effect. -/
def State.dieClass (s : State) (d : Nat) : Nat := bitsOf (s.fld (Reg.DRF.DIE_CLASS.CLASS (d / 16))) (2 * (d % 16) + 1) (2 * (d % 16))

/-- The classes of the 20 dies of gang `g`. -/
def State.classesOf (s : State) (g : Nat) : List Nat := (List.range 20).map (fun i => s.dieClass (dieNo g i))

/-- The age bin of an age in epoch units (R260). -/
def ageBin (a : Nat) : Nat := if a = 0 then 0 else min 15 (Nat.log2 a / 2 + 1)

/-- The device epoch (R258). -/
def State.epoch (s : State) : Nat := s.fld Reg.DRF.EPOCH.EPOCH

/-- The age bin of the band of a physical segment; bin 0 for an open or verifying fold band (R261). -/
def State.psaBin (s : State) (psa : Nat) : Nat :=
  let b := s.band (psaGang psa) (psaBand psa)
  if b.st = .tlcClosed then ageBin (s.epoch - b.epoch) else 0

/-- The active bank of gang `g`: 0 A, 1 B. -/
def State.activeBank (s : State) (g : Nat) : Nat := s.fld (if g = 0 then Reg.DRF.STATUS.BANK0 else Reg.DRF.STATUS.BANK1)

/-- Gang `g` is in its change window (R270). -/
def State.inWindow (s : State) (g : Nat) : Bool := s.flag (if g = 0 then Reg.DRF.STATUS.WINDOW0 else Reg.DRF.STATUS.WINDOW1)

/-- Key of set `n` of die `d`. -/
def driftKey (d n : Nat) : Nat := 64 * d + n
/-- A set. -/
def State.driftSet (s : State) (d n : Nat) : DriftSet := SMap.get (fun _ => {}) s.drift.sets (driftKey d n)
/-- A set replaced. -/
def State.setDriftSet (s : State) (d n : Nat) (x : DriftSet) : State :=
  s.onDrift (fun t => { t with sets := SMap.set (fun _ => {}) t.sets (driftKey d n) x })

/-- The codes of a set in a bank. -/
def DriftSet.bank (x : DriftSet) (b : Nat) : List Int := if b = 0 then x.bankA else x.bankB

/-- The code that a step count from the factory code of boundary `k` stands for. -/
def codeOf (d n k : Nat) (step : Int) : Int := (Config.factoryCode d n k).toNat + step

/-! ### Counting (R263 to R266) -/

/-- The bit of level `l` in page `page` (0 lower, 1 middle, 2 upper) under the Gray code of R88. -/
def levelBit (page l : Nat) : Nat :=
  ((match page with
    | 0 => [1, 0, 0, 1, 1, 0, 0, 1]
    | 1 => [1, 1, 0, 0, 0, 0, 1, 1]
    | _ => [1, 1, 1, 1, 0, 0, 0, 0]) : List Nat).getD l 0

/-- One more in HIGH or LOW of boundary `k`; both are halved first where it would pass 0xFFFF (R265). -/
def DriftSet.vote (x : DriftSet) (k : Nat) (high : Bool) : DriftSet :=
  let h := x.high.getD (k - 1) 0
  let l := x.low.getD (k - 1) 0
  let v := if high then h else l
  let h1 := if 0xFFFF ≤ v then h / 2 else h
  let l1 := if 0xFFFF ≤ v then l / 2 else l
  { x with high := x.high.set (k - 1) (h1 + b2n high), low := x.low.set (k - 1) (l1 + b2n (!high)) }

/-- One corrected bit of a cell sensed at level `l` in page `page` (R264). -/
def State.driftBit (s : State) (d n page l : Nat) : State :=
  let x := { s.driftSet d n with err := (s.driftSet d n).err + 1 }
  if 1 ≤ l && decide (levelBit page (l - 1) ≠ levelBit page l) then s.setDriftSet d n (x.vote l true)
  else if l ≤ 6 && decide (levelBit page (l + 1) ≠ levelBit page l) then s.setDriftSet d n (x.vote (l + 1) false)
  else (s.setDriftSet d n x).bumpSat Reg.DRF.DISCARD.UNATTRIBUTED

/-- The 128 cells of a chunk are observed (R264, R265). -/
def DriftSet.observe (x : DriftSet) : DriftSet :=
  if 2 ^ 31 < x.obs + 128 then { x with obs := x.obs / 2 + 128, err := x.err / 2 } else { x with obs := x.obs + 128 }

/-- Live observations of a die's set, so at a bin in a class (R266): in this flock, and in the last. -/
def State.liveObs (s : State) (old : Bool) (d n : Nat) : Nat := SMap.get (fun _ => 0) (if old then s.drift.liveOld else s.drift.live) (driftKey d n)

/-- What one chunk of a counted decode contributes: observation and each corrected bit with its sensed level. -/
def State.driftChunk (s : State) (d n page : Nat) (wrong : Chunk) (levels : List (Nat × Nat)) : State :=
  let s1 := s.setDriftSet d n (s.driftSet d n).observe
  s1.each ((List.range 128).filter (fun b => bitOf wrong.toNat b)) (fun s b =>
    s.driftBit d n page ((levels.find? (fun x => x.1 = b)).map (fun x => x.2) |>.getD 0))

/-- A TLC decode that succeeded is counted (R263 to R266). `rx` and `cor` are the chunks received and corrected, `levels` the sensed levels by position, `live` whether a host or stream read decoded it, else the Shepherd. -/
def State.driftDecode (s : State) (psa bank bin : Nat) (classes : List Nat) (er : List Nat) (live : Bool) (rx cor : List Chunk)
    (levels : Nat → List (Nat × Nat)) : State :=
  let g := psaGang psa
  let at_ (i : Nat) : Nat := dieNo g i
  let ps := (List.range 20).filter (fun i => !er.contains i &&
    (live || decide (s.liveObs true (at_ i) (16 * s.dieClass (at_ i) + bin) < s.appFld Reg.DRF.CTRL.IDLE_OBS)))
  if 2 < er.length || ps.isEmpty then s
  else if bank ≠ s.activeBank g then s.bumpSat Reg.DRF.DISCARD.STALE
  else
    let s1 := if live then s.bump Reg.DRF.OBS_LIVE.DECODES
      else (s.bump Reg.DRF.OBS_SHEP.DECODES).setFlag Reg.SHP.STATUS.IDLE_FEED true
    s1.each ps (fun s i =>
      let n := 16 * classes.getD i 0 + bin
      let s2 := s.driftChunk (at_ i) n (psaLevel psa) (rx.getD i 0 ^^^ cor.getD i 0) (levels i)
      if live then s2.onDrift (fun t => { t with live := SMap.set (fun _ => 0) t.live (driftKey (at_ i) n) (s.liveObs false (at_ i) n + 1) }) else s2)

/-- The result of a retry under the previous bank is told to the tracker where some named set differs between the banks (R270, R271). -/
def State.oldRefRetry (s : State) (g bin : Nat) (classes : List Nat) (ok : Bool) : State :=
  let differ := (List.range 20).any (fun i =>
    let x := s.driftSet (dieNo g i) (16 * classes.getD i 0 + bin)
    decide (x.bankA ≠ x.bankB))
  if !differ then s
  else
    let s1 := s.bump Reg.DRF.OLD_REF.RETRIES
    if ok then (s1.bump Reg.DRF.OLD_REF.SUCCESSES).onDrift (fun t => { t with votes := SMap.set (fun _ => 0) t.votes g (SMap.get (fun _ => 0) t.votes g + 1) })
    else s1

/-! ### Classes (R262) -/

/-- The class that the rising rule gives for a temperature in °C. -/
def State.risingClass (s : State) (t : Int) : Nat :=
  let th (f : Fld) : Int := toSigned 8 (s.fld f)
  if th Reg.DRF.CLASS_CFG.CLASS3_T ≤ t then 3 else if th Reg.DRF.CLASS_CFG.CLASS2_T ≤ t then 2 else if th Reg.DRF.CLASS_CFG.CLASS1_T ≤ t then 1 else 0

/-- The threshold of class `c`. -/
def State.classTemp (s : State) (c : Nat) : Int :=
  toSigned 8 (s.fld (if c = 3 then Reg.DRF.CLASS_CFG.CLASS3_T else if c = 2 then Reg.DRF.CLASS_CFG.CLASS2_T else Reg.DRF.CLASS_CFG.CLASS1_T))

/-- The class decided for die `d` (R262). -/
def State.decideClass (s : State) (d : Nat) : Nat :=
  let t := toSigned 8 (s.fld (Reg.MED.DIE_STATUS.TEMP (dieStack d) (diePos d)))
  let c := s.dieClass d
  let up := s.risingClass t
  let hyst : Int := s.fld Reg.DRF.CLASS_CFG.HYST
  if (SMap.get (fun _ => {}) s.hk.sensors d).broken then 3
  else if c < up then up
  else if 0 < c && decide (t < s.classTemp c - hyst) then s.risingClass (t + hyst) else c

/-- The class of die `d` takes effect. -/
def State.setClass (s : State) (d c : Nat) : State :=
  if s.dieClass d = c then s
  else
    let f := Reg.DRF.DIE_CLASS.CLASS (d / 16)
    (s.setFld f (putBits (s.fld f) (2 * (d % 16) + 1) (2 * (d % 16)) c)).raise Reg.DRF.INT_STATUS.CLASS_CHANGE

/-! ### The evaluation (R257, R267, R268, R271) -/

/-- A step of boundary `k` of a set keeps the limits of R257. -/
def withinLimits (d n k : Nat) (codes : List Int) (dir : Int) : Bool :=
  let c (j : Nat) : Int := codeOf d n j (codes.getD (j - 1) 0)
  let v := c k + dir
  decide (1 ≤ v) && decide (v ≤ 126) && (decide (k = 1) || decide (c (k - 1) + 3 ≤ v)) && (decide (k = 7) || decide (v + 3 ≤ c (k + 1)))

/-- Boundary `k` of a set is evaluated; the second component tells whether its code changed. -/
def State.evalBoundary (s : State) (d n k : Nat) (rollback : Bool) : State × Bool :=
  let x := s.driftSet d n
  let i := k - 1
  let h := x.high.getD i 0
  let l := x.low.getD i 0
  let thr := s.appFld Reg.DRF.CTRL.STEP_THRESH
  let cleared (x : DriftSet) : DriftSet := { x with high := x.high.set i 0, low := x.low.set i 0 }
  if rollback && bitOf x.stepped i then
    (s.setDriftSet d n (cleared { x with code := x.code.set i (x.prev.getD i 0), hold := x.hold.set i 64 }), true)
  else if x.hold.getD i 0 ≠ 0 then (s, false)
  else
    let dir : Int := if thr + l ≤ h then 1 else if thr + h ≤ l then -1 else 0
    if dir = 0 then (s, false)
    else if withinLimits d n k x.code dir then
      ((s.setDriftSet d n (cleared { x with code := x.code.set i (x.code.getD i 0 + dir) })).bump (if dir = 1 then Reg.DRF.STEPS.UP else Reg.DRF.STEPS.DOWN), true)
    else ((s.bumpSat Reg.DRF.ADJUST.CLAMPED).raise Reg.DRF.INT_STATUS.CLAMPED, false)

/-- The seven boundaries of a set, in order. -/
def State.evalSet (s : State) (d n : Nat) (rollback : Bool) : State × Bool :=
  [1, 2, 3, 4, 5, 6, 7].foldl (fun acc k => let r := acc.1.evalBoundary d n k rollback; (r.1, acc.2 || r.2)) (s, false)

/-- Gang `g` is eligible in the present flock (R268). -/
def State.driftEligible (s : State) (g : Nat) : Bool :=
  match SMap.get (fun _ => none) s.drift.lastSwitch g with
  | some f => decide (f + 1 ≤ s.flock)
  | none => true

/-- The spare bank takes the working table, and REF_WRITE is issued for every set of every non-failed die of the gang (R267). Boundaries whose codes differ from the active bank are the ones that this switch steps. -/
def State.writeSpare (s : State) (g : Nat) : State :=
  let spare := 1 - s.activeBank g
  let active := s.activeBank g
  let upd (k : Nat) (y : DriftSet) : DriftSet :=
    if dieGang (k / 64) = g then
      let old := y.bank active
      let x := if spare = 0 then { y with bankA := y.code } else { y with bankB := y.code }
      { x with prev := old, stepped := (List.range 7).foldl (fun m i => if old.getD i 0 ≠ y.code.getD i 0 && y.hold.getD i 0 = 0 then m + 2 ^ i else m) 0 }
    else y
  let s1 := s.onDrift (fun t => { t with sets := SMap.mapv (fun _ => {}) upd t.sets })
  s1.each (((List.range 20).map (dieNo g)).filter (fun d => !s.dieFailed d)) (fun s d => s.each (List.range 64) (fun s n =>
    s.emit (.die d 0x07 ([spare, n] ++ ([1, 2, 3, 4, 5, 6, 7].map (fun k => (codeOf d n k ((s.driftSet d n).code.getD (k - 1) 0)).toNat))))))

/-- The spare bank of gang `g` is written, or waits while a sense in flight names it (R96). -/
def State.spareWrite (s : State) (g : Nat) : State :=
  if s.namesBank g (1 - s.activeBank g) then s.onDrift (fun t => { t with spareDue := addNew g t.spareDue }) else s.writeSpare g

/-- The spare banks that wait are written as far as no sense names them any more (R96). -/
def State.spareRetry (s : State) : State :=
  s.each s.drift.spareDue (fun s g => (s.onDrift (fun t => { t with spareDue := t.spareDue.erase g })).spareWrite g)

/-- The evaluation of gang `g` at bell 62 (R267, R268, R271). -/
def State.driftEval (s : State) (g : Nat) : State :=
  if s.appFld Reg.DRF.CTRL.TRACK_ENABLE = 0 || !s.driftEligible g then s
  else
    let votes := SMap.get (fun _ => 0) s.drift.votes g
    let rollback := decide (s.appFld Reg.DRF.CTRL.ROLLBACK_THRESH ≤ votes)
    let s1 := s.onDrift (fun t => { t with votes := SMap.set (fun _ => 0) t.votes g 0 })
    let keys := (s1.drift.sets.map (fun e => e.1)).filter (fun k => dieGang (k / 64) = g && !s.dieFailed (k / 64))
    let r := keys.foldl (fun (acc : State × Bool) k => let r := acc.1.evalSet (k / 64) (k % 64) rollback; (r.1, acc.2 || r.2)) (s1, false)
    let s2 := if rollback then
        (r.1.bumpSat Reg.DRF.ADJUST.ROLLBACKS).raiseRec Reg.DRF.INT_STATUS.ROLLBACK sevNotice clsDevice g
          (match SMap.get (fun _ => none) s.drift.lastSwitch g with | some f => f % 2 ^ 32 | none => 0) 0 0
      else r.1
    if r.2 then (s2.spareWrite g).onDrift (fun t => { t with switching := t.switching ++ [g] }) else s2

/-- DRIFT_EVALUATION (R262, R267): at bell 62 of every flock the classes are decided, in every state in which the controller is on; each gang is evaluated while its reads are served. -/
def execDriftEvaluation (phase : Nat) (s : State) : Res :=
  let s0 := s.at_ phase
  .next (if s0.clk.bell % 64 = 62 && s0.pwr.ctrlOn then
    let s1 := s0.onDrift (fun t => { t with classNext := ((List.range s0.nDies).filter (fun d => !s0.dieFailed d)).map (fun d => (d, s0.decideClass d)) })
    if s0.serving then s1.each s1.gangIds State.driftEval else s1
  else s0)

/-! ### The flock boundary -/

/-- The classes decided at bell 62 take effect (R262). -/
def State.classFlock (s : State) : State := (s.each s.drift.classNext (fun s e => s.setClass e.1 e.2)).onDrift (fun t => { t with classNext := [] })

/-- Banks switch, hold counts fall, the live observations of the last flock are kept (R266, R267, R268). -/
def State.driftFlock (s : State) : State :=
  let s2 := s.onDrift (fun t => { t with
    liveOld := t.live, live := [], switching := [],
    sets := SMap.mapv (fun _ => {}) (fun _ y => { y with hold := y.hold.map (fun h => h - 1) }) t.sets,
    lastSwitch := t.switching.foldl (fun m g => SMap.set (fun _ => none) m g (some s.flock)) t.lastSwitch })
  let s3 := (s2.setFlag Reg.DRF.STATUS.WINDOW0 (s.drift.switching.contains 0)).setFlag Reg.DRF.STATUS.WINDOW1 (s.drift.switching.contains 1)
  let s4 := s3.setFlag Reg.SHP.STATUS.IDLE_FEED false
  s4.each s.drift.switching (fun s g =>
    let f := if g = 0 then Reg.DRF.STATUS.BANK0 else Reg.DRF.STATUS.BANK1
    ((s.setFld f (1 - s.fld f)).bump Reg.DRF.SWITCHES.SWITCHES).raise Reg.DRF.INT_STATUS.SWITCHED)

/-- The device epoch rises by `n`, saturating (R258, R273). -/
def State.epochBy (s : State) (n : Nat) : State := s.setFld Reg.DRF.EPOCH.EPOCH (min (s.epoch + n) 0xFFFFFFFF)

/-- EPOCH_ADVANCE acts at the flock boundary (R273); a sum past 0xFFFF_FFFF saturates and sets CFG_ERR. -/
def State.epochAdvance (s : State) : State :=
  let n := s.drift.advance
  if n = 0 then s
  else
    let s1 := (s.onDrift (fun t => { t with advance := 0 })).epochBy n
    if 0xFFFFFFFF < s.epoch + n then s1.cfgErr 0x0E 2 3 0x54 n else s1

/-- EPOCH_ADVANCE (R273, R281): the written units wait for the next flock boundary. -/
def State.epochWrite (s : State) (w : Nat) : State := s.onDrift (fun t => { t with advance := t.advance + w })

/-! ### Prediction (R274) -/

/-- PRED(g, b). -/
def State.pred (s : State) (g bin : Nat) : Bool :=
  let ds := (((List.range 20).map (dieNo g)).filter (fun d => !s.dieFailed d)).map (fun d => s.driftSet d (16 * s.dieClass d + bin))
  let q := ds.filter (fun x => decide (s.appFld Reg.DRF.REFRESH_CFG.PRED_MIN_OBS * 1024 ≤ x.obs))
  if q.isEmpty then decide (s.appFld Reg.DRF.REFRESH_CFG.DEFAULT_BIN ≤ bin)
  else q.any (fun x => decide (x.obs ≤ x.err * 2 ^ s.appFld Reg.DRF.REFRESH_CFG.REFRESH_SHIFT))

/-- Band `b` of gang `g` is queued for refresh at a flock boundary (R194). -/
def State.refreshDue (s : State) (g : Nat) (x : Band) : Bool :=
  (x.st = .tlcClosed && s.pred g (ageBin (s.epoch - x.epoch))) || (x.st = .caldera && decide (2 ^ 24 < s.epoch - x.epoch))

/-! ### Inspection (R293 to R298) -/

/-- A write of INSPECT_SEL (R293): READY clears and the selected entries are captured. -/
def State.inspectSel (s : State) (src : Source) (w : Nat) : State :=
  let d := bitsOf w 29 24
  let n := bitsOf w 21 16
  let k := bitsOf w 14 12
  let from_ := bitsOf w 9 8
  let x := s.driftSet d n
  let codes : List Int := if from_ = 0 then x.code else if from_ = 1 then x.bankA else x.bankB
  let real := decide (d < s.nDies)
  let c (j : Nat) : Nat := if real && decide (from_ ≠ 3) then (codeOf d n j (codes.getD (j - 1) 0)).toNat % 128 else 0
  let cnt (l : List Nat) : Nat := if real && decide (k ≠ 0) then l.getD (k - 1) 0 else 0
  let s1 := s.setReg Reg.DRF.INSPECT_SEL.word (w % 2 ^ 31 &&& 0x3F3F7300)
  let s2 := (s1.setReg Reg.DRF.REF_DATA0.word (c 1 + c 2 * 2 ^ 7 + c 3 * 2 ^ 14 + c 4 * 2 ^ 21)).setReg Reg.DRF.REF_DATA1.word (c 5 + c 6 * 2 ^ 7 + c 7 * 2 ^ 14)
  let s3 := s2.setReg Reg.DRF.COUNTS.word (cnt x.high * 2 ^ 16 + cnt x.low)
  let s4 := (s3.setReg Reg.DRF.RATE_ERR.word (if real then x.err else 0)).setReg Reg.DRF.RATE_OBS.word (if real then x.obs else 0)
  let s5 := s4.onDrift (fun t => { t with inspect := some s.now })
  if 40 ≤ d then s5.cfgErr 0x0E 2 src.code 0xC0 w else s5

/-- INSPECT_READY (R293): READY is set 16 clk after the capture. -/
def execInspectReady (phase : Nat) (s : State) : Res :=
  let s0 := s.at_ phase
  .next (match s0.drift.inspect with
    | some c => if c + 16 ≤ s0.now then (s0.onDrift (fun t => { t with inspect := none })).setFlag Reg.DRF.INSPECT_SEL.READY true else s0
    | none => s0)

end Sys2Proof.Machine
end

