-- ==== Sys2Proof/Machine/SectorRead.lean ====
section
/-! DEFINITION. One attempt at one sector (R128 to R136, R541) and what it counts; transient and lasting faults (R137 to R140); chunk faults (R109, R110). -/

namespace Sys2Proof.Machine

/-- The consumer verifies the tag (table before R136; R548 for a build's partial sector, R549 for a STRICT check). -/
def Consumer.verifies (c : Consumer) : Bool :=
  match c with
  | .host | .stream | .reencrypt | .check => true
  | .drover | .shepherd => false

/-- What a sense was made for: segment, references named, positions not sensed, consumer, master class, and whether a success may feed the drift tracker as live (`some true`) or as the Shepherd's (R263). -/
structure Sensing where
  psa : Nat
  lseg : Nat
  bank : Nat
  bin : Nat
  classes : List Nat
  er : List Nat
  who : Consumer
  cls : Nat
  track : Option Bool

/-- An attempt at one sector: outcome, chunks received and corrected, positions found in error, symbols corrected, erasure set, that set without parity failures, whether an unchecked decode was accepted, whether a tag was examined. -/
structure Attempt where
  out : SecOut
  rx : List Chunk
  cor : List Chunk
  hit : List Nat
  syms : Nat
  er : List Nat
  base : List Nat := []
  unchecked : Bool := false
  tagged : Bool := false

/-- The bits in error of position `p` of sector `k`. -/
def Sensed.flipsAt (x : Sensed) (k p : Nat) : Chunk :=
  (x.errs.filter (fun e => decide (e.sector = k) && decide (e.pos = p))).foldl (fun acc e => acc ^^^ e.flips) 0
/-- The sensed levels known for position `p` of sector `k`. -/
def Sensed.levelsAt (x : Sensed) (k p : Nat) : List (Nat × Nat) :=
  (x.errs.filter (fun e => decide (e.sector = k) && decide (e.pos = p))).flatMap (fun e => e.levels)
/-- The positions of sector `k` whose transfer parity failed, among those sensed. -/
def Sensed.parityOf (x : Sensed) (k : Nat) (er : List Nat) : List Nat :=
  (((x.parity.filter (fun e => decide (e.1 = k))).map (fun e => e.2)).filter (fun p => p < 20 && !er.contains p)).eraseDups

/-- The chunks that a sense brings in for sector `k`. -/
def State.received (s : State) (psa k : Nat) (er : List Nat) (x : Sensed) : List Chunk :=
  (List.range 20).map (fun p => if er.contains p then 0 else s.chunk psa k p ^^^ x.flipsAt k p)

/-- The outcome of R136 for chunks and an erasure set. -/
def State.outcome (s : State) (c : Sensing) (k : Nat) (rx : List Chunk) (er : List Nat) : Attempt :=
  let failed (cause : Nat) (cor : List Chunk) (hit : List Nat) (tagged : Bool) : Attempt :=
    { out := .fail cause, rx, cor, hit, syms := 0, er, tagged }
  if 4 ≤ er.length then failed 0 [] [] false
  else
    let dec := decodeStripe rx er
    let hit := dec.hit
    let syms := dec.syms
    match dec.cor with
    | none => { failed 0 [] hit false with syms }
    | some cor =>
      let m := cor.getD 16 0
      let d := dataOf cor
      let lsn := c.lseg * 16 + k
      let slc := s.psaSlc c.psa
      let r := s.regionOf (lsn / 2 ^ 16)
      let hasTag := match r with | some i => (s.region i).keyed | none => false
      let ok := match r with | some i => (s.tagKey i lsn m d).isSome | none => true
      let good (o : SecOut) (u t : Bool) : Attempt := { out := o, rx, cor, hit, syms, er, unchecked := u, tagged := t }
      if er.length = 3 then
        if mdValid m && !mdPoison m && c.who.verifies && hasTag && decide (mdSlc m = slc) then
          if ok then good (.data d m) true true else { failed 2 cor hit true with syms }
        else { failed 2 cor hit false with syms }
      else if !mdValid m then good .zeros false false
      else if mdSlc m ≠ slc then { failed 3 cor hit false with syms }
      else if mdPoison m then good (.poison m) false false
      else if c.who.verifies && hasTag then (if ok then good (.data d m) false true else { failed 1 cor hit true with syms })
      else good (.data d m) false false

/-- The outcome is not FAIL. -/
def SecOut.ok (o : SecOut) : Bool := match o with | .fail _ => false | _ => true
/-- Cause of a FAIL. -/
def SecOut.cause (o : SecOut) : Nat := match o with | .fail c => c | _ => 0

/-- A chunk fault of a decode that succeeded is counted, and its confirmation sense is queued (R102, R110, R122). -/
def State.chunkFault (s : State) (psa k p : Nat) (right : Chunk) : State :=
  let d := dieNo (psaGang psa) p
  (s.bump (Reg.MED.DIE_CORR.CORRECTED (dieStack d) (diePos d))).onXlt (fun t => { t with confirms := t.confirms ++ [{ die := d, psa, sector := k, chunk := right }] })

/-- A transfer parity error is counted (R102, R123). -/
def State.parityFault (s : State) (psa p : Nat) : State :=
  let d := dieNo (psaGang psa) p
  (s.bumpSat (Reg.MED.DIE_ERR.IF_PARITY (dieStack d) (diePos d))).raise (Reg.MED.INT_STATUS.PARITY_ERR (dieStack d))

/-- The SEC counters and raised bits of an attempt (R145 to R154). -/
def State.secCounts (s : State) (g : Nat) (a : Attempt) : State :=
  let s1 := (s.bump (Reg.SEC.DECODES.DECODES g)).bumpBy (Reg.SEC.SYM_CORR.SYM_CORR g) a.syms
  let s2 := if a.er.isEmpty then s1 else s1.bump (Reg.SEC.ERASED.ERASED g)
  let s3 := if a.unchecked then (s2.bump (Reg.SEC.UNCHECKED.UNCHECKED g)).raise Reg.SEC.INT_STATUS.UNCHECKED else s2
  if a.out.cause = 3 then s3.raise Reg.SEC.INT_STATUS.FLAG_MISMATCH else s3

/-- What the tag of an attempt on sector `lsn` counts (R540, R541): a verification, and a mismatch or a decrypted sector. -/
def State.noteTag (s : State) (lsn cls : Nat) (a : Attempt) : State :=
  if !a.tagged then s
  else
    let s1 := s.ev 0x90 (some (lsn * 256)) (some cls) 1
    if a.out.ok then (s1.bump Reg.CRY.SECTORS_DEC.DEC).moved 21 false 256
    else (match s1.regionOf (lsn / 2 ^ 16) with | some i => s1.tagFailed i (a.cor.getD 16 0) | none => s1).ev 0x91 (some (lsn * 256)) (some cls) 1

/-- A sector found poisoned joins the poison list (R441), where a logical segment names it. -/
def State.notePoison (s : State) (lsn : Nat) (o : SecOut) : State :=
  match o with
  | .poison _ => if s.xlt.poisonSeen.contains lsn || decide (0x3FFFFFFF ≤ lsn / 16) then s else s.onXlt (fun t => { t with poisonSeen := t.poisonSeen ++ [lsn] })
  | _ => s

/-- The chunk fault of position `p` in an attempt on sector `k` at `psa`: one that `prior` holds was found before and is lasting (R110). -/
def noteChunk (psa k : Nat) (a : Attempt) (prior : List (Nat × Nat)) (s : State) (p : Nat) : State :=
  let d := dieNo (psaGang psa) p
  if prior.contains (k, p) then
    (if a.out.ok then s.bump (Reg.MED.DIE_CORR.CORRECTED (dieStack d) (diePos d)) else s).lastingChunk d
  else if a.out.ok then s.chunkFault psa k p (a.cor.getD p 0) else s

/-- The chunk faults of an attempt. -/
def State.noteChunks (s : State) (psa k : Nat) (faults : List Nat) (a : Attempt) (prior : List (Nat × Nat)) : State :=
  s.each faults (noteChunk psa k a prior)

/-- What an attempt on sector `k` counts and queues. `first`: it is the first attempt; `prior`: chunk faults of the first attempt of this read, which a fault found again makes lasting (R110). -/
def State.noteAttempt (s : State) (c : Sensing) (k : Nat) (x : Sensed) (a : Attempt) (first : Bool) (prior : List (Nat × Nat)) : State :=
  let g := psaGang c.psa
  let lsn := c.lseg * 16 + k
  let dpa := some (lsn * 256)
  let par := x.parityOf k (a.base ++ c.er)
  let s1 := (((s.secCounts g a).ev 0x20 dpa (some c.cls) 1).ev 0x21 dpa (some c.cls) a.syms).each par (fun s p => s.parityFault c.psa p)
  let s2 := ((s1.noteTag lsn c.cls a).notePoison lsn a.out).noteChunks c.psa k (a.hit ++ par).eraseDups a prior
  let s3 := if first && !a.out.ok then (s2.bump (Reg.SEC.FIRST_FAIL.FIRST_FAIL g)).ev 0x22 dpa (some c.cls) 1 else s2
  match c.track with
  | some live => if first && a.out.ok && !s3.psaSlc c.psa then s3.driftDecode c.psa c.bank c.bin c.classes a.er live a.rx a.cor (fun p => x.levelsAt k p) else s3
  | none => s3

/-- The chunk faults of an attempt that failed, for the comparison of R110; `er` were not sensed. -/
def Attempt.faults (a : Attempt) (x : Sensed) (k : Nat) (er : List Nat) : List (Nat × Nat) :=
  (a.hit ++ x.parityOf k (a.base ++ er)).eraseDups.map (fun p => (k, p))

/-! ### Transient and lasting faults (R138 to R140) -/

/-- A segment joins the rewrite queue; sectors with a lasting fault are added to a request that waits already. -/
def State.queueRewrite (s : State) (lseg psa : Nat) (bad : List Nat) : State :=
  let same (r : Rewrite) : Bool := decide (r.lseg = lseg) && decide (r.psa = psa)
  let l := s.xlt.rewrites
  let l1 := if l.any same then l.map (fun r => if same r then { r with bad := (r.bad ++ bad).eraseDups } else r) else l ++ [{ lseg := lseg, psa := psa, bad := bad }]
  s.onXlt (fun t => { t with rewrites := l1 })

/-- A transient fault of sector `k` is recorded (R138); `cause` is that of the first attempt. -/
def State.transientFault (s : State) (cls psa lseg k cause : Nat) : State :=
  let g := psaGang psa
  (s.bump (Reg.SEC.TRANSIENT.TRANSIENT g)).raiseRec Reg.SEC.INT_STATUS.TRANSIENT sevNotice cls g lseg (k + 16 * cause) psa

/-- A lasting fault of sector `k` is recorded (R138, R155, R156); `cause` and `er` are those of the second attempt. -/
def State.lastingFault (s : State) (cls psa lseg k cause : Nat) (er : List Nat) : State :=
  let g := psaGang psa
  let info := cause * 2 ^ 28 + k * 2 ^ 24 + (er.eraseDups.map (fun p => 2 ^ p)).sum
  let s1 := ((s.bump (Reg.SEC.LASTING.LASTING g)).setReg Reg.SEC.LAST_FAIL_PSA.word psa).setReg Reg.SEC.LAST_FAIL_INFO.word info
  (s1.raiseRec Reg.SEC.INT_STATUS.LASTING sevError cls g lseg (k + 16 * cause) psa).event 0 2 [lseg, k, psa]

/-- The second attempt of sector `k` is classed and recorded (R137, R138): `cause1` is the cause of the first. A lasting tag failure whose KEYGEN lies outside every window is Tremor 0x07 (R555). -/
def State.noteClass (s : State) (cls psa lseg k cause1 : Nat) (a : Attempt) : State :=
  if a.out.ok then s.transientFault cls psa lseg k cause1
  else
    let s1 := s.lastingFault cls psa lseg k a.out.cause a.er
    match s1.regionOf (lseg / 4096) with
    | some i => if a.tagged && s1.windowFail i (a.cor.getD 16 0) then s1.tremor 7 cls else s1
    | none => s1

/-- The second attempt of sector `k` is classed, and the segment is queued for rewrite, with the sector stored poisoned where its fault is lasting (R138). -/
def State.classify (s : State) (cls psa lseg k cause1 : Nat) (a : Attempt) : State :=
  (s.noteClass cls psa lseg k cause1 a).queueRewrite lseg psa (if a.out.ok then [] else [k])

/-! ### Confirmation and catch-up senses (R110, R143) -/

/-- The first start of a B slot, which only background senses use: the present clk is one, for gang `g` (R29). -/
def State.atB (s : State) (g : Nat) : Bool := decide (s.clk.phase % 256 = 0) && decide (s.slotTy g (s.clk.phase / 256) = .b)

/-- Die `d` is programming; in a Vent turn a failed die of the pair has none (R681). -/
def State.programming (s : State) (d : Nat) : Bool :=
  let r := s.rota (dieGang d)
  ((r.kind = .slc || r.kind = TurnKind.tlc) && decide (r.pos = dieLocal d)) ||
    (!s.dieFailed d && (match r.ventTurn with | some p => decide (dieLocal d = p) || decide (dieLocal d = p + 10) | none => false))

/-- The sense window of a segment read in TLC mode would cross the end of the present turn (R29). -/
def State.crossesTurn (s : State) (g psa : Nat) : Bool :=
  decide ((s.rota g).kind ≠ .none) && !s.psaSlc psa && decide ((s.rota g).turnEnd < s.now + 512)

/-- The background senses of gang `g` that hold an engine and a latch (R95): whole-segment ones, second senses, and the confirmation and catch-up senses in progress. -/
def State.bgHeld (s : State) (g : Nat) : Nat :=
  (s.reads.bg.filter (fun b => decide (psaGang b.psa = g))).length + (s.reads.second.filter (fun e => decide (e.1 = g) && decide (s.now < e.2.2))).length + (s.reads.short.filter (fun e => decide (dieGang e.1 = g) && decide (s.now < e.2))).length

/-- A sense of die `d` alone may start now, in a B slot, for a fragment of `psa` (R29, R49, R95, R110). -/
def State.shortOpen (s : State) (d psa : Nat) : Bool :=
  let g := dieGang d
  s.atB g && !s.programming d && decide (s.levelNow < 2) && decide (s.bgHeld g < 16) && !s.crossesTurn g psa

/-- A sense of the fragment of `psa` on die `d` alone starts (R101, R110, R143): `n` chunks leave it. -/
def State.shortSense (s : State) (d psa lseg n : Nat) : State :=
  let g := dieGang d
  let b := s.bookBg g n
  let s1 := (b.2.2.onReads (fun x => { x with short := x.short.filter (fun e => decide (s.now < e.2)) ++ [(d, b.2.1)] })).ev 0x11 (some (lseg * 4096)) (some clsDevice) 1
  s1.emit (senseCmd psa (s.psaSlc psa) (s.activeBank g) (s.psaBin psa) (s.dieClass d) b.1 (dieLocal d))

/-- CONFIRMATION_SENSE (R110): confirmation `n` of the queue runs in a B slot, its die not programming; `found` has the bits that it finds wrong in the stored chunk, and whether the chunk fails
its transfer parity, which is a chunk fault too (R109) and is counted (R102). -/
def execConfirmationSense (n : Nat) (found : Confirmed) (phase : Nat) (s : State) : Res :=
  let s0 := s.at_ phase
  .next (match s0.xlt.confirms[n]? with
    | some c =>
      if s0.dieFailed c.die then s0.onXlt (fun t => { t with confirms := t.confirms.eraseIdx n })
      else if s0.shortOpen c.die c.psa then
        let s1 := (s0.onXlt (fun t => { t with confirms := t.confirms.eraseIdx n })).shortSense c.die c.psa (s0.revOf c.psa).lseg 1
        if found.parity then (s1.parityFault c.psa (dieLocal c.die)).lastingChunk c.die
        else if s0.chunk c.psa c.sector (dieLocal c.die) ^^^ found.flips = c.chunk then s1 else s1.lastingChunk c.die
      else s0
    | none => s0)

/-- The chunk of sector `k` that a catch-up sense brings (R143): a parity error, or a difference from the corrected chunk, is a chunk fault. -/
def State.catchChunk (s : State) (c : CatchUp) (x : Sensed) (k : Nat) : State :=
  let p := dieLocal c.die
  let right := c.chunks.getD k 0
  if (x.parityOf k []).contains p then (s.parityFault c.psa p).chunkFault c.psa k p right
  else if s.chunk c.psa k p ^^^ x.flipsAt k p = right then s else s.chunkFault c.psa k p right

/-- CATCH_UP_SENSE (R143): catch-up `n` of gang `gang` runs in a B slot after the turn; each of its 16 chunks that differs from the corrected one is a chunk fault. A failed die needs none. -/
def execCatchUpSense (gang n : Nat) (sensed : Sensed) (phase : Nat) (s : State) : Res :=
  let s0 := s.at_ phase
  .next (match (s0.gang gang).shep.catchUps[n]? with
    | some c =>
      let drop (s : State) : State := s.onGang gang (fun x => { x with shep := { x.shep with catchUps := x.shep.catchUps.eraseIdx n } })
      if s0.dieFailed c.die then drop s0
      else if s0.shortOpen c.die c.psa then
        (((drop s0).bump (Reg.SHP.CATCHUP.CATCHUP gang)).shortSense c.die c.psa (s0.revOf c.psa).lseg 16).each (List.range 16) (fun s k => s.catchChunk c sensed k)
      else s0
    | none => s0)

end Sys2Proof.Machine
end

