-- ==== Sys2Proof/Machine/CartOps.lean ====
section
/-! DEFINITION. Cartridge slots as the other blocks see them (R612, R619 to R622): state, binding, commands queued to the target. -/

namespace Sys2Proof.Machine

/-- The next TAG, from `nextTag` on, that no command of the slot uses (R612). -/
def Zl.freeTag (z : Zl) : Nat := (((List.range 256).map (fun i => (z.nextTag + i) % 256)).find? (fun t => !z.cmds.any (fun c => c.tag = t))).getD z.nextTag

/-- A command joins the slot's queue (R612); it is sent at a frame boundary. -/
def State.cartCmd (s : State) (n op count arg prio : Nat) (wdata : List Line) (use : CartUse) : State :=
  s.onZl n (fun z => { z with cmds := z.cmds ++ [{ op, tag := z.freeTag, count, arg, prio, wdata, use }], nextTag := (z.freeTag + 1) % 256 })

/-- The plaintext outcome of a cartridge sector (R622, R624): its stored bytes and metadata symbol under the slot's key; `none` where it fails its tag. -/
def State.cartSector (s : State) (n c : Nat) (md : Chunk) (stored : SectorData) : Option SecOut :=
  let k := (s.slot (s.cartKeyid n)).key
  if !mdValid md then some .zeros
  else if mdPoison md then some (.poison md)
  else if tagOf k c (mdVersion md) (mdKeygen md) 0 stored = mdTag md then
    some (.data (decryptAs 2 k c (mdVersion md) (mdKeygen md) stored) md)
  else none

/-- The 256 bytes of a sector that reads zeros. -/
def zeroSector : List Nat := List.replicate 256 0

end Sys2Proof.Machine
end

