-- ==== Sys2Proof/Machine/HostMem.lean ====
section
/-! DEFINITION. CXL.mem requests (R302, R420, R424 to R432, R445, R549): acceptance, the checks of R426, writes and their acknowledgement, reads up to the known L2 miss. -/

namespace Sys2Proof.Machine

/-- A request can arrive: CXL operation with the link in L0, no IDE failure, not in VENT (R421, R436, R439). -/
def State.memOpen (s : State) : Bool :=
  s.link.up && s.link.cxl && !s.link.recovery && !s.link.ideDrop && (!s.link.ideMem || s.link.ideMemKeys) && decide (s.dev.st ≠ .vent)

/-- Acceptance (R420): the request waits while its L1P takes earlier ones. The answer is the clk of acceptance. -/
def State.accept (s : State) (a : Nat) : Nat × State :=
  let p := l1pOf a
  let free := SMap.get (fun _ => 0) s.link.l1pFree p
  let acc := max s.now free
  (acc, (s.onLink (fun l => { l with l1pFree := SMap.set (fun _ => 0) l.l1pFree p (acc + 1) })).bumpBy Reg.HLK.INGRESS_WAIT.WAIT (acc - s.now))

/-! ### Partner violations (R445) -/

/-- The counter of a violation's code. -/
def violCounter (code : Nat) : Fld :=
  match code with
  | 0x01 | 0x02 => Reg.HLK.VIOL_MEM.UNDECODED
  | 0x03 => Reg.HLK.VIOL_MEM.BAD_OPCODE
  | 0x04 => Reg.HLK.VIOL_MEM2.POISON_IN
  | 0x05 => Reg.HLK.VIOL_MEM2.CREDIT_OVERRUN
  | 0x06 => Reg.HLK.VIOL_IO.MALFORMED
  | 0x07 => Reg.HLK.VIOL_IO.EP_DROPPED
  | 0x08 => Reg.HLK.VIOL_IO2.CA_SENT
  | 0x09 => Reg.HLK.VIOL_MISC.PUSH_BAD
  | 0x0A => Reg.HLK.VIOL_IO2.UR_SENT
  | _ => Reg.HLK.VIOL_MISC.IDE_FAILS

/-- A violation is counted, shown in LAST_VIOL, raised and recorded. -/
def State.violation (s : State) (code : Nat) : State :=
  (((s.bumpSat (violCounter code)).setFld Reg.HLK.LAST_VIOL.CODE code).setFld Reg.HLK.LAST_VIOL.BELL (s.clk.bell % 2 ^ 24)).raiseRec
    Reg.HLK.INT_STATUS.VIOLATION sevNotice clsHost 0 code 0 0

/-- A violation that the standard's error registers log as well. -/
def State.violationLogged (s : State) (code : Nat) : State := (s.violation code).onLink (fun l => { l with logged := l.logged ++ [code] })

/-! ### Credits (R429, R430) -/

/-- A read of the host. -/
def Rd.isHost (r : Rd) : Bool := match r.who with | .host _ => true | _ => false
/-- Req credits in use: accepted requests whose response has not been handed off. -/
def State.reqOut (s : State) : Nat := (s.reads.list.filter Rd.isHost).length + (s.link.reqTill.filter (fun c => decide (s.now < c))).length
/-- The host holds a Req credit of the 6, an RwD credit of the 64. -/
def State.reqCredit (s : State) : Bool := decide (s.reqOut < 6)
def State.rwdCredit (s : State) : Bool := decide (s.link.rwdHeld < 64)
/-- The response to a request is handed off at clk `c`. -/
def State.reqEnds (s : State) (c : Nat) : State := s.onLink (fun l => { l with reqTill := l.reqTill.filter (fun t => decide (s.now < t)) ++ [c] })
/-- An RwD credit is returned at acceptance, unless it is withheld (R43, R430, R675). -/
def State.rwdTaken (s : State) : State := if s.bw.holding || s.pwr.standbyWait then s.onLink (fun l => { l with rwdHeld := l.rwdHeld + 1 }) else s

/-- A message sent without a credit (R445): dropped with no answer; Receiver Overflow is logged. -/
def State.overrun (s : State) : State := s.violationLogged 5

/-! ### The checks of R426 -/

/-- Size of the HDM window (R424). -/
def State.hdmSize (s : State) : Nat := 2 ^ (42 + s.fld Reg.HDM.CFG.KEYID_BITS)

/-- Check 1: the decoder is committed and the HPA lies in its window. -/
def State.inHdm (s : State) (hpa : Nat) : Bool := s.link.hdmOn && decide (s.link.hdmBase ≤ hpa) && decide (hpa < s.link.hdmBase + s.hdmSize)

/-- DPA and KeyID of an HPA (R424). -/
def State.hdmDpa (s : State) (hpa : Nat) : Nat := (hpa - s.link.hdmBase) % 2 ^ 42
def State.hdmKeyid (s : State) (hpa : Nat) : Nat := (hpa - s.link.hdmBase) / 2 ^ 42

/-- WRITE_REFUSE is in force (R197). -/
def State.writeRefuse (s : State) : Bool := s.flag Reg.XLT.STATUS.WRITE_REFUSE

/-- The region that covers a DPA is GROUPED. -/
def State.groupedRegion (s : State) (dpa : Nat) : Option Nat :=
  match s.regionOf (dpaPaddock dpa) with
  | some i => if (s.region i).grouped then some i else none
  | none => none

/-- Check 12 (R202, R204): a slot is free or the region's group takes the write; a group in OVERFLOW does not. -/
def State.groupTakes (s : State) (dpa : Nat) : Bool :=
  match s.groupedRegion dpa with
  | none => true
  | some r =>
    match s.openGroup r with
    | some i => decide ((s.group i).st = .opened) && ((s.group i).segs.contains (dpaSeg dpa) || decide ((s.group i).segs.length < (s.group i).limit))
    | none => s.freeGroup.isSome

/-- Checks 2 to 12 of R426 for a class of R530 on an internal or cartridge DPA; 0 where all pass. `rwdPoison` is the poison bit of a write. -/
def State.checkDpa (s : State) (cls : Nat) (write rwdPoison : Bool) (dpa keyid : Nat) : Nat :=
  if !s.serving then 2
  else match dpaCart dpa with
    | some n =>
      if !s.cartDecoded n dpa then 3
      else if keyid ≠ s.cartKeyid n then 5
      else if !s.cartRight n (if cls = clsHost then 0 else if cls = clsDebug then 3 else 1) then 6
      else if write then 9 else 0
    | none =>
      if !s.dpaInternal dpa then 3
      else
        let c := s.checkRegion cls write dpa keyid
        if c ≠ 0 then c
        else if write && rwdPoison then 0xA
        else if write && s.writeRefuse then 0xB
        else if write && !s.groupTakes dpa then 0xC
        else 0

/-- A KeyID mismatch of check 5 (R533, R621). -/
def State.mismatch (s : State) (dpa keyid : Nat) : Bool :=
  match dpaCart dpa with
  | some n => decide (keyid ≠ s.cartKeyid n)
  | none => s.keyMismatch dpa keyid

/-- What a write refused for its group does (R202, R204): no free slot raises GROUP_FAILED and writes a WARN record; a write past GROUP_LIMIT puts the group in OVERFLOW; every write refused for its group raises GROUP_FAILED (R208). -/
def State.groupRefused (s : State) (dpa : Nat) : State :=
  match s.groupedRegion dpa with
  | none => s
  | some r =>
    match s.openGroup r with
    | some i => (if (s.group i).st = .opened then s.setGroup i { s.group i with st := .overflow } else s).raise Reg.XLT.INT_STATUS.GROUP_FAILED
    | none => s.raiseRec Reg.XLT.INT_STATUS.GROUP_FAILED sevWarn clsHost 0 0 0 0

/-- A write is refused under WRITE_REFUSE (R197, R227): counted, and recorded the first time. -/
def State.refusedWrite (s : State) (cls : Nat) : State :=
  let s1 := s.bump Reg.XLT.REFUSED_WRITES.REFUSED
  if s1.xlt.refusedOnce then s1 else (s1.onXlt (fun t => { t with refusedOnce := true })).raiseRec Reg.XLT.INT_STATUS.WRITE_REFUSE sevError cls 0 0 0 0

/-- What every refusal by a check does, whoever asks (R197, R202, R204, R533): Tremor, group, first refusal under WRITE_REFUSE. -/
def State.refusedBy (s : State) (cls cause dpa keyid : Nat) : State :=
  if cause = 5 && s.mismatch dpa keyid then s.tremor (if cls = clsHost then 1 else 2) cls
  else if cause = 0xB then s.refusedWrite cls
  else if cause = 0xC then s.groupRefused dpa else s

/-- A refused host request is counted and shown (R426, R467 to R470), with its violation of R445 if it is one. -/
def State.refuseHost (s : State) (write : Bool) (cause dpa keyid : Nat) : State :=
  let s1 := (s.bump (if write then Reg.HDM.REFUSED_WR.REFUSED_WR else Reg.HDM.REFUSED_RD.REFUSED_RD)).setFld Reg.HDM.LAST_REFUSED_LO.DPA_LO (dpa % 2 ^ 32)
  let s2 := s1.setReg Reg.HDM.LAST_REFUSED_HI.word (cause * 2 ^ 28 + b2n write * 2 ^ 27 + keyid * 2 ^ 16 + dpa / 2 ^ 32)
  let s3 := ((s2.raise Reg.HDM.INT_STATUS.REFUSED).ev 0x73 (some dpa) (some clsHost) 1).refusedBy clsHost cause dpa keyid
  if cause = 1 then s3.violation 1
  else if cause = 3 && (dpaCart dpa).isNone then s3.violation 2
  else if cause = 0xA then s3.violation 4 else s3

/-! ### Writes (R43, R177, R202, R302, R427, R549) -/

/-- The group slot that a write to `dpa` joins, opened for its first write (R202). -/
def State.joinGroup (s : State) (dpa : Nat) : Option Nat × State :=
  match s.groupedRegion dpa with
  | none => (none, s)
  | some r =>
    match s.openGroup r with
    | some i =>
      let x := s.group i
      (some i, if x.segs.contains (dpaSeg dpa) then s else s.setGroup i { x with segs := x.segs ++ [dpaSeg dpa] })
    | none =>
      match s.freeGroup with
      | some i => (some i, s.setGroup i { st := .opened, region := r, limit := s.appFld Reg.XLT.GROUP_CFG.GROUP_LIMIT, segs := [dpaSeg dpa] })
      | none => (none, s)

/-- Data enters the caches and staging (R177, R202, R302, R303). -/
def State.storeLine (s : State) (dpa keyid : Nat) (d : Line) (m : Mask) (strict : Bool) : State :=
  let j := s.joinGroup dpa
  let s1 := if j.1.isNone then j.2.writeCaches (dpa / 64 * 64) keyid d m else j.2
  ((s1.stage (dpa / 64) j.1 d m keyid strict).afterStage (dpaSeg dpa) j.1).moved 19 true 64

/-- A write is acknowledged at clk `c`, or once its journal block is programmed under write-through (R46). -/
def State.ackWrite (s : State) (tag dpa c : Nat) : State :=
  if s.writeThrough then
    let snap := (s.xlt.snaps.getLast?).bind (fun x => if x.lseg = dpaSeg dpa && x.group.isNone && (s.segLines (dpaSeg dpa) none).isEmpty then some x.id else none)
    s.onXlt (fun t => { t with wtAcks := t.wtAcks ++ [{ tag, lseg := dpaSeg dpa, clk := c - 22, snap }] })
  else s.sendCmp tag c

/-- A read in flight is added; its number is `reads.next`. -/
def State.addRead (s : State) (r : Rd) : State := s.onReads (fun x => { x with list := x.list ++ [{ r with id := x.next }], next := x.next + 1 })

/-- The bytes staged for the sector of `dpa` in the read view together with those of this write cover the sector (R549). -/
def State.coversSector (s : State) (dpa : Nat) (m : Mask) : Bool :=
  (List.range 4).all (fun i =>
    let line := dpa / 256 * 4 + i
    let v := (s.readView line).2 ||| (if line = dpa / 64 then m else 0)
    decide (v = BitVec.allOnes 64))

/-- A write that passes every check, accepted at clk `acc`. -/
def State.takeWrite (s : State) (acc dpa keyid tag : Nat) (d : Line) (m : Mask) : State :=
  let s1 := ((s.bump Reg.HDM.WRITES.WRITES).ev 0x71 (some dpa) (some clsHost) 1).moved 0 true 64
  if m = 0 then s1.sendCmp tag (acc + 22)
  else
    let strict := match s1.regionOf (dpaPaddock dpa) with | some i => (s1.region i).strict | none => false
    if strict && !s1.coversSector dpa m then
      (s1.joinGroup dpa).2.addRead { id := 0, who := .strict tag d m, dpa, keyid, acc, missAt := acc + 46, sectors := [dpaSector dpa] }
    else (s1.storeLine dpa keyid d m false).ackWrite tag dpa (acc + 22)

/-- A CXL.mem write. -/
def State.memWrite (s : State) (hpa tag : Nat) (d : Line) (m : Mask) (poison : Bool) : State :=
  if !s.memOpen then s
  else if !s.rwdCredit then s.overrun
  else
    let a := s.accept hpa
    let s1 := a.2.takeLine.rwdTaken
    if !s1.inHdm hpa then (s1.refuseHost true 1 0 0).sendCmp tag (a.1 + 22)
    else
      let dpa := s1.hdmDpa hpa
      let k := s1.hdmKeyid hpa
      let c := s1.checkDpa clsHost true poison dpa k
      if c ≠ 0 then (s1.refuseHost true c dpa k).sendCmp tag (a.1 + 22)
      else s1.takeWrite a.1 dpa k tag d m

/-- MEM_WR (R427): all 64 bytes of the line. -/
def execMemWr (hpa tag : Nat) (data : Line) (poison : Bool) (phase : Nat) (s : State) : Res :=
  .next ((s.at_ phase).memWrite hpa tag data (BitVec.allOnes 64) poison)

/-- MEM_WR_PTL (R427): the bytes of the mask; with none enabled it changes nothing. -/
def execMemWrPtl (hpa tag : Nat) (data : Line) (mask : Mask) (poison : Bool) (phase : Nat) (s : State) : Res :=
  .next ((s.at_ phase).memWrite hpa tag data mask poison)

/-! ### Reads (R37, R301, R314, R420, R427) -/

/-- MemData is handed off at clk `c`. -/
def State.sendData (s : State) (tag : Nat) (poison : Bool) (d : Line) (c : Nat) : State :=
  ((s.reqEnds c).respond (.memData tag poison d s.devLoad c)).moved 0 false 64

/-- The Cmp of a MemInv is handed off at clk `c`. -/
def State.sendInv (s : State) (tag c : Nat) : State := (s.reqEnds c).sendCmp tag c

/-- A read accepted at clk `acc`: its port cache, the L2, else it waits for its lookup, or goes to its cartridge (R37, R301, R623). -/
def State.takeRead (s : State) (acc dpa keyid tag : Nat) (errs : List ArrErr) : State :=
  let a := dpa / 64 * 64
  let p := l1pOf a
  let s0 := (s.bump Reg.HDM.READS.READS).ev 0x70 (some dpa) (some clsHost) 1
  match dpaCart dpa with
  | some n =>
    let s1 := s0.addRead { id := 0, who := .host tag, dpa, keyid, acc, missAt := acc + 46, st := .cart, sectors := [dpaSector dpa] }
    s1.cartCmd n 0x01 1 ((dpa - cartBase n) / 256) 1 [] (.host s.reads.next false)
  | none =>
    let s1 := (s0.addErrs errs).lookSmall p a false keyid
    match s1.cached p a false keyid with
    | some (_, l) => (s1.ev 0x40 (some dpa) (some clsHost) 1).sendData tag false l.data (acc + 14)
    | none =>
      let s2 := (s1.ev 0x41 (some dpa) (some clsHost) 1).lookIn 0 a false keyid
      match s2.cached 0 a false keyid with
      | some (_, l) =>
        let s3 := s2.ev 0x42 (some dpa) (some clsHost) 1
        (if s3.noAlloc dpa then s3 else s3.fillHost p a keyid l.data).sendData tag false l.data (acc + 46)
      | none =>
        (s2.ev 0x43 (some dpa) (some clsHost) 1).addRead { id := 0, who := .host tag, dpa, keyid, acc, missAt := acc + 46, sectors := [dpaSector dpa] }

/-- A CXL.mem read. -/
def State.memRead (s : State) (hpa tag : Nat) (errs : List ArrErr) : State :=
  if !s.memOpen then s
  else if !s.reqCredit then s.overrun
  else
    let a := s.accept hpa
    if !a.2.inHdm hpa then (a.2.refuseHost false 1 0 0).sendData tag true 0 (a.1 + 46)
    else
      let dpa := a.2.hdmDpa hpa
      let k := a.2.hdmKeyid hpa
      let c := a.2.checkDpa clsHost false false dpa k
      if c ≠ 0 then (a.2.refuseHost false c dpa k).sendData tag true 0 (a.1 + 46)
      else a.2.takeRead a.1 dpa k tag errs

/-- MEM_RD (R427). `errs` are errors that have appeared in the arrays of the caches. -/
def execMemRd (hpa tag : Nat) (errs : List ArrErr) (phase : Nat) (s : State) : Res := .next ((s.at_ phase).memRead hpa tag errs)

/-- MEM_RD_DATA (R427): as a MemRd. -/
def execMemRdData (hpa tag : Nat) (errs : List ArrErr) (phase : Nat) (s : State) : Res := .next ((s.at_ phase).memRead hpa tag errs)

/-- A MemInv or MemInvNT: Cmp at 46. -/
def State.memInv (s : State) (hpa tag : Nat) : State :=
  if !s.memOpen then s else if !s.reqCredit then s.overrun else let a := s.accept hpa; a.2.sendInv tag (a.1 + 46)

/-- MEM_INV (R427): Cmp at 46, no other effect. -/
def execMemInv (hpa tag phase : Nat) (s : State) : Res :=
  .next ((s.at_ phase).memInv hpa tag)

/-- MEM_INV_NT (R427): Cmp at 46, no other effect. -/
def execMemInvNt (hpa tag phase : Nat) (s : State) : Res :=
  .next ((s.at_ phase).memInv hpa tag)

/-- MEM_SPEC_RD (R427): dropped, with no answer. -/
def execMemSpecRd (hpa phase : Nat) (s : State) : Res :=
  let s0 := s.at_ phase
  .next (if !s0.memOpen then s0 else if !s0.reqCredit then s0.overrun else (s0.accept hpa).2)

/-- M2S_UNSUPPORTED_OPCODE (R426, R427, R445): violation 0x03; a Req is answered with poison at 46 clk, an RwD with Cmp at 22 and its data discarded. -/
def execM2sUnsupportedOpcode (rwd : Bool) (hpa tag phase : Nat) (s : State) : Res :=
  let s0 := s.at_ phase
  .next (if !s0.memOpen then s0
  else if !(if rwd then s0.rwdCredit else s0.reqCredit) then s0.overrun
  else
    let a := s0.accept hpa
    if rwd then (((a.2.takeLine.rwdTaken).bump Reg.HDM.REFUSED_WR.REFUSED_WR).violation 3).sendCmp tag (a.1 + 22)
    else ((a.2.bump Reg.HDM.REFUSED_RD.REFUSED_RD).violation 3).sendData tag true 0 (a.1 + 46))

/-- CREDIT_OVERRUN (R445): the message is dropped with no answer; Receiver Overflow is logged. -/
def execCreditOverrun (phase : Nat) (s : State) : Res :=
  let s0 := s.at_ phase
  .next (if s0.memOpen then s0.overrun else s0)

end Sys2Proof.Machine
end

