-- ==== Sys2Proof/Machine/Lookup.lean ====
section
/-! DEFINITION. The translation lookup of a read that missed the L2 (R35, R36, R169, R388, R392, R393) and the delivery of a decided read (R37, R301, R385, R427, R549). -/

namespace Sys2Proof.Machine

/-! ### Reads in flight -/

/-- The read in flight with number `id`. -/
def State.rd (s : State) (id : Nat) : Option Rd := s.reads.list.find? (fun r => r.id = id)
/-- A read in flight replaced. -/
def State.setRd (s : State) (x : Rd) : State := s.onReads (fun t => { t with list := t.list.map (fun r => if r.id = x.id then x else r) })
/-- A read in flight ends. -/
def State.endRd (s : State) (id : Nat) : State := s.onReads (fun t => { t with list := t.list.filter (fun r => r.id ≠ id) })

/-- Logical sector and segment of a read's first sector. -/
def Rd.lsn (r : Rd) : Nat := r.dpa / 256
def Rd.lseg (r : Rd) : Nat := r.dpa / 4096
/-- A stream-engine read. -/
def Rd.isStream (r : Rd) : Bool := match r.who with | .stream _ _ => true | _ => false
/-- Master class of a read (R530). -/
def Rd.master (r : Rd) : Nat := masterOf r.cls
/-- What staging held of a line at the lookup. -/
def Rd.partOf (r : Rd) (line : Nat) : Line × Mask := match r.parts.find? (fun p => p.1 = line) with | some p => p.2 | none => (0, 0)

/-! ### Delivery -/

/-- The line of a sector outcome: poison, and the bytes. -/
def SecOut.line (o : SecOut) (i : Nat) : Bool × Line :=
  match o with
  | .data d _ => (false, sectorLine d i)
  | .zeros => (false, 0)
  | .poison _ => (true, 0)
  | .fail _ => (true, 0)

/-- A line delivered at clk `c` leaves as a fill of the L2 and the L1P (R301, R353), unless a write of it was accepted meanwhile (R348). -/
def State.allocate (s : State) (r : Rd) (d : Line) (c : Nat) : State :=
  let a := r.dpa / 64 * 64
  if s.noAlloc r.dpa || r.noFill.contains (a / 64) then s else s.sendFill c (l1pOf a) a r.keyid d

/-- A discarded STRICT write (R549, R581 to R583). -/
def State.strictFail (s : State) (r : Rd) : State :=
  let reg := (s.regionOf (dpaPaddock r.dpa)).getD 0
  let s1 := ((s.bump Reg.RGN.STRICT_FAILS.FAILS).setFld Reg.RGN.STRICT_LAST.REGION reg).setFld Reg.RGN.STRICT_LAST.LSN_HI (r.lsn / 2 ^ 32)
  (s1.setReg Reg.RGN.STRICT_LAST_LSN.word (r.lsn % 2 ^ 32)).raise Reg.RGN.INT_STATUS.STRICT_FAIL

/-- A decided read is handed off at clk `c`: MemData, the end of a STRICT check at `c` + 20, or its data held for its stream engine. -/
def State.deliver (s : State) (r : Rd) (outs : List (Nat × SecOut)) (alloc : Bool) (c : Nat) : State :=
  let o := ((outs.find? (fun x => x.1 = dpaSector r.dpa)).map (fun x => x.2)).getD (.fail 0)
  match r.who with
  | .host tag =>
    let l := o.line (r.dpa / 64 % 4)
    let p := r.partOf (r.dpa / 64)
    let d := mergeLine l.2 p.1 p.2
    let s1 := s.endRd r.id
    if l.1 then s1.sendData tag true 0 c
    else (if alloc then s1.allocate r d c else s1).sendData tag false d c
  | .strict tag data mask =>
    let s1 := s.endRd r.id
    match o with
    | .data _ _ | .zeros => (s1.storeLine r.dpa r.keyid data mask true).ackWrite tag r.dpa (c + 20)
    | _ => (s1.strictFail r).sendCmp tag (c + 20)
  | .stream _ _ => s.setRd { r with st := .done, outs, arrive := c, alloc }

/-! ### Issue (R35, R50, R395) -/

/-- The class may issue lookups only at DRAM slots that are a multiple of 4 (R50). -/
def State.throttled (s : State) (cls : Nat) : Bool := bitOf (s.fld Reg.BWT.LAT_STATUS.RD_THROTTLED) cls
/-- Clk from one DRAM slot that the class may use to the next. -/
def State.lookupStep (s : State) (cls : Nat) : Nat := if s.throttled cls then 128 else 32

/-- A lookup leaves at the present DRAM slot start; it activates the rows listed as channel, subchannel, bank and row. -/
def State.lookup (s : State) (r : Rd) (rows : List (Nat × Nat × Nat × Nat)) : State :=
  let s1 := (s.bump Reg.DMC0.LOOKUPS.LOOKUPS).ev 0x60 none none 1
  (s1.ev 0x30 (some r.dpa) (some r.master) 1).each rows (fun s x => s.activate x.1 x.2.1 x.2.2.1 x.2.2.2 r.cls)

/-- LOOKUP_ISSUE (R35): the first DRAM slot that the read's class may use at or after its known L2 miss. -/
def execLookupIssue (read : Nat) (rows : List (Nat × Nat × Nat × Nat)) (phase : Nat) (s : State) : Res :=
  let s0 := s.at_ phase
  .next (match s0.rd read with
    | some r =>
      let q := s0.lookupStep r.cls
      if r.st = .miss && decide (s0.now % q = 0) && decide (r.missAt ≤ s0.now) && decide (s0.now < r.missAt + q) then
        (s0.setRd { r with st := .looked, look := s0.now, arrive := s0.now + 236 }).lookup r rows
      else s0
    | none => s0)

/-! ### Resolution (R168, R169) -/

/-- The staging hit of R169; for a STRICT check all four lines of the sector (R549). -/
def State.stagedHit (s : State) (r : Rd) : Bool :=
  match r.who with
  | .host _ => decide ((s.readView (r.dpa / 64)).2 = BitVec.allOnes 64)
  | .strict _ _ _ => (List.range 4).all (fun i => decide ((s.readView (r.dpa / 256 * 4 + i)).2 = BitVec.allOnes 64))
  | .stream _ _ => false

/-- The sector-cache entry that a lookup finds; a stream engine does not read it (R488). -/
def State.scHit (s : State) (r : Rd) : Option ScE := if r.isStream then none else s.scFind r.lsn

/-- The staged bytes that the lookup merges. -/
def State.stagedParts (s : State) (r : Rd) : List (Nat × Line × Mask) :=
  let lines := match r.who with
    | .host _ => [r.dpa / 64]
    | .strict _ _ _ => []
    | .stream _ _ => (List.range 64).map (fun i => r.lseg * 64 + i)
  (lines.map (fun l => (l, s.readView l))).filter (fun x => x.2.2 ≠ 0)

/-- The same outcome for each sector of a read. -/
def Rd.all (r : Rd) (o : SecOut) : List (Nat × SecOut) := r.sectors.map (fun k => (k, o))

/-- The path of the map state; `poison` where the map line gives poison (R168, R392, R393). Class and bin of a sense are fixed here (R256). -/
def State.mapPath (s : State) (r : Rd) (poison : Bool) : State :=
  let e := s.mapOf r.lseg
  if poison || s.dram.badMap.contains (r.lseg / 16) then s.deliver r (r.all (.poison 0)) false r.arrive
  else match e.st with
    | .unmapped => s.deliver r (r.all .zeros) false r.arrive
    | .poisoned => s.deliver r (r.all (.poison 0)) false r.arrive
    | _ => s.setRd { r with st := .bound, psa := e.psa, slc := s.psaSlc e.psa, bin := s.psaBin e.psa, classes := s.classesOf (psaGang e.psa) }

/-- A lookup's result (R169): staging, the sector cache unless `miss`, the map state. -/
def State.resolve (s : State) (r0 : Rd) (miss poison : Bool) : State :=
  let r := { r0 with parts := s.stagedParts r0, stale := false }
  if s.stagedHit r then
    (s.ev 0x31 (some r.dpa) (some r.master) 1).deliver r (r.all (.data 0 0)) true r.arrive
  else match (if miss then none else s.scHit r) with
    | some e => (s.ev 0x32 (some r.dpa) (some r.master) 1).deliver r (r.all (if e.poison then .poison 0 else .data e.data 0)) (!e.poison) r.arrive
    | none => s.mapPath r poison

/-! ### Lines in error (R387, R389, R391 to R393) -/

/-- Index within its area of the sector-cache line and of the map line of a read. -/
def State.scIndex (s : State) (r : Rd) : Nat := 4 * (r.lsn % max s.scEntries 1) + r.dpa / 64 % 4
/-- Channel and subchannel line address of the sector-cache line and of the map line. -/
def State.scAddr (s : State) (r : Rd) : Nat × Nat := s.mirrored s.scBase (s.scIndex r)
def State.mapAddr (s : State) (r : Rd) : Nat × Nat := s.mirrored 0 (r.lseg / 16)

/-- What the lookup meets on a line: nothing where the page is unwritten (R387) or the line waits in the update buffer (R389). -/
def State.lineErr (s : State) (at_ : Nat × Nat) (sub : Nat) (held : Bool) (e : List SymErr) : LineErr :=
  if held || !SMap.get (fun _ => false) s.dram.bitmap ((2 * at_.1 + sub) * 2 ^ 24 + at_.2 / 64) then .good else lineDecode e

/-- The update buffer holds the map line of a read; it holds the entry of its sector. -/
def State.ubHoldsMap (s : State) (r : Rd) : Bool := s.dram.ub.any (fun e => decide (e.kind = .mapLine) && decide (e.idx = r.lseg / 16))
def State.ubHoldsSc (s : State) (r : Rd) : Bool :=
  s.dram.ub.any (fun e => (decide (e.kind = .fill) && decide (e.idx = r.lsn % max s.scEntries 1)) || (decide (e.kind = .inval) && decide (e.idx = r.lseg)) ||
    (decide (e.kind = .line) && decide (e.idx = s.scBase + s.scIndex r)))

/-- The sector-cache line and the map line as the present lookup meets them. -/
def State.scErr (s : State) (r : Rd) (e : List SymErr) : LineErr :=
  if r.isStream || s.scEntries = 0 then .good else s.lineErr (s.scAddr r) (lookupSub (r.look / 32)) (s.ubHoldsSc r) e
def State.mapErr (s : State) (r : Rd) (e : List SymErr) : LineErr := s.lineErr (s.mapAddr r) (lookupSub (r.look / 32)) (s.ubHoldsMap r) e

/-- Corrected lines of a lookup are counted and written back (R391). -/
def State.lookupCe (s : State) (r : Rd) (sc map : LineErr) : State :=
  let s1 := if sc = .corrected then s.dramCe (s.scAddr r).1 .line (s.scBase + s.scIndex r) else s
  if map = .corrected then s1.dramCe (s1.mapAddr r).1 .mapLine (r.lseg / 16) else s1

/-- LOOKUP_COMPLETE (R388): 212 clk after the DRAM slot start the lookup resolves, unless a deciding line is uncorrectable (R392). -/
def execLookupComplete (read : Nat) (sc map : List SymErr) (phase : Nat) (s : State) : Res :=
  let s0 := s.at_ phase
  .next (match s0.rd read with
    | some r =>
      if r.st = .looked && decide (s0.now = r.look + 212) then
        let scE := s0.scErr r sc
        let mapE := s0.mapErr r map
        let staged := s0.stagedHit r
        let scBad := !staged && decide (scE = .bad)
        let mapBad := !staged && decide (mapE = .bad) && (scBad || (s0.scHit r).isNone)
        let s1 := s0.lookupCe r scE mapE
        if scBad || mapBad then s1.setRd { r with st := .relook, scBad, mapBad, struck := r.struck ++ [3] } else s1.resolve r false false
      else s0
    | none => s0)

/-- The other copy of a line that a lookup read is uncorrectable too (R393). -/
def State.otherBad (s : State) (r : Rd) (at_ : Nat × Nat) (e : List SymErr) : Bool := decide (s.lineErr at_ (1 - lookupSub (r.look / 32)) false e = .bad)

/-- A lasting sector-cache line (R393): rewritten from the other copy, or its entry goes. -/
def State.scLasting (s : State) (r : Rd) (otherBad : Bool) : State :=
  let x := r.lsn % max s.scEntries 1
  if otherBad then (s.onDram (fun d => { d with sc := SMap.set (fun _ => none) d.sc x none })).ubPush { kind := .fill, idx := x }
  else s.ubPush { kind := .line, idx := s.scBase + s.scIndex r }

/-- A lasting map line (R393): rewritten from the other copy, or written with POISON = 1. -/
def State.mapLasting (s : State) (r : Rd) (otherBad : Bool) : State :=
  let s1 := s.ubPush { kind := .mapLine, idx := r.lseg / 16 }
  if otherBad && !s1.dram.badMap.contains (r.lseg / 16) then s1.onDram (fun d => { d with badMap := d.badMap ++ [r.lseg / 16] }) else s1

/-- LOOKUP_RETRY (R392, R393): 224 clk after the first lookup, 256 for a throttled class, its uncorrectable lines are looked up again and classed; `scOther` and `mapOther` are what the other copy of each is read with. -/
def execLookupRetry (read : Nat) (sc map scOther mapOther : List SymErr) (rows : List (Nat × Nat × Nat × Nat)) (phase : Nat) (s : State) : Res :=
  let s0 := s.at_ phase
  .next (match s0.rd read with
    | some r0 =>
      if r0.st = .relook && decide (s0.now = r0.look + (if s0.throttled r0.cls then 256 else 224)) then
        let r := { r0 with st := .looked, look := s0.now, arrive := s0.now + 236 }
        let scE := s0.scErr r sc
        let mapE := s0.mapErr r map
        let scGone := r.scBad && decide (scE = .bad)
        let mapGone := r.mapBad && decide (mapE = .bad)
        let s1 := (s0.lookup r rows).lookupCe r scE mapE
        let s2 := if r.scBad then s1.dramUe (s1.scAddr r).1 (lookupSub (r.look / 32)) r.cls 1 (s1.scAddr r).2 scGone else s1
        let s3 := if r.mapBad then s2.dramUe (s2.mapAddr r).1 (lookupSub (r.look / 32)) r.cls 0 (s2.mapAddr r).2 mapGone else s2
        let s4 := if scGone then s3.scLasting r (s3.otherBad r (s3.scAddr r) scOther) else s3
        (if mapGone then s4.mapLasting r (s4.otherBad r (s4.mapAddr r) mapOther) else s4).resolve r scGone mapGone
      else s0
    | none => s0)

end Sys2Proof.Machine
end

