-- ==== Sys2Proof/Machine/Pens.lean ====
section
/-! DEFINITION. Pens (R474 to R481, R485): push windows, staging slots, commit and rewind; the common end of a request and its status record; outbound CXL.io writes (R444). -/

namespace Sys2Proof.Machine

/-- `s` with the stream engine changed by `f`. -/
def State.onStrm (s : State) (f : Strm → Strm) : State := { s with strm := f s.strm }

/-! ### Packets (R477) -/

/-- A field of a packet: bits [hi:lo] of word `w`. -/
def Packet.bits (p : Packet) (w hi lo : Nat) : Nat := bitsOf (p.words.getD w 0) hi lo

def Packet.tag (p : Packet) : Nat := p.bits 0 63 32
def Packet.prio (p : Packet) : Nat := p.bits 0 23 21
def Packet.statusWb (p : Packet) : Bool := p.bits 0 20 20 = 1
def Packet.dict (p : Packet) : Nat := p.bits 0 17 16
def Packet.useDict (p : Packet) : Bool := p.bits 0 15 15 = 1
def Packet.format (p : Packet) : Nat := p.bits 0 11 8
def Packet.opcode (p : Packet) : Nat := p.bits 0 7 0
def Packet.keyid (p : Packet) : Nat := p.bits 1 63 58
def Packet.dpa (p : Packet) : Nat := p.bits 1 41 0
def Packet.dstLen (p : Packet) : Nat := p.bits 2 56 32
def Packet.srcLen (p : Packet) : Nat := p.bits 2 24 0
def Packet.host (p : Packet) : Nat := p.words.getD 3 0
def Packet.st (p : Packet) : Nat := p.bits 4 63 56
def Packet.deadline (p : Packet) : Nat := p.bits 4 55 0
def Packet.statusAddr (p : Packet) : Nat := p.words.getD 5 0
def Packet.region (p : Packet) : Nat := p.bits 6 7 0
/-- Stream engine of the packet's pen (R473). -/
def Packet.engine (p : Packet) : Nat := p.pen / 32

/-- The packet's CRC holds (R478). -/
def crcOk (words : List Nat) : Bool :=
  decide (crc32c ((words.take 7).flatMap (fun w => bytesLe 8 w)) = bitsOf (words.getD 7 0) 31 0)

/-- Every field that must be 0 is 0 (R477, R479). -/
def Packet.zerosOk (p : Packet) : Bool :=
  decide (p.bits 0 31 24 = 0) && decide (p.bits 0 19 18 = 0) && decide (p.bits 0 14 12 = 0) && decide (p.bits 1 57 42 = 0) && decide (p.bits 2 63 57 = 0) &&
    decide (p.bits 2 31 25 = 0) && decide (p.bits 6 63 8 = 0) && decide (p.bits 7 62 32 = 0) && decide (p.opcode = 4 || p.opcode = 5 || p.region = 0)

/-- The row of R479 for the packet's opcode and format. -/
def Packet.rowOk (p : Packet) : Bool :=
  let src := p.srcLen
  let dst := p.dstLen
  match p.opcode, p.format with
  | 1, 0 => decide (1 ≤ src) && decide (src ≤ 2 ^ 24) && decide (dst = src) && !p.useDict
  | 1, 1 => decide (1 ≤ src) && decide (src ≤ 65536) && decide (1 ≤ dst) && decide (dst ≤ 2 ^ 24) && !p.useDict
  | 1, 2 => decide (1 ≤ src) && decide (src ≤ 65536) && decide (1 ≤ dst) && decide (dst ≤ 2 ^ 24)
  | 2, 0 => decide (64 ≤ src) && decide (src ≤ 2 ^ 24) && decide (src % 64 = 0) && decide (dst = src) && !p.useDict && decide (p.deadline = 0)
  | 3, 0 => decide (8 ≤ src) && decide (src ≤ 114688) && decide (dst = 0) && decide (p.host = 0) && !p.useDict
  | 4, 0 => decide (src = 0) && decide (dst = 0) && decide (p.words.getD 1 0 = 0) && decide (p.host = 0) && !p.useDict && decide (p.deadline = 0)
  | 5, 0 => decide (src = 0) && decide (dst = 0) && decide (p.words.getD 1 0 = 0) && decide (p.host = 0) && !p.useDict && decide (p.deadline = 0)
  | _, _ => false

/-- The packet's format is good (R477, R479). -/
def Packet.formatOk (p : Packet) : Bool :=
  p.zerosOk && p.rowOk && decide (p.dpa % 64 = 0) && decide (p.host % 64 = 0) && decide (p.statusAddr % 16 = 0) && (!p.statusWb || decide (p.statusAddr ≠ 0))

/-! ### Cells and staging slots (R474, R476) -/

/-- Staging slot `k` of pen `p`. -/
def State.penSlot (s : State) (p k : Nat) : Option PenSlot := SMap.get (fun _ => none) s.strm.slots (64 * p + k)
/-- Staging slot `k` of pen `p` replaced. -/
def State.setPenSlot (s : State) (p k : Nat) (x : Option PenSlot) : State :=
  s.onStrm (fun t => { t with slots := SMap.set (fun _ => none) t.slots (64 * p + k) x })

/-- A cell can be taken for pen `p`: the pool is not empty and the pen holds fewer than CELL_LIMIT cells. -/
def State.cellFree (s : State) (p : Nat) : Bool :=
  !(s.fld Reg.PEN.POOL.FREE = 0 || decide (s.fld (Reg.PEN.CTRL.CELL_LIMIT p) ≤ s.fld (Reg.PEN.STATUS.CELLS p)))

/-- Pen `p` takes a cell of the pool. -/
def State.takeCell (s : State) (p : Nat) : State :=
  (s.setFld Reg.PEN.POOL.FREE (s.fld Reg.PEN.POOL.FREE - 1)).setFld (Reg.PEN.STATUS.CELLS p) (s.fld (Reg.PEN.STATUS.CELLS p) + 1)

/-- A cell of pen `p` returns to the pool. -/
def State.freeCell (s : State) (p : Nat) : State :=
  (s.setFld Reg.PEN.POOL.FREE (s.fld Reg.PEN.POOL.FREE + 1)).setFld (Reg.PEN.STATUS.CELLS p) (s.fld (Reg.PEN.STATUS.CELLS p) - 1)

/-- A slot is rewound with a cause of R480. -/
def State.rewind (s : State) (p k cause : Nat) : State :=
  let s1 := match s.penSlot p k with
    | some x => if x.broken then s else s.freeCell p
    | none => s
  ((((s1.setPenSlot p k none).bump (Reg.PEN.REWIND.REWIND p)).setReg Reg.PEN.LAST_REWIND.word (cause * 2 ^ 28 + p * 2 ^ 22 + k * 2 ^ 16)).raise
    Reg.PEN.INT_STATUS.REWIND)

/-- The cause for which an OPEN slot is rewound at its END; none where the packet commits (R480). -/
def State.rewindCause (s : State) (p : Nat) (x : PenSlot) (words : List Nat) : Option Nat :=
  if (x.words.take 7).any (fun w => w.isNone) then some 3
  else if !crcOk words then some 1
  else if !(Packet.formatOk { pen := p, words, at_ := 0 }) then some 2
  else if !s.flag (Reg.PEN.CTRL.ENABLE p) then some 6 else none

/-- END is written to slot `k` (R480). -/
def State.endPacket (s : State) (p k : Nat) (x : PenSlot) : State :=
  if x.broken then s.rewind p k 4
  else
    let words := x.words.map (fun w => w.getD 0)
    match s.rewindCause p x words with
    | some c => s.rewind p k c
    | none =>
      (((((s.setPenSlot p k none).onStrm (fun t => { t with packets := t.packets ++ [{ pen := p, words, at_ := s.now }] })).bump (Reg.PEN.COMMITTED.COMMITTED p)).setFld
        (Reg.PEN.STATUS.QUEUED p) (s.fld (Reg.PEN.STATUS.QUEUED p) + 1)).ev 0x80 none none 1)

/-- One word of a push is written into its slot (R475, R476). -/
def State.pushWord (s : State) (p k w v : Nat) : State :=
  let opened : State × PenSlot := match s.penSlot p k with
    | some x => (s, x)
    | none =>
      if s.cellFree p then (s.takeCell p, { since := s.clk.bell })
      else (s.raise Reg.PEN.INT_STATUS.POOL_EMPTY, { broken := true, since := s.clk.bell })
  let x := if opened.2.broken then opened.2 else { opened.2 with words := opened.2.words.set w (some v) }
  let s1 := opened.1.setPenSlot p k (some x)
  if w = 7 && bitOf v 63 then s1.endPacket p k x else s1

/-- The words of a push, in ascending address order. -/
def State.pushWords (s : State) (addr : Nat) (bytes : List Nat) (n : Nat) : State :=
  match n with
  | 0 => s
  | k + 1 => State.pushWords (s.pushWord (addr / 4096 % 64) (addr / 64 % 64) (addr / 8 % 8) (ofBytesLe (bytes.take 8))) (addr + 8) (bytes.drop 8) k

/-- Messages of CXL.io arrive: the link is up and in L0, no IDE failure drops them, and the device has not entered VENT (R421, R436, R439). -/
def State.ioOpen (s : State) : Bool := s.link.up && !s.link.recovery && !s.link.ideDrop && (!s.link.ideIo || s.link.ideKeys) && decide (s.dev.st ≠ .vent)

/-- PEN_PUSH (R475): a BAR2 write at offset `addr`; one that breaks R423 is violation 0x09. -/
def execPenPush (addr : Nat) (bytes : List Nat) (phase : Nat) (s : State) : Res :=
  let s0 := s.at_ phase
  let n := bytes.length
  .next (if !s0.ioOpen then s0
  else if n % 8 = 0 && decide (8 ≤ n) && decide (n ≤ 64) && decide (addr % 8 = 0) && decide (addr / 4096 = (addr + n - 1) / 4096) then
    s0.pushWords addr bytes (n / 8)
  else s0.violation 9)

/-- SLOT_STAGE_TIMEOUT (R481): a slot older than STAGE_TIMEOUT × 1,024 bells; an OPEN one is rewound, a BROKEN one returns to IDLE with no count. -/
def execSlotStageTimeout (pen slot : Nat) (s : State) : Res :=
  .next (match s.penSlot pen slot with
    | some x =>
      if s.clk.bell ≤ x.since + s.appFld Reg.PEN.POOL_CFG.STAGE_TIMEOUT * 1024 then s
      else if x.broken then s.setPenSlot pen slot none
      else (s.rewind pen slot 5).raise Reg.PEN.INT_STATUS.STAGE_TIMEOUT
    | none => s)

/-! ### Outbound writes (R444) -/

/-- A write split at the maximum payload size and at 4 KiB boundaries. -/
def splitWrite (fuel addr mps : Nat) (bytes : List Nat) : List (Nat × List Nat) :=
  match fuel with
  | 0 => []
  | k + 1 =>
    if bytes.isEmpty then []
    else
      let n := min (min mps (4096 - addr % 4096)) bytes.length
      (addr, bytes.take n) :: splitWrite k (addr + n) mps (bytes.drop n)

/-- The CXL.io writes for bytes at a host address, with the steering tag of a request. -/
def State.outbound (s : State) (addr : Nat) (bytes : List Nat) (st : Nat) : List Output :=
  let th := decide (s.link.tph ≠ 0)
  let tag := if s.link.tph = 2 then st else 0
  let ph := if th then s.fld Reg.HLK.TPH_CFG.PH else 0
  (splitWrite (bytes.length + 1) addr (max s.link.mps 1) bytes).map (fun w => .dmaWrite w.1 w.2 th tag ph)

/-- Deliveries and host reads run: bus mastering is on and the link is up (R501). -/
def State.mastering (s : State) : Bool := s.irq.busMaster && s.link.up

/-- Writes pass to the link, or wait while deliveries are suspended. -/
def State.sendWrites (s : State) (l : List Output) (n : Nat) : State :=
  let s1 := (s.moved 1 true n).moved 4 true n
  if s.mastering && !s.link.recovery then s1.each l State.emit else s1.onStrm (fun t => { t with waiting := t.waiting ++ l })

/-! ### The end of a request (R483 to R486) -/

/-- The status record of R485. -/
def Packet.record (p : Packet) (status detail offset bell : Nat) : List Nat :=
  bytesLe 4 p.tag ++ [status, detail, p.pen, 0] ++ bytesLe 4 offset ++ bytesLe 4 bell

/-- The status record is written, if the packet asks for one. -/
def State.writeStatus (s : State) (p : Packet) (status detail offset : Nat) : State :=
  if p.statusWb then
    s.sendWrites (s.outbound p.statusAddr (p.record status detail offset s.clk.bell) (s.fld Reg.HLK.TPH_CFG.ST_DEFAULT)) 16
  else s

/-- STR.LAST_EVENT and LAST_TAG (R507, R508): 1 refused, 2 late, 3 failed. -/
def State.lastEvent (s : State) (kind : Nat) (p : Packet) (status detail : Nat) : State :=
  (s.setReg Reg.STR.LAST_EVENT.word (kind * 2 ^ 30 + p.pen * 2 ^ 24 + status * 2 ^ 16 + detail * 256)).setReg Reg.STR.LAST_TAG.word p.tag

/-- A committed packet is refused. -/
def State.refusePacket (s : State) (p : Packet) (status detail : Nat) : State :=
  ((((((s.writeStatus p status detail 0).lastEvent 1 p status detail).bump (Reg.PEN.REFUSED.REFUSED p.pen)).freeCell p.pen).raise Reg.STR.INT_STATUS.REFUSED).ev
    0x82 none none 1)

end Sys2Proof.Machine
end

