-- ==== Sys2Proof/Machine/Admission.lean ====
section
/-! DEFINITION. Admission of stream requests (R482, R487, R491 to R493, R496 to R499): taking a packet, the checks, the ledger and its bookings, the decision. -/

namespace Sys2Proof.Machine

/-! ### Taking a packet (R482, R498) -/

/-- Packet `a` is taken before packet `b`. -/
def Packet.before (a b : Packet) : Bool :=
  decide (b.prio < a.prio) || (decide (a.prio = b.prio) && (decide (a.at_ < b.at_) || (decide (a.at_ = b.at_) && decide (a.pen < b.pen))))

/-- The packet that the admission unit takes next. -/
def State.nextPacket (s : State) : Option Packet :=
  s.strm.packets.foldl (fun acc p => match acc with
    | none => some p
    | some q => if p.before q then some p else some q) none

/-- First and last segment of a packet's source, and its first and last sector (R499). -/
def Packet.firstSeg (p : Packet) : Nat := p.dpa / 4096
def Packet.lastSeg (p : Packet) : Nat := (p.dpa + p.srcLen - 1) / 4096
def Packet.firstSector (p : Packet) : Nat := p.dpa / 256
def Packet.lastSector (p : Packet) : Nat := (p.dpa + p.srcLen - 1) / 256
/-- The packet reads a source in the device: READ or LOAD_DICT. -/
def Packet.reads (p : Packet) : Bool := p.opcode = 1 || p.opcode = 3

/-- The duration A of an admission (R498). -/
def Packet.admitTime (p : Packet) : Nat :=
  if p.reads && (dpaCart p.dpa).isNone then 128 + 32 * (p.lastSeg / 16 - p.firstSeg / 16 + 1) else 128

/-- The packet is taken at the present clk. -/
def State.takePacket (s : State) (p : Packet) : State :=
  ((((s.onStrm (fun t => { t with packets := t.packets.erase p, adm := some { pkt := p, due := s.now + p.admitTime } })).setFld (Reg.PEN.STATUS.QUEUED p.pen)
    (s.fld (Reg.PEN.STATUS.QUEUED p.pen) - 1)).setFlag Reg.STR.STATUS.ADMITTING true).setFld Reg.STR.STATUS.PEN p.pen)

/-- The admission unit takes a packet if it is idle and enabled and the next one has opcode `op`. -/
def State.admitNext (s : State) (op : Nat) : State :=
  if s.strm.adm.isSome || !s.flag Reg.STR.CTRL.ENABLE || s.dev.st = .vent || s.dev.st = .halt || s.pwr.standbyWait then s
  else match s.nextPacket with
    | some p => if p.opcode = op then s.takePacket p else s
    | none => s

/-- STREAM_READ (R499): a READ packet is taken. -/
def execStreamRead (phase : Nat) (s : State) : Res := .next ((s.at_ phase).admitNext 1)
/-- STREAM_WRITE (R491): a WRITE packet is taken. -/
def execStreamWrite (phase : Nat) (s : State) : Res := .next ((s.at_ phase).admitNext 2)
/-- LOAD_DICT (R492): a LOAD_DICT packet is taken. -/
def execLoadDict (phase : Nat) (s : State) : Res := .next ((s.at_ phase).admitNext 3)
/-- COMMIT_GROUP (R493): a COMMIT_GROUP packet is taken. -/
def execCommitGroup (phase : Nat) (s : State) : Res := .next ((s.at_ phase).admitNext 4)
/-- ABORT_GROUP (R493): an ABORT_GROUP packet is taken. -/
def execAbortGroup (phase : Nat) (s : State) : Res := .next ((s.at_ phase).admitNext 5)

/-! ### Checks (R487, R491, R621) -/

/-- The logical paddocks' first addresses of a range, for the region checks. -/
def rangeDpas (dpa len : Nat) : List Nat := dpa :: ((List.range ((dpa + len - 1) / 2 ^ 24 - dpa / 2 ^ 24)).map (fun i => (dpa / 2 ^ 24 + 1 + i) * 2 ^ 24))

/-- The DPA range of R6 in which an address lies: internal user space, cartridge slots, none. -/
def State.dpaRange (s : State) (dpa : Nat) : Nat := if s.dpaInternal dpa then 0 else match dpaCart dpa with | some n => 1 + n | none => 3

/-- The first failing check of R426 over a range; 0 where all pass. -/
def State.checkRange (s : State) (cls : Nat) (write : Bool) (dpa len keyid : Nat) : Nat × Nat :=
  ((rangeDpas dpa len).foldl (fun acc a => if acc.1 ≠ 0 then acc else (s.checkDpa cls write false a keyid, a)) (0, dpa))

/-- The STATUS and DETAIL with which a READ or LOAD_DICT source is refused, and the address of a failed region check (R487). -/
def State.readRefusal (s : State) (p : Packet) : Option (Nat × Nat × Nat) :=
  let last := p.dpa + p.srcLen - 1
  let r := s.dpaRange p.dpa
  if r ≠ s.dpaRange last || decide (2 ^ 42 ≤ last) then some (0x11, 0x10, 0)
  else if r = 3 then some (0x11, 3, 0)
  else if r = 0 then
    let c := s.checkRange clsStream false p.dpa p.srcLen p.keyid
    if c.1 ≠ 0 then some (0x11, c.1, c.2) else none
  else if !s.cartMounted (r - 1) then some (0x11, 0x11, 0)
  else if !s.cartDecoded (r - 1) last then some (0x11, 3, 0)
  else
    let c := s.checkDpa clsStream false false p.dpa p.keyid
    if c ≠ 0 then some (0x11, c, p.dpa) else none

/-- The refusal of a WRITE destination (R491). -/
def State.writeRefusal (s : State) (p : Packet) : Option (Nat × Nat × Nat) :=
  if s.dpaRange p.dpa ≠ 0 || s.dpaRange (p.dpa + p.srcLen - 1) ≠ 0 then some (0x11, 0x12, 0)
  else
    let c := s.checkRange clsStream true p.dpa p.srcLen p.keyid
    if c.1 ≠ 0 then some (0x11, c.1, c.2) else none

/-- Dictionary slot `d`. -/
def State.dictSlot (s : State) (d : Nat) : Dict := SMap.get (fun _ => {}) s.strm.dicts d
/-- Dictionary slot `d` replaced. -/
def State.setDict (s : State) (d : Nat) (x : Dict) : State := s.onStrm (fun t => { t with dicts := SMap.set (fun _ => {}) t.dicts d x })

/-- The refusal of a packet before any booking; none where it passes. -/
def State.packetRefusal (s : State) (p : Packet) : Option (Nat × Nat × Nat) :=
  if p.opcode = 4 || p.opcode = 5 then none
  else if !s.serving then some (0x12, 1, 0)
  else if !s.irq.busMaster then some (0x12, 2, 0)
  else if p.opcode = 2 then s.writeRefusal p
  else match s.readRefusal p with
    | some x => some x
    | none => if p.useDict && !(s.dictSlot p.dict).named then some (0x13, p.dict, 0) else none

/-! ### The ledger (R497) -/

/-- R slots per bell of a pattern under a thermal level (R49). -/
def rSlots (level pattern : Nat) : Nat := if level ≤ 2 then 16 - popCount 16 pattern else if level = 3 then 8 else 4

/-- Lanes of a cartridge slot's link, and its sectors per bell (R625). -/
def State.cartSectorsPerBell (s : State) (n : Nat) : Nat :=
  if !s.cartMounted n then 0 else if s.fld (Reg.ZL.STATUS.WIDTH n) = 4 then 32 else 12

/-- Media capacity of resource `r` in bell `b`: gangs by the level and the pattern in effect, or posted or committed for later flocks. -/
def State.mediaCap (s : State) (r b : Nat) : Nat :=
  if r < 2 then
    let later := decide (s.flock < b / 64)
    let level := if later && s.flag Reg.BWT.LAT_NEXT.NEXT_VALID then s.fld Reg.BWT.LAT_NEXT.THROT_LEVEL else s.levelNow
    let shadow := s.fld (Reg.ROT.PATTERN.B_MASK r)
    rSlots level (if later && s.commits.contains (2 + r) && patternValid shadow then shadow else s.pattern r)
  else s.cartSectorsPerBell (r - 2)

/-- LINK_LINES of the trained link (R497). -/
def State.linkLines (s : State) : Nat :=
  if !s.link.up then 0
  else [0, 64, 128, 256, 512, 1152, 2304].getD (s.fld Reg.HLK.LINK_STATUS.RATE) 0 * s.fld Reg.HLK.LINK_STATUS.WIDTH / 16

/-- Units of resource `r` booked in bell `b`. -/
def Strm.booked (t : Strm) (r b : Nat) : Nat := SMap.get (fun _ => 0) t.ledger (8 * b + r)
/-- `n` more units of resource `r` booked in bell `b`. -/
def Strm.book (t : Strm) (r b n : Nat) : Strm := { t with ledger := SMap.set (fun _ => 0) t.ledger (8 * b + r) (t.booked r b + n) }

/-- Free units of a media resource and of the link; `t` is the ledger with the bookings made so far. -/
def State.mediaFree (s : State) (t : Strm) (r b : Nat) : Nat := s.mediaCap r b - t.booked r b
def State.linkFree (s : State) (t : Strm) (b : Nat) : Nat := min (s.appFld Reg.STR.CTRL.LINK_LIMIT) s.linkLines - t.booked 4 b

/-- The first bell from `b` on, at most `fuel` further, that satisfies `p`; `b + fuel` where there is none. -/
def firstBell (fuel b : Nat) (p : Nat → Bool) : Nat :=
  match fuel with
  | 0 => b
  | k + 1 => if p b then b else firstBell k (b + 1) p

/-- Bells that the ledger runs ahead (R499). -/
abbrev horizon : Nat := 65536

/-- What a source segment needs (R497, R499): resource if it needs media, lag, units, output lines. -/
structure SegNeed where
  seg : Nat
  res : Option Nat
  lag : Nat
  units : Nat
  lines : Nat

/-- The need of segment `i` of a source as looked up at admission. -/
def State.segNeed (s : State) (p : Packet) (i : Nat) : SegNeed :=
  let lo := max p.dpa (i * 4096)
  let hi := min (p.dpa + p.srcLen) ((i + 1) * 4096)
  let lines := ceilDiv (hi - lo) 64
  match dpaCart p.dpa with
  | some n => { seg := i, res := some (2 + n), lag := 3, units := (hi - 1) / 256 - lo / 256 + 1, lines }
  | none =>
    match (s.mapOf i).st with
    | .caldera | .tlc => { seg := i, res := some (psaGang (s.mapOf i).psa), lag := 2, units := 1, lines }
    | _ => { seg := i, res := none, lag := 2, units := 1, lines }

/-- The needs of a source, in order. -/
def State.segNeeds (s : State) (p : Packet) : List SegNeed := (List.range (p.lastSeg - p.firstSeg + 1)).map (fun i => s.segNeed p (p.firstSeg + i))

/-- A plan of a source (R499): ledger with its bookings, the bookings, the bell reached, the greatest finish. -/
structure Plan where
  led : Strm
  books : List Book
  m : Nat
  f : Nat

/-- One segment is planned; `link` books its lines as well. -/
def State.planSeg (s : State) (limit : Nat) (link : Bool) (pl : Plan) (x : SegNeed) : Plan :=
  let m := firstBell (limit - pl.m) pl.m (fun b =>
    (match x.res with | some r => decide (x.units ≤ s.mediaFree pl.led r b) | none => true) && (!link || decide (x.lines ≤ s.linkFree pl.led (b + x.lag))))
  let l1 := match x.res with | some r => pl.led.book r m x.units | none => pl.led
  let l2 := if link then l1.book 4 (m + x.lag) x.lines else l1
  { led := l2, books := pl.books ++ [{ seg := x.seg, res := x.res, bell := m, lag := x.lag, units := x.units }], m, f := max pl.f (m + x.lag) }

/-- A whole source is planned from bell `b`. -/
def State.planSource (s : State) (p : Packet) (link : Bool) (b : Nat) (limit : Nat) : Plan :=
  (s.segNeeds p).foldl (fun pl x => s.planSeg limit link pl x) { led := s.strm, books := [], m := b, f := b }

/-- First bell at which an input buffer of lane `x` is free, and its number (R496). -/
def State.bufferFree (s : State) (x : Nat) : Nat × Nat :=
  let a := SMap.get (fun _ => 0) s.strm.bufs (2 * x)
  let b := SMap.get (fun _ => 0) s.strm.bufs (2 * x + 1)
  if b < a then (b, 1) else (a, 0)

/-- Lane `x` may start at bell `st`: the link has `r` lines free in each of the `n` bells after it. -/
def State.laneFits (s : State) (t : Strm) (st n r : Nat) : Bool := (List.range n).all (fun k => decide (r ≤ s.linkFree t (st + 1 + k)))

/-- A booked request: the ledger, bookings, lane with its first bell and bells, finish. -/
structure Booking where
  led : Strm
  books : List Book
  lane : Option (Nat × Nat × Nat) := none
  buf : Nat := 0
  f : Nat

/-- The plan of a compressed READ on lane `x` (R499): its plan and its first lane bell. -/
def State.planLane (s : State) (p : Packet) (b0 dictReady n r x : Nat) : Plan × Nat :=
  let mb := max b0 (s.bufferFree x).1
  let pl := s.planSource p false mb (b0 + horizon)
  let needs := pl.books.filter (fun b => b.res.isSome)
  let ready := max (mb + 2) ((needs.map (fun b => b.bell + b.lag)).foldl max 0)
  let from_ := max ready (max (SMap.get (fun _ => 0) s.strm.lanes x) dictReady)
  (pl, firstBell (b0 + horizon - from_) from_ (fun st => s.laneFits pl.led st n r))

/-- A compressed READ is booked. -/
def State.bookLane (s : State) (p : Packet) (b0 dictReady : Nat) : Booking :=
  let n := ceilDiv (laneTime p.format p.srcLen p.dstLen) 4096
  let r := min 342 (ceilDiv p.dstLen 64)
  let lanes := (List.range 8).filter (fun x => !s.underMarch (2 + x))
  let plans := lanes.map (fun x => (x, s.planLane p b0 dictReady n r x))
  let best := plans.foldl (fun acc y => if y.2.2 < acc.2.2 then y else acc) (lanes.headD 0, s.planLane p b0 dictReady n r (lanes.headD 0))
  let st := best.2.2
  let led := (List.range n).foldl (fun t k => t.book 4 (st + 1 + k) r) best.2.1.led
  { led, books := best.2.1.books, lane := some (best.1, st, n), buf := (s.bufferFree best.1).2, f := st + n }

/-- READ and LOAD_DICT are booked (R499), without the status line. -/
def State.bookRead (s : State) (p : Packet) (b0 : Nat) : Booking :=
  if p.opcode = 1 && p.format ≠ 0 then
    s.bookLane p b0 (if p.useDict then (s.dictSlot p.dict).finish + 1 else 0)
  else
    let pl := s.planSource p (decide (p.opcode = 1)) b0 (b0 + horizon)
    { led := pl.led, books := pl.books, f := if p.opcode = 3 then max (pl.f + 1) ((s.dictSlot p.dict).lastLane + 1) else pl.f }

/-- The status line is booked. -/
def State.bookStatus (s : State) (p : Packet) (b0 : Nat) (x : Booking) : Booking :=
  if p.statusWb then
    let f := firstBell (b0 + horizon - x.f) x.f (fun b => decide (1 ≤ s.linkFree x.led b))
    { x with led := x.led.book 4 f 1, f }
  else x

/-! ### The decision (R498, R499) -/

/-- The lane and buffer of a booking are held; bookings of bells before the last one are forgotten. -/
def State.keepBooking (s : State) (x : Booking) : State :=
  let led := x.led.ledger.filter (fun e => decide (8 * s.clk.bell ≤ e.1 + 8))
  match x.lane with
  | some (l, st, n) =>
    s.onStrm (fun t => { t with ledger := led, lanes := SMap.set (fun _ => 0) t.lanes l (st + n), bufs := SMap.set (fun _ => 0) t.bufs (2 * l + x.buf) (st + n) })
  | none => s.onStrm (fun t => { t with ledger := led })

/-- What acceptance does to the dictionary slot (R492, R524). -/
def State.acceptDict (s : State) (p : Packet) (x : Booking) : State :=
  let d := s.dictSlot p.dict
  if p.opcode = 3 then
    ((s.setDict p.dict { d with named := true, gen := d.gen + 1, finish := x.f }).setFld (Reg.DCX.DICT.STATE p.dict) 1).setFld (Reg.DCX.DICT.GEN p.dict)
      ((d.gen + 1) % 256)
  else if p.opcode = 1 && p.useDict then
    s.setDict p.dict { d with lastLane := max d.lastLane (match x.lane with | some (_, st, n) => st + n - 1 | none => 0) }
  else s

/-- A packet is accepted with its bookings. -/
def State.acceptPacket (s : State) (p : Packet) (x : Booking) : State :=
  let s1 := (s.keepBooking x).acceptDict p x
  let gen := if p.opcode = 3 || p.useDict then some (s1.dictSlot p.dict).gen else none
  ((s1.onStrm (fun t => { t with reqs := t.reqs ++ [{ id := t.next, pkt := p, finish := x.f, books := x.books, lane := x.lane, gen }], next := t.next + 1 })).bump
    (Reg.PEN.ACCEPTED.ACCEPTED p.pen)).ev 0x81 none none 1

/-- A READ or LOAD_DICT that passes its checks is booked or refused by its deadline; `due` is D (R498). -/
def State.decideRead (s : State) (p : Packet) (due : Nat) : State :=
  let b0 := due / 4096 + 2
  if p.deadline ≠ 0 && decide (p.deadline ≤ b0) then s.refusePacket p 0x10 1
  else
    let x := s.bookStatus p b0 (s.bookRead p b0)
    if b0 + horizon ≤ x.f then s.refusePacket p 0x10 3
    else if p.deadline ≠ 0 && decide (p.deadline < x.f + 1) then s.refusePacket p 0x10 2
    else s.acceptPacket p x

/-! ### Host reads of a WRITE (R491) -/

/-- Outstanding CXL.io reads of an engine. -/
def State.engineReads (s : State) (e : Nat) : Nat :=
  (s.strm.hostReads.filter (fun h => match h.req with
    | some i => s.strm.reqs.any (fun r => decide (r.id = i) && decide (r.pkt.engine = e))
    | none => false)).length

/-- One more read of a WRITE's source: up to 512 bytes within a 4 KiB page of host memory. -/
def State.askHost (s : State) (r : Req) : State :=
  let a := r.pkt.host + r.asked
  let n := min (min 512 (4096 - a % 4096)) (r.pkt.srcLen - r.asked)
  let t := s.strm.nextTag
  (s.onStrm (fun x => { x with
    hostReads := x.hostReads ++ [{ tag := t, req := some r.id, off := r.asked, len := n }], nextTag := t + 1,
    reqs := x.reqs.map (fun y => if y.id = r.id then { y with asked := y.asked + n } else y) })).emit (.dmaRead t a n)

/-- Reads are issued for the WRITEs of engine `e`, oldest first, while fewer than 64 are outstanding. -/
def State.askAll (s : State) (e fuel : Nat) : State :=
  match fuel with
  | 0 => s
  | k + 1 =>
    if !s.mastering || s.link.recovery || decide (64 ≤ s.engineReads e) then s
    else match s.strm.reqs.find? (fun r => decide (r.pkt.opcode = 2) && decide (r.pkt.engine = e) && r.fail.isNone && decide (r.asked < r.pkt.srcLen)) with
      | some r => State.askAll (s.askHost r) e k
      | none => s

/-- Both engines issue what they can. -/
def State.askHosts (s : State) : State := (s.askAll 0 64).askAll 1 64

/-- The decision on a packet that its pen's flush has not marked. -/
def State.decidePacket (s : State) (p : Packet) (due : Nat) : State :=
  match s.packetRefusal p with
  | some (st, detail, dpa) =>
    let s1 := s.refusePacket p st detail
    if st = 0x11 && detail < 0x10 then s1.refusedBy clsStream detail dpa p.keyid else s1
  | none => if p.reads then s.decideRead p due else (s.acceptPacket p { led := s.strm, books := [], f := 0 }).askHosts

/-- Lane `x` has no booking in the current bell or the next 4 (R745). -/
def State.laneUnbooked (s : State) (x : Nat) : Bool :=
  !(s.strm.reqs.any (fun r => match r.lane with
    | some (l, st, n) => decide (l = x) && decide (st ≤ s.clk.bell + 4) && decide (s.clk.bell < st + n)
    | none => false))

/-- The history of lane `x` is in retention (R745). -/
def State.laneRetained (s : State) (x : Nat) : Bool := decide (s.appFld Reg.SRM.RET_CTRL.AUTO_LANES = 1) && s.laneUnbooked x

/-- Lanes that leave retention between `s0` and `s` start to wake (R745). -/
def State.laneWakes (s s0 : State) : State :=
  let l := (List.range 8).filter (fun x => s0.laneRetained x && !s.laneRetained x && !s.srm.waking.contains (x + 2))
  if l.isEmpty then s else { s with srm := { s.srm with waking := s.srm.waking ++ l.map (· + 2) } }

/-- ADMISSION_DECISION (R498): at D the packet in the admission unit is accepted or refused. -/
def execAdmissionDecision (phase : Nat) (s : State) : Res :=
  let s0 := s.at_ phase
  .next (match s0.strm.adm with
    | some a =>
      if s0.now < a.due then s0
      else
        let s1 := (s0.onStrm (fun t => { t with adm := none })).setFlag Reg.STR.STATUS.ADMITTING false
        if a.flushed then s1.refusePacket a.pkt 0x14 0 else (s1.decidePacket a.pkt a.due).laneWakes s0
    | none => s0)

end Sys2Proof.Machine
end

