-- ==== Sys2Proof/Machine/Sense.lean ====
section
/-! DEFINITION. Foreground senses (R30, R32, R36 to R39, R92 to R95, R101, R131, R132, R136 to R138, R269, R270): the first sense, its decode, the second attempt, the re-read. -/

namespace Sys2Proof.Machine

/-! ### Starting a sense (R30, R93, R95) -/

/-- The gang-local die of gang `g` that is programming now (R32). A Vent turn programs two, and no read is sensed then (R681). -/
def State.progNow (s : State) (g : Nat) : Option Nat := (List.range 20).find? (fun i => s.programming (dieNo g i))

/-- What starting a sense counts (R814, R816). -/
def State.senseCount (s : State) (num lseg master : Nat) (er prog : List Nat) : State :=
  let s1 := s.ev num (some (lseg * 4096)) (some master) (20 - er.length)
  if prog.isEmpty then s1 else s1.ev 0x13 none none 1

/-- A read of the same fragment that is bound to the same slot has issued the sense that `r` needs, and its positions (R95). -/
def State.shared (s : State) (r : Rd) : Bool :=
  s.reads.list.any (fun x => x.onAir && decide (x.id ≠ r.id) && decide (x.psa = r.psa) && decide (x.start = r.start) && decide (x.bank = r.bank) && decide (r.width ≤ x.width))

/-- A sense of read `r` starts now: the dies not sensed, and the commands. -/
def State.startSense (s : State) (r : Rd) : State :=
  if s.shared r then s.setRd r
  else
    let b := s.bookFg r
    let s1 := (b.2.setRd r).senseCount 0x10 r.lseg r.master r.er r.progDie.toList
    { s1 with out := s1.out ++ senseCmds r.psa r.slc r.bank r.bin r.classes r.er b.1 }

/-- The positions that a sense leaves out: failed dies and the programming die (R131). -/
def State.leftOut (s : State) (g : Nat) : List Nat := (s.failedOf g ++ (s.progNow g).toList).eraseDups

/-- FOREGROUND_SENSE_START (R30): at the start of the first R slot of the gang at or after the media arrival point. -/
def execForegroundSenseStart (read phase : Nat) (s : State) : Res :=
  let s0 := s.at_ phase
  .next (match s0.rd read with
    | some r =>
      let g := psaGang r.psa
      if r.st = .bound && decide (r.arrive ≤ s0.now) && decide (s0.now = s0.nextR g r.arrive) then
        s0.startSense { r with
          st := .sensing, s1 := s0.now, er := s0.leftOut g, progDie := s0.progNow g, turnEnd := (s0.rota g).turnEnd, bank := s0.activeBank g,
          window := s0.inWindow g && !r.slc }
      else s0
    | none => s0)

/-! ### Decoding (R131, R132, R136) -/

/-- The sensing of a read for its decodes. -/
def Rd.sensing (r : Rd) : Sensing :=
  { psa := r.psa, lseg := r.lseg, bank := r.bank, bin := r.bin, classes := r.classes, er := r.er,
    who := if r.isStream then .stream else match r.who with | .strict _ _ _ => .check | _ => .host, cls := r.master, track := some true }

/-- The attempt at sector `k`; `er` are the erasures beyond parity, and `old` the chunks of a first sense that stand in for a programming die's (R39). -/
def State.attempt (s : State) (c : Sensing) (k : Nat) (x : Sensed) (er : List Nat) (old : Option (Nat × Chunk)) : Attempt :=
  let rx := s.received c.psa k c.er x
  let rx1 := match old with | some p => rx.set p.1 p.2 | none => rx
  { s.outcome c k rx1 (er ++ x.parityOf k c.er).eraseDups with base := er }

/-- The outcome as its consumer gets it: the plaintext. -/
def State.plain (s : State) (lsn : Nat) (o : SecOut) : SecOut :=
  match o with
  | .data d m => .data (s.plainOf lsn m d) m
  | x => x

/-- The first attempt at sector `k` of read `r`. -/
def State.firstTry (s : State) (r : Rd) (x : Sensed) (er : List Nat) (k : Nat) : State × Rd :=
  let a := s.attempt r.sensing k x er none
  let s1 := s.noteAttempt r.sensing k x a true []
  if a.out.ok then (s1, { r with outs := r.outs ++ [(k, s.plain (r.lseg * 16 + k) a.out)] })
  else (s1, { r with
    fails := r.fails ++ [(k, a.out.cause)], first := r.first ++ [(k, a.rx)], faults := r.faults ++ a.faults x k r.er,
    par1 := r.par1 ++ (r.er ++ x.parityOf k r.er).map (fun p => (k, p)) })

/-- The second attempt at sector `k`, the plain one of R38 or the re-read of R39: there the chunk of the die that programs now is that of the first sense, or an erasure where the first sense did not
bring it whole (R131). -/
def State.secondTry (s : State) (r : Rd) (x : Sensed) (f : Nat × Nat) : State × Rd :=
  let k := f.1
  let g := psaGang r.psa
  let old := if r.reread then
      (match r.progDie with | some p => (r.first.find? (fun e => e.1 = k)).map (fun e => (p, e.2.getD p 0)) | none => none)
    else none
  let gone := match old with | some p => if r.par1.contains (k, p.1) then [p.1] else [] | none => []
  let er := if r.reread then (gone ++ s.failedOf g).eraseDups else (r.er ++ s.failedOf g).eraseDups
  let a := s.attempt r.sensing k x er old
  let s1 := (s.noteAttempt r.sensing k x a false r.faults).classify r.master r.psa r.lseg k f.2 a
  (s1, { r with outs := r.outs ++ [(k, if a.out.ok then s.plain (r.lseg * 16 + k) a.out else .fail a.out.cause)] })

/-- Bytes that a sense brings in over the die interfaces and the gang (R819). -/
def State.senseBytes (s : State) (psa : Nat) (er : List Nat) (sectors : Nat) : State :=
  let g := psaGang psa
  let ds := (List.range 20).filter (fun i => !er.contains i)
  (s.each ds (fun s i => s.moved (24 + dieNo g i) false (16 * sectors))).moved (17 + g) false (16 * sectors * ds.length)

/-- A media read fills the sector-cache entry of each of its sectors (R385); a stream engine does not, nor a segment whose map entry has changed. -/
def State.fillSectors (s : State) (r : Rd) : State :=
  if r.isStream || r.stale then s
  else s.each r.outs (fun s o =>
    match o.2 with
    | .data d _ => s.scFill (r.lseg * 16 + o.1) false d
    | .zeros => s.scFill (r.lseg * 16 + o.1) false 0
    | .poison _ => s.scFill (r.lseg * 16 + o.1) true 0
    | .fail _ => s)

/-- The read's sectors are all decided: hand-off 56 clk after the end of the sense that decided the last (R36). -/
def State.senseDone (s : State) (r : Rd) : State := (s.fillSectors r).deliver r r.outs true (r.start + r.len + 56)

/-- The read is of a gang with three or more failed dies: poison at the path count, without a decode (R115). -/
def State.offlineRead (s : State) (r : Rd) : State := (s.deliver { r with struck := r.struck ++ [2] } (r.all (.fail 0)) false (r.start + r.len + 56))

/-- The first sense's decodes, and what follows (R136): done, a second attempt, or a re-read. -/
def State.firstDecode (s : State) (r : Rd) (x : Sensed) : State :=
  let g := psaGang r.psa
  let er := (r.er ++ s.failedOf g).eraseDups
  let p := r.sectors.foldl (fun (acc : State × Rd) k => acc.1.firstTry acc.2 x er k) (s, r)
  if p.2.fails.isEmpty then p.1.senseDone p.2
  else
    let again := decide (1 ≤ (s.failedOf g).length) && r.progDie.isSome
    let s1 := p.1.setRd { p.2 with st := if again then .reread else .second, struck := p.2.struck ++ [1] }
    if again then s1.raise Reg.SEC.INT_STATUS.REREAD else s1

/-- The second sense's decodes: of every sector that failed (R132). The retry under the previous references is told to the tracker (R271). -/
def State.secondDecode (s : State) (r : Rd) (x : Sensed) : State :=
  let g := psaGang r.psa
  let p := r.fails.foldl (fun (acc : State × Rd) f => acc.1.secondTry acc.2 x f) (s, r)
  let s1 := if r.window && !r.reread then
      r.fails.foldl (fun s f => s.oldRefRetry g r.bin r.classes ((p.2.outs.find? (fun o => o.1 = f.1)).any (fun o => o.2.ok))) p.1
    else p.1
  s1.senseDone p.2

/-- SENSE_COMPLETE (R92): the window of the read's sense has ended; `sensed` are the wrong bits and parity errors that it brings. -/
def execSenseComplete (read : Nat) (sensed : Sensed) (phase : Nat) (s : State) : Res :=
  let s0 := s.at_ phase
  .next (match s0.rd read with
    | some r =>
      if r.onAir && decide (r.start + r.len ≤ s0.now) then
        let s1 := s0.senseBytes r.psa r.er r.sectors.length
        if s1.margin (psaGang r.psa) = 3 then s1.offlineRead r
        else if r.st = .sensing then s1.firstDecode r sensed else s1.secondDecode r sensed
      else s0
    | none => s0)

/-! ### The second sense -/

/-- The start of the second sense of R38: slot S + 2 (SLC) or S + 3 (TLC) if it is R, else the slot after. Under a fixed thermal pattern, the first R slot after the failure is known. -/
def State.retryAt (s : State) (r : Rd) : Nat := s.nextR (psaGang r.psa) (r.s1 + r.len + 50)

/-- RETRY_SENSE_START (R38, R269, R270): a first sense that started in the change window takes the previous bank, every other the same bank. -/
def execRetrySenseStart (read phase : Nat) (s : State) : Res :=
  let s0 := s.at_ phase
  .next (match s0.rd read with
    | some r =>
      let g := psaGang r.psa
      if r.st = .second && decide (s0.now = s0.retryAt r) then
        s0.startSense { r with
          st := .sensing2, s2 := s0.now, reread := false, er := s0.leftOut g, progDie := s0.progNow g, bank := if r.window then 1 - r.bank else r.bank }
      else s0
    | none => s0)

/-- REREAD_START (R39): at the first R slot at or after both the end of the program turn and the known failure; the die that programs then is not sensed. -/
def execRereadStart (read phase : Nat) (s : State) : Res :=
  let s0 := s.at_ phase
  .next (match s0.rd read with
    | some r =>
      let g := psaGang r.psa
      if r.st = .reread && decide (s0.now = s0.nextR g (max r.turnEnd (r.s1 + r.len + 50))) then
        ((s0.startSense { r with st := .sensing2, s2 := s0.now, reread := true, er := s0.leftOut g, progDie := s0.progNow g }).bump
          (Reg.SEC.REREAD.REREAD g)).ev 0x23 (some r.dpa) (some r.master) 1
      else s0
    | none => s0)

end Sys2Proof.Machine
end

