-- ==== Sys2Proof/Machine/Background.lean ====
section
/-! DEFINITION. Background senses (R29, R95, R141 to R144, R184, R185, R191 to R195, R546): what the next one is for, its start in a B slot, and the decode of its 16 stripes. -/

namespace Sys2Proof.Machine

/-! ### Builds in flight (R46, R140, R178, R542) -/

/-- A background sense in flight satisfies `p`. -/
def State.anyBg (s : State) (p : Bg → Bool) : Bool := s.reads.bg.any p
/-- It reads a segment in order to build it. -/
def Bg.builds (b : Bg) : Bool := match b.work with | .oldRead _ | .rewrite _ | .reencrypt _ => true | _ => false
/-- It re-encrypts. -/
def Bg.reenc (b : Bg) : Bool := match b.work with | .reencrypt _ => true | _ => false

/-- A build of the segment in the other state of R202, in a group or outside one, is in flight. -/
def State.otherBuild (s : State) (x : Snap) : Bool := s.anyBuild (fun b => decide (b.lseg = x.lseg) && decide (b.group ≠ x.group) && !b.dropped)

/-- A build of the segment has been made and is not yet applied or dropped. -/
def State.builtBusy (s : State) (lseg : Nat) : Bool := s.anyBuild (fun b => decide (b.lseg = lseg) && !b.dropped)
/-- A build of the segment is in flight, from its old-segment read on. -/
def State.segBuilding (s : State) (lseg : Nat) : Bool :=
  s.builtBusy lseg || s.anyBg (fun b => decide (b.lseg = lseg) && b.builds) ||
    s.xlt.snaps.any (fun x => decide (x.lseg = lseg) && (x.old.isSome || decide (x.st ≠ .waiting)))

/-- The map entry that a snapshot's build takes its old segment from: the group's own, else the committed one (R202); none during a trim of the segment (R206). -/
def State.oldEntry (s : State) (x : Snap) : MapE :=
  let own := match x.group with | some i => SMap.get (fun _ => ({} : MapE)) (s.group i).pend x.lseg | none => {}
  if own.st ≠ .unmapped then own else if s.inTrim x.lseg then {} else s.mapOf x.lseg

/-- The entry names a physical segment. -/
def MapE.placed (e : MapE) : Bool := e.st = .caldera || e.st = .tlc

/-- No older snapshot of the segment waits to be built. -/
def State.firstSnap (s : State) (x : Snap) : Bool := !s.xlt.snaps.any (fun y => decide (y.lseg = x.lseg) && decide (y.id < x.id) && decide (y.st = .waiting))

/-- The newest build of the snapshot's segment that is still to be mapped, in its own group or outside groups as the snapshot is: what the segment will hold when the snapshot's own build is mapped. The
build of the snapshot takes its old sectors from there, so that a later write need not wait for the earlier one's rotation to end (R46, R178). -/
def State.priorBuild (s : State) (x : Snap) : Option Built :=
  (s.builds.filter (fun b => decide (b.lseg = x.lseg) && decide (b.group = x.group) && !b.dropped)).getLast?

/-! ### The Shepherd's next segment (R141, R142) -/

/-- A physical segment that the Shepherd visits: LIVE, in a closed and verified paddock. -/
def State.visitable (s : State) (psa : Nat) (e : RevE) : Bool :=
  decide (e.st = .live) &&
    (match (s.band (psaGang psa) (psaBand psa)).st with
     | .tlcClosed => true
     | .caldera => decide ((s.pad (psaGang psa) (psaPaddock psa)).st = .closed)
     | _ => false)

/-- The reverse map of gang `g`. -/
def State.revGang (s : State) (g : Nat) : SMap RevE := s.xlt.rev.within (g * 2 ^ 29) ((g + 1) * 2 ^ 29)

/-- QUOTA of R142 for `live` segments. -/
def quotaOf (live hours : Nat) : Nat := min (ceilDiv (live * 65536) (hours * 41198730)) 0xFFFFFF

/-- A pass of gang `g` begins: the quota for the segments LIVE now. -/
def State.passBegin (s : State) (g : Nat) : State :=
  let live := ((s.revGang g).filter (fun e => decide (e.2.st = .live))).length
  ((s.setFld (Reg.SHP.QUOTA.QUOTA g) (quotaOf live (s.appFld Reg.SHP.CTRL.PASS_HOURS))).setFld (Reg.SHP.SCANNED.SCANNED g) 0).onGang g
    (fun x => { x with shep := { x.shep with passStart := s.flock, hours := s.appFld Reg.SHP.CTRL.PASS_HOURS, behind := false } })

/-- A pass of gang `g` ends and the next begins at segment 0. -/
def State.passEnd (s : State) (g : Nat) : State :=
  (((s.setFld (Reg.SHP.POS.NEXT_SEG g) 0).bump (Reg.SHP.PASSES.PASSES g)).raise Reg.SHP.INT_STATUS.PASS_DONE).passBegin g

/-- The next segment from NEXT_SEG on. -/
def State.shepNext (s : State) (g : Nat) : Option Nat :=
  ((s.revGang g).find? (fun e => decide (g * 2 ^ 29 + s.fld (Reg.SHP.POS.NEXT_SEG g) ≤ e.1) && s.visitable e.1 e.2)).map (fun e => e.1)

/-- The Shepherd may start a visit in gang `g` (R142, R144). -/
def State.shepGo (s : State) (g : Nat) : Bool :=
  decide (65536 ≤ (s.gang g).shep.credit) && decide (s.appFld Reg.SHP.CTRL.SHP_ENABLE = 1) && decide (s.margin g < 3)

/-- The Shepherd takes its next segment, a pass ending where none is left. -/
def State.shepTake (s : State) (g : Nat) : Option (BgWork × Nat) × State :=
  if !s.shepGo g then (none, s)
  else
    let s1 := if (s.shepNext g).isSome then s else if (s.revGang g).any (fun e => s.visitable e.1 e.2) then s.passEnd g else s
    match s1.shepNext g with
    | some p =>
      let s2 := (s1.setFld (Reg.SHP.POS.NEXT_SEG g) ((p + 1) % 2 ^ 29)).bump (Reg.SHP.SCANNED.SCANNED g)
      (some (.shepherd, p), s2.onGang g (fun x => { x with shep := { x.shep with credit := x.shep.credit - 65536 } }))
    | none => (none, s1)

/-! ### Verification of paddocks and fold bands (R186, R191) -/

/-- The next filled segment of the paddock in verify, from slot `n` on (R186, R191): an empty slot's entry names no logical segment. -/
def State.padSlot (s : State) (g p n : Nat) : Option Nat :=
  ((s.xlt.rev.within (psaOf g p n) (psaOf g p 1360)).find? (fun e => decide (e.2.st ≠ .free) && decide (e.2.lseg ≠ 0x3FFFFFFF))).map (fun e => e.1 - psaOf g p 0)

/-- The oldest FULL paddock enters verify. -/
def State.padStart (s : State) (g : Nat) : State :=
  match (s.gang g).padVer, (s.gang g).fulls with
  | none, p :: rest => s.onGang g (fun x => { x with padVer := some { paddock := p }, fulls := rest })
  | _, _ => s

/-- The next segment of the oldest parity rebuild of gang `g`, whose row the rotation in progress does not program (R190, R195). -/
def State.rebTake (s : State) (g : Nat) : Option (BgWork × Nat) × State :=
  let x := s.gang g
  match s.xlt.rebuilds.find? (fun r => decide (r.gang = g) && !r.todo.isEmpty && !(x.placed ++ x.ending).any (fun p => decide (p.paddock = r.paddock) && decide (p.row = r.row))) with
  | some r =>
    match r.todo with
    | n :: rest => (some (.rebuild r.id n, psaOf g r.paddock n), s.onXlt (fun t => { t with rebuilds := t.rebuilds.map (fun y => if y.id = r.id then { y with todo := rest } else y) }))
    | [] => (none, s)
  | none => (none, s)

/-- The next segment of a paddock's verify. -/
def State.padTake (s : State) (g : Nat) : Option (BgWork × Nat) × State :=
  let s1 := s.padStart g
  match (s1.gang g).padVer with
  | some v =>
    match s1.padSlot g v.paddock v.next with
    | some n => (some (.padVerify v.paddock n, psaOf g v.paddock n), s1.onGang g (fun x => { x with padVer := some { v with next := n + 1 } }))
    | none => (none, s1)
  | none => (none, s1)

/-- The next segment of a fold band's verify. -/
def State.verTake (s : State) (g : Nat) : Option (BgWork × Nat) × State :=
  let f := (s.gang g).fold
  match f.vband with
  | some b => if f.vnext < f.vsegs.length then
      (some (.foldVerify g f.vnext, psaOfTlcSlot g b f.vnext), s.onGang g (fun x => { x with fold := { x.fold with vnext := x.fold.vnext + 1 } }))
    else (none, s)
  | none => (none, s)

/-! ### Rewrites and old-segment reads (R140, R178) -/

/-- The map still names the segment that was read. -/
def State.names (s : State) (lseg psa : Nat) : Bool := (s.mapOf lseg).placed && decide ((s.mapOf lseg).psa = psa)

/-- The oldest rewrite of gang `g` whose segment has no build in flight; requests whose segment the map names no longer are dropped. -/
def State.rewTake (s : State) (g : Nat) : Option (BgWork × Nat) × State :=
  let l := s.xlt.rewrites.filter (fun r => s.names r.lseg r.psa)
  match l.find? (fun r => decide (psaGang r.psa = g) && !s.segBuilding r.lseg) with
  | some r => (some (.rewrite r.bad, r.psa), s.onXlt (fun t => { t with rewrites := l.erase r }))
  | none => (none, s.onXlt (fun t => { t with rewrites := l }))

/-- The oldest snapshot whose old segment lies in gang `g` and is still to be read. -/
def State.oldTake (s : State) (g : Nat) : Option (BgWork × Nat) × State :=
  match s.xlt.snaps.find? (fun x =>
    x.old.isNone && decide (x.st = .waiting) && (s.oldEntry x).placed && decide (psaGang (s.oldEntry x).psa = g) && s.firstSnap x && !s.builtBusy x.lseg &&
      !s.anyBg (fun b => decide (b.lseg = x.lseg) && b.builds)) with
  | some x => (some (.oldRead x.id, (s.oldEntry x).psa), s)
  | none => (none, s)

/-! ### Fold sources (R184, R192, R193, R196) -/

/-- The gang whose fold bands take sources of gang `g`: its own, the other under evacuation (R196). -/
def State.foldDest (s : State) (g : Nat) : Nat := if s.evacuating g then 1 - g else g

/-- The LIVE segments of a band, with their logical segments, that the map names and that are not yet taken. -/
def State.bandSources (s : State) (g b dest : Nat) : List (Nat × Nat) :=
  ((s.xlt.rev.within (psaOf g (3 * b) 0) (psaOf g (3 * b + 3) 0)).filter (fun e =>
    decide (e.2.st = .live) && s.names e.2.lseg e.1 && !(s.gang dest).fold.segs.any (fun f => f.src = e.1) && !(s.gang dest).fold.vsegs.any (fun f => f.src = e.1) &&
      !s.anyBg (fun b => decide (b.lseg = e.2.lseg) && b.reenc) && !s.anyBuild (fun b => decide (b.lseg = e.2.lseg) && b.region.isSome && !b.dropped))).map
    (fun e => (e.1, e.2.lseg))

/-- The same for one paddock. -/
def State.padSources (s : State) (g p dest : Nat) : List (Nat × Nat) :=
  (s.bandSources g (p / 3) dest).filter (fun e => decide (psaPaddock e.1 = p))

/-- Largest wear of gang `g`, and the TLC_CLOSED band of least wear (R192). -/
def State.maxWear (s : State) (g : Nat) : Nat := (s.xlt.bands.within (bandKey g 0) (bandKey g 0 + bandsPerGang)).foldl (fun m e => max m e.2.wear) 0
def State.leastWorn (s : State) (g : Nat) : Option (Nat × Nat) :=
  (s.bandsIn g .tlcClosed).foldl (fun acc b => match acc with
    | none => some (b, (s.band g b).wear)
    | some y => if (s.band g b).wear < y.2 then some (b, (s.band g b).wear) else some y) none

/-- The wear spread exceeds SPREAD_LIMIT (R192). -/
def State.spreadHigh (s : State) (g : Nat) : Bool :=
  match s.leastWorn g with
  | some y => decide (s.appFld Reg.DRV.SPREAD_LIMIT.SPREAD_LIMIT < s.maxWear g - y.2)
  | none => false

/-- The band that compaction takes next (R193): fewest live segments, below COMPACT_LIVE percent of its paddocks' 4,096 each. -/
def State.pickVictim (s : State) (g : Nat) : Option Nat :=
  ((s.bandsIn g .tlcClosed).foldl (fun (acc : Option (Nat × Nat)) b =>
    let n := (s.band g b).live
    if n * 100 < s.appFld Reg.DRV.CTRL.COMPACT_LIVE * (bandPaddocks b * 4096) then
      (match acc with
       | none => some (b, n)
       | some y => if n < y.2 then some (b, n) else some y)
    else acc) none).map (fun y => y.1)

/-- The band `b` still holds what it was chosen for. -/
def State.stillClosed (s : State) (g : Nat) (b : Option Nat) : Bool := match b with | some b => decide ((s.band g b).st = .tlcClosed) | none => false

/-- Victim and cold source of gang `g` (R192, R193): released ones are counted, new ones chosen. DESIGN CHOICE (log entry 106): a victim once chosen is folded to its end, although the heap may have reached
FREE_LOW by then; COMPACTIONS and COLD_MOVES count at the flock boundary, or the fold source, that first finds the band released. -/
def State.foldAims (s : State) (g : Nat) : State :=
  let f := (s.gang g).fold
  let vDone := f.victim.isSome && !s.stillClosed g f.victim
  let cDone := f.cold.isSome && !s.stillClosed g f.cold
  let s1 := (s.cond vDone (fun s => s.bump (Reg.DRV.COMPACTIONS.COMPACTIONS g))).cond cDone (fun s => s.bump (Reg.DRV.COLD_MOVES.COLD_MOVES g))
  let low := decide (s1.heapSize g < s1.appFld Reg.DRV.CTRL.FREE_LOW) && !s1.evacuating g
  let victim := if s1.stillClosed g f.victim then f.victim else if low then s1.pickVictim g else none
  let spread := s1.spreadHigh g
  let cold := if s1.stillClosed g f.cold then f.cold else if spread then (s1.leastWorn g).map (fun y => y.1) else none
  let s2 := s1.onGang g (fun x => { x with fold := { x.fold with victim, cold, spread } })
  if spread && !f.spread then s2.raise Reg.DRV.INT_STATUS.SPREAD_HIGH else s2

/-- The Caldera sources of gang `g` in the order they were programmed. -/
def State.calderaSources (s : State) (g dest : Nat) : List (Nat × Nat) := (s.gang g).order.flatMap (fun p => s.padSources g p dest)

/-- The first source of a class: those that go first because they failed a verify (R187), then the class's order. -/
def headOf (retry : List Nat) (l : List (Nat × Nat)) : Option (Nat × Nat) :=
  match l.find? (fun e => retry.contains e.1) with
  | some e => some e
  | none => l.head?

/-- Every live segment of gang `g`, for an evacuation, in ascending band order. -/
def State.evacSources (s : State) (g dest : Nat) : List (Nat × Nat) :=
  (sortKey id (s.bandsIn g .caldera ++ s.bandsIn g .tlcClosed)).flatMap (fun b => s.bandSources g b dest)

/-- The next source of the fold of gang `d` (R184): its own segments, but for the third class, which are those of the other gang under evacuation. DESIGN CHOICE (log entry 106): the rule states no order of
bands within classes 1 and 3; they go in ascending number. -/
def State.nextSource (s : State) (d : Nat) : Option (Nat × Nat) :=
  let f := (s.gang d).fold
  let due := (sortKey id (s.bandsIn d .tlcClosed ++ s.bandsIn d .caldera)).filter (fun b => (s.band d b).refresh)
  let classes : List (Unit → List (Nat × Nat)) := [
    fun _ => due.flatMap (fun b => s.bandSources d b d),
    fun _ => if s.targetOf d * s.appFld Reg.CAL.CTRL.FOLD_HIGH ≤ s.used d * 100 then s.calderaSources d d else [],
    fun _ => if s.evacuating (1 - d) && decide (s.appFld Reg.DRV.CTRL.FREE_LOW < s.heapSize d) then s.evacSources (1 - d) d else [],
    fun _ => (match f.victim with | some b => s.bandSources d b d | none => []),
    fun _ => (match f.cold with | some b => s.bandSources d b d | none => []),
    fun _ => s.calderaSources d d]
  classes.findSome? (fun c => headOf f.retry (c ()))

/-- The fold of gang `dest` takes one more source: it has a band with room in the buffers for its next rotation (R97, R185). -/
def State.foldRoom (s : State) (dest : Nat) : Bool :=
  let x := s.gang dest
  decide (s.margin dest < 2) && x.fold.band.isSome && decide (x.fold.segs.length < 768 * (x.fold.rots + 1)) &&
    !(x.rota.rotating && decide (x.rota.rotKind = TurnKind.tlc)) && !(x.ended && decide (x.rota.lastKind = TurnKind.tlc))

/-- A fold band is opened where there is none and a source waits (R171, R173). -/
def State.foldOpen (s : State) (dest : Nat) : State :=
  if (s.gang dest).fold.band.isSome || decide (2 ≤ s.margin dest) then s
  else match s.freeBand dest with
    | some b => (s.takeBand dest b true).onGang dest (fun x => { x with fold := { x.fold with band := some b, segs := [], rots := 0 } })
    | none => s

/-- The next fold source, where it lies in gang `g`. Folding pauses under write-through (R46). -/
def State.foldTake (s : State) (g : Nat) : Option (BgWork × Nat) × State :=
  if s.draining then (none, s)
  else
    let s0 := s.foldAims g
    let dest := s0.foldDest g
    match s0.nextSource dest with
    | some (psa, lseg) =>
      if psaGang psa ≠ g then (none, s0)
      else
        let s1 := s0.foldOpen dest
        if s1.foldRoom dest then
          let n := (s1.gang dest).fold.segs.length
          (some (.foldSource dest n, psa), s1.onGang dest (fun x => { x with fold := { x.fold with
            segs := x.fold.segs ++ [{ lseg, src := psa, secs := [], cls := 0 }], retry := x.fold.retry.erase psa } }))
        else (none, s1)
    | none => (none, s0)

/-! ### Re-encryption (R546) -/

/-- The region whose pass walks: the lowest-numbered active one. -/
def State.passRegion (s : State) : Option Nat := (s.prot.gens.find? (fun e => e.2.passActive)).map (fun e => e.1)

/-- The next mapped segment of the pass of region `i`. -/
def State.passNext (s : State) (i : Nat) : Option (Nat × MapE) :=
  (s.xlt.map.within (s.gen i).passPos (((s.region i).last + 1) * 4096)).find? (fun e => e.2.placed)

/-- The next segment of a pass, if it lies in gang `g`. -/
def State.passTake (s : State) (g : Nat) : Option (BgWork × Nat) × State :=
  match s.passRegion with
  | some i =>
    match s.passNext i with
    | some (lseg, e) =>
      if psaGang e.psa = g && !s.segBuilding lseg && s.serving then
        (some (.reencrypt i, e.psa), s.setGen i { s.gen i with passPos := lseg + 1 })
      else (none, s)
    | none => (none, s)
  | none => (none, s)

/-! ### Starting a background sense -/

/-- The next candidate source: where none has been found, what `take` offers, unless its sense would cross a program turn (R31). -/
def orTake (take : State → Nat → Option (BgWork × Nat) × State) (g : Nat) (acc : Option (BgWork × Nat) × State) : Option (BgWork × Nat) × State :=
  match acc.1 with
  | some _ => acc
  | none =>
    let t := take acc.2 g
    match t.1 with
    | some w => if acc.2.crossesTurn g w.2 then acc else (some w, t.2)
    | none => (none, t.2)

/-- The works in their order (R142, R195); one whose window would cross the end of the turn waits. -/
def State.bgPick (s : State) (g : Nat) : Option (BgWork × Nat) × State :=
  orTake State.passTake g (orTake State.foldTake g (orTake State.oldTake g (orTake State.verTake g (orTake State.rewTake g (orTake State.padTake g
    (orTake State.rebTake g (orTake State.shepTake g (none, s))))))))

/-- Background senses may start in gang `g` now (R29, R49, R95). -/
def State.bgOpen (s : State) (g : Nat) : Bool :=
  s.serving && decide (g < s.nGangs) && s.atB g && decide (s.levelNow < 2) && decide (s.margin g < 3) && decide (s.bgHeld g < 16)

/-- A whole-segment sense: what it counts, its commands to the dies, and the 16 output positions that it takes (R93, R101); the clk by which the last chunk has left. -/
def State.bgCommands (s : State) (b : Bg) : Nat × State :=
  let p := s.bookBg (psaGang b.psa) 16
  let s1 := p.2.2.senseCount 0x11 b.lseg clsDevice b.er b.progDies
  (p.2.1, { s1 with out := s1.out ++ senseCmds b.psa b.slc b.bank b.bin b.classes b.er p.1 })

/-- The position that a parity rebuild treats as an erasure: that of the failing die (R190). -/
def State.rebuildPos (s : State) (n : Nat) : List Nat := ((s.xlt.rebuilds.find? (fun r => r.id = n)).bind (fun r => r.pos)).toList

/-- A background sense of physical segment `psa` starts. -/
def State.bgStart (s : State) (work : BgWork) (psa : Nat) : State :=
  let g := psaGang psa
  let lseg := (s.revOf psa).lseg
  let b : Bg := {
    id := s.reads.next, work, psa, lseg := match work with
      | .foldVerify d n => ((s.gang d).fold.vsegs[n]?).elim lseg (fun f => f.lseg)
      | _ => lseg,
    start := s.now, slc := s.psaSlc psa, er := ((match work with | .rebuild n _ => s.rebuildPos n | _ => []) ++ s.leftOut g).eraseDups, progDies := (s.progNow g).toList,
    bank := s.activeBank g, bin := s.psaBin psa, classes := s.classesOf g }
  let p := s.bgCommands b
  p.2.onReads (fun x => { x with bg := x.bg ++ [{ b with ready := max p.1 (b.start + senseLen b.slc) }], next := x.next + 1 })

/-- BACKGROUND_SENSE_START (R29): at the start of a B slot the device takes its next background sense of gang `gang`. -/
def execBackgroundSenseStart (gang phase : Nat) (s : State) : Res :=
  let s0 := s.at_ phase
  .next (if s0.bgOpen gang then
    match s0.bgPick gang with
    | (some w, s1) => s1.bgStart w.1 w.2
    | (none, s1) => s1
  else s0)

/-! ### Decoding -/

/-- The background sense with number `id`. -/
def State.bgOf (s : State) (id : Nat) : Option Bg := s.reads.bg.find? (fun b => b.id = id)
/-- A background sense ends. -/
def State.endBg (s : State) (id : Nat) : State := s.onReads (fun x => { x with bg := x.bg.filter (fun b => b.id ≠ id) })

/-- Bytes of sector `k` that a snapshot holds: how many of its 4 lines are written in full, and in part. -/
def Snap.written (x : Snap) (k : Nat) : Nat × Nat :=
  let ms := (List.range 4).map (fun i => (SMap.get (fun _ => ({} : StLine)) x.lines (4 * k + i)).mask)
  ((ms.filter (fun m => m = BitVec.allOnes 64)).length, (ms.filter (fun m => m ≠ 0 && m ≠ BitVec.allOnes 64)).length)
/-- Sector `k` is written, but not in full. -/
def Snap.partly (x : Snap) (k : Nat) : Bool := let n := x.written k; decide (n.1 ≠ 4) && decide (n.1 + n.2 ≠ 0)

/-- Who decodes sector `k` (R136, R541, R548). -/
def State.bgConsumer (s : State) (b : Bg) (k : Nat) : Consumer :=
  match b.work with
  | .shepherd => .shepherd
  | .oldRead i => (match s.xlt.snaps.find? (fun x => x.id = i) with | some x => if x.partly k then .check else .drover | none => .drover)
  | .reencrypt _ => .reencrypt
  | _ => .drover

/-- The sensing of a background sense for sector `k`. -/
def State.bgSensing (s : State) (b : Bg) (k : Nat) : Sensing :=
  { psa := b.psa, lseg := b.lseg, bank := b.bank, bin := b.bin, classes := b.classes, er := b.er, who := s.bgConsumer b k, cls := clsDevice,
    track := if b.work = .shepherd then some false else none }

/-- A second attempt of this work queues its segment for rewrite (R138); a paddock's verify and a parity rebuild rebuild it first (R190, R191). -/
def BgWork.requeues (w : BgWork) : Bool := match w with | .padVerify _ _ | .rebuild _ _ => false | _ => true

/-- The decode of sector `k`: the first attempt, or the second with the first one's cause. -/
def State.bgSector (s : State) (b : Bg) (x : Sensed) (k : Nat) (cause1 : Option Nat) : State × Bg :=
  let c := s.bgSensing b k
  let a := s.attempt c k x (b.er ++ s.failedOf (psaGang b.psa)).eraseDups none
  let s1 := s.noteAttempt c k x a cause1.isNone (if cause1.isNone then [] else b.faults)
  let s2 := match cause1 with
    | some f => if b.work.requeues then s1.classify clsDevice b.psa b.lseg k f a else s1.noteClass clsDevice b.psa b.lseg k f a
    | none => s1
  let b1 := { b with syms := b.syms + a.syms, last := x }
  if a.out.ok then (s2, { b1 with imgs := b.imgs.set k { data := dataOf a.cor, md := a.cor.getD 16 0 } })
  else (s2, { b1 with fails := b.fails ++ [(k, a.out.cause)], faults := b.faults ++ a.faults x k b.er, fsyms := b.fsyms + a.syms })

/-- The sectors that a rewrite stores poisoned (R138, R140): they are not decoded again. -/
def Bg.skipped (b : Bg) : List Nat := match b.work with | .rewrite bad => bad | _ => []

/-- The decodes of the first attempt. -/
def State.bgDecode (s : State) (b : Bg) (x : Sensed) : State × Bg :=
  let s1 := (s.senseBytes b.psa b.er 16).moved (if b.work = .shepherd then 6 else 5) false 4096
  (List.range 16).foldl (fun acc k => if b.skipped.contains k then acc else acc.1.bgSector acc.2 x k none) (s1, { b with imgs := List.replicate 16 {} })

/-- The second attempt at the sectors that failed; what still fails is lasting. The symbols that count are those of the last decode of each sector (R143). -/
def State.bgDecode2 (s : State) (b : Bg) (x : Sensed) : State × Bg :=
  b.fails.foldl (fun acc f => acc.1.bgSector acc.2 x f.1 (some f.2)) (s, { b with fails := [], syms := b.syms - b.fsyms, fsyms := 0 })

end Sys2Proof.Machine
end

