-- ==== Sys2Proof/Machine/Stream.lean ====
section
/-! DEFINITION. Accepted stream requests (R488 to R496, R500, R501): media reads, lanes, deliveries by bell, WRITE staging, dictionaries, group opcodes, ends, flush, suspension. -/

namespace Sys2Proof.Machine

/-! ### Requests -/

/-- Request `i`. -/
def State.sreq (s : State) (i : Nat) : Option Req := s.strm.reqs.find? (fun r => r.id = i)
/-- Request `i` changed by `f`. -/
def State.onSreq (s : State) (i : Nat) (f : Req → Req) : State :=
  s.onStrm (fun t => { t with reqs := t.reqs.map (fun r => if r.id = i then f r else r) })

/-- An intervention of R500 strikes a request; the first one stays. -/
def Req.struckBy (r : Req) (code : Nat) : Req := if r.strike = 0 then { r with strike := code } else r
/-- A request fails; the first failure stays. -/
def Req.failWith (r : Req) (st detail off : Nat) : Req := if r.fail.isSome then r else { r with fail := some (st, detail, off) }

/-- The stream engine's cache code (R328). -/
def Packet.cache (p : Packet) : Nat := 13 + p.engine

/-- Caches hold the lines of a segment for a stream READ: RAW in a region neither COMPRESSED nor GROUPED (R301, R488). -/
def State.streamCached (s : State) (p : Packet) (seg : Nat) : Bool := p.opcode = 1 && p.format = 0 && (dpaCart p.dpa).isNone && !s.noAlloc (seg * 4096)

/-! ### Source sectors -/

/-- The sectors of a packet's source that lie in segment `seg`. -/
def Packet.segSectors (p : Packet) (seg : Nat) : List Nat :=
  (List.range 16).map (fun k => 16 * seg + k) |>.filter (fun x => decide (p.firstSector ≤ x) && decide (x ≤ p.lastSector))

/-- The bytes of a line. -/
def lineToBytes (l : Line) : List Nat := bytesLe 64 l.toNat

/-- A sector of a read that has been handed to its engine: its bytes, staged bytes merged (R169), or none where it is poison. -/
def Rd.sectorBytes (r : Rd) (k : Nat) : Option (List Nat) :=
  let o := ((r.outs.find? (fun x => x.1 = k)).map (fun x => x.2)).getD (.fail 0)
  let ls := (List.range 4).map (fun i => (o.line i, r.partOf (r.dpa / 256 * 4 + 4 * k + i)))
  if ls.any (fun x => x.1.1) then none else some (ls.flatMap (fun x => lineToBytes (mergeLine x.1.2 x.2.1 x.2.2)))

/-- A sector enters its request: bytes, or poison. -/
def Req.take (r : Req) (sector : Nat) (b : Option (List Nat)) : Req :=
  match b with
  | some x => { r with got := SMap.set (fun _ => []) r.got sector x }
  | none => { r with bad := r.bad ++ [sector] }

/-- The lines of a sector leave as fills of the engine's stream cache (R301, R353, R488), but for those of `noFill` (R348). -/
def State.fillStream (s : State) (p : Packet) (noFill : List Nat) (sector : Nat) (b : List Nat) : State :=
  s.each ((List.range 4).filter (fun i => !noFill.contains (sector * 4 + i)))
    (fun s i => s.sendFill s.now p.cache (sector * 256 + 64 * i) p.keyid (BitVec.ofNat 512 (ofBytesLe ((b.drop (64 * i)).take 64))))

/-- What a finished read brings its request. -/
def State.collectRd (s : State) (q : Req) (r : Rd) : State :=
  let seg := r.lseg
  let s1 := (s.endRd r.id).moved (2 + q.pkt.engine) false 4096
  let s2 := s1.onSreq q.id (fun y => r.struck.foldl Req.struckBy y)
  s2.each (q.pkt.segSectors seg) (fun s x =>
    let b := r.sectorBytes (x % 16)
    let s1 := s.onSreq q.id (fun y => y.take x b)
    match b with
    | some l => if s.streamCached q.pkt seg && r.alloc then s1.fillStream q.pkt r.noFill x l else s1
    | none => s1)

/-- The finished reads of request `i` are taken into its engine. -/
def State.collect (s : State) (i : Nat) : State :=
  match s.sreq i with
  | some q =>
    s.each (s.reads.list.filter (fun r => r.st = .done && decide (r.arrive ≤ s.now) && (match r.who with | .stream k _ => decide (k = i) | _ => false)))
      (fun s r => s.collectRd q r)
  | none => s

/-- The first source sector, in order, that is not in the engine. -/
def Req.firstMissing (r : Req) : Option Nat :=
  ((List.range (r.pkt.lastSector - r.pkt.firstSector + 1)).map (fun k => r.pkt.firstSector + k)).find? (fun x => (SMap.get (fun _ => []) r.got x).isEmpty)

/-- Every source sector is in the engine. -/
def Req.complete (r : Req) : Bool := r.firstMissing.isNone

/-- The source bytes from the start up to the first sector that is missing. -/
def Req.source (r : Req) : List Nat :=
  let n := (r.firstMissing.getD (r.pkt.lastSector + 1)) - r.pkt.firstSector
  let all := (List.range n).flatMap (fun k => SMap.get (fun _ => []) r.got (r.pkt.firstSector + k))
  (all.drop (r.pkt.dpa % 256)).take r.pkt.srcLen

/-- The source offset of a sector (R485). -/
def Req.offset (r : Req) (sector : Nat) : Nat := sector * 256 - r.pkt.dpa

/-- A poisoned source sector fails the request once it is the first that is missing (R488). -/
def Req.settlePoison (r : Req) : Req :=
  match r.firstMissing with
  | some x => if r.bad.contains x then r.failWith 0x20 0 (r.offset x) else r
  | none => r

/-! ### Media reads (R488, R489, R500, R625) -/

/-- The line that a stream cache or the L2 holds for a source line. -/
def State.streamLine (s : State) (p : Packet) (a : Nat) : Option Line :=
  match s.cached p.cache a false p.keyid with
  | some (_, l) => some l.data
  | none => (s.cached 0 a false p.keyid).map (fun x => x.2.data)

/-- The lookups of a source line: in the stream cache and, where that misses, in the L2 (R315, R488). -/
def State.streamLook (s : State) (p : Packet) (a : Nat) : State :=
  let s1 := s.lookSmall p.cache a false p.keyid
  if (s1.cached p.cache a false p.keyid).isSome then s1 else s1.lookIn 0 a false p.keyid

/-- A source line that the request needs. -/
def Packet.needsLine (p : Packet) (a : Nat) : Bool := decide (p.dpa < a + 64) && decide (a < p.dpa + p.srcLen)

/-- The bytes of a sector whose needed lines all hit. -/
def State.streamSector (s : State) (p : Packet) (x : Nat) : Option (List Nat) :=
  let ls := (List.range 4).map (fun i => let a := x * 256 + 64 * i; if p.needsLine a then s.streamLine p a else some 0)
  if ls.all (fun l => l.isSome) then some (ls.flatMap (fun l => lineToBytes (l.getD 0))) else none

/-- Groups of up to three consecutive sectors (R625). -/
def threes (fuel : Nat) (l : List Nat) : List (List Nat) :=
  match fuel with
  | 0 => []
  | k + 1 => if l.isEmpty then [] else l.take 3 :: threes k (l.drop 3)

/-- The media resource that a segment needs now. -/
def State.mediaRes (s : State) (p : Packet) (seg : Nat) : Option Nat :=
  match dpaCart p.dpa with
  | some n => some (2 + n)
  | none => match (s.mapOf seg).st with | .caldera | .tlc => some (psaGang (s.mapOf seg).psa) | _ => none

/-- A segment is read in its booked bell from its booked resource. -/
def State.onBooking (s : State) (q : Req) (b : Book) : Bool := decide (s.mediaRes q.pkt b.seg = b.res) && decide (b.bell = s.clk.bell)

/-- Media units that reads have used of resource `r` in bell `b`. -/
def Strm.usedOf (t : Strm) (r b : Nat) : Nat := SMap.get (fun _ => 0) t.used (8 * b + r)

/-- A segment can be read in the present bell: on its booking as far as the capacity still reaches; displaced, only from capacity that no booking holds (R500). -/
def State.mediaRoom (s : State) (q : Req) (b : Book) : Bool :=
  match s.mediaRes q.pkt b.seg with
  | none => true
  | some r =>
    if s.onBooking q b then decide (s.strm.usedOf r s.clk.bell + b.units ≤ s.mediaCap r s.clk.bell) else decide (b.units ≤ s.mediaFree s.strm r s.clk.bell)

/-- The intervention that a segment meets, 0 for none (R500): no media booked where it now is, or its booked capacity gone. -/
def State.bookStrike (s : State) (q : Req) (b : Book) : Nat :=
  match s.mediaRes q.pkt b.seg with
  | none => 0
  | some r => if b.res ≠ some r then 7 else if s.onBooking q b && !s.mediaRoom q b then (if 2 ≤ r then 0xA else if 2 ≤ s.levelNow then 5 else 6) else 0

/-- The capacity that a segment's read uses. -/
def State.useMedia (s : State) (q : Req) (b : Book) : State :=
  match s.mediaRes q.pkt b.seg with
  | none => s
  | some r =>
    let t := if s.onBooking q b then s.strm else s.strm.book r s.clk.bell b.units
    { s with strm := { t with used := SMap.set (fun _ => 0) (t.used.filter (fun e => decide (8 * s.clk.bell ≤ e.1))) (8 * s.clk.bell + r) (t.usedOf r s.clk.bell + b.units) } }

/-- A segment of an accepted request is read: from the caches where they hold every needed line, by a lookup and a sense, or by READs to its cartridge. -/
def State.mediaRead (s : State) (q : Req) (b : Book) : State :=
  let s1 := (s.useMedia q b).onSreq q.id (fun r => { r with books := r.books.map (fun x => if x.seg = b.seg then { x with started := true } else x) })
  let secs := q.pkt.segSectors b.seg
  match dpaCart q.pkt.dpa with
  | some n =>
    s1.each (threes secs.length secs) (fun s g =>
      s.cartCmd n 0x01 g.length (g.headD 0 - cartBase n / 256) 0 [] (.stream q.id (g.headD 0) false))
  | none =>
    let cached := s.streamCached q.pkt b.seg
    let s2 := if cached then s1.each ((secs.flatMap (fun x => (List.range 4).map (fun i => x * 256 + 64 * i))).filter q.pkt.needsLine) (fun s a => s.streamLook q.pkt a) else s1
    let hits := secs.map (fun x => (x, s2.streamSector q.pkt x))
    if cached && hits.all (fun h => h.2.isSome) then s2.onSreq q.id (fun r => hits.foldl (fun r h => r.take h.1 h.2) r)
    else s2.addRead { id := 0, who := .stream q.id b.seg, dpa := b.seg * 4096, keyid := q.pkt.keyid, acc := s.now, missAt := s.now, cls := 1 + q.pkt.engine, sectors := List.range 16 }

/-- STREAM_MEDIA_READ (R488, R500): a segment of a request, from its booked bell on, where it has capacity. -/
def execStreamMediaRead (req seg phase : Nat) (s : State) : Res :=
  let s0 := s.at_ phase
  .next (match s0.sreq req with
    | some q =>
      match q.books.find? (fun b => decide (b.seg = seg)) with
      | some b => if !b.started && decide (b.bell ≤ s0.clk.bell) && q.fail.isNone && s0.serving then
        let s1 := s0.onSreq req (fun r => r.struckBy (s0.bookStrike q b))
        if s0.mediaRoom q b then s1.mediaRead q b else s1
      else s0
      | none => s0
    | none => s0)

/-! ### Delivery (R490, R499, R501) -/

/-- Bytes of a request that may be delivered by the end of bell `b`: what has been produced, up to what its bookings give. -/
def Req.ready (r : Req) (b : Nat) : List Nat :=
  if r.pkt.opcode ≠ 1 then []
  else if r.pkt.format = 0 then
    match r.books.find? (fun x => decide (b < x.bell + x.lag)) with
    | some x => r.source.take (x.seg * 4096 - r.pkt.dpa)
    | none => r.source
  else match r.started with
    | some st => r.out.take (64 * min 342 (ceilDiv r.pkt.dstLen 64) * (b - st))
    | none => []

/-- Lines of the link that a READ has booked in bell `b` (R499). -/
def Req.bookedLines (r : Req) (b : Nat) : Nat :=
  if r.pkt.format = 0 then
    ((r.books.filter (fun x => decide (x.bell + x.lag = b))).map (fun x =>
      ceilDiv (min (r.pkt.dpa + r.pkt.srcLen) ((x.seg + 1) * 4096) - max r.pkt.dpa (x.seg * 4096)) 64)).sum
  else match r.lane with
    | some (_, st, n) => if st < b && b ≤ st + n then min 342 (ceilDiv r.pkt.dstLen 64) else 0
    | none => 0

/-- Bytes are delivered to host memory in bell `b`: as far as its bookings of that bell reach, and displaced ones in lines that no booking holds (R500). -/
def State.deliverBytes (s0 : State) (r : Req) (avail : List Nat) (b : Nat) : State :=
  let own := r.bookedLines b
  let new := (avail.drop r.sent).take (64 * (own + s0.linkFree s0.strm b))
  if new.isEmpty || !s0.mastering || s0.link.recovery then s0
  else
    let s := if ceilDiv new.length 64 ≤ own then s0 else { s0 with strm := s0.strm.book 4 b (ceilDiv new.length 64 - own) }
    (((s.sendWrites (s.outbound (r.pkt.host + r.sent) new r.pkt.st) new.length).bump48 Reg.STR.BYTES_OUT_LO.BYTES_LO Reg.STR.BYTES_OUT_HI.BYTES_HI new.length).moved
    (2 + r.pkt.engine) true new.length).onSreq r.id (fun y => { y with sent := y.sent + new.length })

/-! ### WRITE (R491) -/

/-- The failure that the next line of a WRITE meets: WRITE_REFUSE, or its group. -/
def State.lineFail (s : State) (dpa : Nat) : Option (Nat × Nat) :=
  if s.writeRefuse then some (0x26, 0)
  else if s.groupTakes dpa then none
  else match s.groupedRegion dpa with
    | some r => if (s.openGroup r).isSome then some (0x27, 2) else some (0x27, 3)
    | none => none

/-- Tag under which a write-through acknowledgement of request `i` is awaited; it is no Tag of the host. -/
def reqTag (i : Nat) : Nat := 2 ^ 17 + i

/-- A line written by an engine or a copy enters staging, and is durable at once or under `tag` (R432, R491, R626). -/
def State.engineWrite (s : State) (dpa keyid tag : Nat) (d : Line) : State :=
  (s.takeLine.storeLine dpa keyid d (BitVec.allOnes 64) false).ackWrite tag dpa s.now

/-- The lines of a WRITE that have arrived enter staging in order while the bucket holds a line. -/
def State.drainWrite (s : State) (i fuel : Nat) : State :=
  match fuel with
  | 0 => s
  | k + 1 =>
    match s.sreq i with
    | some r =>
      let off := 64 * r.staged
      let chunk := (r.arrived.find? (fun e => decide (e.1 ≤ off) && decide (off < e.1 + e.2.length)))
      if r.fail.isSome || decide (r.pkt.srcLen ≤ off) || s.fld Reg.BWT.WB_LEVEL.LEVEL = 0 || decide (stagingLines ≤ s.stagingUsed + 64) then s
      else match chunk with
        | none => s
        | some e =>
          let dpa := r.pkt.dpa + off
          match s.lineFail dpa with
          | some f => (if f.1 = 0x27 then s.groupRefused dpa else s.refusedWrite clsStream).onSreq i (fun y => y.failWith f.1 f.2 0)
          | none =>
            let d : Line := BitVec.ofNat 512 (ofBytesLe ((e.2.drop (off - e.1)).take 64))
            let s1 := (s.engineWrite dpa r.pkt.keyid (reqTag i) d).onSreq i (fun y => { y with
              staged := y.staged + 1, arrived := y.arrived.filter (fun x => decide (off + 64 < x.1 + x.2.length)) })
            State.drainWrite (s1.moved (2 + r.pkt.engine) true 64) i k
    | none => s

/-- Write-through acknowledgements that a tag still awaits. -/
def State.awaiting (s : State) (tag : Nat) : Bool := s.xlt.wtAcks.any (fun a => decide (a.tag = tag))

/-- What a CXL.io read completion brings a WRITE. -/
def State.writeData (s : State) (i off : Nat) (ok : Bool) (bytes : List Nat) : State :=
  (if ok then (s.onSreq i (fun r => { r with arrived := SMap.set (fun _ => []) r.arrived off bytes })).drainWrite i 262144
   else s.onSreq i (fun r => r.failWith 0x29 0 0)).askHosts

/-! ### Lanes (R494 to R496) -/

/-- Lane `x` is decoding. -/
def State.laneBusy (s : State) (x : Nat) : Bool := s.strm.reqs.any (fun r => r.decoding && (match r.lane with | some (l, _, _) => decide (l = x) | none => false))

/-- Another request has booked lane `x` in bell `b`. -/
def State.laneTaken (s : State) (x b i : Nat) : Bool :=
  s.strm.reqs.any (fun r => decide (r.id ≠ i) && r.fail.isNone && !r.decoded && (match r.lane with | some (l, st, n) => decide (l = x) && decide (st ≤ b) && decide (b < st + n) | none => false))

/-- The dictionary of a READ: its slot's content if the generation it is bound to is loaded; whether that generation failed (R492). -/
def State.reqDict (s : State) (r : Req) : Option ZDict × Bool :=
  match r.gen with
  | some g =>
    let d := s.dictSlot r.pkt.dict
    if d.loaded = some g && !d.failed.contains g then (some { ident := d.ident, tables := d.tables, content := d.content }, false)
    else (none, !s.strm.reqs.any (fun y => decide (y.pkt.opcode = 3) && decide (y.pkt.dict = r.pkt.dict) && decide (y.gen = some g) && !y.decoded))
  | none => (none, false)

/-- The frame or block of a READ decoded. -/
def Req.decode (r : Req) (dict : Option ZDict) : Decoded :=
  if r.pkt.format = 1 then lz4 r.source r.pkt.dstLen else zstd r.source r.pkt.dstLen dict

/-- A lane starts on a READ whose source is complete. -/
def State.startLane (s : State) (r : Req) (dict : Option ZDict) (st n : Nat) : State :=
  let d := r.decode dict
  let excess := decide (r.pkt.format = 2) && decide (chargedBlocks 2 r.pkt.dstLen < d.blocks)
  let late := decide (st + n ≤ s.clk.bell)
  s.onSreq r.id (fun y => (if excess then y.struckBy 9 else y) |> fun y => { y with
    started := some (if late then s.clk.bell else max st s.clk.bell), decoding := true, out := d.bytes, blocks := d.blocks,
    fail := match y.fail with | some f => some f | none => d.fail.map (fun f => (f.1, f.2, 0)) })

/-- LANE_DECODE_START (R496): a booked READ whose source bytes and dictionary are there, on its own lane, in its booked bell or one that no other request has booked. -/
def execLaneDecodeStart (req phase : Nat) (s : State) : Res :=
  let s0 := (s.at_ phase).collect req
  .next (match s0.sreq req with
    | some r =>
      match r.lane with
      | some (x, st, n) =>
        let dict := s0.reqDict r
        if r.started.isSome || r.fail.isSome || !r.complete || s0.laneBusy x || decide (s0.clk.bell < st) || s0.laneTaken x s0.clk.bell req || !s0.serving then
          s0.onSreq req Req.settlePoison
        else if dict.2 then s0.onSreq req (fun y => y.failWith 0x24 y.pkt.dict 0)
        else if r.gen.isSome && dict.1.isNone then s0
        else s0.startLane r dict.1 st n
      | none => s0
    | none => s0)

/-- The DCX counters of a finished lane (R526, R529). -/
def State.countLane (s : State) (r : Req) : State :=
  let s1 := if r.fail.isNone then s.bump Reg.DCX.FRAMES.FRAMES else s
  if r.pkt.format = 2 && decide (chargedBlocks 2 r.pkt.dstLen < r.blocks) then (s1.bump Reg.DCX.BLOCK_OVERRUNS.OVERRUNS).raise Reg.DCX.INT_STATUS.BLOCK_OVERRUN else s1

/-- LANE_DECODE_END (R496): the lane finishes its frame, or fails it. -/
def execLaneDecodeEnd (req phase : Nat) (s : State) : Res :=
  let s0 := s.at_ phase
  .next (match s0.sreq req with
    | some r =>
      if r.decoding then (s0.countLane r).onSreq req (fun y => { y with decoding := false, decoded := true }) else s0
    | none => s0)

/-! ### Dictionaries (R492) -/

/-- The slot takes a loaded generation, or its failure; the slot shows its state unless a later load has been accepted. -/
def State.finishDict (s : State) (r : Req) (g : Nat) (x : Option ZDict) : State :=
  let i := r.pkt.dict
  let d := s.dictSlot i
  match x with
  | some z =>
    let s1 := s.setDict i { d with loaded := some g, ident := z.ident, tables := z.tables, content := z.content }
    let s2 := if d.gen = g then ((s1.setFld (Reg.DCX.DICT.STATE i) 2).setFld (Reg.DCX.DICT.LINES i) (ceilDiv z.content.length 64)).setFld (Reg.DCX.DICT_ID.ID i) z.ident else s1
    s2.raise Reg.DCX.INT_STATUS.DICT_LOADED
  | none =>
    let s1 := s.setDict i { d with failed := d.failed ++ [g] }
    (if d.gen = g then s1.setFld (Reg.DCX.DICT.STATE i) 3 else s1).raise Reg.DCX.INT_STATUS.DICT_FAILED

/-- DICT_LOAD_FINISH (R492): a LOAD_DICT whose source is in the engine, or has failed, sets its slot READY or FAILED, not before its booked finish. -/
def execDictLoadFinish (req phase : Nat) (s : State) : Res :=
  let s0 := ((s.at_ phase).collect req).onSreq req Req.settlePoison
  .next (match s0.sreq req with
    | some r =>
      if r.pkt.opcode ≠ 3 || r.decoded then s0
      else match r.gen with
        | some g =>
          if s0.clk.bell < r.finish then s0
          else if (s0.dictSlot r.pkt.dict).named = false then s0.onSreq req (fun y => { y.failWith 0x24 y.pkt.dict 0 with decoded := true })
          else if r.fail.isSome then (s0.finishDict r g none).onSreq req (fun y => { y with decoded := true })
          else if r.complete then
            match parseDict r.source with
            | some z => (s0.finishDict r g (some z)).onSreq req (fun y => { y with decoded := true })
            | none => (s0.finishDict r g none).onSreq req (fun y => { y.failWith 0x24 y.pkt.dict 0 with decoded := true })
          else s0
        | none => s0
    | none => s0)

/-! ### Group opcodes (R493) -/

/-- STREAM_GROUP_ACTION (R493): every earlier request of the pen has ended; the open group of REGION is committed or aborted, as GROUP_CTRL does. -/
def execStreamGroupAction (req phase : Nat) (s : State) : Res :=
  let s0 := s.at_ phase
  .next (match s0.sreq req with
    | some r =>
      if r.acted.isSome || r.fail.isSome || !(r.pkt.opcode = 4 || r.pkt.opcode = 5) || s0.strm.reqs.any (fun y => decide (y.pkt.pen = r.pkt.pen) && decide (y.id < r.id)) then s0
      else match s0.openGroup r.pkt.region with
        | none => s0.onSreq req (fun y => y.failWith 0x27 1 0)
        | some g =>
          if r.pkt.opcode = 5 then (s0.abortGroup g).onSreq req (fun y => { y with acted := some g })
          else if (s0.group g).st = .overflow then (s0.commitGroup g).onSreq req (fun y => { y.failWith 0x27 2 0 with acted := some g })
          else (s0.commitGroup g).onSreq req (fun y => { y with acted := some g })
    | none => s0)

/-! ### Ends (R483 to R486, R500) -/

/-- What a request without a failure still waits for is done. -/
def State.reqOver (s : State) (r : Req) : Bool :=
  match r.pkt.opcode with
  | 1 => if r.pkt.format = 0 then r.complete else r.decoded
  | 2 => decide (r.pkt.srcLen ≤ 64 * r.staged) && !s.awaiting (reqTag r.id)
  | 3 => r.decoded
  | 4 => (match r.acted with | some g => (match (s.group g).st with | .committed | .done => true | _ => false) | none => false)
  | 5 => r.acted.isSome
  | _ => false

/-- A failed request has nothing more to do: its lane has stopped, and a LOAD_DICT has set its slot. -/
def Req.failOver (r : Req) : Bool := r.fail.isSome && !r.decoding && (r.pkt.opcode ≠ 3 || r.decoded)

/-- The request leaves with its reads, host reads and cell. -/
def State.dropReq (s : State) (r : Req) : State :=
  ((s.onStrm (fun t => { t with reqs := t.reqs.filter (fun y => y.id ≠ r.id), hostReads := t.hostReads.filter (fun h => h.req ≠ some r.id) })).onReads (fun t => { t with
    list := t.list.filter (fun x => match x.who with | .stream k _ => decide (k ≠ r.id) | _ => true) })).freeCell r.pkt.pen

/-- The DCX counters of a request that ends with a failure of its format (R522, R527, R528). -/
def State.countFormat (s : State) (st : Nat) : State :=
  if st = 0x23 then (s.bump Reg.DCX.CHECKSUM_ERRS.ERRS).raise Reg.DCX.INT_STATUS.FORMAT_ERR
  else if st = 0x21 || st = 0x22 then (s.bump Reg.DCX.FORMAT_ERRS.ERRS).raise Reg.DCX.INT_STATUS.FORMAT_ERR else s

/-- A request ends FAILED; a LOAD_DICT that has not set its slot sets it FAILED. -/
def State.failReq (s0 : State) (r : Req) (st detail : Nat) : State :=
  let s := match r.gen with | some g => (if r.pkt.opcode = 3 && !r.decoded && (s0.dictSlot r.pkt.dict).named then s0.finishDict r g none else s0) | none => s0
  (((((s.dropReq r).countFormat st).lastEvent 3 r.pkt st detail).bump (Reg.PEN.FAILED.FAILED r.pkt.pen)).raise Reg.STR.INT_STATUS.FAILED)

/-- A request ends DONE, or DONE_LATE once the bell counter has passed its deadline's boundary. -/
def State.doneReq (s : State) (r : Req) : State :=
  let late := r.pkt.deadline ≠ 0 && decide (r.pkt.deadline * 4096 < s.now)
  let s1 := ((s.writeStatus r.pkt (b2n late) (if late then r.strike else 0) 0).dropReq r).bump (Reg.PEN.DONE.DONE r.pkt.pen)
  if late then (((s1.bump (Reg.PEN.MISSED.MISSED r.pkt.pen)).lastEvent 2 r.pkt 1 r.strike).raise Reg.STR.INT_STATUS.MISSED).ev 0x83 none none 1 else s1

/-- Everything that request `i` produces has been delivered (R490). -/
def State.delivered (s : State) (i : Nat) : Bool :=
  match s.sreq i with
  | some r => r.pkt.opcode ≠ 1 || decide ((if r.pkt.format = 0 then r.source else r.out).length ≤ r.sent)
  | none => false

/-- STREAM_REQUEST_END (R484): the rest is delivered as booked, the status record follows, and DONE or FAILED rises. A READ is done in its booked finish at the earliest (R499). -/
def execStreamRequestEnd (req phase : Nat) (s : State) : Res :=
  let s0 := ((s.at_ phase).collect req).onSreq req Req.settlePoison
  .next (match s0.sreq req with
    | some r =>
      if !s0.mastering || s0.link.recovery || !s0.serving then s0
      else
        let s1 := if r.pkt.opcode = 1 then s0.deliverBytes r (r.ready s0.clk.bell) s0.clk.bell else s0
        match r.fail with
        | some (st, detail, off) => if r.failOver then (s1.writeStatus r.pkt st detail off).failReq r st detail else s0
        | none => if s0.reqOver r && decide (r.finish ≤ s0.clk.bell) && s1.delivered req then s1.doneReq r else s0
    | none => s0)

/-! ### By bell -/

/-- What the engines do by the end of a bell: finished reads are taken, booked deliveries leave, WRITE lines use the refilled bucket. -/
def State.streamBell (s : State) : State :=
  if !s.serving then s
  else
    let ended := s.clk.bell - 1
    s.each (s.strm.reqs.map (fun r => r.id)) (fun s i =>
      let s1 := (s.collect i).onSreq i Req.settlePoison
      match s1.sreq i with
      | some r => if r.pkt.opcode = 1 then s1.deliverBytes r (r.ready ended) ended else if r.pkt.opcode = 2 then s1.drainWrite i 262144 else s1
      | none => s1)

/-! ### Flush, suspension, stop (R481, R501) -/

/-- PEN.CTRLp.FLUSH (R481). -/
def State.penFlush (s : State) (p : Nat) : State :=
  let s1 := s.each (List.range 64) (fun s k => match s.penSlot p k with
    | some x => if x.broken then s.setPenSlot p k none else s.rewind p k 7
    | none => s)
  let mine := s1.strm.packets.filter (fun k => decide (k.pen = p))
  let mark := s1.strm.adm.map (fun a => { a with flushed := a.flushed || decide (a.pkt.pen = p) })
  let s2 := (s1.onStrm (fun t => { t with packets := t.packets.filter (fun k => decide (k.pen ≠ p)), adm := mark })).setFld (Reg.PEN.STATUS.QUEUED p) 0
  let s3 := s2.each mine (fun s k => s.refusePacket k 0x14 0)
  s3.each (s3.strm.reqs.filter (fun r => decide (r.pkt.pen = p))) (fun s r => s.failReq r 0x28 0)

/-- Every request that is not ended is struck by an intervention of the link (R500). -/
def State.strikeAll (s : State) (code : Nat) : State := s.onStrm (fun t => { t with reqs := t.reqs.map (fun r => r.struckBy code) })

/-- Deliveries are suspended (R501). -/
def State.suspend (s : State) : State :=
  if s.flag Reg.STR.STATUS.SUSPENDED then s
  else ((s.strikeAll 8).setFlag Reg.STR.STATUS.SUSPENDED true).raise Reg.STR.INT_STATUS.SUSPENDED

/-- Work resumes: what waits leaves, and reads are issued again. -/
def State.unsuspend (s : State) : State :=
  if s.mastering then
    let w := s.strm.waiting
    (((s.setFlag Reg.STR.STATUS.SUSPENDED false).onStrm (fun t => { t with waiting := [] })).each w State.emit).askHosts
  else s

/-- On entry to VENT or HALT the engines stop, and everything they hold is lost (R501). -/
def State.stopStreams (s : State) : State :=
  ({ s with strm := {} }).onReads (fun t => { t with list := t.list.filter (fun r => !r.isStream) })

end Sys2Proof.Machine
end

