-- ==== Sys2Proof/Machine/CartMount.lean ====
section
/-! DEFINITION. Bringing up, authenticating and mounting a cartridge (R604, R605, R615 to R619), and powering a slot off (R629, R635). -/

namespace Sys2Proof.Machine

/-! ### Bring-up (R604) -/

/-- Slot `n` is not fitted on this board (R875). -/
def State.zlOff (s : State) (n : Nat) : Bool := bitOf (s.reg Reg.DEV.STRAPS.word) (1 + n)

/-- A cartridge is seated, its insertion accepted. -/
def State.cartSeated (s : State) (n : Nat) : Bool := s.flag (Reg.ZL.STATUS.PRESENT n) && (s.zl n).inserted

/-- Bring-up starts with step 2: CARTn_PWR goes high. -/
def State.bringUp (s : State) (n : Nat) : State :=
  ((((s.onZl n (fun z => { z with power := true, clock := false, rstN := false, stepAt := s.now })).setFld (Reg.ZL.STATUS.AUTH_CAUSE n) 0).setFlag
    (Reg.ZL.STATUS.DEGRADED n) false).setFld (Reg.ZL.STATUS.WIDTH n) 0).zlTo n zlPowering

/-- A slot may be brought up: the device serves, the slot is fitted and a cartridge is seated. -/
def State.canBringUp (s : State) (n : Nat) : Bool := s.serving && !s.zlOff n && s.cartSeated n

/-- On entry to SERVICE or DEGRADED and on resume, seated cartridges are brought up under AUTO_MOUNT (R604, R632). -/
def State.cartsUp (s : State) : State :=
  s.each [0, 1] (fun s n => if s.canBringUp n && s.zlState n = zlEmpty && s.flag (Reg.ZL.CFG.AUTO_MOUNT n) then s.bringUp n else s)

/-- A mount fails with a cause of R618; causes 1 to 8 are Tremor 0x08. -/
def State.mountFail (s : State) (n cause : Nat) : State :=
  let s1 := s.mountFailed n cause
  if cause ≤ 8 then s1.tremor 8 clsCart else s1

/-- CART_INSERT (R604, R629): CARTn_DET_N has been low for 10 ms, which PRESENT shows; an insertion is looked for only in an EMPTY slot, once a seating. -/
def execCartInsert (slot phase : Nat) (s : State) : Res :=
  let s0 := s.at_ phase
  let s1 := s0.setFlag (Reg.ZL.STATUS.PRESENT slot) true
  .next (if 2 ≤ slot || s0.zlOff slot || !s0.pwr.ctrlOn then s0
  else if s0.zlState slot ≠ zlEmpty || (s0.zl slot).inserted then s1
  else
    let s1 := (s1.raise (Reg.ZL.INT_STATUS.INSERTED slot)).onZl slot (fun z => { z with lostOnce := false, inserted := true })
    if s1.canBringUp slot && s1.flag (Reg.ZL.CFG.AUTO_MOUNT slot) then s1.bringUp slot else s1)

/-- CARTn_PG is qualified: CARTn_CLK runs (R604 steps 2 and 3). -/
def State.cartPgGood (s : State) (n : Nat) : State :=
  if s.zlState n = zlPowering && !(s.zl n).clock then s.onZl n (fun z => { z with clock := true, stepAt := s.now }) else s

/-- CART_RST_N_RELEASE (R604 step 3): after 100 µs of CARTn_CLK the target leaves reset and lane training starts. -/
def execCartRstNRelease (slot phase : Nat) (s : State) : Res :=
  let s0 := s.at_ phase
  .next (if slot < 2 && decide (s0.zlState slot = zlPowering) && (s0.zl slot).clock && decide ((s0.zl slot).stepAt + 300000 ≤ s0.now) then
    (s0.onZl slot (fun z => { z with rstN := true, stepAt := s0.now })).zlTo slot zlTraining
  else s0)

/-- Limit of the bring-up step that a state is in, in clk (R604). -/
def State.stepLimit (s : State) (n : Nat) : Option Nat :=
  if s.zlState n = zlPowering then (if (s.zl n).clock then none else some 60000000)
  else if s.zlState n = zlTraining then some 6000000
  else if s.zlState n = zlAuth then some 120000000 else none

/-- CART_STEP_TIMEOUT (R604): a step over its limit, cause 0xA. -/
def execCartStepTimeout (slot phase : Nat) (s : State) : Res :=
  let s0 := s.at_ phase
  .next (match s0.stepLimit slot with
    | some l => if slot < 2 && decide ((s0.zl slot).stepAt + l < s0.now) then s0.mountFail slot 0xA else s0
    | none => s0)

/-! ### Authentication (R615 to R619) -/

/-- Bytes `a` to `b` of an object. -/
def slice (l : List Nat) (a b : Nat) : List Nat := (l.drop a).take (b + 1 - a)
/-- Every byte is zero. -/
def allZero (l : List Nat) : Bool := l.all (fun b => decide (b = 0))
/-- An object of eight 64-byte chunks. -/
def objBytes (m : SMap Line) : List Nat := (List.range 8).flatMap (fun k => bytesLe 64 (SMap.get (fun _ => (0 : Line)) m k).toNat)

/-- ASCII "ZLCERT01", "ZLMANIF1", "ZLCHAL01". -/
def zlcert : List Nat := [0x5A, 0x4C, 0x43, 0x45, 0x52, 0x54, 0x30, 0x31]
def zlmanif : List Nat := [0x5A, 0x4C, 0x4D, 0x41, 0x4E, 0x49, 0x46, 0x31]
def zlchal : List Nat := [0x5A, 0x4C, 0x43, 0x48, 0x41, 0x4C, 0x30, 0x31]

/-- The cause for which a certificate fails (R616, R618), 0 for none. -/
def certCause (c : List Nat) : Nat :=
  if !(slice c 0 7 == zlcert && decide (ofBytesLe (slice c 8 11) = 1) && decide (c.getD 28 0 = 4) && decide (c.getD 161 0 = 4) && allZero (slice c 294 299) &&
      allZero (slice c 432 511)) then 1
  else if Config.sha512 (slice c 161 293) ≠ Config.cartAuthHash then 2
  else if !Config.ecdsaOk (slice c 161 293) (slice c 0 299) (slice c 300 431) then 3
  else 0

/-- The unwrapped title key, if the blob unwraps and its content is good (R617). -/
def titleKey (m : List Nat) : Option (BitVec 256) :=
  match Config.unwrap Config.familyKey (BitVec.ofNat 384 (ofBytesLe (slice m 48 95))) with
  | some x => if x.toNat / 2 ^ 256 = 2 then some (x.setWidth 256) else none
  | none => none

/-- The cause for which a manifest fails before the key slot is looked at (R617, R618), 0 for none. -/
def manifestCause (c m : List Nat) (cap : Nat) : Nat :=
  if !(slice m 0 7 == zlmanif && decide (ofBytesLe (slice m 8 11) = 1) && slice m 12 27 == slice c 12 27 && decide (ofBytesLe (slice m 44 47) < 16) &&
      allZero (slice m 96 127) && allZero (slice m 260 511)) then 5
  else if !Config.ecdsaOk (slice c 161 293) (slice m 0 127) (slice m 128 259) then 6
  else if (titleKey m).isNone then 7
  else if cap < ofBytesLe (slice m 36 39) + ofBytesLe (slice m 40 43) || decide (2 ^ 26 < cap) then 8
  else 0

/-- Sends CHALLENGE, with 32 random bytes in its WDATA frame. -/
def State.sendChallenge (s : State) (n : Nat) : State :=
  let d := s.draw 256
  (d.2.onZl n (fun z => { z with challenge := d.1 })).cartCmd n 0x06 0 0 0 [BitVec.ofNat 512 d.1] .challenge

/-- The manifest is complete: the checks, and the install of the title key at the next bell boundary (R537, R619). -/
def State.manifestDone (s : State) (n : Nat) : State :=
  let z := s.zl n
  let m := objBytes z.manifest
  let c := manifestCause (objBytes z.cert) m (s.fld (Reg.ZL.CAP.SEGS n))
  let k := s.cartKeyid n
  if c ≠ 0 then s.mountFail n c
  else if (s.slot k).st ≠ 0 || s.prot.due.any (fun d => decide (d.2.1 = k)) then s.mountFail n 9
  else
    let key : KeySlot := { st := 1, key := (titleKey m).getD 0, label := 0xCA00 + n }
    (s.onProt (fun p => { p with due := p.due ++ [(1, k, key)] })).onZl n (fun z => { z with mounting := true })

/-- A response of a mount command with its data: the next command of R615. -/
def State.mountStep (s : State) (n : Nat) (use : CartUse) (data : List Nat) : State :=
  match use with
  | .ident => (s.setFld (Reg.ZL.CAP.SEGS n) (min (ofBytesLe data) (2 ^ 27 - 1))).cartCmd n 0x04 0 0 0 [] (.cert 0)
  | .cert k =>
    let s1 := s.onZl n (fun z => { z with cert := SMap.set (fun _ => (0 : Line)) z.cert k (BitVec.ofNat 512 (ofBytesLe data)) })
    if k < 7 then s1.cartCmd n 0x04 (k + 1) 0 0 [] (.cert (k + 1))
    else
      let c := certCause (objBytes (s1.zl n).cert)
      if c ≠ 0 then s1.mountFail n c else s1.sendChallenge n
  | .challenge =>
    let c := objBytes (s.zl n).cert
    if Config.ecdsaOk (slice c 28 160) (zlchal ++ slice c 12 27 ++ bytesLe 32 (s.zl n).challenge ++ [n]) data then s.cartCmd n 0x05 0 0 0 [] (.manifest 0)
    else s.mountFail n 4
  | .manifest k =>
    let s1 := s.onZl n (fun z => { z with manifest := SMap.set (fun _ => (0 : Line)) z.manifest k (BitVec.ofNat 512 (ofBytesLe data)) })
    if k < 7 then s1.cartCmd n 0x05 (k + 1) 0 0 [] (.manifest (k + 1)) else s1.manifestDone n
  | _ => s

/-- The seeds of the scramblers of lanes 0 to 3, which start when training ends (R605, R607). -/
def scrSeeds : List Nat := [0x7FFFF0, 0x7FFFF1, 0x7FFFF2, 0x7FFFF3]

/-- Authentication starts (R615): the link starts from SEQ 0 and IDENTIFY is sent. -/
def State.startAuth (s : State) (n : Nat) : State :=
  ((s.onZl n (fun z => { z with
    cmds := [], wdata := [], seq := 0, unacked := [], replay := 0, expect := 0, ackDue := false, nakDue := false, sinceAck := 0, degrading := false, resp := none,
    dropping := false, timer := s.now, lastGood := s.now, stepAt := s.now, cert := [], manifest := [], scr := scrSeeds })).zlTo n zlAuth).cartCmd n 0x03 0 0 0 [] .ident

/-- At a bell boundary, after due key changes, a slot whose key has been installed is MOUNTED (R619). -/
def State.cartMountDue (s : State) (n : Nat) : State :=
  if (s.zl n).mounting then
    let m := objBytes (s.zl n).manifest
    ((((((((s.onZl n (fun z => { z with mounting := false })).setFld (Reg.ZL.CONTENT.CONTENT_SEGS n) (ofBytesLe (slice m 36 39))).setFld (Reg.ZL.SAVE_SEGS.SAVE_SEGS n)
      (ofBytesLe (slice m 40 43))).setFld (Reg.ZL.TITLE_LO.TITLE_LO n) (ofBytesLe (slice m 28 31))).setFld (Reg.ZL.TITLE_HI.TITLE_HI n) (ofBytesLe (slice m 32 35))).setFld
      (Reg.ZL.STATUS.RIGHTS n) (ofBytesLe (slice m 44 47))).zlTo n zlMounted).raise (Reg.ZL.INT_STATUS.MOUNTED n))
  else s

/-! ### Removal, eject, remount (R629, R630, R635) -/

/-- What a removal raises and records (R629, R443). -/
def State.removedNote (s : State) (n : Nat) : State :=
  (s.raiseRec (Reg.ZL.INT_STATUS.REMOVED n) sevNotice clsCart n 0 0 0).event 2 1 [n]

/-- The slot's work ends and the slot powers off (R629); `state` shows, `after` follows once CARTn_PG has been low. -/
def State.cartOff (s : State) (n state after cause : Nat) : State :=
  ((s.cartLeave n).cartPowerOff n state after).onZl n (fun z => { z with afterCause := cause })

/-- CART_REMOVAL (R629): CARTn_DET_N has been high for 1 µs. A mount in progress is abandoned without AUTH_FAIL (R630). -/
def execCartRemoval (slot phase : Nat) (s : State) : Res :=
  let s0 := s.at_ phase
  .next (if 2 ≤ slot || !s0.flag (Reg.ZL.STATUS.PRESENT slot) then s0
  else if !s0.cartSeated slot then s0.setFlag (Reg.ZL.STATUS.PRESENT slot) false
  else
    let s1 := (s0.setFlag (Reg.ZL.STATUS.PRESENT slot) false).onZl slot (fun z => { z with inserted := false })
    (if s1.zlState slot = zlEmpty then s1 else s1.cartOff slot zlPoweringOff zlEmpty 0).removedNote slot)

/-- CART_PG_LOW (R629, R611, R635): CARTn_PG has been low for 10 ms; after a link loss the slot is brought up again once. -/
def execCartPgLow (slot : Nat) (s : State) : Res :=
  .next (if 2 ≤ slot then s
  else if s.zlState slot = zlPoweringOff then
    (s.setFld (Reg.ZL.STATUS.AUTH_CAUSE slot) (s.zl slot).afterCause).zlTo slot (s.zl slot).after
  else if s.zlState slot = zlFault && s.canBringUp slot then s.bringUp slot
  else s)

/-- A write of ZLn.CTRL (R635, R630): GUARD 0xE7. -/
def State.zlCtrl (s : State) (n : Nat) (src : Source) (w : Nat) : State :=
  if guardOf w ≠ 0xE7 then s.cfgErr (0x28 + n) 4 src.code 0x44 w
  else
    let s1 := if bitOf w 1 && s.cartSeated n && decide (s.zlState n ≠ zlPoweringOff) && decide (s.zlState n ≠ zlEmpty) then s.cartOff n zlPoweringOff zlLocked 0 else s
    if bitOf w 0 then
      let c := s1.fld (Reg.ZL.STATUS.AUTH_CAUSE n)
      let locked := decide (s1.zlState n = zlLocked) && (c = 9 || c = 0xB)
      let waits := decide (s1.zlState n = zlEmpty) && !s1.flag (Reg.ZL.CFG.AUTO_MOUNT n)
      if (locked || waits) && s1.canBringUp n then s1.bringUp n else s1.cfgErr (0x28 + n) 2 src.code 0x44 w
    else s1

end Sys2Proof.Machine
end

