-- ==== Sys2Proof/Machine/CartWork.lean ====
section
/-! DEFINITION. What a cartridge serves: host reads with their one retry, stream sectors, copies, saves (R622 to R628), and the CXL.io completions of streams and saves. -/

namespace Sys2Proof.Machine

/-! ### Saves (R627, R628) -/

/-- The new pair of R628, or the RESULT with which the save ends. -/
def savePair (o : SecOut) : Sum (Nat × Nat) Nat :=
  match o with
  | .zeros => .inl (0, 0)
  | .data _ md =>
    if mdVersion md < 0xFFFF then .inl (mdVersion md + 1, mdKeygen md)
    else if mdKeygen md < 255 then .inl (0, mdKeygen md + 1) else .inr 1
  | _ => .inr 2

/-- Sector `i` of a save: its 256 stored bytes and its metadata symbol under the slot's key (R622, R627). -/
def State.saveSector (s : State) (n seg version keygen i : Nat) (plain : List Nat) : List Nat :=
  let k := (s.slot (s.cartKeyid n)).key
  let c := 16 * seg + i
  let st := encryptAs 2 k c version keygen (BitVec.ofNat 2048 (ofBytesLe plain))
  bytesLe 256 st.toNat ++ bytesLe 16 (mdMake (tagOf k c version keygen 0 st) version keygen true false false false).toNat

/-- The 64-byte frames of a byte list. -/
def toFrames (fuel : Nat) (l : List Nat) : List Line :=
  match fuel with
  | 0 => []
  | k + 1 => if l.isEmpty then [] else BitVec.ofNat 512 (ofBytesLe (l.take 64)) :: toFrames k (l.drop 64)

/-- SAVE_WRITE is sent with its 68 WDATA frames. -/
def State.sendSave (s : State) (n : Nat) (sv : Save) (pair : Nat × Nat) (again : Bool) : State :=
  let plain := (List.range 8).flatMap (fun k => SMap.get (fun _ => []) sv.reads k)
  let bytes := (List.range 16).flatMap (fun i => s.saveSector n sv.seg pair.1 pair.2 i ((plain.drop (256 * i)).take 256))
  (s.onZl n (fun z => { z with save := some { sv with pair := some pair } })).cartCmd n 0x02 0 sv.seg 0 (toFrames 68 bytes) (.saveWrite again)

/-- Sector 0 of the segment is decided (R628). -/
def State.saveDecide (s : State) (n : Nat) (o : SecOut) : State :=
  match (s.zl n).save with
  | some sv =>
    match savePair o with
    | .inl p => s.sendSave n sv p false
    | .inr r => s.saveEnd n r
  | none => s

/-- SAVE_WRITE is unanswered, or its response was discarded: it is sent once more, then the save ends TIMEOUT. -/
def State.saveUnanswered (s : State) (n : Nat) (again : Bool) : State :=
  match (s.zl n).save with
  | some sv => if again then s.saveEnd n 4 else s.sendSave n sv (sv.pair.getD (0, 0)) true
  | none => s

/-- SAVE_WRITE is answered with a status (R655). -/
def State.saveAnswered (s : State) (n status : Nat) : State :=
  match (s.zl n).save with
  | some sv =>
    if status ≠ 0 then s.saveEnd n 3
    else ((s.setFld (Reg.ZL.SAVE_STATUS.VERSION n) (sv.pair.getD (0, 0)).1).setFld (Reg.ZL.SAVE_STATUS.KEYGEN n) (sv.pair.getD (0, 0)).2).saveEnd n 0
  | none => s

/-- SAVE_CTRL (R627, R654): GUARD 0x5E; while a save runs the write is ignored. -/
def State.saveCtrl (s : State) (n : Nat) (src : Source) (w : Nat) : State :=
  if guardOf w ≠ 0x5E then s.cfgErr (0x28 + n) 4 src.code 0xAC w
  else if s.flag (Reg.ZL.SAVE_STATUS.BUSY n) then s.cfgErr (0x28 + n) 6 src.code 0xAC w
  else if !bitOf w 0 then s
  else
    let seg := s.fld (Reg.ZL.SAVE_SEG.SEG n)
    let lo := s.fld (Reg.ZL.CONTENT.CONTENT_SEGS n)
    if s.cartMounted n && decide (lo ≤ seg) && decide (seg < s.cartSegs n) && s.irq.busMaster then
      let a := s.fld (Reg.ZL.SAVE_ADDR_HI.ADDR_HI n) * 2 ^ 32 + s.fld (Reg.ZL.SAVE_ADDR_LO.ADDR_LO n) * 4096
      let t := s.strm.nextTag
      let asks := (List.range 8).map (fun (k : Nat) => ({ tag := t + k, req := none, slot := n, off := 512 * k, len := 512 } : HostRd))
      let s1 := (s.onZl n (fun z => { z with save := some { seg } })).setFlag (Reg.ZL.SAVE_STATUS.BUSY n) true
      (s1.onStrm (fun x => { x with hostReads := x.hostReads ++ asks, nextTag := t + 8 })).each asks (fun s h => s.emit (.dmaRead h.tag (a + h.off) 512))
    else (s.setFld (Reg.ZL.SAVE_STATUS.RESULT n) 6).raise (Reg.ZL.INT_STATUS.SAVE_DONE n)

/-- Host data of a save arrives; with the last of it, sector 0 of the segment is read. -/
def State.saveData (s : State) (n off : Nat) (ok : Bool) (bytes : List Nat) : State :=
  match (s.zl n).save with
  | some sv =>
    if !ok then s.saveEnd n 5
    else
      let sv1 := { sv with reads := SMap.set (fun _ => []) sv.reads (off / 512) bytes }
      let s1 := s.onZl n (fun z => { z with save := some sv1 })
      if sv1.reads.length = 8 && sv1.pair.isNone then s1.cartCmd n 0x01 1 (16 * sv.seg) 0 [] (.save0 false) else s1
  | none => s

/-- HOST_READ_COMPLETION (R491, R627): the completion of a CXL.io read; `ok` is false for UR, CA or poison. -/
def execHostReadCompletion (tag : Nat) (ok : Bool) (bytes : List Nat) (phase : Nat) (s : State) : Res :=
  let s0 := s.at_ phase
  .next (match s0.strm.hostReads.find? (fun h => decide (h.tag = tag)) with
    | some h =>
      if !s0.ioOpen || !s0.serving then s0
      else
        let b := ((bytes ++ List.replicate h.len 0).take h.len).map (· % 256)
        let s1 := ((s0.onStrmReads (fun x => decide (x.tag ≠ tag))).moved 1 false h.len).moved 4 false h.len
        match h.req with
        | some i => s1.writeData i h.off ok b
        | none => s1.saveData h.slot h.off ok b
    | none => s0)

/-! ### Copies (R626) -/

/-- Tag under which a copy's lines are awaited under write-through; it is no Tag of the host. -/
def copyTag (n : Nat) : Nat := 2 ^ 16 + 1 + n

/-- Lines of a copy that have arrived enter staging in order while the bucket holds a line; the copy ends once all are durable. -/
def State.copyDrain (s : State) (n fuel : Nat) : State :=
  match fuel with
  | 0 => s
  | k + 1 =>
    match (s.zl n).copy with
    | some c =>
      if c.total ≤ c.got then (if s.awaiting (copyTag n) then s else s.copyEnd n 0 0)
      else
        let b := SMap.get (fun _ => []) c.buf c.got
        if b.isEmpty || s.fld Reg.BWT.WB_LEVEL.LEVEL = 0 || decide (stagingLines ≤ s.stagingUsed + 64) then s
        else
          let dpa := c.dst + 256 * c.got + 64 * c.lines
          match s.lineFail dpa with
          | some f => (if f.1 = 0x27 then s.groupRefused dpa else s.refusedWrite clsCart).copyEnd n (if f.1 = 0x27 then 4 else 3) 0
          | none =>
            let s1 := s.engineWrite dpa c.keyid (copyTag n) (BitVec.ofNat 512 (ofBytesLe ((b.drop (64 * c.lines)).take 64)))
            let c1 := if c.lines < 3 then { c with lines := c.lines + 1 } else { c with lines := 0, got := c.got + 1, buf := SMap.set (fun _ => []) c.buf c.got [] }
            let s2 := (s1.onZl n (fun z => { z with copy := some c1 })).setFld (Reg.ZL.COPY_STATUS.DONE n) (c1.got / 16)
            State.copyDrain s2 n k
    | none => s

/-- A sector of a copy arrives. -/
def State.copySector (s : State) (n i : Nat) (o : SecOut) : State :=
  match (s.zl n).copy with
  | some c =>
    if c.total ≤ i then s
    else match o with
      | .data d _ => (s.onZl n (fun z => { z with copy := some { c with buf := SMap.set (fun _ => []) c.buf i (bytesLe 256 d.toNat) } })).copyDrain n 1024
      | .zeros => (s.onZl n (fun z => { z with copy := some { c with buf := SMap.set (fun _ => []) c.buf i zeroSector } })).copyDrain n 1024
      | _ => s.copyEnd n 2 0
  | none => s

/-- In each bell a copy reads with the slot capacity that no stream booking holds, at most 96 sectors ahead of staging. -/
def State.copyPump (s : State) (n : Nat) : State :=
  match (s.zl n).copy with
  | some c =>
    if !s.serving then s
    else
      let room := s.mediaFree s.strm (2 + n) s.clk.bell
      let secs := ((List.range room).map (fun i => c.next + i)).filter (fun i => decide (i < c.total) && decide (i < c.got + 96))
      let s1 := s.onZl n (fun z => { z with copy := some { c with next := c.next + secs.length } })
      let s2 := { s1 with strm := s1.strm.book (2 + n) s.clk.bell secs.length }
      (s2.each (threes secs.length secs) (fun s g => s.cartCmd n 0x01 g.length (c.src + g.headD 0) 0 [] (.copy (g.headD 0) false))).copyDrain n 1024
  | none => s

/-- COPY_CTRL (R626, R649): GUARD 0x7E in bits [23:16]; while a copy runs the write is ignored. -/
def State.copyCtrl (s : State) (n : Nat) (src : Source) (w : Nat) : State :=
  if bitsOf w 23 16 ≠ 0x7E then s.cfgErr (0x28 + n) 4 src.code 0x8C w
  else if s.flag (Reg.ZL.COPY_STATUS.BUSY n) then s.cfgErr (0x28 + n) 6 src.code 0x8C w
  else if !bitOf w 31 then s
  else
    let segs := bitsOf w 15 0 + 1
    let dst := s.fld (Reg.ZL.COPY_DST_HI.DPA_HI n) * 2 ^ 32 + s.fld (Reg.ZL.COPY_DST_LO.DPA_LO n) * 4096
    let k := s.fld (Reg.ZL.COPY_DST_HI.KEYID n)
    let seg := s.fld (Reg.ZL.COPY_SRC.SEG n)
    let s0 := s.setFld (Reg.ZL.COPY_STATUS.DONE n) 0
    if !s.cartMounted n || !s.cartRight n 2 then s0.copyEnd n 6 0
    else if s.cartSegs n < seg + segs then s0.copyEnd n 1 3
    else
      let c := if s.dpaInternal dst && s.dpaInternal (dst + 4096 * segs - 1) then s.checkRange clsCart true dst (4096 * segs) k else (3, dst)
      if c.1 ≠ 0 then (s0.refusedBy clsCart c.1 c.2 k).copyEnd n 1 c.1
      else
        let cp : Copy := { src := 16 * seg, dst, keyid := k, total := 16 * segs }
        ((s0.onZl n (fun z => { z with copy := some cp })).setFlag (Reg.ZL.COPY_STATUS.BUSY n) true).setFld (Reg.ZL.COPY_STATUS.RESULT n) 0

/-! ### Attempts (R624) -/

/-- The use is that of a retry. -/
def CartUse.isRetry (u : CartUse) : Bool :=
  match u with
  | .host _ r => r
  | .stream _ _ r => r
  | .copy _ r => r
  | .save0 r => r
  | .debug _ r => r
  | _ => false

/-- The use still serves someone: it is not that of an ended copy. -/
def CartUse.serves (u : CartUse) : Bool :=
  match u with
  | .copy i _ => decide (i < 2 ^ 40)
  | _ => true

/-- Master class of a use (R530). -/
def CartUse.cls (u : CartUse) : Nat :=
  match u with
  | .host _ _ => clsHost
  | .stream _ _ _ => clsStream
  | .debug _ _ => clsDebug
  | _ => clsCart

/-- The use of the retry of sector `i` of a command. -/
def CartUse.again (u : CartUse) (i : Nat) : CartUse :=
  match u with
  | .host r _ => .host r true
  | .stream q f _ => .stream q (f + i) true
  | .copy f _ => .copy (f + i) true
  | .save0 _ => .save0 true
  | .debug l _ => .debug l true
  | x => x

/-- The outcome of one sector reaches the one who asked for it. -/
def State.cartOutcome (s : State) (n : Nat) (u : CartUse) (i : Nat) (o : SecOut) : State :=
  match u with
  | .host r _ =>
    match s.rd r with
    | some x => s.setRd { x with outs := [(dpaSector x.dpa, o)] }
    | none => s
  | .stream q f _ =>
    let b := match o with
      | .data d _ => some (bytesLe 256 d.toNat)
      | .zeros => some zeroSector
      | _ => none
    s.onSreq q (fun y => y.take (f + i) b)
  | .copy f _ => s.copySector n (f + i) o
  | .save0 _ => s.saveDecide n o
  | .debug l _ =>
    let x := o.line l
    s.emit (.tdo [b2n x.1, if x.1 then 0 else x.2.toNat])
  | _ => s

/-- What the retry does to its requester beyond the READ itself: the read's later count, the displaced stream sector (R624, R625). -/
def State.retryNote (s : State) (u : CartUse) : State :=
  match u with
  | .host r _ => (match s.rd r with | some x => s.setRd { x with reread := true } | none => s)
  | .stream q _ _ => s.onSreq q (fun y => y.struckBy 4)
  | _ => s

/-- One sector of a READ fails its attempt: one PRIORITY READ, or poison after it. -/
def State.sectorFail (s : State) (n : Nat) (c : CartCmd) (i : Nat) : State :=
  if c.use.serves = false then s
  else if c.use.isRetry then
    ((s.bumpSat (Reg.ZL.RETRY.POISONED n)).raiseRec (Reg.ZL.INT_STATUS.POISONED n) sevError c.use.cls n 0 0 0).cartOutcome n c.use i (.poison 0)
  else
    (((s.bumpSat (Reg.ZL.RETRY.RETRIES n)).ev 0xA1 none none 1).retryNote c.use).cartCmd n 0x01 1 (c.arg + i) 2 [] (c.use.again i)

/-- A command fails: every sector of a READ; a mount command fails its mount; SAVE_WRITE counts as unanswered. -/
def State.cmdFail (s : State) (n : Nat) (c : CartCmd) : State :=
  match c.use with
  | .saveWrite again => s.saveUnanswered n again
  | .ident | .cert _ | .challenge | .manifest _ => s.mountFail n 0xA
  | _ => s.each (List.range c.count) (fun s i => s.sectorFail n c i)

/-- A complete READ response (R622, R624): each sector is decoded; a retry that succeeds is a transient fault. -/
def State.readDone (s : State) (n : Nat) (c : CartCmd) : State :=
  let head := c.head.getD 0
  (s.moved (7 + n) false (256 * c.count)).each (List.range c.count) (fun s i =>
    let md : Chunk := (head >>> (128 * (i + 1))).setWidth 128
    let stored : SectorData := BitVec.ofNat 2048 (ofBytesLe (((c.data.drop (4 * i)).take 4).flatMap lineToBytes))
    match s.cartSector n (c.arg + i) md stored with
    | some o =>
      let s1 := if c.use.isRetry then
          s.report { sev := sevNotice, cls := c.use.cls, code := (0x28 + n) * 256 + 0x0A, page := 0x28 + n, inst := n, p1 := 0, p2 := 0, p3 := 0 }
        else s
      s1.cartOutcome n c.use i o
    | none => s.sectorFail n c i)

/-! ### Host reads (R623, R624) -/

/-- CART_READ_HANDOFF (R623, R624): the hand-off at 7,286, or at 12,686 after a retry, however early the response arrived. -/
def execCartReadHandoff (read phase : Nat) (s : State) : Res :=
  let s0 := s.at_ phase
  .next (match s0.rd read with
    | some r =>
      let c := r.acc + (if r.reread then 12686 else 7286)
      if r.st = .cart && decide (c ≤ s0.now) && !r.outs.isEmpty then s0.deliver r r.outs false c else s0
    | none => s0)

end Sys2Proof.Machine
end

