-- ==== Sys2Proof/Machine/CartLink.lean ====
section
/-! DEFINITION. The Zalkor link (R605 to R614, R631): frames received, link-level retry, responses, deadlines, link loss, and the frame that leaves at a frame boundary. -/

namespace Sys2Proof.Machine

/-! ### Link state -/

/-- The link carries sequenced frames: the device serves, the slot is authenticating or mounted, its lanes are not retraining. -/
def State.cartLive (s : State) (n : Nat) : Bool :=
  decide (n < 2) && s.serving && (decide (s.zlState n = zlAuth) || decide (s.zlState n = zlMounted)) && !(s.zl n).degrading

/-- The lanes of the slot train (R604, R605), or retrain (R610). -/
def State.cartTrains (s : State) (n : Nat) : Bool :=
  decide (n < 2) && s.serving && (decide (s.zlState n = zlTraining) || (s.zl n).degrading)

/-- A violation of R631 is counted in `f` and recorded; `kind` is 1 NAK, 2 unsolicited, 3 malformed, 4 no first frame; kinds 2 and 3 raise VIOLATION. -/
def State.cartViol (s : State) (n kind : Nat) (f : Fld) : State :=
  let s1 := s.bumpSat f
  let s2 := if kind = 2 || kind = 3 then s1.raise (Reg.ZL.INT_STATUS.VIOLATION n) else s1
  s2.report { sev := sevNotice, cls := clsCart, code := (0x28 + n) * 256 + 7, page := 0x28 + n, inst := n, p1 := kind, p2 := 0, p3 := 0 }

def State.unsolicited (s : State) (n : Nat) : State := s.cartViol n 2 (Reg.ZL.VIOL.UNSOLICITED n)
def State.malformed (s : State) (n : Nat) : State := s.cartViol n 3 (Reg.ZL.VIOL.MALFORMED n)

/-- The slot goes to x2 (R610): lanes 0 and 1 retrain alone. -/
def State.degrade (s : State) (n : Nat) : State :=
  (((s.onZl n (fun z => { z with degrading := true, stepAt := s.now })).setFlag (Reg.ZL.STATUS.DEGRADED n) true).setFld (Reg.ZL.STATUS.WIDTH n) 2).raiseRec
    (Reg.ZL.INT_STATUS.DEGRADE n) sevWarn clsCart n 0 0 0

/-- A replay event (R609, R610): the 33rd of a window degrades the slot to x2. -/
def State.replayEvent (s : State) (n : Nat) : State :=
  let w := s.fld (Reg.ZL.LINK_ERR.WINDOW n)
  let s1 := (s.bumpSat (Reg.ZL.LINK_ERR.REPLAYS n)).setFld (Reg.ZL.LINK_ERR.WINDOW n) (min (w + 1) 33)
  if w = 32 && s.fld (Reg.ZL.STATUS.WIDTH n) = 4 then s1.degrade n else s1

/-- At a bell boundary that is a multiple of 2^20 the window starts again (R610). -/
def State.cartWindow (s : State) : State :=
  if s.clk.bell % 2 ^ 20 = 0 then s.each [0, 1] (fun s n => if s.fld (Reg.ZL.LINK_ERR.WINDOW n) = 0 then s else s.setFld (Reg.ZL.LINK_ERR.WINDOW n) 0) else s

/-- A good frame arrives at the present clk (R611). -/
def State.goodFrame (s : State) (n : Nat) : State := s.onZl n (fun z => { z with lastGood := s.now })

/-! ### Training (R605, R610) -/

/-- The link is lost (R611): as a removal, but to FAULT and up again once; the second time LOCKED with cause 0xC. -/
def State.linkLost (s : State) (n : Nat) : State :=
  let s1 := s.raise (Reg.ZL.INT_STATUS.LINK_LOST n)
  if (s.zl n).lostOnce then (s1.removedNote n).mountFail n 0xC
  else ((s1.cartOff n zlFault zlFault 0).onZl n (fun z => { z with lostOnce := true })).removedNote n

/-- LANE_TRAINING_END (R605, R610): bit m of `lanes` tells that lane m has trained. The scramblers start. -/
def execLaneTrainingEnd (slot lanes phase : Nat) (s : State) : Res :=
  let s0 := s.at_ phase
  let two := bitOf lanes 0 && bitOf lanes 1
  .next (if 2 ≤ slot || !s0.serving then s0
  else if s0.zlState slot = zlTraining then
    if lanes % 16 = 15 then (s0.setFld (Reg.ZL.STATUS.WIDTH slot) 4).startAuth slot
    else if two then (s0.setFld (Reg.ZL.STATUS.WIDTH slot) 2).startAuth slot
    else s0.mountFail slot 0xA
  else if (s0.zl slot).degrading then
    if two then s0.onZl slot (fun z => { z with degrading := false, scr := scrSeeds, replay := z.unacked.length, timer := s0.now, lastGood := s0.now })
    else s0.linkLost slot
  else s0)

/-- TS_FRAME (R605, R608): a training frame; a good frame of any type counts for R611. -/
def execTsFrame (slot phase : Nat) (s : State) : Res := .next (if slot < 2 then (s.at_ phase).goodFrame slot else s.at_ phase)

/-- IDLE_FRAME (R608): nothing but a good frame. -/
def execIdleFrame (slot phase : Nat) (s : State) : Res := .next (if (s.at_ phase).cartLive slot then (s.at_ phase).goodFrame slot else s.at_ phase)

/-! ### Acknowledgement and replay (R609) -/

/-- The unacknowledged frames after `ack`; all of them where `ack` names none. -/
def afterAck (ack : Nat) (l : List TxFrame) : List TxFrame :=
  if l.any (fun f => decide (f.seq = ack)) then (l.dropWhile (fun f => decide (f.seq ≠ ack))).drop 1 else l

/-- LINK_FRAME (R609): an acknowledgement frees frames, a NAK replays the rest. -/
def execLinkFrame (slot ack : Nat) (ackValid nak : Bool) (phase : Nat) (s : State) : Res :=
  let s0 := s.at_ phase
  .next (if !s0.cartLive slot then s0
  else
    let s1 := s0.goodFrame slot
    let rest := if ackValid then afterAck (ack % 256) (s1.zl slot).unacked else (s1.zl slot).unacked
    let s2 := s1.onZl slot (fun z => { z with
      unacked := rest, replay := if nak then rest.length else min z.replay rest.length,
      timer := if rest.length < z.unacked.length || nak then s0.now else z.timer })
    if nak && !rest.isEmpty then s2.replayEvent slot else s2)

/-- REPLAY_TIMER (R609): no acknowledgement for 2 µs. -/
def execReplayTimer (slot phase : Nat) (s : State) : Res :=
  let s0 := s.at_ phase
  .next (if s0.cartLive slot && !(s0.zl slot).unacked.isEmpty && decide ((s0.zl slot).timer + 6000 ≤ s0.now) then
    (s0.onZl slot (fun z => { z with replay := z.unacked.length, timer := s0.now })).replayEvent slot
  else s0)

/-- CART_LINK_LOSS (R611): no good frame for 8 µs. -/
def execCartLinkLoss (slot phase : Nat) (s : State) : Res :=
  let s0 := s.at_ phase
  .next (if s0.cartLive slot && decide ((s0.zl slot).lastGood + 24000 ≤ s0.now) then s0.linkLost slot else s0)

/-- A sequenced frame that passed its CRC (R609): `k` takes it if its SEQ is the one expected; a frame ahead leads to a NAK, one behind is dropped. -/
def State.sequenced (s : State) (n seq : Nat) (k : State → State) : State :=
  if !s.cartLive n then s
  else
    let s1 := s.goodFrame n
    let d := (seq % 256 + 256 - (s1.zl n).expect) % 256
    if d = 0 then k (s1.onZl n (fun z => { z with expect := (z.expect + 1) % 256, ackDue := true }))
    else if d < 128 then s1.onZl n (fun z => { z with nakDue := true })
    else s1.onZl n (fun z => { z with ackDue := true })

/-- BAD_CRC_FRAME (R609, R631): a sequenced frame leads to a NAK, another is discarded. -/
def execBadCrcFrame (slot : Nat) (sequenced : Bool) (phase : Nat) (s : State) : Res :=
  let s0 := s.at_ phase
  .next (if s0.cartLive slot && sequenced then s0.onZl slot (fun z => { z with nakDue := true }) else s0)

/-! ### Responses (R613, R631) -/

/-- Byte `i` of a payload. -/
def payByte (p : Line) (i : Nat) : Nat := bitsOf p.toNat (8 * i + 7) (8 * i)

/-- The outstanding command with a TAG, if `p` holds of its opcode. -/
def State.outstanding (s : State) (n tag : Nat) (p : Nat → Bool) : Option CartCmd :=
  (s.zl n).cmds.find? (fun c => decide (c.tag = tag) && c.sent.isSome && p c.op)

/-- A command leaves the slot. -/
def State.endCmd (s : State) (n tag : Nat) : State := s.onZl n (fun z => { z with cmds := z.cmds.filter (fun c => c.tag ≠ tag) })

/-- Clk by which the first frame and the last frame of an attempt must have arrived; a host read counts from its acceptance. -/
def State.answerBy (s : State) (c : CartCmd) : Option (Nat × Nat) :=
  match c.use with
  | .host r again => (s.rd r).map (fun x => if again then (x.acc + 12604, x.acc + 12604) else (x.acc + 5674, x.acc + 7204))
  | _ => c.sent.map (fun t => (t + 5400, t + 6930))

/-- A READ command of the slot, waiting or outstanding. -/
def State.readCmd (s : State) (n tag : Nat) : Option CartCmd := (s.zl n).cmds.find? (fun c => decide (c.tag = tag) && decide (c.op = 1))

/-- The attempt of a READ ends at a deadline; frames of its response that come later are dropped. -/
def State.readLate (s : State) (n : Nat) (c : CartCmd) : State :=
  let s1 := if c.head.isNone then s.cartViol n 4 (Reg.ZL.VIOL.TIMEOUTS n) else s
  let s2 := (s1.endCmd n c.tag).onZl n (fun z => if z.resp = some c.tag then { z with resp := none, dropping := true } else z)
  s2.cmdFail n c

/-- No header of an attempt may arrive any more, or no frame of it (R623). -/
def State.lateFirst (s : State) (c : CartCmd) : Bool := match s.answerBy c with | some t => decide (t.1 < s.now) | none => false
/-- The attempt is past its completion deadline. -/
def State.lateLast (s : State) (c : CartCmd) : Bool := match s.answerBy c with | some t => decide (t.2 < s.now) | none => false

/-- The response in progress is discarded and its attempt fails; nothing where none is in progress. -/
def State.breakResponse (s : State) (n : Nat) : State :=
  match (s.zl n).resp with
  | some t =>
    let s1 := s.onZl n (fun z => { z with resp := none })
    match s1.outstanding n t (fun _ => true) with
    | some c => (((s1.endCmd n t).malformed n).cmdFail n c)
    | none => s1.malformed n
  | none => s

/-- The outstanding command of a header; a TAG that is not outstanding is unsolicited, and the rest of its response is dropped. -/
def State.header (s : State) (n tag : Nat) (p : Nat → Bool) (k : CartCmd → State → State) : State :=
  let s1 := (s.breakResponse n).onZl n (fun z => { z with dropping := false })
  match s1.outstanding n tag p with
  | some c => k c s1
  | none => (s1.unsolicited n).onZl n (fun z => { z with dropping := true })

/-- A header is malformed: its response is discarded, the attempt fails. -/
def State.badHeader (s : State) (n : Nat) (c : CartCmd) : State :=
  (((s.endCmd n c.tag).malformed n).onZl n (fun z => { z with dropping := true })).cmdFail n c

/-- RMETA (R613): the header of a READ response; after the answer window it is too late (R623). -/
def execRmeta (slot seq : Nat) (payload : Line) (phase : Nat) (s : State) : Res :=
  .next ((s.at_ phase).sequenced slot seq (fun s =>
    s.header slot (payByte payload 0) (fun op => decide (op = 1)) (fun c s =>
      if s.lateFirst c then (s.readLate slot c).onZl slot (fun z => { z with dropping := true })
      else if payByte payload 2 ≠ c.count || payByte payload 1 ≠ 0 || !(allZero ((List.range 13).map (fun i => payByte payload (3 + i)))) then s.badHeader slot c
      else s.onZl slot (fun z => { z with
        resp := some c.tag, cmds := z.cmds.map (fun x => if x.tag = c.tag then { x with head := some payload, data := [] } else x) }))))

/-- RDATA (R613): 64 bytes of sector data; with the last of the response the attempt is decided. -/
def execRdata (slot seq : Nat) (payload : Line) (phase : Nat) (s : State) : Res :=
  .next ((s.at_ phase).sequenced slot seq (fun s =>
    match (s.zl slot).resp with
    | some t =>
      match s.outstanding slot t (fun op => decide (op = 1)) with
      | some c =>
        let c1 := { c with data := c.data ++ [payload] }
        if s.lateLast c then s.readLate slot c
        else if c1.data.length = 4 * c.count then ((s.endCmd slot t).onZl slot (fun z => { z with resp := none })).readDone slot c1
        else s.onZl slot (fun z => { z with cmds := z.cmds.map (fun x => if x.tag = t then c1 else x) })
      | none => if (s.outstanding slot t (fun _ => true)).isSome then s.unsolicited slot else s
    | none => if (s.zl slot).dropping then s else s.unsolicited slot))

/-- RERR (R613, R624): the attempt of a READ fails. -/
def execRerr (slot seq : Nat) (payload : Line) (phase : Nat) (s : State) : Res :=
  .next ((s.at_ phase).sequenced slot seq (fun s =>
    s.header slot (payByte payload 0) (fun op => decide (op = 1)) (fun c s =>
      let s1 := if allZero ((List.range 62).map (fun i => payByte payload (2 + i))) then s else s.malformed slot
      (s1.endCmd slot c.tag).cmdFail slot c)))

/-- Data length of a command's response (R613). -/
def rspLength (op : Nat) : Nat := match op with | 0x03 => 4 | 0x04 => 64 | 0x05 => 64 | 0x06 => 132 | _ => 0

/-- The data that the RSP frames of a command have brought. -/
def CartCmd.rspData (c : CartCmd) : List Nat := ((c.head.map (fun h => slice (lineToBytes h) 16 63)).getD [] ++ c.data.flatMap lineToBytes).take (rspLength c.op)

/-- A complete response other than a READ's: the mount goes on, or the save is answered; a status other than 0 fails a mount command. -/
def State.rspDone (s : State) (n : Nat) (c : CartCmd) : State :=
  let status := payByte (c.head.getD 0) 1
  let s1 := (s.endCmd n c.tag).onZl n (fun z => { z with resp := none })
  match c.use with
  | .saveWrite _ => s1.saveAnswered n status
  | u => if status = 0 then s1.mountStep n u c.rspData else s1.cmdFail n c

/-- A frame of a response other than a READ's has been added to its command. -/
def State.rspFrame (s : State) (n : Nat) (c : CartCmd) : State :=
  if rspLength c.op ≤ 48 + 64 * c.data.length then s.rspDone n c
  else s.onZl n (fun z => { z with resp := some c.tag, cmds := z.cmds.map (fun x => if x.tag = c.tag then c else x) })

/-- RSP (R613): the header of another response, or a further frame of its data. -/
def execRsp (slot seq : Nat) (payload : Line) (phase : Nat) (s : State) : Res :=
  .next ((s.at_ phase).sequenced slot seq (fun s =>
    let more := match (s.zl slot).resp with
      | some t => s.outstanding slot t (fun op => decide (op ≠ 1))
      | none => none
    match more with
    | some c => s.rspFrame slot { c with data := c.data ++ [payload] }
    | none =>
      if (s.zl slot).dropping && !((s.outstanding slot (payByte payload 0) (fun op => decide (op ≠ 1))).isSome) then s
      else s.header slot (payByte payload 0) (fun op => decide (op ≠ 1)) (fun c s =>
        if payByte payload 2 + 256 * payByte payload 3 ≠ rspLength c.op || !(allZero ((List.range 12).map (fun i => payByte payload (4 + i)))) then s.badHeader slot c
        else s.rspFrame slot { c with head := some payload, data := [] })))

/-- DEVICE_ONLY_TYPE_FRAME (R631): a CMD or WDATA frame from the target is dropped and counted. -/
def execDeviceOnlyTypeFrame (slot seq phase : Nat) (s : State) : Res :=
  .next ((s.at_ phase).sequenced slot seq (fun s => s.unsolicited slot))

/-- UNUSED_TYPE_FRAME (R631): counted as malformed; the response in progress is discarded and its attempt fails. -/
def execUnusedTypeFrame (slot phase : Nat) (s : State) : Res :=
  let s0 := s.at_ phase
  .next (if !s0.cartLive slot then s0
  else
    let s1 := s0.goodFrame slot
    if (s1.zl slot).resp.isSome then (s1.breakResponse slot).onZl slot (fun z => { z with dropping := true }) else s1.malformed slot)

/-! ### Deadlines (R615, R624, R627) -/

/-- CART_ANSWER_TIMEOUT (R624): no header has arrived by the end of the answer window. -/
def execCartAnswerTimeout (slot tag phase : Nat) (s : State) : Res :=
  let s0 := s.at_ phase
  .next (if !s0.cartLive slot then s0
  else match s0.readCmd slot tag with
    | some c => (match s0.answerBy c with | some t => if c.head.isNone && decide (t.1 ≤ s0.now) then s0.readLate slot c else s0 | none => s0)
    | none => s0)

/-- CART_COMPLETION_DEADLINE (R624): the response is not complete at its deadline. -/
def execCartCompletionDeadline (slot tag phase : Nat) (s : State) : Res :=
  let s0 := s.at_ phase
  .next (if !s0.cartLive slot then s0
  else match s0.readCmd slot tag with
    | some c => (match s0.answerBy c with | some t => if t.2 ≤ s0.now then s0.readLate slot c else s0 | none => s0)
    | none => s0)

/-- CART_COMMAND_TIMEOUT (R615): a mount command is unanswered at 1 ms. -/
def execCartCommandTimeout (slot tag phase : Nat) (s : State) : Res :=
  let s0 := s.at_ phase
  .next (match (s0.zl slot).cmds.find? (fun c => decide (c.tag = tag) && decide (3 ≤ c.op)) with
    | some c => (match c.sent with | some t => if s0.cartLive slot && decide (t + 3000000 ≤ s0.now) then s0.mountFail slot 0xA else s0 | none => s0)
    | none => s0)

/-- SAVE_WRITE_TIMEOUT (R627): unanswered for 20 ms after its last frame. -/
def execSaveWriteTimeout (slot phase : Nat) (s : State) : Res :=
  let s0 := s.at_ phase
  .next (match (s0.zl slot).cmds.find? (fun c => decide (c.op = 2)) with
    | some c =>
      (match c.sent, c.use with
       | some t, .saveWrite again => if s0.cartLive slot && (s0.zl slot).wdata.isEmpty && decide (t + 60000000 ≤ s0.now) then (s0.endCmd slot c.tag).saveUnanswered slot again else s0
       | _, _ => s0)
    | none => s0)

/-! ### The frame that leaves (R606 to R609, R612) -/

/-- One step of the scrambler x^23 + x^21 + x^16 + x^8 + x^5 + x^2 + 1 (R607), its bit 22 leaving. -/
def scrStep (x : Nat) : Nat := if 0x400000 ≤ x then (2 * x % 0x800000) ^^^ 0x210125 else 2 * x

/-- The `m` low bits of a byte scrambled, the lowest first: the bits that leave, and the scrambler after them. -/
def scrBits (m x b : Nat) : Nat × Nat :=
  match m with
  | 0 => (0, x)
  | k + 1 =>
    let r := scrBits k (scrStep x) (b / 2)
    ((b % 2 ^^^ b2n (decide (0x400000 ≤ x))) + 2 * r.1, r.2)

/-- The bytes of one lane scrambled, and the scrambler after them (R607). -/
def scrLane (x : Nat) (bytes : List Nat) : List Nat × Nat :=
  bytes.foldl (fun a b => let r := scrBits 8 a.2 b; (a.1 ++ [r.1], r.2)) ([], x)

/-- The bytes of a frame that lane `m` of `w` carries: every w-th (R606). -/
def laneOf (w m : Nat) (bytes : List Nat) : List Nat := (List.range (68 / w)).map (fun i => bytes.getD (w * i + m) 0)

/-- A frame: payload, SEQ, TYPE, CRC-16 big-endian (R606). -/
def frameBytes (seq ty : Nat) (payload : Line) : List Nat :=
  let body := lineToBytes payload ++ [seq, ty]
  body ++ bytesBe 2 (crc16 body)

/-- Lanes of a slot in use (R605, R636). -/
def State.lanesOf (s : State) (n : Nat) : Nat := if s.fld (Reg.ZL.STATUS.WIDTH n) = 4 then 4 else 2

/-- A frame leaves, its bytes spread over the lanes and scrambled (R606, R607). -/
def State.sendFrame (s : State) (n seq ty : Nat) (payload : Line) : State :=
  let f := frameBytes seq ty payload
  let w := s.lanesOf n
  let r := (List.range w).map (fun m => scrLane ((s.zl n).scr.getD m 0) (laneOf w m f))
  (s.emit (.cartFrame n f (r.map (·.1)))).onZl n (fun z => { z with scr := r.map (·.2) })

/-- A training frame leaves on every lane that trains, unscrambled (R605, R608); the spec gives no payload for it. -/
def State.sendTraining (s : State) (n : Nat) : State :=
  let f := frameBytes 0 0x02 (Config.tsPayload n)
  let w := if (s.zl n).degrading then 2 else 4
  s.emit (.cartFrame n f (List.replicate w f))

/-- The 16 bytes of a command (R612). -/
def CartCmd.bytes (c : CartCmd) : List Nat := [c.op, c.tag, c.count, b2n (decide (c.prio = 2))] ++ bytesLe 4 c.arg ++ List.replicate 8 0

/-- The commands that the next CMD frame carries: up to four, PRIORITY first, then host READs, at most 64 outstanding. -/
def Zl.nextCmds (z : Zl) : List CartCmd :=
  let out := (z.cmds.filter (fun c => c.sent.isSome)).length
  let waiting := z.cmds.filter (fun c => c.sent.isNone)
  ((waiting.filter (fun c => decide (c.prio = 2)) ++ waiting.filter (fun c => decide (c.prio = 1)) ++ waiting.filter (fun c => decide (c.prio = 0))).take 4).take (64 - out)

/-- A new sequenced frame leaves and enters the replay buffer. -/
def State.sendSequenced (s : State) (n ty : Nat) (payload : Line) : State :=
  let z := s.zl n
  (s.sendFrame n z.seq ty payload).onZl n (fun z => { z with
    seq := (z.seq + 1) % 256, unacked := z.unacked ++ [{ seq := z.seq, ty, payload }], timer := if z.unacked.isEmpty then s.now else z.timer,
    sinceAck := z.sinceAck + 1 })

/-- A CMD frame leaves; each READ is counted (R642). -/
def State.sendCmds (s : State) (n : Nat) (l : List CartCmd) : State :=
  let tags := l.map (fun c => c.tag)
  let s1 := (s.sendSequenced n 0x10 (BitVec.ofNat 512 (ofBytesLe (l.flatMap CartCmd.bytes)))).onZl n (fun z => { z with
    cmds := z.cmds.map (fun c => if tags.contains c.tag then { c with sent := some s.now } else c), wdata := z.wdata ++ l.flatMap (fun c => c.wdata) })
  let reads := (l.filter (fun c => decide (c.op = 1))).length
  if reads = 0 then s1 else (s1.bumpSatBy (Reg.ZL.READS.READS n) reads).ev 0xA0 none none reads

/-- A WDATA frame leaves; a SAVE_WRITE counts as sent with its last one. -/
def State.sendWdata (s : State) (n : Nat) (l : Line) : State :=
  let s1 := (s.sendSequenced n 0x11 l).onZl n (fun z => { z with wdata := z.wdata.drop 1 })
  let s2 := s1.moved (7 + n) true 64
  if (s2.zl n).wdata.isEmpty then
    s2.onZl n (fun z => { z with cmds := z.cmds.map (fun c => if c.op = 2 && c.sent.isSome then { c with sent := some s.now } else c) })
  else s2

/-- A LINK frame leaves: ACK_SEQ is the last good SEQ in order; a NAK is counted, and the replay that it asks for is a replay event (R609, R631). -/
def State.sendLink (s : State) (n : Nat) : State :=
  let z := s.zl n
  let ack := (z.expect + 255) % 256
  let s1 := (s.sendFrame n 0 0x01 (BitVec.ofNat 512 (ack + 256 * (b2n z.nakDue + 2)))).onZl n (fun z => { z with nakDue := false, ackDue := false, sinceAck := 0 })
  if z.nakDue then (s1.cartViol n 1 (Reg.ZL.LINK_ERR.NAKS_SENT n)).replayEvent n else s1

/-- CART_FRAME_BOUNDARY (R605, R609, R612): the next frame of a slot. -/
def execCartFrameBoundary (slot phase : Nat) (s : State) : Res :=
  let s0 := s.at_ phase
  let z := s0.zl slot
  .next (if s0.cartTrains slot then s0.sendTraining slot
  else if !s0.cartLive slot then s0
  else if z.nakDue || (z.ackDue && decide (15 ≤ z.sinceAck)) then s0.sendLink slot
  else match z.unacked[z.unacked.length - z.replay]? with
    | some f => ((s0.sendFrame slot f.seq f.ty f.payload).onZl slot (fun z => { z with replay := z.replay - 1, sinceAck := z.sinceAck + 1 }))
    | none =>
      if z.unacked.length < 32 && !z.nextCmds.isEmpty then s0.sendCmds slot z.nextCmds
      else match (if z.unacked.length < 32 then z.wdata else []) with
        | l :: _ => s0.sendWdata slot l
        | [] => if z.ackDue then s0.sendLink slot else (s0.sendFrame slot 0 0x00 0).onZl slot (fun z => { z with sinceAck := z.sinceAck + 1 }))

end Sys2Proof.Machine
end

