-- ==== Sys2Proof/Machine/Drover.lean ====
section
/-! DEFINITION. The Shepherd and the Drover (R140, R143, R177 to R180, R185 to R191, R196, R199, R542 to R548): what a background sense brings about, building segments, folding, parity rebuild, closing, re-encryption. -/

namespace Sys2Proof.Machine

/-! ### Images -/

/-- The image with its SLC flag as its new band needs it (R134, R185). -/
def SecImg.forBand (x : SecImg) (slc : Bool) : SecImg := { x with md := mdWithSlc x.md slc }

/-- The 16 images of a copy: the sectors of `bad` stored poisoned (R138, R140, R185). DESIGN CHOICE (log entry 106): a sector poisoned for a lasting fault has STRICT_CHECKED = 0, for its old flag cannot be read. -/
def State.copyImgs (s : State) (lseg : Nat) (imgs : List SecImg) (bad : List Nat) (slc : Bool) : List SecImg :=
  (List.range 16).map (fun k =>
    (if bad.contains k then s.poisonSec (s.regionOfSeg lseg) (mdStrict (imgs.getD k {}).md) else imgs.getD k {}).forBand slc)

/-- The sectors that still fail. -/
def Bg.bad (b : Bg) : List Nat := b.fails.map (fun f => f.1)

/-! ### The Shepherd (R143) -/

/-- A visit ends: threshold, counters, the catch-up senses of programming dies. DESIGN CHOICES (log entry 106): the visit counts in REWRITES also where a rewrite of the segment waits already, to which no
request is added; the chunk of a sector that failed, for which there is no corrected stripe, is compared with what is stored. -/
def State.shepDone (s : State) (b : Bg) : State :=
  let g := psaGang b.psa
  let many := decide (s.appFld Reg.SHP.CTRL.REWRITE_THRESH ≤ b.syms)
  let s1 := (s.bumpBy (Reg.SHP.CORR.CORR g) b.syms).cond many (fun s => s.queueRewrite b.lseg b.psa [])
  let s2 := if many || b.failed then (s1.bump (Reg.SHP.REWRITES.REWRITES g)).raise Reg.SHP.INT_STATUS.REWRITE_QUEUED else s1
  let s3 := if b.fails.isEmpty then s2 else s2.raise Reg.SHP.INT_STATUS.LASTING_FOUND
  s3.each (b.progDies.filter (fun p => !s3.dieFailed (dieNo g p))) (fun s p =>
    let chunks := (List.range 16).map (fun k => if b.bad.contains k then s.chunk b.psa k p else (encodeStripe (b.imgs.getD k {})).getD p 0)
    s.onGang g (fun x => { x with shep := { x.shep with catchUps := x.shep.catchUps ++ [{ die := dieNo g p, psa := b.psa, chunks }] } }))

/-! ### Rewrites and re-encryption (R140, R546) -/

/-- A rewrite's copy joins a row batch, unless the map names another segment by now. -/
def State.rewriteDone (s : State) (b : Bg) (bad0 : List Nat) : State :=
  if !s.names b.lseg b.psa then s
  else
    let bad := (bad0 ++ b.bad).eraseDups
    s.joinBatch { lseg := b.lseg, group := none, secs := s.copyImgs b.lseg b.imgs bad true, snap := none, cmp := some b.psa, region := none, fresh := !bad.isEmpty }

/-- A sector that a pass must rewrite: under the previous key, or with KEYGEN below CUR (R546). -/
def State.mustReencrypt (s : State) (i lsn : Nat) (x : SecImg) : Bool :=
  mdValid x.md && (decide (mdKeygen x.md < (s.gen i).cur) || s.underOld i lsn x.md x.data)

/-- One sector of a re-encryption build. -/
def State.reencSec (s : State) (i lsn : Nat) (x : SecImg) : SecImg :=
  if !s.mustReencrypt i lsn x then x.forBand true
  else if mdPoison x.md then s.poisonSec (some i) (mdStrict x.md)
  else s.sealSec (some i) lsn 0 (s.gen i).cur (mdStrict x.md) (s.plainOf lsn x.md x.data)

/-- A re-encryption sense ends: the segment is rebuilt if a sector needs it. -/
def State.reencDone (s : State) (b : Bg) (i : Nat) : State :=
  let need (k : Nat) : Bool := !b.bad.contains k && s.mustReencrypt i (b.lseg * 16 + k) (b.imgs.getD k {})
  if !s.names b.lseg b.psa || !(List.range 16).any need then s
  else
    let secs := (List.range 16).map (fun k =>
      if b.bad.contains k then s.poisonSec (some i) false else s.reencSec i (b.lseg * 16 + k) (b.imgs.getD k {}))
    let n := ((List.range 16).filter need).length
    ((s.bumpBy Reg.CRY.SECTORS_ENC.ENC n).moved 21 true (256 * n)).joinBatch
      { lseg := b.lseg, group := none, secs, snap := none, cmp := some b.psa, region := some i, fresh := !b.bad.isEmpty }

/-! ### Parity rebuild (R189 to R191) -/

/-- What a segment that cannot be rebuilt raises and records (R190). -/
def State.rebuildLost (s : State) (lseg : Nat) : State :=
  ((s.raise Reg.XLT.INT_STATUS.SEG_POISONED).raiseRec Reg.DRV.INT_STATUS.REBUILD_FAIL sevError clsDevice 0 0 0 0).event 0 2 [lseg]

/-- A segment is set to POISONED (R190). -/
def State.poisonSeg (s : State) (lseg : Nat) : State := (((s.mapMove lseg { st := .poisoned }).ubMap lseg).scInvalidate lseg).rebuildLost lseg

/-- A PENDING segment of group slot `i` is set to POISONED: its entry in the group, with a GROUP_PEND record in place of the MAP_SET, for the committed entry stays as it is until the commit (R202). -/
def State.poisonPend (s : State) (i lseg psa : Nat) : State :=
  let e : MapE := { st := .poisoned }
  let x := s.group i
  (((s.setGroup i { x with pend := SMap.set (fun _ => ({} : MapE)) x.pend lseg e }).journal (jGroupPend i lseg e)).setRev psa { st := .stale, lseg }).rebuildLost lseg

/-- Row batch `i` of paddock `p` has been programmed on die position `pos`, so that the parity slot holds it. -/
def State.rowIn (s : State) (g p pos i : Nat) : Bool :=
  decide (i < (s.pad g p).next) && !((s.gang g).placed.any (fun x => decide (x.paddock = p) && decide (x.row = i)) && decide ((s.rota g).pos ≤ pos))

/-- The chunk at `pos` that the parity slot and the other rows of the tile give for fragment `f`, sector `k` of row `j` (R190): of rows that the rebuild decoded, as corrected. -/
def State.parityChunk (s : State) (r : Rebuild) (slot f k pos : Nat) : Chunk :=
  let p := r.paddock
  let chunk (i : Nat) : Chunk := match r.got.find? (fun e => e.1 = 16 * i + f) with
    | some e => (encodeStripe (e.2.getD k {})).getD pos 0
    | none => s.chunk (psaOf r.gang p (16 * i + f)) k pos
  ((List.range 85).filter (fun i => decide (i % 16 = r.row % 16) && s.rowIn r.gang p pos i && !r.lost.any (fun e => decide (e.1 / 16 = i)))).foldl (fun acc i => acc ^^^ chunk i)
    (SMap.get (fun _ => 0) s.xlt.parity (parityKey slot pos (rowTile (85 * (p % 3) + r.row)) f k))

/-- Segment `n` of the one lost row, decoded with the chunks of the failing die, or where a verify found it of every die, taken from parity; what the attempts count, and the images if every stripe decodes. -/
def State.rebuildSeg (s : State) (r : Rebuild) (slot n : Nat) (x : Sensed) : Option (List SecImg) × State :=
  let g := r.gang
  let psa := psaOf g r.paddock n
  let er := s.failedOf g
  let ps := (match r.pos with | some p => [p] | none => List.range 20).filter (fun p => !er.contains p)
  let c : Sensing := { psa, lseg := (s.revOf psa).lseg, bank := s.activeBank g, bin := 0, classes := s.classesOf g, er, who := .drover, cls := clsDevice, track := none }
  (List.range 16).foldl (fun (acc : Option (List SecImg) × State) k =>
    let rx := ps.foldl (fun l i => l.set i (s.parityChunk r slot (n % 16) k i)) (s.received psa k er x)
    let a := s.outcome c k rx er
    (match acc.1 with | some l => if a.out.ok then some (l ++ [{ data := dataOf a.cor, md := a.cor.getD 16 0 }]) else none | none => none, acc.2.secCounts g a)) (some [], s)

/-- A rebuilt segment goes into Caldera again: a LIVE one as a rewrite, a PENDING one in its group, unless a newer build of it is in flight. One that cannot be rebuilt is POISONED. -/
def State.afterRebuild (s : State) (psa : Nat) (imgs : Option (List SecImg)) : State :=
  let e := s.revOf psa
  let slots := (s.xlt.groups.filter (fun x => decide (SMap.get (fun _ => ({} : MapE)) x.2.pend e.lseg = { st := .caldera, psa }))).map (fun x => x.1)
  match e.st, imgs with
  | .live, some l =>
    if s.names e.lseg psa && !s.segBuilding e.lseg then
      s.joinBatch { lseg := e.lseg, group := none, secs := s.copyImgs e.lseg l [] true, snap := none, cmp := some psa, region := none, fresh := false }
    else s.queueRewrite e.lseg psa []
  | .live, none => if s.names e.lseg psa then s.poisonSeg e.lseg else s
  | .pending, some l =>
    s.each slots (fun s i =>
      if s.anyBuild (fun b => decide (b.lseg = e.lseg) && decide (b.group = some i) && !b.dropped) then s
      else s.joinBatch { lseg := e.lseg, group := some i, secs := s.copyImgs e.lseg l [] true, snap := none, cmp := none, region := none, fresh := false })
  | .pending, none => s.each slots (fun s i => s.poisonPend i e.lseg psa)
  | _, _ => s

/-- A segment that decoded is queued for rewrite (R190). -/
def State.rebuiltOk (s : State) (psa : Nat) (imgs : List SecImg) : State :=
  let e := s.revOf psa
  if e.st = .live then s.queueRewrite e.lseg psa [] else if e.st = .pending then s.afterRebuild psa (some imgs) else s

/-- Every segment of a rebuild has been judged (R190): what decoded is queued for rewrite; where just one row of the tile could not be decoded it is rebuilt from the parity slot; what cannot be is POISONED. -/
def State.rebuildEnd (s : State) (r : Rebuild) : State :=
  let s1 := ((s.onXlt (fun t => { t with rebuilds := t.rebuilds.filter (fun y => y.id ≠ r.id) })).bump (Reg.DRV.REBUILDS.REBUILDS r.gang)).raise Reg.DRV.INT_STATUS.REBUILD
  let s2 := s1.each r.got (fun s e => s.rebuiltOk (psaOf r.gang r.paddock e.1) e.2)
  let pad := s.pad r.gang r.paddock
  let slot := if (r.lost.map (fun e => e.1 / 16)).eraseDups.length = 1 && !pad.parBad then pad.slot else none
  s2.each r.lost (fun s e =>
    let psa := psaOf r.gang r.paddock e.1
    match slot with
    | some i => let x := s.rebuildSeg r i e.1 e.2; x.2.afterRebuild psa x.1
    | none => s.afterRebuild psa none)

/-- Segment `n` has been decoded, or not, for the rebuild with number `id`. -/
def State.rebuildTook (s : State) (b : Bg) (id n : Nat) : State :=
  let s1 := s.onXlt (fun t => { t with rebuilds := t.rebuilds.map (fun r =>
    if r.id = id then (if b.fails.isEmpty then { r with left := r.left - 1, got := r.got ++ [(n, b.imgs)] } else { r with left := r.left - 1, lost := r.lost ++ [(n, b.last)] })
    else r) })
  match s1.xlt.rebuilds.find? (fun r => r.id = id) with
  | some r => if r.left = 0 then s1.rebuildEnd r else s1
  | none => s1

/-- Segment `n` of a paddock in verify fails it (R191): one that decodes is queued for rewrite, one that does not is rebuilt with the rows of its tile. -/
def State.padFail (s : State) (b : Bg) (p n : Nat) : State :=
  let g := psaGang b.psa
  if b.fails.isEmpty then s.rebuiltOk b.psa b.imgs
  else s.addRebuild g p none (n / 16) ((List.range (s.pad g p).next).filter (fun i => decide (i % 16 = n / 16 % 16))) [n % 16]

/-! ### What a background sense brings about -/

/-- A background sense and its decodes are over. -/
def State.bgDone (s0 : State) (b : Bg) : State :=
  let s := s0.endBg b.id
  let high := decide (s.appFld Reg.DRV.CTRL.VERIFY_THRESH ≤ b.syms) || !b.fails.isEmpty
  match b.work with
  | .shepherd => s.shepDone b
  | .oldRead i => s.onXlt (fun t => { t with snaps := t.snaps.map (fun x => if x.id = i then { x with old := some b.imgs, oldBad := b.bad } else x) })
  | .foldSource d n =>
    let secs := s.copyImgs b.lseg b.imgs b.bad false
    s.onGang d (fun x => { x with fold := { x.fold with segs := x.fold.segs.modify n (fun f => if f.src = b.psa then { f with secs, ready := true } else f) } })
  | .foldVerify d n =>
    s.onGang d (fun x => { x with fold := { x.fold with vdone := x.fold.vdone + 1, vfail := if high then x.fold.vfail ++ [n] else x.fold.vfail } })
  | .padVerify p n => if high then s.padFail b p n else s
  | .rebuild id n => s.rebuildTook b id n
  | .rewrite bad => s.rewriteDone b bad
  | .reencrypt i => s.reencDone b i

/-- A first attempt's decodes: done, or the second attempt waits for a B slot (R137). -/
def State.bgFinish (s : State) (b : Bg) (x : Sensed) : State :=
  let r := s.bgDecode b x
  if r.2.fails.isEmpty then r.1.bgDone r.2
  else r.1.onReads (fun t => { t with bg := t.bg.map (fun y => if y.id = b.id then { r.2 with failed := true, known := s.now + 50 } else y) })

/-- The background sense `id`, for a work that `p` accepts, has ended and its chunks have left the output latches (R93); its first decodes follow. -/
def State.bgComplete (s : State) (id : Nat) (x : Sensed) (p : BgWork → Bool) : State :=
  match s.bgOf id with
  | some b => if p b.work && !b.failed && decide (b.ready ≤ s.now) then s.bgFinish b x else s
  | none => s

/-- SHEPHERD_VISIT (R141, R143): the sense of a visit ends and its segment is decoded. -/
def execShepherdVisit (id : Nat) (sensed : Sensed) (phase : Nat) (s : State) : Res :=
  .next ((s.at_ phase).bgComplete id sensed (fun w => w = .shepherd))

/-- OLD_SEGMENT_READ (R178, R548): the old segment of a snapshot has been sensed. -/
def execOldSegmentRead (id : Nat) (sensed : Sensed) (phase : Nat) (s : State) : Res :=
  .next ((s.at_ phase).bgComplete id sensed (fun w => match w with | .oldRead _ => true | _ => false))

/-- FOLD_SOURCE_READ (R185): a fold source has been sensed; its images enter the buffers. -/
def execFoldSourceRead (id : Nat) (sensed : Sensed) (phase : Nat) (s : State) : Res :=
  .next ((s.at_ phase).bgComplete id sensed (fun w => match w with | .foldSource _ _ => true | _ => false))

/-- FOLD_VERIFY (R186): a segment of a programmed fold band has been sensed and is judged. -/
def execFoldVerify (id : Nat) (sensed : Sensed) (phase : Nat) (s : State) : Res :=
  .next ((s.at_ phase).bgComplete id sensed (fun w => match w with | .foldVerify _ _ => true | _ => false))

/-- REWRITE (R140, R546): a segment queued for rewrite, or one that a re-encryption pass examines, has been sensed; its copy goes to Caldera. -/
def execRewrite (id : Nat) (sensed : Sensed) (phase : Nat) (s : State) : Res :=
  .next ((s.at_ phase).bgComplete id sensed (fun w => match w with | .rewrite _ | .reencrypt _ => true | _ => false))

/-- A verified paddock closes (R191): the parity slot is released, PADDOCK_CLOSE is journaled. -/
def State.padClose (s : State) (g : Nat) (v : PadVer) : State :=
  let p := v.paddock
  let s1 := s.onGang g (fun x => { x with padVer := none })
  let s2 := ((s1.setPad g p { s1.pad g p with st := .closed, slot := none }).journal (jPadClose g p)).raise Reg.CAL.INT_STATUS.PADDOCK_CLOSED
  let s3 := s2.releaseEmpty g (p / 3)
  s3.each s3.gangIds State.openNext

/-- The verify of the gang's paddock has judged every segment, and no rebuild of it is left. -/
def State.padJudged (s : State) (g : Nat) (v : PadVer) : Bool :=
  (s.padSlot g v.paddock v.next).isNone && !s.xlt.rebuilds.any (fun r => decide (r.gang = g) && decide (r.paddock = v.paddock)) &&
    !s.anyBg (fun b => match b.work with | .padVerify p _ => decide (p = v.paddock) && decide (psaGang b.psa = g) | _ => false)

/-- The parity rebuild and the verify that the work of a background sense may end: with nothing left to judge the paddock closes. -/
def State.afterBg (s : State) (g : Nat) : State :=
  match (s.gang g).padVer with
  | some v => if s.padJudged g v then s.padClose g v else s
  | none => s

/-- BACKGROUND_SECOND_ATTEMPT (R137, R138): a second sense in a B slot; its failures are lasting. It holds an engine and a latch until its chunks have left. -/
def execBackgroundSecondAttempt (id : Nat) (sensed : Sensed) (phase : Nat) (s : State) : Res :=
  let s0 := s.at_ phase
  .next (match s0.bgOf id with
    | some b =>
      let g := psaGang b.psa
      if b.failed && decide (b.known ≤ s0.now) && s0.atB g && decide (s0.levelNow < 2) && decide (s0.bgHeld g ≤ 16) && !s0.crossesTurn g b.psa then
        let b1 := { b with er := ((match b.work with | .rebuild n _ => s0.rebuildPos n | _ => []) ++ s0.leftOut g).eraseDups, progDies := (b.progDies ++ (s0.progNow g).toList).eraseDups, start := s0.now }
        let c := s0.bgCommands b1
        let s1 := c.2.onReads (fun x => { x with second := x.second.filter (fun e => decide (s0.now < e.2.2)) ++ [(g, b1.bank, c.1)] })
        let r := (s1.senseBytes b.psa b1.er 16).bgDecode2 b1 sensed
        (r.1.bgDone r.2).afterBg g
      else s0
    | none => s0)

/-- PADDOCK_VERIFY (R191): a segment of the FULL paddock in verify has been sensed and is judged; after the last one the paddock closes. -/
def execPaddockVerify (gang id : Nat) (sensed : Sensed) (phase : Nat) (s : State) : Res :=
  .next (((s.at_ phase).bgComplete id sensed (fun w => match w with | .padVerify _ _ => true | _ => false)).afterBg gang)

/-- PARITY_REBUILD (R190): a row's segment of the tile under rebuild has been sensed and decoded with the failing die as an erasure; after the last one the tile's rows are rebuilt. -/
def execParityRebuild (ended : Timed BgEnd) (s : State) : Res :=
  let s1 := (s.at_ ended.phase).bgComplete ended.what.id ended.what.sensed (fun w => match w with | .rebuild _ _ => true | _ => false)
  .next (s1.each s1.gangIds State.afterBg)

/-! ### Closing and building segments (R177, R178, R542 to R545, R548) -/

/-- STAGE_AGE as applied. -/
def State.stageAge (s : State) : Nat := s.appFld Reg.CAL.STAGE_AGE.STAGE_AGE

/-- SEGMENT_CLOSE (R177): STAGE_AGE bells have passed since the segment's last write. While staging is drained no age is waited for (R46, R675). Log entry 24. -/
def execSegmentClose (lseg : Nat) (group : Timed (Option Nat)) (s : State) : Res :=
  let s0 := s.at_ group.phase
  .next (if s0.working && !(s0.segLines lseg group.what).isEmpty && (s0.draining || decide (s0.lastWrite (lseg, group.what) + 4096 * s0.stageAge ≤ s0.now)) then
    s0.closeSeg lseg group.what
  else s0)

/-- What a build knows of the old sector `k` (R542): its symbol and whether it lies under the previous key; a lasting fault counts as a POISON sector. -/
def State.oldMd (s : State) (x : Snap) (k : Nat) : Option (Chunk × Bool) :=
  match x.old with
  | some imgs =>
    if x.oldBad.contains k then some ((s.poisonSec (s.regionOfSeg x.lseg) false).md, false)
    else
      let i := imgs.getD k {}
      some (i.md, match s.regionOfSeg x.lseg with
        | some r => (s.region r).keyed && mdValid i.md && s.underOld r (x.lseg * 16 + k) i.md i.data
        | none => false)
  | none => none

/-- The build writes sector `k`. -/
def Snap.writes (x : Snap) (k : Nat) : Bool := let n := x.written k; decide (n.1 + n.2 ≠ 0)

/-- A staged line of sector `k` was lost to a lasting word of the staging bank (R747). -/
def Snap.lostAt (x : Snap) (k : Nat) : Bool := (List.range 4).any (fun i => (SMap.get (fun _ => ({} : StLine)) x.lines (4 * k + i)).lost)

/-- Sector `k` cannot be merged: a staged line of it was lost, its old copy failed, is POISON, or its segment is POISONED (R168, R548, R747). -/
def State.unmergeable (s : State) (x : Snap) (e : MapE) (k : Nat) : Bool :=
  x.lostAt k || x.partly k && (decide (e.st = .poisoned) || x.oldBad.contains k ||
    (match s.oldMd x k with | some (m, _) => mdValid m && mdPoison m | none => false))

/-- Sector `k` needs an advance that its region has not had (R542, R543). -/
def State.needsAdvance (s : State) (x : Snap) (e : MapE) (k : Nat) : Bool :=
  x.writes k && !s.unmergeable x e k &&
    ((s.versionFor (s.regionOfSeg x.lseg) (s.oldMd x k)).isNone ||
      (decide (e.st = .poisoned) && x.adv.isNone && s.segKeyed x.lseg))

/-- The plaintext of a sector with its staged lines. -/
def State.mergedSec (s : State) (x : Snap) (k : Nat) : SectorData :=
  let base := match x.old with
    | some imgs => let i := imgs.getD k {}; if mdValid i.md then s.plainOf (x.lseg * 16 + k) i.md i.data else 0
    | none => 0
  (List.range 4).foldl (fun d i =>
    let l := SMap.get (fun _ => ({} : StLine)) x.lines (4 * k + i)
    sectorPut d i (mergeLine (sectorLine d i) l.data l.mask)) base

/-- The write of sector `k` was checked (R549). -/
def Snap.strictAt (x : Snap) (k : Nat) : Bool := (List.range 4).any (fun i => (SMap.get (fun _ => ({} : StLine)) x.lines (4 * k + i)).strict)

/-- Sector `k` as it is built, and the code of the record it asks for, 0 for none (R178, R544, R548). -/
def State.buildSec (s : State) (x : Snap) (e : MapE) (k : Nat) : SecImg × Nat :=
  let r := s.regionOfSeg x.lseg
  if !x.writes k then
    (match e.st with
     | .unmapped => ({}, 0)
     | .poisoned => (s.poisonSec r false, 0)
     | _ => if x.oldBad.contains k then (s.poisonSec r false, 0) else (((x.old.getD []).getD k {}).forBand true, 0))
  else if s.unmergeable x e k then (s.poisonSec r (x.strictAt k), 0x42)
  else if s.needsAdvance x e k then (s.poisonSec r (x.strictAt k), 0x40)
  else match s.versionFor r (s.oldMd x k) with
    | some (v, g) => (s.sealSec r (x.lseg * 16 + k) v g (x.strictAt k) (s.mergedSec x k), 0)
    | none => (s.poisonSec r (x.strictAt k), 0x40)

/-- The record and event of a sector stored poisoned by a build (R544, R548). -/
def State.poisonRecord (s : State) (lseg k code : Nat) : State :=
  if code = 0 then s
  else
    let lsn := lseg * 16 + k
    (s.reportCode sevError (0x2200 + code) ((s.regionOfSeg lseg).getD 0) (lsn % 2 ^ 32) (lsn / 2 ^ 32) 0).event 0 2 [lseg, k, code]

/-- REKEY_REQUIRED is set (R544). -/
def State.rekeyNeeded (s : State) (i : Nat) : State :=
  if (s.gen i).rekeyReq then s else (s.setGen i { s.gen i with rekeyReq := true }).raiseRec Reg.RGN.INT_STATUS.REKEY_REQUIRED sevWarn clsDevice i 0 0 0

/-- A build at CUR 255 has written a sector at version 0xFF00 or above (R544). -/
def State.rekeyCheck (s : State) (lseg : Nat) (imgs : List SecImg) : State :=
  match s.regionOfSeg lseg with
  | some i =>
    if (s.region i).keyed && decide ((s.gen i).cur = 255) && imgs.any (fun m => mdValid m.md && decide (0xFF00 ≤ mdVersion m.md)) then s.rekeyNeeded i else s
  | none => s

/-- The build of a snapshot over the map entry `e`: 16 sectors, records, counters, and the segment joins a row batch. -/
def State.buildSnap (s : State) (x : Snap) (e : MapE) : State :=
  let secs := (List.range 16).map (fun k => s.buildSec x e k)
  let s1 := s.each ((List.range 16).zip (secs.map (fun p => p.2))) (fun s p => s.poisonRecord x.lseg p.1 p.2)
  let n := if s.segKeyed x.lseg then ((List.range 16).filter (fun k => x.writes k)).length else 0
  let imgs := secs.map (fun p => p.1)
  let s2 := (((s1.bumpBy Reg.CRY.SECTORS_ENC.ENC n).moved 21 true (256 * n)).moved 19 false (64 * x.lines.length)).rekeyCheck x.lseg imgs
  let s3 := ((s2.bump Reg.DRV.HOST_SEGS.HOST_SEGS).ev 0x33 none none 1).onXlt (fun t => { t with
    snaps := t.snaps.map (fun y => if y.id = x.id then { y with st := .built } else y) })
  s3.joinBatch { lseg := x.lseg, group := x.group, secs := imgs, snap := some x.id, cmp := none, region := none }

/-- An older snapshot of the segment waits to be built, a background sense reads the segment for a build, or it is being built in another group. -/
def State.buildBlocked (s : State) (x : Snap) : Bool :=
  s.otherBuild x || !s.firstSnap x || s.anyBg (fun b => decide (b.lseg = x.lseg) && b.builds)

/-- A snapshot with the old sectors that its build starts from, and the map entry that it replaces: those of a build that is still to be mapped, else what was read (R46, R178). -/
def State.buildFrom (s : State) (x : Snap) : Snap × MapE :=
  match s.priorBuild x with
  | some b => ({ x with old := some b.secs, oldBad := [] }, { st := .caldera })
  | none => (x, s.oldEntry x)

/-- The advance that a build asked for has not taken effect yet (R543). -/
def State.advWaits (s : State) (x : Snap) : Bool :=
  match x.adv, s.regionOfSeg x.lseg with
  | some c, some i => decide ((s.gen i).cur ≤ c) && decide ((s.gen i).cur < 255) && decide (0 < (s.gen i).advancing)
  | _, _ => false

/-- SEGMENT_BUILD (R178): a closed segment whose old copy has been read is built; a build that meets a sector at version 0xFFFF, or a POISONED segment, first asks for an advance and waits for it (R542, R543). -/
def execSegmentBuild (id : Nat) (s : State) : Res :=
  .next (match s.xlt.snaps.find? (fun x => x.id = id) with
    | some y =>
      let x := (s.buildFrom y).1
      let e := (s.buildFrom y).2
      if !s.working || x.st ≠ .waiting || (e.placed && x.old.isNone) || s.buildBlocked x || s.advWaits x then s
      else if x.adv.isNone && (List.range 16).any (fun k => s.needsAdvance x e k) then
        match s.regionOfSeg x.lseg with
        | some i =>
          let s1 := (s.advance i).onXlt (fun t => { t with snaps := t.snaps.map (fun y => if y.id = id then { y with adv := some (s.gen i).cur } else y) })
          if (s.gen i).cur = 255 then s1.buildSnap x e else s1
        | none => s.buildSnap x e
      else s.buildSnap x e
    | none => s)

/-- GEN_RESERVATION_DURABLE (R543): the new CUR is in the PNV and takes effect; a re-encryption pass starts, or restarts. -/
def execGenReservationDurable (region : Nat) (s : State) : Res :=
  let g := s.gen region
  .next (if 0 < g.advancing then
    let s1 := s.setGen region { g with cur := min (g.cur + 1) 255, advancing := g.advancing - 1 }
    let s2 := ((s1.bump Reg.RGN.GEN_ADVANCES.ADVANCES).raise Reg.RGN.INT_STATUS.GEN_ADVANCED).startPass region
    (s2.onPnv (fun p => { p with gens := s2.prot.gens })).nvWrite (.gens (region / 64))
  else s)

/-- ROW_BATCH_COMPLETE (R179): a short row batch that no segment has joined for STAGE_AGE bells is completed with empty slots; while staging is drained no age is waited for (R46). Log entry 24. -/
def execRowBatchComplete (gang : Timed Nat) (s : State) : Res :=
  let s0 := s.at_ gang.phase
  .next (match (s0.gang gang.what).batches.getLast? with
    | some b =>
      if s0.working && !b.ready && (s0.draining || decide (b.joined + 4096 * s0.stageAge ≤ s0.now)) then
        s0.onGang gang.what (fun x => { x with batches := x.batches.dropLast ++ [{ b with ready := true }] })
      else s0
    | none => s0)

/-! ### The end of a fold (R186, R187, R196) -/

/-- The live user segments of gang `g`; those of the system area name no logical segment (R170). -/
def State.liveIn (s : State) (g : Nat) : Nat := ((s.revGang g).filter (fun e => decide (e.2.st = .live) && decide (e.2.lseg ≠ 0x3FFFFFFF))).length

/-- The end of an evacuation (R196): with no live user segment left, EVAC_DONE, and the reductions of the gang's failed dies clear. -/
def State.evacCheck (s : State) (g : Nat) : State :=
  if s.evacuating g && decide (s.liveIn g = 0) && (s.failedOf g).any (fun i => s.dev.reduced.contains (dieNo g i)) then
    (s.raise Reg.DRV.INT_STATUS.EVAC_DONE).restore (fun r => decide (r < 40) && decide (dieGang r = g))
  else s

/-- One segment of a verified fold band is switched (R186, R187). -/
def State.foldSeg (s : State) (g b n : Nat) (f : FoldSeg) (fail : Bool) : State :=
  let psa := psaOfTlcSlot g b n
  if !fail && s.names f.lseg f.src then (s.mapMove f.lseg { st := .tlc, psa }).ubMap f.lseg
  else
    let s1 := s.setRev psa { st := .stale, lseg := f.lseg }
    if fail then s1.onGang g (fun x => { x with fold := { x.fold with retry := x.fold.retry ++ [f.src] } }) else s1

/-- The journal tail has room for `n` more records (R199). -/
def State.tailRoom (s : State) (n : Nat) : Bool := decide (s.xlt.tail.length + (n + 254) / 255 ≤ 256)

/-- The fold of gang `g` without the band whose verify is over; the next one that waits enters verify. -/
def State.nextVerify (s : State) (g : Nat) : State :=
  s.onGang g (fun x => { x with fold := match x.fold.vwait with
    | (b, segs, e) :: rest => { x.fold with vband := some b, vsegs := segs, vepoch := e, vnext := 0, vdone := 0, vfail := [], vwait := rest }
    | [] => { x.fold with vband := none, vsegs := [], vnext := 0, vdone := 0, vfail := [] } })

/-- FOLD_SWITCH (R186, R187): every segment has been judged, the update buffer has its reserve and the journal tail room for the records: the passing ones are mapped to TLC and the band closes. -/
def execFoldSwitch (gang : Nat) (s : State) : Res :=
  let f := (s.gang gang).fold
  .next (match f.vband with
    | some b =>
      if f.vdone = f.vsegs.length && decide (f.vnext = f.vsegs.length) && s.ubReserve && s.tailRoom (f.vsegs.length + 1) then
        let s1 := s.each f.vsegs.zipIdx (fun s e => s.foldSeg gang b e.2 e.1 (f.vfail.contains e.2))
        let strike := decide (64 ≤ f.vfail.length)
        let s2 := (s1.setBand gang b { s1.band gang b with st := .tlcClosed, epoch := f.vepoch, strikes := (s1.band gang b).strikes + b2n strike }).journal
          (jBand 0x07 gang b f.vepoch)
        let s3 := (s2.bump (Reg.DRV.FOLDS.FOLDS gang)).raise Reg.DRV.INT_STATUS.FOLD_DONE
        let s4 := if strike then (s3.bump (Reg.DRV.STRIKES.STRIKES gang)).raise Reg.DRV.INT_STATUS.VERIFY_FAIL else s3
        let s5 := if (s4.band gang b).live = 0 then s4.releaseBand gang b else s4
        let s6 := s5.nextVerify gang
        s6.each s6.gangIds State.evacCheck
      else s
    | none => s)

/-! ### The journal (R199) -/

/-- The row batch of journal copy `c` with the blocks `seqs` joins the queue of its gang; false where there is no room. DESIGN CHOICE (log entry 108): a gang that takes no program turns gets none, and the
other copy alone holds the blocks. -/
def State.queueCopy (s : State) (c : Nat) (seqs : List Nat) : Bool × State :=
  let g := match s.variant with | .v35A => c | .v17A => 0
  if s.writable.contains g then s.sysQueue g (.journal c seqs)
  else (true, (s.onXlt (fun t => { t with tail := t.tail.map (fun b => if seqs.contains b.seq then (if c = 0 then { b with done0 := true } else { b with done1 := true }) else b) })).blocksMove)

/-- JOURNAL_WRITE (R199): 16 complete blocks of the tail become a row batch of each journal copy, which a rotation programs (R180). Under write-through the rotations take them by themselves (R46). -/
def execJournalWrite (s : State) : Res :=
  let seqs := ((s.xlt.tail.filter (fun b => b.closed && !b.queued)).take 16).map (fun b => b.seq)
  .next (if s.working && seqs.length = 16 && !s.draining && !s.writable.isEmpty then
    let a := s.queueCopy 0 seqs
    let b := a.2.queueCopy 1 seqs
    if a.1 && b.1 then b.2.onXlt (fun t => { t with tail := t.tail.map (fun x => if seqs.contains x.seq then { x with queued := true } else x) }) else s
  else s)

/-! ### The end of a re-encryption pass (R546, R547) -/

/-- The keyed regions bound to slot `k`. -/
def State.boundTo (s : State) (k : Nat) : List Nat := (s.prot.regions.filter (fun e => e.2.keyed && decide (e.2.keyid = k))).map (fun e => e.1)

/-- The previous key of a REKEYING slot goes once every bound region has completed its pass (R547). -/
def State.retireOld (s : State) (k : Nat) : State :=
  let rs := (s.boundTo k).filter (fun i => (s.gen i).oldValid)
  if (s.slot k).st = 2 && rs.all (fun i => !(s.gen i).passActive) then
    let s1 := (s.each rs (fun s i => s.setGen i { s.gen i with oldValid := false, oldCur := 0, oldLow := 0 })).setSlot k { s.slot k with st := 1, prev := 0 }
    let s2 := s1.onPnv (fun p => { p with gens := s1.prot.gens, keys := if (s1.slot k).persisted then SMap.set (fun _ => {}) p.keys k (s1.slot k) else p.keys })
    s2.raise Reg.KEY.INT_STATUS.REKEY_DONE
  else s

/-- The walk of region `i` has passed its last segment, and every build it queued is applied or dropped (R546). -/
def State.passOver (s : State) (i : Nat) : Bool :=
  (s.passNext i).isNone && !s.anyBg (fun b => b.work = .reencrypt i) && !s.anyBuild (fun b => decide (b.region = some i) && !b.dropped)

/-- REENCRYPTION_PASS_END (R546): FLOOR becomes the target; the pass restarts if CUR moved, else it ends. -/
def execReencryptionPassEnd (region : Nat) (s : State) : Res :=
  let g := s.gen region
  .next (if g.passActive && decide (s.passRegion = some region) && s.serving && s.passOver region then
    let s1 := s.setGen region { g with low := g.passTarget }
    let s2 := if g.passTarget < g.cur then s1.startPass region
      else ((s1.setGen region { s1.gen region with passActive := false, passPos := (s.region region).last * 4096 + 4096 }).raise Reg.RGN.INT_STATUS.PASS_DONE).retireOld
        (s.region region).keyid
    s2.onPnv (fun p => { p with gens := s2.prot.gens })
  else s)

end Sys2Proof.Machine
end

