-- ==== Sys2Proof/Machine/Keys.lean ====
section
/-! DEFINITION. KEY operations (R535 to R538, R547, R619), the causes of an Eruption as commands, and recovery from one (R556 to R559). -/

namespace Sys2Proof.Machine

/-! ### Blobs (R536) -/

/-- Every WRAP register has been written since the last operation completed. -/
def State.wrapFull (s : State) : Bool := (List.range 12).all (fun n => (SMap.get (fun _ => none) s.prot.wrap n).isSome)

/-- The 48 bytes of the blob. -/
def State.wrapBytes (s : State) : List Nat := (List.range 12).flatMap (fun n => bytesBe 4 ((SMap.get (fun _ => none) s.prot.wrap n).getD 0).toNat)

/-- The blob unwrapped under KEK; none once the RMA seal has disabled ROOT (R560). -/
def State.wrapOpen (s : State) : Option (BitVec 320) := if s.pnv.sealed then none else Config.unwrap kek (BitVec.ofNat 384 (ofBytesLe s.wrapBytes))

/-- Title key and LABEL of unwrapped bytes, none where FORMAT, slot number or a zero byte is wrong. -/
def blobKey (slot : Nat) (x : BitVec 320) : Option (BitVec 256 × Nat) :=
  let b := bytesLe 40 x.toNat
  if b.getD 32 0 = 1 && b.getD 33 0 = slot && allZero (slice b 36 39) then some (x.setWidth 256, ofBytesBe (slice b 34 35)) else none

/-! ### Starting an operation (R537) -/

/-- Slot `k` as it will be at the next bell boundary. -/
def State.nextSlot (s : State) (k : Nat) : KeySlot :=
  match (s.prot.due.filter (fun d => decide (d.2.1 = k))).getLast? with
  | some d => d.2.2
  | none => s.slot k

/-- A mounted cartridge holds slot `k` (R619). -/
def State.cartHolds (s : State) (k : Nat) : Bool := (s.cartMounted 0 && decide (s.cartKeyid 0 = k)) || (s.cartMounted 1 && decide (s.cartKeyid 1 = k))

/-- RESULT of a check of the slot state, and the slot afterwards. -/
def State.keyEffect (s : State) (op k : Nat) (persist : Bool) (key : BitVec 256) (label : Nat) : Nat × KeySlot :=
  let x := s.nextSlot k
  if op = 1 then (if x.st = 0 then (0, { st := 1, key, label, persisted := persist }) else (3, x))
  else if s.cartHolds k then (4, x)
  else if op = 2 then (if x.st = 0 then (4, x) else if x.st = 2 then (5, x) else (0, { st := 2, key, prev := x.key, label, persisted := persist }))
  else (if x.st = 1 then (0, {}) else (4, x))

/-- While an Eruption runs the operation fails with RESULT 7 (R558); otherwise the checks of R537 in order: RESULT, the slot afterwards, and the state after what a failed check raises. -/
def State.keyCheck (s : State) (op k : Nat) (persist : Bool) : Nat × KeySlot × State :=
  if s.flag Reg.ALM.STATUS.ZEROISING then (7, {}, s)
  else if k = 0 then (2, {}, s)
  else if op = 3 then (let e := s.keyEffect 3 k persist 0 0; (e.1, e.2, s))
  else if !s.wrapFull then (6, {}, s)
  else match s.wrapOpen with
    | none => (1, {}, ((s.bump Reg.KEY.UNWRAP_FAILS.FAILS).raise Reg.KEY.INT_STATUS.UNWRAP_FAIL).tremor 3 clsDevice)
    | some x =>
      match blobKey k x with
      | none => (2, {}, s)
      | some b => (let e := s.keyEffect op k persist b.1 b.2; (e.1, e.2, s))

/-- A write of KEY.OP (R537, R569): GUARD 0xC3; while an operation is in progress the write is ignored. -/
def State.keyCtrl (s : State) (src : Source) (w : Nat) : State :=
  if guardOf w ≠ 0xC3 then s.cfgErr 0x21 4 src.code 0x70 w
  else if s.flag Reg.KEY.OP_STATUS.BUSY then s.cfgErr 0x21 6 src.code 0x70 w
  else if bitsOf w 31 30 = 0 then s
  else
    let op := bitsOf w 31 30
    let k := bitsOf w 5 0
    let c := s.keyCheck op k (bitOf w 29)
    let s1 := if bitOf w 29 && decide (c.1 = 0) && decide (op ≠ 3) then c.2.2.onPnv (fun p => { p with inst := some (k, c.2.1) }) else c.2.2
    ((s1.onProt (fun p => { p with op := some { op, slot := k, persist := bitOf w 29, result := c.1, after := c.2.1 } })).setFlag Reg.KEY.OP_STATUS.BUSY true).setFld
      Reg.KEY.OP_STATUS.SLOT k

/-- What a completed operation has written to the wrapped-key cache (R538), CK first. -/
def State.keyCache (s : State) (o : KeyOp) : State :=
  if o.persist && decide (o.op ≠ 3) then
    let s1 := if s.pnv.ck then s else (s.draw 256).2
    ((s1.onPnv (fun p => { p with ck := true, keys := SMap.set (fun _ => {}) p.keys o.slot o.after, inst := none })).nvWrite .ck).nvWrite (.slot o.slot)
  else if SMap.get (fun _ => ({} : KeySlot)) s.pnv.keys o.slot = {} then s
  else (s.onPnv (fun p => { p with keys := SMap.set (fun _ => {}) p.keys o.slot {} })).nvWrite (.slot o.slot)

/-- Generation state of a region once a REKEY of its slot takes effect (R547). -/
def GenSt.rekeyed (g : GenSt) : GenSt := { g with oldLow := g.low, oldCur := g.cur, oldValid := true, cur := 0, low := 0, rekeyReq := false }

/-- What a REKEY writes to the generation table before it completes, under the intent record of its slot's page (R547, R759). -/
def State.rekeyTable (s : State) (o : KeyOp) : State :=
  if o.op ≠ 2 then s
  else
    let rs := s.boundTo o.slot
    let s1 := s.onPnv (fun p => { p.nextIntent with gens := rs.foldl (fun m i => SMap.set (fun _ => {}) m i (s.gen i).rekeyed) p.gens })
    s1.each ((rs.map (fun i => i / 64)).eraseDups) (fun s n => s.nvWrite (.gens n))

/-- KEY_OP_COMPLETE (R537, R538): the cache page is durable; the change takes effect at the next bell boundary. -/
def execKeyOpComplete (s : State) : Res :=
  .next (match s.prot.op with
    | some o =>
      let s1 := ((s.onProt (fun p => { p with op := none, wrap := [] })).setFlag Reg.KEY.OP_STATUS.BUSY false).setFld Reg.KEY.OP_STATUS.RESULT o.result
      if o.result = 0 then (((s1.keyCache o).rekeyTable o).onProt (fun p => { p with due := p.due ++ [(o.op, o.slot, o.after)] })).raise Reg.KEY.INT_STATUS.OP_DONE
      else s1.raise Reg.KEY.INT_STATUS.OP_REFUSED
    | none => s)

/-! ### The bell boundary (R537, R547) -/

/-- REKEY of a slot takes effect in a region bound to it. -/
def State.rekeyRegion (s : State) (i : Nat) : State :=
  let g := s.gen i
  let s1 := (s.setGen i g.rekeyed).startPass i
  s1.onPnv (fun p => { p with gens := s1.prot.gens })

/-- One due change of a slot. -/
def State.keyDue (s : State) (d : Nat × Nat × KeySlot) : State :=
  let old := s.slot d.2.1
  let s1 := s.setSlot d.2.1 d.2.2
  if d.1 = 2 then (s1.each (s1.boundTo d.2.1) State.rekeyRegion).retireOld d.2.1
  else if d.1 = 3 then s1.onProt (fun p => { p with removed := SMap.set (fun _ => {}) p.removed d.2.1 old })
  else s1

/-- A line accepted under KeyID `k` is still staged or unbuilt, or a read accepted under it is in flight (R537). -/
def State.keyWaits (s : State) (k : Nat) : Bool :=
  s.reads.list.any (fun r => decide (r.keyid = k)) ||
  s.xlt.staged.any (fun e => decide (e.2.keyid = k)) || s.xlt.snaps.any (fun x => x.lines.any (fun e => decide (e.2.keyid = k)))

/-- Due changes take effect; removed keys that no build needs any more are zeroised. -/
def State.keysDue (s : State) : State :=
  let d := s.prot.due
  let s1 := (s.onProt (fun p => { p with due := [] })).each d State.keyDue
  if s1.prot.removed.isEmpty then s1 else s1.onProt (fun p => { p with removed := p.removed.filter (fun e => s1.keyWaits e.1) })

/-! ### Causes of an Eruption (R556, R557) -/

/-- TAMPER_MESH (R556 bit 0, R557): watched while VIN is present. -/
def execTamperMesh (s : State) : Res := .next (if s.pwr.vin then s.erupt 0x01 else s)

/-- TAMPER_N_LOW (R556 bit 1): an armed input. -/
def execTamperNLow (input : Nat) (s : State) : Res :=
  .next (if s.pwr.vin && decide (input < 4) && bitOf (s.fld Reg.ALM.CFG.TAMPER_EN) input then s.erupt 0x02 else s)

/-- CORE_SUPPLY_FAULT (R556 bit 2): while the core rail is on. -/
def execCoreSupplyFault (s : State) : Res := .next (if s.pwr.rails.contains .vddCore then s.erupt 0x04 else s)

/-- CLOCK_FAULT (R556 bit 3): while the PLL is locked. -/
def execClockFault (s : State) : Res := .next (if s.flag Reg.BWT.CLK_STATUS.PLL_LOCKED then s.erupt 0x08 else s)

/-- A write of ALM.FORCE (R592): GUARD 0x3C. -/
def State.almForce (s : State) (src : Source) (w : Nat) : State :=
  if guardOf w ≠ 0x3C then s.cfgErr 0x23 4 src.code 0x58 w else if bitOf w 0 then s.erupt 0x80 else s

/-- ZEROISE_END (R556, R558): CK is erased and every cache page cleared, and the intent record is CLOSED. -/
def execZeroiseEnd (s : State) : Res :=
  .next (if s.flag Reg.ALM.STATUS.ZEROISING then
    ((s.setFlag Reg.ALM.STATUS.ZEROISING false).onPnv (fun p => { p with keys := [], ck := false, erasing := false })).nvFlush
  else s)

/-! ### Recovery (R559, R593 to R595) -/

/-- ASCII "ALMCLEAR". -/
def almclear : List Nat := [0x41, 0x4C, 0x4D, 0x43, 0x4C, 0x45, 0x41, 0x52]
/-- The 16 bytes of SERIAL0 to SERIAL3 (R600). -/
def serialBytes : List Nat := bytesBe 16 Config.serial.toNat

/-- The 32 bytes of the challenge in CHAL0 to CHAL7. -/
def State.almChal (s : State) : List Nat := (List.range 8).flatMap (fun n => bytesBe 4 (s.fld (Reg.ALM.CHAL.CHAL n)))
/-- The 132 signature bytes in RESP0 to RESP32. -/
def State.almResp (s : State) : List Nat := (List.range 33).flatMap (fun n => bytesBe 4 (SMap.get (fun _ => (0 : Word)) s.prot.resp n).toNat)

/-- A new challenge is drawn. -/
def State.newChallenge (s : State) : State :=
  let d := s.draw 256
  (d.2.each (List.range 8) (fun s n => s.setFld (Reg.ALM.CHAL.CHAL n) (d.1 / 2 ^ (32 * (7 - n)) % 2 ^ 32))).onProt (fun p => { p with challenge := true })

/-- The signature is verified, once for each challenge. -/
def State.verifyClear (s : State) : State :=
  let ok := s.prot.challenge && Config.customerSet && Config.ecdsaOk Config.customerKey (almclear ++ serialBytes ++ s.almChal) s.almResp
  let s1 := s.onProt (fun p => { p with challenge := false })
  if ok then
    let s2 := (s1.setFlag Reg.ALM.STATUS.ERUPTED false).onPnv (fun p => { p with erupted := false })
    (if s2.pnv.sealed then s2 else s2.setSlot 0 { st := 1, key := tk0, system := true }).setFld Reg.ALM.CLEAR_CTRL.RESULT 1
  else (s1.setFld Reg.ALM.CLEAR_CTRL.RESULT 2).tremor 6 clsDevice

/-- A write of ALM.CLEAR_CTRL (R593). -/
def State.clearCtrl (s : State) (w : Nat) : State :=
  let s1 := if bitOf w 31 then s.newChallenge else s
  if bitOf w 30 then s1.verifyClear else s1

end Sys2Proof.Machine
end

