-- ==== Sys2Proof/Machine/Link.lean ====
section
/-! DEFINITION. The host link (R418, R419, R421, R425, R431, R434, R437, R439, R445, R448, R501, R731): training, resets, Recovery, decoder commit, Global Persistent Flush, credits, configuration bits, violations. -/

namespace Sys2Proof.Machine

/-! ### Training (R418, R419, R731) -/

/-- The link may train: PERST_N is high, domain 46 is on, the device is neither in standby nor going down. -/
def State.linkCan (s : State) : Bool :=
  !s.link.perst && s.pwr.ctrlOn && !s.pwr.standby && decide (s.dev.st ≠ .vent) && decide (s.dev.st ≠ .seqDown) && decide (s.dev.st ≠ .off)

/-- The width that both ends can use: x16, x8 or x4. -/
def widthOf (w : Nat) : Nat := if 16 ≤ w then 16 else if 8 ≤ w then 8 else if 4 ≤ w then 4 else 0

/-- The link is in L0 at a rate and width, for what the partner offers. -/
def State.trained (s : State) (rate width : Nat) (flit : Bool) : State :=
  let r := min rate (s.fld Reg.HLK.LINK_CTRL.MAX_RATE)
  let w := widthOf (min width (s.fld Reg.HLK.LINK_CTRL.MAX_WIDTH))
  let cxl := decide (r = 6) || (decide (r = 5) && flit)
  let was := s.link.cxl
  let s1 := (((s.onLink (fun l => { l with up := true, cxl, recovery := false, retraining := false, pRate := rate, pWidth := width, pFlit := flit })).setFlag
    Reg.HLK.LINK_STATUS.UP true).setFlag Reg.HLK.LINK_STATUS.CXL cxl).setFld Reg.HLK.LINK_STATUS.RATE r
  let s2 := s1.setFld Reg.HLK.LINK_STATUS.WIDTH w
  let s3 := if cxl then (if was then s2 else s2.raise Reg.HLK.INT_STATUS.CXL_UP) else s2.reportCode sevNotice 0x1840 0 r w 0
  if r < s.fld Reg.HLK.LINK_CTRL.MAX_RATE || w < s.fld Reg.HLK.LINK_CTRL.MAX_WIDTH then s3.raise Reg.HLK.INT_STATUS.DOWNGRADE else s3

/-- LINK_UP (R418, R419, R731): the link reaches L0 with a partner that offers a rate (coded as RATE), lanes, and 256-byte flits or not. Narrower than x4 is no link. -/
def execLinkUp (rate width : Nat) (flit : Bool) (phase : Nat) (s : State) : Res :=
  let s0 := s.at_ phase
  .next (if s0.linkCan && !s0.link.up && decide (4 ≤ width) && decide (1 ≤ rate) && decide (rate ≤ 6) then
    ((s0.onLink (fun l => { l with drs := 64, ndr := 64 })).trained rate width flit).raise Reg.HLK.INT_STATUS.LINK_UP
  else s0)

/-- LINK_TRAINING_RETRY (R418): with no usable partner, training is tried again. -/
def execLinkTrainingRetry (s : State) : Res := .next (if s.linkCan && !s.link.up then s.emit .linkTrain else s)

/-! ### Resets (R437, R425) -/

/-- The HLK counters that a link reset clears. -/
def hlkCounters : List Nat :=
  [Reg.HLK.S2M_HELD.word, Reg.HLK.RECOVERIES.word, Reg.HLK.VIOL_MEM.word, Reg.HLK.VIOL_MEM2.word, Reg.HLK.VIOL_IO.word, Reg.HLK.VIOL_IO2.word,
   Reg.HLK.VIOL_MISC.word, Reg.HLK.INGRESS_WAIT.word]

/-- Reads in flight after a link reset: host reads are discarded, a STRICT check goes on and its Cmp is not sent. -/
def Rd.muted (r : Rd) : Option Rd :=
  match r.who with
  | .host _ => none
  | .strict _ d m => some { r with who := .strict 65536 d m }
  | .stream _ _ => some r

/-- The decoder is not committed (R425). -/
def State.uncommit (s : State) : State :=
  ((s.onLink (fun l => { l with hdmOn := false, hdmErr := false, hdmLocked := false, hdmBase := 0 })).setFlag Reg.HDM.STATUS.COMMITTED false).setFld Reg.HDM.BASE.BASE_HI 0

/-- What a link-down, hot reset or PERST_N assertion resets (R437). Unread event records stay for the logs after link-up. -/
def State.linkReset (s : State) : State :=
  let s1 := s.onLink (fun l => { l with
    up := false, cxl := false, recovery := false, retraining := false, tph := 0, mps := 128, starved := none, l1pFree := [], held := [], drs := 64, ndr := 64, reqTill := [], rwdHeld := 0,
    ideDrop := false, ideIo := false, ideMem := false, ideKeys := false, ideMemKeys := false, gpf2 := false, logged := [],
    logs := l.logs.map (fun e => (e.1, { e.2 with policy := 0 })) })
  let s2 := s1.onReads (fun t => { t with list := t.list.filterMap Rd.muted })
  let s3 := s2.onXlt (fun t => { t with wtAcks := t.wtAcks.map (fun a => if a.tag < 65536 then { a with tag := 65536 } else a) })
  let s4 := ({ s3.uncommit with mbox := {}, irq := { s3.irq with msixEn := false, busMaster := false, pend := 0 } }).endSessions
  let s5 := s4.each hlkCounters (fun s a => s.setReg a 0)
  (((s5.setReg Reg.HLK.LINK_STATUS.word 0).bump Reg.HLK.LINK_DOWNS.LINK_DOWNS).raise Reg.HLK.INT_STATUS.LINK_DOWN).suspend

/-- LINK_DOWN (R437). -/
def execLinkDown (phase : Nat) (s : State) : Res :=
  let s0 := s.at_ phase
  .next (if s0.link.up then s0.linkReset else s0)

/-- HOT_RESET (R437). -/
def execHotReset (phase : Nat) (s : State) : Res :=
  let s0 := s.at_ phase
  .next (if s0.link.up then s0.linkReset else s0)

/-- PERST_N_ASSERT (R437, R731): acts on the link alone; in OFF, and in standby, where the link is down already, it is only seen. -/
def execPerstNAssert (phase : Nat) (s : State) : Res :=
  let s0 := s.at_ phase
  let s1 := s0.onLink (fun l => { l with perst := true })
  .next (if !s0.link.perst && s0.pwr.ctrlOn && !s0.pwr.standby then s1.linkReset else s1)

/-! ### Recovery (R421, R448) -/

/-- Responses that wait leave in hand-off order, as far as credits reach (R431). -/
def State.drainHeld (s : State) : State :=
  let h := s.link.held
  (s.onLink (fun l => { l with held := [] })).each h (fun t o => t.respond (o.late s.now))

/-- The clk that responses have waited for credits so far are added (R431, R451). -/
def State.settleStarved (s : State) : State :=
  match s.link.starved with
  | some c => (s.bumpBy Reg.HLK.S2M_HELD.HELD (s.now - c)).onLink (fun l => { l with starved := some (max c s.now) })
  | none => s

/-- MSI-X vectors that were pending are sent once both enables are 1 and the link is in L0 (R421, R865). -/
def State.flushMsi (s : State) : State :=
  if s.irq.msixEn && s.irq.busMaster && !s.link.recovery then
    let p := s.irq.pend
    ({ s with irq := { s.irq with pend := 0 } }).each [0, 1, 2] (fun s v => if p.getLsbD v then s.emit (.msix v) else s)
  else s

/-- The link enters Recovery. -/
def State.enterRecovery (s : State) (retrain : Bool) : State :=
  (((s.onLink (fun l => { l with recovery := true, retraining := retrain })).bump Reg.HLK.RECOVERIES.RECOVERIES).raise Reg.HLK.INT_STATUS.RECOVERY).strikeAll 8

/-- RECOVERY_ENTRY (R421). -/
def execRecoveryEntry (phase : Nat) (s : State) : Res :=
  let s0 := s.at_ phase
  .next (if s0.link.up && !s0.link.recovery then s0.enterRecovery false else s0)

/-- RECOVERY_EXIT (R421, R448): the link is in L0 again; after a retraining it has the rate and width that LINK_CTRL now allows. Held responses and writes leave. -/
def execRecoveryExit (phase : Nat) (s : State) : Res :=
  let s0 := s.at_ phase
  .next (if s0.link.up && s0.link.recovery then
    let s1 := if s0.link.retraining then s0.trained s0.link.pRate s0.link.pWidth s0.link.pFlit else s0.onLink (fun l => { l with recovery := false })
    s1.drainHeld.flushMsi.unsuspend
  else s0)

/-- LINK_CTRL.RETRAIN (R448). -/
def State.retrain (s : State) : State := if s.link.up && !s.link.recovery then (s.enterRecovery true).emit .linkTrain else s

/-- S2M_CREDIT_RETURN (R431): the host returns `n` DRS or NDR credits. -/
def execS2mCreditReturn (drs : Bool) (n phase : Nat) (s : State) : Res :=
  let s0 := s.at_ phase
  .next (if s0.memOpen then
    let s1 := s0.settleStarved
    let s2 := s1.onLink (fun l => if drs then { l with drs := l.drs + n } else { l with ndr := l.ndr + n })
    (s2.onLink (fun l => { l with starved := none })).drainHeld
  else s0)

/-! ### Decoder (R424, R425) -/

/-- HDM_DECODER_COMMIT (R425): base, size and interleave ways as the host wrote them; `lock` is lock on commit. -/
def execHdmDecoderCommit (base size ways : Nat) (lock : Bool) (phase : Nat) (s : State) : Res :=
  let s0 := s.at_ phase
  .next (if !s0.ioOpen || s0.link.hdmLocked then s0
  else if size = s0.hdmSize && decide (base % s0.hdmSize = 0) && ways = 1 then
    (((s0.onLink (fun l => { l with hdmOn := true, hdmErr := false, hdmLocked := lock, hdmBase := base })).setFlag Reg.HDM.STATUS.COMMITTED true).setFld
      Reg.HDM.BASE.BASE_HI (base / 2 ^ 32)).raise Reg.HDM.INT_STATUS.COMMITTED
  else s0.uncommit.onLink (fun l => { l with hdmErr := true }))

/-! ### Global Persistent Flush (R434) -/

/-- GPF_PHASE1 (R434, R471): counted, and complete at once. -/
def execGpfPhase1 (phase : Nat) (s : State) : Res :=
  let s0 := s.at_ phase
  .next (if s0.ioOpen then (s0.bump Reg.HDM.GPF.EVENTS).emit (.gpfDone 1) else s0)

/-- GPF_PHASE2 (R434): complete at once, unless AT_RISK is set. -/
def execGpfPhase2 (phase : Nat) (s : State) : Res :=
  let s0 := s.at_ phase
  .next (if !s0.ioOpen then s0
  else if s0.flag Reg.HDM.STATUS.AT_RISK then s0.onLink (fun l => { l with gpf2 := true }) else s0.emit (.gpfDone 2))

/-- GPF_PHASE2_TIMEOUT (R434): a Phase 2 not complete after 5 ms completes anyway; GPF.LATE, GPF_LATE with its ERROR record. -/
def execGpfPhase2Timeout (s : State) : Res :=
  .next (if s.link.gpf2 then
    (((s.onLink (fun l => { l with gpf2 := false })).bumpSat Reg.HDM.GPF.LATE).raiseRec Reg.HDM.INT_STATUS.GPF_LATE sevError clsDevice 0 0 0 0).emit (.gpfDone 2)
  else s)

/-! ### Configuration bits (R422, R444, R501, R865) -/

/-- BUS_MASTER_ENABLE_CHANGE (R501): Bus Master Enable and the other configuration bits that the device acts on, as the host leaves them. -/
def execBusMasterEnableChange (on msix : Bool) (tph mps phase : Nat) (s : State) : Res :=
  let s0 := s.at_ phase
  .next (if !s0.ioOpen then s0
  else
    let s1 := ({ s0 with irq := { s0.irq with msixEn := msix, busMaster := on } }).onLink (fun l => { l with tph := min tph 2, mps := min (max mps 128) 512 })
    if on then s1.flushMsi.unsuspend else s1.suspend)

/-- D3HOT (R422): accepted; bus mastering stops, CXL.mem is unchanged. -/
def execD3hot (phase : Nat) (s : State) : Res :=
  let s0 := s.at_ phase
  .next (if s0.ioOpen then ({ s0 with irq := { s0.irq with busMaster := false } }).suspend else s0)

/-! ### Violations of CXL.io (R445) -/

/-- MALFORMED_TLP (R445): discarded; violation 0x06, logged. -/
def execMalformedTlp (phase : Nat) (s : State) : Res :=
  let s0 := s.at_ phase
  .next (if s0.ioOpen then s0.violationLogged 6 else s0)

/-- POISONED_BAR_WRITE (R445): discarded; violation 0x07, logged. -/
def execPoisonedBarWrite (phase : Nat) (s : State) : Res :=
  let s0 := s.at_ phase
  .next (if s0.ioOpen then s0.violationLogged 7 else s0)

/-- BAR_MISALIGNED_ACCESS (R445): violation 0x08; a read is answered with Completer Abort, a write discarded. -/
def execBarMisalignedAccess (read : Bool) (phase : Nat) (s : State) : Res :=
  let s0 := s.at_ phase
  .next (if s0.ioOpen then (let s1 := s0.violation 8; if read then s1.emit .completerAbort else s1) else s0)

/-- UNSUPPORTED_REQUEST (R445): violation 0x0A, answered Unsupported Request. -/
def execUnsupportedRequest (phase : Nat) (s : State) : Res :=
  let s0 := s.at_ phase
  .next (if s0.ioOpen then (s0.violation 0x0A).emit .unsupportedRequest else s0)

/-- TYPE1_VDM (R445): discarded silently. -/
def execType1Vdm (phase : Nat) (s : State) : Res := .next (s.at_ phase)

/-- IDE_INTEGRITY_FAILURE (R439): violation 0x0B, IDE_FAIL, Tremor 0x04; later messages are dropped until keys are programmed again. -/
def execIdeIntegrityFailure (phase : Nat) (s : State) : Res :=
  let s0 := s.at_ phase
  .next (if s0.link.up && (s0.link.ideIo || s0.link.ideMem) && !s0.link.ideDrop then
    (((s0.violationLogged 0x0B).onLink (fun l => { l with ideDrop := true })).raise Reg.HLK.INT_STATUS.IDE_FAIL).tremor 4 clsHost
  else s0)

end Sys2Proof.Machine
end

