-- ==== Sys2Proof/Machine/Sequencer.lean ====
section
/-! DEFINITION. The power sequencer of chapter 13 (R659 to R666) as operations: stages of SEQ_UP, the items of SEQ_DOWN, failures to come up. -/

namespace Sys2Proof.Machine

/-- `s` with the power state changed by `f`. -/
def State.onPwr (s : State) (f : Pwr → Pwr) : State := { s with pwr := f s.pwr }
/-- `s` with the start-up state changed by `f`. -/
def State.onDev (s : State) (f : Dev → Dev) : State := { s with dev := f s.dev }

/-- External channel `n` is used, kept in standby; its stage (R660, R692). -/
def State.extUsed (s : State) (n : Nat) : Bool := s.flag (Reg.PWR.EXT_CFG.USED n)
def State.extKept (s : State) (n : Nat) : Bool := s.extUsed n && s.flag (Reg.PWR.EXT_CFG.KEEP_STANDBY n)
def State.extStage (s : State) (n : Nat) : Nat := s.fld (Reg.PWR.EXT_CFG.STAGE n)

/-- The used channels of a stage. -/
def State.stageExt (s : State) (st : Nat) : List Nat := (List.range 8).filter (fun n => s.extUsed n && decide (s.extStage n = st))

/-- The rails that a stage switches on (R662). -/
def stageRails (st : Nat) : List Rail :=
  match st with
  | 2 => [.vddPll]
  | 3 => [.vddCore, .vddSram]
  | 4 => [.vddIo, .vddPhy]
  | 5 => [.vddPnv]
  | 9 => [.vmedIf]
  | 10 => [.vmedArr]
  | 11 => [.vhold]
  | _ => []

/-- The power-goods of a stage (R662); stage 1 waits for VIN. -/
def State.stageNeeds (s : State) (st : Nat) : List PgInput :=
  match st with
  | 2 => [.rail .vddPll, .pll]
  | 8 => [.domains]
  | 11 => [.boost]
  | _ => (stageRails st).map PgInput.rail ++ (s.stageExt st).map PgInput.ext

/-- The controller domains 0 to 55 (R659). -/
def ctrlDomains : BitVec 136 := BitVec.ofNat 136 (2 ^ 56 - 1)

/-- Those of them that this board has: the domain of a slot that is not fitted stays off (R875). -/
def State.fittedDomains (s : State) : BitVec 136 :=
  let off (n : Nat) : BitVec 136 := if bitOf (s.reg Reg.DEV.STRAPS.word) (1 + n) then 1#136 <<< (47 + n) else 0
  ctrlDomains &&& ~~~(off 0 ||| off 1)

/-- The controller domains of `m` in the order in which stage 8 switches them on: the ring first, then ascending (R659). -/
def domainOrder (m : BitVec 136) : List Nat := (49 :: (List.range 49 ++ (List.range 6).map (· + 50))).filter (fun n => m.getLsbD n)

/-- The domains of `m` are switched on, or off in the reverse order, domain 49 last (R659). -/
def State.ctrlSwitch (s : State) (m : BitVec 136) (on : Bool) : State :=
  let l := domainOrder m
  { s with out := s.out ++ (if on then l else l.reverse).map (fun n => Output.ctrlDomain n on) }

/-- Stage `st` starts: its rails, channels and domains are switched on. -/
def State.stageStart (s : State) (st : Nat) : State :=
  ((s.cond (st = 8) (fun s => s.ctrlSwitch s.fittedDomains true)).onPwr (fun p => { p with
    rails := p.rails ++ (stageRails st).filter (fun r => !p.rails.contains r),
    extEn := (s.stageExt st).foldl (fun m n => bitTo m n true) p.extEn,
    dom := if st = 8 then p.dom ||| s.fittedDomains else p.dom,
    ctrlOn := p.ctrlOn || decide (st = 8),
    boost := p.boost || decide (st = 11) })).setFld Reg.PWR.STATUS.STAGE st
where
  /-- bit `n` of an 8-bit set -/
  bitTo (m : BitVec 8) (n : Nat) (b : Bool) : BitVec 8 := if b then m ||| (1#8 <<< n) else m &&& ~~~(1#8 <<< n)

/-- Every power-good of stage `st` is qualified. -/
def State.stageOk (s : State) (st : Nat) : Bool :=
  if st = 1 then s.pwr.vinQual else (s.stageNeeds st).all (fun g => s.pwr.pg.contains g)

/-! ### SEQ_DOWN (R664) -/

/-- The channels of a stage that are on, highest first. -/
def State.extDown (s : State) (st : Nat) : List DownItem :=
  (((List.range 8).filter (fun n => s.pwr.extEn.getLsbD n && decide (s.extStage n = st))).reverse).map DownItem.ext

/-- A rail, if it is on. -/
def State.railDown (s : State) (r : Rail) : List DownItem := if s.pwr.rails.contains r then [.rail r] else []

/-- What is on, in the reverse of the order of R662. -/
def State.downList (s : State) : List DownItem :=
  s.extDown 12 ++ s.railDown .vhold ++ s.railDown .vmedArr ++ s.railDown .vmedIf ++ (if s.pwr.ctrlOn then [.domains] else []) ++
    s.extDown 7 ++ s.extDown 6 ++ s.extDown 5 ++ s.railDown .vddPnv ++ s.railDown .vddPhy ++ s.railDown .vddIo ++ s.railDown .vddSram ++
    s.railDown .vddCore ++ s.railDown .vddPll

/-- One item is switched off. -/
def State.switchOff (s : State) (d : DownItem) : State :=
  (s.cond (d = .domains) (fun s => s.ctrlSwitch s.pwr.dom false)).onPwr (fun p => match d with
    | .rail r => { p with rails := p.rails.erase r, pg := p.pg.erase (.rail r), boost := p.boost && decide (r ≠ .vhold) }
    | .ext n => { p with extEn := p.extEn &&& ~~~(1#8 <<< n), pg := p.pg.erase (.ext n) }
    | .domains => { p with dom := 0, ctrlOn := false, pg := p.pg.erase .domains })

/-- PLL_LOCKED (R57): CCLK is not locked once the PLL's supply is off, or its power-good or lock is lost. -/
def State.pllCheck (s : State) : State :=
  if s.pwr.rails.contains .vddPll && s.pwr.pg.contains (.rail .vddPll) && s.pwr.pg.contains .pll then s else s.setFlag Reg.BWT.CLK_STATUS.PLL_LOCKED false

/-- The device enters OFF (R12, R665): the 10 ms hold starts, VENT_N is released (R680), FAULT_N shows PWR_FAULT (R882). -/
def State.enterOff (s : State) : State :=
  ((s.onPwr (fun p => { p with down := [], pg := [], offHold := true, offInSeq := false, ventN := false, standby := false, standbyWait := false, downAfterFlush := false, boost := false, faultN := s.flag Reg.PWR.STATUS.PWR_FAULT })).pllCheck.setFld Reg.PWR.STATUS.STAGE 0).toState .off

/-- The rest of the items: the head is switched off and awaited; the controller domains switch off at once; after the last item, OFF. -/
def State.downNext (s : State) (l : List DownItem) : State :=
  match l with
  | [] => s.enterOff
  | .domains :: rest => (s.switchOff .domains).downNext rest
  | d :: rest => (s.switchOff d).pllCheck.onPwr (fun p => { p with down := d :: rest })

/-- The awaited item is done. -/
def State.downPop (s : State) : State := s.downNext s.pwr.down.tail

/-- The reports still queued or offered, but for those of severity `keep` and above, are counted in LOST (R788). -/
def State.loseQueued (s : State) (keep : Nat) : State :=
  let l := ((s.tally.fifo.flatMap (fun e => e.2)) ++ (s.tally.queue.flatMap (fun e => e.2))).filter (fun r => decide (r.sev < keep))
  let kept (m : SMap (List Report)) : SMap (List Report) := SMap.mapv (fun _ => []) (fun _ x => x.filter (fun r => decide (keep ≤ r.sev))) m
  s.each l (fun s r => s.lost r.sev) |>.onTally (fun t => { t with fifo := kept t.fifo, queue := kept t.queue, escFlag := 0, escCount := [], escQueued := 0 })

/-- The device enters SEQ_DOWN for a cause of R739; die domains go off first (R107), VHOLD is no longer qualified, then the items of R664 in order. -/
def State.enterSeqDown (s : State) (cause : Nat) : State :=
  let s1 := (((s.loseQueued 8).dieDomainsOff.onDev (fun d => { d with step := 0, resuming := false, rotaPending := false, haltVent := false })).setFld Reg.DEV.START.LAST_DOWN cause).toState .seqDown
  let s2 := ({ s1 with hk := { s1.hk with vholdQual := false, testing := false, vholdGood := 0, vholdLow := 0 } }).onPwr (fun p =>
    { p with standby := false, standbyWait := false, downAfterFlush := false })
  (s2.setFlag Reg.PWR.STATUS.STANDBY false).downNext s2.downList

/-- SEQ_FAIL (R663): PWR_FAULT with stage and cause, FAULT_N, SEQ_FAIL, SEQ_DOWN. -/
def State.seqFail (s : State) (cause : Nat) : State :=
  let s1 := ((s.setFlag Reg.PWR.STATUS.PWR_FAULT true).setFld Reg.PWR.STATUS.FAULT_STAGE (s.fld Reg.PWR.STATUS.STAGE)).setFld Reg.PWR.STATUS.FAULT_CAUSE cause
  ((s1.onPwr (fun p => { p with faultN := true, failed := true })).raise Reg.PWR.INT_STATUS.SEQ_FAIL).enterSeqDown 3

/-- PWR_FAULT and FAULT_N clear; FAULT_STAGE and FAULT_CAUSE stay (R666). -/
def State.faultClear (s : State) : State :=
  (s.setFlag Reg.PWR.STATUS.PWR_FAULT false).onPwr (fun p => { p with faultN := decide (s.dev.st = .halt) && !s.dev.haltVent })

/-! ### Start-up budgets (R718, R730) -/

/-- The budget of a start-up step in µs (R718). -/
def stepBudget (v : Variant) (n : Nat) : Nat :=
  match n with
  | 2 => 11000
  | 3 => 500
  | 4 => 9000
  | 5 => 10
  | 6 => 6000
  | 7 => 1000
  | 8 => 42000
  | 9 => 16000
  | 10 => 800
  | 11 => 4000
  | 12 => (match v with | .v35A => 105000 | .v17A => 58000)
  | _ => 100

/-- Step `n` ends `us` µs after T0: STEP_USn, and BUDGET_OVER with its NOTICE record for a step over its budget (R730, R742). -/
def State.stepEnds (s : State) (n us : Nat) : State :=
  let s1 := (s.setFld (Reg.DEV.STEP_US.US n) us).onDev (fun d => { d with us })
  if s.dev.us + stepBudget s.variant n < us then
    s1.raiseRec Reg.DEV.INT_STATUS.BUDGET_OVER sevNotice clsDevice 0 n us 0
  else s1

/-- Stages follow one another while their power-goods are qualified (R662, R665). `finish` is what stage 12's success does. -/
def State.seqAdvance (finish : State → State) (s : State) (fuel : Nat) : State :=
  match fuel with
  | 0 => s
  | k + 1 =>
    let st := s.fld Reg.PWR.STATUS.STAGE
    if s.dev.st = .seqUp && s.stageOk st then
      if s.pwr.offInSeq then s.enterSeqDown 1
      else if st = 12 then finish s
      else State.seqAdvance finish (s.stageStart (st + 1)) k
    else s

/-- SEQ_UP ends: SEQ_DONE, BOOT, step 3 (R662, R718). -/
def State.seqFinish (us : Nat) (s : State) : State :=
  (((s.raise Reg.PWR.INT_STATUS.SEQ_DONE).toState .boot).stepEnds 2 us).onDev (fun d => { d with step := 3 })

/-! ### Judging a round's samples (R658, R669) -/

/-- Nominal value in mV and tolerance in percent of the rail that a channel measures (R658, R668). -/
def channelWindow (c : Nat) : Option (Int × Int) :=
  if c < 40 then some (2500, 5)
  else if c < 80 then some (1100, 5)
  else if c = 92 then some (750, 8)
  else if 93 ≤ c && c ≤ 96 then some (750, 8)
  else if c = 97 || c = 98 then some (850, 8)
  else if c = 99 then some (1200, 5)
  else if c = 100 then some (900, 5)
  else if c = 101 then some (1800, 5)
  else if c = 102 then some (2500, 5)
  else if c = 103 then some (1100, 5)
  else if c = 104 then some (2500, 5)
  else none

/-- The window of a channel now: VDD_SRAM is in retention in standby (R658). -/
def State.windowNow (s : State) (c : Nat) : Option (Int × Int) :=
  if s.pwr.standby && (c = 97 || c = 98) then some (450, 8) else channelWindow c

/-- `v` lies within `pct` percent of `nom`. -/
def inWindow (nom pct v : Int) : Bool := decide ((v - nom).natAbs * 100 ≤ (pct * nom).natAbs)

/-- The rail or domain that a channel measures is on (R669). -/
def State.channelOn (s : State) (c : Nat) : Bool :=
  if c < 40 then s.pwr.dom.getLsbD (57 + 2 * c)
  else if c < 80 then s.pwr.dom.getLsbD (56 + 2 * (c - 40))
  else if c = 92 then s.dev.por
  else if 93 ≤ c && c ≤ 96 then s.pwr.rails.contains .vddCore
  else if c = 97 || c = 98 then s.pwr.rails.contains .vddSram
  else if c = 99 then s.pwr.rails.contains .vddIo
  else if c = 100 then s.pwr.rails.contains .vddPhy
  else if c = 101 then s.pwr.rails.contains .vddPll
  else if c = 102 then s.pwr.rails.contains .vddPnv
  else if c = 103 then s.pwr.rails.contains .vmedIf
  else if c = 104 then s.pwr.rails.contains .vmedArr
  else false

/-! ### Thermal decisions (R671 to R673) -/

/-- Sensor at key `k` (die d at d, controller sensor i at 0x40 + i). -/
def State.sensor (s : State) (k : Nat) : Sensor := SMap.get (fun _ => {}) s.hk.sensors k

/-- Sensor `k` replaced. -/
def State.setSensor (s : State) (k : Nat) (x : Sensor) : State :=
  { s with hk := { s.hk with sensors := SMap.set (fun _ => {}) s.hk.sensors k x } }

/-- Limits in 1/16 °C (R672, R704). -/
def State.thmWarn (s : State) : Int := 16 * (s.fld Reg.THM.LIMITS.WARN : Int)
def State.thmCrit (s : State) : Int := 16 * (s.fld Reg.THM.LIMITS.CRIT : Int)
def State.thmTrip (s : State) : Int := 16 * (s.fld Reg.THM.LIMITS.TRIP : Int)

/-- Sensor `k` is masked (R708, R709). -/
def State.masked (s : State) (k : Nat) : Bool :=
  if k < 32 then bitOf (s.fld Reg.THM.MASK0.DIE) k
  else if k < 40 then bitOf (s.fld Reg.THM.MASK1.DIE) (k - 32)
  else bitOf (s.fld Reg.THM.MASK1.CTRL) (k - 0x40)

/-- The sensors of the variant: its dies and the 12 controller sensors. -/
def State.sensorKeys (s : State) : List Nat := List.range s.nDies ++ (List.range 12).map (· + 0x40)

/-- The other sensors of a sensor's group (R672): the other controller sensors, or the other dies of the same stack. -/
def State.sensorGroup (s : State) (k : Nat) : List Nat :=
  s.sensorKeys.filter (fun j => decide (j ≠ k) && (if k < 40 then decide (j < 40) && decide (dieStack j = dieStack k) else decide (0x40 ≤ j)))

/-- The effective reading of an unmasked sensor: its own, or CRIT where it is broken (R672). -/
def State.plainReading (s : State) (k : Nat) : Int := if (s.sensor k).broken then s.thmCrit else (s.sensor k).temp

/-- The greatest of a list. -/
def maxInt (l : List Int) : Option Int := l.foldl (fun acc x => match acc with | none => some x | some y => some (max x y)) none

/-- The effective reading of a sensor (R672). -/
def State.effReading (s : State) (k : Nat) : Int :=
  if s.masked k then (maxInt (((s.sensorGroup k).filter (fun j => !s.masked j)).map s.plainReading)).getD s.thmCrit
  else s.plainReading k

/-- The rate of rise of sensor `k` is exceeded (R672): ROR × 16.384 ms above its reading 256 rounds earlier. -/
def State.rorExceeded (s : State) (k : Nat) : Bool :=
  let x := s.sensor k
  !s.masked k && !x.broken &&
    (match x.hist[256]? with
     | some old => decide (((s.fld Reg.THM.LIMITS.ROR : Int) * 16 * 16384) ≤ (x.temp - old) * 1000000)
     | none => false)

/-- The highest effective reading and the sensor that gives it (R673, R705). -/
def State.hottest (s : State) : Nat × Int :=
  s.sensorKeys.foldl (fun acc k => if acc.2 < s.effReading k then (k, s.effReading k) else acc) (s.sensorKeys.headD 0, s.effReading (s.sensorKeys.headD 0))

/-- The threshold of level `l` ≥ 1 in 1/16 °C (R673). -/
def State.levelTemp (s : State) (l : Nat) : Int :=
  match l with
  | 1 => s.thmWarn
  | 2 => 16 * (((s.fld Reg.THM.LIMITS.WARN + s.fld Reg.THM.LIMITS.CRIT) / 2 : Nat) : Int)
  | 3 => s.thmCrit
  | _ => 16 * (((s.fld Reg.THM.LIMITS.CRIT + s.fld Reg.THM.LIMITS.TRIP) / 2 : Nat) : Int)

/-- The highest level whose entry condition holds (R673). -/
def State.levelHeld (s : State) (h : Int) (ror : Bool) : Nat :=
  if s.levelTemp 4 ≤ h then 4 else if s.levelTemp 3 ≤ h then 3 else if s.levelTemp 2 ≤ h then 2 else if s.levelTemp 1 ≤ h || ror then 1 else 0

end Sys2Proof.Machine
end

