-- ==== Sys2Proof/Machine/Mailbox.lean ====
section
/-! DEFINITION. The primary mailbox (R441 to R443) and the DOE instance with SPDM, IDE key management and CDAT (R422, R439, R440, R553, R554, R724). -/

namespace Sys2Proof.Machine

/-! ### The mailbox -/

/-- The mailbox takes commands: CXL.io messages arrive, and Mailbox Ready is 1, from BOOT onward (R438). -/
def State.mboxOpen (s : State) : Bool :=
  s.ioOpen && decide (s.dev.st ≠ .off) && decide (s.dev.st ≠ .seqUp) && decide (s.dev.st ≠ .seqDown)

/-- A mailbox command with opcode `op`: `f` gives its return code, the values of its output payload and the state it leaves. `irq` is the doorbell interrupt that the host enabled: MSI-X vector 0 (R422). -/
def State.mboxCmd (s : State) (op : Nat) (irq : Bool) (f : State → MboxRet × List Nat × State) : State :=
  if s.mboxOpen then
    let r := f s
    let s1 := r.2.2.emit (.mailbox op r.1 r.2.1)
    if irq then s1.sendMsi 0 else s1
  else s

/-- `s` with the mailbox state changed by `f`. -/
def State.onMbox (s : State) (f : Mbox → Mbox) : State := { s with mbox := f s.mbox }

/-- IDENTIFY (0x0001): serial, payload size as a power of two, component type 3. -/
def execIdentify (irq : Bool) (phase : Nat) (s : State) : Res :=
  .next ((s.at_ phase).mboxCmd 0x0001 irq (fun s => (.success, [0x4680, Config.serial.toNat, 16, 3], s)))

/-- BACKGROUND_OPERATION_STATUS (0x0002): always none. -/
def execBackgroundOperationStatus (irq : Bool) (phase : Nat) (s : State) : Res :=
  .next ((s.at_ phase).mboxCmd 0x0002 irq (fun s => (.success, [0], s)))

/-- GET_RESPONSE_MESSAGE_LIMIT (0x0003): the limit as a power of two. -/
def execGetResponseMessageLimit (irq : Bool) (phase : Nat) (s : State) : Res :=
  .next ((s.at_ phase).mboxCmd 0x0003 irq (fun s => (.success, [s.mbox.limit], s)))

/-- SET_RESPONSE_MESSAGE_LIMIT (0x0004): from 2^8 to the payload size. -/
def execSetResponseMessageLimit (n : Nat) (irq : Bool) (phase : Nat) (s : State) : Res :=
  .next ((s.at_ phase).mboxCmd 0x0004 irq (fun s =>
    if 8 ≤ n && decide (n ≤ 16) then (.success, [n], s.onMbox (fun m => { m with limit := n })) else (.invalidInput, [], s)))

/-- The values of an event record. -/
def Evt.values (e : Evt) : List Nat := [e.handle, e.bell, e.kind] ++ e.args

/-- GET_EVENT_RECORDS (0x0100): the oldest records of a log, as many 128-byte records as the response limit takes, the number that did not fit the log, and whether more remain. -/
def execGetEventRecords (log : Nat) (irq : Bool) (phase : Nat) (s : State) : Res :=
  .next ((s.at_ phase).mboxCmd 0x0100 irq (fun s =>
    if 4 ≤ log then (.invalidInput, [], s)
    else
      let l := s.log log
      let n := (2 ^ s.mbox.limit - 32) / 128
      (.success, [b2n (decide (n < l.recs.length)), l.overflow, min n l.recs.length] ++ (l.recs.take n).flatMap Evt.values, s)))

/-- The records after those with the given handles, which must be the oldest ones in order; none where they are not. -/
def clearHandles (handles : List Nat) (recs : List Evt) : Option (List Evt) :=
  match handles, recs with
  | [], r => some r
  | _, [] => none
  | h :: t, r :: rest => if r.handle = h then clearHandles t rest else none

/-- CLEAR_EVENT_RECORDS (0x0101): all records, or the oldest by their handles. -/
def execClearEventRecords (log : Nat) (all : Bool) (handles : List Nat) (irq : Bool) (phase : Nat) (s : State) : Res :=
  .next ((s.at_ phase).mboxCmd 0x0101 irq (fun s =>
    if 4 ≤ log then (.invalidInput, [], s)
    else
      let l := s.log log
      if all then (.success, [], s.setLog log { l with recs := [], overflow := 0 })
      else match clearHandles handles l.recs with
        | some r => (.success, [], s.setLog log { l with recs := r, overflow := 0 })
        | none => (.invalidHandle, [], s)))

/-- GET_EVENT_INTERRUPT_POLICY (0x0102). -/
def execGetEventInterruptPolicy (irq : Bool) (phase : Nat) (s : State) : Res :=
  .next ((s.at_ phase).mboxCmd 0x0102 irq (fun s => (.success, (List.range 4).map (fun n => (s.log n).policy), s)))

/-- SET_EVENT_INTERRUPT_POLICY (0x0103): mode 0 none or 1 MSI-X for each log (R443). -/
def execSetEventInterruptPolicy (modes : List Nat) (irq : Bool) (phase : Nat) (s : State) : Res :=
  .next ((s.at_ phase).mboxCmd 0x0103 irq (fun s =>
    if modes.length = 4 && modes.all (fun m => decide (m ≤ 1)) then
      (.success, [], s.each (List.range 4) (fun s n => s.setLog n { s.log n with policy := modes.getD n 0 }))
    else (.invalidInput, [], s)))

/-! ### Firmware (R441, R550, R551) -/

/-- The image that a slot (1 A, 2 B) holds. -/
def State.image (s : State) (slot : Nat) : List Nat := SMap.get Config.factoryImage s.pnv.firmware slot

/-- GET_FW_INFO (0x0200): two slots, the active one, the one staged for the next cold start, their SVN and build. -/
def execGetFwInfo (irq : Bool) (phase : Nat) (s : State) : Res :=
  .next ((s.at_ phase).mboxCmd 0x0200 irq (fun s =>
    let a := s.fld Reg.ATT.BOOT.BOOTED
    let n := s.fld Reg.ATT.BOOT.NEXT
    (.success, [2, a, if n = a then 0 else n] ++ [1, 2].flatMap (fun k => [ofBytesLe (slice (s.image k) 12 15), ofBytesLe (slice (s.image k) 16 19)]), s)))

/-- TRANSFER_FW (0x0201): action 0 whole, 1 first, 2 further, 3 last part, 4 abort; a part goes to the slot that is not active, in order of its offset. -/
def execTransferFw (action slot offset : Nat) (data : List Nat) (irq : Bool) (phase : Nat) (s : State) : Res :=
  .next ((s.at_ phase).mboxCmd 0x0201 irq (fun s =>
    let put (old : List Nat) (next : Option (Nat × Nat)) : State :=
      { s with pnv := { s.pnv with firmware := SMap.set Config.factoryImage s.pnv.firmware slot (old ++ data.map (· % 256)) }, mbox := { s.mbox with transfer := next } }
    if action = 4 then (.success, [], s.onMbox (fun m => { m with transfer := none }))
    else if 5 ≤ action then (.invalidInput, [], s)
    else if (slot ≠ 1 && slot ≠ 2) || slot = s.fld Reg.ATT.BOOT.BOOTED then (.invalidSlot, [], s)
    else if action = 0 then (.success, [], put [] none)
    else if action = 1 then (.success, [], put [] (some (slot, data.length)))
    else if s.mbox.transfer ≠ some (slot, offset) then (.invalidInput, [], s)
    else (.success, [], put (s.image slot) (if action = 3 then none else some (slot, offset + data.length)))))

/-- ACTIVATE_FW (0x0202): NEXT for the next cold start; online activation is unsupported (R441, R551). -/
def execActivateFw (online : Bool) (slot : Nat) (irq : Bool) (phase : Nat) (s : State) : Res :=
  .next ((s.at_ phase).mboxCmd 0x0202 irq (fun s =>
    if online then (.unsupported, [], s)
    else if slot ≠ 1 && slot ≠ 2 then (.invalidSlot, [], s)
    else (.success, [], ({ s with pnv := { s.pnv with next := slot } }).setFld Reg.ATT.BOOT.NEXT slot)))

/-! ### Time and logs -/

/-- GET_TIMESTAMP (0x0300): the time set by the host in ns, with the ns since then; 0 where none was set. -/
def execGetTimestamp (irq : Bool) (phase : Nat) (s : State) : Res :=
  .next ((s.at_ phase).mboxCmd 0x0300 irq (fun s => (.success, [match s.mbox.stamp with | some (v, c) => (v + (s.now - c) / 3) % 2 ^ 64 | none => 0], s)))

/-- SET_TIMESTAMP (0x0301). -/
def execSetTimestamp (ns : Nat) (irq : Bool) (phase : Nat) (s : State) : Res :=
  .next ((s.at_ phase).mboxCmd 0x0301 irq (fun s => (.success, [], s.onMbox (fun m => { m with stamp := some (ns % 2 ^ 64, s.now) }))))

/-- The opcodes that are supported (R441). -/
def mboxOpcodes : List Nat :=
  [0x0001, 0x0002, 0x0003, 0x0004, 0x0100, 0x0101, 0x0102, 0x0103, 0x0200, 0x0201, 0x0202, 0x0300, 0x0301, 0x0400, 0x0401, 0x4000, 0x4100, 0x4200, 0x4201,
   0x4202, 0x4203, 0x4204, 0x4300]

/-- GET_SUPPORTED_LOGS (0x0400): the Command Effects Log alone, 4 bytes for each supported opcode. -/
def execGetSupportedLogs (irq : Bool) (phase : Nat) (s : State) : Res :=
  .next ((s.at_ phase).mboxCmd 0x0400 irq (fun s => (.success, [1, 0, 4 * mboxOpcodes.length], s)))

/-- GET_LOG (0x0401): entries of log 0, the Command Effects Log, from a byte offset. -/
def execGetLog (log offset len : Nat) (irq : Bool) (phase : Nat) (s : State) : Res :=
  .next ((s.at_ phase).mboxCmd 0x0401 irq (fun s =>
    if log = 0 && decide (offset + len ≤ 4 * mboxOpcodes.length) then (.success, (mboxOpcodes.drop (offset / 4)).take (len / 4), s) else (.invalidInput, [], s)))

/-! ### Memory device -/

/-- IDENTIFY_MEMORY_DEVICE (0x4000, R424): total, volatile and persistent-only capacity in 256 MiB, event log sizes, poison list capacity. -/
def execIdentifyMemoryDevice (irq : Bool) (phase : Nat) (s : State) : Res :=
  .next ((s.at_ phase).mboxCmd 0x4000 irq (fun s => (.success, [s.hdmSize / 2 ^ 28, 0, s.hdmSize / 2 ^ 28, 64, 64, 64, 64, 4096], s)))

/-- GET_PARTITION_INFO (0x4100): all capacity persistent. -/
def execGetPartitionInfo (irq : Bool) (phase : Nat) (s : State) : Res :=
  .next ((s.at_ phase).mboxCmd 0x4100 irq (fun s => (.success, [0, s.hdmSize / 2 ^ 28, 0, 0], s)))

/-- LIFE_USED of gang `g` (R192): average paddock wear over 200,000 in percent, at most 255. -/
def State.lifeUsed (s : State) (g : Nat) : Nat :=
  min 255 (((s.xlt.bands.within (bandKey g 0) (bandKey g 0 + bandsPerGang)).foldl (fun m e => m + e.2.wear * bandPaddocks (e.1 - bandKey g 0)) 0) / 131072 * 100 / 200000)

/-- Life Used of Get Health Info (R441). -/
def State.healthLife (s : State) : Nat := min 100 (s.gangIds.foldl (fun m g => max m (s.lifeUsed g)) 0)

/-- GET_HEALTH_INFO (0x4200): life used, temperature in °C, dirty shutdown count, corrected volatile and persistent error counts (R441). -/
def execGetHealthInfo (irq : Bool) (phase : Nat) (s : State) : Res :=
  .next ((s.at_ phase).mboxCmd 0x4200 irq (fun s =>
    (.success, [s.healthLife, ofSigned 16 (s.hottest.2 / 16), s.fld Reg.HDM.DIRTY_SHUTDOWNS.COUNT, ((List.range 4).map (fun c => s.fld (Reg.DMC.CE.CE c))).sum,
      (s.gangIds.map (fun g => s.fld (Reg.SEC.SYM_CORR.SYM_CORR g))).sum], s)))

/-- GET_ALERT_CONFIGURATION (0x4201). -/
def execGetAlertConfiguration (irq : Bool) (phase : Nat) (s : State) : Res :=
  .next ((s.at_ phase).mboxCmd 0x4201 irq (fun s => (.success, s.mbox.alerts, s)))

/-- SET_ALERT_CONFIGURATION (0x4202): enables, Life Used threshold, temperature and error thresholds as the host writes them. -/
def execSetAlertConfiguration (values : List Nat) (irq : Bool) (phase : Nat) (s : State) : Res :=
  .next ((s.at_ phase).mboxCmd 0x4202 irq (fun s => (.success, [], s.onMbox (fun m => { m with alerts := values, lifeWarned := false }))))

/-- Life Used crosses the alert threshold that the host has enabled (bit 0 of the first value, the second value): a Memory Module event (R443). -/
def State.lifeAlert (s : State) : State :=
  match s.mbox.alerts with
  | en :: thr :: _ => if bitOf en 0 && !s.mbox.lifeWarned && decide (thr ≤ s.healthLife) then (s.onMbox (fun m => { m with lifeWarned := true })).event 2 1 [s.healthLife] else s
  | _ => s

/-- GET_SHUTDOWN_STATE (0x4203). -/
def execGetShutdownState (irq : Bool) (phase : Nat) (s : State) : Res :=
  .next ((s.at_ phase).mboxCmd 0x4203 irq (fun s => (.success, [s.pnv.shutdown], s)))

/-- SET_SHUTDOWN_STATE (0x4204, R435): 0 clean, 1 dirty. -/
def execSetShutdownState (n : Nat) (irq : Bool) (phase : Nat) (s : State) : Res :=
  .next ((s.at_ phase).mboxCmd 0x4204 irq (fun s => if n ≤ 1 then (.success, [], { s with pnv := { s.pnv with shutdown := n } }) else (.invalidInput, [], s)))

/-- The poison list (R442): every POISONED segment as 4 KiB, every sector found with POISON = 1 since the last mount as 256 bytes. -/
def State.poisonList (s : State) : List (Nat × Nat) :=
  (s.xlt.map.filter (fun e => decide (e.2.st = .poisoned))).map (fun e => (e.1 * 4096, 4096)) ++ s.xlt.poisonSeen.map (fun l => (l * 256, 256))

/-- GET_POISON_LIST (0x4300): entries in a DPA range; beyond 4,096 entries the list overflows. -/
def execGetPoisonList (dpa len : Nat) (irq : Bool) (phase : Nat) (s : State) : Res :=
  .next ((s.at_ phase).mboxCmd 0x4300 irq (fun s =>
    let l := s.poisonList
    let mine := (l.take 4096).filter (fun e => decide (e.1 < dpa + len) && decide (dpa < e.1 + e.2))
    (.success, [b2n (decide (4096 < l.length)), mine.length] ++ mine.flatMap (fun e => [e.1, e.2]), s)))

/-- UNSUPPORTED_MAILBOX_COMMAND (R441): every other opcode. -/
def execUnsupportedMailboxCommand (op : Nat) (irq : Bool) (phase : Nat) (s : State) : Res :=
  .next ((s.at_ phase).mboxCmd op irq (fun s => (.unsupported, [], s)))

/-! ### DOE (R422, R440, R724) -/

/-- DOE objects arrive: the link is up in L0 and the device is not in VENT. They arrive after an IDE failure as well, since only they can program keys again (R439). -/
def State.doeOpen (s : State) : Bool := s.link.up && !s.link.recovery && decide (s.dev.st ≠ .vent)

/-- Step 8 of start-up has not ended: the DOE instance answers busy (R724). -/
def State.doeBusy (s : State) : Bool := s.dev.st = .seqUp || (s.dev.st = .boot && decide (s.dev.step ≤ 8))

/-- DOE error codes: an object too large (R440), a request out of order, invalid, in no session, beyond the sessions. -/
abbrev doeTooLarge : Nat := 0x100
abbrev spdmInvalid : Nat := 0x01
abbrev spdmSession : Nat := 0x02
abbrev spdmUnexpected : Nat := 0x04
abbrev spdmLimit : Nat := 0x0A

/-- A DOE object of `len` bytes: `f` gives the answer and the state it leaves. -/
def State.doe (s : State) (len : Nat) (f : State → DoeAns × State) : State :=
  if !s.doeOpen then s
  else if 16384 < len then s.emit (.doe (.error doeTooLarge))
  else if s.doeBusy then s.emit (.doe .busy)
  else
    let r := f s
    r.2.emit (.doe r.1)

/-- The data object protocols (R422): vendor and type of DOE Discovery, CMA/SPDM, Secured CMA/SPDM, CDAT Table Access. -/
def doeProtocols : List (Nat × Nat) := [(1, 0), (1, 1), (1, 2), (0x1E98, 2)]

/-- DOE_DISCOVERY (R422). -/
def execDoeDiscovery (len index phase : Nat) (s : State) : Res :=
  .next ((s.at_ phase).doe len (fun s =>
    let p := doeProtocols.getD index (0xFFFF, 0)
    (.object 0 [p.1, p.2, if index + 1 < doeProtocols.length then index + 1 else 0], s)))

/-- The CDAT entries of R440: DSMAS, DSLBIS read and write latency in ps, read and write bandwidth in MB/s. -/
def State.cdat (s : State) : List (List Nat) :=
  [[0, 0, s.hdmSize, 1], [1, 1, 510300], [1, 2, 57300], [1, 4, 48000], [1, 5, 24000]]

/-- CDAT_TABLE_ACCESS (R440): the entry with a handle, and the next handle. -/
def execCdatTableAccess (len handle phase : Nat) (s : State) : Res :=
  .next ((s.at_ phase).doe len (fun s =>
    match s.cdat[handle]? with
    | some e => (.object 2 ((if handle + 1 < s.cdat.length then handle + 1 else 0xFFFF) :: e), s)
    | none => (.error spdmInvalid, s)))

/-! ### SPDM (R553, R554) -/

/-- GET_VERSION (R553): version 1.3; what was negotiated before is void. -/
def execGetVersion (len phase : Nat) (s : State) : Res :=
  .next ((s.at_ phase).doe len (fun s => (.object 0x84 [0x13], s.onMbox (fun m => { m with version := true, caps := false, algs := false }))))

/-- GET_CAPABILITIES (R553). -/
def execGetCapabilities (len phase : Nat) (s : State) : Res :=
  .next ((s.at_ phase).doe len (fun s => if s.mbox.version then (.object 0xE1 [16384], s.onMbox (fun m => { m with caps := true })) else (.error spdmUnexpected, s)))

/-- NEGOTIATE_ALGORITHMS (R553): the one set that is supported; `offered` tells that the requester offers it. -/
def execNegotiateAlgorithms (len : Nat) (offered : Bool) (phase : Nat) (s : State) : Res :=
  .next ((s.at_ phase).doe len (fun s =>
    if !s.mbox.caps then (.error spdmUnexpected, s)
    else if !offered then (.error spdmInvalid, s)
    else (.object 0xE3 [521, 512, 256], s.onMbox (fun m => { m with algs := true }))))

/-- A request that needs the negotiation to be complete. -/
def State.spdm (s : State) (f : State → DoeAns × State) : DoeAns × State := if s.mbox.algs then f s else (.error spdmUnexpected, s)

/-- Digest of the certificate chain of slot 0. -/
def chainDigest : Nat := (Config.sha512 Config.certChain).toNat

/-- GET_DIGESTS (R553): slot 0 only. -/
def execGetDigests (len phase : Nat) (s : State) : Res :=
  .next ((s.at_ phase).doe len (fun s => s.spdm (fun s => (.object 0x81 [1, chainDigest], s))))

/-- GET_CERTIFICATE (R553): a part of the slot 0 chain. -/
def execGetCertificate (len slot offset length phase : Nat) (s : State) : Res :=
  .next ((s.at_ phase).doe len (fun s => s.spdm (fun s =>
    if slot ≠ 0 || decide (Config.certChain.length ≤ offset) then (.error spdmInvalid, s)
    else
      let part := (Config.certChain.drop offset).take (min length 16384)
      (.object 0x82 ([0, part.length, Config.certChain.length - offset - part.length] ++ part), s))))

/-- A signature of the identity key, drawn as a free value: ECDSA signatures are random (R553). -/
def State.sign (s : State) : Nat × State := s.draw 1056

/-- The blocks of R554 by index, each a SHA-512 digest. -/
def State.measurement (s : State) (i : Nat) : Nat :=
  let regions := s.prot.regions.flatMap (fun e => [e.1, b2n e.2.valid, e.2.first, e.2.last, e.2.keyid, e.2.mode, b2n e.2.versioning, b2n e.2.strict, b2n e.2.grouped, b2n e.2.compressed, e.2.rights])
  let bytes := match i with
    | 1 => Config.bootRom
    | 2 => (s.image (s.fld Reg.ATT.BOOT.BOOTED)).take 1024
    | 3 => bytesLe 4 (s.fld Reg.ATT.SVN.SVN) ++ bytesLe 4 (s.fld Reg.ATT.ROLLBACK.COUNTER)
    | 4 => bytesLe 4 (s.reg Reg.ATT.FUSES.word)
    | 5 => regions.flatMap (fun v => bytesLe 4 v)
    | _ => [b2n (s.flag Reg.ALM.STATUS.ERUPTED)] ++ bytesLe 2 (s.fld Reg.ALM.COUNTS.ERUPTIONS)
  (Config.sha512 bytes).toNat

/-- SPDM_CHALLENGE (R553): digest of the chain, a nonce, the signature. -/
def execSpdmChallenge (len slot phase : Nat) (s : State) : Res :=
  .next ((s.at_ phase).doe len (fun s => s.spdm (fun s =>
    if slot ≠ 0 then (.error spdmInvalid, s)
    else
      let n := s.draw 256
      let g := n.2.sign
      (.object 0x83 [chainDigest, n.1, g.1], g.2))))

/-- GET_MEASUREMENTS (R554): index 0 asks for the number of blocks, 0xFF for all six. -/
def execGetMeasurements (len index : Nat) (signed : Bool) (phase : Nat) (s : State) : Res :=
  .next ((s.at_ phase).doe len (fun s => s.spdm (fun s =>
    let g := if signed then s.sign else (0, s)
    if index = 0 then (.object 0xE0 [6, g.1], g.2)
    else if index = 0xFF then (.object 0xE0 ([6] ++ (List.range 6).map (fun i => s.measurement (i + 1)) ++ [g.1]), g.2)
    else if index ≤ 6 then (.object 0xE0 [1, s.measurement index, g.1], g.2)
    else (.error spdmInvalid, s))))

/-- A session: none, handshaking (`some false`) or established (`some true`). -/
def State.session (s : State) (i : Nat) : Option Bool := SMap.get (fun _ => none) s.mbox.sessions i
/-- A session replaced; ATT.SPDM.SESSIONS counts those that are open (R602). -/
def State.setSession (s : State) (i : Nat) (x : Option Bool) : State :=
  let s1 := s.onMbox (fun m => { m with sessions := SMap.set (fun _ => none) m.sessions i x })
  s1.setFld Reg.ATT.SPDM.SESSIONS s1.mbox.sessions.length

/-- KEY_EXCHANGE (R553): a session opens, at most 4. -/
def execKeyExchange (len slot phase : Nat) (s : State) : Res :=
  .next ((s.at_ phase).doe len (fun s => s.spdm (fun s =>
    if slot ≠ 0 then (.error spdmInvalid, s)
    else match (List.range 4).find? (fun i => (s.session i).isNone) with
      | none => (.error spdmLimit, s)
      | some i =>
        let n := s.draw 256
        let g := n.2.sign
        (.object 0xE4 [i, n.1, g.1], g.2.setSession i (some false)))))

/-- FINISH (R553): `ok` tells that the requester's verification data is right; otherwise the session ends. -/
def execFinish (len session : Nat) (ok : Bool) (phase : Nat) (s : State) : Res :=
  .next ((s.at_ phase).doe len (fun s =>
    if s.session session ≠ some false then (.error spdmSession, s)
    else if ok then (.object 0xE5 [session], s.setSession session (some true)) else (.error spdmInvalid, s.setSession session none)))

/-- An object of an established session. -/
def State.secured (s : State) (session : Nat) (f : State → DoeAns × State) : DoeAns × State :=
  if s.session session = some true then f s else (.error spdmSession, s)

/-- SPDM_END_SESSION (R553). -/
def execSpdmEndSession (len session phase : Nat) (s : State) : Res :=
  .next ((s.at_ phase).doe len (fun s => s.secured session (fun s => (.object 0xEC [session], s.setSession session none))))

/-- KEY_UPDATE (R553): the session's keys are renewed; the session goes on. -/
def execKeyUpdate (len session op phase : Nat) (s : State) : Res :=
  .next ((s.at_ phase).doe len (fun s => s.secured session (fun s => if 1 ≤ op && decide (op ≤ 3) then (.object 0xE9 [session, op], s) else (.error spdmInvalid, s))))

/-- HEARTBEAT (R553). -/
def execHeartbeat (len session phase : Nat) (s : State) : Res :=
  .next ((s.at_ phase).doe len (fun s => s.secured session (fun s => (.object 0xE8 [session], s))))

/-- IDE key management (R439): 0 query, 1 keys programmed, 2 start, 3 stop. Programmed keys end the dropping of messages after a failure. -/
def State.ideKm (s : State) (mem : Bool) (op : Nat) : DoeAns × State :=
  let id := if mem then 0x102 else 0x101
  let active (b : Bool) : State :=
    if mem then (s.onLink (fun l => { l with ideMem := b })).setFlag Reg.HLK.LINK_STATUS.IDE_MEM b else (s.onLink (fun l => { l with ideIo := b })).setFlag Reg.HLK.LINK_STATUS.IDE_IO b
  if op = 0 then (.object id [b2n s.link.ideIo, b2n s.link.ideMem], s)
  else if op = 1 then (.object id [1], s.onLink (fun l => if mem then { l with ideMemKeys := true, ideDrop := false } else { l with ideKeys := true, ideDrop := false }))
  else if op = 2 then (if (if mem then s.link.ideMemKeys && s.link.cxl else s.link.ideKeys) then (.object id [2], active true) else (.error spdmInvalid, s))
  else if op = 3 then (.object id [3], active false)
  else (.error spdmInvalid, s)

/-- IDE_KM (R439): for CXL.io, over an established session. -/
def execIdeKm (len session op phase : Nat) (s : State) : Res := .next ((s.at_ phase).doe len (fun s => s.secured session (fun s => s.ideKm false op)))

/-- CXL_IDE_KM (R439): for CXL.cachemem, over an established session. -/
def execCxlIdeKm (len session op phase : Nat) (s : State) : Res := .next ((s.at_ phase).doe len (fun s => s.secured session (fun s => s.ideKm true op)))

end Sys2Proof.Machine
end

