-- ==== Sys2Proof/Machine/Tally.lean ====
section
/-! DEFINITION. The Tally and the error aggregator (chapter 16) as operations: intake, queues and escalation, records and repeats, overwriting, flushes, management cores. -/

namespace Sys2Proof.Machine

/-! ### The order of records (R783) -/

/-- `a` is older than `b` in serial-number order (R783). -/
def seqOlder (a b : Nat) : Bool :=
  let d := (b + 2 ^ 32 - a % 2 ^ 32) % 2 ^ 32
  decide (1 ≤ d) && decide (d < 2 ^ 31)

/-- Of the listed (slot, record) pairs the one whose record is oldest. -/
def oldestOf (l : List (Nat × Rec)) : Option (Nat × Rec) :=
  l.foldl (fun acc x => match acc with
    | none => some x
    | some y => if seqOlder x.2.seq y.2.seq then some x else some y) none

/-- Insertion of a record into a list that is newest first. -/
def insertNewest (r : Rec) (l : List Rec) : List Rec :=
  match l with
  | [] => [r]
  | x :: rest => if seqOlder r.seq x.seq then x :: insertNewest r rest else r :: x :: rest

/-- Records newest first (R783). -/
def newestFirst (l : List Rec) : List Rec := l.foldl (fun acc r => insertNewest r acc) []

/-! ### The buffer (R778, R780, R782) -/

/-- The least number from `k` on that is no key of the ordered list `m`, below `n`. -/
def firstGap {α : Type} (m : SMap α) (k n : Nat) : Option Nat :=
  match m with
  | [] => if k < n then some k else none
  | (k', _) :: rest => if k < k' then (if k < n then some k else none) else firstGap rest (k' + 1) n

/-- Applied TLY.CFG fields (R795). -/
def State.minRecord (s : State) : Nat := s.appFld Reg.TLY.CFG.MIN_RECORD
def State.minFlush (s : State) : Nat := s.appFld Reg.TLY.CFG.MIN_FLUSH

/-- A record of severity `v` is flushed (R780). -/
def State.flushed (s : State) (v : Nat) : Bool := decide (s.minFlush ≤ v) || decide (4 ≤ v)

/-- The buffer's slots that hold a record. -/
def State.bufHeld (s : State) : List (Nat × BufSlot) := s.tally.buf.filterMap (fun e => e.2.map (fun b => (e.1, b)))

/-- The slot a new record takes, and the record it overwrites if the slot was not free (R778, R782). -/
def pickSlot (empty : Option Nat) (free held : List (Nat × Rec)) (lower same : Rec → Bool) (ownLevel : Bool) : Option (Nat × Option Rec) :=
  match empty with
  | some k => some (k, none)
  | none =>
    match oldestOf free with
    | some x => some (x.1, none)
    | none =>
      match oldestOf (held.filter (fun x => lower x.2)) with
      | some x => some (x.1, some x.2)
      | none =>
        if ownLevel then
          match oldestOf (held.filter (fun x => same x.2)) with
          | some x => some (x.1, some x.2)
          | none => none
        else none

/-- An overwritten record is counted in OVER at its own severity (R782). -/
def State.countOver (s : State) (o : Option Rec) : State :=
  match o with
  | some r => s.bumpSat (overFld r.sev)
  | none => s

/-! ### The ring (R775, R778, R782) -/

/-- The severity by which rule 1 of R782 compares in the ring: ERROR and CRIT are one level. -/
def ringLevel (v : Nat) : Nat := if v = 5 then 4 else v

/-- The ring slots that hold a valid record. -/
def State.ringHeld (s : State) : List (Nat × Rec) := s.tally.ring.filterMap (fun e => e.2.map (fun r => (e.1, r)))

/-- The page of a ring slot (R778). -/
def ringPage (j : Nat) : Nat := 512 + j / 8

/-- The record in 32 bytes; `none` where its CRC does not match (R775). -/
def Rec.parse (x : BitVec 256) : Option Rec :=
  let l := bytesLe 32 x.toNat
  let f (i n : Nat) : Nat := ofBytesLe ((l.drop i).take n)
  if crc16 (l.take 30) = ofBytesBe (l.drop 30) then
    some { seq := f 0 4, bell := f 4 7, sev := f 11 1 / 32, cls := f 11 1 / 4 % 8, code := f 12 2, page := f 14 1, inst := f 15 1, p1 := f 16 4, p2 := f 20 4, p3 := f 24 4, rep := f 28 2 }
  else none

/-- Slot `i` of a ring page. -/
def ringSlot (b : BitVec 2048) (i : Nat) : BitVec 256 := b.extractLsb' (256 * i) 256

/-- A ring page with the record `r` in slot `i`. -/
def ringPut (b : BitVec 2048) (i : Nat) (r : Rec) : BitVec 2048 :=
  mixBits b ((BitVec.ofNat 256 (ofBytesLe r.bytes)).setWidth 2048 <<< (256 * i)) ((BitVec.allOnes 256).setWidth 2048 <<< (256 * i))

/-- The valid records of a ring page with their slots, in order. -/
def ringRecs (n : Nat) (b : BitVec 2048) : List (Nat × Rec) := (List.range 8).filterMap (fun i => (Rec.parse (ringSlot b i)).map (fun r => (8 * (n - 512) + i, r)))

/-- Ring page `n` as it would be with the records `l`, by ring slot, in it. -/
def State.ringBytes (s : State) (n : Nat) (l : List (Nat × Rec)) : BitVec 2048 :=
  l.foldl (fun b e => if ringPage e.1 = n then ringPut b (e.1 % 8) e.2 else b) (s.nvPage n).bytes

/-- Ring page `n` has been programmed with `b` (R752, R779). -/
def State.ringStore (s : State) (n : Nat) (b : BitVec 2048) : State :=
  (s.nvDone n { bytes := b }).onTally (fun t => { t with
    ring := t.ring.within 0 (8 * (n - 512)) ++ (ringRecs n b).map (fun e => (e.1, some e.2)) ++ t.ring.filter (fun e => decide (8 * (n - 511) ≤ e.1)) })

/-- The pages of ring slots, ascending and each once. -/
def ringPages (l : List Nat) : List Nat := sortKey (fun n => n) (l.map ringPage).eraseDups

/-- The records `l` go into their ring slots, each page programmed once (R779). -/
def State.ringProgram (s : State) (l : List (Nat × Rec)) : State := s.each (ringPages (l.map (fun e => e.1))) (fun s n => s.ringStore n (s.ringBytes n l))

/-- The slot of a ring in which a record goes, and the ring and the counts with it; `none` where it is dropped (R782). -/
def State.ringTake (s : State) (ring : SMap (Option Rec)) (r : Rec) : Option Nat × SMap (Option Rec) × State :=
  match pickSlot (firstGap ring 0 8192) [] (ring.filterMap (fun e => e.2.map (fun x => (e.1, x)))) (fun x => decide (ringLevel x.sev < ringLevel r.sev)) (fun x => decide (x.sev = r.sev))
      (decide (r.sev ≤ 3)) with
  | none => (none, ring, s.lost r.sev)
  | some (j, o) => (some j, SMap.set (fun _ => none) ring j (some r), s.countOver o)

/-! ### Flushes (R779) -/

/-- One pending record is given its ring slot, or is dropped (R782). -/
def flushOne (acc : SMap (Option Rec) × State) (x : Nat × BufSlot) : SMap (Option Rec) × State :=
  let r := acc.2.ringTake acc.1 x.2.rcd
  match r.1 with
  | none => (r.2.1, r.2.2.onTally (fun t => { t with buf := SMap.set (fun _ => none) t.buf x.1 (some { x.2 with pend := false, dropped := true }) }))
  | some j => (r.2.1, r.2.2.onTally (fun t => { t with flush := { t.flush with plan := t.flush.plan ++ [(x.1, x.2.rcd.seq, j)] } }))

/-- Insertion of a buffer slot into a list that is oldest first. -/
def insertOldest (x : Nat × BufSlot) (l : List (Nat × BufSlot)) : List (Nat × BufSlot) :=
  match l with
  | [] => [x]
  | y :: rest => if seqOlder x.2.rcd.seq y.2.rcd.seq then x :: y :: rest else y :: insertOldest x rest

/-- A flush starts: every pending record, oldest first, is given its place. -/
def State.flushPlan (s : State) : State :=
  (((s.bufHeld.filter (fun x => x.2.pend)).foldl (fun l x => insertOldest x l) []).foldl flushOne (s.tally.ring, s)).2

/-- The records that the running flush puts into ring page `n`: those whose buffer slot still holds them. -/
def State.planRecs (s : State) (n : Nat) : List (Nat × Rec) :=
  s.tally.flush.plan.filterMap (fun e => if ringPage e.2.2 = n then
    (match SMap.get (fun _ => none) s.tally.buf e.1 with | some b => if b.rcd.seq = e.2.1 then some (e.2.2, b.rcd) else none | none => none) else none)

/-- A buffer slot whose record `r` has been copied: it is in the ring, unless a repeat has meanwhile raised it to ERROR or above (R780, R781). -/
def BufSlot.copied (b : BufSlot) (r : Rec) : BufSlot :=
  let again := decide (r.sev < b.rcd.sev) && decide (4 ≤ b.rcd.sev)
  { b with pend := again, inRing := !again, dropped := false }

/-- Ring page `n` of the running flush has been programmed with `b`; its records are copied. -/
def State.planDone (s : State) (n : Nat) (b : BitVec 2048) : State :=
  let mine := s.tally.flush.plan.filter (fun e => decide (ringPage e.2.2 = n))
  let s1 := (s.ringStore n b).onTally (fun t => { t with flush := { t.flush with plan := t.flush.plan.filter (fun e => decide (ringPage e.2.2 ≠ n)) } })
  s1.each mine (fun s e =>
    match SMap.get (fun _ => none) s.tally.buf e.1, Rec.parse (ringSlot b (e.2.2 % 8)) with
    | some x, some r => if x.rcd.seq = e.2.1 then s.onTally (fun t => { t with buf := SMap.set (fun _ => none) t.buf e.1 (some (x.copied r)) }) else s
    | _, _ => s)

/-- The ring pages that the running flush has still to program, ascending. -/
def State.flushPages (s : State) : List Nat := ringPages (s.tally.flush.plan.map (fun e => e.2.2))

/-- Flush starts (R779): at once, or after the running one. -/
def State.flushNow (s : State) : State :=
  if s.tally.flush.running then s.onTally (fun t => { t with flush := { t.flush with queued := true } })
  else (s.onTally (fun t => { t with flush := { t.flush with running := true, deferred := false, lastStart := some s.clk.bell } })).flushPlan

/-- The flush that a record of severity `v` starts when it is created or raised to it (R779). -/
def State.flushFor (s : State) (v : Nat) : State :=
  if v < 4 then s
  else if v = 4 then
    match s.tally.flush.lastStart with
    | some b => if s.clk.bell < b + 65536 then s.onTally (fun t => { t with flush := { t.flush with deferred := true } }) else s.flushNow
    | none => s.flushNow
  else s.flushNow

/-- RECORD is raised for a record of severity INT_SEV or above (R794). -/
def State.recordInt (s : State) (v : Nat) : State :=
  if s.appFld Reg.TLY.CFG.INT_SEV ≤ v then s.raise Reg.TLY.INT_STATUS.RECORD else s

/-- A new record for a report (R780, R782, R784). A dropped record is counted in LOST and takes no SEQ. -/
def State.createRec (s : State) (r : Report) : State :=
  let held := s.bufHeld.map (fun x => (x.1, x.2.rcd))
  let free := (s.bufHeld.filter (fun x => !x.2.dropped && (x.2.inRing || !s.flushed x.2.rcd.sev))).map (fun x => (x.1, x.2.rcd))
  match pickSlot (firstGap s.tally.buf 0 2048) free held (fun x => decide (x.sev < r.sev)) (fun x => decide (x.sev = r.sev)) (decide (r.sev ≤ 3)) with
  | none => s.lost r.sev
  | some (k, o) =>
    let x : Rec := { seq := s.tally.seq, bell := r.bell, sev := r.sev, cls := r.cls, code := r.code, page := r.page, inst := r.inst,
                     p1 := r.p1, p2 := r.p2, p3 := r.p3, rep := 0 }
    let s1 := (s.countOver o).onTally (fun t => { t with
      buf := SMap.set (fun _ => none) t.buf k (some { rcd := x, pend := s.flushed r.sev, inRing := false, dropped := false }),
      last := some k, seq := (t.seq + 1) % 2 ^ 32 })
    (s1.recordInt r.sev).flushFor r.sev

/-- The most recently created record and its slot, if it is still held (R781). -/
def State.lastRec (s : State) : Option (Nat × BufSlot) :=
  match s.tally.last with
  | some k => (SMap.get (fun _ => none) s.tally.buf k).map (fun b => (k, b))
  | none => none

/-- The record or repeat for a report (R780, R781). -/
def State.record (s : State) (r : Report) : State :=
  if r.sev < s.minRecord then s
  else
    match s.lastRec with
    | some (k, b) =>
      if b.rcd.code = r.code && b.rcd.page = r.page && b.rcd.inst = r.inst && b.rcd.p1 = r.p1 && decide (b.rcd.rep < 0xFFFF) then
        let v := max b.rcd.sev r.sev
        let raised := decide (b.rcd.sev < r.sev)
        let pend := if b.inRing || b.dropped then b.pend || (raised && decide (4 ≤ v)) else s.flushed v
        let b1 := { b with rcd := { b.rcd with rep := b.rcd.rep + 1, bell := r.bell, sev := v }, pend, inRing := b.inRing && !pend }
        let s1 := s.onTally (fun t => { t with buf := SMap.set (fun _ => none) t.buf k (some b1) })
        if raised then (s1.recordInt v).flushFor v else s1
      else s.createRec r
    | none => s.createRec r

/-- The running flush ends with what it has still to program: FLUSHES, FLUSH_DONE, and the next one starts if one waits (R779). -/
def State.flushDone (s : State) : State :=
  let s0 := s.cond (match s.nvm.job with | some j => decide (512 ≤ j.1) && decide (j.1 < 1536) | none => false) (fun s => s.nvStart none none)
  let s1 := s0.each s0.flushPages (fun s n => s.planDone n (s.ringBytes n (s.planRecs n)))
  let s2 := s1.onTally (fun t => { t with flush := { t.flush with running := false, queued := false } })
  ((s2.cond s.tally.flush.queued State.flushNow).bump Reg.TLY.FLUSHES.FLUSHES).raise Reg.TLY.INT_STATUS.FLUSH_DONE

/-! ### Intake and queues (R785, R786) -/

/-- The QUEUE_OVF counter of a severity (R809, R810). -/
def queueOvf (v : Nat) : Fld :=
  match v with
  | 0 => Reg.ERR.QUEUE_OVF0.DEBUG
  | 1 => Reg.ERR.QUEUE_OVF0.INFO
  | 2 => Reg.ERR.QUEUE_OVF0.NOTICE
  | 3 => Reg.ERR.QUEUE_OVF0.WARN
  | 4 => Reg.ERR.QUEUE_OVF1.ERROR
  | 5 => Reg.ERR.QUEUE_OVF1.CRIT
  | 6 => Reg.ERR.QUEUE_OVF1.ALARM
  | _ => Reg.ERR.QUEUE_OVF1.FATAL

/-- A bit of an 8-bit set, set or cleared. -/
def bitTo (m : BitVec 8) (v : Nat) (b : Bool) : BitVec 8 :=
  if b then m ||| (1#8 <<< v) else m &&& ~~~(1#8 <<< v)

/-- Discards counted for severity `v` (R786). -/
def Tally.escOf (t : Tally) (v : Nat) : Nat := SMap.get (fun _ => 0) t.escCount v

/-- The queue in which the summary of severity `v` goes: CRIT for DEBUG to CRIT, its own for ALARM and FATAL (R786). -/
def escQueue (v : Nat) : Nat := if v ≤ 5 then 5 else v

/-- The summary report of severity `v`; P2 is filled at its record step. -/
def escReport (v bell : Nat) : Report :=
  { sev := escQueue v, cls := clsDevice, code := 0x3B01, page := 0x3B, inst := 0, p1 := v, p2 := 0, p3 := 0, bell }

/-- A flagged severity whose summary queue has a free entry queues its summary (R786). -/
def State.escalate (s : State) (v : Nat) : State :=
  let t := s.tally
  let q := t.queueOf (escQueue v)
  if t.escFlag.getLsbD v && decide (q.length < 8) then
    s.onTally (fun t => { t with
      queue := SMap.set (fun _ => []) t.queue (escQueue v) (q ++ [escReport v s.clk.bell]),
      escFlag := bitTo t.escFlag v false, escQueued := bitTo t.escQueued v true })
  else s

/-- Every flagged severity, highest first. -/
def State.escalateAll (s : State) : State := s.each [7, 6, 5, 4, 3, 2, 1, 0] State.escalate

/-- The report is placed in the queue of its severity, or discarded (R785, R786). -/
def State.enqueue (s : State) (r : Report) : State :=
  let q := s.tally.queueOf r.sev
  if q.length < 8 then s.onTally (fun t => { t with queue := SMap.set (fun _ => []) t.queue r.sev (q ++ [r]) })
  else
    let s1 := ((s.bumpSat (queueOvf r.sev)).raise Reg.ERR.INT_STATUS.ESCALATED).onTally (fun t => { t with
      escCount := SMap.set (fun _ => 0) t.escCount r.sev (t.escOf r.sev + 1),
      escFlag := if t.escQueued.getLsbD r.sev then t.escFlag else bitTo t.escFlag r.sev true })
    s1.escalateAll

/-- The report that intake takes: the highest severity at the head of a FIFO, the lowest page number of equal ones (R785). -/
def Tally.pick (t : Tally) : Option (Nat × Report) :=
  t.fifo.foldl (fun acc e => match e.2 with
    | [] => acc
    | r :: _ => match acc with
      | none => some (e.1, r)
      | some y => if y.2.sev < r.sev then some (e.1, r) else some y) none

/-- The head of the highest non-empty queue (R787). -/
def Tally.head (t : Tally) : Option Report :=
  [7, 6, 5, 4, 3, 2, 1, 0].findSome? (fun v => (t.queueOf v).head?)

/-- The head of queue `v` removed. -/
def State.dequeue (s : State) (v : Nat) : State :=
  s.onTally (fun t => { t with queue := SMap.set (fun _ => []) t.queue v ((t.queueOf v).tail) })

/-- The report as its record step sees it: a summary carries its discards in P2, and its count ends (R786). -/
def State.settleReport (s : State) (r : Report) : Report × State :=
  if r.code = 0x3B01 then
    ({ r with p2 := s.tally.escOf r.p1 },
     s.onTally (fun t => { t with escCount := SMap.set (fun _ => 0) t.escCount r.p1 0, escQueued := bitTo t.escQueued r.p1 false }))
  else (r, s)

/-- A notification to the fault service, at most 8 held per severity (R789). -/
def State.notify (s : State) (r : Report) : State :=
  let l := SMap.get (fun _ => []) s.tally.notes r.sev
  if l.length < 8 then s.onTally (fun t => { t with notes := SMap.set (fun _ => []) t.notes r.sev (l ++ [r]) })
  else s.bumpSat (queueOvf r.sev)

/-! ### Management cores (R790, R791) -/

/-- Core `c`. -/
def State.core (s : State) (c : Nat) : Core := SMap.get (fun _ => {}) s.tally.cores c

/-- Core `c` replaced. -/
def State.setCore (s : State) (c : Nat) (x : Core) : State :=
  s.onTally (fun t => { t with cores := SMap.set (fun _ => {}) t.cores c x })

/-- The live cores, lowest number first. -/
def State.liveCores (s : State) : List Nat := (List.range 8).filter (fun c => (s.core c).live)

/-- The live core with the fewest tasks, the lowest-numbered of equal ones (R791). -/
def State.fewestTasks (s : State) : Option Nat :=
  s.liveCores.foldl (fun acc c => match acc with
    | none => some c
    | some d => if (s.core c).tasks.length < (s.core d).tasks.length then some c else some d) none

/-- One task passes to the live core with the fewest (R791). -/
def State.moveTask (s : State) (task : Nat) : State :=
  match s.fewestTasks with
  | some c => s.setCore c { s.core c with tasks := (s.core c).tasks ++ [task] }
  | none => s

/-- Core `c` is held in reset, its tasks move, CORE_LOST (R791 steps 2 to 4); with no core left a FATAL report. -/
def State.dropCore (s : State) (c : Nat) : State :=
  let tasks := (s.core c).tasks
  let s1 := ((s.setCore c { live := false, lost := true, tasks := [] }).each tasks State.moveTask).raise Reg.ERR.INT_STATUS.CORE_LOST
  if s1.liveCores.isEmpty then s1.reportCode sevFatal 0x3B40 c c tasks.length 0 else s1

end Sys2Proof.Machine
end

