-- ==== Sys2Proof/Machine/Memories.lean ====
section
/-! DEFINITION. On-chip memories of chapter 15: retention and waking, bank words with errors, the march engine, operations of the parameter NVM. -/

namespace Sys2Proof.Machine

/-! ### Retention (R745) -/

/-- Parity slot `i` holds no OPEN or FULL paddock, and no paddock waits for its wake. -/
def State.parityUnused (s : State) (i : Nat) : Bool :=
  !(s.xlt.pads.any (fun e => decide (e.2.slot = some i) && (e.2.st = .opened || e.2.st = .full))) && !(s.xlt.waking.any (fun w => decide (w.2.2 = i)))

/-- The banks serve their owners: before MOUNT the march engine has them (R720), and after SEQ_DOWN they are off. -/
def State.banksRun (s : State) : Bool := match s.dev.st with | .off | .seqUp | .boot | .seqDown => false | _ => true

/-- Bank `b` is in retention (R745). -/
def State.retained (s : State) (b : Nat) : Bool :=
  s.pwr.standby || (s.banksRun &&
    (if b < 2 then false
     else if b < 10 then s.laneRetained (b - 2)
     else if b < 14 then decide (s.appFld Reg.SRM.RET_CTRL.AUTO_PARITY = 1) && s.parityUnused (b - 10)
     else if 15 ≤ b && b < 23 then !(s.core (b - 15)).live
     else false))

/-- RET_STATUS (R765): the banks in retention or waking. -/
def State.retStatus (s : State) : Nat :=
  ((List.range 24).map (fun b => if s.retained b || s.srm.waking.contains b || (s.xlt.waking.any (fun w => decide (w.2.2 + 10 = b))) then 2 ^ b else 0)).sum

/-- BANK_WAKE_END (R745): a bank is awake. With a parity slot the paddock that waits for it becomes OPEN (R172), unless its band has left Caldera meanwhile. -/
def execBankWakeEnd (bank : Nat) (s : State) : Res :=
  .next (match s.xlt.waking.find? (fun w => decide (w.2.2 + 10 = bank)) with
    | some (g, p, i) =>
      let s1 := s.onXlt (fun t => { t with waking := t.waking.filter (fun w => decide (w ≠ (g, p, i))) })
      if (s1.band g (p / 3)).st = .caldera then s1.openPadWith g p i else s1
    | none => { s with srm := { s.srm with waking := s.srm.waking.filter (fun b => decide (b ≠ bank)) } })

/-! ### Bank words with errors (R747) -/

/-- A lasting word of the pen pool: an uncommitted packet is rewound with cause 1; a committed or accepted request ends FAILED_POISON. -/
def State.poolWord (s : State) (item : Nat) : State :=
  if item < 2 ^ 20 then
    match s.penSlot (item / 64) (item % 64) with
    | some _ => s.rewind (item / 64) (item % 64) 1
    | none => s
  else s.onSreq (item - 2 ^ 20) (fun r => r.failWith 0x20 0 0)

/-- A lasting word of the history of lane `x`: the request on the lane ends FAILED_POISON. -/
def State.laneWord (s : State) (x : Nat) : State :=
  s.each (s.strm.reqs.filter (fun r => r.decoding && (match r.lane with | some (l, _, _) => decide (l = x) | none => false)))
    (fun s r => s.onSreq r.id (fun q => { q.failWith 0x20 0 0 with decoding := false }))

/-- A lasting word of parity slot `i`: its parity is invalid, and the paddock keeps the slot until it is CLOSED (R172). -/
def State.parityWord (s : State) (i : Nat) : State :=
  s.onXlt (fun t => { t with pads := t.pads.map (fun e => if e.2.slot = some i then (e.1, { e.2 with parBad := true }) else e) })

/-- A lasting word of the Tally buffer: the record of its slot is discarded and counted as lost. -/
def State.tallyWord (s : State) (k : Nat) : State :=
  match SMap.get (fun _ => none) s.tally.buf k with
  | some b => (s.onTally (fun t => { t with buf := SMap.set (fun _ => none) t.buf k none, last := if t.last = some k then none else t.last })).lost b.rcd.sev
  | none => s

/-- What the owner of a bank does after a lasting fault (R747). -/
def State.ownerLoses (s : State) (x : WordErr) : State :=
  if x.bank = 0 then s.onXlt (fun t => { t with staged := t.staged.map (fun e => if e.1 = x.item then (e.1, { e.2 with lost := true }) else e) })
  else if x.bank = 1 then s.poolWord x.item
  else if x.bank < 10 then s.laneWord (x.bank - 2)
  else if x.bank < 14 then s.parityWord (x.bank - 10)
  else if x.bank = 14 then s.reportCode sevFatal 0x3802 0 0 0 0
  else if x.bank < 23 then s.reportCode sevError 0x3802 (x.bank - 15) 0 0 0
  else s.tallyWord (x.word / 4)

/-- LAST_ERR (R768). -/
def State.srmLast (s : State) (x : WordErr) (lasting : Bool) : State :=
  ((s.setFlag Reg.SRM.LAST_ERR.LASTING lasting).setFld Reg.SRM.LAST_ERR.BANK x.bank).setFld Reg.SRM.LAST_ERR.WORD x.word

/-- A bank word is read with an error (R747). -/
def State.bankWord (s : State) (x : WordErr) : State :=
  match x.kind with
  | .corrected => (s.bump Reg.SRM.ECC_CORR.CORR).raise Reg.SRM.INT_STATUS.CORRECTED
  | .transient => ((s.bumpSat Reg.SRM.ECC_UNCORR.TRANSIENT).srmLast x false).reportCode sevNotice 0x3802 0 0 0 0
  | .lasting => (((s.bumpSat Reg.SRM.ECC_UNCORR.LASTING).srmLast x true).raise Reg.SRM.INT_STATUS.UNCORR).ownerLoses x

/-! ### The march engine (R749, R750) -/

/-- Bank `b` may be tested destructively in the present state (R750). -/
def State.mayWipe (s : State) (b : Nat) : Bool :=
  s.dev.st = .test || (s.retained b && (decide (2 ≤ b) && decide (b < 14) || decide (15 ≤ b) && decide (b < 23)))

/-- A write of MARCH_CTRL (R750, R762). -/
def State.marchCtrl (s : State) (src : Source) (w : Nat) : State :=
  if guardOf w ≠ 0xA9 then s.cfgErr 0x38 4 src.code 0x40 w
  else if !bitOf w 31 then s
  else if s.srm.march.isSome then s.cfgErr 0x38 6 src.code 0x40 w
  else
    let b := bitsOf w 4 0
    let m := bitsOf w 30 30
    if 23 < b || (decide (m = 0) && !s.mayWipe b) then s.cfgErr 0x38 2 src.code 0x40 w
    else (({ s with srm := { s.srm with march := some (b, m) } }).setFlag Reg.SRM.MARCH_STATUS.BUSY true).setFld Reg.SRM.MARCH_STATUS.BANK b

/-- A bank that has been tested destructively holds zeros (R749). -/
def State.zeroBank (s : State) (b : Nat) : State :=
  if b = 0 then s.onXlt (fun t => { t with staged := [], snaps := [] })
  else if b = 1 then { s with strm := {} }
  else if 10 ≤ b && b < 14 then
    s.onXlt (fun t => { t with parity := t.parity.filter (fun e => !(decide ((b - 10) * 81920 ≤ e.1) && decide (e.1 < (b - 9) * 81920))) })
  else if b = 14 then s.onXlt (fun t => { t with tail := [] })
  else if b = 23 then s.onTally (fun t => { t with buf := [], last := none })
  else s

/-- A pass has failed at a word (R749, R763). -/
def State.marchFailed (s : State) (word : Nat) : State :=
  ((s.setFld Reg.SRM.MARCH_STATUS.RESULT 2).setFld Reg.SRM.MARCH_STATUS.FAIL_WORD word).raiseRec Reg.SRM.INT_STATUS.MARCH_FAIL sevError clsDevice 0 0 0 0

/-- MARCH_PASS_END (R749): the pass in progress ends, with the first failing word if it failed. -/
def execMarchPassEnd (fail : Option Nat) (s : State) : Res :=
  .next (match s.srm.march with
    | some (b, m) =>
      let s1 := ({ s with srm := { s.srm with march := none } }).setFlag Reg.SRM.MARCH_STATUS.BUSY false
      let s2 := if m = 0 then s1.zeroBank b else s1
      let s3 := match fail with
        | some w => s2.marchFailed w
        | none => s2.setFld Reg.SRM.MARCH_STATUS.RESULT 1
      s3.raise Reg.SRM.INT_STATUS.MARCH_DONE
    | none => s)

/-! ### The parameter NVM (R752, R779) -/

/-- PNV_OPERATION_END (R752): the operation in progress ends, and the next begins: the first record that waits to be written, then the next ring page of a flush, else a READ of page `next`. The Vent page has an end of its own. -/
def execPnvOperationEnd (next : Option Nat) (phase : Nat) (s : State) : Res :=
  let s0 := s.at_ phase
  let s1 := match s0.nvm.job with
    | some t => if 512 ≤ t.1 && t.1 < 1536 then s0.planDone t.1 t.2.bytes else s0.nvDone t.1 t.2
    | none => (match s0.pnv.op with | some (.read _) => s0.moved 20 false 256 | _ => s0)
  .next (if s0.pnv.ventPend.isSome then s0
  else match nvRecs.find? s1.nvDirty, s1.flushPages with
    | some r, _ => let t := s1.nvTarget r; s1.nvStart (some (nvOp (s1.nvPage t.1) t)) (some t)
    | none, n :: _ => let t : Nat × NvPage := (n, { bytes := s1.ringBytes n (s1.planRecs n) }); s1.nvStart (some (nvOp (s1.nvPage n) t)) (some t)
    | none, [] => s1.nvStart (next.map PnvOp.read) none)

end Sys2Proof.Machine
end

