-- ==== Sys2Proof/Machine/Vent.lean ====
section
/-! DEFINITION. The Vent (R680 to R687, R887): what entry stops and freezes, what goes into the Vent bands and the PNV Vent page, Vent turns, the end; the device entering HALT (R15). -/

namespace Sys2Proof.Machine

/-! ### What a Vent writes (R682, R683) -/

/-- A list cut into pieces of `n`; `fuel` is the number of pieces at most. -/
def pieces {α : Type} (n fuel : Nat) (l : List α) : List (List α) :=
  match fuel with
  | 0 => []
  | k + 1 => if l.isEmpty then [] else l.take n :: pieces n k (l.drop n)

/-- The lines in use: snapshots oldest first, then the open segments' lines; keys as in the staging bank (R682). -/
def State.ventLines (s : State) : List (Nat × StLine) :=
  s.xlt.snaps.flatMap (fun x => x.lines.map (fun e => (stKey (x.lseg * 64 + e.1) x.group, e.2))) ++ s.xlt.staged

/-- The pages of the staging image, 50 lines each, with their index. -/
def State.ventImage (s : State) : List (Nat × List (Nat × StLine)) :=
  let l := s.ventLines
  ((pieces 50 (l.length / 50 + 1) l).zipIdx).map (fun e => (e.2, e.1))

/-- Every die of gang `g` that is not failed has its array domain on. -/
def State.gangUp (s : State) (g : Nat) : Bool := (List.range 20).all (fun i => s.dieFailed (dieNo g i) || s.pwr.dom.getLsbD (57 + 2 * dieNo g i))

/-- The gangs that take Vent data: fewer than three failed dies (R681), and their dies powered. -/
def State.ventGangs (s : State) : List Nat := s.gangIds.filter (fun g => decide (s.margin g < 3) && s.gangUp g)

/-- The Tally buffer as its 16 pages: the records in 128 slots each. -/
def State.ventRecords (s : State) : List VentPage :=
  (List.range 16).map (fun j => .records (((s.tally.buf.within (128 * j) (128 * (j + 1))).filterMap (fun e => e.2)).map (fun b => b.rcd)))

/-- The pages of gang `g` in order (R682): the journal tail, twice on the -17A; the Tally buffer; every n-th page of the image; the trailer. -/
def State.ventPages (s : State) (gs : List Nat) (img : List (Nat × List (Nat × StLine))) (g : Nat) : List VentPage :=
  let tail := s.xlt.tail.map VentPage.block
  tail ++ (match s.variant with | .v17A => tail | .v35A => []) ++ s.ventRecords ++
    ((img.filter (fun e => gs.getD (e.1 % gs.length) 0 = g)).map (fun e => VentPage.lines e.1 e.2)) ++ [.trailer]

/-- Vent rotations that `n` pages take: 16 pages a row batch, 16 row batches a rotation (R682). -/
def ventRots (n : Nat) : Nat := ceilDiv (ceilDiv n 16) 16

/-- A complete band holds its trailer page. -/
def VentBand.complete (b : VentBand) : Bool := decide (ventRots b.pages.length ≤ b.rots)

/-- The pages of a band that have been programmed. -/
def VentBand.written (b : VentBand) : List VentPage := b.pages.take (256 * b.rots)

/-- The Vent sequence number is taken, its LIMIT raised by steps of 64 where needed (R757). -/
def Pnv.nextVent (p : Pnv) : Pnv :=
  let n := p.ventSeq + 1
  { p with ventSeq := n, ventLimit := if p.ventLimit < n then n + 63 else p.ventLimit }

/-- The device epoch and each gang's NEXT_SEG have been restored by the mount in progress (R727). -/
def State.restored (s : State) : Bool := s.serving || decide (s.dev.step = 13)

/-- The device epoch to be saved. -/
def State.epochNow (s : State) : Nat := if s.restored then s.fld Reg.DRF.EPOCH.EPOCH else max s.pnv.epoch (s.fld Reg.DRF.EPOCH.EPOCH)

/-- NEXT_SEG of each gang to be saved. -/
def State.nextSegs (s : State) : List Nat :=
  (List.range 2).map (fun g => if s.restored then s.fld (Reg.SHP.POS.NEXT_SEG g) else SMap.get (fun _ => 0) s.pnv.shpPos g)

/-- The content of the PNV Vent page, with the final VENT record (R683). -/
def State.ventPnv (s : State) (fromHalt : Bool) (lines pages : Nat) : VentPnv :=
  { seq := s.pnv.ventSeq, epoch := s.epochNow, next := s.nextSegs, atRisk := s.flag Reg.HDM.STATUS.AT_RISK,
    rcd := { seq := s.tally.seq, bell := s.clk.bell, sev := sevNotice, cls := clsDevice, code := 0x3340, page := 0x33, inst := 0, p1 := lines,
             p2 := s.xlt.tail.length, p3 := 0, rep := 0 },
    fromVin := fromHalt, pages, bell := s.clk.bell }

/-- The lasting image of what `s` holds, for the gangs `gs`. -/
def State.imageOf (s : State) (gs : List Nat) (orderly : Bool) : VentImg :=
  let img := s.ventImage
  { seq := s.pnv.ventSeq, orderly,
    bands := gs.map (fun g => let p := s.ventPages gs img g; { gang := g, pages := p, rots := if orderly then ventRots p.length else 0 }) }

/-! ### What stops (R15, R680, R501, R632, R753) -/

/-- A gang's background work, fold, queues and normal rotation stop; an SLC turn in progress goes on, a TLC turn is aborted (R680). An idle turn shows until it ends (R887). -/
def Gang.stop (x : Gang) : Gang :=
  let keep := x.rota.kind = .slc && x.rota.ventTurn.isNone
  let show_ := keep || x.rota.kind = .idle
  { x with
    fold := {}, padVer := none, batches := [], ending := [], ended := false,
    placed := if keep then x.placed else [], sysRows := if keep then x.sysRows else [], sysq := [], sysEnding := [], bufs := [],
    shep := { x.shep with catchUps := [] },
    rota := { x.rota with on := false, ventTurn := none, idleLeft := 0,
                          kind := if show_ then x.rota.kind else .none, rotating := show_ && x.rota.rotating } }

/-- A cartridge slot sends nothing any more (R632). -/
def Zl.stop (z : Zl) : Zl :=
  { z with cmds := [], wdata := [], unacked := [], replay := 0, ackDue := false, nakDue := false, resp := none, dropping := false, mounting := false,
           degrading := false, copy := none, save := none }

/-- The stream engines, the cartridge slots, and all Drover, Shepherd, ring and cache maintenance work stop; what waits for a read or a rotation is dropped (R680). -/
def State.stopWork (s : State) : State :=
  let s1 := (s.stopStreams.onZl 0 Zl.stop).onZl 1 Zl.stop
  let s2 := { s1 with reads := { s1.reads with list := [], bg := [], short := [], second := [] }, ring := {}, caches := { s1.caches with maint := none } }
  let s3 := s2.onXlt (fun t => { t with rewrites := [], confirms := [], wtAcks := [], rebuilds := [], waking := [], parity := [] })
  (s3.onGang 0 Gang.stop).onGang 1 Gang.stop

/-- A PNV PROGRAM in progress stops, a PAGE_CLEAR completes (R753), and the PROGRAM of the Vent page starts. -/
def State.ventPage (s : State) (v : VentPnv) : State :=
  let s1 := (s.nvCut true).onPnv (fun p => { p with ventPend := some v })
  let t := { s1 with pnv := { s1.pnv with ventPage := some v } }.nvTarget .vent
  s1.nvStart (some (.program t.1 true)) (some t)

/-- The Vent turns of each gang for its band; its dies take data from now on, one that is in an SLC turn from its end on (R680, R681). -/
def State.planTurns (s : State) (img : VentImg) : State :=
  s.each img.bands (fun s b => s.onGang b.gang (fun x => { x with
    ventTurns := 10 * ventRots b.pages.length, ventFrom := s.now, ventSlow := if x.rota.kind = .slc then x.rota.turnEnd else 0 }))

/-- A Vent starts (R15, R680, R682, R683): work stops, what it writes is fixed, the PNV Vent page is programmed beside the bands. -/
def State.ventStart (s : State) (fromHalt : Bool) : State :=
  let s1 := s.onPnv Pnv.nextVent
  let gs := s1.ventGangs
  let img := s1.imageOf gs false
  let page := s1.ventPnv fromHalt s1.ventLines.length (if gs.isEmpty then 0 else s1.ventImage.length)
  let n := min (s.pnv.vents + 1) 0xFFFF
  let s2 := s1.stopWork.ventPage { page with total := n }
  let s3 := s2.onPnv (fun p => { p with vents := n, images := p.images.filter (fun i => !i.replayed) ++ [img] })
  ((s3.setFld Reg.VNT.LAST_VENT_BELL.BELL (s.clk.bell % 2 ^ 32)).setFld Reg.VNT.VENTS.TOTAL n).planTurns img

/-! ### The device goes down -/

/-- The link goes down with domain 46 (R437, R664). -/
def State.linkOff (s : State) : State := if s.link.up then s.linkReset else s

/-- SEQ_DOWN with what stops on the way: the link, the debug session (R824) and all work. -/
def State.goDown (s : State) (cause : Nat) : State := s.linkOff.endDebug.stopWork.enterSeqDown cause

/-- An orderly power-down, at PWR_REQ off: what the staging bank and the journal tail hold stays durable (R432), AT_RISK at the power-down counts at the next mount (R435), and what waits for the PNV is written before its rail goes (log
entry 112). -/
def State.orderlyDown (s : State) : State :=
  let keep := s.serving || s.dev.st = .mount
  let s1 := if keep then
      s.onPnv (fun p => { p with images := p.images.filter (fun i => !i.replayed) ++ [s.imageOf (s.gangIds.take 1) true], risky := s.flag Reg.HDM.STATUS.AT_RISK })
    else s
  (s1.nvFlush.nvStart none none).goDown 1

/-- VIN_COLLAPSE leads to VENT (R12, R680): VENT_N low; queued reports but FATAL are lost (R788). -/
def State.enterVent (s : State) : State :=
  let s1 := ((s.onTally (fun t => { t with flush := {} })).ventStart false).onPwr (fun p => { p with ventN := true, standbyWait := false, downAfterFlush := false })
  (((s1.setFlag Reg.PWR.STATUS.STANDBY false).loseQueued 7).onDev (fun d => { d with step := 0, resuming := false, rotaPending := false, haltVent := false })).toState .vent

/-! ### Turns and the end (R681, R686, R887) -/

/-- No SLC turn of the normal rotation is in progress in gang `g`. -/
def State.slcOver (s : State) (g : Nat) : Bool := !((s.rota g).kind = .slc)

/-- The Vent has written everything it writes. -/
def State.ventOver (s : State) : Bool :=
  s.venting && s.pnv.ventPend.isNone && s.gangIds.all (fun g => decide ((s.gang g).ventTurns = 0) && s.slcOver g)

/-- The end of a Vent: SEQ_DOWN, or HALT with FAULT_N; a PWR_REQ off that waited for it acts then (R12, R15, R680). -/
def State.ventCheck (s : State) : State :=
  if !s.ventOver then s
  else if s.dev.st = .vent then s.goDown 2
  else
    let s1 := (s.onDev (fun d => { d with haltVent := false })).onPwr (fun p => { p with faultN := true })
    if s1.pwr.downAfterFlush && !s1.tally.flush.running then s1.orderlyDown else s1

/-- The pair of dies whose Vent turn is next in a gang with `n` turns to run (R681). -/
def ventPair (n : Nat) : Nat := (10 - n % 10) % 10

/-- The pages of Vent rotation `k` of gang `g`, 16 a row batch (R682). -/
def State.ventRotPages (s : State) (g k : Nat) : List (Nat × VentPage) :=
  match s.pnv.images.getLast? with
  | some i => (match i.bands.find? (fun b => b.gang = g) with
    | some b => ((b.pages.zipIdx.map (fun e => (e.2, e.1))).drop (256 * k)).take 256
    | none => [])
  | none => []

/-- The 16 sectors of page `n` of the Vent: the bytes of a journal block; the bytes of the others are not given in full. -/
def ventSecs (seq g : Nat) (e : Nat × VentPage) : List SecImg :=
  match e.2 with
  | .block b => (List.range 16).map (fun q => sysSec (bytesSec ((b.bytes.drop (256 * q)).take 256)))
  | _ => (List.range 16).map (fun q => sysSec (Config.ventSec seq g e.1 q))

/-- The pages as a die programs them: row batch `n` div 16 of the Vent band. -/
def State.ventPagesOf (s : State) (g k : Nat) : List PageOf :=
  (s.ventRotPages g k).map (fun e =>
    let j := e.1 / 16
    (rowTile j, rowTileRow (ventBandNo s.pnv.ventSeq) j, 0, e.1 % 16, ventSecs s.pnv.ventSeq g e))

/-- Rotation in which gang `g` stands with `n` turns to run, of those of its band. -/
def State.ventRotNow (s : State) (g : Nat) : Nat :=
  match s.pnv.images.getLast? with
  | some i => (match i.bands.find? (fun b => b.gang = g) with | some b => b.rots | none => 0)
  | none => 0

/-- The data of the turn is in the program buffers of the dies of `pair` (R681): all 42 positions of every slot carry it, from the Vent's start on, or from the end of the SLC turn that went on. For later
rotations a die loads during the turns of the others. -/
def State.ventLoaded (s : State) (g pair : Nat) : Bool :=
  let x := s.gang g
  let k := s.ventRotNow g
  let need := 256 * ceilDiv (16 * (s.ventRotPages g k).length) 42
  let from_ (p : Nat) : Nat := if decide (x.rota.pos = p) && decide (x.ventFrom < x.ventSlow) then x.ventSlow else x.ventFrom
  decide (0 < k) || !s.flag Reg.BWT.CLK_STATUS.PLL_LOCKED ||
    [pair, pair + 10].all (fun p => s.dieFailed (dieNo g p) || decide (from_ p + need ≤ s.now))

/-- The LOAD and PROGRAM_SLC commands of a Vent turn on die position `p` (R101). -/
def State.ventDie (s : State) (g p : Nat) : State :=
  if s.dieFailed (dieNo g p) then s
  else
    let pages := s.ventPagesOf g (s.ventRotNow g)
    ({ s with out := s.out ++ pages.flatMap (loadCmds (dieNo g p) p) }).emit (.die (dieNo g p) 0x04 (programArgs pages))

/-- VENT_TURN_START (R681): at a bell boundary, or at any time while the PLL is unlocked and no boundary comes (R22; log entry 26), with no turn in progress, gang-local dies `pair` and `pair` + 10 program together; a failed die's turn has zero length. -/
def execVentTurnStart (gang pair : Nat) (s : State) : Res :=
  let x := s.gang gang
  .next (if s.venting && decide (gang < s.nGangs) && decide (0 < x.ventTurns) && s.slcOver gang && x.rota.ventTurn.isNone && decide (pair = ventPair x.ventTurns) && (decide (s.clk.phase = 0) || !s.flag Reg.BWT.CLK_STATUS.PLL_LOCKED) &&
      s.ventLoaded gang pair then
    let none_ := s.dieFailed (dieNo gang pair) && s.dieFailed (dieNo gang (pair + 10))
    ((s.onRota gang (fun r => { r with ventTurn := some pair, kind := .none, rotating := false, turnEnd := s.now + (if none_ then 0 else 8192) })).ventDie gang pair).ventDie gang (pair + 10)
  else s)

/-- The band of gang `g` of the Vent in progress has one more rotation. -/
def State.ventRot (s : State) (g : Nat) : State :=
  s.onPnv (fun p => { p with images := match p.images.getLast? with
    | some i => p.images.dropLast ++ [{ i with bands := i.bands.map (fun b => if b.gang = g then { b with rots := b.rots + 1 } else b) }]
    | none => [] })

/-- VENT_TURN_END (R681, R686): the Vent turn in progress ends; the tenth completes a Vent rotation, whose pages count in PROG_SEGS (R244). Vent turns are counted in no ROT counter (R887). -/
def execVentTurnEnd (gang : Nat) (s : State) : Res :=
  let x := s.gang gang
  .next (if s.venting && x.rota.ventTurn.isSome then
    let s1 := s.onGang gang (fun x => { x with ventTurns := x.ventTurns - 1, rota := { x.rota with ventTurn := none } })
    let n := (s.ventRotPages gang (s.ventRotNow gang)).length
    (if x.ventTurns % 10 = 1 then (s1.ventRot gang).bumpBy Reg.DRV.PROG_SEGS.PROG_SEGS n else s1).ventCheck
  else s)

/-- VENT_PNV_PAGE_DONE (R683): the PNV Vent page with its final VENT record is durable; the record has taken its SEQ. -/
def execVentPnvPageDone (s : State) : Res :=
  .next (match s.pnv.ventPend with
    | some v =>
      let s1 := (s.onPnv (fun p => { p with ventPage := some v, ventPend := none })).onTally (fun t => { t with seq := (v.rcd.seq + 1) % 2 ^ 32 })
      ((s1.nvWrite .vent).nvStart none none).ventCheck
    | none => s)

/-! ### HALT (R12, R15, R725, R787, R788, R882) -/

/-- On entry to HALT each cartridge slot powers down, without its events (R882). -/
def State.cartHalt (s : State) (n : Nat) : State :=
  if s.zlState n = zlEmpty then s else (s.onZl n Zl.stop).cartPowerOff n zlPoweringOff zlEmpty

/-- The device enters HALT for a FATAL record of code `code`, taken before the end of step 7 or not. From MOUNT, SERVICE and DEGRADED the Vent runs first, and FAULT_N follows (R15); an image
check that failed has no code. -/
def State.enterHalt (s : State) (code : Nat) (early : Bool) : State :=
  let flushes := s.serving || s.dev.st = .mount
  let s1 := ((s.setFld Reg.DEV.HALT_CODE.CODE code).setFlag Reg.DEV.HALT_CODE.EARLY early).raise Reg.DEV.INT_STATUS.HALTED
  let s2 := (s1.onDev (fun d => { d with step := 0, resuming := false, rotaPending := false, haltVent := flushes })).onPwr (fun p => { p with standbyWait := false })
  let s3 := if flushes then s2.ventStart true else s2.stopWork.onPwr (fun p => { p with faultN := true })
  ((s3.cartHalt 0).cartHalt 1).toState .halt

/-- The FATAL transition of R12: in the states that it names; elsewhere the state stays. -/
def State.fatal (s : State) (code : Nat) (early : Bool) : State :=
  match s.dev.st with
  | .boot | .mount | .service | .degraded | .test => s.enterHalt code early
  | _ => s

/-- What PWR_REQ off brings about (R12, R665, R676, R779): SEQ_DOWN after the stage in progress, or after a flush; from standby at once. -/
def State.powerOff (s : State) : State :=
  match s.dev.st with
  | .seqUp => s.onPwr (fun p => { p with offInSeq := true })
  | .boot | .mount | .service | .degraded | .test | .halt | .rma =>
    if s.pwr.standby then s.orderlyDown else s.flushNow.onPwr (fun p => { p with downAfterFlush := true, standbyWait := false })
  | _ => s

/-- A PWR_REQ off that a FATAL record of its clk went before follows now (R13). -/
def State.offLate (s : State) : State := if s.dev.offDue then (s.onDev (fun d => { d with offDue := false })).powerOff else s

end Sys2Proof.Machine
end

