-- ==== Sys2Proof/Machine/Faults.lean ====
section
/-! DEFINITION. Commands of the error aggregator, the handler, the Tally and the fault service (R785 to R791, R779, R796, R799, R800). -/

namespace Sys2Proof.Machine

/-! ### Intake and record steps -/

/-- Reports are queued and taken in (R788). -/
def State.intakeOpen (s : State) : Bool := decide (s.dev.st ≠ .off) && decide (s.dev.st ≠ .seqUp) && decide (s.dev.st ≠ .seqDown)

/-- The first report of the FIFO of page `p` is taken out. -/
def State.takeReport (s : State) (p : Nat) : State :=
  s.onTally (fun t => { t with fifo := SMap.set (fun _ => []) t.fifo p ((t.fifoOf p).tail) })

/-- REPORT_INTAKE (R785, R786, R788): the aggregator takes one report, which fixes its BELL, into the queue of its severity. A FATAL one before the end of step 7 leads to HALT at once and is kept for
the next start. -/
def execReportIntake (phase : Nat) (s : State) : Res :=
  let s0 := s.at_ phase
  .next (match s0.intakeOpen, s0.tally.pick with
    | true, some (p, r) =>
      let r1 := { r with bell := s0.clk.bell }
      let s1 := s0.takeReport p
      if r.sev = 7 && !s0.dev.tallyReady && s0.dev.st = .boot then (s1.onPnv (fun n => { n with early := some r1 })).fatal r.code true
      else s1.enqueue r1
    | _, _ => s0)

/-- The final VENT record takes the code of a FATAL record of that time in P3 (R687). -/
def State.ventFatal (s : State) (code : Nat) : State :=
  s.onPnv (fun p => { p with ventPend := p.ventPend.map (fun v => { v with rcd := { v.rcd with p3 := code } }) })

/-- ERR.REPORTS and ERR.LAST (R808, R811). -/
def State.handled (s : State) (r : Report) : State :=
  (((s.bump Reg.ERR.REPORTS.COUNT).setFld Reg.ERR.LAST.SEV r.sev).setFld Reg.ERR.LAST.PAGE r.page).setFld Reg.ERR.LAST.CODE r.code

/-- RECORD_STEP (R787, R788): the handler takes the head of the highest queue that is not empty and makes its record or repeat; a notification for ERROR and above; HALT for FATAL. It makes none before
the end of step 7 or while the Tally buffer is frozen; a FATAL report of a Vent goes into the PNV Vent page. -/
def execRecordStep (phase : Nat) (s : State) : Res :=
  let s0 := s.at_ phase
  .next (if !s0.intakeOpen || !s0.dev.tallyReady || s0.dev.haltVent || s0.outranked 2 then s0
  else match s0.tally.head with
    | some h =>
      let x := ((s0.dequeue h.sev).onTally (fun t => { t with stepTill := s0.now + 6, stepSev := h.sev })).settleReport h
      if s0.dev.st = .vent then (x.2.handled x.1).ventFatal x.1.code
      else
        let s1 := (x.2.record x.1).handled x.1
        let s2 := (if 4 ≤ x.1.sev then s1.notify x.1 else s1).escalateAll
        if x.1.sev = 7 then (s2.fatal x.1.code false).offLate else s2
    | none => s0)

/-- FAULT_SERVICE_NOTIFICATION (R789): the service, on the lowest-numbered live core, takes the oldest notification of the highest severity. -/
def execFaultServiceNotification (s : State) : Res :=
  .next (match s.liveCores, [7, 6, 5, 4].find? (fun v => !(SMap.get (fun _ => []) s.tally.notes v).isEmpty) with
    | _ :: _, some v => s.onTally (fun t => { t with notes := SMap.set (fun _ => []) t.notes v ((SMap.get (fun _ => []) t.notes v).tail) })
    | _, _ => s)

/-- WATCHDOG_EXPIRY (R791): core `core` has missed WDOG_FLOCKS flock boundaries. Its L1 is cleaned and invalidated, the core is reset, its tasks move, and the ERROR record is offered. -/
def execWatchdogExpiry (core : Nat) (s : State) : Res :=
  .next (if core < 8 && (s.core core).live then
    let n := (s.core core).tasks.length
    let s1 := s.maintRun { op := 3, mode := 2, cache := 5 + core, lines := 0 }
    (s1.dropCore core).reportCode sevError 0x3B40 core core n 0
  else s)

/-! ### Flushes and reads of records -/

/-- A write of TLY.CTRL (R796): with its GUARD, FLUSH starts a flush. -/
def State.tlyCtrl (s : State) (src : Source) (w : Nat) : State :=
  if guardOf w ≠ 0x71 then s.cfgErr 0x3A 4 src.code 0x44 w
  else if bitOf w 0 then s.flushNow else s

/-- FLUSH_START (R779): 2^16 bells after the start of the previous flush, a flush that an ERROR record deferred starts. -/
def execFlushStart (s : State) : Res :=
  let f := s.tally.flush
  .next (if f.deferred && (match f.lastStart with | some b => decide (b + 65536 ≤ s.clk.bell) | none => true) then
    (s.onTally (fun t => { t with flush := { t.flush with deferred := false } })).flushNow
  else s)

/-- A write of TLY.READ_SEL (R799): the record INDEX places back from the newest is captured, and READY clears. -/
def State.tlyReadSel (s : State) (w : Nat) : State :=
  let ring := bitOf w 16
  let l := newestFirst (if ring then s.ringHeld.map (fun x => x.2) else s.bufHeld.map (fun x => x.2.rcd))
  let s1 := (((s.setFlag Reg.TLY.READ_SEL.READY false).setFlag Reg.TLY.READ_SEL.VALID false).setFlag Reg.TLY.READ_SEL.RING ring).setFld Reg.TLY.READ_SEL.INDEX (bitsOf w 12 0)
  s1.onTally (fun t => { t with sel := l[bitsOf w 12 0]? })

/-- READ_SEL_READY (R799, R800): READY, and REC0 to REC7 with byte 4n in bits [31:24]; zeros where there is no record. -/
def execReadSelReady (s : State) : Res :=
  let b := match s.tally.sel with | some r => r.bytes | none => []
  let word (n : Nat) : Nat := (List.range 4).foldl (fun w i => w * 256 + b.getD (4 * n + i) 0) 0
  let s1 := s.each (List.range 8) (fun s n => s.setFld (Reg.TLY.REC.REC n) (word n))
  .next ((s1.setFlag Reg.TLY.READ_SEL.READY true).setFlag Reg.TLY.READ_SEL.VALID s.tally.sel.isSome)

end Sys2Proof.Machine
end

