-- ==== Sys2Proof/Machine/Housekeeping.lean ====
section
/-! DEFINITION. The housekeeping round and hold-up (R657, R667 to R674, R677 to R679, R886): rails, VIN, VHOLD, load tests, sensors, the thermal level. -/

namespace Sys2Proof.Machine

/-- `s` with the housekeeping state changed by `f`. -/
def State.onHk (s : State) (f : Hk → Hk) : State := { s with hk := f s.hk }

/-- The states in which temperatures are judged (R886). -/
def State.judging (s : State) : Bool :=
  (match s.dev.st with | .boot | .mount | .service | .degraded | .test | .halt | .rma => true | _ => false) && !s.pwr.standby && !s.dev.resuming

/-! ### Rails (R667, R669) -/

/-- A channel is judged: its rail or domain is on and in no transition, VDD_AON always, the others from the end of SEQ_UP to SEQ_DOWN, but not while a resume switches them on (R667, R669). -/
def State.judged (s : State) (c : Nat) : Bool :=
  s.channelOn c && (decide (c = 92) ||
    ((match s.dev.st with | .off | .seqUp | .seqDown => false | _ => true) && !s.dev.resuming))

/-- A channel is judged faulty: HKA fault registers; a die's rail fails the die, a controller rail is FATAL (R667). -/
def State.railFault (s : State) (c : Nat) (v : Int) : State :=
  let f := Reg.HKA.FAULT_MAP.FAULT (c / 32)
  let s1 := ((s.setFld f (s.fld f ||| 2 ^ (c % 32))).setFld Reg.HKA.LAST_FAULT.CHANNEL c).setFld Reg.HKA.LAST_FAULT.VALUE (ofSigned 16 v)
  if c < 40 then (s1.raise Reg.HKA.INT_STATUS.RAIL_FAULT).dieFail c 2
  else if c < 80 then (s1.raise Reg.HKA.INT_STATUS.RAIL_FAULT).dieFail (c - 40) 3
  else if s1.pwr.standby && decide (93 ≤ c) then (s1.raise Reg.HKA.INT_STATUS.RAIL_FAULT).onPwr (fun p => { p with keptFault := some c })
  else if 93 ≤ c && c ≤ 104 then s1.raiseRec Reg.HKA.INT_STATUS.RAIL_FAULT sevFatal clsDevice 0 0 0 0
  else s1.raise Reg.HKA.INT_STATUS.RAIL_FAULT

/-- One sample is taken in; the second out of window in a row is a fault. -/
def State.takeSample (s : State) (x : HkIn) : State :=
  let old := SMap.get (fun _ => ({} : HkSample)) s.hk.ch x.channel
  let out := s.judged x.channel && (match s.windowNow x.channel with | some w => !Sys2Proof.Machine.inWindow w.1 w.2 x.value | none => false)
  let n := if out then old.outs + 1 else 0
  let s1 := s.onHk (fun h => { h with ch := SMap.set (fun _ => ({} : HkSample)) h.ch x.channel { code := x.code, value := x.value, outs := n } })
  if n = 2 then s1.railFault x.channel x.value else s1

/-- The value of a channel in this round, if it was sampled. -/
def hkValue (l : List HkIn) (c : Nat) : Option Int := (l.find? (fun x => x.channel = c)).map (fun x => x.value)

/-! ### VIN and input power (R657, R670) -/

/-- VIN outside 2.7 to 5.5 V on two rounds in a row is recorded once. -/
def State.vinRound (s : State) (l : List HkIn) : State :=
  match hkValue l 105 with
  | none => s
  | some v =>
    let n := if v < 2700 || 5500 < v then s.pwr.vinOut + 1 else 0
    let s1 := s.onPwr (fun p => { p with vinOut := n })
    if n = 2 then s1.raiseRec Reg.HKA.INT_STATUS.VIN_WINDOW sevWarn clsDevice 0 0 0 0 else s1

/-- The round's input power joins the flock's average. -/
def State.powerRound (s : State) (l : List HkIn) : State :=
  match hkValue l 105, hkValue l 107 with
  | some v, some i => s.onHk (fun h => { h with powerSum := h.powerSum + (v * i / 1000).toNat, powerN := h.powerN + 1 })
  | _, _ => s

/-! ### VHOLD (R433, R677 to R679) -/

/-- VHOLD of the last round in mV. -/
def State.vhold (s : State) : Nat := s.fld Reg.VNT.STATUS.VHOLD

/-- The boost charges VHOLD: it is on, not stopped for a load test, and VHOLD is below 11.0 V (R677, R712). -/
def State.charging (s : State) : Bool := s.pwr.boost && !s.hk.testing && decide (s.vhold < 11000)

/-- What the loss of qualification does to writes in service (R46, R433): write-through begins, every staged segment closes, AT_RISK is set. -/
def State.riskBegin (s : State) : State :=
  let s1 := s.each s.openSegs (fun s x => s.closeSeg x.1 x.2)
  let s2 := (s1.onXlt (fun t => { t with wtFlock := some s.flock })).onLink (fun l => { l with riskSegs := s1.xlt.snaps.map (fun x => x.id), riskBlocks := s1.xlt.tail.map (fun b => b.seq) })
  ((((s2.setFlag Reg.HDM.STATUS.AT_RISK true).raiseRec Reg.HDM.INT_STATUS.AT_RISK sevWarn clsDevice 0 0 0 0).event 2 1 [0]).riskCheck)

/-- VHOLD loses qualification (R679); a repeat test in progress ends with it, since qualification is sought again from the start. -/
def State.loseVhold (s : State) : State :=
  let s1 := (s.settle.onHk (fun h => { h with vholdQual := false, vholdGood := 0, testing := false })).raise Reg.VNT.INT_STATUS.QUAL_LOST
  if s1.serving || s1.dev.st = .mount then s1.riskBegin else s1

/-- VHOLD becomes qualified (R678): write-through ends, its waiting writes are acknowledged (R46), AT_RISK ends (R433). -/
def State.qualify (s : State) : State :=
  let acks := s.xlt.wtAcks
  let s1 := (s.settle.onHk (fun h => { h with vholdQual := true })).onXlt (fun t => { t with wtFlock := none, wtAcks := [] })
  let s2 := (s1.each acks (fun s a => s.sendCmp a.tag s.now)).raise Reg.VNT.INT_STATUS.QUALIFIED
  if s2.flag Reg.HDM.STATUS.AT_RISK then s2.riskEnd else s2

/-- A load test starts: the boost stops, VHOLD is noted (R678). -/
def State.testStart (s : State) : State := s.onHk (fun h => { h with testing := true, testStart := s.vhold, vholdGood := 0 })

/-- The judgement of VHOLD in a round (R678, R679); in VENT it is only read (R687). -/
def State.vholdRound (s : State) (l : List HkIn) : State :=
  match hkValue l 106 with
  | none => s
  | some v =>
    let s0 := s.setFld Reg.VNT.STATUS.VHOLD v.toNat
    let low := if v < 10000 then s.hk.vholdLow + 1 else 0
    let good := if s.hk.testing || v < 10500 then 0 else s.hk.vholdGood + 1
    let s1 := s0.onHk (fun h => { h with vholdLow := low, vholdGood := good })
    let current := match hkValue l 110 with | some i => decide (i < 15) || decide (25 < i) | none => false
    if s1.dev.st = .vent then s1
    else if s1.hk.vholdQual then
      (if low = 2 || (s1.charging && current) then s1.loseVhold else s1)
    else if s1.pwr.boost && !s1.hk.testing && decide (16 ≤ good) then s1.testStart else s1

/-- LOAD_TEST_END (R678, R679, R713): the estimate C = 20 mA × 4.096 ms ÷ ΔV in µF, and the test's result. Where the quotient is not a 16-bit number, EST_UF is a free value. -/
def execLoadTestEnd (s : State) : Res :=
  .next (if !s.hk.testing then s
  else
    let dv := s.hk.testStart - s.vhold
    let d := s.draw 16
    let s0 := if dv ≤ 1 then d.2.setFld Reg.VNT.CAP_EST.EST_UF d.1 else s.setFld Reg.VNT.CAP_EST.EST_UF (81920 / dv.toNat)
    let s1 := s0.onHk (fun h => { h with testing := false, testBell := s.clk.bell, vholdGood := 0 })
    if dv * (s.appFld Reg.VNT.CAP_EST.MIN_UF : Int) ≤ 81920 then (if s1.hk.vholdQual then s1 else s1.qualify)
    else
      let s2 := s1.raise Reg.VNT.INT_STATUS.TEST_FAIL
      if s2.hk.vholdQual then s2.loseVhold else s2)

/-- VHOLD_RETEST (R678): 2^24 bells after the last test, a qualified VHOLD is tested again; it stays qualified during the test. -/
def execVholdRetest (s : State) : Res :=
  .next (if s.hk.vholdQual && !s.hk.testing && s.pwr.boost && decide (s.hk.testBell + 2 ^ 24 ≤ s.clk.bell) then s.testStart else s)

/-! ### Sensors (R671, R672, R674) -/

/-- A sensor takes a reading: the last one, kept with 256 earlier ones. -/
def Sensor.read (x : Sensor) (code : Nat) (t : Int) : Sensor := { x with code, temp := t, hist := (t :: x.hist).take 257 }

/-- A reading lies in range: −40 to 150 °C, and a code that is neither all zeros nor all ones (R671). -/
def inRange (code : Nat) (t : Int) : Bool := decide (-640 ≤ t) && decide (t ≤ 2400) && decide (code ≠ 0) && decide (code ≠ 0xFFF)

/-- The judgement of R671: the sensor afterwards, and whether it became broken. -/
def Sensor.judge (x : Sensor) (code : Nat) (t : Int) : Sensor × Bool :=
  let changed := decide (code ≠ x.code)
  let same := if changed then 0 else x.same + 1
  let y := { x.read code t with same }
  if x.broken then
    let good := if inRange code t && changed then x.good + 1 else 0
    ({ y with good, broken := decide (good < 64) }, false)
  else
    let bad := !inRange code t || decide (64 ≤ same)
    ({ y with good := 0, broken := bad }, bad)

/-- The counts of consecutive rounds start again; at the start of BOOT every action is armed (R674, R886). -/
def Sensor.restart (arm : Bool) (x : Sensor) : Sensor :=
  { x with same := 0, good := 0, warnBelow := 0, critBelow := 0, trip := 0, warnArmed := x.warnArmed || arm, critArmed := x.critArmed || arm }

/-- All of them. -/
def State.restartCounts (s : State) (arm : Bool) : State :=
  s.onHk (fun h => { h with fallRounds := 0, sensors := SMap.mapv (fun _ => ({} : Sensor)) (fun _ x => x.restart arm) h.sensors })

/-- The controller sensor readings of a round, as (key, code, reading), and those of the dies. -/
def roundTemps (l : List HkIn) (t : List DieTemp) : List (Nat × Nat × Int) :=
  t.map (fun x => (x.die, x.code, x.value)) ++ (l.filter (fun x => decide (80 ≤ x.channel) && decide (x.channel < 92))).map (fun x => (x.channel - 80 + 0x40, x.code, x.value))

/-- One reading is taken in and, in the states that judge, judged; a die's TEMP follows (R108, R120). DESIGN CHOICE (log entry 106): the spec does not
say how a reading in 1/16 °C becomes a whole number of °C; it is rounded down. -/
def State.takeTemp (s : State) (x : Nat × Nat × Int) : State :=
  let s0 := if x.1 < s.nDies then s.setFld (Reg.MED.DIE_STATUS.TEMP (dieStack x.1) (diePos x.1)) (ofSigned 8 (x.2.2 / 16)) else s
  if s.sensorKeys.contains x.1 then
    if s.judging then
      let j := (s.sensor x.1).judge x.2.1 x.2.2
      let s1 := s0.setSensor x.1 j.1
      if j.2 then s1.raiseRec Reg.THM.INT_STATUS.BROKEN sevWarn clsDevice 0 x.1 0 0 else s1
    else s0.setSensor x.1 ((s.sensor x.1).read x.2.1 x.2.2)
  else s0

/-- WARN, CRIT and TRIP actions of sensor `k` (R674): margin of 3 °C for 1,024 rounds before an action is armed again. -/
def State.sensorActs (s : State) (k : Nat) : State :=
  let x := s.sensor k
  let e := s.effReading k
  let wb := if e < s.thmWarn - 48 then x.warnBelow + 1 else 0
  let cb := if e < s.thmCrit - 48 then x.critBelow + 1 else 0
  let warn := x.warnArmed && decide (s.thmWarn ≤ e)
  let crit := x.critArmed && decide (s.thmCrit ≤ e)
  let tr := if !s.masked k && !x.broken && decide (s.thmTrip ≤ x.temp) then x.trip + 1 else 0
  let y := { x with warnBelow := wb, critBelow := cb, trip := tr, warnArmed := (x.warnArmed && !warn) || decide (1024 ≤ wb), critArmed := (x.critArmed && !crit) || decide (1024 ≤ cb) }
  let s1 := s.setSensor k y
  let s2 := if warn then (s1.raiseRec Reg.THM.INT_STATUS.WARN sevWarn clsDevice 0 0 0 0).event 2 1 [1, k] else s1
  let s3 := if crit then (s2.raiseRec Reg.THM.INT_STATUS.CRIT sevError clsDevice 0 0 0 0).event 2 1 [2, k] else s2
  if tr = 2 then (s3.erupt 0x10).raiseRec Reg.THM.INT_STATUS.TRIP sevFatal clsDevice 0 0 0 0 else s3

/-! ### The thermal level (R673) -/

/-- A level is decided: shown, and posted for the next flock boundary (R47). -/
def State.decideLevel (s : State) (n : Nat) : State :=
  (((s.onHk (fun h => { h with level := n, fallRounds := 0 })).setFld Reg.THM.STATUS.DECIDED n).raise Reg.THM.INT_STATUS.LEVEL_DECIDED).postLat none (some n)

/-- The decision of a round: a rise at once to the highest level that holds, a fall by one after 1,024 rounds. -/
def State.levelRound (s : State) : State :=
  let h := s.hottest
  let ror := s.sensorKeys.any s.rorExceeded
  let s1 := (s.setFld Reg.THM.STATUS.HOTTEST_ID h.1).setFld Reg.THM.STATUS.HOTTEST (ofSigned 16 h.2)
  let s2 := if ror then s1.raise Reg.THM.INT_STATUS.ROR else s1
  let held := s.levelHeld h.2 ror
  let l := s.hk.level
  if l < held then s2.decideLevel held
  else if 0 < l && decide (h.2 < s.levelTemp l - 48) && !(decide (l = 1) && ror) then
    if s.hk.fallRounds + 1 = 1024 then s2.decideLevel (l - 1) else s2.onHk (fun k => { k with fallRounds := k.fallRounds + 1 })
  else s2.onHk (fun k => { k with fallRounds := 0 })

/-- HOUSEKEEPING_ROUND (R668, R669, R886): the samples of the channels and of the dies' sensors; the round runs in every state while VIN is present. -/
def execHousekeepingRound (samples : List HkIn) (temps : List DieTemp) (s : State) : Res :=
  .next (if !s.dev.por then s
  else
    let l := samples.filter (fun x => decide (x.channel < 111) || (decide (124 ≤ x.channel) && decide (x.channel < 128)))
    let s1 := (((s.bump Reg.HKA.ROUNDS.ROUNDS).each l State.takeSample).vinRound l).powerRound l
    let s2 := (s1.vholdRound l).each (roundTemps l temps) State.takeTemp
    if s2.judging then (s2.each s2.sensorKeys State.sensorActs).levelRound else s2)

end Sys2Proof.Machine
end

