-- ==== Sys2Proof/Machine/StartUp.lean ====
section
/-! DEFINITION. Start-up in BOOT and the bring-up of MOUNT (R397, R551, R718 to R725, R113): fuses, MBIST, PNV recovery, Tally and alarm restore, image selection, keys, DRAM, dies. -/

namespace Sys2Proof.Machine

/-- A boot failure (R725, R740): BOOT_FAIL, HALT with code 0x0040 and EARLY. -/
def State.bootFail (s : State) (step cause detail : Nat) : State :=
  (((s.setFld Reg.DEV.BOOT_FAIL.STEP step).setFld Reg.DEV.BOOT_FAIL.CAUSE cause).setFld Reg.DEV.BOOT_FAIL.DETAIL detail).enterHalt 0x0040 true

/-- The next step begins. -/
def State.nextStep (s : State) : State := s.onDev (fun d => { d with step := d.step + 1 })

/-! ### Steps 3 to 7 -/

/-- Step 3 (R719): the fuse array; serial number and the fuse bits show in ATT (R600, R601). -/
def State.stepFuses (s : State) (o : StepOut) : State :=
  if !o.fuseOk then s.bootFail 3 1 0
  else
    let s1 := s.each (List.range 4) (fun s n => s.setFld (Reg.ATT.SERIAL.SERIAL n) (bitsOf Config.serial.toNat (127 - 32 * n) (96 - 32 * n)))
    ((((s1.setFlag Reg.ATT.FUSES.RMA_SEALED s.pnv.sealed).setFlag Reg.ATT.FUSES.KEY1_REVOKED (Config.keyRevoked 1)).setFlag Reg.ATT.FUSES.KEY0_REVOKED
      (Config.keyRevoked 0)).setFlag Reg.ATT.FUSES.CUSTOMER_KEY_SET Config.customerSet).nextStep

/-- A record without a valid copy is reported (R758, R774). -/
def State.noValidCopy (s : State) (r : NvRec) : State :=
  ((s.setFld Reg.PNV.LAST_INVALID.TYPE r.ty).setFld Reg.PNV.LAST_INVALID.PAGE r.page).raiseRec Reg.PNV.INT_STATUS.NO_VALID_COPY sevError clsDevice 0 0 0 0

/-- A record is read (R755); one without a valid copy is reported, and an ordinary counter is then taken as 0 (R758). -/
def State.readRec (s : State) (r : NvRec) : State :=
  match s.nvSays r with
  | some x => s.onPnv (fun p => p.put r x)
  | none => (s.noValidCopy r).onPnv (fun p => p.put r .none)

/-- The action of R760 on the newest valid intent record: an interrupted erasure is completed, since a clear has no staging page; an interrupted installation whose intent record was durable (`open_`) is completed, or rolled back where a
staging page is invalid. -/
def State.recoverIntent (s : State) (open_ bad : Bool) : State :=
  let seq (s : State) : State := s.setFld Reg.PNV.RECOVERY_SEQ.SEQ s.pnv.seq
  let done (s : State) : State := ((seq s).setFld Reg.PNV.STATUS.RECOVERY 1).raise Reg.PNV.INT_STATUS.COMPLETED
  if s.pnv.erasing then done (s.onPnv (fun p => { p with erasing := false, keys := [], ck := false, inst := none }))
  else match s.pnv.inst with
    | some x =>
      let s1 := s.onPnv (fun p => { p with inst := none })
      if !open_ then s1
      else if bad then ((seq s1).setFld Reg.PNV.STATUS.RECOVERY 2).raise Reg.PNV.INT_STATUS.ROLLED_BACK
      else done (s1.onPnv (fun p => { p with ck := true, keys := SMap.set (fun _ => {}) p.keys x.1 x.2 }))
    | none => s

/-- What the PNV holds is loaded: region and generation tables, counts, sequence numbers that start after their LIMIT, and a LIMIT one STEP above (R757, R864; a Vent finds its number covered). Passes that a power-down interrupted start again (R546). -/
def State.loadPnv (s : State) : State :=
  let s1 := s.onPnv (fun p => { p with
    ventSeq := p.ventLimit, ventLimit := p.ventLimit + 64, seq := p.seqLimit, seqLimit := p.seqLimit + 64, vents := max p.vents (p.ventPage.elim 0 (fun v => v.total)) })
  let regions := s1.pnv.regions
  let first (i : Nat) : Nat := (SMap.get (fun _ => ({} : Region)) regions i).first
  let gens := SMap.mapv (fun _ => {}) (fun i g => { g with advancing := 0, passTarget := if g.passActive then g.cur else g.passTarget, passPos := if g.passActive then first i * 4096 else g.passPos }) s1.pnv.gens
  let s2 := s1.onProt (fun p => { p with regions, staged := regions, gens })
  let s3 := ((s2.setFld Reg.VNT.VENTS.TOTAL s2.pnv.vents).setFld Reg.VNT.VENTS.INCOMPLETE s2.pnv.ventsBad).setFld Reg.ALM.COUNTS.ERUPTIONS s2.pnv.eruptions
  let s4 := (s3.setFld Reg.HDM.DIRTY_SHUTDOWNS.COUNT s3.pnv.dirty).setFld Reg.ATT.ROLLBACK.COUNTER s3.pnv.rollback
  s4.each (List.range 5) (fun s k => s.setFld (Reg.PNV.PART_MAX.MAX k)
    (min 0xFFFFF (s.pnv.programs.foldl (fun m e => if pnvPart e.1 = k then max m e.2 else m) 0)))

/-- Step 6 (R721, R758, R760): recovery, then every other record is read, then a pending Eruption; a configuration or keys record, or a security counter, without a valid copy is a boot failure. -/
def State.stepPnv (s : State) (o : StepOut) : State :=
  let s0 := (s.each o.lost (fun s e => s.setNv e.1 { s.nvPage e.1 with bytes := (s.nvPage e.1).bytes ^^^ e.2 })).moved 20 false (256 * (nvRecs.map (fun r => r.pages.length)).sum)
  let s1 := (nvRecs.drop 1).foldl State.readRec (s0.readRec .intent)
  let s2 := s1.recoverIntent o.intentOpen o.intentBad
  if nvRecs.any (fun r => r.vital && (s0.nvSays r).isNone) then s2.eruptLatched.bootFail 6 3 0 else s2.loadPnv.nvFlush.eruptLatched.nextStep

/-- SEQ after the newest of the ring records and the final VENT record (R722, R784). -/
def State.resumeSeq (s : State) : Nat :=
  match newestFirst (s.ringHeld.map (fun x => x.2) ++ (s.pnv.ventPage.map (fun v => v.rcd)).toList) with
  | r :: _ => (r.seq + 1) % 2 ^ 32
  | [] => 0

/-- The record of a HALT entered before the end of step 7 (R722, R725). -/
def State.earlyRecord (s : State) : State :=
  if !s.flag Reg.DEV.HALT_CODE.EARLY then s
  else
    let boot : Report := { sev := sevFatal, cls := clsDevice, code := 0x0040, page := 0, inst := 0, p1 := s.fld Reg.DEV.BOOT_FAIL.STEP, p2 := s.fld Reg.DEV.BOOT_FAIL.CAUSE,
                           p3 := s.fld Reg.DEV.BOOT_FAIL.DETAIL }
    let r := if s.fld Reg.DEV.HALT_CODE.CODE = 0x0040 then boot else s.pnv.early.getD { boot with code := s.fld Reg.DEV.HALT_CODE.CODE, p1 := 0, p2 := 0, p3 := 0 }
    ((s.record { r with bell := s.clk.bell }).setFlag Reg.DEV.HALT_CODE.EARLY false).onPnv (fun p => { p with early := none })

/-- The record of a latched failure to come up (R663, R722). -/
def State.faultRecord (s : State) : State :=
  if !s.pwr.failed then s
  else (s.record { sev := sevError, cls := clsDevice, code := 0x3002, page := 0x30, inst := 0, p1 := s.fld Reg.PWR.STATUS.FAULT_STAGE, p2 := s.fld Reg.PWR.STATUS.FAULT_CAUSE, p3 := 0,
                   bell := s.clk.bell }).onPwr (fun p => { p with failed := false })

/-- The scan of the Tally ring: its valid records; RING_INVALID where a written slot holds an invalid one (R722, R775, R794). -/
def State.ringScan (s : State) : State :=
  let pages := s.nvm.pages.within 512 1536
  let bad := pages.any (fun e => (List.range 8).any (fun i => ringSlot e.2.bytes i ≠ BitVec.allOnes 256 && (Rec.parse (ringSlot e.2.bytes i)).isNone))
  ((s.onTally (fun t => { t with ring := pages.flatMap (fun e => (ringRecs e.1 e.2.bytes).map (fun r => (r.1, some r.2))) })).cond bad (fun s => s.raise Reg.TLY.INT_STATUS.RING_INVALID)).moved 20 false (256 * 1024)

/-- Step 7 (R722): the Tally sequence, the records owed, the alarm state; records are made from now on. -/
def State.stepTally (s : State) : State :=
  let s0 := s.ringScan
  let s3 := (s0.onTally (fun t => { t with seq := s0.resumeSeq })).earlyRecord.faultRecord
  let s4 := ((s3.setFld Reg.ALM.STATUS.LEVEL s3.pnv.level).setFlag Reg.ALM.STATUS.ERUPTED s3.pnv.erupted).setFld Reg.ALM.CAUSE.CAUSE s3.pnv.cause
  (s4.onDev (fun d => { d with tallyReady := true })).nextStep

/-! ### Senses of BOOT and MOUNT (R723, R726, R727) -/

/-- The logical segment whose map entry names `psa`, 0x3FFF_FFFF where none does. -/
def namedBy (m : SMap MapE) (psa : Nat) : Nat := ((m.find? (fun e => e.2.placed && decide (e.2.psa = psa))).map (fun e => e.1)).getD 0x3FFFFFFF

/-- What the two senses of a segment meet. -/
def StepOut.senses (o : StepOut) (psa : Nat) : Sensed × Sensed := ((o.verify.find? (fun e => e.1 = psa)).map (fun e => e.2)).getD ({}, {})

/-- A whole-segment sense of the mount: counted, its commands to the dies issued (R101, R726). It runs in any slot, and no other sense runs beside it. -/
def State.mountSense (s : State) (c : Sensing) : State :=
  let g := psaGang c.psa
  let s1 := (s.senseCount 0x11 c.lseg clsDevice c.er []).senseBytes c.psa c.er 16
  { s1 with out := s1.out ++ senseCmds c.psa (s.psaSlc c.psa) c.bank c.bin c.classes c.er (s.bookBg g 16).1 }

/-- The first attempt at sector `k` of a verify; the sectors that fail, with cause and chunk faults, go into the list. -/
def State.verifyFirst (s : State) (c : Sensing) (x : Sensed) (k : Nat) : State × List (Nat × Nat × List (Nat × Nat)) :=
  let a := s.attempt c k x c.er none
  (s.noteAttempt c k x a true [], if a.out.ok then [] else [(k, a.out.cause, a.faults x k c.er)])

/-- The second attempt at a sector that failed (R137, R138): of a segment that the map names it queues a rewrite. -/
def State.verifySecond (s : State) (c : Sensing) (x : Sensed) (f : Nat × Nat × List (Nat × Nat)) : State :=
  let a := s.attempt c f.1 x (c.er ++ s.failedOf (psaGang c.psa)).eraseDups none
  let s1 := s.noteAttempt c f.1 x a false f.2.2
  if c.lseg = 0x3FFFFFFF then s1.noteClass clsDevice c.psa c.lseg f.1 f.2.1 a else s1.classify clsDevice c.psa c.lseg f.1 f.2.1 a

/-- Physical segment `psa` is verified without parity (R191, R726). -/
def State.verifySeg (s : State) (o : StepOut) (m : SMap MapE) (psa : Nat) : State :=
  let g := psaGang psa
  let x := o.senses psa
  let c : Sensing := { psa, lseg := namedBy m psa, bank := s.activeBank g, bin := s.psaBin psa, classes := s.classesOf g, er := s.failedOf g, who := .drover, cls := clsDevice, track := none }
  let r := (List.range 16).foldl (fun (acc : State × List (Nat × Nat × List (Nat × Nat))) k => let t := acc.1.verifyFirst c x.1 k; (t.1, acc.2 ++ t.2)) (s.mountSense c, [])
  if r.2.isEmpty then r.1 else (r.1.mountSense c).each r.2 (fun s f => s.verifySecond c x.2 f)

/-- The segments at `psas`, in order. -/
def State.verifySegs (s : State) (o : StepOut) (m : SMap MapE) (psas : List Nat) : State := s.each psas (fun s psa => s.verifySeg o m psa)

/-! ### Step 8 (R551, R552, R723, R724) -/

/-- ASCII "IDALMEK1". -/
def idalmek : List Nat := [0x49, 0x44, 0x41, 0x4C, 0x4D, 0x45, 0x4B, 0x31]

/-- The fused key hash that the signer key of an image has, if any. -/
def imageKey (img : List Nat) : Option Nat := [0, 1].find? (fun k => decide (Config.sha512 (slice img 96 228) = Config.keyHash k))

/-- Length of the body that a header states. -/
def imageLen (img : List Nat) : Nat := ofBytesLe (slice img 20 23)

/-- Magic, format, length and zero fields are correct (R550). -/
def imageForm (img : List Nat) : Bool :=
  decide (slice img 0 7 = idalmek) && decide (ofBytesLe (slice img 8 11) = 1) && decide (imageLen img % 4096 = 0) && decide (imageLen img ≤ 2 ^ 26 - 4096) &&
    allZero (slice img 28 31) && allZero (slice img 229 255) && allZero (slice img 388 1023)

/-- The cause code of R551 for a slot, 0 where it verifies. -/
def State.slotCause (s : State) (o : StepOut) (slot : Nat) : Nat :=
  let img := s.image slot
  if o.badHeads.contains slot then 7
  else if !imageForm img then 1
  else match imageKey img with
    | none => 2
    | some k =>
      if Config.keyRevoked k then 3
      else if !Config.ecdsaOk (slice img 96 228) (slice img 0 255) (slice img 256 387) then 4
      else if o.badBodies.contains slot then 7
      else if (Config.sha512 ((img.drop 1024).take (imageLen img))).toNat ≠ ofBytesLe (slice img 32 95) then 5
      else if ofBytesLe (slice img 12 15) < s.pnv.rollback then 6 else 0

/-- The gang that holds a firmware slot (R176). -/
def slotGang (v : Variant) (slot : Nat) : Nat := match v with | .v35A => slot - 1 | .v17A => 0

/-- PSA of segment `i` of a slot's image: 13 paddocks of the system area, 1,360 segments each (R723). Log entry 108. -/
def slotPsa (v : Variant) (slot i : Nat) : Nat :=
  psaOf (slotGang v slot) (3 * firstSystemBand + (match v with | .v35A => 0 | .v17A => 13 * (slot - 1)) + i / 1360) (i % 1360)

/-- Die `d` begins R113: its state is INIT, its interface domain is switched on, then its array domain (R107). -/
def State.dieOn (s : State) (d : Nat) : State := (s.setFld (Reg.MED.DIE_STATUS.STATE (dieStack d) (diePos d)) 2).domainsOn d

/-- What the factory has put into die `d`. -/
def State.rom (s : State) (d : Nat) : DieRom := SMap.get (fun _ => {}) s.roms d

/-- The bytes of a repair map, two for each number. The spec gives the map no layout: log entry 11. -/
def DieRom.bytes (r : DieRom) : List Nat :=
  r.rows.flatMap (fun e => bytesLe 2 e.1 ++ bytesLe 2 e.2) ++ r.cols.flatMap (fun e => bytesLe 2 e.1 ++ bytesLe 2 e.2.1 ++ bytesLe 2 e.2.2)

/-- FUSE_LOAD of die `d` (R101, R105, R124), with the CRC-16 as it is read: the map is applied where the CRC holds, and DIE_REPAIR shows it. -/
def State.fuseLoad (s : State) (d crc : Nat) : State × Bool :=
  let s1 := s.emit (.die d 0x08 [])
  let ok := decide (crc16 (s.rom d).bytes = crc)
  let s2 := s1.setFlag (Reg.MED.DIE_REPAIR.FUSE_OK (dieStack d) (diePos d)) ok
  if ok then
    ((s2.setFld (Reg.MED.DIE_REPAIR.ROWS (dieStack d) (diePos d)) (min 16384 (s.rom d).rows.length)).setFld (Reg.MED.DIE_REPAIR.COLS (dieStack d) (diePos d))
      (min 4096 (s.rom d).cols.length), true)
  else (s2, false)

/-- TRAIN of die `d` (R101, R113); the spec gives no pattern number: a free value. -/
def State.train (s : State) (d : Nat) : State := let p := s.draw 8; p.2.emit (.die d 0x09 [p.1])

/-- What the bring-up of die `d` found. -/
def StepOut.dieOf (o : StepOut) (d : Nat) : DieOut := (o.dies.find? (fun x => x.die = d)).getD { die := d }

/-- A die that fails a step of R113 is declared failed with cause INIT. -/
def State.initFail (s : State) (d : Nat) : State := (s.dieFail d 4).raise (Reg.MED.INT_STATUS.INIT_FAIL (dieStack d))

/-- Steps 1 to 4 of R113 on die `d`, unless it is recorded as failed or has been through them: the domains, RESET and ID_READ, FUSE_LOAD, TRAIN. -/
def State.dieInit (s : State) (o : StepOut) (d : Nat) : State :=
  if SMap.get (fun _ => 0) s.pnv.failed d ≠ 0 || s.dieFailed d then s
  else if s.fld (Reg.MED.DIE_STATUS.STATE (dieStack d) (diePos d)) = 2 then s
  else
    let x := o.dieOf d
    let s1 := s.dieOn d
    if !x.rail then s1.initFail d
    else
      let s2 := (s1.emit (.die d 0x0B [])).emit (.die d 0x0A [])
      if x.ident ≠ some d then s2.initFail d
      else
        let s3 := s2.fuseLoad d ((s.rom d).crc ^^^ x.fuse)
        if !s3.2 then s3.1.initFail d
        else
          let s4 := s3.1.train d
          if x.eye then s4 else s4.initFail d

/-- How many segments of the image in `slot` are sensed, where the slot ends with `c` (R723): all that the header and its LENGTH cover, or the header's alone. -/
def State.imageSegs (s : State) (o : StepOut) (slot c : Nat) : Nat :=
  if c = 0 || c = 5 || c = 6 || (c = 7 && !o.badHeads.contains slot) then ceilDiv (1024 + imageLen (s.image slot)) 4096 else 1

/-- The boot ROM tries a slot: its gang is brought up, its segments are sensed, the body's only once the signature has verified, and checked; a failed slot is Tremor 0x05 and SLOT_FAILED (R551, R723). -/
def State.trySlot (s : State) (o : StepOut) (slot : Nat) : State × Bool :=
  let g := slotGang s.variant slot
  let s0 := s.each ((List.range 20).map (dieNo g)) (fun s d => s.dieInit o d)
  let c := s0.slotCause o slot
  let s1 := s0.verifySegs o [] ((List.range (s0.imageSegs o slot c)).map (slotPsa s0.variant slot))
  let s2 := s1.setFld (if slot = 1 then Reg.ATT.BOOT.CAUSE_A else Reg.ATT.BOOT.CAUSE_B) c
  if c = 0 then (s2, true) else ((s2.raise Reg.ATT.INT_STATUS.SLOT_FAILED).tremor 5 clsDevice, false)

/-- TK0 and every persisted slot are loaded (R535, R538, R724); none once the RMA seal has disabled ROOT (R560). -/
def State.loadKeys (s : State) : State :=
  let sys : KeySlot := { st := 1, key := tk0, system := true }
  let slots := if s.pnv.erupted || s.pnv.sealed || s.flag Reg.ALM.STATUS.ZEROISING then [] else SMap.set (fun _ => {}) s.pnv.keys 0 sys
  s.onProt (fun p => { p with slots })

/-- The running image starts on core 0; every core is live and has its tasks (R723, R790). -/
def State.startCores (s : State) : State :=
  s.onTally (fun t => { t with cores := (List.range 8).map (fun c => (c, { live := true, tasks := if c < 5 then [c] else [] })) })

/-- An image runs: ATT.BOOT, SVN, keys, cores; then TEST or MOUNT (R12, R597, R718). -/
def State.booted (s : State) (slot : Nat) : State :=
  let img := s.image slot
  let s1 := ((s.setFld Reg.ATT.BOOT.BOOTED slot).setFld Reg.ATT.BOOT.KEY ((imageKey img).getD 0)).setFld Reg.ATT.SVN.SVN (ofBytesLe (slice img 12 15))
  let s2 := s1.loadKeys.startCores
  if s2.flag Reg.DEV.STRAPS.STRAP_TEST then (s2.onDev (fun d => { d with step := 0 })).toState .test else (s2.nextStep).toState .mount

/-- Step 8: NEXT first, then the other slot; with neither valid the device enters HALT (R12, R551). -/
def State.stepImage (s : State) (o : StepOut) : State :=
  let n := s.pnv.next
  let a := (s.setFld Reg.ATT.BOOT.NEXT n).trySlot o n
  if a.2 then a.1.booted n
  else
    let b := a.1.trySlot o (3 - n)
    if b.2 then b.1.booted (3 - n) else b.1.enterHalt 0 false

/-! ### Step 9 (R375, R397) -/

/-- Why channel `c` is not brought up or fails (R397, R401): cause and step. -/
def State.channelCause (s : State) (o : StepOut) (c : Nat) : Nat × Nat :=
  if s.flag (Reg.DMC.CFG.DISABLE c) then (3, 0)
  else if s.pnv.marked.contains c then (4, 0)
  else if s.fld (Reg.DMC.CFG.RATE c) ≠ s.fld (Reg.DMC.CFG.RATE 0) || s.fld (Reg.DMC.CFG.DENSITY c) ≠ s.fld (Reg.DMC.CFG.DENSITY 0) then (1, 0)
  else match o.channels.find? (fun x => x.1 = c) with
    | some x => (2, x.2)
    | none => (0, 0)

/-- Channel `c` is READY, or DISABLED with its cause, which is a reduction (R11). -/
def State.channelUp (s : State) (o : StepOut) (c : Nat) : State :=
  let x := s.channelCause o c
  let s1 := ((s.setFlag (Reg.DMC.STATUS.MARKED c) (s.pnv.marked.contains c)).setFld (Reg.DMC.STATUS.CAUSE c) x.1).setFld (Reg.DMC.STATUS.TRAIN_STEP c) x.2
  if x.1 = 0 then (s1.setFld (Reg.DMC.STATUS.STATE c) 2).emit (.dram .wake c 0 [])
  else
    let s2 := (s1.setFld (Reg.DMC.STATUS.STATE c) 4).reduce (200 + c)
    if x.1 = 2 then s2.raise (Reg.DMC.INT_STATUS.TRAIN_FAIL c) else s2

/-- GiB of a channel's DRAM (R400). -/
def densityGib (code : Nat) : Nat := if code = 0 then 4 else if code = 1 then 6 else 8

/-- The largest power of two 2^k, k at most 25, for which two copies of the sector cache fit beside the fixed areas, in half GiB (R375): its exponent. -/
def scLog2 (v : Variant) (gib : Nat) : Nat :=
  let fixed := match v with | .v35A => 23 | .v17A => 12
  let room := (2 * gib - fixed) * 2 ^ 29
  (List.range 26).foldl (fun m k => if 2 * 2 ^ k * 256 ≤ room then k else m) 0

/-- Step 9: the channels; fewer than three, or too small a sector cache, is FATAL and the step does not end (R375, R397). -/
def State.stepDram (s : State) (o : StepOut) : State :=
  let s0 := ({ s with dram := {} }).restore (fun r => decide (200 ≤ r))
  let s1 := s0.each (List.range 4) (fun s c => s.channelUp o c)
  let on := s1.channels
  let gib := (on.map (fun c => densityGib (s1.fld (Reg.DMC.CFG.DENSITY c)))).sum
  let k := scLog2 s.variant gib
  if on.length < 3 then s1.reportCode sevFatal 0x1442 0 ((on.map (fun c => 2 ^ c)).sum) 0 0
  else if k < 20 then s1.reportCode sevFatal 0x1443 0 gib 0 0
  else ((s1.setFld Reg.DMC0.SC_GEOM.LOG2_E k).setFld Reg.DMC0.SC_GEOM.CHANNELS on.length).nextStep

/-! ### Step 10 (R113, R114) -/

/-- A die that the PNV records as failed stays failed, its domains off and its lanes isolated (R107, R114). -/
def State.reloadFailed (s : State) (d : Nat) : State :=
  let c := SMap.get (fun _ => 0) s.pnv.failed d
  if c = 0 || s.dieFailed d then s
  else
    let st := dieStack d
    let n := diePos d
    let f := Reg.MED.FAILED_MAP.FAILED st
    let s1 := ((s.setFld f (s.fld f + 2 ^ n)).setFld (Reg.MED.DIE_STATUS.STATE st n) 4).setFld (Reg.MED.DIE_STATUS.FAIL_CAUSE st n) c
    (((s1.onPwr (fun p => { p with dom := p.dom &&& ~~~(arrayBit d ||| ifBit d), iso := p.iso ||| (1#40 <<< d) })).emit (.isolate d))).reduce d

/-- REF_WRITE of the SLC reference of a bank of die `d` (R96, R101). The spec tracks no SLC drift: the code is the factory's until a retained one stands. -/
def State.slcWrite (s : State) (factory : Bool) (d bank : Nat) : State :=
  let kept := if factory then none else SMap.get (fun _ => none) s.drift.slc (2 * d + bank)
  let code := kept.getD (Config.factorySlc d).toNat
  (s.onDrift (fun t => { t with slc := SMap.set (fun _ => none) t.slc (2 * d + bank) (some code) })).emit (.die d 0x07 [bank, code])

/-- REF_WRITE of both banks of die `d` (R96, R101, R113, R727): every TLC set with the working codes, or with the factory codes, and the SLC reference. -/
def State.refWrite (s : State) (factory : Bool) (d : Nat) : State :=
  s.each [0, 1] (fun s bank => (s.each (List.range 64) (fun s n =>
    s.emit (.die d 0x07 ([bank, n] ++ [1, 2, 3, 4, 5, 6, 7].map (fun k => (codeOf d n k (if factory then 0 else (s.driftSet d n).code.getD (k - 1) 0)).toNat))))).slcWrite
      factory d bank)

/-- The check sense of R113 on die `d`: SENSE_SLC of band row 255, fragment 0, in the lowest-numbered SYSTEM band of its gang that has one, under bank A. Its 16 chunks leave in background positions, the same on every die of the gang, and no other sense runs. -/
def State.checkSense (s : State) (d : Nat) : State :=
  s.emit (.die d 0x02 ([rowTile 255, rowTileRow firstSystemBand 255, 0, 0] ++ (s.bookBg (dieGang d) 16).1))

/-- How many bits of the fixed pattern the check sense finds wrong; `wrong` are the bits that the sense itself gets wrong (R91, R113). -/
def State.patternWrong (s : State) (d : Nat) (wrong : SectorData) : Nat :=
  popCount 2048 ((Config.rowPattern d ^^^ (s.rom d).worn ^^^ wrong) ^^^ Config.rowPattern d).toNat

/-- Steps 5 and 6 of R113 on die `d`: its references, and the check sense. -/
def State.dieReady (s : State) (o : StepOut) (factory : Bool) (d : Nat) : State :=
  if s.dieFailed d then s
  else
    let s1 := (s.refWrite factory d).checkSense d
    if 64 < s1.patternWrong d (o.dieOf d).wrong then s1.initFail d else s1.setFld (Reg.MED.DIE_STATUS.STATE (dieStack d) (diePos d)) 3

/-- The dies of the variant through R113. -/
def State.bringDies (s : State) (o : StepOut) (factory : Bool) : State :=
  let s1 := s.each (List.range s.nDies) (fun s d => s.dieInit o d)
  s1.each (List.range s.nDies) (fun s d => s.dieReady o factory d)

/-- Step 10. -/
def State.stepDies (s : State) (o : StepOut) : State :=
  ((s.each (List.range s.nDies) State.reloadFailed).bringDies o true).nextStep

end Sys2Proof.Machine
end

