-- ==== Sys2Proof/Machine/Mount.lean ====
section
/-! DEFINITION. The mount, steps 11 to 13 of start-up (R191, R201, R205, R272, R435, R543, R684, R726 to R728): band records, journal replay, the Vent image, the reverse map, advances, drift tables and epoch, and the restart of the rota. -/

namespace Sys2Proof.Machine

/-! ### What lies in the Vent bands (R682, R684) -/

/-- The images that no mount has replayed, oldest first. -/
def State.newImages (s : State) : List VentImg := s.pnv.images.filter (fun i => !i.replayed)

/-- The programmed pages of an image. -/
def VentImg.pages (i : VentImg) : List VentPage := i.bands.flatMap VentBand.written

/-- Insertion of a block into a list in sequence order; a block that is there already stays. -/
def insertBlock (b : JBlock) (l : List JBlock) : List JBlock :=
  match l with
  | [] => [b]
  | x :: rest => if b.seq < x.seq then b :: x :: rest else if b.seq = x.seq then x :: rest else x :: insertBlock b rest

/-- The journal blocks of the Vent bands that are in no journal copy, in sequence order, closed. -/
def State.ventBlocks (s : State) : List JBlock :=
  let all := s.newImages.flatMap (fun i => i.pages.filterMap (fun p => match p with | .block b => some { b with closed := true } | _ => none))
  (all.filter (fun b => !s.xlt.area.any (fun x => x.seq = b.seq))).foldl (fun l b => insertBlock b l) []

/-! ### The journal and the map that it gives (R198, R201, R205) -/

/-- The codes of R198. -/
def JRec.known (r : JRec) : Bool := decide (1 ≤ r.ty) && decide (r.ty ≤ 0x0B)

/-- The records of a block up to one with an unused code, which ends its replay (R198). -/
def JBlock.good (b : JBlock) : List JRec := b.recs.takeWhile JRec.known

/-- The map as replay builds it: pending entries held per group slot. -/
structure Replay where
  map : SMap MapE
  pend : SMap (SMap MapE) := []
  /-- map pages that a record has changed -/
  pages : List Nat := []
  /-- entries of aborted groups -/
  gone : SMap MapE := []

/-- An entry of the map set by replay. -/
def Replay.put (x : Replay) (lseg : Nat) (e : MapE) : Replay :=
  { x with map := SMap.set (fun _ => {}) x.map lseg e, pages := if x.pages.contains (lseg / 16384) then x.pages else x.pages ++ [lseg / 16384] }

/-- A record is replayed (R198, R201, R205). -/
def Replay.rcd (x : Replay) (r : JRec) : Replay :=
  let held := SMap.get (fun _ => ([] : SMap MapE)) x.pend r.slot
  if r.ty = 0x01 then x.put r.a (MapE.ofWord r.b)
  else if r.ty = 0x02 then (x.map.within r.a (r.a + r.b)).foldl (fun x e => x.put e.1 {}) x
  else if r.ty = 0x03 then { x with pend := SMap.set (fun _ => []) x.pend r.slot (SMap.set (fun _ => {}) held r.a (MapE.ofWord r.b)) }
  else if r.ty = 0x04 then { held.foldl (fun x e => x.put e.1 e.2) x with pend := SMap.set (fun _ => []) x.pend r.slot [] }
  else if r.ty = 0x05 then { x with pend := SMap.set (fun _ => []) x.pend r.slot [], gone := x.gone ++ held }
  else x

/-- The journal blocks in sequence order: the area, then the tail. -/
def State.journalBlocks (s : State) : List JBlock := s.xlt.area ++ s.xlt.tail

/-- The map copy with the journal on top of it (R201, R205). -/
def State.replayed (s : State) : Replay := s.journalBlocks.foldl (fun x b => b.good.foldl Replay.rcd x) { map := s.xlt.mapCopy }

/-! ### Step 11 (R191, R726) -/

/-- The saved device epoch: the newer of the PNV counter and the PNV Vent page (R727). -/
def State.savedEpoch (s : State) : Nat := max s.pnv.epoch (match s.pnv.ventPage with | some v => v.epoch | none => 0)

/-- A band record is replayed. `wear`: the record is newer than the wear checkpoint. -/
def State.replayBand (s : State) (wear : Bool) (r : JRec) : State :=
  let g := r.a / 2 ^ 16 % 2
  let b := r.a % 2 ^ 16
  let x := s.band g b
  if r.ty = 0x06 then
    let tlc := decide (r.b = 2)
    let epoch := if !tlc && x.st = .caldera then x.epoch else s.savedEpoch
    s.setBand g b { x with st := if tlc then .tlcOpen else .caldera, wear := x.wear + (if wear then (if tlc then 10 else 1) else 0), epoch, refresh := false }
  else if r.ty = 0x07 then s.setBand g b { x with st := .tlcClosed, epoch := r.b }
  else if r.ty = 0x08 then s.setBand g b { x with st := .released, relFlock := s.flock, refresh := false }
  else if r.ty = 0x09 then s.setBand g b { x with st := .retired, strikes := r.b }
  else if r.ty = 0x0B then
    let p := r.a % 2 ^ 17
    let h := r.a / 2 ^ 17 % 2
    if (s.band h (p / 3)).st = .caldera then s.setPad h p { s.pad h p with st := .closed, slot := none } else s
  else s

/-- Band records of the journal in sequence order. Blocks written since the last wear checkpoint, and those of the Vent bands, bring wear. -/
def State.replayBands (s : State) (blocks : List (JBlock × Bool)) : State :=
  s.each blocks (fun s b => s.each b.1.good (fun s r => s.replayBand b.2 r))

/-- Every segment in the row batches of an OPEN or FULL paddock of a CALDERA band is verified. -/
def State.verifyPad (s : State) (o : StepOut) (m : SMap MapE) (k : Nat) : State :=
  let g := keyGang k
  let p := keyPad k
  let x := s.pad g p
  if (s.band g (padBand p)).st = .caldera && (x.st = .opened || x.st = .full) then s.verifySegs o m ((List.range (16 * x.next)).map (psaOf g p)) else s

/-- An OPEN or FULL paddock, once verified, is closed; paddocks of bands that are not CALDERA hold nothing (R191). -/
def State.mountPad (s : State) (k : Nat) : State :=
  let g := k / 2 ^ 17
  let p := k % 2 ^ 17
  if (s.band g (p / 3)).st ≠ .caldera then (s.setPad g p {}).onGang g (fun x => { x with order := x.order.erase p })
  else match (s.pad g p).st with
    | .opened | .full => ((s.setPad g p { s.pad g p with st := .closed, slot := none }).journal (jPadClose g p)).raise Reg.CAL.INT_STATUS.PADDOCK_CLOSED
    | _ => s

/-- TLC_OPEN and TLC_VERIFY bands of gang `g` are released, for their sources are still live. -/
def State.mountFolds (s : State) (g : Nat) : State :=
  s.each (s.bandsIn g .tlcOpen ++ s.bandsIn g .tlcVerify) (fun s b => s.releaseBand g b)

/-- What step 11 reads from the system area: the map-page directory and the band table with the wear checkpoint, 16 segments a part, and the journal blocks (R726). -/
def Xlt.step11 (t : Xlt) : List Nat :=
  ((t.tabAt.within 0 2000).filterMap (fun e => e.2)).flatMap (fun p => (List.range 16).map (fun i => p + i)) ++ t.area.filterMap (fun b => b.at0)

/-- What step 12 reads: every map page, and the drift tables (R727). -/
def Xlt.step12 (t : Xlt) : List Nat :=
  ((t.mapDir ++ t.tabAt.filter (fun e => decide (2000 ≤ e.1))).filterMap (fun e => e.2)).flatMap (fun p => (List.range 16).map (fun i => p + i))

/-- Step 11: the journal blocks of the Vent bands come into the tail; directory, band table and wear checkpoint, band records, paddocks, fold bands. The counts of LIVE segments are not saved (R170). The
verify names a failing segment as step 12's map will. -/
def State.stepBands (s : State) (o : StepOut) : State :=
  let v := s.ventBlocks
  let next := v.foldl (fun m b => max m (b.seq + 1)) s.xlt.nextBlock
  let s1 := (s.verifySegs o [] s.xlt.step11).onXlt (fun t => { t with
    tail := v ++ t.tail, nextBlock := next, bands := SMap.mapv bandDflt (fun _ x => { x with live := 0 }) t.bandCopy, mapDir := t.dirCopy, loaded := true })
  let s2 := s1.replayBands (s.xlt.area.map (fun b => (b, decide (s.xlt.cycles ≤ b.cycle))) ++ (v ++ s.xlt.tail).map (fun b => (b, true)))
  let pads := s2.xlt.pads.map (fun e => e.1)
  let s3 := (s2.each pads (fun s k => s.verifyPad o s2.replayed.map k)).each pads State.mountPad
  let s4 := s3.each s3.gangIds State.mountFolds
  (s4.each s4.gangIds (fun s g => s.setFld (Reg.DRV.RETIRED.RETIRED g) (s.bandsIn g .retired).length)).nextStep

/-! ### Step 12: the map (R201, R205, R727) -/

/-- A block whose replay an unused code ends raises an ERROR record; the spec gives its CODE no number (R198). -/
def State.badCodes (s : State) (b : JBlock) : State :=
  if b.recs.all JRec.known then s
  else
    let d := s.draw 16
    d.2.report { sev := sevError, cls := clsDevice, code := d.1, page := 0x0B, inst := 0, p1 := 0, p2 := 0, p3 := 0 }

/-- The keyed regions whose groups replay found without a commit (R543). -/
def State.openPends (s : State) (x : Replay) : List Nat :=
  ((x.pend.flatMap (fun e => e.2.filterMap (fun y => s.regionOfSeg y.1))).filter (fun i => (s.region i).keyed)).eraseDups

/-- Map copy and journal, and the directory with its MAP_PAGE records; groups that were open are absent. The second component lists the regions of their pending entries. -/
def State.replayMap (s : State) : State × List Nat :=
  let x := s.replayed
  let dir := (s.journalBlocks.flatMap JBlock.good).foldl (fun d r => if r.ty = 0x0A then SMap.set (fun _ => none) d r.a (some r.b) else d) s.xlt.mapDir
  let s1 := s.onXlt (fun t => { t with map := x.map, mapDir := dir, groups := [], dirty := x.pages })
  (s1.each s1.journalBlocks State.badCodes, s1.openPends x)

/-! ### The Vent image and the ring (R684, R722, R727) -/

/-- A line of the image comes into the staging bank, unless its group or its keys are gone; a line there already is merged by byte mask. -/
def State.replayLine (s : State) (k : Nat) (l : StLine) : State :=
  if k % 32 ≠ 0 || (s.flag Reg.ALM.STATUS.ERUPTED && s.segKeyed (k / 32 / 64)) then s
  else
    let x := s.stagedAt k
    let y : StLine := { data := mergeLine x.data l.data l.mask, mask := x.mask ||| l.mask, bell := s.clk.bell, keyid := l.keyid, clk := s.now, strict := x.strict || l.strict,
                        lost := x.lost || l.lost }
    s.onXlt (fun t => { t with staged := SMap.set (fun _ => {}) t.staged k y })

/-- Insertion of an image page by its index. -/
def insertPage (p : Nat × List (Nat × StLine)) (l : List (Nat × List (Nat × StLine))) : List (Nat × List (Nat × StLine)) :=
  match l with
  | [] => [p]
  | x :: rest => if p.1 < x.1 then p :: x :: rest else x :: insertPage p rest

/-- The image pages of a Vent in ascending page index. -/
def VentImg.linePages (i : VentImg) : List (Nat × List (Nat × StLine)) :=
  (i.pages.filterMap (fun p => match p with | .lines n l => some (n, l) | _ => none)).foldl (fun acc p => insertPage p acc) []

/-- Every image is replayed, older ones first, and marked. -/
def State.replayImages (s : State) : State :=
  (s.each s.newImages (fun s i => s.each i.linePages (fun s p => s.each p.2 (fun s e => s.replayLine e.1 e.2)))).onPnv (fun p =>
    { p with images := p.images.map (fun i => { i with replayed := true }) })

/-- A record is given a ring slot, with its own SEQ. -/
def ringAppend (acc : SMap (Option Rec) × List (Nat × Rec) × State) (r : Rec) : SMap (Option Rec) × List (Nat × Rec) × State :=
  let x := acc.2.2.ringTake acc.1 r
  (x.2.1, (match x.1 with | some j => acc.2.1 ++ [(j, r)] | none => acc.2.1), x.2.2)

/-- The records of the Vent bands' Tally pages that are newer than the newest ring record, oldest first, then the final VENT record. -/
def State.ringReplay (s : State) : State :=
  let newer (r : Rec) : Bool := match newestFirst (s.ringHeld.map (fun x => x.2)) with | n :: _ => seqOlder n.seq r.seq | [] => true
  let recs := (s.newImages.filter (fun i => !i.orderly)).flatMap (fun i => i.pages.flatMap (fun p => match p with | .records l => l | _ => []))
  let last := (s.pnv.ventPage.map (fun v => v.rcd)).toList
  let x := ((newestFirst (recs.filter newer)).reverse ++ last.filter newer).eraseDups.foldl ringAppend (s.tally.ring, [], s)
  x.2.2.ringProgram x.2.1

/-! ### The reverse map (R170, R171, R211 to R214) -/

/-- The physical segments of live system content (R170): map pages, directory, band table and drift tables at 16 segments a row batch, and the journal blocks of the area in every copy. -/
def Xlt.sysLive (t : Xlt) : List Nat :=
  (((t.mapDir ++ t.tabAt).filterMap (fun e => e.2)).flatMap (fun p => (List.range 16).map (fun i => p + i))) ++ t.area.flatMap (fun b => b.at0.toList ++ b.at1.toList)

/-- The reverse map from the segment map, the tables and the groups' records (R170, R205): what groups without a commit, or aborted ones, wrote is STALE; what the map names, and the live system
content, is LIVE. The bands' counts follow. -/
def State.rebuildRev (s : State) (x : Replay) : State :=
  let put (st : RevSt) (m : SMap RevE) (psa lseg : Nat) : SMap RevE := SMap.set (fun _ => {}) m psa { st, lseg }
  let dead := ((x.gone ++ x.pend.flatMap (fun e => e.2)).filter (fun e => e.2.placed)).foldl (fun m e => put .stale m e.2.psa e.1) []
  let named := (s.xlt.map.filter (fun e => e.2.placed)).foldl (fun m e => put .live m e.2.psa e.1) dead
  let rev := s.xlt.sysLive.foldl (fun m p => put .live m p 0x3FFFFFFF) named
  let bands := SMap.mapv bandDflt (fun _ x => { x with live := 0 }) s.xlt.bands
  let add (m : SMap Band) (psa : Nat) : SMap Band :=
    let k := bandKey (psaGang psa) (psaBand psa)
    let x := SMap.get bandDflt m k
    SMap.set bandDflt m k { x with live := x.live + 1 }
  s.onXlt (fun t => { t with rev, bands := (rev.filter (fun e => decide (e.2.st = .live))).foldl (fun m e => add m e.1) bands })

/-- The XLT counts for the map as it stands. -/
def State.countMap (s : State) : State :=
  let n (p : MapSt → Bool) : Nat := (s.xlt.map.filter (fun e => p e.2.st)).length
  (((s.setFld Reg.XLT.MAPPED.MAPPED (n (fun m => decide (m ≠ .unmapped)))).setFld Reg.XLT.CALDERA_SEGS.CALDERA_SEGS (n (fun m => decide (m = .caldera)))).setFld
    Reg.XLT.TLC_SEGS.TLC_SEGS (n (fun m => decide (m = .tlc)))).setFld Reg.XLT.POISONED_SEGS.POISONED_SEGS (n (fun m => decide (m = .poisoned)))

/-- A CALDERA or TLC_CLOSED band that holds no LIVE segment is released (R171, R174). -/
def State.emptyBands (s : State) (g : Nat) : State := s.each (s.bandsIn g .caldera ++ s.bandsIn g .tlcClosed) (fun s b => s.releaseEmpty g b)

/-! ### The dirty shutdown count and the advances (R435, R543, R684, R714) -/

/-- The Vent of the last power-down, if there was one and it has not been judged yet. -/
def State.lastVent (s : State) : Option VentImg :=
  match s.newImages.getLast? with
  | some i => if i.orderly then none else some i
  | none => none

/-- The Vent is complete: the PNV Vent page is its own, and every band holds its trailer. -/
def State.ventComplete (s : State) (i : VentImg) : Bool :=
  (match s.pnv.ventPage with | some v => decide (v.seq = i.seq) | none => false) && i.bands.all VentBand.complete

/-- The last Vent did not complete. -/
def State.ventBad (s : State) : Bool := match s.lastVent with | some i => !s.ventComplete i | none => false

/-- AT_RISK was set when the device went down: in the PNV Vent page of a Vent, else as an orderly power-down saved it. -/
def State.wentRisky (s : State) : Bool :=
  s.pnv.risky || (match s.lastVent, s.pnv.ventPage with | some i, some v => decide (v.seq = i.seq) && v.atRisk | _, _ => false)

/-- LAST_VENT, LAST_VENT_BELL from the PNV Vent page, and the count of incomplete Vents (R714 to R716). Log entry 25. -/
def State.judgeVent (s : State) : State :=
  let v := s.pnv.ventPage
  let s1 := ((s.setFlag Reg.VNT.LAST_VENT.VALID (v.isSome || s.lastVent.isSome)).setFlag Reg.VNT.LAST_VENT.COMPLETE (v.isSome && !s.ventBad)).setFlag
    Reg.VNT.LAST_VENT.FROM_VIN (v.any (fun v => v.fromVin))
  let s2 := ((s1.setFlag Reg.VNT.LAST_VENT.AT_RISK (v.any (fun v => v.atRisk))).setFld Reg.VNT.LAST_VENT.IMAGE_PAGES (min 0xFFF (v.elim 0 (fun v => v.pages)))).setFld
    Reg.VNT.LAST_VENT_BELL.BELL (v.elim 0 (fun v => v.bell % 2 ^ 32))
  if s.ventBad then
    let n := min (s.pnv.ventsBad + 1) 0xFFFF
    ((s2.onPnv (fun p => { p with ventsBad := n })).setFld Reg.VNT.VENTS.INCOMPLETE n).raise Reg.VNT.INT_STATUS.DIRTY_VENT
  else s2

/-- An advance at mount: durable at once, under the one intent record of step 12; at CUR 255 as R544 says. -/
def State.mountAdvance (s : State) (i : Nat) : State :=
  let g := s.gen i
  if 255 ≤ g.cur then s.advance i
  else ((((s.setGen i { g with cur := g.cur + 1 }).bump Reg.RGN.GEN_ADVANCES.ADVANCES).raise Reg.RGN.INT_STATUS.GEN_ADVANCED).startPass i)

/-- The keyed regions. -/
def State.keyedRegions (s : State) : List Nat := (s.prot.regions.filter (fun e => e.2.keyed)).map (fun e => e.1)

/-- The dirty shutdown count with its event, and the advances that fall at mount; `open_` are the regions with uncommitted pending entries. -/
def State.dirtyCount (s : State) (open_ : List Nat) : State :=
  let dirty := s.ventBad || s.wentRisky
  let n := min (s.pnv.dirty + 1) 0xFFFFFFFF
  let s1 := if dirty then ((s.onPnv (fun p => { p with dirty := n })).setFld Reg.HDM.DIRTY_SHUTDOWNS.COUNT n).event 2 1 [0, n] else s
  let rs := (if dirty then s.keyedRegions else []) ++ open_
  if rs.isEmpty then s1.onPnv (fun p => { p with risky := false })
  else
    let s2 := (s1.onPnv Pnv.nextIntent).each rs State.mountAdvance
    (s2.onPnv (fun p => { p with risky := false, gens := s2.prot.gens })).nvFlush

/-! ### Drift tables, epoch, probe, refresh (R191, R267, R272, R275) -/

/-- Both banks hold the working codes. The tables of the system area hold no HIGH and LOW (R275); at a resume these are `kept`. -/
def DriftSet.loaded (kept : Bool) (x : DriftSet) : DriftSet :=
  { x with bankA := x.code, bankB := x.code, prev := x.code, stepped := 0, high := if kept then x.high else [0, 0, 0, 0, 0, 0, 0], low := if kept then x.low else [0, 0, 0, 0, 0, 0, 0] }

/-- Both banks of every die hold `sets`; bank A is active and no gang has a change window. -/
def State.loadDrift (s : State) (kept : Bool) (sets : SMap DriftSet) : State :=
  let s1 := s.onDrift (fun t => { t with
    sets := SMap.mapv (fun _ => {}) (fun _ x => x.loaded kept) sets, votes := [], lastSwitch := [], switching := [], live := [], liveOld := [] })
  (((s1.setFld Reg.DRF.STATUS.BANK0 0).setFld Reg.DRF.STATUS.BANK1 0).setFlag Reg.DRF.STATUS.WINDOW0 false).setFlag Reg.DRF.STATUS.WINDOW1 false

/-- Both banks are written to every die that is not failed. -/
def State.writeBanks (s : State) : State := s.each ((List.range s.nDies).filter (fun d => !s.dieFailed d)) (fun s d => s.refWrite false d)

/-- The probe band of gang `g` (R272): the TLC_CLOSED band of greatest fold epoch, of equal ones the lowest-numbered, which is a DESIGN CHOICE (log entry 106). -/
def State.probeBand (s : State) (g : Nat) : Option Nat :=
  (s.bandsIn g .tlcClosed).foldl (fun (acc : Option Nat) b => match acc with
    | none => some b
    | some y => if (s.band g y).epoch < (s.band g b).epoch then some b else some y) none

/-- The bits that an attempt corrected: those in which received and corrected chunks differ, erasures aside. -/
def Attempt.bits (a : Attempt) : Nat :=
  (((List.range 20).filter (fun p => !a.er.contains p)).map (fun p => popCount 128 (a.rx.getD p 0 ^^^ a.cor.getD p 0).toNat)).sum

/-- Sector `k` of a probe sense, and the sum with its corrected bits. The spec gives a sector that fails no number: a free value; nor a second attempt, and there is none (DESIGN CHOICE, log entry 106). -/
def probeSector (c : Sensing) (x : Sensed) (acc : State × Nat) (k : Nat) : State × Nat :=
  let a := acc.1.attempt c k x c.er none
  let s1 := acc.1.noteAttempt c k x a true []
  if a.out.ok then (s1, acc.2 + a.bits) else let d := s1.draw 12; (d.2, acc.2 + d.1)

/-- The probe segment at fragment `f` of page 0, sensed under the sets of bin `bin` on every die. -/
def probeSeg (o : StepOut) (g band bin : Nat) (acc : State × Nat) (f : Nat) : State × Nat :=
  let s := acc.1
  let psa := psaOfTlcSlot g band f
  let c : Sensing := { psa, lseg := (s.revOf psa).lseg, bank := s.activeBank g, bin, classes := s.classesOf g, er := s.failedOf g, who := .drover, cls := clsDevice, track := none }
  (List.range 16).foldl (probeSector c (((o.probes.find? (fun e => e.1 = (g, bin, f))).map (fun e => e.2)).getD {})) (s.mountSense c, acc.2)

/-- The sum of bin `bin`, and the better of it and the best bin so far, `best` being bin and sum. -/
def probeStep (o : StepOut) (g band : Nat) (acc : State × Option (Nat × Nat)) (bin : Nat) : State × Option (Nat × Nat) :=
  let r := (List.range 16).foldl (probeSeg o g band bin) (acc.1, 0)
  (r.1, match acc.2 with
    | some y => if r.2 < y.2 then some (bin, r.2) else some y
    | none => some (bin, r.2))

/-- The gap that a bin gives. -/
def probeGap (a0 bin : Nat) : Nat := if bin = 0 then 0 else 4 ^ (bin - 1) - a0

/-- The probe in gang `g` (R272): the bins from that at power-down on; the lowest bin with the least sum, and its gap. -/
def State.probeGang (s : State) (saved : Nat) (o : StepOut) (g : Nat) : State × Option (Nat × Nat) :=
  match s.probeBand g with
  | some band =>
    let a0 := saved - (s.band g band).epoch
    let r := ((List.range (16 - ageBin a0)).map (fun i => ageBin a0 + i)).foldl (probeStep o g band) (s, none)
    (r.1, r.2.map (fun y => (y.1, probeGap a0 y.1)))
  | none => (s, none)

/-- The device epoch from the saved value and the probe. -/
def State.probe (s0 : State) (o : StepOut) : State :=
  let saved := s0.savedEpoch
  let r := s0.gangIds.foldl (fun (acc : State × List (Option (Nat × Nat))) g => let t := acc.1.probeGang saved o g; (t.1, acc.2 ++ [t.2])) (s0, [])
  let s := r.1
  let found := r.2
  let gap := found.foldl (fun m x => match x with | some y => max m y.2 | none => m) 0
  let s1 := s.setFld Reg.DRF.EPOCH.EPOCH (min (saved + gap) 0xFFFFFFFF)
  let bin (g : Nat) : Nat := match found.getD g none with | some y => y.1 | none => 0
  let s2 := ((s1.setFld Reg.DRF.PROBE.BIN0 (bin 0)).setFld Reg.DRF.PROBE.BIN1 (bin 1)).setFlag Reg.DRF.PROBE.GAP_UNKNOWN (found.all (fun x => x.isNone))
  ((s2.setFlag Reg.DRF.PROBE.DONE true).setFld Reg.DRF.PROBE_GAP.GAP gap).raise Reg.DRF.INT_STATUS.PROBE_DONE

/-- REFRESH_QUEUE (R191, R194) in gang `g`: each band queued raises REFRESH_QUEUED and counts (R228, R239). -/
def State.refreshQueue (s : State) (g : Nat) : State :=
  s.each (s.bandsIn g .caldera ++ s.bandsIn g .tlcClosed) (fun s b =>
    let x := s.band g b
    if !x.refresh && s.refreshDue g x then
      ((s.setBand g b { x with refresh := true }).bump (Reg.DRV.REFRESHES.REFRESHES g)).raise Reg.DRV.INT_STATUS.REFRESH_QUEUED
    else s)

/-- NEXT_SEG of each gang, from the PNV Vent page after a Vent, else from the PNV (R144, R727). -/
def State.restorePos (s : State) (vent : Bool) : State :=
  s.each s.gangIds (fun s g =>
    let saved := SMap.get (fun _ => 0) s.pnv.shpPos g
    s.setFld (Reg.SHP.POS.NEXT_SEG g) (match s.pnv.ventPage with | some v => if vent then v.next.getD g saved else saved | none => saved))

/-- The PNV Vent page is that of the last power-down. -/
def State.wentByVent (s : State) : Bool := match s.lastVent, s.pnv.ventPage with | some i, some v => decide (v.seq = i.seq) | _, _ => false

/-- Step 12: its items in the order of R727. A block lost in both copies is FATAL, and the step does not end (R201). -/
def State.stepMap (s : State) (o : StepOut) : State :=
  match o.block with
  | some n => s.reportCode sevFatal 0x0B40 0 (n % 2 ^ 32) 0 0
  | none =>
    let vent := s.wentByVent
    let r := (s.verifySegs o [] s.xlt.step12).replayMap
    let s1 := ((r.1.rebuildRev s.replayed).countMap).ringReplay
    let s2 := (s1.judgeVent).dirtyCount r.2
    let s3 := s2.replayImages
    let s4 := s3.each s3.gangIds State.emptyBands
    let s5 := (s4.loadDrift false s4.drift.saved).writeBanks
    let s6 := (s5.probe o).each s5.gangIds State.refreshQueue
    (s6.restorePos vent).nextStep

/-! ### Step 13 (R728) -/

/-- Step 13: the L2 is invalidated once more, and the rota is switched on at the next flock boundary. -/
def State.stepRota (s : State) : State :=
  (s.hwInval (fun c => c = 0)).onDev (fun d => { d with rotaPending := true })

end Sys2Proof.Machine
end

