-- ==== Sys2Proof/Machine/Standby.lean ====
section
/-! DEFINITION. Standby and resume (R23, R58, R267, R398, R632, R667, R675, R676, R733, R734), the end of a flush (R779), PERST_N release (R418, R731). -/

namespace Sys2Proof.Machine

/-! ### Entry (R675) -/

/-- A rail, channel or other input stays qualified in standby. -/
def State.keptPg (s : State) (g : PgInput) : Bool :=
  match g with
  | .rail r => r = .vddSram
  | .ext n => s.extKept n
  | .boost => true
  | _ => false

/-- Slot `n` is removed at once, its domain being off (R632). -/
def State.cartStandby (s : State) (n : Nat) : State := if s.zlState n = zlEmpty then s else (s.cartOff n zlEmpty zlEmpty 0).removedNote n

/-- The update buffer is emptied and every channel that is READY enters self-refresh (R398). -/
def State.dramSleep (s : State) : State :=
  let s1 := s.each s.dram.ub (fun s e => (if e.needA then s.markWritten e 0 else s).cond e.needB (fun s => s.markWritten e 1))
  let s2 := (s1.onDram (fun d => { d with ub := [], neighbours := [] })).panicEnd
  s2.each (s2.channels.filter (fun c => s2.fld (Reg.DMC.STATUS.STATE c) = 2)) (fun s c =>
    (s.setFld (Reg.DMC.STATUS.STATE c) 3).each [0, 1] (fun s h => s.emit (.dram .selfRefresh c h [])))

/-- Every die that is not failed is off, the array domain of each before its interface domain (R107, R675). -/
def State.diesOff (s : State) : State :=
  s.dieDomainsOff.each ((List.range s.nDies).filter (fun d => !s.dieFailed d)) (fun s d => s.setFld (Reg.MED.DIE_STATUS.STATE (dieStack d) (diePos d)) 1)

/-- A gang in standby: the rota is off, and what a fold has read into the die buffers and not programmed is read again. -/
def Gang.sleep (x : Gang) : Gang :=
  { x with rota := { x.rota with on := false }, fold := { x.fold with segs := x.fold.segs.take (768 * x.fold.rots) } }

/-- Domains, rails and channels of standby: what is kept stays on (R660, R675). -/
def State.powerSleep (s : State) : State :=
  let keep := (List.range 8).foldl (fun (m : BitVec 8) n => if s.extKept n then m ||| (1#8 <<< n) else m) 0
  ((s.ctrlSwitch s.pwr.dom false).onPwr (fun p => { p with
    dom := 0, ctrlOn := false, rails := p.rails.filter (fun r => r = .vddSram || r = .vhold), extEn := p.extEn &&& keep, pg := p.pg.filter s.keptPg,
    standby := true, standbyWait := false, credited := 0, estimated := !p.refClk, keptFault := none })).setFlag Reg.BWT.CLK_STATUS.PLL_LOCKED false

/-- Steps 3 to 5 of R675, once everything is written. -/
def State.enterStandby (s : State) : State :=
  let e := s.epochNow
  let s1 := ((((s.onPnv (fun p => { p with epoch := e })).nvFlush.nvStart none none).cartStandby 0).cartStandby 1).dramSleep.diesOff
  let s2 := ((s1.onGang 0 Gang.sleep).onGang 1 Gang.sleep).linkOff.endDebug
  (s2.powerSleep.setFlag Reg.PWR.STATUS.STANDBY true).raise Reg.PWR.INT_STATUS.STANDBY_ENTERED

/-- Nothing of gang `g` is queued, placed or in a rotation. -/
def State.gangDrained (s : State) (g : Nat) : Bool :=
  let x := s.gang g
  x.batches.isEmpty && x.placed.isEmpty && x.ending.isEmpty && x.sysRows.isEmpty && x.sysEnding.isEmpty && !x.ended && !x.rota.rotating

/-- Staging bank, journal tail, Tally buffer and reads are drained (R675 step 2, R779). -/
def State.drained (s : State) : Bool :=
  s.xlt.staged.isEmpty && s.xlt.snaps.isEmpty && s.xlt.wait.isEmpty && s.xlt.tail.isEmpty && s.reads.list.isEmpty && s.reads.bg.isEmpty && !s.tally.flush.running && !s.tally.flush.queued &&
    s.gangIds.all s.gangDrained

/-- A standby that waits is entered once everything is drained. -/
def State.standbyCheck (s : State) : State := if s.pwr.standbyWait && s.drained then s.enterStandby else s

/-- PWR.CTRL.STANDBY (R675): refused unless its conditions hold; else credits are withheld, every staged segment closes, and a flush starts. -/
def State.standbyAsk (s : State) : State :=
  if !s.serving || s.pwr.standby || !s.strm.reqs.isEmpty || s.xlt.trim.busy || s.xlt.groups.any (fun e => e.2.st = .draining) then
    s.raise Reg.PWR.INT_STATUS.STBY_REFUSED
  else
    let s1 := (s.onPwr (fun p => { p with standbyWait := true }))
    (s1.each s1.openSegs (fun s x => s.closeSeg x.1 x.2)).flushNow

/-- FLUSH_END (R779): the running flush ends; a power-down or a standby that waits for it follows. -/
def execFlushEnd (s : State) : Res :=
  .next (if !s.tally.flush.running then s
  else
    let s1 := s.flushDone
    if s1.pwr.downAfterFlush && !s1.tally.flush.running then (if s1.dev.haltVent then s1 else s1.orderlyDown) else s1.standbyCheck)

/-! ### Resume (R733, R734) -/

/-- Rails, channels and domains of a resume (stages 2 to 10 of R662), with their power-goods. -/
def State.powerWake (s : State) : State :=
  let used := (List.range 8).filter s.extUsed
  (s.ctrlSwitch s.fittedDomains true).onPwr (fun p => { p with
    rails := [.vddPll, .vddCore, .vddSram, .vddIo, .vddPhy, .vddPnv, .vmedIf, .vmedArr, .vhold], extEn := used.foldl (fun (m : BitVec 8) n => m ||| (1#8 <<< n)) 0,
    pg := [.rail .vddPll, .pll, .rail .vddCore, .rail .vddSram, .rail .vddIo, .rail .vddPhy, .rail .vddPnv, .rail .vmedIf, .rail .vmedArr, .domains, .boost] ++
      used.map PgInput.ext,
    dom := s.fittedDomains, ctrlOn := true, standby := false })

/-- The DRAM leaves self-refresh, with ZQ calibration and one round of tracking (R398). -/
def State.dramWake (s : State) : State :=
  s.each ((List.range 4).filter (fun c => s.fld (Reg.DMC.STATUS.STATE c) = 3)) (fun s c =>
    (s.setFld (Reg.DMC.STATUS.STATE c) 2).each [0, 1] (fun s h => (s.emit (.dram .wake c h [])).emit (.dram .retrain c h [])))

/-- A resume is abandoned for a full mount from step 9, the bitmap cleared; a fault of a kept channel, or of the retained rail, is recorded (R667, R734). -/
def State.resumeFull (s : State) : State :=
  let s1 := match s.pwr.keptFault with
    | some n => if n < 8 then s.reportCode sevFatal 0x3040 0 n 0 0 else s.raiseRec Reg.HKA.INT_STATUS.RAIL_FAULT sevFatal clsDevice 0 0 0 0
    | none => s
  let s2 := (s1.stopWork.onDram (fun d => { d with bitmap := [] })).onDev (fun d => { d with step := 9, resuming := false })
  ((s2.setFlag Reg.PWR.STATUS.STANDBY false).raise Reg.DEV.INT_STATUS.RESUME_FULL).toState .mount

/-- Every bank leaves retention, but for those that stay in it (R745, R733). -/
def State.banksWake (s : State) : State := { s with srm := { s.srm with waking := (List.range 24).filter (fun b => !s.retained b) } }

/-- The bells that the standby oscillator has credited, and that it has (R23, R58). -/
def State.standbyGap (s : State) : State :=
  (if s.pwr.estimated then s.setFlag Reg.BWT.CLK_STATUS.STANDBY_EST true else s).setFld Reg.BWT.RESUME_GAP.GAP (s.pwr.credited % 2 ^ 32)

/-- The steps of R733 up to the restart of the rota, which waits for the next flock boundary. -/
def State.doResume (s : State) (o : StepOut) : State :=
  let s1 := (s.powerWake.standbyGap.setFlag Reg.BWT.CLK_STATUS.PLL_LOCKED true).setFld Reg.DEV.START.KIND 3
  let s2 := ((s1.bump Reg.DEV.START.STARTS).banksWake.hwInval (fun _ => true)).cond s1.linkCan (fun s => s.emit .linkTrain)
  if s2.pwr.keptFault.isSome || !(o.channels.filter (fun x => s2.channels.contains x.1)).isEmpty then s2.resumeFull
  else
    let s3 := (s2.dramWake.bringDies o false).loadDrift true s2.drift.sets
    (((s3.eruptLatched).cartsUp).restartCounts false).onDev (fun d => { d with resuming := true, rotaPending := true })

/-- PWR.CTRL (R689): GUARD 0x96; FAULT_CLEAR, STANDBY, and RESUME, which acts only over the management sideband. `out` is what a resume meets. -/
def State.pwrCtrl (s : State) (src : Source) (w : Nat) (out : StepOut) : State :=
  if guardOf w ≠ 0x96 then s.cfgErr 0x30 4 src.code 0x40 w
  else
    let s1 := if bitOf w 29 then s.faultClear else s
    let s2 := if bitOf w 31 then s1.standbyAsk else s1
    if bitOf w 30 && src = .i3c && s2.pwr.standby && s2.serving then s2.doResume out else s2

/-- PERST_N_RELEASE (R418, R676, R731, R743): the link may train; in standby the device resumes, in OFF it is only seen. `us` is its time from T0. -/
def execPerstNRelease (us : Int) (out : StepOut) (phase : Nat) (s : State) : Res :=
  let s0 := s.at_ phase
  .next (if !s0.link.perst then s0
  else
    let s1 := (s0.onLink (fun l => { l with perst := false })).setFld Reg.DEV.PERST_US.US (ofSigned 32 us)
    if s1.pwr.standby && s1.serving then s1.doResume out else if s1.linkCan then s1.emit .linkTrain else s1)

end Sys2Proof.Machine
end

