-- ==== Sys2Proof/Machine/Power.lean ====
section
/-! DEFINITION. Commands of supply and sequencer (R12, R22, R23, R657, R661 to R667, R676, R717, R718, R863, R876): resets, PWR_REQ, VIN, power-goods, timeouts, the order of the start-up steps. -/

namespace Sys2Proof.Machine

/-! ### What a cold start resets (R717, R863) -/

/-- The reset word of a register with the SR fields that it held. -/
def srWord (v : Variant) (addr old : Nat) : Nat :=
  match regFields addr with
  | some fs => (fs.filter (fun f => f.sr)).foldl (fun w f => putBits w f.hi f.lo (bitsOf old f.hi f.lo)) (regReset v addr).toNat
  | none => (regReset v addr).toNat

/-- What the registers hold after a warm start: SR fields, and the DEV and PWR pages but for LOCK (R862, R863). -/
def warmRegs (v : Variant) (m : SMap Word) : SMap Word :=
  m.filterMap (fun e =>
    let own := (e.1 / 0x1000 = 0x00 || e.1 / 0x1000 = 0x30) && decide (e.1 % 0x1000 ≠ 0x2C)
    let w := if own then e.2 else BitVec.ofNat 32 (srWord v e.1 e.2.toNat)
    if w = regReset v e.1 then none else some (e.1, w))

/-- The journal blocks that some copy holds. -/
def Xlt.kept (t : Xlt) : List JBlock := (t.tail.filter (fun b => b.done0 || b.done1)).foldl (fun l b => insertBlock { b with cycle := t.cycles } l) t.area

/-- What the medium and its system area keep of translation. -/
def Xlt.cold (t : Xlt) : Xlt :=
  { mapCopy := t.mapCopy, dirCopy := t.dirCopy, bandCopy := t.bandCopy, pads := SMap.mapv (fun _ => ({} : Pad)) (fun _ p => { p with slot := none, parBad := false }) t.pads,
    area := t.kept, nextBlock := t.nextBlock, cycles := t.cycles, tabAt := t.tabAt }

/-- A PNV operation in progress is cut (R756). A state in which nothing but lasting content, the queue of commands and what has been sent is left; `regs`, `applied`, `dev`, `pwr`, `hk`, `irq`, `i3c` and `dbg` are what VDD_AON keeps. -/
def State.coldBase (s : State) (regs applied : SMap Word) (dev : Dev) (pwr : Pwr) (hk : Hk) (irq : Irq) (i3c : I3c) (dbg : Dbg) : State :=
  let c := s.nvCut false
  { pending := s.pending, variant := s.variant, regs, applied, irq, dev, pwr, hk, i3c, dbg,
    gang0 := { order := s.gang0.order }, gang1 := { order := s.gang1.order }, med := s.med, roms := s.roms, xlt := s.xlt.cold,
    tally := { seq := s.tally.seq }, drift := { saved := s.drift.saved }, link := { perst := s.link.perst },
    pnv := { c.pnv with op := none, ventPend := none }, nvm := c.nvm, drawn := c.drawn, out := s.out }

/-- Both DRAM keys are drawn at a cold start (R377). -/
def State.drawKeys (s : State) : State := { s with drawn := s.drawn + 2, prot := { s.prot with scKey := s.drawn, memKey := s.drawn + 1 } }

/-- The reset of a cold start at T0; the cap in effect is the applied one. -/
def State.coldReset (s : State) : State :=
  let s1 := s.coldBase (warmRegs s.variant s.regs) (s.applied.within 0x30000 0x31000) s.dev s.pwr { ch := s.hk.ch, sensors := s.hk.sensors }
    { s.irq with msixEn := false, busMaster := false, pend := 0 } s.i3c { lock := s.dbg.lock } |> fun t => t.drawKeys
  (s1.setFld Reg.BWT.LAT_STATUS.CAP (s1.appFld Reg.PWR.CAP.CAP)).refreshIrq false

/-! ### SEQ_UP (R662, R665, R717) -/

/-- SEQ_UP begins: T0, the kind of the start, stage 1. -/
def State.startSeqUp (s : State) : State :=
  let kind := if s.dev.started then 2 else 1
  let s1 := (s.coldReset.each (List.range 12) (fun s n => s.setFld (Reg.DEV.STEP_US.US (n + 2)) 0)).onDev (fun d =>
    { d with started := true, step := 2, us := 0, tallyReady := false, resuming := false, rotaPending := false, haltVent := false, reduced := [] })
  let s2 := (((s1.setFld Reg.DEV.START.KIND kind).bump Reg.DEV.START.STARTS).setFld Reg.PWR.STATUS.STAGE 1).toState .seqUp
  State.seqAdvance (State.seqFinish 0) s2 12

/-- SEQ_UP starts from OFF where its conditions hold. -/
def State.tryStart (s : State) : State :=
  if s.dev.st = .off && s.dev.por && s.pwr.vinQual && !s.pwr.offHold && !s.flag Reg.PWR.STATUS.PWR_FAULT && s.pwr.req then s.startSeqUp else s

/-- PWR_REQ_ON (R665, R666): in OFF the transition clears PWR_FAULT. -/
def execPwrReqOn (s : State) : Res :=
  .next (if s.pwr.req then s
  else
    let s1 := s.onPwr (fun p => { p with req := true })
    if s1.dev.st = .off then s1.faultClear.tryStart else s1)

/-- PWR_REQ_OFF (R12, R13, R665, R676, R779): its transition, unless a VIN collapse or a FATAL record of the same clk goes first. -/
def execPwrReqOff (s : State) : Res :=
  .next (if !s.pwr.req then s
  else
    let s1 := s.onPwr (fun p => { p with req := false })
    if s.outranked 3 then s1.onDev (fun d => { d with offDue := true }) else s1.powerOff)

/-- VIN_QUALIFIED (R657, R662): stage 1 succeeds; in OFF a start may begin. -/
def execVinQualified (s : State) : Res :=
  let s1 := s.onPwr (fun p => { p with vin := true, vinQual := true })
  .next (if !s.dev.por then s1 else if s1.dev.st = .seqUp then State.seqAdvance (State.seqFinish 0) s1 12 else s1.tryStart)

/-- VIN_COLLAPSE (R12, R13, R665, R676, R680): the first-ranked event of its clk; a PWR_REQ off of the same clk is satisfied by the SEQ_DOWN that follows. -/
def execVinCollapse (s : State) : Res :=
  let s1 := (s.onPwr (fun p => { p with vinQual := false })).onDev (fun d => { d with offDue := false })
  .next (match s1.dev.st with
    | .boot | .mount | .service | .degraded | .test => s1.enterVent
    | .seqUp | .halt | .rma => s1.goDown 4
    | _ => s1)

/-! ### Power-goods (R661, R662, R667) -/

/-- Chatter of a power-good is counted (R661). -/
def State.chatter (s : State) (n : Nat) : State := if n = 0 then s else (s.bumpBy Reg.PWR.CHATTER.CHATTER n).raise Reg.PWR.INT_STATUS.PG_CHATTER

/-- What a power-good watches is on. -/
def State.pgOn (s : State) (g : PgInput) : Bool :=
  match g with
  | .ext n => decide (n < 8) && s.extUsed n && s.pwr.extEn.getLsbD n
  | .cart n => decide (n < 2) && (s.zl n).power && !s.zlOff n
  | .rail r => s.pwr.rails.contains r
  | .pll => s.pwr.rails.contains .vddPll && s.pwr.refClk
  | .domains => s.pwr.ctrlOn
  | .boost => s.pwr.boost

/-- SEQ_UP ends `us` µs after T0; the temperature counts start again (R886). -/
def State.seqDone (us : Nat) (s : State) : State := (s.seqFinish us).restartCounts true

/-- What a qualified power-good brings about beside the sequence. -/
def State.pgGood (s : State) (g : PgInput) : State :=
  match g with
  | .pll => s.setFlag Reg.BWT.CLK_STATUS.PLL_LOCKED true
  | .domains => if s.linkCan then s.emit .linkTrain else s
  | .cart n => s.cartPgGood n
  | _ => s

/-- POWER_GOOD_QUALIFIED (R661, R662): 16 high samples in a row, after `chatter` restarts of the count; `us` is the time from T0. -/
def execPowerGoodQualified (pg : PgInput) (chatter us : Nat) (s : State) : Res :=
  .next (if !s.pgOn pg || s.pwr.pg.contains pg then s
  else
    let s1 := ((s.chatter chatter).onPwr (fun p => match pg with | .cart _ => p | _ => { p with pg := p.pg ++ [pg] })).pgGood pg
    if s1.dev.st = .seqUp then State.seqAdvance (State.seqDone us) (if s1.outranked 4 then s1.onPwr (fun p => { p with offInSeq := true }) else s1) 12 else s1)

/-- The housekeeping channel of a controller rail (R658). -/
def railChannel (r : Rail) : Option Nat :=
  match r with
  | .vddPll => some 101
  | .vddCore => some 93
  | .vddSram => some 97
  | .vddIo => some 99
  | .vddPhy => some 100
  | .vddPnv => some 102
  | .vmedIf => some 103
  | .vmedArr => some 104
  | .vhold => none

/-- The device is up: SEQ_UP has ended and SEQ_DOWN has not begun. -/
def State.isUp (s : State) : Bool := match s.dev.st with | .off | .seqUp | .seqDown => false | _ => true

/-- POWER_GOOD_DROP (R661, R663, R667): a failure to come up during SEQ_UP; afterwards a rail fault, which in standby is kept for the resume. -/
def execPowerGoodDrop (pg : PgInput) (s : State) : Res :=
  .next (if !s.pwr.pg.contains pg then s
  else
    let s1 := (s.onPwr (fun p => { p with pg := p.pg.erase pg })).cond (pg = .pll || pg = .rail .vddPll) State.pllCheck
    if s1.dev.st = .seqUp then s1.seqFail (if pg = .pll then 3 else 2)
    else if !s1.isUp then s1
    else match pg with
      | .ext n =>
        if s1.pwr.standby then (if s1.extKept n then s1.onPwr (fun p => { p with keptFault := some n }) else s1)
        else s1.reportCode sevFatal 0x3040 0 n 0 0
      | .rail r =>
        (match railChannel r with
         | some c => if s1.pwr.standby then (s1.raise Reg.HKA.INT_STATUS.RAIL_FAULT).onPwr (fun p => { p with keptFault := some c })
                     else s1.raiseRec Reg.HKA.INT_STATUS.RAIL_FAULT sevFatal clsDevice 0 0 0 0
         | none => s1)
      | _ => s1)

/-- SEQ_STAGE_TIMEOUT (R662, R663, R665): the stage in progress is over its time; the causes are those of FAULT_CAUSE (R690). -/
def execSeqStageTimeout (chatter : Nat) (s : State) : Res :=
  let st := s.fld Reg.PWR.STATUS.STAGE
  .next (if s.dev.st ≠ .seqUp || s.stageOk st then s
  else
    let s1 := s.chatter chatter
    if s1.pwr.offInSeq then s1.enterSeqDown 1
    else s1.seqFail (if st = 1 then 4 else if st = 2 && s.pwr.pg.contains (.rail .vddPll) then 3 else 1))

/-! ### SEQ_DOWN and OFF (R664, R665) -/

/-- The item that SEQ_DOWN awaits. -/
def State.downHead (s : State) : Option DownItem := if s.dev.st = .seqDown then s.pwr.down.head? else none

/-- RAIL_FALL (R664): the awaited rail is below 10 % of nominal. -/
def execRailFall (rail : Rail) (s : State) : Res := .next (if s.downHead = some (.rail rail) then s.downPop else s)

/-- RAIL_FALL_TIMEOUT (R664): the awaited rail is left behind. -/
def execRailFallTimeout (rail : Rail) (s : State) : Res :=
  .next (if s.downHead = some (.rail rail) then ((s.bumpSat Reg.PWR.STATUS.FALL_TIMEOUTS).raise Reg.PWR.INT_STATUS.FALL_TIMEOUT).downPop else s)

/-- OFF_DELAY_EXPIRY (R664): OFF_DELAY_MS has passed since EXT_PG of the awaited channel read low. -/
def execOffDelayExpiry (channel : Nat) (s : State) : Res := .next (if s.downHead = some (.ext channel) then s.downPop else s)

/-- OFF_HOLD_EXPIRY (R665): 10 ms in OFF are over. -/
def execOffHoldExpiry (s : State) : Res := .next (if s.dev.st = .off then (s.onPwr (fun p => { p with offHold := false })).tryStart else s)

/-! ### POR (R717, R876) -/

/-- POR_RELEASE (R717, R875): the straps are sampled and the device enters OFF; the 10 ms hold runs. -/
def execPorRelease (straps : Nat) (s : State) : Res :=
  .next (if s.dev.por then s
  else
    let s1 := (s.onDev (fun d => { d with por := true, started := false })).onPwr (fun p => { p with vin := true, offHold := true })
    s1.setReg Reg.DEV.STRAPS.word (straps % 256))

/-- POR_ASSERT (R557, R876): VDD_AON is lost, and with it everything that does not last. What was acknowledged and lost without a Vent counts at the next mount (R435). -/
def execPorAssert (s : State) : Res :=
  let lossy := (s.serving || s.dev.st = .mount) && !s.pwr.standby
  let s1 := s.coldBase [] [] {} { refClk := s.pwr.refClk } {} {} {} {}
  .next (s1.onPnv (fun p => { p with early := none, latched := 0, risky := p.risky || lossy }))

/-! ### Reference clock (R23) -/

/-- REFERENCE_CLOCK_STOP (R23): in standby the standby oscillator takes over. -/
def execReferenceClockStop (s : State) : Res := .next (s.onPwr (fun p => { p with refClk := false, estimated := p.estimated || p.standby }))

/-- REFERENCE_CLOCK_RESTART (R23). -/
def execReferenceClockRestart (s : State) : Res := .next (s.onPwr (fun p => { p with refClk := true }))

/-! ### The steps of a cold start (R718, R730) -/

/-- The action of step `n`, done when the step ends. -/
def State.doStep (s : State) (n : Nat) (out : StepOut) : State :=
  match n with
  | 3 => s.stepFuses out
  | 4 => (match out.mbist with | some b => s.bootFail 4 2 b | none => s.nextStep)
  | 5 => (s.hwInval (fun _ => true)).nextStep
  | 6 => s.stepPnv out
  | 7 => s.stepTally
  | 8 => s.stepImage out
  | 9 => s.stepDram out
  | 10 => s.stepDies out
  | 11 => s.stepBands out
  | 12 => s.stepMap out
  | _ => s.stepRota

/-- START_UP_STEP_END (R718, R719 to R728): the step in progress ends `us` µs after T0, and the next one begins. Step 2 ends with the last power-good; step 13 waits for the flock boundary. -/
def execStartUpStepEnd (us : Nat) (out : StepOut) (s : State) : Res :=
  .next (if (s.dev.st = .boot || s.dev.st = .mount) && decide (3 ≤ s.dev.step) && !s.dev.rotaPending && !s.outranked 4 then
    (s.stepEnds s.dev.step us).doStep s.dev.step out
  else s)

end Sys2Proof.Machine
end

