-- ==== Sys2Proof/Machine/Boundary.lean ====
section
/-! DEFINITION. Bell, flock and epoch boundaries (R10, R24, R26, R258): staged configuration applied, and everything that the spec places at a boundary. -/

namespace Sys2Proof.Machine

/-! ### Applying staged fields (R26, R857, R858) -/

/-- A value keeps the limit of its field. -/
def Lim.ok (l : Lim) (x : Nat) : Bool :=
  match l with
  | .any | .group => true
  | .range a b => decide (a ≤ x) && decide (x ≤ b)
  | .oneOf vs => vs.contains x
  | .popcountLe n => decide (popCount 32 x ≤ n)

/-- The pages whose staged fields take effect at a flock boundary (R26). -/
def flockPage (p : Nat) : Bool := p = 0x02 || p = 0x03 || p = 0x30

/-- The staged fields of a register. -/
def stFields (a : Nat) : List RegField :=
  match regFields a with
  | some fs => fs.filter (fun f => f.cls = .st)
  | none => []

/-- Whether a field differs between two words. -/
def RegField.differs (f : RegField) (v w : Nat) : Bool := decide (bitsOf v f.hi f.lo ≠ bitsOf w f.hi f.lo)

/-- `v` with field `f` as in `w`. -/
def RegField.copy (f : RegField) (v w : Nat) : Nat := putBits v f.hi f.lo (bitsOf w f.hi f.lo)

/-- A key put into an ascending list. -/
def insertKey (k : Nat) (l : List Nat) : List Nat :=
  match l with
  | [] => [k]
  | x :: rest => if k < x then k :: x :: rest else if k = x then x :: rest else x :: insertKey k rest

/-- The registers of page `p` whose shadow or applied word is listed, in ascending order. -/
def State.stagedRegs (s : State) (p : Nat) : List Nat :=
  let keys (m : SMap Word) : List Nat := (m.within (p * 0x1000 + 0x40) (p * 0x1000 + 0x1000)).map (fun e => e.1)
  (keys s.applied).foldl (fun l k => insertKey k l) (keys s.regs)

/-- The shadow of field `f` of register `a` returns to its applied value. -/
def State.unstage (s : State) (a : Nat) (f : RegField) : State := s.setReg a (f.copy (s.reg a) (s.appliedWord a))

/-- The shadow of field `f` of register `a` is applied. -/
def State.stageIn (s : State) (a : Nat) (f : RegField) : State := s.setApplied a (f.copy (s.appliedWord a) (s.reg a))

/-- A field that a chapter forbids changing now: the filter in SERVICE (R818). -/
def State.stageBarred (s : State) (a : Nat) : Bool := s.dev.st = .service && (a = 0x3C048 || a = 0x3C04C || a = 0x3C050)

/-- One field of register `a`, whose shadow word was `w`. -/
def State.applyField (s : State) (a w : Nat) (f : RegField) : State :=
  if !f.differs w (s.appliedWord a) then s
  else if s.stageBarred a then (s.unstage a f).cfgErr (a / 0x1000) 7 3 (a % 0x1000) w
  else if f.lim.ok (bitsOf w f.hi f.lo) then s.stageIn a f
  else (s.unstage a f).cfgErr (a / 0x1000) 3 3 (a % 0x1000) w

/-- Registers whose staged fields are checked together, and whether their shadow `w` is refused: ROT.PATTERN (R27), DMC0.RT_CFG (R411), PMC.PCTLk (R816). -/
def stagedGroup (a w : Nat) : Option Bool :=
  let p := a / 0x1000
  let off := a % 0x1000
  if (p = 0x02 || p = 0x03) && off = 0x40 then some (!patternValid (w % 65536))
  else if p = 0x14 && off = 0x80 then some (decide (bitsOf w 26 16 ≤ bitsOf w 10 0) || decide (1024 < bitsOf w 26 16))
  else if p = 0x3C && 0x100 ≤ off && off < 0x200 then some (!eventNumbers.contains (w % 256))
  else none

/-- What the apply of a pattern raises (R27, R76). -/
def State.patternNote (s : State) (a : Nat) (ok : Bool) : State :=
  let p := a / 0x1000
  if (p = 0x02 || p = 0x03) && a % 0x1000 = 0x40 then
    s.raise (if ok then Reg.ROT.INT_STATUS.PATTERN_APPLIED (p - 2) else Reg.ROT.INT_STATUS.PATTERN_REJECTED (p - 2))
  else s

/-- The staged fields of register `a` are checked and applied. -/
def State.applyReg (s : State) (a : Nat) : State :=
  let w := s.reg a
  let fs := stFields a
  if !fs.any (fun f => f.differs w (s.appliedWord a)) then s
  else match stagedGroup a w with
    | some true => ((s.each fs (fun s f => s.unstage a f)).cfgErr (a / 0x1000) 3 3 (a % 0x1000) w).patternNote a false
    | some false => (s.each fs (fun s f => s.stageIn a f)).patternNote a true
    | none => s.each fs (fun s f => s.applyField a w f)

/-! ### Regions (R532) -/

/-- ENTRY0, ENTRY1 and ENTRY2 of a region (R575 to R577). -/
def Region.word0 (x : Region) : Nat := b2n x.valid * 2 ^ 31 + x.first % 2 ^ 18
def Region.word1 (x : Region) : Nat := x.last % 2 ^ 18
def Region.word2 (x : Region) : Nat :=
  x.keyid % 64 * 2 ^ 24 + x.mode % 4 * 2 ^ 20 + b2n x.versioning * 2 ^ 19 + b2n x.strict * 2 ^ 18 + b2n x.grouped * 2 ^ 17 + b2n x.compressed * 2 ^ 16 + x.rights % 512

/-- Region `i` as staged. -/
def State.stagedRegion (s : State) (i : Nat) : Region := SMap.get (fun _ => {}) s.prot.staged i

/-- The entries whose staged value differs from the applied one. -/
def State.changedRegions (s : State) : List Nat :=
  (List.range 256).filter (fun i => decide (s.stagedRegion i ≠ s.region i))

/-- The two entries share a logical paddock. -/
def Region.meets (x y : Region) : Bool := x.valid && y.valid && decide (x.first ≤ y.last) && decide (y.first ≤ x.last)

/-- A changed entry fails a condition of R532. -/
def State.regionFails (s : State) (i : Nat) : Bool :=
  let x := s.stagedRegion i
  let busy := (s.hasGroup i || (s.gen i).passActive) && decide ({ x with rights := 0 } ≠ { s.region i with rights := 0 })
  busy || (x.valid &&
    (decide (x.last < x.first) || decide (s.fld Reg.XLT.USER_SEGS.USER_SEGS / 4096 ≤ x.last) ||
      s.prot.staged.any (fun e => decide (e.1 ≠ i) && e.2.meets x) || decide (x.mode = 3) || ((x.mode = 1 || x.mode = 2) && !x.versioning) || (x.grouped && x.compressed)))

/-- REGION_APPLY: the changed entries of a COMMIT are applied together or not at all. -/
def State.applyRegions (s : State) : State :=
  let changed := s.changedRegions
  let bad := changed.filter s.regionFails
  if changed.isEmpty then s
  else if bad.isEmpty then
    ((s.onProt (fun p => { p with regions := p.staged })).onPnv (fun p => { p with regions := s.prot.staged })).raise Reg.RGN.INT_STATUS.ENTRY_APPLIED
  else
    let s1 := s.each bad (fun s i => s.cfgErr 0x22 3 3 0x44 (s.stagedRegion i).word0)
    (s1.onProt (fun p => { p with staged := p.regions })).raise Reg.RGN.INT_STATUS.ENTRY_REJECTED

/-! ### Commits -/

/-- A new WINDOW starts windows at this boundary; a window that ends here is ended first (R820). -/
def State.windowApplied (s t : State) : State :=
  let f := Reg.PMC.WINDOW.WINDOW
  if s.appFld f = t.appFld f then t
  else
    let t1 := if s.pmc.winStart + s.appFld f ≤ t.clk.bell then t.windowEnd else t
    t1.onPmc (fun p => { p with winStart := t.clk.bell, run := [] })

/-- What an apply on a page brings about beyond the fields: a new window, the bucket's depth (R43), L2 ways (R312), regions. `s` is the state before it. -/
def State.afterApply (s t : State) (p : Nat) : State :=
  if p = 0x01 then t.setFld Reg.BWT.WB_LEVEL.LEVEL (min (t.fld Reg.BWT.WB_LEVEL.LEVEL) t.depth)
  else if p = 0x11 then (if s.appFld Reg.L2C.WAY_PD.PD_MASK = t.appFld Reg.L2C.WAY_PD.PD_MASK then t else t.wayPdApply)
  else if p = 0x22 then t.applyRegions
  else if p = 0x3C then s.windowApplied t
  else t

/-- The commit of page `p` is applied; while L2 ways are in transition, that of L2C waits (R313). -/
def State.applyPage (s : State) (p : Nat) : State :=
  if p = 0x11 && s.wayMoving then s
  else
    let t := s.each (s.stagedRegs p) State.applyReg
    let t1 := s.afterApply t p
    { t1 with commits := t1.commits.filter (fun q => q ≠ p) }

/-- Commits of the pages that satisfy `sel` are applied, in the order in which they were written. -/
def State.applyCommits (s : State) (sel : Nat → Bool) : State := s.each (s.commits.filter sel) State.applyPage

/-! ### BELL_BOUNDARY -/

/-- THROTTLE_START (R50): classes declared hammering are throttled from this bell on. -/
def State.throttleStart (s : State) : State :=
  if s.bw.hammerNew = 0 then s
  else
    (({ s with bw := { s.bw with hammerNew := 0 } }).setFld Reg.BWT.LAT_STATUS.RD_THROTTLED
      (s.fld Reg.BWT.LAT_STATUS.RD_THROTTLED ||| s.bw.hammerNew.toNat)).raise Reg.BWT.INT_STATUS.RD_THROTTLE

/-- The filter is suspended or acts again (R818). -/
def State.filterState (s : State) : State :=
  let on := match s.dev.st with
    | .service | .halt => false
    | .boot | .mount | .test | .degraded => true
    | _ => s.pmc.active
  (s.onPmc (fun p => { p with active := on })).setFlag Reg.PMC.STATUS.FILTER_ACTIVE on

/-- Programmable counters are cleared where CTRL.CLEAR asked for it (R815). -/
def State.pmcClear (s : State) : State :=
  if s.pmc.clear then s.onPmc (fun p => { p with clear := false, val := [] }) else s

/-- The bell counter advances: while the PLL is locked, and in standby (R9, R22, R23). -/
def State.bellRuns (s : State) : Bool := s.flag Reg.BWT.CLK_STATUS.PLL_LOCKED || s.pwr.standby

/-- The clock at the next bell boundary. -/
def Clock.nextBell (c : Clock) : Clock :=
  { bell := c.bell + 1, phase := 0, flockDue := c.flockDue || decide ((c.bell + 1) % 64 = 0), epochDue := c.epochDue || decide ((c.bell + 1) % 2 ^ 20 = 0) }

/-- The bell counter steps; what was counted up to the boundary is settled. Bells that the standby oscillator counts are credited (R23). -/
def State.nextBell (s : State) : State :=
  let s0 := s.settleHeld
  let s1 := { s0 with clk := s0.clk.nextBell, pwr := { s0.pwr with credited := if s0.pwr.standby && !s0.pwr.refClk then s0.pwr.credited + 1 else s0.pwr.credited } }
  s1.settleStarved.settle.pmcClear

/-- What the medium does in the bell that begins: bookings of ended slots go, spare banks that waited for senses are written, and the dies take program data (R93, R96, R97). -/
def State.mediumBell (s : State) : State :=
  let s1 := s.forgetOuts.spareRetry
  if s1.serving then s1.each s1.gangIds State.loadBell else s1

/-- BELL_BOUNDARY (R10, R24): the bell counter steps, staged configuration takes effect, the bucket refills, and what waits for a bell boundary happens. `words` are the bank words read with an error
since the last boundary (R747). At a flock boundary the refill is left to FLOCK_BOUNDARY, which follows in the same clk. -/
def State.bellBoundary (s : State) (words : List WordErr) : State :=
  let s1 := (s.nextBell.each words State.bankWord).applyCommits (fun p => !flockPage p)
  let s2 := (if s1.clk.flockDue then s1 else s1.refill).bellCmp.throttleStart.keysDue
  let s3 := ((((s2.cartMountDue 0).cartMountDue 1).streamBell.copyPump 0).copyPump 1).cartWindow
  ((s3.laneWakes s).filterState.ev 0x01 none none 1).mediumBell.standbyCheck

/-- BELL_BOUNDARY (R24). -/
def execBellBoundary (words : List WordErr) (s : State) : Res := .next (if s.bellRuns then s.bellBoundary words else s)

/-! ### The flock boundary: Bellwether and power -/

/-- A cap that has just been applied is the one that LAT_NEXT posts (R47). -/
def State.capApplied (s : State) : State :=
  let c := s.appFld Reg.PWR.CAP.CAP
  if s.flag Reg.BWT.LAT_NEXT.NEXT_VALID then s.setFld Reg.BWT.LAT_NEXT.CAP c else if c = s.capNow then s else s.postLat (some c) none

/-- A throttle ends with the first flock in which its class stayed below the threshold (R50, R396). -/
def State.throttleEnd (s : State) : State :=
  (s.setFld Reg.BWT.LAT_STATUS.RD_THROTTLED (s.fld Reg.BWT.LAT_STATUS.RD_THROTTLED &&& s.dram.overThresh.toNat)).onDram (fun d => { d with overThresh := 0, acts := [] })

/-- MR4_READ (R374, R380): the subchannels in `hot` request more than twice the base refresh rate. -/
def State.mr4 (s : State) (hot : List (Nat × Nat)) : State :=
  s.each (s.channels.filter (fun c => s.fld (Reg.DMC.STATUS.STATE c) = 2)) (fun s c =>
    if hot.any (fun h => h.1 = c) then (s.setFlag (Reg.DMC.STATUS.HOT c) true).raiseRec (Reg.DMC.INT_STATUS.DRAM_HOT c) sevError clsDevice c 0 0 0
    else s.setFlag (Reg.DMC.STATUS.HOT c) false)

/-- The cap figure of R656 in mW. -/
def capPower (cap : Nat) : Nat := ([30000, 28000, 18000, 12000, 8000] : List Nat).getD cap 8000

/-- The flock's average input power (R670). -/
def State.powerFlock (s : State) : State :=
  if s.hk.powerN = 0 then s
  else
    let p := s.hk.powerSum / s.hk.powerN
    let s1 := (s.setFld Reg.PWR.PIN.PIN (min p 0xFFFF)).cond (decide (capPower s.capNow < p)) (fun s => s.bumpSat Reg.PWR.PIN.CAP_OVER)
    s1.onHk (fun h => { h with powerSum := 0, powerN := 0 })

/-- FLOCK_LASTING of every die starts again (R111). -/
def State.clearLasting (s : State) : State :=
  s.each (List.range s.nDies) (fun s d => s.setFld (Reg.MED.DIE_FAULTS.FLOCK_LASTING (dieStack d) (diePos d)) 0)

/-! ### The flock boundary: translation -/

/-- Segments that open groups have written whose map entry is UNMAPPED (R182). -/
def State.groupFresh (s : State) : Nat :=
  ((s.xlt.groups.filter (fun e => match e.2.st with | .opened | .draining | .committed => true | _ => false)).map (fun e =>
    ((e.2.pend.map (fun y => y.1) ++ e.2.segs).eraseDups.filter (fun l => decide ((s.mapOf l).st = .unmapped))).length)).sum

/-- The Caldera target in paddocks, whole device. -/
def State.calderaTarget (s : State) : Nat :=
  let free := s.fld Reg.XLT.USER_SEGS.USER_SEGS - s.fld Reg.XLT.MAPPED.MAPPED - s.groupFresh
  ceilDiv (min (max (free / 3) 4194304) (s.appFld Reg.CAL.CTRL.MAX_GIB * 262144)) 1360

/-- CALDERA_TARGET (R182): the targets of the device and of each gang. -/
def State.retarget (s : State) : State :=
  let t := s.calderaTarget
  let open_ := s.writable.filter (fun g => !s.evacuating g)
  let gs := if open_.isEmpty then s.writable else open_
  let per := 3 * ceilDiv (ceilDiv t gs.length) 3
  let s1 := s.each s.gangIds (fun s g => s.setFld (Reg.CAL.TARGET_OF.TARGET_G g) (if gs.contains g then per else 0))
  if s.fld Reg.CAL.TARGET.TARGET = t then s1 else (s1.setFld Reg.CAL.TARGET.TARGET t).raise Reg.CAL.INT_STATUS.TARGET_CHANGED

/-- Map pages of the variant (R176). -/
def mapPages (v : Variant) : Nat := match v with | .v35A => 57344 | .v17A => 28672

/-- The row batches that hold map-page directory, band table with the wear counters, and drift tables at the end of a sweep cycle (R176, R275): 224 KiB or 112 KiB, 2 MiB or 1 MiB. The size of the drift
tables is the model's choice (log entry 108). -/
def tableKinds (v : Variant) : List SysKind :=
  let n : Nat × Nat := match v with | .v35A => (4, 32) | .v17A => (2, 16)
  (List.range n.1).map .directory ++ (List.range n.2).map .bandTable ++ [.driftTable 0]

/-- A changed map page is copied (R200): its row batch waits for a rotation, at whose end MAP_PAGE is journaled. False where there is no room for it. -/
def State.copyMapPage (s : State) (n : Nat) : Bool × State :=
  match s.sysGang n with
  | some g =>
    let r := s.sysQueue g (.mapPage n (s.xlt.map.within (n * 16384) ((n + 1) * 16384)))
    if r.1 then (true, r.2.onXlt (fun t => { t with dirty := t.dirty.erase n })) else (false, s)
  | none => (false, s)

/-- Row batches of the tables that wait for room take it as far as there is some. -/
def State.queueTables (s : State) : State :=
  match s.xlt.tables with
  | some t =>
    t.todo.zipIdx.foldl (fun s k =>
      match s.sysGang k.2 with
      | some g =>
        let r := s.sysQueue g k.1
        if r.1 then r.2.onXlt (fun x => { x with tables := x.tables.map (fun y => { y with todo := y.todo.erase k.1 }) }) else s
      | none => s) s
  | none => s

/-- The blocks that the map sweep has gone over once since they were written are reclaimed (R199). -/
def State.reclaim (s : State) : State :=
  let old := s.xlt.area.filter (fun b => decide (b.cycle + 2 ≤ s.xlt.cycles + 1))
  (s.each old (fun s b => (s.blockStale b.at0).blockStale b.at1)).onXlt (fun t => { t with area := t.area.filter (fun b => decide (t.cycles + 1 < b.cycle + 2)) })

/-- A sweep cycle ends (R192, R199, R200, R275): band table with wear, directory and drift tables go to the system area, and journal blocks are reclaimed. It ends once every map page that it copied is there. -/
def State.sweepEnd (s : State) : State :=
  let busy := s.gangIds.any (fun g => let x := s.gang g; (x.sysq ++ x.sysRows ++ x.sysEnding).any (fun r => match r.kind with | .mapPage _ _ => true | _ => false))
  if busy || s.xlt.tables.isSome then s
  else
    let s1 := s.reclaim.onXlt (fun t => { t with
      sweep := 0, cycles := t.cycles + 1, tables := some { bands := t.bands, dir := t.mapDir, todo := tableKinds s.variant, left := (tableKinds s.variant).length } })
    ((s1.onDrift (fun t => { t with toSave := t.sets })).bump Reg.XLT.SWEEPS.SWEEPS).queueTables

/-- MAP_SWEEP (R200): up to `fuel` pages in ascending order, at most `copies` of them copied. -/
def State.sweepOn (s : State) (fuel copies : Nat) : State :=
  match fuel with
  | 0 => s
  | k + 1 =>
    let n := s.xlt.sweep
    if mapPages s.variant ≤ n then s.sweepEnd
    else
      let next (s : State) : State := s.onXlt (fun t => { t with sweep := n + 1 })
      if s.xlt.dirty.contains n then
        (match copies with
         | 0 => s
         | c + 1 => let r := s.copyMapPage n; if r.1 then (next r.2).sweepOn k c else s)
      else (next s).sweepOn k copies

/-- The sweep's share of a flock; a cycle that has reached its last page ends. -/
def State.mapSweep (s : State) : State :=
  let s1 := s.queueTables.sweepOn 64 4
  if mapPages s1.variant ≤ s1.xlt.sweep then s1.sweepEnd else s1

/-- Gang `g` has an OPEN or EMPTY Caldera paddock with room. -/
def State.calderaRoom (s : State) (g : Nat) : Bool :=
  (match s.openPad g with | some p => decide ((s.pad g p).next < 85) | none => false) || !(s.emptyPads g).isEmpty

/-- WRITE_REFUSE (R197). -/
def State.refuseCheck (s : State) : State :=
  let on := s.writable.all (fun g => decide (s.heapSize g = 0)) && !s.writable.any (fun g => s.calderaRoom g)
  let s1 := s.setFlag Reg.XLT.STATUS.WRITE_REFUSE on
  if on && s.flag Reg.XLT.STATUS.WRITE_REFUSE then s1 else s1.onXlt (fun t => { t with refusedOnce := false })

/-- BAND_RELEASE (R174, R188) in gang `g`. -/
def State.bandsRelease (s : State) (g : Nat) : State := s.each (s.bandsIn g .released) (fun s b => s.bandRelease g b)

/-! ### The flock boundary: Shepherd -/

/-- The pass of gang `g` is over (R141): nothing is left from NEXT_SEG on. A pass whose QUOTA is 0, for nothing was live when it began, ends once a segment can be visited. DESIGN CHOICE (log entry 106): a pass
in which there is nothing to visit at all ends when its PASS_HOURS are over. -/
def State.passDue (s : State) (g : Nat) : Bool :=
  let x := (s.gang g).shep
  decide (s.appFld Reg.SHP.CTRL.SHP_ENABLE = 1) && decide (s.levelNow < 2) && decide (s.margin g < 3) &&
    (match s.shepNext g with
     | some _ => decide (s.fld (Reg.SHP.QUOTA.QUOTA g) = 0)
     | none => (s.revGang g).any (fun e => s.visitable e.1 e.2) || decide (x.passStart + x.hours * 41198730 ≤ s.flock))

/-- The Shepherd's credit, the end of a pass, and whether a pass is behind (R141, R142). DESIGN CHOICE (log entry 106): the credit goes on growing, and BEHIND is raised, while visits are stopped (R144). -/
def State.shepFlock (s0 : State) (g : Nat) : State :=
  let s := if s0.passDue g then s0.passEnd g else s0
  let x := (s.gang g).shep
  let s1 := s.onGang g (fun y => { y with shep := { y.shep with credit := y.shep.credit + s.fld (Reg.SHP.QUOTA.QUOTA g) } })
  let s2 := if !x.behind && decide (x.passStart + x.hours * 41198730 < s.flock) then
      (s1.onGang g (fun y => { y with shep := { y.shep with behind := true } })).raise Reg.SHP.INT_STATUS.BEHIND
    else s1
  if x.saved + 65536 ≤ s.flock then
    (s2.onPnv (fun p => { p with shpPos := SMap.set (fun _ => 0) p.shpPos g (s.fld (Reg.SHP.POS.NEXT_SEG g)) })).onGang g (fun y => { y with shep := { y.shep with saved := s.flock } })
  else s2

/-! ### The flock boundary: the rota starts (R728, R733) -/

/-- A reduction that no longer holds once the mount is over: a failed die whose gang has been evacuated (R196). -/
def State.stillReduced (s : State) (r : Nat) : Bool :=
  !(decide (r < 40) && s.evacuating (dieGang r) && decide (s.liveIn (dieGang r) = 0))

/-- The rota is in force in every gang. -/
def State.rotaOn (s : State) : State := s.each s.gangIds (fun s g => s.onRota g (fun r => { r with on := true }))

/-- The end of a cold start: SERVICE, or DEGRADED with a reduction; READY; each gang's Shepherd pass starts; seated cartridges are brought up. -/
def State.startEnds (s : State) : State :=
  let s1 := s.rotaOn.onDev (fun d => { d with rotaPending := false, step := 0, reduced := d.reduced.filter s.stillReduced })
  let s2 := (s1.toState (if s1.dev.reduced.isEmpty then .service else .degraded)).raise Reg.DEV.INT_STATUS.READY
  (s2.each s2.gangIds State.passBegin).cartsUp

/-- The end of a resume. -/
def State.resumeEnds (s : State) : State :=
  let s1 := (s.rotaOn.onDev (fun d => { d with rotaPending := false, resuming := false })).setFlag Reg.PWR.STATUS.STANDBY false
  (s1.raise Reg.PWR.INT_STATUS.RESUMED).raise Reg.DEV.INT_STATUS.READY

/-- The rota restarts where a start or a resume waits for it, unless an event of the same clk goes first (R13). -/
def State.rotaStart (s : State) : State :=
  if !s.dev.rotaPending || s.outranked 4 then s else if s.dev.resuming then s.resumeEnds else if s.dev.st = .mount then s.startEnds else s

/-- Reads that wait for their slot look for it under the pattern in force from this boundary on. -/
def State.rebind (s : State) : State :=
  s.onReads (fun x => { x with list := x.list.map (fun r => if r.st = .bound then { r with arrive := max r.arrive s.now } else r) })

/-! ### FLOCK_BOUNDARY -/

/-- The map and the tables are loaded, and the blocks that work on them run: from the end of step 12 of a start on, outside standby. -/
def State.mapWork (s : State) : Bool := (s.serving || (s.dev.st = .mount && s.dev.rotaPending)) && !s.pwr.standby

/-- What the DRAM controller and the medium do at a flock boundary, in every state in which they are on. -/
def State.flockCounts (s : State) (hot : List (Nat × Nat)) : State := (s.throttleEnd.mr4 hot).clearLasting.epochAdvance.classFlock

/-- What translation, drift tracker, Drover and Shepherd do at a flock boundary. -/
def State.flockBlocks (s : State) : State :=
  let s1 := (s.onDram (fun d => { d with badMap := [] })).driftFlock
  let s2 := ((s1.each s1.gangIds State.bandsRelease).each s1.gangIds State.refreshQueue).retarget
  let s3 := (s2.mapSweep.each s2.gangIds State.foldAims).each s2.gangIds State.openNext
  let s4 := (s3.refuseCheck.each s3.gangIds State.evacCheck).setFlag Reg.SHP.STATUS.THERMAL_STOP (decide (2 ≤ s3.levelNow))
  (s4.each s4.gangIds State.shepFlock).lifeAlert

/-- What a flock boundary does: rota, cap and thermal changes first, the refill under the budget in force from here on, then the blocks that run. -/
def State.flockBoundary (s : State) (hot : List (Nat × Nat)) : State :=
  let s0 := { s with clk := { s.clk with flockDue := false } }
  let late := s.clk.late
  let s1 := ({ s0 with clk := { s0.clk with late := [] } }.applyCommits (fun p => flockPage p && !late.contains p)).capApplied.applyLat.refill
  let s2 := (s1.powerFlock.tremorFlock).rebind
  let s3 := if s2.pwr.ctrlOn then s2.flockCounts hot else s2
  (if s3.mapWork then s3.flockBlocks else s3).rotaStart.standbyCheck

/-- FLOCK_BOUNDARY (R24): follows the BELL_BOUNDARY of a bell whose number is a multiple of 64, in the same clk. -/
def execFlockBoundary (hot : List (Nat × Nat)) (s : State) : Res := .next (if s.clk.flockDue then s.flockBoundary hot else s)

/-! ### EPOCH_BOUNDARY (R258, R259) -/

/-- EPOCH_BOUNDARY (R258, R259): the device epoch rises by 1, and is saved when it is a multiple of 4,096. Band ages follow from it (R261). -/
def execEpochBoundary (s : State) : Res :=
  .next (if s.clk.epochDue then
    let s1 := ({ s with clk := { s.clk with epochDue := false } }).epochBy 1
    if s1.epoch % 4096 = 0 then s1.onPnv (fun p => { p with epoch := max p.epoch s1.epoch }) else s1
  else s)

end Sys2Proof.Machine
end

