-- ==== Sys2Proof/Machine/Pages.lean ====
section
/-! DEFINITION. Register pages: their states (R850, R851) and the words of the common header (R847 to R854). -/

namespace Sys2Proof.Machine

/-! ### States of a page (R850, R851) -/

/-- Pages of blocks in VDD_AON (R851): DEV, BWT, ALM, PWR, HKA, THM and VNT. -/
def aonPage (p : Nat) : Bool := p = 0x00 || p = 0x01 || p = 0x23 || (decide (0x30 ≤ p) && decide (p ≤ 0x33))

/-- The page's block is absent in the variant, or its domain is held off (R851). -/
def State.pageAbsent (s : State) (p : Nat) : Bool :=
  (p = 0x03 && decide (s.variant = .v17A)) || (p = 0x28 && s.zlOff 0) || (p = 0x29 && s.zlOff 1)

/-- STATE reads OFF (R851). -/
def State.pageOff (s : State) (p : Nat) : Bool := !s.dev.por || (!aonPage p && (!s.pwr.ctrlOn || s.pageAbsent p))

/-- The rule by which a page's chapter calls it IDLE. -/
def State.pageIdle (s : State) (p : Nat) : Bool :=
  if p = 0x18 then !s.link.up
  else if p = 0x19 then !s.link.hdmOn
  else if p = 0x1A || p = 0x1B || p = 0x1C || p = 0x28 || p = 0x29 then !s.serving
  else if p = 0x00 || p = 0x30 || p = 0x33 then s.dev.st = .off || s.dev.st = .seqUp
  else if p = 0x3A then !s.dev.tallyReady
  else if p = 0x3B || p = 0x3C || p = 0x3D then s.dev.st = .seqUp
  else s.dev.st = .boot || s.dev.st = .mount

/-- STATE of page `p` (R850): 0 OFF, 1 IDLE, 2 RUN, 3 RESETTING. -/
def State.pageState (s : State) (p : Nat) : Nat :=
  if s.pageOff p then 0 else if s.resetting.contains p then 3 else if s.pageIdle p then 1 else 2

/-- The page answers an access at offset `off` (R845, R851): every offset in IDLE and RUN, the header in RESETTING, nothing that takes a write in OFF. -/
def State.pageOpen (s : State) (p off : Nat) : Bool :=
  (pageInfo p).isSome && (match s.pageState p with | 0 => false | 3 => decide (off < 0x40) | _ => true)

/-! ### Header words -/

/-- PAGE_ID (R847). -/
def pageId (p : Nat) : Nat := match pageInfo p with | some i => i.name * 256 + 0x10 + i.inst | none => 0

/-- A page has fields of class `c`. -/
def pageHas (p : Nat) (c : Cls) : Bool := match pageInfo p with | some i => i.rows.any (fun r => r.fields.any (fun f => decide (f.cls = c))) | none => false

/-- Registers of page `p`, header included (R868): the tables list INT_STATUS, which is one of the twelve. -/
def pageRegs (p : Nat) : Nat := match pageInfo p with | some i => 11 + (i.rows.map (fun r => r.count)).sum | none => 0

/-- PAGE_CAPS (R848). -/
def pageCaps (p : Nat) : Nat := b2n (pageHas p .st) * 2 ^ 15 + b2n (flockPage p) * 2 ^ 14 + b2n (pageHas p .il) * 2 ^ 13 + pageRegs p

/-- An operation that the page defines as BUSY is in progress: a KEY operation, cache maintenance, a march pass, a PNV operation, a trim, a copy or a save. -/
def State.pageWorks (s : State) (p : Nat) : Bool :=
  if p = 0x21 then s.flag Reg.KEY.OP_STATUS.BUSY
  else if p = 0x11 then s.caches.maint.isSome
  else if p = 0x38 then s.srm.march.isSome
  else if p = 0x39 then s.flag Reg.PNV.STATUS.BUSY
  else if p = 0x0B then s.flag Reg.XLT.STATUS.TRIM_BUSY
  else if p = 0x28 || p = 0x29 then s.flag (Reg.ZL.COPY_STATUS.BUSY (p - 0x28)) || s.flag (Reg.ZL.SAVE_STATUS.BUSY (p - 0x28))
  else false

/-- PAGE_STATUS (R850). In OFF only STATE shows. -/
def State.pageStatus (s : State) (p : Nat) : Nat :=
  let st := s.pageState p
  if st = 0 then 0
  else st * 2 ^ 30 + b2n (st = 3 || s.pageWorks p) * 2 ^ 29 + b2n (s.commits.contains p) * 2 ^ 28 + bitsOf (s.reg (p * 0x1000 + 0x0C)) 27 27 * 2 ^ 27 + b2n (s.intPend p) * 2 ^ 26

/-- The bits of INT_STATUS that page `p` defines (R852); DMC1 to DMC3 have no bits 3 and 5 (chapter 08). -/
def intMask (p : Nat) : Nat :=
  match regFields (p * 0x1000 + 0x10) with
  | some fs => (fs.map (fun f => 2 ^ f.lo)).sum - (if 0x15 ≤ p && p ≤ 0x17 then 0x28 else 0)
  | none => 0

/-- A header register as it reads, the page not being OFF. -/
def State.headerView (s : State) (p off : Nat) : Nat :=
  if off = 0x00 then pageId p
  else if off = 0x04 then pageCaps p
  else if off = 0x0C then s.pageStatus p
  else if off = 0x08 || off = 0x10 || off = 0x14 || (0x1C ≤ off && off ≤ 0x2C) then s.reg (p * 0x1000 + off)
  else 0

end Sys2Proof.Machine
end

