-- ==== Sys2Proof/Machine/Counters.lean ====
section
/-! DEFINITION. The ends of bandwidth windows, and the reads that do more than answer: those that latch or sample counters (R505, R820, R821), and that of GROUP_STATUSi (R223). -/

namespace Sys2Proof.Machine

/-- WINDOW_END (R820): WINDOW bells after the start of the present window, in one clk, FIXk take its counts and the next window starts. -/
def execWindowEnd (s : State) : Res :=
  let w := s.appFld Reg.PMC.WINDOW.WINDOW
  .next (if s.pmc.winStart + w ≤ s.clk.bell && !s.pageOff 0x3C then s.windowEnd.onPmc (fun p => { p with winStart := p.winStart + w }) else s)

/-- The read of a _LO register answers `lo` and latches `hi` for its accessor (R856); a page in OFF answers 0 (R851). -/
def State.readLo (s : State) (src : Source) (lo hi v : Nat) : State :=
  if s.pageOpen (lo / 0x1000) (lo % 0x1000) then (s.latch src hi (v / 2 ^ 32)).emit (.regValue src lo (BitVec.ofNat 32 v))
  else s.emit (.regValue src lo 0)

/-- BYTES_OUT_LO_READ (R505, R506). -/
def execBytesOutLoRead (src : Source) (s : State) : Res :=
  .next (s.readLo src Reg.STR.BYTES_OUT_LO.word Reg.STR.BYTES_OUT_HI.word (s.fld Reg.STR.BYTES_OUT_LO.BYTES_LO + s.fld Reg.STR.BYTES_OUT_HI.BYTES_HI * 2 ^ 32))

/-- FIX_LO_READ (R820, R838): fixed-function counter `counter` of the last window. -/
def execFixLoRead (src : Source) (counter : Nat) (s : State) : Res :=
  .next (if counter < 128 then
    s.readLo src (Reg.PMC.FIX_LO.word counter) (Reg.PMC.FIX_HI.word counter)
      (s.fld (Reg.PMC.FIX_LO.FIX_LO counter) + s.fld (Reg.PMC.FIX_HI.FIX_HI counter) * 2 ^ 32)
  else s)

/-- The page can accept a counter read: at most one in 16 clk (R821). -/
def State.sampleFree (s : State) : Bool := match s.pmc.lastRead with | some c => decide (c + 16 ≤ s.now) | none => true

/-- PVAL_LO_READ (R821): the programmable counter is sampled in the clk in which the page accepts the read, and SAMPLE takes that clk. -/
def execPvalLoRead (src : Source) (counter phase : Nat) (s : State) : Res :=
  let s0 := s.at_ phase
  .next (if !s0.pageOpen 0x3C 0x200 then (if counter < 64 then s0.readLo src (Reg.PMC.PVAL_LO.word counter) (Reg.PMC.PVAL_HI.word counter) 0 else s0)
  else if counter < 64 && s0.sampleFree then
    let s1 := (s0.settle.onPmc (fun p => { p with lastRead := some s0.now })).setFld Reg.PMC.SAMPLE.CLK (s0.now % 2 ^ 32)
    s1.readLo src (Reg.PMC.PVAL_LO.word counter) (Reg.PMC.PVAL_HI.word counter) (s1.pval counter)
  else s0)

/-- GROUP_STATUS_READ (R223): the read answers the status; in DONE, OVERFLOW-aborted or ABORTED it frees the slot. -/
def execGroupStatusRead (src : Source) (slot : Nat) (s : State) : Res :=
  let x := s.group slot
  let a := Reg.XLT.GROUP_STATUS.word slot
  .next (if 16 ≤ slot then s
  else if !s.pageOpen 0x0B 0x80 then s.emit (.regValue src a 0)
  else
    let s1 := s.emit (.regValue src a (BitVec.ofNat 32 (s.groupWord slot)))
    if x.st = .done || x.st = .aborted || (x.st = .overflow && x.ended) then s1.setGroup slot {} else s1)

end Sys2Proof.Machine
end

