-- ==== Sys2Proof/Machine/RegView.lean ====
section
/-! DEFINITION. What a register reads (R823, R855, R867), without any effect of the read. Registers that report what other fields of State hold are computed here; every other one reads its stored word. -/

namespace Sys2Proof.Machine

/-- `w` with field `f` reading `x`. -/
def Fld.show (f : Fld) (x w : Nat) : Nat := putBits w f.hi f.lo x

/-- The numbers below `n` that satisfy `p`, as a bit mask. -/
def maskOf (n : Nat) (p : Nat → Bool) : Nat := ((List.range n).map (fun i => if p i then 2 ^ i else 0)).sum

/-! ### Bellwether, rota, medium, sector code (chapters 01 to 03) -/

/-- BWT. A read that latches nothing shows the live value of a _HI register. -/
def State.viewBwt (s : State) (off w : Nat) : Nat :=
  if off = 0x40 then s.clk.bell % 2 ^ 32
  else if off = 0x44 then s.clk.bell / 2 ^ 32 % 2 ^ 24
  else if off = 0x48 then s.clk.phase
  else if off = 0x68 then s.budget
  else w

/-- Code of a slot type in ROT.EFFECTIVE (R79). -/
def SlotTy.code (t : SlotTy) : Nat := match t with | .r => 0 | .b => 1 | .i => 2

/-- KIND of TURN_STATUS (R81). -/
def TurnKind.code (k : TurnKind) : Nat := match k with | .idle => 0 | .slc => 1 | .tlc => 2 | .none => 3

/-- TURN_STATUS of gang `g` (R81): ROTATING reads 0 while the rotation is paused, and 1 between a cut turn and the next item. -/
def State.turnStatus (s : State) (g : Nat) : Nat :=
  let r := s.rota g
  let die := match r.kind with | .slc | .tlc => r.pos | _ => 0
  let left := if r.kind = TurnKind.none then 0 else min 7 ((r.turnEnd - s.now) / 4096)
  b2n (r.rotating && (r.cut || decide (r.kind ≠ TurnKind.none))) * 2 ^ 31 + r.kind.code * 2 ^ 29 + die * 2 ^ 16 + s.idlePerRot g % 256 * 2 ^ 8 + left

/-- ROT of gang `g`. -/
def State.viewRot (s : State) (g off w : Nat) : Nat :=
  if off = 0x48 then ((List.range 16).map (fun k => (s.slotTy g k).code * 4 ^ k)).sum
  else if off = 0x50 then s.turnStatus g
  else w

/-- MED of stack `st`: the domains of a die and its program turn in DIE_STATUSn (R120). -/
def State.viewMed (s : State) (st off w : Nat) : Nat :=
  if 0x60 ≤ off && off < 0x80 then
    let n := (off - 0x60) / 4
    let d := dieAt st n
    (Reg.MED.DIE_STATUS.PROGRAMMING st n).show (b2n (s.programming d && decide (d < s.nDies)))
      ((Reg.MED.DIE_STATUS.IF_ON st n).show (b2n (s.pwr.dom.getLsbD (56 + 2 * d))) ((Reg.MED.DIE_STATUS.ARRAY_ON st n).show (b2n (s.pwr.dom.getLsbD (57 + 2 * d))) w))
  else w

/-- SEC: GANG_STATUSg (R146). -/
def State.viewSec (s : State) (off w : Nat) : Nat :=
  if off = 0x40 || off = 0x44 then
    let g := (off - 0x40) / 4
    if s.nGangs ≤ g then 0
    else s.margin g * 2 ^ 30 + b2n (s.progNow g).isSome * 2 ^ 29 + (s.progNow g).getD 0 * 2 ^ 24 + maskOf 20 (fun i => s.dieFailed (dieNo g i))
  else w

/-- SHP: the gangs that are being scanned (R141, R159). -/
def State.viewShp (s : State) (off w : Nat) : Nat :=
  let on (g : Nat) : Nat := b2n (decide (g < s.nGangs) && s.working && s.mapWork && !s.flag Reg.SHP.STATUS.THERMAL_STOP && decide (s.appFld Reg.SHP.CTRL.SHP_ENABLE = 1) &&
    decide (s.margin g < 3))
  if off = 0x44 then Reg.SHP.STATUS.ACTIVE0.show (on 0) (Reg.SHP.STATUS.ACTIVE1.show (on 1) w) else w

/-! ### Translation, Drover, Caldera, drift (chapters 04 and 05) -/

/-- XLT. DESIGN CHOICE (log entry 106): JOURNAL_TAIL.BLOCKS stays at 256 where the tail exceeds its 256 blocks for a moment, which records that may not be refused can bring about. -/
def State.viewXlt (s : State) (off w : Nat) : Nat :=
  if off = 0x40 then Reg.XLT.STATUS.WRITE_THROUGH.show (b2n s.writeThrough) w
  else if 0x80 ≤ off && off < 0xC0 then s.groupWord ((off - 0x80) / 4)
  else if off = 0xC0 then min 256 s.xlt.tail.length
  else if off = 0xC4 then s.xlt.area.length
  else w

/-- The listed bands of gang `g` with their numbers. -/
def State.bandsOf (s : State) (g : Nat) : List (Nat × Band) :=
  (s.xlt.bands.within (bandKey g 0) (bandKey g 0 + bandsPerGang)).map (fun e => (e.1 - bandKey g 0, e.2))

/-- Least and largest paddock wear of gang `g` (R231, R232), retired paddocks excluded from the least; a band not listed has no wear. -/
def State.wearMin (s : State) (g : Nat) : Nat :=
  if (s.bandsOf g).length < bandsPerGang then 0
  else match ((s.bandsOf g).filter (fun e => decide (e.2.st ≠ .retired))).map (fun e => e.2.wear) with
    | [] => 0
    | x :: l => l.foldl min x

/-- Average paddock wear of gang `g` (R233). -/
def State.wearAvg (s : State) (g : Nat) : Nat := ((s.bandsOf g).map (fun e => e.2.wear * bandPaddocks e.1)).sum / 131072

/-- DRV. -/
def State.viewDrv (s : State) (off w : Nat) : Nat :=
  let g := (off - 0x50) / 0x10
  if 0x50 ≤ off && off < 0x70 then
    if s.nGangs ≤ g then 0
    else if off % 16 = 0 then s.wearMin g
    else if off % 16 = 4 then s.maxWear g
    else if off % 16 = 8 then s.wearAvg g
    else s.lifeUsed g
  else if off = 0xA8 || off = 0xAC then
    let h := (off - 0xA8) / 4
    if s.nGangs ≤ h then 0 else b2n (s.evacuating h) * 2 ^ 31 + s.liveIn h
  else w

/-- OPENg of CAL (R252): the next row batch to program is the first that a rotation holds and has not ended, else the next to be placed. -/
def State.calOpen (s : State) (g : Nat) : Nat :=
  match s.openPad g with
  | some p =>
    let under := ((s.gang g).placed ++ (s.gang g).ending).filter (fun x => decide (x.paddock = p))
    2 ^ 31 + min (under.foldl (fun n x => min n x.row) (s.pad g p).next) 84 * 2 ^ 24 + p
  | none => 0

/-- CAL. What comes from the band table reads its reset value until start-up step 11 has loaded it (R863). -/
def State.viewCal (s : State) (off w : Nat) : Nat :=
  let g := off / 4 % 2
  let here (x : Nat) : Nat := if s.nGangs ≤ g || !s.xlt.loaded then 0 else x
  if 0x58 ≤ off && off < 0x60 then here (s.used g)
  else if 0x60 ≤ off && off < 0x68 then here (((s.bandsIn g .caldera).map (fun b => (s.band g b).live)).sum)
  else if 0x68 ≤ off && off < 0x70 then here (s.calOpen g)
  else if off = 0x70 then if !s.xlt.loaded then 0 else maskOf 4 (fun i => s.xlt.pads.any (fun e => decide (e.2.slot = some i)))
  else if off = 0x74 then s.stagingUsed
  else if 0x78 ≤ off && off < 0x80 then here (s.heapSize g)
  else w

/-- DRF: the class of a failed die reads 0 (R285). -/
def State.viewDrf (s : State) (off w : Nat) : Nat :=
  if 0x70 ≤ off && off < 0x7C then
    (List.range 16).foldl (fun w m => if s.dieFailed (16 * ((off - 0x70) / 4) + m) then putBits w (2 * m + 1) (2 * m) 0 else w) w
  else w

/-! ### Caches, DRAM, host link, stream engine (chapters 06, 08 to 10) -/

/-- L2C. -/
def State.viewL2c (s : State) (off w : Nat) : Nat :=
  if off = 0x50 then Reg.L2C.MAINT_STATUS.BUSY.show (b2n s.caches.maint.isSome) w
  else if off = 0x58 then s.caches.wayOn.toNat * 2 ^ 16 + (s.caches.goingDown ||| s.caches.goingUp).toNat
  else w

/-- MEDIA_STATUS of R438. -/
def DevSt.media (d : DevSt) : Nat := match d with | .service | .degraded => 1 | .halt => 2 | .test | .rma => 3 | _ => 0

/-- HDM.STATUS (R463): READY, the mirror of WRITE_THROUGH, media status, DevLoad, window. -/
def State.hdmStatus (s : State) (w : Nat) : Nat :=
  let w1 := Reg.HDM.STATUS.READY.show (b2n (s.serving && s.link.hdmOn)) (Reg.HDM.STATUS.WRITE_THROUGH.show (b2n s.writeThrough) w)
  let w2 := Reg.HDM.STATUS.MEDIA_STATUS.show s.dev.st.media (Reg.HDM.STATUS.DEVLOAD.show s.devLoad w1)
  Reg.HDM.STATUS.LOG2_WINDOW.show (if s.link.hdmOn then 42 + s.fld Reg.HDM.CFG.KEYID_BITS else 0) w2

/-- DCX.LANE_STATUS (R523). -/
def State.laneStatus (s : State) : Nat :=
  maskOf 8 (fun x => decide (s.clk.bell < SMap.get (fun _ => 0) s.strm.lanes x)) * 2 ^ 8 +
    maskOf 8 (fun x => s.strm.reqs.any (fun r => r.decoding && (match r.lane with | some l => decide (l.1 = x) | none => false)))

/-! ### Protection (chapter 11) -/

/-- KEY.SLOTn (R572). -/
def KeySlot.word (k : KeySlot) : Nat := k.st * 2 ^ 30 + b2n k.persisted * 2 ^ 29 + b2n k.system * 2 ^ 28 + k.label % 2 ^ 16

/-- RGN: the entry that SEL names, as staged, and its generations (R574 to R580). -/
def State.viewRgn (s : State) (off w : Nat) : Nat :=
  let i := s.fld Reg.RGN.SEL.INDEX
  let g := s.gen i
  if off = 0x44 then (s.stagedRegion i).word0
  else if off = 0x48 then (s.stagedRegion i).word1
  else if off = 0x4C then (s.stagedRegion i).word2
  else if off = 0x50 then g.cur % 256 * 2 ^ 24 + g.low % 256 * 2 ^ 16 + g.oldCur % 256 * 2 ^ 8 + g.oldLow % 256
  else if off = 0x54 then b2n g.rekeyReq * 2 ^ 31 + b2n g.passActive * 2 ^ 30 + b2n g.oldValid * 2 ^ 29 + b2n (decide (0 < g.advancing)) * 2 ^ 28
  else if off = 0x58 then g.passPos % 2 ^ 30
  else w

/-! ### Power, housekeeping, thermal, Vent, device (chapters 13 and 14) -/

/-- PWR (R693, R695). -/
def State.viewPwr (s : State) (off w : Nat) : Nat :=
  if off = 0x70 then maskOf 8 (fun n => s.pwr.pg.contains (.ext n)) * 2 ^ 8 + s.pwr.extEn.toNat
  else if 0x80 ≤ off && off < 0x94 then s.pwr.dom.toNat / 2 ^ (32 * ((off - 0x80) / 4)) % 2 ^ 32
  else w

/-- HKA.DATA (R700). -/
def HkSample.word (x : HkSample) : Nat := b2n (decide (0 < x.outs)) * 2 ^ 31 + x.code % 4096 * 2 ^ 16 + ofSigned 16 x.value

/-- THM (R706, R707, R710). -/
def State.viewThm (s : State) (off w : Nat) : Nat :=
  if off = 0x48 then maskOf 32 (fun d => (s.sensor d).broken)
  else if off = 0x4C then maskOf 12 (fun i => (s.sensor (0x40 + i)).broken) * 2 ^ 16 + maskOf 8 (fun j => (s.sensor (32 + j)).broken)
  else if 0x80 ≤ off && off < 0xB0 then
    let x := s.sensor (0x40 + (off - 0x80) / 4)
    b2n x.broken * 2 ^ 31 + ofSigned 16 x.temp
  else w

/-- VNT.STATUS (R712). -/
def State.vntStatus (s : State) (w : Nat) : Nat :=
  Reg.VNT.STATUS.QUALIFIED.show (b2n s.hk.vholdQual) (Reg.VNT.STATUS.BOOST_ON.show (b2n s.charging) (Reg.VNT.STATUS.TESTING.show (b2n s.hk.testing) w))

/-- DEV.STATE (R736). -/
def State.devState (s : State) : Nat :=
  let any (lo hi : Nat) : Nat := b2n (s.dev.reduced.any (fun r => decide (lo ≤ r) && decide (r < hi)))
  s.dev.st.code * 2 ^ 28 + s.dev.prev.code * 2 ^ 24 + s.dev.step % 32 * 2 ^ 16 + any 200 300 * 4 + any 100 200 * 2 + any 0 100

/-! ### Memories, Tally, counters, debug (chapters 15 to 17) -/

/-- TLY.STATUS (R797). -/
def State.tlyStatus (s : State) : Nat :=
  b2n s.tally.flush.running * 2 ^ 31 + (s.bufHeld.filter (fun x => x.2.pend)).length % 4096 * 2 ^ 16 + s.bufHeld.length % 4096

/-- The task of the fault service among those of R790, in the order in which that rule lists them. -/
abbrev faultTask : Nat := 3

/-- ERR.CORES (R812). -/
def State.errCores (s : State) : Nat :=
  (((List.range 8).find? (fun c => (s.core c).tasks.contains faultTask)).getD 0) * 2 ^ 16 + maskOf 8 (fun c => (s.core c).lost) * 2 ^ 8 + maskOf 8 (fun c => (s.core c).live)

/-- ERR (R805, R806). ACTIVE and SEV show the record of the last RECORD_STEP for its 6 clk (log entry 120). -/
def State.viewErr (s : State) (off w : Nat) : Nat :=
  if off = 0x40 then (if s.now < s.tally.stepTill then 2 ^ 31 + s.tally.stepSev % 8 * 2 ^ 28 else 0) + s.tally.escFlag.toNat
  else if off = 0x44 then ((List.range 8).map (fun v => (s.tally.queueOf v).length % 16 * 2 ^ (4 * v))).sum
  else if off = 0x60 then s.errCores
  else w

/-- PMC: the programmable counters as they stand (R836, R837). -/
def State.viewPmc (s : State) (off w : Nat) : Nat :=
  if 0x200 ≤ off && off < 0x400 then
    let v := s.pval ((off - 0x200) / 8)
    if off % 8 = 0 then v % 2 ^ 32 else v / 2 ^ 32
  else w

/-- LEVEL of the Deleper port (R823, R824, R826): 3 in RMA, else 2 while a session is open, 1 from BOOT on. -/
def State.dbgLevel (s : State) : Nat :=
  match s.dev.st with
  | .rma => 3
  | .off | .seqUp => 0
  | _ => max 1 (s.fld Reg.DBG.STATUS.LEVEL)

/-! ### The view -/

/-- A block register of page `p` whose stored word is `w`. -/
def State.blockView (s : State) (p off w : Nat) : Nat :=
  if p = 0x00 then (if off = 0x40 then s.devState else w)
  else if p = 0x01 then s.viewBwt off w
  else if p = 0x02 then s.viewRot 0 off w
  else if p = 0x03 then s.viewRot 1 off w
  else if 0x04 ≤ p && p ≤ 0x08 then s.viewMed (p - 0x04) off w
  else if p = 0x09 then s.viewSec off w
  else if p = 0x0A then s.viewShp off w
  else if p = 0x0B then s.viewXlt off w
  else if p = 0x0C then s.viewDrv off w
  else if p = 0x0D then s.viewCal off w
  else if p = 0x0E then s.viewDrf off w
  else if p = 0x11 then s.viewL2c off w
  else if p = 0x14 then (if off = 0x84 then Reg.DMC0.RT_STATUS.OCCUPANCY.show s.dram.ub.length w else w)
  else if p = 0x19 then (if off = 0x44 then s.hdmStatus w else w)
  else if p = 0x1A then (if off = 0x44 then Reg.STR.STATUS.LINK_LINES.show s.linkLines w else w)
  else if p = 0x1C then (if off = 0x40 then s.laneStatus else w)
  else if p = 0x21 then (if 0x100 ≤ off && off < 0x200 then (s.slot ((off - 0x100) / 4)).word else w)
  else if p = 0x22 then s.viewRgn off w
  else if p = 0x30 then s.viewPwr off w
  else if p = 0x31 then (if off = 0x48 then (SMap.get (fun _ => ({} : HkSample)) s.hk.ch (s.fld Reg.HKA.SEL.CHANNEL)).word else w)
  else if p = 0x32 then s.viewThm off w
  else if p = 0x33 then (if off = 0x40 then s.vntStatus w else w)
  else if p = 0x38 then (if off = 0x4C then s.retStatus else w)
  else if p = 0x39 then (if off = 0x40 then Reg.PNV.STATUS.INTENT_OPEN.show (b2n s.pnv.erasing) w else w)
  else if p = 0x3A then (if off = 0x48 then s.tlyStatus else if off = 0x4C then s.tally.seq else w)
  else if p = 0x3B then s.viewErr off w
  else if p = 0x3C then s.viewPmc off w
  else if p = 0x3D then (if off = 0x40 then s.dbgLevel * 2 ^ 30 + b2n s.dbg.lock * 2 ^ 29 else w)
  else w

/-- What the register at BAR0 offset `a` reads at the present clk (R823, R845, R851, R855): a page in OFF answers PAGE_ID and PAGE_STATUS, one in RESETTING its header, and an offset that no chapter defines reads 0. -/
def State.viewReg (s : State) (a : Nat) : Word :=
  let p := a / 0x1000
  let off := a % 0x1000
  let t := (s.settleHeldTo s.clk.phase).settleStarved.settle
  BitVec.ofNat 32 (
    if (pageInfo p).isNone || off % 4 ≠ 0 then 0
    else if s.pageState p = 0 then (if off = 0 then pageId p else 0)
    else if off < 0x40 then s.headerView p off
    else if s.pageState p = 3 || (regFields a).isNone then 0
    else t.blockView p off (t.reg a))

end Sys2Proof.Machine
end

