-- ==== Sys2Proof/Machine/Deleper.lean ====
section
/-! DEFINITION. The Deleper port (R822 to R826): the TAP instructions, authorisation, memory access, the RMA seal. One command is one pass of the port: the instruction is shifted in,
and its data register is shifted through. -/

namespace Sys2Proof.Machine

/-- `s` with the state of the Deleper port changed by `f`. -/
def State.onDbg (s : State) (f : Dbg → Dbg) : State := { s with dbg := f s.dbg }

/-- The TAP works: VDD_AON and VDD_IO are on (R822). -/
def State.tapOn (s : State) : Bool := s.dev.por && s.pwr.rails.contains .vddIo

/-- BYPASS: the one-bit bypass register, which captures 0. -/
def State.bypass (s : State) : State := (s.onDbg (fun d => { d with ir := 0xFF })).emit (.tdo [0])

/-- An instruction of level `lvl` and code `code`; above the current level, or where `may` does not hold, it acts as BYPASS (R822). Nothing happens while the TAP has no power. -/
def State.tap (s : State) (lvl code : Nat) (may : Bool) (f : State → State) : State :=
  if !s.tapOn then s
  else if s.dbgLevel < lvl || !may then s.bypass
  else f (s.onDbg (fun d => { d with ir := code }))

/-! ### Level 0 (R822) -/

/-- EXTEST: only in TEST. The boundary register captures the balls and then drives them with `data`. -/
def execExtest (balls data : Nat) (s : State) : Res :=
  .next (s.tap 0 0x00 (decide (s.dev.st = .test)) (fun s => (s.onDbg (fun d => { d with boundary := data })).emit (.tdo [balls])))

/-- SAMPLE/PRELOAD: the boundary register captures the balls and is loaded with `data`; the balls are not driven. -/
def execSamplePreload (balls data : Nat) (s : State) : Res :=
  .next (s.tap 0 0x01 true (fun s => (s.onDbg (fun d => { d with boundary := data })).emit (.tdo [balls])))

/-- The IDCODE of the stepping that the spec describes. -/
abbrev idcode : Nat := 0x1468014B

/-- IDCODE. -/
def execIdcode (s : State) : Res := .next (s.tap 0 0x02 true (fun s => s.emit (.tdo [idcode])))

/-- CLAMP: only in TEST. The boundary register drives the balls, and the bypass register is shifted. -/
def execClamp (s : State) : Res := .next (s.tap 0 0x03 (decide (s.dev.st = .test)) (fun s => s.emit (.tdo [0])))

/-- BYPASS. -/
def execBypass (s : State) : Res := .next (if s.tapOn then s.bypass else s)

/-- TRST_N_ASSERT (R824): the TAP resets, so that the instruction register holds IDCODE, and level 2 ends. -/
def execTrstNAssert (s : State) : Res := .next (if s.tapOn then (s.onDbg (fun d => { d with ir := 0x02 })).endDebug else s)

/-! ### Level 1 (R823, R824) -/

/-- REG_READ (R823): the register at BAR0 offset `addr`. -/
def execRegRead (addr phase : Nat) (s : State) : Res :=
  let s0 := s.at_ phase
  .next (s0.tap 1 0x10 true (fun s => s.emit (.tdo [(s.viewReg (addr % 0x40000)).toNat])))

/-- ASCII "DELEPER2". -/
def deleper2 : List Nat := [0x44, 0x45, 0x4C, 0x45, 0x50, 0x45, 0x52, 0x32]

/-- The 32 bytes of the AUTH challenge in CHAL0 to CHAL7 (R843). -/
def State.dbgChal (s : State) : List Nat := (List.range 8).flatMap (fun n => bytesBe 4 (s.fld (Reg.DBG.CHAL.CHAL n)))

/-- A challenge stands in CHAL0 to CHAL7: one that has not been answered, or a new one. -/
def State.dbgDraw (s : State) : State :=
  if s.dbg.challenge then s
  else
    let d := s.draw 256
    (d.2.each (List.range 8) (fun s n => s.setFld (Reg.DBG.CHAL.CHAL n) (d.1 / 2 ^ (32 * (7 - n)) % 2 ^ 32))).onDbg (fun x => { x with challenge := true })

/-- The signature shifted in is verified; each challenge verifies at most once (R824). -/
def State.dbgVerify (s : State) (sig : List Nat) : State :=
  let s1 := s.onDbg (fun d => { d with challenge := false })
  if Config.customerSet && Config.ecdsaOk Config.customerKey (deleper2 ++ serialBytes ++ s.dbgChal) sig then
    ((s1.setFld Reg.DBG.STATUS.LEVEL 2).bump Reg.DBG.COUNTS.SESSIONS).raise Reg.DBG.INT_STATUS.AUTH_OK
  else ((s1.bumpSat Reg.DBG.COUNTS.AUTH_FAILS).raise Reg.DBG.INT_STATUS.AUTH_FAIL).tremor 6 clsDebug

/-- AUTH (R824): the challenge is shifted out, and a signature shifted in is verified; with none shifted in, only the challenge is. While L2_LOCK is set AUTH is refused. -/
def execAuth (sig : List Nat) (s : State) : Res :=
  .next (s.tap 1 0x20 (!s.dbg.lock) (fun s =>
    let s1 := s.dbgDraw
    let s2 := s1.emit (.tdo s1.dbgChal)
    if sig.isEmpty then s2 else s2.dbgVerify sig))

/-! ### MEM_ACCESS (R825) -/

/-- The sensing of a debug read: a background sense of the segment in the B slots. -/
def State.debugSensing (s : State) (dpa : Nat) : Sensing :=
  let psa := (s.mapOf (dpaSeg dpa)).psa
  { psa, lseg := dpaSeg dpa, bank := s.activeBank (psaGang psa), bin := s.psaBin psa, classes := s.classesOf (psaGang psa), er := s.leftOut (psaGang psa), who := .host,
    cls := clsDebug, track := none }

/-- The sense of a debug read starts: its commands and what it counts. -/
def State.debugSense (s : State) (c : Sensing) : State :=
  let b := s.bookBg (psaGang c.psa) 16
  let s1 := (b.2.2.senseCount 0x11 c.lseg clsDebug c.er (s.progNow (psaGang c.psa)).toList).senseBytes c.psa c.er 1
  { s1 with out := s1.out ++ senseCmds c.psa (s.psaSlc c.psa) c.bank c.bin c.classes c.er b.1 }

/-- One sector from the medium, with a second attempt where the first fails (R137). -/
def State.debugMedia (s : State) (dpa : Nat) (first second : Sensed) : SecOut × State :=
  let c := s.debugSensing dpa
  let k := dpaSector dpa
  let g := psaGang c.psa
  let s1 := s.debugSense c
  if s1.margin g = 3 then (.fail 0, s1)
  else
    let er := (c.er ++ s1.failedOf g).eraseDups
    let a := s1.attempt c k first er none
    let s2 := s1.noteAttempt c k first a true []
    if a.out.ok then (s2.plain (dpaLsn dpa) a.out, s2)
    else
      let s3 := s2.debugSense c
      let b := s3.attempt c k second er none
      let s4 := (s3.noteAttempt c k second b false (a.faults first k c.er)).classify clsDebug c.psa c.lseg k a.out.cause b
      (if b.out.ok then s4.plain (dpaLsn dpa) b.out else .fail b.out.cause, s4)

/-- The sector of a debug read: the sector cache, else the map state. It allocates in no cache. -/
def State.debugSector (s : State) (dpa : Nat) (first second : Sensed) : SecOut × State :=
  match s.scFind (dpaLsn dpa) with
  | some e => (if e.poison then .poison 0 else .data e.data 0, s)
  | none =>
    let e := s.mapOf (dpaSeg dpa)
    match e.st with
    | .unmapped => (.zeros, s)
    | .poisoned => (.poison 0, s)
    | _ => s.debugMedia dpa first second

/-- A debug read of an internal line: staged bytes over the sector, result 0x00 and the line, or 0x01. -/
def State.debugRead (s : State) (dpa : Nat) (rows : List (Nat × Nat × Nat × Nat)) (first second : Sensed) : State :=
  let v := s.readView (dpa / 64)
  let s1 := (s.ev 0x30 (some dpa) (some clsDebug) 1).each rows (fun s x => s.activate x.1 x.2.1 x.2.2.1 x.2.2.2 3)
  if v.2 = BitVec.allOnes 64 then ((s1.ev 0x31 (some dpa) (some clsDebug) 1).moved 23 false 64).emit (.tdo [0, v.1.toNat])
  else
    let o := s1.debugSector dpa first second
    let l := o.1.line (dpa / 64 % 4)
    if l.1 then o.2.emit (.tdo [1, 0]) else (o.2.moved 23 false 64).emit (.tdo [0, (mergeLine l.2 v.1 v.2).toNat])

/-- MEM_ACCESS (R825): one line at a DPA and KeyID as master class DEBUG. A refusal answers 0x10 + its cause; a read of a cartridge answers when its response comes. -/
def State.memAccess (s : State) (write : Bool) (dpa keyid : Nat) (data : Line) (rows : List (Nat × Nat × Nat × Nat)) (first second : Sensed) : State :=
  let c := s.checkDpa clsDebug write false dpa keyid
  if c ≠ 0 then (s.refusedBy clsDebug c dpa keyid).emit (.tdo [0x10 + c])
  else if write then ((s.takeLine.storeLine dpa keyid data (BitVec.allOnes 64) false).moved 23 true 64).emit (.tdo [0])
  else match dpaCart dpa with
    | some n => s.cartCmd n 0x01 1 ((dpa - cartBase n) / 256) 0 [] (.debug (dpa / 64 % 4) false)
    | none => s.debugRead dpa rows first second

/-- MEM_ACCESS. `rows` are the DRAM rows that a read's lookup activates, `first` and `second` what the senses of its two attempts bring. -/
def execMemAccess (write : Bool) (dpa keyid : Nat) (data : Line) (rows : List (Nat × Nat × Nat × Nat)) (first second : Sensed) (phase : Nat) (s : State) : Res :=
  let s0 := s.at_ phase
  .next (s0.tap 2 0x21 true (fun s => s.memAccess write (dpa / 64 * 64) keyid data rows first second))

/-! ### Level 3 and the RMA seal (R826) -/

/-- ASCII "RMASEAL1". -/
def rmaseal1 : List Nat := [0x52, 0x4D, 0x41, 0x53, 0x45, 0x41, 0x4C, 0x31]

/-- A state from which the seal leads to RMA (R12). -/
def DevSt.canSeal (d : DevSt) : Bool := match d with | .boot | .mount | .service | .degraded | .test | .halt => true | _ => false

/-- A fused key hash, not revoked, is that of `key`. -/
def sealKeyOk (key : List Nat) : Bool := [0, 1].any (fun k => !Config.keyRevoked k && decide (Config.sha512 key = Config.keyHash k))

/-- The seal is checked against the challenge last shifted out: good, an Eruption with CAUSE bit 7, the seal blown, RMA; bad, Tremor 0x06 and nothing else. -/
def State.rmaVerify (s : State) (key sig : List Nat) : State :=
  let ok := match s.dbg.rmaChallenge with
    | some x => sealKeyOk key && Config.ecdsaOk key (rmaseal1 ++ serialBytes ++ bytesBe 32 x) sig
    | none => false
  let s1 := s.onDbg (fun d => { d with rmaChallenge := none })
  if ok then
    (((s1.erupt 0x80).onPnv (fun p => { p with sealed := true })).setFlag Reg.ATT.FUSES.RMA_SEALED true).toState .rma
  else s1.tremor 6 clsDebug

/-- RMA_SEAL (R826): with no key shifted in, a fresh challenge is shifted out; else key and signature are checked. -/
def execRmaSeal (key sig : List Nat) (s : State) : Res :=
  .next (s.tap 2 0x30 (s.dev.st.canSeal && !s.outranked 4) (fun s =>
    if key.isEmpty then
      let d := s.draw 256
      (d.2.onDbg (fun x => { x with rmaChallenge := some d.1 })).emit (.tdo (bytesBe 32 d.1))
    else s.rmaVerify key sig))

/-- VENDOR_TEST_MODE (R826): in RMA the mode is entered; elsewhere an Eruption with CAUSE bit 6, L3_ATTEMPT, and BYPASS. A code outside 0x80 to 0xFE is BYPASS. -/
def execVendorTestMode (code : Nat) (s : State) : Res :=
  .next (if !s.tapOn then s
  else if code < 0x80 || 0xFE < code then s.bypass
  else if s.dev.st = .rma then s.onDbg (fun d => { d with ir := code })
  else ((s.erupt 0x40).raise Reg.DBG.INT_STATUS.L3_ATTEMPT).bypass)

end Sys2Proof.Machine
end

