-- ==== Sys2Proof/Machine/Ring.lean ====
section
/-! DEFINITION. The coherence ring (chapter 07): homes and their requests, retry credits, snoops and their stamps, write-backs, stash hints, dead agents, maintenance. -/

namespace Sys2Proof.Machine

/-! ### The L2 as home (R345, R347) -/

/-- The named line in cache `c`. -/
def State.lineAt (s : State) (c : Nat) (l : RLine) : Option (Nat × CLine) := s.cached c l.addr l.internal l.keyid
/-- The named line in cache `c` replaced, or gone. -/
def State.putLine (s : State) (c : Nat) (l : RLine) (x : Option CLine) : State :=
  match s.lineAt c l with
  | some (w, _) => s.setCset (keyOf c l.addr) ((s.cset (keyOf c l.addr)).put w x)
  | none => s

/-- The line as the L2 holds it, or memory. -/
def State.homeLine (s : State) (l : RLine) : Line × Bool :=
  match s.lineAt 0 l with
  | some (_, x) => (x.data, x.poison)
  | none => if l.internal then SMap.get (fun _ => (0, false)) s.caches.mem (l.addr / 64) else (0, true)

/-- A line is written into the L2. -/
def State.homeWrite (s : State) (l : RLine) (d : Line) (poison dirty : Bool) : State :=
  s.fill 0 l.addr { internal := l.internal, keyid := l.keyid, tag := cacheTag 0 l.addr, data := d, dirty := dirty && l.internal, poison }

/-- What the home's lookup of a line meets (R317, R318). -/
def State.lookHome (s : State) (l : RLine) : State := s.lookIn 0 l.addr l.internal l.keyid

/-- A home poisons a line (R356, R357). -/
def State.poisonLine (s : State) (l : RLine) : State :=
  let s1 := s.homeWrite l 0 true true
  let s2 := (s1.setReg Reg.RNG.POISON_ADDR_LO.word l.addrLo).setReg Reg.RNG.POISON_ADDR_HI.word l.addrHi
  (s2.bump Reg.RNG.POISONED.POISONED).raise Reg.RNG.INT_STATUS.LINE_POISONED

/-! ### Write-backs of a core (R346, R350) -/

/-- A DIRTY line leaves a core's L1: a write-back buffer entry, its header, and its data 4 clk after the header as in the example of R355 (log entry 111). -/
def State.startWb (s : State) (stop : Nat) (l : RLine) (d : Line) (poison : Bool) : State :=
  ((s.onRing (fun r => { r with wbs := r.wbs ++ [{ stop, line := l, data := d, poison }] })).send .wb stop l.home l).sendAt (s.now + 5) (.wbData d poison) stop l.home l

/-- A core's L1 takes a line; a DIRTY victim is written back, as far as its errors allow (R314). With no way left (R316) a DIRTY line is written back at once. -/
def State.coreFill (s : State) (stop : Nat) (l : RLine) (d : Line) (dirty poison : Bool) : State :=
  match cacheAt stop with
  | none => s
  | some c =>
    let k := keyOf c l.addr
    let n : CLine := { internal := l.internal, keyid := l.keyid, tag := cacheTag c l.addr, data := d, dirty, poison }
    match s.lineAt c l with
    | some _ => s.putLine c l (some n)
    | none =>
      match s.victim k (s.cset k).ptr (cacheWays c) (cacheWays c) with
      | none => if dirty then s.startWb stop l d poison else s
      | some w =>
        let dirtyAt (s : State) : Option CLine := match SMap.get (fun _ => none) (s.cset k).ways w with | some x => if x.dirty then some x else none | none => none
        let s1 := if (dirtyAt s).isSome then s.each (s.errsAt k w) State.meet else s
        let s2 := match dirtyAt s1 with
          | some old => s1.startWb stop (ownLine (lineAddr k old.tag)) old.data old.poison
          | none => s1
        if s2.usable k w then s2.putWay k w (cacheWays c) n else if dirty then s2.startWb stop l d poison else s2

/-! ### Line states and entries at a home (R350, R351) -/

/-- A transaction runs on the line. -/
def State.txRuns (s : State) (l : RLine) : Bool := l.internal && s.ring.txs.any (fun t => decide (t.line = l))
/-- The clk in which the COMP of the line's last transaction leaves; 0 where none waits. -/
def State.busyTill (s : State) (l : RLine) : Nat := s.ring.busy.foldl (fun n b => if b.1 = l then max n b.2.2 else n) 0
/-- The line is BUSY; it is WB_PENDING. -/
def State.lineBusy (s : State) (l : RLine) : Bool := s.txRuns l || (l.internal && decide (s.now < s.busyTill l))
def State.wbPending (s : State) (l : RLine) : Bool := s.ring.wbs.any (fun w => decide (w.line = l) && w.header.isSome && !w.written)
/-- A credited request for the line waits at its home. -/
def State.creditWaits (s : State) (l : RLine) : Bool := s.ring.creds.any (fun c => decide (c.wait = some l))

/-- The operation takes a request entry; it waits while its line is not IDLE (R349, R351). -/
def ROp.entry (op : ROp) : Bool := match op with | .maint | .hostWrite => false | _ => true
def ROp.waits (op : ROp) : Bool := match op with | .rdStream | .stashFill | .hostWrite => false | _ => true

/-- A general request entry of the slice is free. -/
def State.entryFree (s : State) (slice : Nat) : Bool :=
  decide ((s.ring.txs.filter (fun t => t.op.entry && !t.credited && decide (l2Slice t.line.addr = slice))).length +
    (s.ring.busy.filter (fun b => !b.2.1 && decide (l2Slice b.1.addr = slice) && decide (s.now < b.2.2))).length < 24)

/-- The reserved entry of requester `stop` at `slice` is in use (R351). -/
def RCred.inUse (c : RCred) (now : Nat) : Bool := match c.free with | none => true | some t => decide (now < t)
/-- Reserved entries changed. -/
def State.onCred (s : State) (slice stop : Nat) (f : RCred → RCred) : State :=
  s.onRing (fun r => { r with creds := r.creds.map (fun c => if c.slice = slice && c.stop = stop then f c else c) })
/-- The next credit of a slice, held for requester `stop`. -/
def State.giveCredit (s : State) (slice stop : Nat) : Nat × State :=
  let n := SMap.get (fun _ => 0) s.ring.seqs slice
  (n, s.onRing (fun r => { r with seqs := SMap.set (fun _ => 0) r.seqs slice ((n + 1) % 256), creds := r.creds.filter (fun c => !(c.slice = slice && c.stop = stop)) ++ [{ slice, stop, seq := n }] }))

/-! ### Requests (R349, R351, R352) -/

/-- Requests of a stop for a line changed. -/
def State.onReq (s : State) (stop : Nat) (l : RLine) (f : RReq → RReq) : State :=
  s.onRing (fun r => { r with reqs := r.reqs.map (fun q => if q.stop = stop && q.line = l then f q else q) })
/-- The request of a stop for a line. -/
def State.req (s : State) (stop : Nat) (l : RLine) : Option RReq := s.ring.reqs.find? (fun q => q.stop = stop && q.line = l)
/-- The request ends. -/
def State.endReq (s : State) (stop : Nat) (l : RLine) : State := s.onRing (fun r => { r with reqs := r.reqs.filter (fun x => !(x.stop = stop && x.line = l)) })

/-- The entry of `stop` at `slice` is free from clk `t` on and goes to its oldest request without a credit (R352): CREDIT leaves one clk later. -/
def State.sendCredit (s : State) (slice stop t : Nat) (l : RLine) : State := let c := s.giveCredit slice stop; c.2.sendAt (t + 1) (.credit c.1) l.home stop l

/-- RETRY is sent (R351, R352). Where the entry in use is about to be freed, its CREDIT follows. -/
def State.sendRetry (s : State) (stop : Nat) (l : RLine) : State :=
  let slice := l2Slice l.addr
  let s1 := (s.bump Reg.RNG.RETRIES.RETRIES).ev 0x51 none none 1
  match s1.ring.creds.find? (fun c => c.slice = slice && c.stop = stop && c.inUse s.now) with
  | none => let c := s1.giveCredit slice stop; c.2.send (.retry (some c.1)) l.home stop l
  | some c =>
    let s2 := ((s1.bump Reg.RNG.WAITS.WAITS).onReq stop l (fun q => { q with st := .refused })).send (.retry none) l.home stop l
    match c.free with
    | some t => s2.sendCredit slice stop t l
    | none => s2

/-- The reserved entry of a requester is freed at clk `t`; a request without a credit gets it (R352). -/
def State.freeCredit (s : State) (slice stop t : Nat) : State :=
  match s.ring.reqs.find? (fun q => q.stop = stop && (q.st = .held || q.st = .refused) && decide (l2Slice q.line.addr = slice)) with
  | some q => s.sendCredit slice stop t q.line
  | none => s.onCred slice stop (fun c => { c with wait := none, free := some t })

/-- Request `q`, decided at clk `t`, as a transaction. -/
def RReq.tx (q : RReq) (credited : Bool) : RTx :=
  let m := snoopOf q.op q.stop q.target (decide (q.mask = BitVec.allOnes 64)) q.line
  { id := 0, op := q.op, stop := q.stop, line := q.line, snoop := m.1, mask := m.2, at_ := 0, credited, data := q.store, bytes := q.mask, target := q.target, agent := q.agent,
    mem := q.mem }

/-! ### Stash (R353, R354) -/

/-- The target that acts: code 15 is 0. -/
def stashTarget (t : Nat) : Nat := if 15 ≤ t then 0 else t

/-- The target is bypassed or dead (R316, R357). -/
def State.stashClosed (s : State) (target : Nat) : Bool := decide (popCount (cacheWays target) (s.small target).disabled = cacheWays target) || s.agentDead target

/-- The target refuses the line (R354); `agent` is 0 Drover, 1 Shepherd, 2 DMA master, 3 crypto engine. -/
def State.stashRefused (s : State) (agent target : Nat) (l : RLine) : Bool :=
  (if 5 ≤ target && target ≤ 12 then !l.internal else l.internal) || (1 ≤ target && target ≤ 4 && decide (target ≠ l1pOf l.addr)) || s.stashClosed target ||
    (agent = 0 && !s.flag Reg.RNG.STASH_CTRL.DROVER_EN) || (agent = 1 && !s.flag Reg.RNG.STASH_CTRL.SHEPHERD_EN) || (agent = 2 && !s.flag Reg.RNG.STASH_CTRL.DMA_EN)

/-- A target does not take its line (R354). -/
def State.stashDrop (s : State) : State := ((s.bump Reg.RNG.STASH_DROPS.DROPS).ev 0x52 none none 1).raise Reg.RNG.INT_STATUS.STASH_DROPPED

/-- A stashed line leaves the home, decided at clk `c`, for its target, or stays at the home only. -/
def State.stashOut (s : State) (c agent target : Nat) (l : RLine) (d : Line) (poison : Bool) : State :=
  if target = 0 then s
  else if s.stashRefused agent target l then s.stashDrop
  else s.sendAt (c + 1) (.stash target d poison) l.home (stopOf target) l

/-- The line that a STASH_WRITE leaves: merged by mask. The spec states no bytes for the rest of a host line that the L2 does not hold: they are free values (log entry 111). -/
def State.stashLine (s0 : State) (t : RTx) : Line × Bool × State :=
  let s := s0.lookHome t.line
  if t.bytes = BitVec.allOnes 64 then (t.data, false, s)
  else if t.line.internal || (s.lineAt 0 t.line).isSome then let h := s.homeLine t.line; (mergeLine h.1 t.data t.bytes, h.2, s)
  else let r := s.draw 512; (mergeLine (BitVec.ofNat 512 r.1) t.data t.bytes, false, r.2)

/-! ### A transaction completes (R345, R349 to R353) -/

/-- The clk that the home's read of a line adds where it meets a DIRTY entry of the L2 that is read twice (R317, R318). -/
def State.rereadClk (s : State) (l : RLine) : Nat :=
  let k := keyOf 0 l.addr
  let hit := (s.lineAt 0 l).map (fun x => x.1)
  let dirty (w : Nat) : Bool := match SMap.get (fun _ => none) (s.cset k).ways w with | some x => x.dirty | none => false
  if l.internal && s.caches.errs.any (fun e => decide (e.key = k) && dirty e.way && (decide (e.kind = .tag) || (decide (e.kind = .data) && decide (hit = some e.way)))) then 8 else 0

/-- The home reads a line: from the L2, or from memory into the L2; a line lost in the DRAM is poison there (R392, R393). -/
def State.homeRead (s : State) (t : RTx) : (Line × Bool) × State :=
  let h := s.homeLine t.line
  if (s.lineAt 0 t.line).isSome then (h, s)
  else match t.mem with
    | none => (h, s.homeWrite t.line h.1 h.2 false)
    | some m =>
      let r := s.coreMem m
      let d := if r.1 then (0, true) else h
      (d, (if r.1 then { r.2 with caches := { r.2.caches with mem := SMap.set (fun _ => (0, false)) r.2.caches.mem (t.line.addr / 64) d } } else r.2).homeWrite t.line d.1 d.2 false)

/-- What a transaction decided complete at clk `c` leaves behind: data and COMP for a core or a stream cache, the merged line for a stash, the maintenance of the line at the home. -/
def State.txResult (s : State) (c : Nat) (t : RTx) : State :=
  let comp (s : State) (t : RTx) (c : Nat) : State := s.sendAt (c + 1) .comp t.line.home t.stop t.line
  match t.op with
  | .hostWrite => s
  | .maint => (match s.caches.maint with | some m => s.maintLine m.op 0 t.line.addr t.line.internal t.line.keyid | none => s)
  | .stashWrite => let r := s.stashLine t; comp ((r.2.2.homeWrite t.line r.1 r.2.1 true).stashOut c t.agent t.target t.line r.1 r.2.1) t c
  | .stashFill => comp ((s.homeWrite t.line t.data false false).stashOut c t.agent t.target t.line t.data false) t c
  | .rdStream =>
    let s1 := s.lookHome t.line
    comp (match s1.lineAt 0 t.line with | some (_, x) => s1.sendAt (c + 1) (.data x.data x.poison) t.line.home t.stop t.line | none => s1) t c
  | .rdShared | .rdOwn =>
    let s1 := s.onReq t.stop t.line (fun q => { q with granted := true })
    if t.owner then comp s1 t c
    else
      let c1 := c + s1.rereadClk t.line
      let s2 := s1.lookHome t.line
      let r := s2.homeRead t
      let h := r.1
      comp (r.2.sendAt (c1 + 1) (.data h.1 h.2) t.line.home t.stop t.line) t c1

/-- The clk in which the COMP to a stop for a line leaves. -/
def State.compAt (s : State) (stop : Nat) (l : RLine) : Option Nat :=
  (s.ring.msgs.filter (fun m => decide (m.ty = .comp) && decide (m.dst = stop) && decide (m.line = l) && decide (s.now < m.sent))).foldl (fun acc m => max acc (some m.sent)) none

/-- A fill of the line of a maintenance is under way at the home (R310): a read that went before it, or a message. -/
def State.fillBefore (s : State) (x : RTx) : Bool :=
  !x.line.internal && (s.reads.list.any (fun r => x.behind.contains r.id && decide (r.keyid = x.line.keyid) && !s.noAlloc r.dpa && decide (r.dpa / 64 = x.line.addr / 64)) ||
    s.ring.msgs.any (fun m => decide (m.line = x.line) && (match m.ty with | .fill _ _ | .stash _ _ _ => true | _ => false)))

/-- When a line is IDLE the first credited request that waits for it runs (R351), then the maintenance that waits for it. The decision is taken in the clk in which the last COMP leaves, and the snoop follows in the next (R355). -/
def State.serveLine (s : State) (l : RLine) : State :=
  if s.txRuns l || s.wbPending l then s
  else
    let t := max s.now (s.busyTill l)
    match s.ring.creds.find? (fun c => c.wait = some l) with
    | some c =>
      (match s.req c.stop l with
       | some q => (s.onCred c.slice c.stop (fun y => { y with wait := none })).startTx (t + 1) (q.tx true)
       | none => s)
    | none =>
      match s.ring.waits.find? (fun x => decide (x.line = l)) with
      | some x => if s.fillBefore x then s else (s.onRing (fun r => { r with waits := r.waits.erase x })).startTx (max x.at_ (t + 1)) x
      | none => s

/-- A transaction is decided complete at clk `c`: what it leaves, its entry freed as its COMP leaves, its line served. -/
def State.finish (s : State) (c : Nat) (t : RTx) : State :=
  let s1 := s.txResult c t
  let till := (s1.compAt t.stop t.line).getD c
  let s2 := s1.onRing (fun r => { r with busy := r.busy.filter (fun b => decide (s.now < b.2.2)) ++ (if t.op.entry then [(t.line, t.credited, till)] else []) })
  (if t.credited then s2.freeCredit (l2Slice t.line.addr) t.stop till else s2).serveLine t.line

/-- A transaction whose snoop is back and that is owed nothing completes. -/
def State.tryComplete (s : State) (id : Nat) : State :=
  match s.ring.txs.find? (fun t => t.id = id) with
  | some t => if t.back && t.owed.isEmpty then (s.onRing (fun r => { r with txs := r.txs.filter (fun x => x.id ≠ id) })).finish s.now t else s
  | none => s

/-- A transaction changed. -/
def State.onTx (s : State) (id : Nat) (f : RTx → RTx) : State := s.onRing (fun r => { r with txs := r.txs.map (fun t => if t.id = id then f t else t) })

/-! ### A request reaches its home (R349 to R352) -/

/-- A request runs: with its snoop, or, where R344 gives none, at once. -/
def State.runReq (s : State) (q : RReq) (credited : Bool) : State :=
  match q.op with
  | .rdStream | .stashFill => s.finish s.now (q.tx credited)
  | _ => s.startTx (s.now + 1) (q.tx credited)

/-- It waits while its line is not IDLE. -/
def RReq.waits (q : RReq) : Bool := q.op.waits && q.line.internal

/-- The home decides on a request: a credited one runs, or waits in its reserved entry; another one runs or is retried. -/
def State.decideReq (s : State) (q : RReq) : State :=
  let slice := l2Slice q.line.addr
  if q.st = .reissue then
    let s1 := s.onReq q.stop q.line (fun p => { p with st := .sent })
    if q.waits then (s1.onCred slice q.stop (fun c => { c with wait := some q.line })).serveLine q.line else s1.runReq q true
  else
    let s1 := s.onRing (fun r => { r with reqs := r.reqs ++ [q] })
    if (q.waits && (s.lineBusy q.line || s.wbPending q.line || s.creditWaits q.line)) || !s.entryFree slice then s1.sendRetry q.stop q.line
    else s1.runReq q false

/-- A request at its home; while the L2 is being invalidated it waits (R307). -/
def State.arriveReq (s : State) (q : RReq) : State := if s.resetting.contains 0x11 then s.onRing (fun r => { r with parked := r.parked ++ [q] }) else s.decideReq q

/-- The requests that waited for the end of a hardware invalidation of the L2 (R307) are decided, in order. -/
def State.unpark (s : State) : State := (s.onRing (fun r => { r with parked := [] })).each s.ring.parked State.decideReq

/-- A request reaches its home: its first issue, after the lookup `look` of its requester's own cache, or its credited re-issue. A requester that holds a retried request for the slice sends none (R352), and none for a line that it has
already asked for; a dead one is not heard (R357). -/
def State.homeReq (s : State) (q : RReq) (look : State → State) : State :=
  if s.stopDead q.stop || s.ring.parked.any (fun p => decide (p.stop = q.stop) && decide (p.line = q.line)) then s
  else match s.req q.stop q.line with
    | some p =>
      (match s.ring.msgs.find? (fun m => decide (m.ty = .again) && decide (m.src = q.stop) && decide (m.line = q.line) && decide (m.sent + hops m.src m.dst = s.now)) with
       | some m => if p.st = .reissue && decide (p.op = q.op) then (s.taken m.id).arriveReq p else s
       | none => s)
    | none =>
      if s.ring.reqs.any (fun p => p.stop = q.stop && p.st = .held && decide (p.line.home = q.line.home)) then s
      else (look s).arriveReq q

/-- The lookup that a requester made in its own cache before it asked. -/
def lookOwn (stop : Nat) (l : RLine) (s : State) : State := match cacheAt stop with | some c => s.lookSmall c l.addr l.internal l.keyid | none => s

/-- RD_SHARED (R344): a core's request, or its credited re-issue, reaches the home of the internal-space line at `addr`. -/
def execRdShared (stop : Nat) (read : LineRead) (phase : Nat) (s : State) : Res :=
  let l := ownLine read.addr
  .next (if coreStops.contains stop then ((s.at_ phase).addErrs read.errs).homeReq { stop, op := .rdShared, line := l, mem := read.mem } (lookOwn stop l) else s.at_ phase)

/-- RD_OWN (R344, R346): the same for a core that is to store the bytes of `mask`. -/
def execRdOwn (stop : Nat) (read : LineRead) (store : Line) (mask : Mask) (phase : Nat) (s : State) : Res :=
  let l := ownLine read.addr
  .next (if coreStops.contains stop then ((s.at_ phase).addErrs read.errs).homeReq { stop, op := .rdOwn, line := l, store, mask, mem := read.mem } (lookOwn stop l) else s.at_ phase)

/-- RD_STREAM (R344): a stream cache asks for a host-space line; the home sends it from the L2 if it holds it, and COMP. No snoop. -/
def execRdStream (stop keyid : Nat) (read : LineRead) (phase : Nat) (s : State) : Res :=
  let l := hostLine read.addr keyid
  .next (if stop = 7 || stop = 23 then ((s.at_ phase).addErrs read.errs).homeReq { stop, op := .rdStream, line := l, granted := true } (lookOwn stop l) else s.at_ phase)

/-- The line of a stash. -/
def stashedLine (internal : Bool) (keyid addr : Nat) : RLine := if internal then { ownLine addr with keyid } else hostLine addr keyid
/-- The stop of a non-caching agent (R339). -/
def agentStop (agent : Nat) : Nat := if agent ≤ 1 then 15 else 31

/-- STASH_WRITE (R344, R353): a line, or the bytes of `mask`, from a non-caching agent reaches its home. -/
def execStashWrite (agent target : Nat) (internal : Bool) (keyid addr : Nat) (data : Line) (mask : Mask) (phase : Nat) (s : State) : Res :=
  .next ((s.at_ phase).homeReq { stop := agentStop agent, op := .stashWrite, line := stashedLine internal keyid addr, store := data, mask, target := stashTarget target, agent } id)

/-- A fill of the crypto engine for the line, named for `target`, that reaches the home in the present clk. -/
def State.fillArrived (s : State) (target : Nat) (l : RLine) : Option (RMsg × Line) :=
  s.ring.msgs.findSome? (fun m => match m.ty with
    | .fill t d => if t = target && decide (m.line = l) && decide (m.sent + hops m.src m.dst = s.now) then some (m, d) else none
    | _ => none)

/-- A fill at its home (R301, R348, R353): a stale one is allocated nowhere; a stream fill never enters the L2 (R488). -/
def State.homeFill (s : State) (m : RMsg) (target : Nat) (d : Line) : State :=
  let s1 := s.taken m.id
  if m.stale || s1.noAlloc m.line.addr then s1
  else (if 13 ≤ target then s1 else s1.homeWrite m.line d false false).stashOut s.now 3 target m.line d false

/-- STASH_FILL (R353): a line that memory holds is written into the L2 and sent to its target. No snoop. From the crypto engine (`agent` 3) it is the fill of a read (R301), as that read sent it. -/
def execStashFill (agent target : Nat) (internal : Bool) (keyid addr : Nat) (data : Line) (phase : Nat) (s : State) : Res :=
  let s0 := s.at_ phase
  let l := stashedLine internal keyid addr
  let t := stashTarget target
  .next (match (if agent = 3 then s0.fillArrived t l else none) with
    | some x => s0.homeFill x.1 t x.2
    | none => if agent = 3 then s0 else s0.homeReq { stop := agentStop agent, op := .stashFill, line := l, store := data, mask := BitVec.allOnes 64, target := t, agent } id)

/-! ### Snoops at a stop (R343, R345, R346, R348, R357) -/

/-- The owner's part of R345 for snoop `code`: what it forwards, what SNP_DONE carries, what stays. -/
def State.ownerActs (s : State) (t : RTx) (stop c code : Nat) (x : CLine) : State :=
  let s1 := if code = 0 || code = 1 then s.send (.data x.data x.poison) stop t.stop t.line else s
  let line := if code = 1 || code = 2 then none else some (x.data, x.poison)
  let s2 := s1.send (.snpDone t.id line) stop t.line.home t.line
  s2.putLine c t.line (if code = 0 || code = 3 then some { x with dirty := false } else none)

/-- A stop answers from its cache: OWNED with its follow-up, SHARED, or MISS. An owner reads its line, and loses it to a parity error (R314). `owes` tells that SNP_DONE is already expected, so that a stop that is no owner answers it
too. -/
def State.stopActs (s0 : State) (t : RTx) (stop code : Nat) (owes : Bool) : State :=
  match cacheAt stop with
  | none => s0
  | some c =>
    let s := if (s0.lineAt c t.line).any (fun x => x.2.dirty) then s0.lookIn c t.line.addr t.line.internal t.line.keyid else s0
    match s.lineAt c t.line with
    | some (_, x) =>
      if x.dirty then
        ((s.ownerActs t stop c code x).onTx t.id (fun y => { y with owed := if owes then y.owed else y.owed ++ [(stop, false)], owner := y.owner || decide (code ≤ 1) }))
      else
        let s1 := if code = 1 || code = 2 || code = 4 then s.putLine c t.line none else s
        if owes then s1.send (.snpDone t.id none) stop t.line.home t.line else s1
    | none => if owes then s.send (.snpDone t.id none) stop t.line.home t.line else s

/-- A snoop that invalidates meets the fills of its line that the stop still awaits (R348): they are handed over and allocated nowhere. -/
def State.snoopFills (s : State) (stop : Nat) (l : RLine) : State :=
  let mine (r : Rd) : Bool := match r.who with
    | .stream _ _ => decide (r.cls = (if stop = 7 then 1 else 2)) && (stop = 7 || stop = 23) && decide (r.keyid = l.keyid) && decide (r.dpa / 4096 = l.addr / 4096)
    | _ => false
  let s1 := (s.onReq stop l (fun q => if q.granted then { q with noFill := true } else q)).onRing (fun r => { r with
    msgs := r.msgs.map (fun m => match m.ty with
      | .stash t _ _ | .fill t _ => if m.line = l && (t = 13 || t = 14) && stopOf t = stop then { m with stale := true } else m
      | _ => m) })
  if l.internal then s1 else s1.onReads (fun x => { x with list := x.list.map (fun r => if mine r then { r with noFill := l.addr / 64 :: r.noFill } else r) })

/-- The snoop of transaction `t` passes a stop of its mask. `parity`: its snoop-tag entry has a parity error, so that the stop answers from its main array. -/
def State.snoopPass (s : State) (t : RTx) (stop code : Nat) (parity : Bool) : State :=
  let s0 := s.onTx t.id (fun y => { y with mask := y.mask.filter (fun m => m ≠ stop) })
  let s1 := if parity then (s0.bump Reg.RNG.SNOOP_PARITY.PARITY).raise Reg.RNG.INT_STATUS.SNOOP_PARITY else s0
  let waitsOwn := s1.ring.reqs.any (fun q => decide (q.stop = stop) && decide (q.line = t.line) && decide (q.op = .rdOwn) && q.granted)
  if s1.stopDead stop then
    match cacheAt stop with
    | some c => (match s1.lineAt c t.line with
      | some (_, x) => if x.dirty then (s1.putLine c t.line none).poisonLine t.line else s1
      | none => s1)
    | none => s1
  else if s1.ring.wbs.any (fun w => decide (w.stop = stop) && decide (w.line = t.line) && !w.written) then s1.onTx t.id (fun y => { y with owed := y.owed ++ [(stop, true)] })
  else if waitsOwn then
    (s1.onTx t.id (fun y => { y with owed := y.owed ++ [(stop, false)] })).onReq stop t.line (fun q => { q with deferred := q.deferred ++ [(t.id, code)] })
  else
    let s2 := if code = 0 || code = 3 then s1 else s1.snoopFills stop t.line
    if parity then
      let s3 := s2.onTx t.id (fun y => { y with owed := y.owed ++ [(stop, false)] })
      ((match cacheAt stop with | some c => s3.lookSmall c t.line.addr t.line.internal t.line.keyid | none => s3)).stopActs t stop code true
    else s2.stopActs t stop code false

/-- A snoop of code `code` reaches stop (h + k) mod 32 at k clk after injection (R343). -/
def State.snoop (s : State) (tx stop code : Nat) (parity : Bool) : State :=
  match s.ring.txs.find? (fun t => t.id = tx) with
  | some t =>
    if t.snoop = code && t.mask.contains stop && decide (s.now = t.at_ + (stop + 32 - t.line.home) % 32) then s.snoopPass t stop code parity else s
  | none => s

/-- SNP_SHARE (R345): the snoop of transaction `tx` passes a stop. -/
def execSnpShare (tx stop : Nat) (parity : Bool) (phase : Nat) (s : State) : Res := .next ((s.at_ phase).snoop tx stop 0 parity)
/-- SNP_OWN (R345). -/
def execSnpOwn (tx stop : Nat) (parity : Bool) (phase : Nat) (s : State) : Res := .next ((s.at_ phase).snoop tx stop 1 parity)
/-- SNP_INV (R345): DIRTY data is dropped. -/
def execSnpInv (tx stop : Nat) (parity : Bool) (phase : Nat) (s : State) : Res := .next ((s.at_ phase).snoop tx stop 2 parity)
/-- SNP_CLEAN (R345). -/
def execSnpClean (tx stop : Nat) (parity : Bool) (phase : Nat) (s : State) : Res := .next ((s.at_ phase).snoop tx stop 3 parity)
/-- SNP_CLINV (R345). -/
def execSnpClinv (tx stop : Nat) (parity : Bool) (phase : Nat) (s : State) : Res := .next ((s.at_ phase).snoop tx stop 4 parity)

/-- SNOOP_RETURN (R343, R345): the snoop is back at its home 32 clk after injection, every stop of its mask passed. -/
def execSnoopReturn (tx phase : Nat) (s : State) : Res :=
  let s0 := s.at_ phase
  .next (match s0.ring.txs.find? (fun t => t.id = tx) with
    | some t => if !t.back && t.mask.isEmpty && decide (t.at_ + 32 = s0.now) then (s0.onTx tx (fun y => { y with back := true })).tryComplete tx else s0
    | none => s0)

/-! ### Messages that arrive -/

/-- SNP_DONE (R345): a follow-up arrives at the home, with the line where the snoop asks for it. -/
def execSnpDone (msg phase : Nat) (s : State) : Res :=
  let s0 := s.at_ phase
  .next (match s0.arrived msg with
    | some m =>
      match m.ty with
      | .snpDone tx line =>
        let s1 := s0.taken msg
        let s2 := match line with | some d => s1.homeWrite m.line d.1 d.2 true | none => s1
        (s2.onTx tx (fun y => { y with owed := y.owed.erase (m.src, false) })).tryComplete tx
      | _ => s0
    | none => s0)

/-- A request that holds its data and COMP is complete (R345, R346, R348): the line is filled, with the store for RD_OWN, and the snoops that waited for it are answered. No host line is filled that R301 allocates in no cache. -/
def State.reqDone (s : State) (q : RReq) : State :=
  let s1 := s.endReq q.stop q.line
  match q.data with
  | none => s1
  | some (d, p) =>
    let s2 := match q.op with
      | .rdOwn => (s1.moved 22 false 64).coreFill q.stop q.line (mergeLine d q.store q.mask) true p
      | .rdShared => if q.noFill then s1.moved 22 false 64 else (s1.moved 22 false 64).coreFill q.stop q.line d false p
      | _ => if q.noFill || p || s1.noAlloc q.line.addr then s1 else
        (match cacheAt q.stop with | some c => if s1.stashClosed c then s1 else s1.fillHost c q.line.addr q.line.keyid d | none => s1)
    s2.each q.deferred (fun s e =>
      match s.ring.txs.find? (fun t => t.id = e.1) with
      | some t => s.stopActs t q.stop e.2 true
      | none => s)

/-- Data for a stop is on its way. -/
def State.dataComes (s : State) (stop : Nat) (l : RLine) : Bool := s.ring.msgs.any (fun m => m.dst = stop && m.line = l && (match m.ty with | .data _ _ => true | _ => false))

/-- The requester has what it waits for. A stash, and an RD_STREAM that the L2 did not hold, end with COMP alone. -/
def State.reqCheck (s : State) (stop : Nat) (l : RLine) : State :=
  match s.req stop l with
  | some q =>
    let alone := match q.op with | .stashWrite | .stashFill => true | .rdStream => !s.dataComes stop l | _ => false
    if q.comp && (q.data.isSome || alone) then s.reqDone q else s
  | none => s

/-- COMP (R345) arrives at a requester. -/
def execComp (msg phase : Nat) (s : State) : Res :=
  let s0 := s.at_ phase
  .next (match s0.arrived msg with
    | some m =>
      (match m.ty with
       | .comp => ((s0.taken msg).onReq m.dst m.line (fun q => { q with comp := true })).reqCheck m.dst m.line
       | _ => s0)
    | none => s0)

/-- The requester issues its request again with its credit, in the next clk (R351). -/
def State.reissue (s : State) (stop : Nat) (l : RLine) : State :=
  if (s.req stop l).isSome then (s.onReq stop l (fun q => { q with st := .reissue })).send .again stop l.home l else s

/-- RETRY (R351, R352): with a credit the request is issued again as credited, without one it is held. -/
def execRetry (msg phase : Nat) (s : State) : Res :=
  let s0 := s.at_ phase
  .next (match s0.arrived msg with
    | some m =>
      let s1 := s0.taken msg
      (match m.ty with
       | .retry c => if c.isSome then s1.reissue m.dst m.line else s1.onReq m.dst m.line (fun q => { q with st := .held })
       | _ => s0)
    | none => s0)

/-- CREDIT (R352): the requester issues its oldest held request to that slice again, as credited. -/
def execCredit (msg phase : Nat) (s : State) : Res :=
  let s0 := s.at_ phase
  .next (match s0.arrived msg with
    | some m =>
      (match m.ty with
       | .credit _ =>
         let s1 := s0.taken msg
         (match s1.ring.reqs.find? (fun q => q.stop = m.dst && decide (q.st = .held) && decide (q.line.home = m.src)) with
          | some q => s1.reissue q.stop q.line
          | none => s1.freeCredit (m.src / 2) m.dst s1.now)
       | _ => s0)
    | none => s0)

/-- WB (R350): a write-back header reaches the home, and the line is WB_PENDING. -/
def execWb (msg phase : Nat) (s : State) : Res :=
  let s0 := s.at_ phase
  .next (match s0.arrived msg with
    | some m =>
      (match m.ty with
       | .wb => (s0.taken msg).onRing (fun r => { r with wbs := r.wbs.map (fun w =>
           if w.stop = m.src && w.line = m.line && w.header.isNone then { w with header := some s0.now } else w) })
       | _ => s0)
    | none => s0)

/-- A stashed line reaches its target (R348, R353, R354): taken with DIRTY = 0, unless its target is closed by then, or it is stale; a poisoned host line fills no cache (R301). -/
def State.stashIn (s : State) (m : RMsg) (c : Nat) (d : Line) (poison : Bool) : State :=
  if s.stashClosed c then s.stashDrop
  else if m.stale || (!m.line.internal && poison) then s
  else (if m.line.internal then s.coreFill m.dst m.line d false poison else s.fillHost c m.line.addr m.line.keyid d).bump Reg.RNG.STASHES.STASHES

/-- DAT (R342, R345, R353): line data arrives: at a requester, at the target of a stash, or write-back data at its home. -/
def execDat (msg phase : Nat) (s : State) : Res :=
  let s0 := s.at_ phase
  .next (match s0.arrived msg with
    | some m =>
      let s1 := s0.taken msg
      match m.ty with
      | .data d p => (s1.onReq m.dst m.line (fun q => { q with data := some (d, p) })).reqCheck m.dst m.line
      | .wbData _ _ => s1.onRing (fun r => { r with wbs := r.wbs.map (fun w => if w.stop = m.src && w.line = m.line && !w.written then { w with got := true } else w) })
      | .stash c d p => s1.stashIn m c d p
      | _ => s0
    | none => s0)

/-- A write-back is no longer owed to the transactions that wait for it. -/
def State.wbSettled (s : State) (stop : Nat) (l : RLine) : State :=
  let ids := (s.ring.txs.filter (fun t => decide (t.line = l) && t.owed.contains (stop, true))).map (fun t => t.id)
  (s.each ids (fun s i => (s.onTx i (fun y => { y with owed := y.owed.erase (stop, true) })).tryComplete i)).serveLine l

/-- WB_DATA_WRITE (R311, R350): in a reserved cycle the write-back data enters the L2, WB_DONE is sent and the line is IDLE. -/
def execWbDataWrite (stop addr phase : Nat) (s : State) : Res :=
  let s0 := s.at_ phase
  let l := ownLine addr
  .next (match s0.ring.wbs.find? (fun w => w.stop = stop && w.line = l && w.header.isSome && w.got && !w.written) with
    | some w =>
      if s0.clk.phase % 4 = 0 then
        let s1 := ((s0.homeWrite l w.data w.poison true).moved 22 true 64).onRing (fun r => { r with wbs := r.wbs.map (fun x => if x = w then { x with written := true } else x) })
        (s1.send .wbDone l.home stop l).wbSettled stop l
      else s0
    | none => s0)

/-- WB_DONE (R350): the writer frees its buffer entry. -/
def execWbDone (msg phase : Nat) (s : State) : Res :=
  let s0 := s.at_ phase
  .next (match s0.arrived msg with
    | some m =>
      (match m.ty with
       | .wbDone => (s0.taken msg).onRing (fun r => { r with wbs := r.wbs.filter (fun w => !(w.stop = m.dst && w.line = m.line && w.written)) })
       | _ => s0)
    | none => s0)

/-! ### Dead agents (R356, R357) -/

/-- What a dead agent has not yet sent is discarded at its stop, and its requests are dropped with their credits (R357); a write-back whose header never leaves is owed no more. -/
def State.fence (s : State) (stop : Nat) : State :=
  let s1 := s.onRing (fun r => { r with
    msgs := r.msgs.filter (fun m => !(m.src = stop && decide (s.now < m.sent))), reqs := r.reqs.filter (fun q => q.stop ≠ stop), parked := r.parked.filter (fun q => q.stop ≠ stop),
    creds := r.creds.filter (fun c => !(c.stop = stop && !r.txs.any (fun t => t.credited && t.stop = stop && l2Slice t.line.addr = c.slice))) })
  let lost := s1.ring.wbs.filter (fun w => w.stop = stop && !w.got && w.header.isNone && !s1.ring.msgs.any (fun m => decide (m.ty = .wb) && decide (m.src = stop) && decide (m.line = w.line)))
  (s1.onRing (fun r => { r with wbs := r.wbs.filter (fun w => !lost.contains w) })).each lost (fun s w => s.wbSettled stop w.line)

/-- The cache of a dead agent holds nothing any more (R357). -/
def State.cacheLost (s : State) (stop : Nat) : State :=
  match cacheAt stop with
  | some c => if 5 ≤ c && c ≤ 12 then s.dropCore (c - 5) else s.onCaches (fun k => { k with sets := k.sets.filter (fun e => e.1 / 65536 ≠ c) })
  | none => s

/-- LAST_DEAD for the agent at `stop`, the line `l` and the cause. -/
def deadWord (stop : Nat) (l : RLine) (cause : Nat) : Nat := cause * 2 ^ 30 + stop * 256 + l2Slice l.addr

/-- The agent at `stop` is declared dead for the line `l`: cause 1 snoop follow-up, 2 write-back data. The record's words have the layouts of LAST_DEAD, POISON_ADDR_HI and POISON_ADDR_LO (log entry 111). -/
def State.declareDead (s : State) (stop : Nat) (l : RLine) (cause : Nat) : State :=
  let word := deadWord stop l cause
  let s1 := (s.setFld Reg.RNG.DEAD.DEAD (s.fld Reg.RNG.DEAD.DEAD ||| 2 ^ stop)).setReg Reg.RNG.LAST_DEAD.word word
  let s2 := (s1.raiseRec Reg.RNG.INT_STATUS.DEAD_AGENT sevError clsDevice 0 word l.addrHi l.addrLo).fence stop
  (s2.cacheLost stop).reduce (100 + stop)

/-- DEAD_AGENT_TIMEOUT (R356): a follow-up owed to transaction `tx`, or the data of a WB header of `stop` for the line at `addr`, is missing one bell later. -/
def execDeadAgentTimeout (tx : Option Nat) (stop addr phase : Nat) (s : State) : Res :=
  let s0 := s.at_ phase
  .next (match tx with
    | some id =>
      (match s0.ring.txs.find? (fun t => t.id = id) with
       | some t =>
         let late := (t.owed.filter (fun o => !o.2)).map (fun o => o.1)
         if !late.isEmpty && decide (t.at_ + 4096 = s0.now) then
           let s1 := (s0.each late (fun s p => s.declareDead p t.line 1)).poisonLine t.line
           (s1.onTx id (fun y => { y with owed := y.owed.filter (fun o => o.2), owner := false, back := true })).tryComplete id
         else s0
       | none => s0)
    | none =>
      let l := ownLine addr
      match s0.ring.wbs.find? (fun w => w.stop = stop && w.line = l && !w.got) with
      | some w =>
        if w.header.any (fun c => decide (c + 4096 = s0.now)) then
          (((s0.onRing (fun r => { r with wbs := r.wbs.erase w })).declareDead stop l 2).poisonLine l).wbSettled stop l
        else s0
      | none => s0)

/-! ### Maintenance (R308 to R310, R344) -/

/-- The snoop of a maintenance operation: 1 CLEAN, 2 INV, 3 CLINV. -/
def maintSnoop (op : Nat) : Nat := if op = 1 then 3 else if op = 2 then 2 else 4

/-- The maintenance of a line starts at clk `t`, or waits until the line is IDLE (R349) and until the fills before it are done (R310). -/
def State.maintTx (s : State) (t : Nat) (x : RTx) : State :=
  if s.txRuns x.line || s.wbPending x.line || s.creditWaits x.line || s.fillBefore x then s.onRing (fun r => { r with waits := r.waits ++ [{ x with at_ := t }] })
  else s.startTx (max t (s.busyTill x.line + 1)) x

/-- MAINT_CTRL: the operation starts; in ADDRESS mode on the L2 the lines' snoops are injected at the rate of R309. -/
def State.maintCtrl (s : State) (src : Source) (w : Nat) : State :=
  let s1 := s.maintStart src w
  match s.caches.maint, s1.caches.maint with
  | none, some m =>
    if m.mode = 0 && m.cache = 0 then
      s1.each (List.range m.lines) (fun s i =>
        let l := m.line i
        s.maintTx (s.now + 1 + s.maintStep * i) { id := 0, op := .maint, stop := 32, line := l, snoop := maintSnoop m.op, mask := (snoopOf .maint 32 0 true l).2, at_ := 0, behind := m.behind })
    else s1
  | _, _ => s1

/-- The maintenance that waited and waits no longer starts. -/
def State.serveWaits (s : State) : State := s.each (s.ring.waits.map (fun x => x.line)) State.serveLine

/-- A fill that goes before an operation on the whole L2, or on one of its entries, is under way at the home (R310). -/
def State.maintBehind (s : State) (m : Maint) : Bool :=
  let meets (a : Nat) : Bool := m.mode = 2 || (m.mode = 1 && keyOf 0 a = setKey 0 m.slice m.set)
  m.cache = 0 && m.mode ≠ 0 && (s.reads.list.any (fun r => m.behind.contains r.id && !s.noAlloc r.dpa && meets r.dpa) ||
    s.ring.msgs.any (fun x => match x.ty with | .fill t _ => decide (t < 13) && meets x.line.addr | _ => false))

/-- MAINT_DONE (R309): the operation ends after its lines have been examined and its snoops are back; BUSY clears and LINES_DONE holds the lines examined. In ADDRESS mode on the L2 each line has been done as its snoop returned. -/
def execMaintDone (s : State) : Res :=
  .next (match s.caches.maint with
    | some m =>
      let s1 := s.serveWaits
      if decide (s1.now < m.doneAt) || s1.ring.txs.any (fun t => decide (t.op = .maint)) || !s1.ring.waits.isEmpty || s1.maintBehind m then s1
      else
        (((if m.mode = 0 && m.cache = 0 then s1 else s1.maintRun m).onCaches (fun x => { x with maint := none })).setFld Reg.L2C.MAINT_STATUS.LINES_DONE m.lines).raise Reg.L2C.INT_STATUS.MAINT_DONE
    | none => s)

end Sys2Proof.Machine
end

