-- ==== Sys2Proof/Machine/RegAccess.lean ====
section
/-! DEFINITION. Writes of registers (R845, R846, R849 to R862, R885): common header, locks, GUARD bytes, fields by class, and the actions that a write starts. Every register command is such a write. -/

namespace Sys2Proof.Machine

/-! ### Locks (R862) -/

/-- CFG_LOCK of page `p`. -/
def State.cfgLock (s : State) (p : Nat) : Bool := bitOf (s.reg (p * 0x1000 + 0x2C)) 31
/-- CMD_LOCK of page `p`. -/
def State.cmdLock (s : State) (p : Nat) : Bool := bitOf (s.reg (p * 0x1000 + 0x2C)) 30

/-! ### Soft reset (R861) -/

/-- What a soft reset returns to its reset value. -/
def RegField.softReset (f : RegField) : Bool := (f.cls = .rw || f.cls = .st || f.cls = .il || f.counter) && !f.sr && !f.loaded

/-- The block register at `a` after a soft reset of its page. -/
def State.softReg (s : State) (a : Nat) : State :=
  match regFields a with
  | some fs => s.setReg a (fs.foldl (fun w f => if f.softReset then f.copy w (regReset s.variant a).toNat else w) (s.reg a))
  | none => s

/-- Shadows return to their applied values, and these to reset. -/
def State.softApplied (s : State) (p : Nat) : State := { s with applied := s.applied.filter (fun e => !decide (e.1 / 0x1000 = p)) }

/-- The block's own action: staged regions and their applied values (chapter 11), running counters (chapter 17), hardware invalidation of caches (R307). -/
def State.softBlock (s : State) (p : Nat) : State :=
  if p = 0x22 then s.onProt (fun x => { x with staged := x.regions })
  else if p = 0x3C then s.onPmc (fun x => { x with val := [], run := [] })
  else if p = 0x10 then s.hwInval (fun c => decide (1 ≤ c) && decide (c ≤ 4))
  else if p = 0x11 then s.hwInval (fun c => c = 0 || decide (5 ≤ c))
  else s

/-- SOFT_RESET of page `p`, in IDLE (R861). The page reads RESETTING until SOFT_RESET_END. INT_STATUS and LOCK are kept. DESIGN CHOICE (log entry 106), unsafe: the spec does not say whether the reset
of the BWT page disarms a comparison of R52; here it stays armed, against the reset value 0 (R74). -/
def State.softReset (s : State) (p : Nat) : State :=
  let s0 := (s.settleHeldTo s.clk.phase).settleStarved.settle
  let s1 := { s0 with resetting := insertKey p s0.resetting, commits := s0.commits.filter (fun q => q ≠ p) }
  let s2 := s1.each (s1.stagedRegs p) State.softReg
  let s3 := ((s2.setReg (p * 0x1000 + 0x08) (pageCtrlReset p)).setReg (p * 0x1000 + 0x14) 0).setReg (p * 0x1000 + 0x28) 0
  let s4 := s3.softApplied p
  let s5 := if p = 0x01 || p = 0x11 || p = 0x3C then s0.afterApply s4 p else s4
  (s5.softBlock p).refreshIrq false

/-- SOFT_RESET_END (R861): the page is IDLE again. -/
def execSoftResetEnd (page : Nat) (s : State) : Res :=
  let s1 := { s with resetting := s.resetting.filter (fun q => q ≠ page) }
  .next (if page = 0x11 then s1.unpark else s1)

/-! ### COMMIT (R857) -/

/-- COMMIT of page `p`. A cap within limits is posted in that clk (R47). In the clk of a flock boundary whose work is still to do, it waits for the next one (R10). -/
def State.commitPage (s : State) (p : Nat) : State :=
  let s1 := if s.commits.contains p then s
    else { s with commits := s.commits ++ [p], clk := if s.clk.flockDue then { s.clk with late := p :: s.clk.late } else s.clk }
  let c := s1.fld Reg.PWR.CAP.CAP
  if p = 0x30 && decide (c ≤ 4) && decide (c ≠ s1.appFld Reg.PWR.CAP.CAP) then s1.postLat (some c) none else s1

/-! ### The common header -/

/-- A write of PAGE_CTRL (R849, R857, R861, R862). SOFT_RESET outside IDLE, and COMMIT in RESETTING, ignore the whole write; SOFT_RESET acts alone where both are set. -/
def State.ctrlWrite (s : State) (p : Nat) (src : Source) (w : Nat) : State :=
  let a := p * 0x1000 + 0x08
  let reset := bitOf w 2
  let commit := bitOf w 1 && !reset
  if (reset && decide (s.pageState p ≠ 1)) || (commit && decide (s.pageState p = 3)) then s.cfgErr p 8 src.code 0x08 w
  else
    let s1 := (s.setReg a (putBits (s.reg a) 9 8 (bitsOf w 9 8))).refreshIrq false
    if !reset && !commit then s1
    else if s1.cfgLock p then s1.cfgErr p 5 src.code 0x08 w
    else if reset then s1.softReset p
    else s1.commitPage p

/-- A write of PAGE_STATUS: CFG_ERR, and with it MORE, are cleared (R850, R854). -/
def State.statusWrite (s : State) (p w : Nat) : State :=
  let a := p * 0x1000
  if bitOf w 27 then (s.setReg (a + 0x0C) (putBits (s.reg (a + 0x0C)) 27 27 0)).setReg (a + 0x28) 0 else s

/-- A write of INT_STATUS (R852, R855, R856): 1 clears a bit; a level that still holds sets its bit again. -/
def State.intWrite (s : State) (p w : Nat) : State :=
  let a := p * 0x1000 + 0x10
  let s1 := s.setReg a (s.reg a - (s.reg a &&& w))
  let s2 := if p = 0x01 && s.bw.holding then s1.setFlag Reg.BWT.INT_STATUS.WB_HOLD true else s1
  s2.refreshIrq true

/-- A write of INT_FORCE (R852, R862): bits are set without a counter or a record. -/
def State.forceWrite (s : State) (p : Nat) (src : Source) (w : Nat) : State :=
  let a := p * 0x1000 + 0x10
  if s.cmdLock p then s.cfgErr p 5 src.code 0x18 w else (s.setReg a (s.reg a ||| (w &&& intMask p))).refreshIrq false

/-- A write of LOCK (R854, R862): GUARD 0x4C; 1 sets a lock. -/
def State.lockWrite (s : State) (p : Nat) (src : Source) (w : Nat) : State :=
  let a := p * 0x1000 + 0x2C
  if guardOf w ≠ 0x4C then s.cfgErr p 4 src.code 0x2C w else s.setReg a (s.reg a ||| bitsOf w 31 30 * 2 ^ 30)

/-- A write of the common header of page `p`. -/
def State.headerWrite (s : State) (p off : Nat) (src : Source) (w : Nat) : State :=
  if off = 0x08 then s.ctrlWrite p src w
  else if off = 0x0C then s.statusWrite p w
  else if off = 0x10 then s.intWrite p w
  else if off = 0x14 then (s.setReg (p * 0x1000 + 0x14) (w &&& intMask p)).refreshIrq true
  else if off = 0x18 then s.forceWrite p src w
  else if off = 0x2C then s.lockWrite p src w
  else s

/-! ### Whole writes that are ignored (R885) -/

/-- The GUARD of the register at `a`: its bits and value, where it has one. -/
def guardAt (a : Nat) : Option (Nat × Nat × Nat) :=
  let p := a / 0x1000
  let off := a % 0x1000
  let g (v : Nat) : Option (Nat × Nat × Nat) := some (15, 8, v)
  if 0x04 ≤ p && p ≤ 0x08 && off = 0x44 then g 0xA5
  else if a = 0x0B068 then g 0x5A
  else if a = 0x21070 then g 0xC3
  else if a = 0x23058 then g 0x3C
  else if (p = 0x28 || p = 0x29) && off = 0x44 then g 0xE7
  else if (p = 0x28 || p = 0x29) && off = 0x8C then some (23, 16, 0x7E)
  else if (p = 0x28 || p = 0x29) && off = 0xAC then g 0x5E
  else if a = 0x30040 then g 0x96
  else if a = 0x38040 then g 0xA9
  else if a = 0x3A044 then g 0x71
  else if a = 0x3D044 then g 0xD2
  else none

/-- The operation that a write `w` of register `a` starts is still BUSY. -/
def State.stillBusy (s : State) (a w : Nat) : Bool :=
  let n := a / 0x1000 - 0x28
  if a = 0x21070 then s.flag Reg.KEY.OP_STATUS.BUSY
  else if a = 0x1104C then s.caches.maint.isSome
  else if a = 0x2808C || a = 0x2908C then s.flag (Reg.ZL.COPY_STATUS.BUSY n)
  else if a = 0x280AC || a = 0x290AC then s.flag (Reg.ZL.SAVE_STATUS.BUSY n)
  else if a = 0x38040 then bitOf w 31 && s.srm.march.isSome
  else false

/-- CAUSE of a write that is ignored as a whole. -/
def State.wholeErr (s : State) (a w : Nat) : Option Nat :=
  let bad := match guardAt a with
    | some (hi, lo, v) => decide (bitsOf w hi lo ≠ v)
    | none => false
  if bad then some 4 else if s.stillBusy a w then some 6 else none

/-! ### Fields -/

/-- Registers whose IL fields are checked and applied together, and whether `w` keeps their limits: DRF.CLASS_CFG (R278), PWR.EXT_CFGn (R692), THM.LIMITS (R704). -/
def ilGroup (a w : Nat) : Option Bool :=
  if a = 0x0E044 then
    let h : Int := bitsOf w 31 24
    let t (lo : Nat) : Int := toSigned 8 (bitsOf w (lo + 7) lo)
    some (decide (h ≤ 15) && decide (t 0 + h < t 8) && decide (t 8 + h < t 16))
  else if 0x30050 ≤ a && a < 0x30070 then
    some ([5, 6, 7, 12].contains (bitsOf w 27 24) && decide (bitsOf w 15 8 ≠ 0) && decide (bitsOf w 7 0 ≠ 0))
  else if a = 0x32040 then
    let trip := bitsOf w 31 24
    let crit := bitsOf w 23 16
    let warn := bitsOf w 15 8
    let ror := bitsOf w 7 0
    some (decide (warn < crit) && decide (crit < trip) && decide (trip ≤ 0x73) && decide (crit ≤ 0x69) && decide (warn ≤ 0x5F) && decide (1 ≤ ror) && decide (ror ≤ 0x14))
  else none

/-- CAUSE for which field `f` of page `p` refuses word `w`; 0 where it takes it (R855, R859, R860, R862). -/
def State.fieldCause (s : State) (p : Nat) (f : RegField) (w : Nat) : Nat :=
  let inLimit := f.lim.ok (bitsOf w f.hi f.lo)
  match f.cls with
  | .ro | .w1c => 0
  | .wo => if s.cmdLock p then 5 else 0
  | .st => if s.cfgLock p then 5 else 0
  | .rw => if s.cfgLock p then 5 else if inLimit then 0 else 2
  | .il => if s.cfgLock p then 5 else if s.pageState p ≠ 1 then 1 else if inLimit then 0 else 2

/-- The stored word `v` after field `f` has taken `w`. -/
def RegField.take (f : RegField) (v w : Nat) : Nat :=
  match f.cls with
  | .rw | .st | .il => f.copy v w
  | .w1c => putBits v f.hi f.lo (bitsOf v f.hi f.lo - (bitsOf v f.hi f.lo &&& bitsOf w f.hi f.lo))
  | .ro | .wo => v

/-- The fields of `fs` take `w`, or are refused, from the highest bit down (R885). -/
def State.fieldsWrite (s : State) (a : Nat) (fs : List RegField) (src : Source) (w : Nat) : State :=
  let p := a / 0x1000
  let s1 := s.setReg a (fs.foldl (fun v f => if s.fieldCause p f w = 0 then f.take v w else v) (s.reg a))
  s1.each (fs.filter (fun f => decide (s.fieldCause p f w ≠ 0))) (fun t f => t.cfgErr p (s.fieldCause p f w) src.code (a % 0x1000) w)

/-- A group takes `w` or refuses it, with one error. -/
def State.groupWrite (s : State) (a : Nat) (fs : List RegField) (good : Bool) (src : Source) (w : Nat) : State :=
  let p := a / 0x1000
  let refuse (c : Nat) : State := s.cfgErr p c src.code (a % 0x1000) w
  if s.cfgLock p then refuse 5
  else if s.pageState p ≠ 1 then refuse 1
  else if good then s.setReg a (fs.foldl (fun v f => f.take v w) (s.reg a))
  else refuse 2

/-! ### What a write starts -/

/-- RGN.ENTRY0, ENTRY1, ENTRY2 of the entry that SEL names, as staged (R575 to R577). -/
def Region.write (x : Region) (off w : Nat) : Region :=
  if off = 0x44 then { x with valid := bitOf w 31, first := bitsOf w 17 0 }
  else if off = 0x48 then { x with last := bitsOf w 17 0 }
  else
    { x with
      keyid := bitsOf w 29 24, mode := bitsOf w 21 20, versioning := bitOf w 19, strict := bitOf w 18, grouped := bitOf w 17, compressed := bitOf w 16, rights := bitsOf w 8 0 }

/-- A write of the entry that SEL names. -/
def State.entryWrite (s : State) (off w : Nat) : State :=
  let i := s.fld Reg.RGN.SEL.INDEX
  s.onProt (fun x => { x with staged := SMap.set (fun _ => {}) x.staged i ((s.stagedRegion i).write off w) })

/-- Registers of class RW or ST whose write starts something, with what it starts: QUERY, INSPECT_SEL, READ_SEL, CMP_LO, the region entry. -/
def State.cfgAct (s : State) (a : Nat) (src : Source) (w : Nat) : State :=
  if a = 0x01090 then { s with bw := { s.bw with cmpArmed := true } }
  else if a = 0x0B058 then s.queryStart w
  else if a = 0x0E0C0 then s.inspectSel src w
  else if a = 0x3A050 then s.tlyReadSel w
  else if a = 0x22044 || a = 0x22048 || a = 0x2204C then s.entryWrite (a % 0x1000) w
  else s

/-- DBG.CTRL (R842). -/
def State.dbgCtrl (s : State) (w : Nat) : State :=
  let s1 := if bitOf w 0 || bitOf w 1 then s.endDebug else s
  if bitOf w 1 then { s1 with dbg := { s1.dbg with lock := true } } else s1

/-- Registers with WO fields of the cartridge pages. -/
def State.zlAct (s : State) (n off : Nat) (src : Source) (w : Nat) : State :=
  if off = 0x44 then s.zlCtrl n src w
  else if off = 0x8C then s.copyCtrl n src w
  else if off = 0xAC then s.saveCtrl n src w
  else s

/-- Registers with WO fields, with what they start. -/
def State.cmdAct (s : State) (a : Nat) (src : Source) (w : Nat) (out : StepOut) : State :=
  let p := a / 0x1000
  let off := a % 0x1000
  if 0x04 ≤ p && p ≤ 0x08 then (if off = 0x44 then s.forceFail (p - 4) w else s)
  else if a = 0x0B068 then (if bitOf w 0 then s.trimGo else s)
  else if a = 0x0B070 then (if bitsOf w 31 30 = 1 || bitsOf w 31 30 = 2 then s.groupCtrl src (bitsOf w 31 30) w else s)
  else if a = 0x0E054 then s.epochWrite w
  else if a = 0x1104C then s.maintCtrl src w
  else if a = 0x18044 then (if bitOf w 31 then s.retrain else s)
  else if p = 0x1B then (if 0x100 ≤ off && off < 0x900 && off % 0x20 = 0 && bitOf w 31 then s.penFlush ((off - 0x100) / 0x20) else s)
  else if p = 0x21 then
    (if off = 0x70 then s.keyCtrl src w
     else if 0x40 ≤ off && off < 0x70 then s.onProt (fun x => { x with wrap := SMap.set (fun _ => none) x.wrap ((off - 0x40) / 4) (some (BitVec.ofNat 32 w)) })
     else s)
  else if p = 0x23 then
    (if off = 0x58 then s.almForce src w
     else if off = 0x60 then s.clearCtrl w
     else if 0xA0 ≤ off && off < 0x124 then s.onProt (fun x => { x with resp := SMap.set (fun _ => 0) x.resp ((off - 0xA0) / 4) (BitVec.ofNat 32 w) })
     else s)
  else if p = 0x28 || p = 0x29 then s.zlAct (p - 0x28) off src w
  else if a = 0x30040 then s.pwrCtrl src w out
  else if a = 0x38040 then s.marchCtrl src w
  else if a = 0x3A044 then s.tlyCtrl src w
  else if a = 0x3C040 then (if bitOf w 30 then s.onPmc (fun x => { x with clear := true }) else s)
  else if a = 0x3D044 then s.dbgCtrl w
  else s

/-- Registers whose word is held by what it names: QUERY, INSPECT_SEL, READ_SEL, and the region entry. -/
def capturing (a : Nat) : Bool := a = 0x0B058 || a = 0x0E0C0 || a = 0x3A050 || a = 0x22044 || a = 0x22048 || a = 0x2204C

/-- A write of a block register with fields `fs`. -/
def State.blockWrite (s : State) (a : Nat) (fs : List RegField) (src : Source) (w : Nat) (out : StepOut) : State :=
  let p := a / 0x1000
  match s.wholeErr a w with
  | some c => s.cfgErr p c src.code (a % 0x1000) w
  | none =>
    match ilGroup a w with
    | some good => s.groupWrite a fs good src w
    | none =>
      let s1 := if capturing a && !s.cfgLock p then s else s.fieldsWrite a fs src w
      let s2 := if s.cfgLock p then s1 else s1.cfgAct a src w
      if s.cmdLock p then s2 else s2.cmdAct a src w out

/-- A write of the word `w` at BAR0 offset `addr` by `src` (R845, R846, R851): it acts on a page that is open; the sideband reaches DEV and PWR alone (R867). `out` is what a RESUME meets. -/
def State.busWrite (s : State) (src : Source) (addr w : Nat) (out : StepOut) : State :=
  let p := addr / 0x1000
  let off := addr % 0x1000
  if off % 4 ≠ 0 || (src = .i3c && decide (p ≠ 0x00) && decide (p ≠ 0x30)) || !s.pageOpen p off then s
  else if off < 0x40 then s.headerWrite p off src w
  else match regFields addr with
    | some fs => s.blockWrite addr fs src w out
    | none => s

/-! ### The register commands -/

/-- A write that sends no RESUME. -/
def State.write (s : State) (src : Source) (addr w : Nat) : Res := .next (s.busWrite src addr w {})

/-- `w` with its bits [31:30] reading `op`. -/
def withOp (w op : Nat) : Nat := putBits w 31 30 op

/-- REGISTER_WRITE (R845, R846, R855, R862, R885). -/
def execRegisterWrite (src : Source) (addr : Nat) (w : Word) (out : StepOut) (s : State) : Res := .next (s.busWrite src addr w.toNat out)

/-- SOFT_RESET (R849, R861). -/
def execSoftReset (page : Nat) (src : Source) (w : Word) (s : State) : Res := s.write src (page * 0x1000 + 0x08) (w.toNat ||| 4)
/-- COMMIT (R849, R857). -/
def execCommit (page : Nat) (src : Source) (w : Word) (s : State) : Res := s.write src (page * 0x1000 + 0x08) (putBits w.toNat 2 1 1)
/-- INT_FORCE (R852). -/
def execIntForce (page : Nat) (src : Source) (w : Word) (s : State) : Res := s.write src (page * 0x1000 + 0x18) w.toNat
/-- LOCK (R854, R862). -/
def execLock (page : Nat) (src : Source) (w : Word) (s : State) : Res := s.write src (page * 0x1000 + 0x2C) w.toNat

/-- CMP_LO_WRITE (R52): the bell compare is armed. -/
def execCmpLoWrite (src : Source) (w : Word) (s : State) : Res := s.write src 0x01090 w.toNat
/-- FORCE_FAIL (R119). -/
def execForceFail (stack : Nat) (src : Source) (w : Word) (s : State) : Res := if stack < 5 then s.write src (0x04044 + 0x1000 * stack) w.toNat else .next s
/-- GROUP_COMMIT (R203, R221). -/
def execGroupCommit (src : Source) (w : Word) (s : State) : Res := s.write src 0x0B070 (withOp w.toNat 1)
/-- GROUP_ABORT (R204, R221). -/
def execGroupAbort (src : Source) (w : Word) (s : State) : Res := s.write src 0x0B070 (withOp w.toNat 2)
/-- TRIM_GO (R206, R219). -/
def execTrimGo (src : Source) (w : Word) (s : State) : Res := s.write src 0x0B068 (w.toNat ||| 1)
/-- QUERY (R215). -/
def execQuery (src : Source) (w : Word) (s : State) : Res := s.write src 0x0B058 w.toNat
/-- EPOCH_ADVANCE (R273, R281). -/
def execEpochAdvance (src : Source) (w : Word) (s : State) : Res := s.write src 0x0E054 w.toNat
/-- INSPECT_SEL (R293). -/
def execInspectSel (src : Source) (w : Word) (s : State) : Res := s.write src 0x0E0C0 w.toNat
/-- MAINT_CLEAN (R308, R328). -/
def execMaintClean (src : Source) (w : Word) (s : State) : Res := s.write src 0x1104C (withOp w.toNat 1)
/-- MAINT_INVALIDATE (R308, R328). -/
def execMaintInvalidate (src : Source) (w : Word) (s : State) : Res := s.write src 0x1104C (withOp w.toNat 2)
/-- MAINT_CLEAN_INVALIDATE (R308, R328). -/
def execMaintCleanInvalidate (src : Source) (w : Word) (s : State) : Res := s.write src 0x1104C (withOp w.toNat 3)
/-- LINK_RETRAIN (R448). -/
def execLinkRetrain (src : Source) (w : Word) (s : State) : Res := s.write src 0x18044 (w.toNat ||| 2 ^ 31)
/-- PEN_FLUSH (R481). -/
def execPenFlush (pen : Nat) (src : Source) (w : Word) (s : State) : Res := if pen < 64 then s.write src (0x1B100 + 0x20 * pen) (w.toNat ||| 2 ^ 31) else .next s
/-- INSTALL (R537, R569). -/
def execInstall (src : Source) (w : Word) (s : State) : Res := s.write src 0x21070 (withOp w.toNat 1)
/-- REKEY (R537, R569). -/
def execRekey (src : Source) (w : Word) (s : State) : Res := s.write src 0x21070 (withOp w.toNat 2)
/-- REMOVE (R537, R569). -/
def execRemove (src : Source) (w : Word) (s : State) : Res := s.write src 0x21070 (withOp w.toNat 3)
/-- ERUPT (R592). -/
def execErupt (src : Source) (w : Word) (s : State) : Res := s.write src 0x23058 (w.toNat ||| 1)
/-- NEW_CHALLENGE (R559, R593). -/
def execNewChallenge (src : Source) (w : Word) (s : State) : Res := s.write src 0x23060 (w.toNat ||| 2 ^ 31)
/-- VERIFY (R559, R593). -/
def execVerify (src : Source) (w : Word) (s : State) : Res := s.write src 0x23060 (w.toNat ||| 2 ^ 30)
/-- EJECT (R629, R635). -/
def execEject (slot : Nat) (src : Source) (w : Word) (s : State) : Res := if slot < 2 then s.write src (0x28044 + 0x1000 * slot) (w.toNat ||| 2) else .next s
/-- REMOUNT (R630, R635). -/
def execRemount (slot : Nat) (src : Source) (w : Word) (s : State) : Res := if slot < 2 then s.write src (0x28044 + 0x1000 * slot) (w.toNat ||| 1) else .next s
/-- COPY_GO (R626, R649). -/
def execCopyGo (slot : Nat) (src : Source) (w : Word) (s : State) : Res := if slot < 2 then s.write src (0x2808C + 0x1000 * slot) (w.toNat ||| 2 ^ 31) else .next s
/-- SAVE_GO (R627, R654). -/
def execSaveGo (slot : Nat) (src : Source) (w : Word) (s : State) : Res := if slot < 2 then s.write src (0x280AC + 0x1000 * slot) (w.toNat ||| 1) else .next s
/-- FAULT_CLEAR (R666, R689). -/
def execFaultClear (src : Source) (w : Word) (s : State) : Res := s.write src 0x30040 (w.toNat ||| 2 ^ 29)
/-- STANDBY (R675, R689). -/
def execStandby (src : Source) (w : Word) (s : State) : Res := s.write src 0x30040 (w.toNat ||| 2 ^ 31)
/-- RESUME (R676, R689, R733). -/
def execResume (src : Source) (w : Word) (out : StepOut) (s : State) : Res := .next (s.busWrite src 0x30040 (w.toNat ||| 2 ^ 30) out)
/-- MARCH_DESTRUCTIVE (R749, R750). -/
def execMarchDestructive (src : Source) (w : Word) (s : State) : Res := s.write src 0x38040 (withOp w.toNat 2)
/-- MARCH_PRESERVING (R749, R750). -/
def execMarchPreserving (src : Source) (w : Word) (s : State) : Res := s.write src 0x38040 (withOp w.toNat 3)
/-- TALLY_FLUSH (R779, R796). -/
def execTallyFlush (src : Source) (w : Word) (s : State) : Res := s.write src 0x3A044 (w.toNat ||| 1)
/-- READ_SEL (R799). -/
def execReadSel (src : Source) (w : Word) (s : State) : Res := s.write src 0x3A050 w.toNat
/-- CLEAR (R815, R828). -/
def execClear (src : Source) (w : Word) (s : State) : Res := s.write src 0x3C040 (w.toNat ||| 2 ^ 30)
/-- END_SESSION (R824, R842). -/
def execEndSession (src : Source) (w : Word) (s : State) : Res := s.write src 0x3D044 (w.toNat ||| 1)
/-- L2_LOCK (R824, R842). -/
def execL2Lock (src : Source) (w : Word) (s : State) : Res := s.write src 0x3D044 (w.toNat ||| 2)

end Sys2Proof.Machine
end

