-- ==== Sys2Proof/Machine/I3c.lean ====
section
/-! DEFINITION. The I3C management sideband (R866, R867): common command codes of the target and its private transfers. What the codes carry is that of MIPI I3C Basic (log entry 12). -/

namespace Sys2Proof.Machine

/-- The static address (R866). -/
abbrev i3cStatic : Nat := 0x46

/-- The sideband is available: from POR release while VIN is present (R866, R717). -/
def State.i3cOn (s : State) : Bool := s.dev.por && s.pwr.vin

/-- The target answers address `a`: its dynamic address, or the static one while it has none. -/
def State.i3cMine (s : State) (a : Nat) : Bool := s.i3cOn && (match s.i3c.addr with | some d => decide (a = d) | none => decide (a = i3cStatic))

/-- A command code sent to one target: it acts on the target that holds `a` as its dynamic address. -/
def State.i3cDirect (s : State) (a : Nat) (f : State → State) : State := if s.i3cOn && decide (s.i3c.addr = some a) then f s else s

/-- The provisional ID, most significant byte first. -/
def i3cPidBytes : List Nat := bytesBe 6 Config.i3cPid.toNat
/-- The bus characteristics: in-band interrupts without payload, no HDR mode, a target (R866). Bits 0, 3 and 4 are the part's. -/
def i3cBcr : Nat := (Config.i3cBcr &&& 0x19#8).toNat + 2

/-- The target takes the dynamic address `a`. -/
def State.i3cAssign (s : State) (a : Nat) : State := { s with i3c := { s.i3c with addr := some a } }

/-- ENTDAA: a target without a dynamic address sends ID and characteristics and takes the address it is assigned. -/
def execEntdaa (assigned : Nat) (s : State) : Res :=
  .next (if s.i3cOn && s.i3c.addr.isNone then (s.emit (.i3c (i3cPidBytes ++ [i3cBcr, Config.i3cDcr.toNat]))).i3cAssign assigned else s)

/-- SETDASA: the target of static address `static` takes the dynamic address `assigned`. -/
def execSetdasa (static assigned : Nat) (s : State) : Res :=
  .next (if s.i3cOn && s.i3c.addr.isNone && decide (static = i3cStatic) then s.i3cAssign assigned else s)

/-- RSTDAA: the dynamic address is given up. -/
def execRstdaa (s : State) : Res := .next (if s.i3cOn then { s with i3c := { s.i3c with addr := none } } else s)

/-- GETPID. -/
def execGetpid (addr : Nat) (s : State) : Res := .next (s.i3cDirect addr (fun s => s.emit (.i3c i3cPidBytes)))
/-- GETBCR. -/
def execGetbcr (addr : Nat) (s : State) : Res := .next (s.i3cDirect addr (fun s => s.emit (.i3c [i3cBcr])))
/-- GETDCR. -/
def execGetdcr (addr : Nat) (s : State) : Res := .next (s.i3cDirect addr (fun s => s.emit (.i3c [Config.i3cDcr.toNat])))

/-- GETSTATUS: two bytes; bits [3:0] are 0 unless the pin summary is 1, everything else is open (log entry 12). -/
def execGetstatus (addr : Nat) (s : State) : Res :=
  .next (s.i3cDirect addr (fun s =>
    let d := s.draw 16
    let v := d.1 % 2 ^ 16 - d.1 % 16 + (if s.irq.pin then 1 + d.1 % 15 else 0)
    d.2.emit (.i3c (bytesBe 2 v))))

/-- The event byte of ENEC or DISEC reaches the target. -/
def State.i3cEvents (s : State) (target : Option Nat) (f : State → State) : State :=
  match target with
  | some a => s.i3cDirect a f
  | none => if s.i3cOn then f s else s

/-- ENEC: bit 0 of the event byte enables in-band interrupts. -/
def execEnec (target : Option Nat) (bits : Nat) (s : State) : Res :=
  .next (s.i3cEvents target (fun s => if bitOf bits 0 then { s with irq := { s.irq with ibiEn := true } } else s))

/-- DISEC: bit 0 of the event byte disables in-band interrupts. -/
def execDisec (target : Option Nat) (bits : Nat) (s : State) : Res :=
  .next (s.i3cEvents target (fun s => if bitOf bits 0 then { s with irq := { s.irq with ibiEn := false } } else s))

/-- A transaction reaches a register: page DEV or PWR, an offset within the page with bits [1:0] zero (R867). -/
def i3cReaches (page offset : Nat) : Bool := (page = 0x00 || page = 0x30) && decide (offset < 0x1000) && decide (offset % 4 = 0)

/-- The words of a write, from `offset` on. -/
def State.i3cWords (s : State) (page offset : Nat) (words : List Word) (out : StepOut) : State :=
  match words with
  | [] => s
  | w :: rest => (if i3cReaches page offset then s.busWrite .i3c (page * 0x1000 + offset) w.toNat out else s).i3cWords page (offset + 4) rest out

/-- I3C_WRITE (R867): each word is written at the current offset, which then advances by 4. `out` is what a RESUME meets. -/
def execI3cWrite (target page offset : Nat) (words : List Word) (out : StepOut) (s : State) : Res :=
  .next (if s.i3cMine target then s.i3cWords page offset words out else s)

/-- I3C_READ (R867): `count` registers from `offset` on, each little-endian; zeros where none is reached. -/
def execI3cRead (target page offset count : Nat) (s : State) : Res :=
  .next (if s.i3cMine target then
    s.emit (.i3c ((List.range count).flatMap (fun i =>
      if i3cReaches page (offset + 4 * i) then bytesLe 4 (s.viewReg (page * 0x1000 + offset + 4 * i)).toNat else [0, 0, 0, 0])))
  else s)

end Sys2Proof.Machine
end

