-- ==== Sys2Proof/Machine/Dispatch.lean ====
section
/-! DEFINITION. One arm per command: each calls its meaning. -/

namespace Sys2Proof.Machine

/-- The effect of a command on everything but the queue. -/
def exec (i : Instr) (s : State) : Host.Outcome State Fault Refusal :=
  match i with
  | .porRelease straps => Sys2Proof.Machine.execPorRelease straps s
  | .pwrReqOn => Sys2Proof.Machine.execPwrReqOn s
  | .pwrReqOff => Sys2Proof.Machine.execPwrReqOff s
  | .vinQualified => Sys2Proof.Machine.execVinQualified s
  | .vinCollapse => Sys2Proof.Machine.execVinCollapse s
  | .powerGoodQualified pg chatter us => Sys2Proof.Machine.execPowerGoodQualified pg chatter us s
  | .powerGoodDrop pg => Sys2Proof.Machine.execPowerGoodDrop pg s
  | .seqStageTimeout chatter => Sys2Proof.Machine.execSeqStageTimeout chatter s
  | .railFall rail => Sys2Proof.Machine.execRailFall rail s
  | .railFallTimeout rail => Sys2Proof.Machine.execRailFallTimeout rail s
  | .offDelayExpiry channel => Sys2Proof.Machine.execOffDelayExpiry channel s
  | .faultClear src w => Sys2Proof.Machine.execFaultClear src w s
  | .housekeepingRound samples temps => Sys2Proof.Machine.execHousekeepingRound samples temps s
  | .loadTestEnd => Sys2Proof.Machine.execLoadTestEnd s
  | .vholdRetest => Sys2Proof.Machine.execVholdRetest s
  | .standby src w => Sys2Proof.Machine.execStandby src w s
  | .resume src w out => Sys2Proof.Machine.execResume src w out s
  | .ventTurnStart gang pair => Sys2Proof.Machine.execVentTurnStart gang pair s
  | .ventTurnEnd gang => Sys2Proof.Machine.execVentTurnEnd gang s
  | .ventPnvPageDone => Sys2Proof.Machine.execVentPnvPageDone s
  | .bellBoundary words => Sys2Proof.Machine.execBellBoundary words s
  | .flockBoundary hot => Sys2Proof.Machine.execFlockBoundary hot s
  | .epochBoundary => Sys2Proof.Machine.execEpochBoundary s
  | .pllLockLoss => Sys2Proof.Machine.execPllLockLoss s
  | .bellLoRead src phase => Sys2Proof.Machine.execBellLoRead src phase s
  | .cmpLoWrite src w => Sys2Proof.Machine.execCmpLoWrite src w s
  | .frameSyncEdge level phase => Sys2Proof.Machine.execFrameSyncEdge level phase s
  | .frameSyncAccept phase => Sys2Proof.Machine.execFrameSyncAccept phase s
  | .programTurnStart gang phase => Sys2Proof.Machine.execProgramTurnStart gang phase s
  | .programTurnEnd gang fails phase => Sys2Proof.Machine.execProgramTurnEnd gang fails phase s
  | .idleTurnEnd gang phase => Sys2Proof.Machine.execIdleTurnEnd gang phase s
  | .rotationEnd gang phase => Sys2Proof.Machine.execRotationEnd gang phase s
  | .memRd hpa tag errs phase => Sys2Proof.Machine.execMemRd hpa tag errs phase s
  | .memRdData hpa tag errs phase => Sys2Proof.Machine.execMemRdData hpa tag errs phase s
  | .memInv hpa tag phase => Sys2Proof.Machine.execMemInv hpa tag phase s
  | .memInvNt hpa tag phase => Sys2Proof.Machine.execMemInvNt hpa tag phase s
  | .memSpecRd hpa phase => Sys2Proof.Machine.execMemSpecRd hpa phase s
  | .memWr hpa tag data poison phase => Sys2Proof.Machine.execMemWr hpa tag data poison phase s
  | .memWrPtl hpa tag data mask poison phase => Sys2Proof.Machine.execMemWrPtl hpa tag data mask poison phase s
  | .m2sUnsupportedOpcode rwd hpa tag phase => Sys2Proof.Machine.execM2sUnsupportedOpcode rwd hpa tag phase s
  | .lookupIssue read rows phase => Sys2Proof.Machine.execLookupIssue read rows phase s
  | .lookupComplete read sc map phase => Sys2Proof.Machine.execLookupComplete read sc map phase s
  | .lookupRetry read sc map scOther mapOther rows phase => Sys2Proof.Machine.execLookupRetry read sc map scOther mapOther rows phase s
  | .foregroundSenseStart read phase => Sys2Proof.Machine.execForegroundSenseStart read phase s
  | .senseComplete read sensed phase => Sys2Proof.Machine.execSenseComplete read sensed phase s
  | .retrySenseStart read phase => Sys2Proof.Machine.execRetrySenseStart read phase s
  | .rereadStart read phase => Sys2Proof.Machine.execRereadStart read phase s
  | .backgroundSenseStart gang phase => Sys2Proof.Machine.execBackgroundSenseStart gang phase s
  | .backgroundSecondAttempt id sensed phase => Sys2Proof.Machine.execBackgroundSecondAttempt id sensed phase s
  | .confirmationSense n found phase => Sys2Proof.Machine.execConfirmationSense n found phase s
  | .catchUpSense gang n sensed phase => Sys2Proof.Machine.execCatchUpSense gang n sensed phase s
  | .shepherdVisit id sensed phase => Sys2Proof.Machine.execShepherdVisit id sensed phase s
  | .forceFail stack src w => Sys2Proof.Machine.execForceFail stack src w s
  | .diePowerOff die => Sys2Proof.Machine.execDiePowerOff die s
  | .parityRebuild ended => Sys2Proof.Machine.execParityRebuild ended s
  | .segmentClose lseg group => Sys2Proof.Machine.execSegmentClose lseg group s
  | .oldSegmentRead id sensed phase => Sys2Proof.Machine.execOldSegmentRead id sensed phase s
  | .segmentBuild id => Sys2Proof.Machine.execSegmentBuild id s
  | .genReservationDurable region => Sys2Proof.Machine.execGenReservationDurable region s
  | .rowBatchComplete gang => Sys2Proof.Machine.execRowBatchComplete gang s
  | .rewrite id sensed phase => Sys2Proof.Machine.execRewrite id sensed phase s
  | .foldSourceRead id sensed phase => Sys2Proof.Machine.execFoldSourceRead id sensed phase s
  | .foldVerify id sensed phase => Sys2Proof.Machine.execFoldVerify id sensed phase s
  | .foldSwitch gang => Sys2Proof.Machine.execFoldSwitch gang s
  | .paddockVerify gang id sensed phase => Sys2Proof.Machine.execPaddockVerify gang id sensed phase s
  | .journalWrite => Sys2Proof.Machine.execJournalWrite s
  | .groupCommit src w => Sys2Proof.Machine.execGroupCommit src w s
  | .groupAbort src w => Sys2Proof.Machine.execGroupAbort src w s
  | .groupCommitted slot => Sys2Proof.Machine.execGroupCommitted slot s
  | .groupApply slot => Sys2Proof.Machine.execGroupApply slot s
  | .groupStatusRead src slot => Sys2Proof.Machine.execGroupStatusRead src slot s
  | .trimGo src w => Sys2Proof.Machine.execTrimGo src w s
  | .trimCacheWalkEnd => Sys2Proof.Machine.execTrimCacheWalkEnd s
  | .trimMapUpdate => Sys2Proof.Machine.execTrimMapUpdate s
  | .query src w => Sys2Proof.Machine.execQuery src w s
  | .queryResultReady => Sys2Proof.Machine.execQueryResultReady s
  | .driftEvaluation phase => Sys2Proof.Machine.execDriftEvaluation phase s
  | .epochAdvance src w => Sys2Proof.Machine.execEpochAdvance src w s
  | .inspectSel src w => Sys2Proof.Machine.execInspectSel src w s
  | .inspectReady phase => Sys2Proof.Machine.execInspectReady phase s
  | .maintClean src w => Sys2Proof.Machine.execMaintClean src w s
  | .maintInvalidate src w => Sys2Proof.Machine.execMaintInvalidate src w s
  | .maintCleanInvalidate src w => Sys2Proof.Machine.execMaintCleanInvalidate src w s
  | .maintDone => Sys2Proof.Machine.execMaintDone s
  | .wayTransitionEnd way => Sys2Proof.Machine.execWayTransitionEnd way s
  | .rdShared stop read phase => Sys2Proof.Machine.execRdShared stop read phase s
  | .rdOwn stop read store mask phase => Sys2Proof.Machine.execRdOwn stop read store mask phase s
  | .rdStream stop keyid read phase => Sys2Proof.Machine.execRdStream stop keyid read phase s
  | .wb msg phase => Sys2Proof.Machine.execWb msg phase s
  | .stashWrite agent target internal keyid addr data mask phase => Sys2Proof.Machine.execStashWrite agent target internal keyid addr data mask phase s
  | .stashFill agent target internal keyid addr data phase => Sys2Proof.Machine.execStashFill agent target internal keyid addr data phase s
  | .snpShare tx stop parity phase => Sys2Proof.Machine.execSnpShare tx stop parity phase s
  | .snpOwn tx stop parity phase => Sys2Proof.Machine.execSnpOwn tx stop parity phase s
  | .snpInv tx stop parity phase => Sys2Proof.Machine.execSnpInv tx stop parity phase s
  | .snpClean tx stop parity phase => Sys2Proof.Machine.execSnpClean tx stop parity phase s
  | .snpClinv tx stop parity phase => Sys2Proof.Machine.execSnpClinv tx stop parity phase s
  | .snoopReturn tx phase => Sys2Proof.Machine.execSnoopReturn tx phase s
  | .snpDone msg phase => Sys2Proof.Machine.execSnpDone msg phase s
  | .comp msg phase => Sys2Proof.Machine.execComp msg phase s
  | .retry msg phase => Sys2Proof.Machine.execRetry msg phase s
  | .credit msg phase => Sys2Proof.Machine.execCredit msg phase s
  | .wbDone msg phase => Sys2Proof.Machine.execWbDone msg phase s
  | .dat msg phase => Sys2Proof.Machine.execDat msg phase s
  | .wbDataWrite stop addr phase => Sys2Proof.Machine.execWbDataWrite stop addr phase s
  | .deadAgentTimeout tx stop addr phase => Sys2Proof.Machine.execDeadAgentTimeout tx stop addr phase s
  | .refresh sub phase => Sys2Proof.Machine.execRefresh sub phase s
  | .dramRetrain channel sub failed => Sys2Proof.Machine.execDramRetrain channel sub failed s
  | .updateBufferWrite n sub phase => Sys2Proof.Machine.execUpdateBufferWrite n sub phase s
  | .neighbourRefresh phase => Sys2Proof.Machine.execNeighbourRefresh phase s
  | .linkUp rate width flit phase => Sys2Proof.Machine.execLinkUp rate width flit phase s
  | .linkDown phase => Sys2Proof.Machine.execLinkDown phase s
  | .hotReset phase => Sys2Proof.Machine.execHotReset phase s
  | .perstNAssert phase => Sys2Proof.Machine.execPerstNAssert phase s
  | .perstNRelease us out phase => Sys2Proof.Machine.execPerstNRelease us out phase s
  | .recoveryEntry phase => Sys2Proof.Machine.execRecoveryEntry phase s
  | .recoveryExit phase => Sys2Proof.Machine.execRecoveryExit phase s
  | .linkTrainingRetry => Sys2Proof.Machine.execLinkTrainingRetry s
  | .linkRetrain src w => Sys2Proof.Machine.execLinkRetrain src w s
  | .hdmDecoderCommit base size ways lock phase => Sys2Proof.Machine.execHdmDecoderCommit base size ways lock phase s
  | .gpfPhase1 phase => Sys2Proof.Machine.execGpfPhase1 phase s
  | .gpfPhase2 phase => Sys2Proof.Machine.execGpfPhase2 phase s
  | .gpfPhase2Timeout => Sys2Proof.Machine.execGpfPhase2Timeout s
  | .s2mCreditReturn drs n phase => Sys2Proof.Machine.execS2mCreditReturn drs n phase s
  | .busMasterEnableChange on msix tph mps phase => Sys2Proof.Machine.execBusMasterEnableChange on msix tph mps phase s
  | .d3hot phase => Sys2Proof.Machine.execD3hot phase s
  | .malformedTlp phase => Sys2Proof.Machine.execMalformedTlp phase s
  | .poisonedBarWrite phase => Sys2Proof.Machine.execPoisonedBarWrite phase s
  | .barMisalignedAccess read phase => Sys2Proof.Machine.execBarMisalignedAccess read phase s
  | .unsupportedRequest phase => Sys2Proof.Machine.execUnsupportedRequest phase s
  | .creditOverrun phase => Sys2Proof.Machine.execCreditOverrun phase s
  | .type1Vdm phase => Sys2Proof.Machine.execType1Vdm phase s
  | .ideIntegrityFailure phase => Sys2Proof.Machine.execIdeIntegrityFailure phase s
  | .ideKm len session op phase => Sys2Proof.Machine.execIdeKm len session op phase s
  | .cxlIdeKm len session op phase => Sys2Proof.Machine.execCxlIdeKm len session op phase s
  | .doeDiscovery len index phase => Sys2Proof.Machine.execDoeDiscovery len index phase s
  | .cdatTableAccess len handle phase => Sys2Proof.Machine.execCdatTableAccess len handle phase s
  | .getVersion len phase => Sys2Proof.Machine.execGetVersion len phase s
  | .getCapabilities len phase => Sys2Proof.Machine.execGetCapabilities len phase s
  | .negotiateAlgorithms len offered phase => Sys2Proof.Machine.execNegotiateAlgorithms len offered phase s
  | .getDigests len phase => Sys2Proof.Machine.execGetDigests len phase s
  | .getCertificate len slot offset length phase => Sys2Proof.Machine.execGetCertificate len slot offset length phase s
  | .spdmChallenge len slot phase => Sys2Proof.Machine.execSpdmChallenge len slot phase s
  | .getMeasurements len index signed phase => Sys2Proof.Machine.execGetMeasurements len index signed phase s
  | .keyExchange len slot phase => Sys2Proof.Machine.execKeyExchange len slot phase s
  | .finish len session ok phase => Sys2Proof.Machine.execFinish len session ok phase s
  | .spdmEndSession len session phase => Sys2Proof.Machine.execSpdmEndSession len session phase s
  | .keyUpdate len session op phase => Sys2Proof.Machine.execKeyUpdate len session op phase s
  | .heartbeat len session phase => Sys2Proof.Machine.execHeartbeat len session phase s
  | .identify irq phase => Sys2Proof.Machine.execIdentify irq phase s
  | .backgroundOperationStatus irq phase => Sys2Proof.Machine.execBackgroundOperationStatus irq phase s
  | .getResponseMessageLimit irq phase => Sys2Proof.Machine.execGetResponseMessageLimit irq phase s
  | .setResponseMessageLimit n irq phase => Sys2Proof.Machine.execSetResponseMessageLimit n irq phase s
  | .getEventRecords log irq phase => Sys2Proof.Machine.execGetEventRecords log irq phase s
  | .clearEventRecords log all handles irq phase => Sys2Proof.Machine.execClearEventRecords log all handles irq phase s
  | .getEventInterruptPolicy irq phase => Sys2Proof.Machine.execGetEventInterruptPolicy irq phase s
  | .setEventInterruptPolicy modes irq phase => Sys2Proof.Machine.execSetEventInterruptPolicy modes irq phase s
  | .getFwInfo irq phase => Sys2Proof.Machine.execGetFwInfo irq phase s
  | .transferFw action slot offset data irq phase => Sys2Proof.Machine.execTransferFw action slot offset data irq phase s
  | .activateFw online slot irq phase => Sys2Proof.Machine.execActivateFw online slot irq phase s
  | .getTimestamp irq phase => Sys2Proof.Machine.execGetTimestamp irq phase s
  | .setTimestamp ns irq phase => Sys2Proof.Machine.execSetTimestamp ns irq phase s
  | .getSupportedLogs irq phase => Sys2Proof.Machine.execGetSupportedLogs irq phase s
  | .getLog log offset len irq phase => Sys2Proof.Machine.execGetLog log offset len irq phase s
  | .identifyMemoryDevice irq phase => Sys2Proof.Machine.execIdentifyMemoryDevice irq phase s
  | .getPartitionInfo irq phase => Sys2Proof.Machine.execGetPartitionInfo irq phase s
  | .getHealthInfo irq phase => Sys2Proof.Machine.execGetHealthInfo irq phase s
  | .getAlertConfiguration irq phase => Sys2Proof.Machine.execGetAlertConfiguration irq phase s
  | .setAlertConfiguration values irq phase => Sys2Proof.Machine.execSetAlertConfiguration values irq phase s
  | .getShutdownState irq phase => Sys2Proof.Machine.execGetShutdownState irq phase s
  | .setShutdownState n irq phase => Sys2Proof.Machine.execSetShutdownState n irq phase s
  | .getPoisonList dpa len irq phase => Sys2Proof.Machine.execGetPoisonList dpa len irq phase s
  | .unsupportedMailboxCommand op irq phase => Sys2Proof.Machine.execUnsupportedMailboxCommand op irq phase s
  | .hostReadCompletion tag ok bytes phase => Sys2Proof.Machine.execHostReadCompletion tag ok bytes phase s
  | .penPush addr bytes phase => Sys2Proof.Machine.execPenPush addr bytes phase s
  | .slotStageTimeout pen slot => Sys2Proof.Machine.execSlotStageTimeout pen slot s
  | .penFlush pen src w => Sys2Proof.Machine.execPenFlush pen src w s
  | .streamRead phase => Sys2Proof.Machine.execStreamRead phase s
  | .streamWrite phase => Sys2Proof.Machine.execStreamWrite phase s
  | .loadDict phase => Sys2Proof.Machine.execLoadDict phase s
  | .commitGroup phase => Sys2Proof.Machine.execCommitGroup phase s
  | .abortGroup phase => Sys2Proof.Machine.execAbortGroup phase s
  | .admissionDecision phase => Sys2Proof.Machine.execAdmissionDecision phase s
  | .streamGroupAction req phase => Sys2Proof.Machine.execStreamGroupAction req phase s
  | .streamMediaRead req seg phase => Sys2Proof.Machine.execStreamMediaRead req seg phase s
  | .laneDecodeStart req phase => Sys2Proof.Machine.execLaneDecodeStart req phase s
  | .laneDecodeEnd req phase => Sys2Proof.Machine.execLaneDecodeEnd req phase s
  | .dictLoadFinish req phase => Sys2Proof.Machine.execDictLoadFinish req phase s
  | .streamRequestEnd req phase => Sys2Proof.Machine.execStreamRequestEnd req phase s
  | .install src w => Sys2Proof.Machine.execInstall src w s
  | .rekey src w => Sys2Proof.Machine.execRekey src w s
  | .remove src w => Sys2Proof.Machine.execRemove src w s
  | .keyOpComplete => Sys2Proof.Machine.execKeyOpComplete s
  | .reencryptionPassEnd region => Sys2Proof.Machine.execReencryptionPassEnd region s
  | .tamperMesh => Sys2Proof.Machine.execTamperMesh s
  | .tamperNLow input => Sys2Proof.Machine.execTamperNLow input s
  | .coreSupplyFault => Sys2Proof.Machine.execCoreSupplyFault s
  | .clockFault => Sys2Proof.Machine.execClockFault s
  | .erupt src w => Sys2Proof.Machine.execErupt src w s
  | .zeroiseEnd => Sys2Proof.Machine.execZeroiseEnd s
  | .newChallenge src w => Sys2Proof.Machine.execNewChallenge src w s
  | .verify src w => Sys2Proof.Machine.execVerify src w s
  | .cartInsert slot phase => Sys2Proof.Machine.execCartInsert slot phase s
  | .cartStepTimeout slot phase => Sys2Proof.Machine.execCartStepTimeout slot phase s
  | .laneTrainingEnd slot lanes phase => Sys2Proof.Machine.execLaneTrainingEnd slot lanes phase s
  | .tsFrame slot phase => Sys2Proof.Machine.execTsFrame slot phase s
  | .idleFrame slot phase => Sys2Proof.Machine.execIdleFrame slot phase s
  | .linkFrame slot ack ackValid nak phase => Sys2Proof.Machine.execLinkFrame slot ack ackValid nak phase s
  | .rmeta slot seq payload phase => Sys2Proof.Machine.execRmeta slot seq payload phase s
  | .rdata slot seq payload phase => Sys2Proof.Machine.execRdata slot seq payload phase s
  | .rsp slot seq payload phase => Sys2Proof.Machine.execRsp slot seq payload phase s
  | .rerr slot seq payload phase => Sys2Proof.Machine.execRerr slot seq payload phase s
  | .replayTimer slot phase => Sys2Proof.Machine.execReplayTimer slot phase s
  | .cartLinkLoss slot phase => Sys2Proof.Machine.execCartLinkLoss slot phase s
  | .cartCommandTimeout slot tag phase => Sys2Proof.Machine.execCartCommandTimeout slot tag phase s
  | .cartAnswerTimeout slot tag phase => Sys2Proof.Machine.execCartAnswerTimeout slot tag phase s
  | .cartCompletionDeadline slot tag phase => Sys2Proof.Machine.execCartCompletionDeadline slot tag phase s
  | .cartReadHandoff read phase => Sys2Proof.Machine.execCartReadHandoff read phase s
  | .cartRemoval slot phase => Sys2Proof.Machine.execCartRemoval slot phase s
  | .cartPgLow slot => Sys2Proof.Machine.execCartPgLow slot s
  | .eject slot src w => Sys2Proof.Machine.execEject slot src w s
  | .remount slot src w => Sys2Proof.Machine.execRemount slot src w s
  | .copyGo slot src w => Sys2Proof.Machine.execCopyGo slot src w s
  | .saveGo slot src w => Sys2Proof.Machine.execSaveGo slot src w s
  | .saveWriteTimeout slot phase => Sys2Proof.Machine.execSaveWriteTimeout slot phase s
  | .startUpStepEnd us out => Sys2Proof.Machine.execStartUpStepEnd us out s
  | .bankWakeEnd bank => Sys2Proof.Machine.execBankWakeEnd bank s
  | .marchDestructive src w => Sys2Proof.Machine.execMarchDestructive src w s
  | .marchPreserving src w => Sys2Proof.Machine.execMarchPreserving src w s
  | .marchPassEnd fail => Sys2Proof.Machine.execMarchPassEnd fail s
  | .pnvOperationEnd next phase => Sys2Proof.Machine.execPnvOperationEnd next phase s
  | .reportIntake phase => Sys2Proof.Machine.execReportIntake phase s
  | .recordStep phase => Sys2Proof.Machine.execRecordStep phase s
  | .tallyFlush src w => Sys2Proof.Machine.execTallyFlush src w s
  | .flushStart => Sys2Proof.Machine.execFlushStart s
  | .flushEnd => Sys2Proof.Machine.execFlushEnd s
  | .faultServiceNotification => Sys2Proof.Machine.execFaultServiceNotification s
  | .watchdogExpiry core => Sys2Proof.Machine.execWatchdogExpiry core s
  | .readSel src w => Sys2Proof.Machine.execReadSel src w s
  | .readSelReady => Sys2Proof.Machine.execReadSelReady s
  | .clear src w => Sys2Proof.Machine.execClear src w s
  | .windowEnd => Sys2Proof.Machine.execWindowEnd s
  | .pvalLoRead src counter phase => Sys2Proof.Machine.execPvalLoRead src counter phase s
  | .fixLoRead src counter => Sys2Proof.Machine.execFixLoRead src counter s
  | .wbHeldLoRead src phase => Sys2Proof.Machine.execWbHeldLoRead src phase s
  | .bytesOutLoRead src => Sys2Proof.Machine.execBytesOutLoRead src s
  | .extest balls data => Sys2Proof.Machine.execExtest balls data s
  | .samplePreload balls data => Sys2Proof.Machine.execSamplePreload balls data s
  | .idcode => Sys2Proof.Machine.execIdcode s
  | .clamp => Sys2Proof.Machine.execClamp s
  | .regRead addr phase => Sys2Proof.Machine.execRegRead addr phase s
  | .auth sig => Sys2Proof.Machine.execAuth sig s
  | .memAccess write dpa keyid data rows first second phase => Sys2Proof.Machine.execMemAccess write dpa keyid data rows first second phase s
  | .rmaSeal key sig => Sys2Proof.Machine.execRmaSeal key sig s
  | .vendorTestMode code => Sys2Proof.Machine.execVendorTestMode code s
  | .bypass => Sys2Proof.Machine.execBypass s
  | .trstNAssert => Sys2Proof.Machine.execTrstNAssert s
  | .endSession src w => Sys2Proof.Machine.execEndSession src w s
  | .l2Lock src w => Sys2Proof.Machine.execL2Lock src w s
  | .softReset page src w => Sys2Proof.Machine.execSoftReset page src w s
  | .commit page src w => Sys2Proof.Machine.execCommit page src w s
  | .intForce page src w => Sys2Proof.Machine.execIntForce page src w s
  | .lock page src w => Sys2Proof.Machine.execLock page src w s
  | .registerWrite src addr w out => Sys2Proof.Machine.execRegisterWrite src addr w out s
  | .entdaa assigned => Sys2Proof.Machine.execEntdaa assigned s
  | .setdasa static assigned => Sys2Proof.Machine.execSetdasa static assigned s
  | .rstdaa => Sys2Proof.Machine.execRstdaa s
  | .getpid addr => Sys2Proof.Machine.execGetpid addr s
  | .getbcr addr => Sys2Proof.Machine.execGetbcr addr s
  | .getdcr addr => Sys2Proof.Machine.execGetdcr addr s
  | .getstatus addr => Sys2Proof.Machine.execGetstatus addr s
  | .enec target bits => Sys2Proof.Machine.execEnec target bits s
  | .disec target bits => Sys2Proof.Machine.execDisec target bits s
  | .i3cWrite target page offset words out => Sys2Proof.Machine.execI3cWrite target page offset words out s
  | .i3cRead target page offset count => Sys2Proof.Machine.execI3cRead target page offset count s
  | .porAssert => Sys2Proof.Machine.execPorAssert s
  | .offHoldExpiry => Sys2Proof.Machine.execOffHoldExpiry s
  | .softResetEnd page => Sys2Proof.Machine.execSoftResetEnd page s
  | .cartRstNRelease slot phase => Sys2Proof.Machine.execCartRstNRelease slot phase s
  | .referenceClockStop => Sys2Proof.Machine.execReferenceClockStop s
  | .referenceClockRestart => Sys2Proof.Machine.execReferenceClockRestart s
  | .badCrcFrame slot sequenced phase => Sys2Proof.Machine.execBadCrcFrame slot sequenced phase s
  | .deviceOnlyTypeFrame slot seq phase => Sys2Proof.Machine.execDeviceOnlyTypeFrame slot seq phase s
  | .unusedTypeFrame slot phase => Sys2Proof.Machine.execUnusedTypeFrame slot phase s
  | .cartFrameBoundary slot phase => Sys2Proof.Machine.execCartFrameBoundary slot phase s

end Sys2Proof.Machine
end

