-- ==== Sys2Proof/WellFormed.lean ====
section
/-! DEFINITION. Which commands are well formed: every operand lies in the range that the spec gives its field, its bus or its part. An event that names something outside its range reaches nothing. -/

namespace Sys2Proof

open Sys2Proof.Machine

/-- A list of bytes. -/
def allBytes (l : List Nat) : Bool := l.all (fun b => decide (b < 256))

/-- What a sense meets lies in the 16 sectors and 20 positions of a segment (R125, R126). -/
def Machine.Sensed.wf (x : Sensed) : Bool :=
  x.errs.all (fun e => decide (e.sector < 16) && decide (e.pos < 20)) && x.parity.all (fun e => decide (e.1 < 16) && decide (e.2 < 20))

/-- Symbols of a DRAM line's codeword, of which there are 72 (R383). -/
def allSymbols (l : List SymErr) : Bool := l.all (fun e => decide (e.pos < 72))

/-- An array error names a cache of R328. -/
def Machine.ArrErr.wf (e : ArrErr) : Bool := decide (e.cache < 15)

/-- What a read of the working area meets names symbols of a codeword. -/
def Machine.MemErr.wf (e : MemErr) : Bool := allSymbols e.first && allSymbols e.again

/-- A line asked for lies in its space, and what it meets is well formed. -/
def Machine.LineRead.wf (r : LineRead) : Bool := decide (r.addr < 2 ^ 42) && r.errs.all ArrErr.wf && r.mem.all MemErr.wf

/-- What a start-up step meets names dies, channels, bytes of PNV pages, and senses that exist. -/
def Machine.StepOut.wf (o : StepOut) : Bool :=
  o.lost.all (fun e => decide (e.1 < 2048)) && o.dies.all (fun d => decide (d.die < 40)) && o.channels.all (fun e => decide (e.1 < 4)) &&
    o.verify.all (fun e => decide (e.1 < 2 ^ 30) && e.2.1.wf && e.2.2.wf) && o.probes.all (fun e => decide (e.1.1 < 2) && decide (e.1.2.1 < 16) && decide (e.1.2.2 < 16) && e.2.wf)

/-- The command is well formed: phase within the bell (R9), gangs, dies, stacks and banks that exist (R3, R85, R746), addresses within their spaces (R6, R422, R845, R866), bytes as bytes. -/
def Instr.wf (i : Instr) : Bool :=
  match i with
  | .porRelease straps => decide (straps < 256)
  | .pwrReqOn => true
  | .pwrReqOff => true
  | .vinQualified => true
  | .vinCollapse => true
  | .powerGoodQualified _ _ _ => true
  | .powerGoodDrop _ => true
  | .seqStageTimeout _ => true
  | .railFall _ => true
  | .railFallTimeout _ => true
  | .offDelayExpiry channel => decide (channel < 8)
  | .faultClear _ _ => true
  | .housekeepingRound samples temps => samples.all (fun e => decide (e.channel < 128)) && temps.all (fun e => decide (e.die < 40))
  | .loadTestEnd => true
  | .vholdRetest => true
  | .standby _ _ => true
  | .resume _ _ out => out.wf
  | .ventTurnStart gang pair => decide (gang < 2) && decide (pair < 10)
  | .ventTurnEnd gang => decide (gang < 2)
  | .ventPnvPageDone => true
  | .bellBoundary words => words.all (fun e => decide (e.bank < 24))
  | .flockBoundary _ => true
  | .epochBoundary => true
  | .pllLockLoss => true
  | .bellLoRead _ phase => decide (phase < 4096)
  | .cmpLoWrite _ _ => true
  | .frameSyncEdge _ phase => decide (phase < 4096)
  | .frameSyncAccept phase => decide (phase < 4096)
  | .programTurnStart gang phase => decide (gang < 2) && decide (phase < 4096)
  | .programTurnEnd gang _ phase => decide (gang < 2) && decide (phase < 4096)
  | .idleTurnEnd gang phase => decide (gang < 2) && decide (phase < 4096)
  | .rotationEnd gang phase => decide (gang < 2) && decide (phase < 4096)
  | .memRd hpa tag errs phase => decide (hpa < 2 ^ 52) && decide (tag < 2 ^ 16) && errs.all ArrErr.wf && decide (phase < 4096)
  | .memRdData hpa tag errs phase => decide (hpa < 2 ^ 52) && decide (tag < 2 ^ 16) && errs.all ArrErr.wf && decide (phase < 4096)
  | .memInv hpa tag phase => decide (hpa < 2 ^ 52) && decide (tag < 2 ^ 16) && decide (phase < 4096)
  | .memInvNt hpa tag phase => decide (hpa < 2 ^ 52) && decide (tag < 2 ^ 16) && decide (phase < 4096)
  | .memSpecRd hpa phase => decide (hpa < 2 ^ 52) && decide (phase < 4096)
  | .memWr hpa tag _ _ phase => decide (hpa < 2 ^ 52) && decide (tag < 2 ^ 16) && decide (phase < 4096)
  | .memWrPtl hpa tag _ _ _ phase => decide (hpa < 2 ^ 52) && decide (tag < 2 ^ 16) && decide (phase < 4096)
  | .m2sUnsupportedOpcode _ hpa tag phase => decide (hpa < 2 ^ 52) && decide (tag < 2 ^ 16) && decide (phase < 4096)
  | .lookupIssue _ _ phase => decide (phase < 4096)
  | .lookupComplete _ sc map phase => allSymbols sc && allSymbols map && decide (phase < 4096)
  | .lookupRetry _ sc map scOther mapOther _ phase => allSymbols sc && allSymbols map && allSymbols scOther && allSymbols mapOther && decide (phase < 4096)
  | .foregroundSenseStart _ phase => decide (phase < 4096)
  | .senseComplete _ sensed phase => sensed.wf && decide (phase < 4096)
  | .retrySenseStart _ phase => decide (phase < 4096)
  | .rereadStart _ phase => decide (phase < 4096)
  | .backgroundSenseStart gang phase => decide (gang < 2) && decide (phase < 4096)
  | .backgroundSecondAttempt _ sensed phase => sensed.wf && decide (phase < 4096)
  | .confirmationSense _ _ phase => decide (phase < 4096)
  | .catchUpSense gang _ sensed phase => decide (gang < 2) && sensed.wf && decide (phase < 4096)
  | .shepherdVisit _ sensed phase => sensed.wf && decide (phase < 4096)
  | .forceFail stack _ _ => decide (stack < 5)
  | .diePowerOff die => decide (die.what < 40) && decide (die.phase < 4096)
  | .parityRebuild ended => ended.what.sensed.wf && decide (ended.phase < 4096)
  | .segmentClose lseg group => decide (lseg < 2 ^ 30) && decide (group.phase < 4096)
  | .oldSegmentRead _ sensed phase => sensed.wf && decide (phase < 4096)
  | .segmentBuild _ => true
  | .genReservationDurable region => decide (region < 32)
  | .rowBatchComplete gang => decide (gang.what < 2) && decide (gang.phase < 4096)
  | .rewrite _ sensed phase => sensed.wf && decide (phase < 4096)
  | .foldSourceRead _ sensed phase => sensed.wf && decide (phase < 4096)
  | .foldVerify _ sensed phase => sensed.wf && decide (phase < 4096)
  | .foldSwitch gang => decide (gang < 2)
  | .paddockVerify gang _ sensed phase => decide (gang < 2) && sensed.wf && decide (phase < 4096)
  | .journalWrite => true
  | .groupCommit _ _ => true
  | .groupAbort _ _ => true
  | .groupCommitted slot => decide (slot < 16)
  | .groupApply slot => decide (slot < 16)
  | .groupStatusRead _ slot => decide (slot < 16)
  | .trimGo _ _ => true
  | .trimCacheWalkEnd => true
  | .trimMapUpdate => true
  | .query _ _ => true
  | .queryResultReady => true
  | .driftEvaluation phase => decide (phase < 4096)
  | .epochAdvance _ _ => true
  | .inspectSel _ _ => true
  | .inspectReady phase => decide (phase < 4096)
  | .maintClean _ _ => true
  | .maintInvalidate _ _ => true
  | .maintCleanInvalidate _ _ => true
  | .maintDone => true
  | .wayTransitionEnd way => decide (way < 16)
  | .rdShared stop read phase => decide (stop < 32) && read.wf && decide (phase < 4096)
  | .rdOwn stop read _ _ phase => decide (stop < 32) && read.wf && decide (phase < 4096)
  | .rdStream stop keyid read phase => decide (stop < 32) && decide (keyid < 64) && read.wf && decide (phase < 4096)
  | .wb _ phase => decide (phase < 4096)
  | .stashWrite _ _ _ keyid addr _ _ phase => decide (keyid < 64) && decide (addr < 2 ^ 42) && decide (phase < 4096)
  | .stashFill _ _ _ keyid addr _ phase => decide (keyid < 64) && decide (addr < 2 ^ 42) && decide (phase < 4096)
  | .snpShare _ stop _ phase => decide (stop < 32) && decide (phase < 4096)
  | .snpOwn _ stop _ phase => decide (stop < 32) && decide (phase < 4096)
  | .snpInv _ stop _ phase => decide (stop < 32) && decide (phase < 4096)
  | .snpClean _ stop _ phase => decide (stop < 32) && decide (phase < 4096)
  | .snpClinv _ stop _ phase => decide (stop < 32) && decide (phase < 4096)
  | .snoopReturn _ phase => decide (phase < 4096)
  | .snpDone _ phase => decide (phase < 4096)
  | .comp _ phase => decide (phase < 4096)
  | .retry _ phase => decide (phase < 4096)
  | .credit _ phase => decide (phase < 4096)
  | .wbDone _ phase => decide (phase < 4096)
  | .dat _ phase => decide (phase < 4096)
  | .wbDataWrite stop addr phase => decide (stop < 32) && decide (addr < 2 ^ 42) && decide (phase < 4096)
  | .deadAgentTimeout _ stop addr phase => decide (stop < 32) && decide (addr < 2 ^ 42) && decide (phase < 4096)
  | .refresh sub phase => decide (sub < 2) && decide (phase < 4096)
  | .dramRetrain channel sub failed => decide (channel < 4) && decide (sub < 2) && decide (failed.phase < 4096)
  | .updateBufferWrite _ sub phase => decide (sub < 2) && decide (phase < 4096)
  | .neighbourRefresh phase => decide (phase < 4096)
  | .linkUp rate width _ phase => decide (rate < 7) && decide (width < 17) && decide (phase < 4096)
  | .linkDown phase => decide (phase < 4096)
  | .hotReset phase => decide (phase < 4096)
  | .perstNAssert phase => decide (phase < 4096)
  | .perstNRelease _ out phase => out.wf && decide (phase < 4096)
  | .recoveryEntry phase => decide (phase < 4096)
  | .recoveryExit phase => decide (phase < 4096)
  | .linkTrainingRetry => true
  | .linkRetrain _ _ => true
  | .hdmDecoderCommit _ _ _ _ phase => decide (phase < 4096)
  | .gpfPhase1 phase => decide (phase < 4096)
  | .gpfPhase2 phase => decide (phase < 4096)
  | .gpfPhase2Timeout => true
  | .s2mCreditReturn _ _ phase => decide (phase < 4096)
  | .busMasterEnableChange _ _ _ _ phase => decide (phase < 4096)
  | .d3hot phase => decide (phase < 4096)
  | .malformedTlp phase => decide (phase < 4096)
  | .poisonedBarWrite phase => decide (phase < 4096)
  | .barMisalignedAccess _ phase => decide (phase < 4096)
  | .unsupportedRequest phase => decide (phase < 4096)
  | .creditOverrun phase => decide (phase < 4096)
  | .type1Vdm phase => decide (phase < 4096)
  | .ideIntegrityFailure phase => decide (phase < 4096)
  | .ideKm _ _ _ phase => decide (phase < 4096)
  | .cxlIdeKm _ _ _ phase => decide (phase < 4096)
  | .doeDiscovery _ _ phase => decide (phase < 4096)
  | .cdatTableAccess _ _ phase => decide (phase < 4096)
  | .getVersion _ phase => decide (phase < 4096)
  | .getCapabilities _ phase => decide (phase < 4096)
  | .negotiateAlgorithms _ _ phase => decide (phase < 4096)
  | .getDigests _ phase => decide (phase < 4096)
  | .getCertificate _ _ _ _ phase => decide (phase < 4096)
  | .spdmChallenge _ _ phase => decide (phase < 4096)
  | .getMeasurements _ _ _ phase => decide (phase < 4096)
  | .keyExchange _ _ phase => decide (phase < 4096)
  | .finish _ _ _ phase => decide (phase < 4096)
  | .spdmEndSession _ _ phase => decide (phase < 4096)
  | .keyUpdate _ _ _ phase => decide (phase < 4096)
  | .heartbeat _ _ phase => decide (phase < 4096)
  | .identify _ phase => decide (phase < 4096)
  | .backgroundOperationStatus _ phase => decide (phase < 4096)
  | .getResponseMessageLimit _ phase => decide (phase < 4096)
  | .setResponseMessageLimit _ _ phase => decide (phase < 4096)
  | .getEventRecords log _ phase => decide (log < 4) && decide (phase < 4096)
  | .clearEventRecords log _ _ _ phase => decide (log < 4) && decide (phase < 4096)
  | .getEventInterruptPolicy _ phase => decide (phase < 4096)
  | .setEventInterruptPolicy _ _ phase => decide (phase < 4096)
  | .getFwInfo _ phase => decide (phase < 4096)
  | .transferFw _ _ _ data _ phase => allBytes data && decide (phase < 4096)
  | .activateFw _ _ _ phase => decide (phase < 4096)
  | .getTimestamp _ phase => decide (phase < 4096)
  | .setTimestamp _ _ phase => decide (phase < 4096)
  | .getSupportedLogs _ phase => decide (phase < 4096)
  | .getLog log _ _ _ phase => decide (log < 4) && decide (phase < 4096)
  | .identifyMemoryDevice _ phase => decide (phase < 4096)
  | .getPartitionInfo _ phase => decide (phase < 4096)
  | .getHealthInfo _ phase => decide (phase < 4096)
  | .getAlertConfiguration _ phase => decide (phase < 4096)
  | .setAlertConfiguration _ _ phase => decide (phase < 4096)
  | .getShutdownState _ phase => decide (phase < 4096)
  | .setShutdownState _ _ phase => decide (phase < 4096)
  | .getPoisonList dpa _ _ phase => decide (dpa < 2 ^ 42) && decide (phase < 4096)
  | .unsupportedMailboxCommand _ _ phase => decide (phase < 4096)
  | .hostReadCompletion tag _ bytes phase => decide (tag < 2 ^ 16) && allBytes bytes && decide (phase < 4096)
  | .penPush addr bytes phase => decide (addr < 0x40000) && allBytes bytes && decide (phase < 4096)
  | .slotStageTimeout pen _ => decide (pen < 64)
  | .penFlush pen _ _ => decide (pen < 64)
  | .streamRead phase => decide (phase < 4096)
  | .streamWrite phase => decide (phase < 4096)
  | .loadDict phase => decide (phase < 4096)
  | .commitGroup phase => decide (phase < 4096)
  | .abortGroup phase => decide (phase < 4096)
  | .admissionDecision phase => decide (phase < 4096)
  | .streamGroupAction _ phase => decide (phase < 4096)
  | .streamMediaRead _ seg phase => decide (seg < 2 ^ 30) && decide (phase < 4096)
  | .laneDecodeStart _ phase => decide (phase < 4096)
  | .laneDecodeEnd _ phase => decide (phase < 4096)
  | .dictLoadFinish _ phase => decide (phase < 4096)
  | .streamRequestEnd _ phase => decide (phase < 4096)
  | .install _ _ => true
  | .rekey _ _ => true
  | .remove _ _ => true
  | .keyOpComplete => true
  | .reencryptionPassEnd region => decide (region < 32)
  | .tamperMesh => true
  | .tamperNLow input => decide (input < 4)
  | .coreSupplyFault => true
  | .clockFault => true
  | .erupt _ _ => true
  | .zeroiseEnd => true
  | .newChallenge _ _ => true
  | .verify _ _ => true
  | .cartInsert slot phase => decide (slot < 2) && decide (phase < 4096)
  | .cartStepTimeout slot phase => decide (slot < 2) && decide (phase < 4096)
  | .laneTrainingEnd slot lanes phase => decide (slot < 2) && decide (lanes < 5) && decide (phase < 4096)
  | .tsFrame slot phase => decide (slot < 2) && decide (phase < 4096)
  | .idleFrame slot phase => decide (slot < 2) && decide (phase < 4096)
  | .linkFrame slot ack _ _ phase => decide (slot < 2) && decide (ack < 256) && decide (phase < 4096)
  | .rmeta slot seq _ phase => decide (slot < 2) && decide (seq < 256) && decide (phase < 4096)
  | .rdata slot seq _ phase => decide (slot < 2) && decide (seq < 256) && decide (phase < 4096)
  | .rsp slot seq _ phase => decide (slot < 2) && decide (seq < 256) && decide (phase < 4096)
  | .rerr slot seq _ phase => decide (slot < 2) && decide (seq < 256) && decide (phase < 4096)
  | .replayTimer slot phase => decide (slot < 2) && decide (phase < 4096)
  | .cartLinkLoss slot phase => decide (slot < 2) && decide (phase < 4096)
  | .cartCommandTimeout slot tag phase => decide (slot < 2) && decide (tag < 2 ^ 16) && decide (phase < 4096)
  | .cartAnswerTimeout slot tag phase => decide (slot < 2) && decide (tag < 2 ^ 16) && decide (phase < 4096)
  | .cartCompletionDeadline slot tag phase => decide (slot < 2) && decide (tag < 2 ^ 16) && decide (phase < 4096)
  | .cartReadHandoff _ phase => decide (phase < 4096)
  | .cartRemoval slot phase => decide (slot < 2) && decide (phase < 4096)
  | .cartPgLow slot => decide (slot < 2)
  | .eject slot _ _ => decide (slot < 2)
  | .remount slot _ _ => decide (slot < 2)
  | .copyGo slot _ _ => decide (slot < 2)
  | .saveGo slot _ _ => decide (slot < 2)
  | .saveWriteTimeout slot phase => decide (slot < 2) && decide (phase < 4096)
  | .startUpStepEnd _ out => out.wf
  | .bankWakeEnd bank => decide (bank < 24)
  | .marchDestructive _ _ => true
  | .marchPreserving _ _ => true
  | .marchPassEnd _ => true
  | .pnvOperationEnd _ phase => decide (phase < 4096)
  | .reportIntake phase => decide (phase < 4096)
  | .recordStep phase => decide (phase < 4096)
  | .tallyFlush _ _ => true
  | .flushStart => true
  | .flushEnd => true
  | .faultServiceNotification => true
  | .watchdogExpiry core => decide (core < 8)
  | .readSel _ _ => true
  | .readSelReady => true
  | .clear _ _ => true
  | .windowEnd => true
  | .pvalLoRead _ counter phase => decide (counter < 64) && decide (phase < 4096)
  | .fixLoRead _ counter => decide (counter < 128)
  | .wbHeldLoRead _ phase => decide (phase < 4096)
  | .bytesOutLoRead _ => true
  | .extest _ _ => true
  | .samplePreload _ _ => true
  | .idcode => true
  | .clamp => true
  | .regRead addr phase => decide (addr < 0x40000) && decide (phase < 4096)
  | .auth sig => allBytes sig
  | .memAccess _ dpa keyid _ _ first second phase => decide (dpa < 2 ^ 42) && decide (keyid < 64) && first.wf && second.wf && decide (phase < 4096)
  | .rmaSeal key sig => allBytes key && allBytes sig
  | .vendorTestMode _ => true
  | .bypass => true
  | .trstNAssert => true
  | .endSession _ _ => true
  | .l2Lock _ _ => true
  | .softReset page _ _ => decide (page < 64)
  | .commit page _ _ => decide (page < 64)
  | .intForce page _ _ => decide (page < 64)
  | .lock page _ _ => decide (page < 64)
  | .registerWrite _ addr _ out => decide (addr < 0x40000) && out.wf
  | .entdaa assigned => decide (assigned < 128)
  | .setdasa static assigned => decide (static < 128) && decide (assigned < 128)
  | .rstdaa => true
  | .getpid addr => decide (addr < 128)
  | .getbcr addr => decide (addr < 128)
  | .getdcr addr => decide (addr < 128)
  | .getstatus addr => decide (addr < 128)
  | .enec _ _ => true
  | .disec _ _ => true
  | .i3cWrite target page _ _ out => decide (target < 128) && decide (page < 64) && out.wf
  | .i3cRead target page _ _ => decide (target < 128) && decide (page < 64)
  | .porAssert => true
  | .offHoldExpiry => true
  | .softResetEnd page => decide (page < 64)
  | .cartRstNRelease slot phase => decide (slot < 2) && decide (phase < 4096)
  | .referenceClockStop => true
  | .referenceClockRestart => true
  | .badCrcFrame slot _ phase => decide (slot < 2) && decide (phase < 4096)
  | .deviceOnlyTypeFrame slot seq phase => decide (slot < 2) && decide (seq < 256) && decide (phase < 4096)
  | .unusedTypeFrame slot phase => decide (slot < 2) && decide (phase < 4096)
  | .cartFrameBoundary slot phase => decide (slot < 2) && decide (phase < 4096)

/-- The command is well formed, as a proposition. -/
abbrev WellFormed (i : Instr) : Prop := i.wf = true

end Sys2Proof
end

