-- ==== Sys2Proof/Safety.lean ====
section
/-! DEFINITION. What counts as a safe run of the block, in the terms that the statements use: which parts of the state a command may change, and the invariant that every step keeps. -/

namespace Sys2Proof

open Sys2Proof.Machine

/-- The kinds of reach of a command: which parts of the state it may change beside the phase of the time base (R24); a register write may also be a COMMIT that waits for the next flock boundary (R10). -/
inductive Reach where
  /-- Reads and queries: the device answers; beside the answer only interrupt summaries, read latches and drawn free values change. -/
  | answers
  /-- The mailbox, the DOE responder, HDM and flush: registers, link, mailbox and PNV content. -/
  | hostFace
  /-- The Deleper port, the I3C target, FRAME_SYNC and counter reads. -/
  | ports
  /-- Link events, violations, packets into the admission unit. -/
  | link
  /-- Frames and timers of the cartridge slots, pen pushes. -/
  | cart
  /-- The parameter NVM and what waits for it. -/
  | memories
  /-- Starts of foreground senses. -/
  | senses
  /-- The coherence ring, cache maintenance and the ends of page resets. -/
  | ring
  /-- Completions of translation, keys, march and drift evaluation. -/
  | upkeep
  /-- Rails, power-goods and the sequencer. -/
  | supply
  /-- Lookups, senses and the cached DRAM. -/
  | reads
  /-- Link resets and media reads of the streams. -/
  | resets
  /-- Rotas, folds, background work and the wakes of banks. -/
  | media
  /-- Host memory requests, decodes, mounts, Eruption. -/
  | service
  /-- Boundaries of bells, flocks and epochs, housekeeping, records, the Vent and start-up steps. -/
  | wide
  /-- Register writes of every source. -/
  | writes
  /-- What can end or begin a power cycle. -/
  | starts
  /-- The end of a program turn, which alone changes the medium. -/
  | program
deriving DecidableEq, Repr

/-- The reach of every command. -/
def Instr.reach (c : Instr) : Reach :=
  match c with
  | .porRelease .. => .supply
  | .pwrReqOn => .starts
  | .pwrReqOff .. => .wide
  | .vinQualified => .starts
  | .vinCollapse .. => .wide
  | .powerGoodQualified .. => .supply
  | .powerGoodDrop .. => .supply
  | .seqStageTimeout .. => .supply
  | .railFall .. => .supply
  | .railFallTimeout .. => .supply
  | .offDelayExpiry .. => .supply
  | .faultClear .. => .writes
  | .housekeepingRound .. => .wide
  | .loadTestEnd => .wide
  | .vholdRetest => .supply
  | .standby .. => .writes
  | .resume .. => .writes
  | .ventTurnStart .. => .media
  | .ventTurnEnd .. => .wide
  | .ventPnvPageDone => .wide
  | .bellBoundary .. => .wide
  | .flockBoundary .. => .wide
  | .epochBoundary => .wide
  | .pllLockLoss => .link
  | .bellLoRead .. => .answers
  | .cmpLoWrite .. => .writes
  | .frameSyncEdge .. => .ports
  | .frameSyncAccept .. => .ports
  | .programTurnStart .. => .media
  | .programTurnEnd .. => .program
  | .idleTurnEnd .. => .media
  | .rotationEnd .. => .media
  | .memRd .. => .service
  | .memRdData .. => .service
  | .memInv .. => .link
  | .memInvNt .. => .link
  | .memSpecRd .. => .link
  | .memWr .. => .service
  | .memWrPtl .. => .service
  | .m2sUnsupportedOpcode .. => .reads
  | .lookupIssue .. => .reads
  | .lookupComplete .. => .reads
  | .lookupRetry .. => .reads
  | .foregroundSenseStart .. => .senses
  | .senseComplete .. => .service
  | .retrySenseStart .. => .senses
  | .rereadStart .. => .senses
  | .backgroundSenseStart .. => .media
  | .backgroundSecondAttempt .. => .service
  | .confirmationSense .. => .media
  | .catchUpSense .. => .media
  | .shepherdVisit .. => .service
  | .forceFail .. => .writes
  | .diePowerOff .. => .supply
  | .parityRebuild .. => .service
  | .segmentClose .. => .upkeep
  | .oldSegmentRead .. => .service
  | .segmentBuild .. => .media
  | .genReservationDurable .. => .memories
  | .rowBatchComplete .. => .media
  | .rewrite .. => .service
  | .foldSourceRead .. => .service
  | .foldVerify .. => .service
  | .foldSwitch .. => .media
  | .paddockVerify .. => .service
  | .journalWrite => .media
  | .groupCommit .. => .writes
  | .groupAbort .. => .writes
  | .groupCommitted .. => .upkeep
  | .groupApply .. => .media
  | .groupStatusRead .. => .upkeep
  | .trimGo .. => .writes
  | .trimCacheWalkEnd => .upkeep
  | .trimMapUpdate => .media
  | .query .. => .writes
  | .queryResultReady => .upkeep
  | .driftEvaluation .. => .upkeep
  | .epochAdvance .. => .writes
  | .inspectSel .. => .writes
  | .inspectReady .. => .upkeep
  | .maintClean .. => .writes
  | .maintInvalidate .. => .writes
  | .maintCleanInvalidate .. => .writes
  | .maintDone .. => .ring
  | .wayTransitionEnd .. => .ring
  | .rdShared .. => .ring
  | .rdOwn .. => .ring
  | .rdStream .. => .ring
  | .wb .. => .ring
  | .stashWrite .. => .ring
  | .stashFill .. => .ring
  | .snpShare .. => .ring
  | .snpOwn .. => .ring
  | .snpInv .. => .ring
  | .snpClean .. => .ring
  | .snpClinv .. => .ring
  | .snoopReturn .. => .ring
  | .snpDone .. => .ring
  | .comp .. => .ring
  | .retry .. => .ring
  | .credit .. => .ring
  | .wbDone .. => .ring
  | .dat .. => .ring
  | .wbDataWrite .. => .ring
  | .deadAgentTimeout .. => .ring
  | .refresh .. => .answers
  | .dramRetrain .. => .reads
  | .updateBufferWrite .. => .reads
  | .neighbourRefresh .. => .reads
  | .linkUp .. => .link
  | .linkDown .. => .resets
  | .hotReset .. => .resets
  | .perstNAssert .. => .resets
  | .perstNRelease .. => .wide
  | .recoveryEntry .. => .link
  | .recoveryExit .. => .link
  | .linkTrainingRetry => .answers
  | .linkRetrain .. => .writes
  | .hdmDecoderCommit .. => .hostFace
  | .gpfPhase1 .. => .hostFace
  | .gpfPhase2 .. => .hostFace
  | .gpfPhase2Timeout => .link
  | .s2mCreditReturn .. => .hostFace
  | .busMasterEnableChange .. => .link
  | .d3hot .. => .link
  | .malformedTlp .. => .link
  | .poisonedBarWrite .. => .link
  | .barMisalignedAccess .. => .link
  | .unsupportedRequest .. => .link
  | .creditOverrun .. => .link
  | .type1Vdm .. => .answers
  | .ideIntegrityFailure .. => .service
  | .ideKm .. => .hostFace
  | .cxlIdeKm .. => .hostFace
  | .doeDiscovery .. => .answers
  | .cdatTableAccess .. => .answers
  | .getVersion .. => .hostFace
  | .getCapabilities .. => .hostFace
  | .negotiateAlgorithms .. => .hostFace
  | .getDigests .. => .answers
  | .getCertificate .. => .answers
  | .spdmChallenge .. => .answers
  | .getMeasurements .. => .answers
  | .keyExchange .. => .hostFace
  | .finish .. => .hostFace
  | .spdmEndSession .. => .hostFace
  | .keyUpdate .. => .answers
  | .heartbeat .. => .answers
  | .identify .. => .answers
  | .backgroundOperationStatus .. => .answers
  | .getResponseMessageLimit .. => .answers
  | .setResponseMessageLimit .. => .hostFace
  | .getEventRecords .. => .answers
  | .clearEventRecords .. => .hostFace
  | .getEventInterruptPolicy .. => .answers
  | .setEventInterruptPolicy .. => .hostFace
  | .getFwInfo .. => .answers
  | .transferFw .. => .hostFace
  | .activateFw .. => .hostFace
  | .getTimestamp .. => .answers
  | .setTimestamp .. => .hostFace
  | .getSupportedLogs .. => .answers
  | .getLog .. => .answers
  | .identifyMemoryDevice .. => .answers
  | .getPartitionInfo .. => .answers
  | .getHealthInfo .. => .answers
  | .getAlertConfiguration .. => .answers
  | .setAlertConfiguration .. => .hostFace
  | .getShutdownState .. => .answers
  | .setShutdownState .. => .hostFace
  | .getPoisonList .. => .answers
  | .unsupportedMailboxCommand .. => .answers
  | .hostReadCompletion .. => .service
  | .penPush .. => .cart
  | .slotStageTimeout .. => .link
  | .penFlush .. => .writes
  | .streamRead .. => .link
  | .streamWrite .. => .link
  | .loadDict .. => .link
  | .commitGroup .. => .link
  | .abortGroup .. => .link
  | .admissionDecision .. => .service
  | .streamGroupAction .. => .media
  | .streamMediaRead .. => .resets
  | .laneDecodeStart .. => .reads
  | .laneDecodeEnd .. => .link
  | .dictLoadFinish .. => .reads
  | .streamRequestEnd .. => .reads
  | .install .. => .writes
  | .rekey .. => .writes
  | .remove .. => .writes
  | .keyOpComplete => .memories
  | .reencryptionPassEnd .. => .memories
  | .tamperMesh => .service
  | .tamperNLow .. => .service
  | .coreSupplyFault => .service
  | .clockFault => .service
  | .erupt .. => .writes
  | .zeroiseEnd => .memories
  | .newChallenge .. => .writes
  | .verify .. => .writes
  | .cartInsert .. => .cart
  | .cartStepTimeout .. => .service
  | .laneTrainingEnd .. => .service
  | .tsFrame .. => .cart
  | .idleFrame .. => .cart
  | .linkFrame .. => .cart
  | .rmeta .. => .service
  | .rdata .. => .service
  | .rsp .. => .service
  | .rerr .. => .service
  | .replayTimer .. => .cart
  | .cartLinkLoss .. => .service
  | .cartCommandTimeout .. => .service
  | .cartAnswerTimeout .. => .service
  | .cartCompletionDeadline .. => .service
  | .cartReadHandoff .. => .reads
  | .cartRemoval .. => .resets
  | .cartPgLow .. => .cart
  | .eject .. => .writes
  | .remount .. => .writes
  | .copyGo .. => .writes
  | .saveGo .. => .writes
  | .saveWriteTimeout .. => .cart
  | .startUpStepEnd .. => .wide
  | .bankWakeEnd .. => .media
  | .marchDestructive .. => .writes
  | .marchPreserving .. => .writes
  | .marchPassEnd .. => .upkeep
  | .pnvOperationEnd .. => .memories
  | .reportIntake .. => .wide
  | .recordStep .. => .wide
  | .tallyFlush .. => .writes
  | .flushStart => .link
  | .flushEnd => .wide
  | .faultServiceNotification => .link
  | .watchdogExpiry .. => .ring
  | .readSel .. => .writes
  | .readSelReady => .hostFace
  | .clear .. => .writes
  | .windowEnd => .ports
  | .pvalLoRead .. => .ports
  | .fixLoRead .. => .answers
  | .wbHeldLoRead .. => .answers
  | .bytesOutLoRead .. => .answers
  | .extest .. => .ports
  | .samplePreload .. => .ports
  | .idcode => .ports
  | .clamp => .ports
  | .regRead .. => .ports
  | .auth .. => .service
  | .memAccess .. => .service
  | .rmaSeal .. => .service
  | .vendorTestMode .. => .service
  | .bypass => .ports
  | .trstNAssert => .ports
  | .endSession .. => .writes
  | .l2Lock .. => .writes
  | .softReset .. => .writes
  | .commit .. => .writes
  | .intForce .. => .writes
  | .lock .. => .writes
  | .registerWrite .. => .writes
  | .entdaa .. => .ports
  | .setdasa .. => .ports
  | .rstdaa => .ports
  | .getpid .. => .answers
  | .getbcr .. => .answers
  | .getdcr .. => .answers
  | .getstatus .. => .answers
  | .enec .. => .answers
  | .disec .. => .answers
  | .i3cWrite .. => .writes
  | .i3cRead .. => .ports
  | .porAssert => .starts
  | .offHoldExpiry => .starts
  | .softResetEnd .. => .ring
  | .cartRstNRelease .. => .cart
  | .referenceClockStop => .supply
  | .referenceClockRestart => .supply
  | .badCrcFrame .. => .cart
  | .deviceOnlyTypeFrame .. => .cart
  | .unusedTypeFrame .. => .service
  | .cartFrameBoundary .. => .cart

/-- `s` with the parts that a command of reach `r` may change taken from `t`. A step keeps to its reach exactly where it answers `r.take s t` for its own next state `t`. -/
def Reach.take (r : Reach) (s t : State) : State :=
  match r with
  | .answers => { s with clk := { s.clk with phase := t.clk.phase }, irq := t.irq, latches := t.latches, drawn := t.drawn, out := t.out }
  | .hostFace => { s with clk := { s.clk with phase := t.clk.phase }, regs := t.regs, irq := t.irq, link := t.link, mbox := t.mbox, pnv := t.pnv, drawn := t.drawn, out := t.out }
  | .ports => { s with clk := { s.clk with phase := t.clk.phase }, regs := t.regs, irq := t.irq, latches := t.latches, bw := t.bw, i3c := t.i3c, dbg := t.dbg, link := t.link, pmc := t.pmc, drawn := t.drawn, out := t.out }
  | .link => { s with clk := { s.clk with phase := t.clk.phase }, regs := t.regs, irq := t.irq, tally := t.tally, link := t.link, strm := t.strm, out := t.out }
  | .cart => { s with clk := { s.clk with phase := t.clk.phase }, regs := t.regs, irq := t.irq, tally := t.tally, zl0 := t.zl0, zl1 := t.zl1, pmc := t.pmc, strm := t.strm, out := t.out }
  | .memories => { s with clk := { s.clk with phase := t.clk.phase }, regs := t.regs, irq := t.irq, tally := t.tally, prot := t.prot, pmc := t.pmc, pnv := t.pnv, nvm := t.nvm, drawn := t.drawn, out := t.out }
  | .senses => { s with clk := { s.clk with phase := t.clk.phase }, regs := t.regs, irq := t.irq, reads := t.reads, pmc := t.pmc, out := t.out }
  | .ring => { s with clk := { s.clk with phase := t.clk.phase }, regs := t.regs, resetting := t.resetting, irq := t.irq, dev := t.dev, tally := t.tally, caches := t.caches, link := t.link, reads := t.reads, pmc := t.pmc, ring := t.ring, pnv := t.pnv, nvm := t.nvm, drawn := t.drawn, out := t.out }
  | .upkeep => { s with clk := { s.clk with phase := t.clk.phase }, regs := t.regs, irq := t.irq, pmc := t.pmc, xlt := t.xlt, tally := t.tally, prot := t.prot, caches := t.caches, drift := t.drift, ring := t.ring, strm := t.strm, pnv := t.pnv, nvm := t.nvm, srm := t.srm, drawn := t.drawn, out := t.out }
  | .supply => { s with clk := { s.clk with phase := t.clk.phase }, regs := t.regs, irq := t.irq, dev := t.dev, pwr := t.pwr, hk := t.hk, tally := t.tally, zl0 := t.zl0, zl1 := t.zl1, pmc := t.pmc, pnv := t.pnv, nvm := t.nvm, out := t.out }
  | .reads => { s with clk := { s.clk with phase := t.clk.phase }, regs := t.regs, irq := t.irq, bw := t.bw, xlt := t.xlt, tally := t.tally, caches := t.caches, dram := t.dram, link := t.link, reads := t.reads, pmc := t.pmc, ring := t.ring, pnv := t.pnv, strm := t.strm, out := t.out }
  | .resets => { s with clk := { s.clk with phase := t.clk.phase }, regs := t.regs, irq := t.irq, xlt := t.xlt, tally := t.tally, prot := t.prot, caches := t.caches, link := t.link, reads := t.reads, zl0 := t.zl0, zl1 := t.zl1, pmc := t.pmc, ring := t.ring, strm := t.strm, mbox := t.mbox, out := t.out }
  | .media => { s with clk := { s.clk with phase := t.clk.phase }, regs := t.regs, irq := t.irq, dev := t.dev, gang0 := t.gang0, gang1 := t.gang1, xlt := t.xlt, tally := t.tally, prot := t.prot, dram := t.dram, link := t.link, reads := t.reads, drift := t.drift, pmc := t.pmc, strm := t.strm, pnv := t.pnv, nvm := t.nvm, srm := t.srm, out := t.out }
  | .service => { s with clk := { s.clk with phase := t.clk.phase }, regs := t.regs, irq := t.irq, dev := t.dev, bw := t.bw, gang0 := t.gang0, gang1 := t.gang1, xlt := t.xlt, tally := t.tally, prot := t.prot, caches := t.caches, dram := t.dram, link := t.link, reads := t.reads, drift := t.drift, zl0 := t.zl0, zl1 := t.zl1, pmc := t.pmc, ring := t.ring, strm := t.strm, mbox := t.mbox, pnv := t.pnv, nvm := t.nvm, srm := t.srm, dbg := t.dbg, drawn := t.drawn, out := t.out }
  | .wide => { s with regs := t.regs, applied := t.applied, commits := t.commits, irq := t.irq, dev := t.dev, pwr := t.pwr, hk := t.hk, clk := t.clk, bw := t.bw, gang0 := t.gang0, gang1 := t.gang1, xlt := t.xlt, tally := t.tally, prot := t.prot, caches := t.caches, dram := t.dram, link := t.link, reads := t.reads, drift := t.drift, zl0 := t.zl0, zl1 := t.zl1, pmc := t.pmc, ring := t.ring, strm := t.strm, mbox := t.mbox, pnv := t.pnv, nvm := t.nvm, srm := t.srm, drawn := t.drawn, out := t.out }
  | .writes => { s with clk := { s.clk with phase := t.clk.phase, late := t.clk.late }, regs := t.regs, applied := t.applied, commits := t.commits, resetting := t.resetting, irq := t.irq, dev := t.dev, pwr := t.pwr, hk := t.hk, bw := t.bw, gang0 := t.gang0, gang1 := t.gang1, xlt := t.xlt, tally := t.tally, prot := t.prot, caches := t.caches, dram := t.dram, link := t.link, reads := t.reads, drift := t.drift, zl0 := t.zl0, zl1 := t.zl1, pmc := t.pmc, ring := t.ring, strm := t.strm, mbox := t.mbox, pnv := t.pnv, nvm := t.nvm, srm := t.srm, dbg := t.dbg, drawn := t.drawn, out := t.out }
  | .starts => { s with regs := t.regs, applied := t.applied, latches := t.latches, commits := t.commits, resetting := t.resetting, irq := t.irq, dev := t.dev, pwr := t.pwr, hk := t.hk, clk := t.clk, bw := t.bw, gang0 := t.gang0, gang1 := t.gang1, xlt := t.xlt, tally := t.tally, prot := t.prot, caches := t.caches, dram := t.dram, link := t.link, reads := t.reads, drift := t.drift, zl0 := t.zl0, zl1 := t.zl1, pmc := t.pmc, ring := t.ring, strm := t.strm, mbox := t.mbox, pnv := t.pnv, nvm := t.nvm, srm := t.srm, dbg := t.dbg, i3c := t.i3c, drawn := t.drawn, out := t.out }
  | .program => { s with clk := { s.clk with phase := t.clk.phase }, regs := t.regs, irq := t.irq, gang0 := t.gang0, gang1 := t.gang1, med := t.med, xlt := t.xlt, tally := t.tally, pmc := t.pmc, out := t.out }

/-- The commands that change no register of any page, no applied value and no waiting commit: reads, queries and answers, and events that only move messages, frames, turns and timers. -/
def Instr.keepsRegisters (c : Instr) : Bool :=
  match c with
  | .porRelease .. => false
  | .pwrReqOn => false
  | .pwrReqOff .. => false
  | .vinQualified => false
  | .vinCollapse .. => false
  | .powerGoodQualified .. => false
  | .powerGoodDrop .. => false
  | .seqStageTimeout .. => false
  | .railFall .. => false
  | .railFallTimeout .. => false
  | .offDelayExpiry .. => false
  | .faultClear .. => false
  | .housekeepingRound .. => false
  | .loadTestEnd => false
  | .vholdRetest => true
  | .standby .. => false
  | .resume .. => false
  | .ventTurnStart .. => true
  | .ventTurnEnd .. => false
  | .ventPnvPageDone => false
  | .bellBoundary .. => false
  | .flockBoundary .. => false
  | .epochBoundary => false
  | .pllLockLoss => false
  | .bellLoRead .. => true
  | .cmpLoWrite .. => false
  | .frameSyncEdge .. => true
  | .frameSyncAccept .. => false
  | .programTurnStart .. => false
  | .programTurnEnd .. => false
  | .idleTurnEnd .. => false
  | .rotationEnd .. => false
  | .memRd .. => false
  | .memRdData .. => false
  | .memInv .. => false
  | .memInvNt .. => false
  | .memSpecRd .. => false
  | .memWr .. => false
  | .memWrPtl .. => false
  | .m2sUnsupportedOpcode .. => false
  | .lookupIssue .. => false
  | .lookupComplete .. => false
  | .lookupRetry .. => false
  | .foregroundSenseStart .. => false
  | .senseComplete .. => false
  | .retrySenseStart .. => false
  | .rereadStart .. => false
  | .backgroundSenseStart .. => false
  | .backgroundSecondAttempt .. => false
  | .confirmationSense .. => false
  | .catchUpSense .. => false
  | .shepherdVisit .. => false
  | .forceFail .. => false
  | .diePowerOff .. => true
  | .parityRebuild .. => false
  | .segmentClose .. => true
  | .oldSegmentRead .. => false
  | .segmentBuild .. => false
  | .genReservationDurable .. => false
  | .rowBatchComplete .. => true
  | .rewrite .. => false
  | .foldSourceRead .. => false
  | .foldVerify .. => false
  | .foldSwitch .. => false
  | .paddockVerify .. => false
  | .journalWrite => true
  | .groupCommit .. => false
  | .groupAbort .. => false
  | .groupCommitted .. => false
  | .groupApply .. => false
  | .groupStatusRead .. => true
  | .trimGo .. => false
  | .trimCacheWalkEnd => true
  | .trimMapUpdate => false
  | .query .. => false
  | .queryResultReady => false
  | .driftEvaluation .. => false
  | .epochAdvance .. => false
  | .inspectSel .. => false
  | .inspectReady .. => false
  | .maintClean .. => false
  | .maintInvalidate .. => false
  | .maintCleanInvalidate .. => false
  | .maintDone .. => false
  | .wayTransitionEnd .. => false
  | .rdShared .. => false
  | .rdOwn .. => false
  | .rdStream .. => false
  | .wb .. => true
  | .stashWrite .. => false
  | .stashFill .. => false
  | .snpShare .. => false
  | .snpOwn .. => false
  | .snpInv .. => false
  | .snpClean .. => false
  | .snpClinv .. => false
  | .snoopReturn .. => false
  | .snpDone .. => false
  | .comp .. => false
  | .retry .. => true
  | .credit .. => true
  | .wbDone .. => true
  | .dat .. => false
  | .wbDataWrite .. => false
  | .deadAgentTimeout .. => false
  | .refresh .. => true
  | .dramRetrain .. => false
  | .updateBufferWrite .. => false
  | .neighbourRefresh .. => false
  | .linkUp .. => false
  | .linkDown .. => false
  | .hotReset .. => false
  | .perstNAssert .. => false
  | .perstNRelease .. => false
  | .recoveryEntry .. => false
  | .recoveryExit .. => false
  | .linkTrainingRetry => true
  | .linkRetrain .. => false
  | .hdmDecoderCommit .. => false
  | .gpfPhase1 .. => false
  | .gpfPhase2 .. => true
  | .gpfPhase2Timeout => false
  | .s2mCreditReturn .. => false
  | .busMasterEnableChange .. => false
  | .d3hot .. => false
  | .malformedTlp .. => false
  | .poisonedBarWrite .. => false
  | .barMisalignedAccess .. => false
  | .unsupportedRequest .. => false
  | .creditOverrun .. => false
  | .type1Vdm .. => true
  | .ideIntegrityFailure .. => false
  | .ideKm .. => false
  | .cxlIdeKm .. => false
  | .doeDiscovery .. => true
  | .cdatTableAccess .. => true
  | .getVersion .. => true
  | .getCapabilities .. => true
  | .negotiateAlgorithms .. => true
  | .getDigests .. => true
  | .getCertificate .. => true
  | .spdmChallenge .. => true
  | .getMeasurements .. => true
  | .keyExchange .. => false
  | .finish .. => false
  | .spdmEndSession .. => false
  | .keyUpdate .. => true
  | .heartbeat .. => true
  | .identify .. => true
  | .backgroundOperationStatus .. => true
  | .getResponseMessageLimit .. => true
  | .setResponseMessageLimit .. => true
  | .getEventRecords .. => true
  | .clearEventRecords .. => true
  | .getEventInterruptPolicy .. => true
  | .setEventInterruptPolicy .. => true
  | .getFwInfo .. => true
  | .transferFw .. => true
  | .activateFw .. => false
  | .getTimestamp .. => true
  | .setTimestamp .. => true
  | .getSupportedLogs .. => true
  | .getLog .. => true
  | .identifyMemoryDevice .. => true
  | .getPartitionInfo .. => true
  | .getHealthInfo .. => true
  | .getAlertConfiguration .. => true
  | .setAlertConfiguration .. => true
  | .getShutdownState .. => true
  | .setShutdownState .. => true
  | .getPoisonList .. => true
  | .unsupportedMailboxCommand .. => true
  | .hostReadCompletion .. => false
  | .penPush .. => false
  | .slotStageTimeout .. => false
  | .penFlush .. => false
  | .streamRead .. => false
  | .streamWrite .. => false
  | .loadDict .. => false
  | .commitGroup .. => false
  | .abortGroup .. => false
  | .admissionDecision .. => false
  | .streamGroupAction .. => false
  | .streamMediaRead .. => false
  | .laneDecodeStart .. => true
  | .laneDecodeEnd .. => false
  | .dictLoadFinish .. => false
  | .streamRequestEnd .. => false
  | .install .. => false
  | .rekey .. => false
  | .remove .. => false
  | .keyOpComplete => false
  | .reencryptionPassEnd .. => false
  | .tamperMesh => false
  | .tamperNLow .. => false
  | .coreSupplyFault => false
  | .clockFault => false
  | .erupt .. => false
  | .zeroiseEnd => false
  | .newChallenge .. => false
  | .verify .. => false
  | .cartInsert .. => false
  | .cartStepTimeout .. => false
  | .laneTrainingEnd .. => false
  | .tsFrame .. => true
  | .idleFrame .. => true
  | .linkFrame .. => false
  | .rmeta .. => false
  | .rdata .. => false
  | .rsp .. => false
  | .rerr .. => false
  | .replayTimer .. => false
  | .cartLinkLoss .. => false
  | .cartCommandTimeout .. => false
  | .cartAnswerTimeout .. => false
  | .cartCompletionDeadline .. => false
  | .cartReadHandoff .. => false
  | .cartRemoval .. => false
  | .cartPgLow .. => false
  | .eject .. => false
  | .remount .. => false
  | .copyGo .. => false
  | .saveGo .. => false
  | .saveWriteTimeout .. => false
  | .startUpStepEnd .. => false
  | .bankWakeEnd .. => true
  | .marchDestructive .. => false
  | .marchPreserving .. => false
  | .marchPassEnd .. => false
  | .pnvOperationEnd .. => false
  | .reportIntake .. => false
  | .recordStep .. => false
  | .tallyFlush .. => false
  | .flushStart => false
  | .flushEnd => false
  | .faultServiceNotification => true
  | .watchdogExpiry .. => false
  | .readSel .. => false
  | .readSelReady => false
  | .clear .. => false
  | .windowEnd => false
  | .pvalLoRead .. => false
  | .fixLoRead .. => true
  | .wbHeldLoRead .. => true
  | .bytesOutLoRead .. => true
  | .extest .. => true
  | .samplePreload .. => true
  | .idcode => true
  | .clamp => true
  | .regRead .. => false
  | .auth .. => false
  | .memAccess .. => false
  | .rmaSeal .. => false
  | .vendorTestMode .. => false
  | .bypass => true
  | .trstNAssert => false
  | .endSession .. => false
  | .l2Lock .. => false
  | .softReset .. => false
  | .commit .. => false
  | .intForce .. => false
  | .lock .. => false
  | .registerWrite .. => false
  | .entdaa .. => true
  | .setdasa .. => true
  | .rstdaa => true
  | .getpid .. => true
  | .getbcr .. => true
  | .getdcr .. => true
  | .getstatus .. => true
  | .enec .. => true
  | .disec .. => true
  | .i3cWrite .. => false
  | .i3cRead .. => false
  | .porAssert => false
  | .offHoldExpiry => false
  | .softResetEnd .. => false
  | .cartRstNRelease .. => false
  | .referenceClockStop => true
  | .referenceClockRestart => true
  | .badCrcFrame .. => true
  | .deviceOnlyTypeFrame .. => false
  | .unusedTypeFrame .. => false
  | .cartFrameBoundary .. => false

/-- The invariant of the block: a phase lies within its bell (R24), and the medium's sparse map is in its canonical form. -/
def Sound (s : State) : Prop :=
  s.clk.phase < 4096 ∧ SMap.wf (fun _ => (0 : Chunk)) s.med = true

end Sys2Proof
end

