-- ==== Sys2Proof/Certificates/Slice0/Obligations.lean ====
section
/-! DEFINITION. The statements about the block, for the provers. Each completion clause says that its command answers a next state for every state and operands that meet its hypotheses, and what that state holds. -/

section

open Sys2Proof Sys2Proof.Machine

/-- For every command and every state: a step with the command at the front of the queue is exec of the command on the state with the rest of the queue; on an empty queue the block idles, which is the model's choice (log entry 4); every command, with every operand and in every state, answers a next state (00_scope.md) -/
def Obligations.StepCarriesOutTheFrontCommand : Prop := (∀ (c : Instr) (s : State) (rest : List Instr), step { s with pending := c :: rest } = exec c { s with pending := rest }) ∧ (∀ s : State, s.pending = [] → step s = .next s) ∧ (∀ (c : Instr) (s : State), ∃ t, exec c s = .next t)

/-- At reset the part is OFF with its rails down, the bell counter and phase are 0, no write credit is withheld, no command waits, no page is committed, nothing is listed in the medium, and the registers read their reset values: LAT_PROFILE 1, THM.LIMITS 0x73695F14, the default rota pattern (R9, R28, R46, R59, R60, R704, R717, R864) -/
def Obligations.ResetLeavesThePartUnpowered : Prop := (State.reset.dev.st = .off ∧ State.reset.pwr.rails = [] ∧ State.reset.clk.bell = 0 ∧ State.reset.clk.phase = 0 ∧
  State.reset.bw.holding = false ∧ State.reset.pending = [] ∧ State.reset.commits = [] ∧ State.reset.med = [] ∧ State.reset.link.up = false ∧
  State.reset.reg Reg.BWT.LAT_PROFILE.word = 1 ∧ State.reset.reg Reg.THM.LIMITS.word = 0x73695F14 ∧
  State.reset.reg Reg.BWT.LAT_STATUS.word = 1 ∧ State.reset.flag Reg.ALM.STATUS.ERUPTED = false)

/-- The phase lies within its bell and the medium is in canonical form at reset (R24, R9) -/
def Obligations.ResetIsSound : Prop := Sound State.reset

/-- The die at position p of stack s belongs to gang p div 4 and has the number 20 g + 4 s + (p − 4 g), so gang 0 is dies 0 to 19 and gang 1 dies 20 to 39, and every die from 0 to 39 has one stack and position (R3) -/
def Obligations.DieNumbersFollowStackAndPosition : Prop := (∀ st p : Nat, st < 5 → p < 8 → dieAt st p = 20 * (p / 4) + 4 * st + (p - 4 * (p / 4)) ∧ dieGang (dieAt st p) = p / 4 ∧ dieAt st p < 40) ∧
  (∀ d : Nat, d < 40 → dieGang d = (if d < 20 then 0 else 1) ∧ ∃ st p, st < 5 ∧ p < 8 ∧ dieAt st p = d)

/-- POR_RELEASE, POR_ASSERT, OFF_HOLD_EXPIRY, VIN_QUALIFIED, PWR_REQ_ON and PWR_REQ_OFF complete: POR release samples the straps and starts the 10 ms hold; POR assertion returns the device state, the power state, the registers, the applied values and the time base to nothing and keeps the medium and what the dies themselves hold; the hold ends; VIN ends stage 1 of SEQ_UP and stage 2 switches VDD_PLL on; PWR_REQ going on outside OFF is noted; PWR_REQ going off in SEQ_UP is kept until the stage in progress ends; and PWR_REQ_ON in OFF begins SEQ_UP with the start kind 1 for the first start since POR and 2 otherwise, the time base at 0, PWR_FAULT clear and VDD_PLL on (R9, R12, R657, R661, R662, R665, R666, R717) -/
def Obligations.SupplyAndRequest : Prop :=
  (∀ (s : State) (straps : Nat), s.dev.por = false → 
    ∃ t, exec (.porRelease straps) s = .next t ∧ t.dev.por = true ∧ t.dev.started = false ∧ t.pwr.offHold = true ∧ t.pwr.vin = true ∧ t.reg Reg.DEV.STRAPS.word = straps % 256) ∧
  (∀ (s : State), 
    ∃ t, exec (.porAssert) s = .next t ∧ t.dev = {} ∧ t.pwr = { refClk := s.pwr.refClk } ∧ t.regs = [] ∧ t.applied = [] ∧ t.clk = {} ∧ t.med = s.med ∧ t.roms = s.roms ∧ t.out = s.out) ∧
  (∀ (s : State), s.dev.st = .off → s.pwr.vinQual = false → 
    ∃ t, exec (.offHoldExpiry) s = .next t ∧ t = { s with pwr := { s.pwr with offHold := false } }) ∧
  (∀ (s : State), s.dev.por = true → s.dev.st = .seqUp → s.fld Reg.PWR.STATUS.STAGE = 1 → s.pwr.offInSeq = false → (PgInput.rail .vddPll) ∉ s.pwr.pg → 
    ∃ t, exec (.vinQualified) s = .next t ∧ t.pwr.vinQual = true ∧ t.fld Reg.PWR.STATUS.STAGE = 2 ∧ Rail.vddPll ∈ t.pwr.rails ∧ t.dev.st = .seqUp) ∧
  (∀ (s : State), s.pwr.req = false → s.dev.st ≠ .off → 
    ∃ t, exec (.pwrReqOn) s = .next t ∧ t = { s with pwr := { s.pwr with req := true } }) ∧
  (∀ (s : State), s.pwr.req = true → s.dev.st = .seqUp → s.outranked 3 = false → 
    ∃ t, exec (.pwrReqOff) s = .next t ∧ t = { s with pwr := { s.pwr with req := false, offInSeq := true } }) ∧
  (∀ (s : State), s.pwr.req = false → s.dev.st = .off → s.dev.por = true → s.pwr.vinQual = true → s.pwr.offHold = false → s.pwr.offInSeq = false → s.pwr.pg = [] → 
    ∃ t, exec (.pwrReqOn) s = .next t ∧ t.dev.st = .seqUp ∧ t.dev.started = true ∧ t.fld Reg.DEV.START.KIND = (if s.dev.started then 2 else 1) ∧ t.fld Reg.PWR.STATUS.STAGE = 2 ∧ t.flag Reg.PWR.STATUS.PWR_FAULT = false ∧ t.clk = {} ∧ Rail.vddPll ∈ t.pwr.rails)

/-- VIN_COLLAPSE in SERVICE leads to VENT with VENT_N low; a qualified power-good is kept; a drop of an external channel in SERVICE outside standby takes it away and offers a FATAL report; a stage after the second that times out fails with its number and cause 1, whatever chatter was counted; RAIL_FALL, RAIL_FALL_TIMEOUT and OFF_DELAY_EXPIRY go on to the next item of SEQ_DOWN, and after the last to OFF with the 10 ms hold (R12, R661, R663, R664, R667, R680) -/
def Obligations.SupplyFailsAndFalls : Prop :=
  (∀ (s : State), s.dev.st = .service → 
    ∃ t, exec (.vinCollapse) s = .next t ∧ t.dev.st = .vent ∧ t.dev.prev = .service ∧ t.pwr.ventN = true ∧ t.pwr.vinQual = false) ∧
  (∀ (s : State) (r : Rail) (us : Nat), r ∈ s.pwr.rails → (PgInput.rail r) ∉ s.pwr.pg → s.dev.st ≠ .seqUp → 
    ∃ t, exec (.powerGoodQualified (.rail r) 0 us) s = .next t ∧ t = { s with pwr := { s.pwr with pg := s.pwr.pg ++ [PgInput.rail r] } }) ∧
  (∀ (s : State) (n : Nat), (PgInput.ext n) ∈ s.pwr.pg → s.dev.st = .service → s.pwr.standby = false → (s.tally.fifoOf 0x30).length < 2 → 
    ∃ t, exec (.powerGoodDrop (.ext n)) s = .next t ∧ t.pwr = { s.pwr with pg := s.pwr.pg.erase (.ext n) } ∧ t.tally.fifoOf 0x30 = s.tally.fifoOf 0x30 ++ [{ sev := 7, cls := 5, code := 0x3040, page := 0x30, inst := 0, p1 := n, p2 := 0, p3 := 0 }]) ∧
  (∀ (s : State) (n chatter : Nat), s.dev.st = .seqUp → s.fld Reg.PWR.STATUS.STAGE = n → 3 ≤ n → s.stageOk n = false → s.pwr.offInSeq = false → 
    ∃ t, exec (.seqStageTimeout chatter) s = .next t ∧ t.pwr.failed = true ∧ t.flag Reg.PWR.STATUS.PWR_FAULT = true ∧ t.fld Reg.PWR.STATUS.FAULT_STAGE = n ∧ t.fld Reg.PWR.STATUS.FAULT_CAUSE = 1) ∧
  (∀ (s : State) (r q : Rail) (l : List DownItem), s.dev.st = .seqDown → s.pwr.down = .rail r :: .rail q :: l → 
    ∃ t, exec (.railFall r) s = .next t ∧ t.pwr.rails = s.pwr.rails.erase q ∧ t.pwr.down = .rail q :: l) ∧
  (∀ (s : State) (r : Rail), s.dev.st = .seqDown → s.pwr.down = [.rail r] → 
    ∃ t, exec (.railFallTimeout r) s = .next t ∧ t.dev.st = .off ∧ t.pwr.offHold = true ∧ t.flag Reg.PWR.INT_STATUS.FALL_TIMEOUT = true) ∧
  (∀ (s : State) (n : Nat) (q : Rail) (l : List DownItem), s.dev.st = .seqDown → s.pwr.down = .ext n :: .rail q :: l → 
    ∃ t, exec (.offDelayExpiry n) s = .next t ∧ t.pwr.rails = s.pwr.rails.erase q ∧ t.pwr.down = .rail q :: l)

/-- A Vent turn starts on the die pair that is due once its data is loaded, and ends after 2 bells, at once where both dies have failed; the end of a Vent turn leaves one turn fewer, and the end of every tenth counts the pages of its rotation; the PNV Vent page becomes durable and its record takes its SEQ; a load test shows 81920 µF mV over the fall of VHOLD and qualifies VHOLD where that reaches the minimum, and otherwise raises TEST_FAIL and leaves VHOLD unqualified; a repeat test starts 2^24 bells after the last; a housekeeping round counts in ROUNDS, and in OFF it keeps a sample of a channel that is not judged there and shows the whole degrees of a die; start-up step 4 goes on to step 5, or to HALT with code 0x0040 where a bank has failed, and step 5 empties the caches and goes on to step 6 (R681, R683, R678, R668, R669, R108, R713, R718, R720) -/
def Obligations.VentStandbyAndHousekeepingSteps : Prop :=
  (∀ (s : State) (g : Nat), s.venting = true → g < s.nGangs → 0 < (s.gang g).ventTurns → s.slcOver g = true → (s.rota g).ventTurn = none → s.clk.phase = 0 → s.ventLoaded g (ventPair (s.gang g).ventTurns) = true → 
    ∃ t, exec (.ventTurnStart g (ventPair (s.gang g).ventTurns)) s = .next t ∧ (t.rota g).ventTurn = some (ventPair (s.gang g).ventTurns) ∧ (t.rota g).kind = .none ∧ (t.rota g).rotating = false ∧ (t.rota g).turnEnd = s.now + (if s.dieFailed (dieNo g (ventPair (s.gang g).ventTurns)) && s.dieFailed (dieNo g (ventPair (s.gang g).ventTurns + 10)) then 0 else 8192) ∧ t.pnv = s.pnv ∧ t.regs = s.regs ∧ t.med = s.med) ∧
  (∀ (s : State) (g n : Nat), s.venting = true → g < s.nGangs → (s.gang g).ventTurns = n + 2 → (n + 2) % 10 ≠ 1 → (s.rota g).ventTurn ≠ none → 
    ∃ t, exec (.ventTurnEnd g) s = .next t ∧ (t.gang g).ventTurns = n + 1 ∧ (t.rota g).ventTurn = none ∧ t.dev.st = s.dev.st ∧ t.pnv = s.pnv ∧ t.regs = s.regs ∧ t.med = s.med) ∧
  (∀ (s : State) (g n : Nat), s.venting = true → g < s.nGangs → (s.gang g).ventTurns = n + 2 → (n + 2) % 10 = 1 → (s.rota g).ventTurn ≠ none → 
    ∃ t, exec (.ventTurnEnd g) s = .next t ∧ (t.gang g).ventTurns = n + 1 ∧ (t.rota g).ventTurn = none ∧ t.dev.st = s.dev.st ∧ t.fld Reg.DRV.PROG_SEGS.PROG_SEGS = (s.fld Reg.DRV.PROG_SEGS.PROG_SEGS + (s.ventRotPages g (s.ventRotNow g)).length) % (Reg.DRV.PROG_SEGS.PROG_SEGS.max + 1) ∧ t.med = s.med) ∧
  (∀ (s : State) (v : VentPnv), s.pnv.ventPend = some v → 
    ∃ t, exec (.ventPnvPageDone) s = .next t ∧ t.pnv.ventPage = some v ∧ t.pnv.ventPend = none ∧ t.tally.seq = (v.rcd.seq + 1) % 2 ^ 32 ∧ t.med = s.med) ∧
  (∀ (s : State) (d : Nat), s.hk.testing = true → s.hk.testStart = (s.vhold : Int) + d → 2 ≤ d → d * s.appFld Reg.VNT.CAP_EST.MIN_UF ≤ 81920 → 
    ∃ t, exec (.loadTestEnd) s = .next t ∧ t.hk.testing = false ∧ t.hk.testBell = s.clk.bell ∧ t.hk.vholdQual = true ∧ t.fld Reg.VNT.CAP_EST.EST_UF = 81920 / d ∧ t.med = s.med) ∧
  (∀ (s : State) (d : Nat), s.hk.testing = true → s.hk.testStart = (s.vhold : Int) + d → 2 ≤ d → 81920 < d * s.appFld Reg.VNT.CAP_EST.MIN_UF → 
    ∃ t, exec (.loadTestEnd) s = .next t ∧ t.hk.testing = false ∧ t.hk.testBell = s.clk.bell ∧ t.hk.vholdQual = false ∧ t.fld Reg.VNT.CAP_EST.EST_UF = 81920 / d ∧ t.flag Reg.VNT.INT_STATUS.TEST_FAIL = true ∧ t.med = s.med) ∧
  (∀ (s : State), s.hk.vholdQual = true → s.hk.testing = false → s.pwr.boost = true → s.hk.testBell + 2 ^ 24 ≤ s.clk.bell → 
    ∃ t, exec (.vholdRetest) s = .next t ∧ t = { s with hk := { s.hk with testing := true, testStart := (s.vhold : Int), vholdGood := 0 } }) ∧
  (∀ (s : State) (x : HkIn), s.dev.por = true → s.dev.st = .off → x.channel < 111 → x.channel ≠ 92 → x.channel ≠ 105 → x.channel ≠ 106 → (x.channel < 80 ∨ 92 < x.channel) → 
    ∃ t, exec (.housekeepingRound [x] []) s = .next t ∧ t = { s.setFld Reg.HKA.ROUNDS.ROUNDS ((s.fld Reg.HKA.ROUNDS.ROUNDS + 1) % (Reg.HKA.ROUNDS.ROUNDS.max + 1)) with hk := { s.hk with ch := SMap.set (fun _ => ({} : HkSample)) s.hk.ch x.channel { code := x.code, value := x.value, outs := 0 } } }) ∧
  (∀ (s : State) (x : DieTemp), s.dev.por = true → s.dev.st = .off → x.die < s.nDies → 
    ∃ t, exec (.housekeepingRound [] [x]) s = .next t ∧ t.regs = ((s.setFld Reg.HKA.ROUNDS.ROUNDS ((s.fld Reg.HKA.ROUNDS.ROUNDS + 1) % (Reg.HKA.ROUNDS.ROUNDS.max + 1))).setFld (Reg.MED.DIE_STATUS.TEMP (dieStack x.die) (diePos x.die)) (ofSigned 8 (x.value / 16))).regs ∧ t.med = s.med ∧ t.pwr = s.pwr) ∧
  (∀ (s : State) (us : Nat) (out : StepOut), s.dev.st = .boot → s.dev.step = 4 → s.dev.rotaPending = false → s.outranked 4 = false → us ≤ s.dev.us + stepBudget s.variant 4 → out.mbist = none → 
    ∃ t, exec (.startUpStepEnd us out) s = .next t ∧ t = (s.setFld (Reg.DEV.STEP_US.US 4) us).onDev (fun d => { d with step := 5, us := us })) ∧
  (∀ (s : State) (us b : Nat) (out : StepOut), s.dev.st = .boot → s.dev.step = 4 → s.dev.rotaPending = false → s.outranked 4 = false → out.mbist = some b → b < 65536 → 
    ∃ t, exec (.startUpStepEnd us out) s = .next t ∧ t.dev.st = .halt ∧ t.fld Reg.DEV.BOOT_FAIL.STEP = 4 ∧ t.fld Reg.DEV.BOOT_FAIL.CAUSE = 2 ∧ t.fld Reg.DEV.BOOT_FAIL.DETAIL = b % (Reg.DEV.BOOT_FAIL.DETAIL.max + 1) ∧ t.fld Reg.DEV.HALT_CODE.CODE = 0x0040 ∧ t.flag Reg.DEV.HALT_CODE.EARLY = true ∧ t.flag Reg.DEV.INT_STATUS.HALTED = true ∧ t.pwr.faultN = true ∧ t.med = s.med) ∧
  (∀ (s : State) (us : Nat) (out : StepOut), s.dev.st = .boot → s.dev.step = 5 → s.dev.rotaPending = false → s.outranked 4 = false → us ≤ s.dev.us + stepBudget s.variant 5 → 
    ∃ t, exec (.startUpStepEnd us out) s = .next t ∧ t.dev.step = 6 ∧ t.dev.us = us ∧ t.dev.st = .boot ∧ t.caches.sets = [] ∧ t.caches.small = [] ∧ t.fld (Reg.DEV.STEP_US.US 5) = us % (2 ^ 32) ∧ t.med = s.med)

/-- REFERENCE_CLOCK_STOP and REFERENCE_CLOCK_RESTART switch the clock; a stop of the reference clock in standby makes the bell count an estimate; PLL_LOCK_LOSS in SERVICE clears PLL_LOCKED and offers a FATAL report; BELL_BOUNDARY with the PLL locked, or in standby, counts the bell, returns the phase to 0, notes the flock and the epoch boundary that are due and leaves the medium; a FLOCK_BOUNDARY that is due is carried out once and leaves the bell counter and the medium; an EPOCH_BOUNDARY that is due raises the device epoch by 1, up to its largest value (R9, R22, R23, R258) -/
def Obligations.ClocksAndBoundaries : Prop :=
  (∀ (s : State), s.pwr.standby = true → 
    ∃ t, exec (.referenceClockStop) s = .next t ∧ t = { s with pwr := { s.pwr with refClk := false, estimated := true } }) ∧
  (∀ (s : State), 
    ∃ t, exec (.referenceClockRestart) s = .next t ∧ t = { s with pwr := { s.pwr with refClk := true } }) ∧
  (∀ (s : State), s.dev.st = .service → (s.tally.fifoOf 0x01).length < 2 → 
    ∃ t, exec (.pllLockLoss) s = .next t ∧ t.flag Reg.BWT.CLK_STATUS.PLL_LOCKED = false ∧ t.tally.fifoOf 0x01 = s.tally.fifoOf 0x01 ++ [{ sev := 7, cls := 5, code := 0x0140, page := 0x01, inst := 0, p1 := s.clk.phase, p2 := 0, p3 := 0 }]) ∧
  (∀ (s : State) (words : List WordErr), s.bellRuns = true → 
    ∃ t, exec (.bellBoundary words) s = .next t ∧ t.clk.bell = s.clk.bell + 1 ∧ t.clk.phase = 0 ∧ t.clk.flockDue = (s.clk.flockDue || decide ((s.clk.bell + 1) % 64 = 0)) ∧ t.clk.epochDue = (s.clk.epochDue || decide ((s.clk.bell + 1) % 2 ^ 20 = 0)) ∧ t.med = s.med) ∧
  (∀ (s : State) (hot : List (Nat × Nat)), s.clk.flockDue = true → 
    ∃ t, exec (.flockBoundary hot) s = .next t ∧ t.clk.flockDue = false ∧ t.clk.bell = s.clk.bell ∧ t.clk.phase = s.clk.phase ∧ t.clk.epochDue = s.clk.epochDue ∧ t.clk.late = [] ∧ t.med = s.med) ∧
  (∀ (s : State), s.clk.epochDue = true → 
    ∃ t, exec (.epochBoundary) s = .next t ∧ t.clk.epochDue = false ∧ t.epoch = min (s.epoch + 1) 0xFFFFFFFF ∧ t.clk.bell = s.clk.bell ∧ t.med = s.med)

/-- BELL_LO_READ answers the low word of the bell counter and latches its high word and the phase for the reader; WB_HELD_LO_READ, BYTES_OUT_LO_READ, FIX_LO_READ and PVAL_LO_READ answer the low word of their counter and latch the high word; FRAME_SYNC_EDGE starts the filter; FRAME_SYNC_ACCEPT of a level that was stable long enough, 64 clk or more after the last accepted edge, stores the clk of the edge, which lies FS_FILTER + 2 clk before the detection, one clk either way, counts it and raises FS_EDGE; WINDOW_END ends a window of the fixed counters (R25, R51, R66, R505, R820, R836, R837, R856) -/
def Obligations.ReadsThatLatch : Prop :=
  (∀ (s : State) (src : Source) (p : Nat), 
    ∃ t, exec (.bellLoRead src p) s = .next t ∧ t.out = s.out ++ [Output.regValue src 0x01040 (BitVec.ofNat 32 s.clk.bell)] ∧ t.regs = s.regs ∧ SMap.get (fun _ => (0 : Word)) t.latches (src.latch * 0x40000 + 0x01044) = BitVec.ofNat 32 (s.clk.bell / 2 ^ 32 % 2 ^ 24) ∧ SMap.get (fun _ => (0 : Word)) t.latches (src.latch * 0x40000 + 0x01048) = BitVec.ofNat 32 (p % 4096)) ∧
  (∀ (s : State) (src : Source) (p : Nat), s.bw.holding = false → 
    ∃ t, exec (.wbHeldLoRead src p) s = .next t ∧ t.out = s.out ++ [Output.regValue src Reg.BWT.WB_HELD_LO.word (BitVec.ofNat 32 (s.fld Reg.BWT.WB_HELD_LO.HELD_LO))] ∧ t.regs = s.regs ∧ SMap.get (fun _ => (0 : Word)) t.latches (src.latch * 0x40000 + Reg.BWT.WB_HELD_HI.word) = BitVec.ofNat 32 (s.fld Reg.BWT.WB_HELD_HI.HELD_HI)) ∧
  (∀ (s : State) (src : Source), s.pageOpen 0x1A (Reg.STR.BYTES_OUT_LO.word % 0x1000) = true → 
    ∃ t, exec (.bytesOutLoRead src) s = .next t ∧ t.out = s.out ++ [Output.regValue src Reg.STR.BYTES_OUT_LO.word (BitVec.ofNat 32 (s.fld Reg.STR.BYTES_OUT_LO.BYTES_LO))] ∧ t.regs = s.regs ∧ SMap.get (fun _ => (0 : Word)) t.latches (src.latch * 0x40000 + Reg.STR.BYTES_OUT_HI.word) = BitVec.ofNat 32 (s.fld Reg.STR.BYTES_OUT_HI.BYTES_HI)) ∧
  (∀ (s : State) (src : Source) (k : Nat), k < 128 → s.pageOpen 0x3C ((Reg.PMC.FIX_LO.word k) % 0x1000) = true → 
    ∃ t, exec (.fixLoRead src k) s = .next t ∧ t.out = s.out ++ [Output.regValue src (Reg.PMC.FIX_LO.word k) (BitVec.ofNat 32 (s.fld (Reg.PMC.FIX_LO.FIX_LO k)))] ∧ t.regs = s.regs ∧ SMap.get (fun _ => (0 : Word)) t.latches (src.latch * 0x40000 + Reg.PMC.FIX_HI.word k) = BitVec.ofNat 32 (s.fld (Reg.PMC.FIX_HI.FIX_HI k))) ∧
  (∀ (s : State) (src : Source) (k p : Nat), k < 64 → s.pageOpen 0x3C 0x200 = true → s.pmc.lastRead = none → 
    ∃ t, exec (.pvalLoRead src k p) s = .next t ∧ t.pmc.lastRead = some (s.clk.bell * 4096 + p % 4096) ∧ t.fld Reg.PMC.SAMPLE.CLK = (s.clk.bell * 4096 + p % 4096) % 2 ^ 32 ∧ t.out = s.out ++ [Output.regValue src (Reg.PMC.PVAL_LO.word k) (BitVec.ofNat 32 (t.pval k))]) ∧
  (∀ (s : State) (level : Bool) (p : Nat), s.flag Reg.BWT.FS_CTRL.FS_ENABLE = true → level = !(s.flag Reg.BWT.FS_CTRL.FS_EDGE) → s.bw.fsLevel = !level → 
    ∃ t, exec (.frameSyncEdge level p) s = .next t ∧ t.bw.fsLevel = level ∧ t.bw.fsPending = true ∧ t.bw.fsClk = s.clk.bell * 4096 + p % 4096 ∧ t.bw.fsFilter = s.fld Reg.BWT.FS_CTRL.FS_FILTER ∧ t.regs = s.regs) ∧
  (∀ (s : State) (p : Nat), s.bw.fsPending = true → s.bw.fsClk + s.bw.fsFilter ≤ s.clk.bell * 4096 + p % 4096 → s.bw.fsLast = none → 
    ∃ t, exec (.frameSyncAccept p) s = .next t ∧ t.bw = { s.bw with fsPending := false, fsLast := some (s.clk.bell * 4096 + p % 4096) } ∧ t.flag Reg.BWT.INT_STATUS.FS_EDGE = true ∧ t.fld Reg.BWT.FS_PHASE.FS_PHASE = (fsStored (s.clk.bell * 4096 + p % 4096) s.bw.fsFilter (Config.free s.drawn 2).toNat) % 4096 ∧ t.fld Reg.BWT.FS_BELL_LO.FS_BELL_LO = (fsStored (s.clk.bell * 4096 + p % 4096) s.bw.fsFilter (Config.free s.drawn 2).toNat) / 4096 % 2 ^ 32 ∧ t.fld Reg.BWT.FS_COUNT.FS_COUNT = (s.fld Reg.BWT.FS_COUNT.FS_COUNT + 1) % (Reg.BWT.FS_COUNT.FS_COUNT.max + 1) ∧ t.drawn = s.drawn + 1) ∧
  (∀ (s : State) (p c : Nat), s.bw.fsPending = true → s.bw.fsClk + s.bw.fsFilter ≤ s.clk.bell * 4096 + p % 4096 → s.bw.fsLast = some c → c + 64 ≤ s.clk.bell * 4096 + p % 4096 → 
    ∃ t, exec (.frameSyncAccept p) s = .next t ∧ t.bw = { s.bw with fsPending := false, fsLast := some (s.clk.bell * 4096 + p % 4096) } ∧ t.flag Reg.BWT.INT_STATUS.FS_EDGE = true ∧ t.fld Reg.BWT.FS_PHASE.FS_PHASE = (fsStored (s.clk.bell * 4096 + p % 4096) s.bw.fsFilter (Config.free s.drawn 2).toNat) % 4096 ∧ t.fld Reg.BWT.FS_BELL_LO.FS_BELL_LO = (fsStored (s.clk.bell * 4096 + p % 4096) s.bw.fsFilter (Config.free s.drawn 2).toNat) / 4096 % 2 ^ 32 ∧ t.fld Reg.BWT.FS_COUNT.FS_COUNT = (s.fld Reg.BWT.FS_COUNT.FS_COUNT + 1) % (Reg.BWT.FS_COUNT.FS_COUNT.max + 1) ∧ t.drawn = s.drawn + 1) ∧
  (∀ (s : State), s.pmc.winStart + s.appFld Reg.PMC.WINDOW.WINDOW ≤ s.clk.bell → s.pageOff 0x3C = false → 
    ∃ t, exec (.windowEnd) s = .next t ∧ t.pmc.run = [] ∧ t.pmc.winStart = s.pmc.winStart + s.appFld Reg.PMC.WINDOW.WINDOW ∧ t.flag Reg.PMC.INT_STATUS.WINDOW_END = true)

/-- In SERVICE or DEGRADED with no turn in progress, at its slot, an unpaused rotation starts the program turn of the die that is next once its program buffer holds its pages: the turn lasts 24,576 clk for TLC and 8,192 for SLC, and the PROGRAM command with the tile mask and rows is issued; where an idle turn is next, it starts. The end of a program turn writes what the turn programs to the medium and is counted by its kind, and during a Vent the rotation stops with it after the status read; an idle turn ends and is counted. The end of a TLC rotation counts its rotation of the fold; the end of an SLC rotation, once the update buffer has room for its map lines, leaves nothing of it to be mapped (R27, R28, R31, R33, R81, R98, R101, R180, R185, R244) -/
def Obligations.TurnsCompleteTheirRotation : Prop :=
  (∀ (s : State) (g p : Nat), g < s.nGangs → p % 4096 = 256 * s.slotOffset g → (s.rota g).kind = .none → (s.rota g).on = true → (s.rota g).rotating = true → s.levelNow < 2 → s.margin g < 2 → s.serving = true → (s.at_ p).checkOver g = s.at_ p → (s.rota g).idleLeft = 0 → (s.rota g).pos < 20 → s.loaded g (s.rota g).pos = true → 
    ∃ t, exec (.programTurnStart g p) s = .next t ∧ (t.rota g).kind = (s.rota g).rotKind ∧ (t.rota g).turnEnd = s.clk.bell * 4096 + p % 4096 + (if (s.rota g).rotKind = TurnKind.tlc then 24576 else 8192) ∧ t.out = s.out ++ [Output.die (dieNo g (s.rota g).pos) (if (s.rota g).rotKind = TurnKind.tlc then 0x05 else 0x04) (programArgs (s.turnPages g))] ∧ t.med = s.med) ∧
  (∀ (s : State) (g n p : Nat), g < s.nGangs → p % 4096 = 256 * s.slotOffset g → (s.rota g).kind = .none → (s.rota g).on = true → (s.rota g).rotating = true → s.levelNow < 2 → s.margin g < 2 → s.serving = true → (s.at_ p).checkOver g = s.at_ p → (s.rota g).idleLeft = n + 1 → 
    ∃ t, exec (.programTurnStart g p) s = .next t ∧ (t.rota g).kind = .idle ∧ (t.rota g).idleLeft = n ∧ (t.rota g).turnEnd = s.clk.bell * 4096 + p % 4096 + 8192 ∧ t.med = s.med) ∧
  (∀ (s : State) (g p : Nat) (fails : List Nat), g < s.nGangs → (s.rota g).kind = .slc → (s.rota g).ventTurn = none → 
    ∃ t, exec (.programTurnEnd g fails p) s = .next t ∧ t.med = ((s.at_ p).programDie g (s.rota g).pos).med ∧ t.fld (Reg.ROT.SLC_TURNS.COUNT g) = (s.fld (Reg.ROT.SLC_TURNS.COUNT g) + 1) % 2 ^ 32) ∧
  (∀ (s : State) (g p : Nat) (fails : List Nat), g < s.nGangs → (s.rota g).kind = .tlc → (s.rota g).ventTurn = none → 
    ∃ t, exec (.programTurnEnd g fails p) s = .next t ∧ t.med = ((s.at_ p).programDie g (s.rota g).pos).med ∧ t.fld (Reg.ROT.TLC_TURNS.COUNT g) = (s.fld (Reg.ROT.TLC_TURNS.COUNT g) + 1) % 2 ^ 32) ∧
  (∀ (s : State) (g p : Nat) (fails : List Nat), g < s.nGangs → (s.rota g).kind = .slc → (s.rota g).rotKind = .slc → (s.rota g).ventTurn = none → (s.gang g).placed = [] → (s.gang g).sysRows = [] → s.venting = true → 
    ∃ t, exec (.programTurnEnd g fails p) s = .next t ∧ t.med = s.med ∧ (t.rota g).kind = .none ∧ (t.rota g).rotating = false ∧ t.out = s.out ++ [Output.die (dieNo g (s.rota g).pos) 0x06 []]) ∧
  (∀ (s : State) (g p : Nat), g < s.nGangs → (s.rota g).kind = .idle → s.venting = true → 
    ∃ t, exec (.idleTurnEnd g p) s = .next t ∧ (t.rota g).kind = .none ∧ (t.rota g).rotating = false ∧ t.fld (Reg.ROT.IDLE_TURNS.COUNT g) = (s.fld (Reg.ROT.IDLE_TURNS.COUNT g) + 1) % 2 ^ 32 ∧ t.med = s.med) ∧
  (∀ (s : State) (g p : Nat), g < s.nGangs → (s.rota g).kind = .idle → (s.rota g).rotating = true → s.venting = false → s.turnsBlocked g = true → 
    ∃ t, exec (.idleTurnEnd g p) s = .next t ∧ t.fld (Reg.ROT.IDLE_TURNS.COUNT g) = (s.fld (Reg.ROT.IDLE_TURNS.COUNT g) + 1) % 2 ^ 32 ∧ (t.rota g).kind = .none ∧ t.med = s.med) ∧
  (∀ (s : State) (g b p : Nat), g < s.nGangs → (s.gang g).ended = true → (s.rota g).lastKind = .tlc → (s.gang g).fold.band = some b → (s.gang g).fold.rots < 15 → 
    ∃ t, exec (.rotationEnd g p) s = .next t ∧ (t.gang g).ended = false ∧ (t.gang g).fold.rots = (s.gang g).fold.rots + 1 ∧ t.fld Reg.DRV.PROG_SEGS.PROG_SEGS = (s.fld Reg.DRV.PROG_SEGS.PROG_SEGS + min 768 ((s.gang g).fold.segs.length - 768 * (s.gang g).fold.rots)) % (Reg.DRV.PROG_SEGS.PROG_SEGS.max + 1) ∧ t.med = s.med ∧ t.xlt = s.xlt) ∧
  (∀ (s : State) (g p : Nat), g < s.nGangs → (s.gang g).ended = true → (s.rota g).lastKind ≠ .tlc → s.ubReserve = true → 
    ∃ t, exec (.rotationEnd g p) s = .next t ∧ (t.gang g).ended = false ∧ (t.gang g).ending = [] ∧ (t.gang g).sysEnding = [] ∧ t.med = s.med)

/-- For messages that arrive with a credit, in a block whose responses are not held back: MemRd and MemRdData that pass every check, meet no array error and miss both cache levels become a read of the medium path; MemWr, and MemWrPtl that enables a byte, to a region that is neither strict nor grouped are staged with their bytes and answered with Cmp 22 clk after acceptance while VHOLD is qualified; a MemWrPtl that enables no byte is answered and stages nothing; MemInv and MemInvNT are answered with Cmp at 46 clk and have no other effect on reads and staging; MemSpecRd takes its slot of the port cache and answers nothing; an unsupported opcode is violation 3, answered with Cmp at 22 clk for an RwD and with poisoned data at 46 clk for a Req. A credit overrun is logged as violation 5, and credits returned to the device are added to their kind (R427, R428, R429, R430, R431, R445, R303, R420) -/
def Obligations.HostMemoryRequestsComplete : Prop :=
  (∀ (s : State) (hpa tag p : Nat), s.memOpen = true → (s.at_ p).reqCredit = true → s.inHdm hpa = true → dpaCart (s.hdmDpa hpa) = none → s.checkDpa clsHost false false (s.hdmDpa hpa) (s.hdmKeyid hpa) = 0 → s.cached (l1pOf (s.hdmDpa hpa / 64 * 64)) (s.hdmDpa hpa / 64 * 64) false (s.hdmKeyid hpa) = none → s.cached 0 (s.hdmDpa hpa / 64 * 64) false (s.hdmKeyid hpa) = none → 
    ∃ t, exec (.memRd hpa tag [] p) s = .next t ∧ t.reads.list = s.reads.list ++ [{ id := s.reads.next, who := .host tag, dpa := s.hdmDpa hpa, keyid := s.hdmKeyid hpa, acc := (max (s.clk.bell * 4096 + p % 4096) (SMap.get (fun _ => 0) s.link.l1pFree (l1pOf hpa))), missAt := (max (s.clk.bell * 4096 + p % 4096) (SMap.get (fun _ => 0) s.link.l1pFree (l1pOf hpa))) + 46, sectors := [dpaSector (s.hdmDpa hpa)] }] ∧ t.reads.next = s.reads.next + 1 ∧ t.med = s.med ∧ t.xlt = s.xlt ∧ t.out = s.out) ∧
  (∀ (s : State) (hpa tag p : Nat), s.memOpen = true → (s.at_ p).reqCredit = true → s.inHdm hpa = true → dpaCart (s.hdmDpa hpa) = none → s.checkDpa clsHost false false (s.hdmDpa hpa) (s.hdmKeyid hpa) = 0 → s.cached (l1pOf (s.hdmDpa hpa / 64 * 64)) (s.hdmDpa hpa / 64 * 64) false (s.hdmKeyid hpa) = none → s.cached 0 (s.hdmDpa hpa / 64 * 64) false (s.hdmKeyid hpa) = none → 
    ∃ t, exec (.memRdData hpa tag [] p) s = .next t ∧ t.reads.list = s.reads.list ++ [{ id := s.reads.next, who := .host tag, dpa := s.hdmDpa hpa, keyid := s.hdmKeyid hpa, acc := (max (s.clk.bell * 4096 + p % 4096) (SMap.get (fun _ => 0) s.link.l1pFree (l1pOf hpa))), missAt := (max (s.clk.bell * 4096 + p % 4096) (SMap.get (fun _ => 0) s.link.l1pFree (l1pOf hpa))) + 46, sectors := [dpaSector (s.hdmDpa hpa)] }] ∧ t.reads.next = s.reads.next + 1 ∧ t.med = s.med ∧ t.xlt = s.xlt ∧ t.out = s.out) ∧
  (∀ (s : State) (hpa tag i p : Nat) (d : Line), s.memOpen = true → s.rwdCredit = true → s.inHdm hpa = true → s.checkDpa clsHost true false (s.hdmDpa hpa) (s.hdmKeyid hpa) = 0 → s.regionOf (dpaPaddock (s.hdmDpa hpa)) = some i → (s.region i).strict = false → (s.region i).grouped = false → s.xlt.staged = [] → s.hk.vholdQual = true → s.link.held = [] → 0 < s.link.ndr → tag < 2 ^ 16 → 
    ∃ t, exec (.memWr hpa tag d false p) s = .next t ∧ t.xlt.staged = [(stKey (s.hdmDpa hpa / 64) none, { data := mergeLine 0 d (BitVec.allOnes 64), mask := (BitVec.allOnes 64), bell := s.clk.bell, keyid := s.hdmKeyid hpa, clk := (s.clk.bell * 4096 + p % 4096) })] ∧ t.out = s.out ++ [Output.cmp tag t.devLoad ((max (s.clk.bell * 4096 + p % 4096) (SMap.get (fun _ => 0) s.link.l1pFree (l1pOf hpa))) + 22)] ∧ t.reads.list.map (fun r => r.id) = s.reads.list.map (fun r => r.id) ∧ t.med = s.med) ∧
  (∀ (s : State) (hpa tag i p : Nat) (d : Line) (m : Mask), s.memOpen = true → s.rwdCredit = true → s.inHdm hpa = true → s.checkDpa clsHost true false (s.hdmDpa hpa) (s.hdmKeyid hpa) = 0 → s.regionOf (dpaPaddock (s.hdmDpa hpa)) = some i → (s.region i).strict = false → (s.region i).grouped = false → s.xlt.staged = [] → s.hk.vholdQual = true → s.link.held = [] → 0 < s.link.ndr → tag < 2 ^ 16 → m ≠ 0 → 
    ∃ t, exec (.memWrPtl hpa tag d m false p) s = .next t ∧ t.xlt.staged = [(stKey (s.hdmDpa hpa / 64) none, { data := mergeLine 0 d m, mask := m, bell := s.clk.bell, keyid := s.hdmKeyid hpa, clk := (s.clk.bell * 4096 + p % 4096) })] ∧ t.out = s.out ++ [Output.cmp tag t.devLoad ((max (s.clk.bell * 4096 + p % 4096) (SMap.get (fun _ => 0) s.link.l1pFree (l1pOf hpa))) + 22)] ∧ t.reads.list.map (fun r => r.id) = s.reads.list.map (fun r => r.id) ∧ t.med = s.med) ∧
  (∀ (s : State) (hpa tag p : Nat) (d : Line), s.memOpen = true → s.rwdCredit = true → s.inHdm hpa = true → s.checkDpa clsHost true false (s.hdmDpa hpa) (s.hdmKeyid hpa) = 0 → s.link.held = [] → 0 < s.link.ndr → tag < 2 ^ 16 → 
    ∃ t, exec (.memWrPtl hpa tag d 0 false p) s = .next t ∧ t.xlt = s.xlt ∧ t.out = s.out ++ [Output.cmp tag t.devLoad ((max (s.clk.bell * 4096 + p % 4096) (SMap.get (fun _ => 0) s.link.l1pFree (l1pOf hpa))) + 22)] ∧ t.reads.list.map (fun r => r.id) = s.reads.list.map (fun r => r.id) ∧ t.med = s.med) ∧
  (∀ (s : State) (hpa tag p : Nat), s.memOpen = true → (s.at_ p).reqCredit = true → s.link.held = [] → 0 < s.link.ndr → tag < 2 ^ 16 → 
    ∃ t, exec (.memInv hpa tag p) s = .next t ∧ t.out = s.out ++ [Output.cmp tag t.devLoad ((max (s.clk.bell * 4096 + p % 4096) (SMap.get (fun _ => 0) s.link.l1pFree (l1pOf hpa))) + 46)] ∧ t.link.ndr = s.link.ndr - 1 ∧ t.reads = s.reads ∧ t.xlt = s.xlt) ∧
  (∀ (s : State) (hpa tag p : Nat), s.memOpen = true → (s.at_ p).reqCredit = true → s.link.held = [] → 0 < s.link.ndr → tag < 2 ^ 16 → 
    ∃ t, exec (.memInvNt hpa tag p) s = .next t ∧ t.out = s.out ++ [Output.cmp tag t.devLoad ((max (s.clk.bell * 4096 + p % 4096) (SMap.get (fun _ => 0) s.link.l1pFree (l1pOf hpa))) + 46)] ∧ t.link.ndr = s.link.ndr - 1 ∧ t.reads = s.reads ∧ t.xlt = s.xlt) ∧
  (∀ (s : State) (hpa p : Nat), s.memOpen = true → (s.at_ p).reqCredit = true → 
    ∃ t, exec (.memSpecRd hpa p) s = .next t ∧ t.out = s.out ∧ t.reads = s.reads ∧ t.xlt = s.xlt ∧ SMap.get (fun _ => 0) t.link.l1pFree (l1pOf hpa) = (max (s.clk.bell * 4096 + p % 4096) (SMap.get (fun _ => 0) s.link.l1pFree (l1pOf hpa))) + 1) ∧
  (∀ (s : State) (hpa tag p : Nat), s.memOpen = true → s.rwdCredit = true → s.link.held = [] → 0 < s.link.ndr → tag < 2 ^ 16 → 
    ∃ t, exec (.m2sUnsupportedOpcode true hpa tag p) s = .next t ∧ t.fld Reg.HDM.REFUSED_WR.REFUSED_WR = (s.fld Reg.HDM.REFUSED_WR.REFUSED_WR + 1) % 2 ^ 32 ∧ t.fld Reg.HLK.LAST_VIOL.CODE = 3 ∧ t.flag Reg.HLK.INT_STATUS.VIOLATION = true ∧ t.out.getLast? = some (.cmp tag t.devLoad ((max (s.clk.bell * 4096 + p % 4096) (SMap.get (fun _ => 0) s.link.l1pFree (l1pOf hpa))) + 22)) ∧ t.link.ndr = s.link.ndr - 1 ∧ t.reads = s.reads ∧ t.xlt = s.xlt) ∧
  (∀ (s : State) (hpa tag p : Nat), s.memOpen = true → (s.at_ p).reqCredit = true → s.link.held = [] → 0 < s.link.drs → tag < 2 ^ 16 → 
    ∃ t, exec (.m2sUnsupportedOpcode false hpa tag p) s = .next t ∧ t.fld Reg.HDM.REFUSED_RD.REFUSED_RD = (s.fld Reg.HDM.REFUSED_RD.REFUSED_RD + 1) % 2 ^ 32 ∧ t.fld Reg.HLK.LAST_VIOL.CODE = 3 ∧ t.flag Reg.HLK.INT_STATUS.VIOLATION = true ∧ t.out.getLast? = some (.memData tag true 0 t.devLoad ((max (s.clk.bell * 4096 + p % 4096) (SMap.get (fun _ => 0) s.link.l1pFree (l1pOf hpa))) + 46)) ∧ t.link.drs = s.link.drs - 1 ∧ t.reads = s.reads ∧ t.xlt = s.xlt) ∧
  (∀ (s : State) (p : Nat), s.memOpen = true → 
    ∃ t, exec (.creditOverrun p) s = .next t ∧ t.link.logged = s.link.logged ++ [5] ∧ t.fld Reg.HLK.LAST_VIOL.CODE = 5 ∧ t.flag Reg.HLK.INT_STATUS.VIOLATION = true ∧ t.reads = s.reads) ∧
  (∀ (s : State) (n p : Nat), s.memOpen = true → s.link.held = [] → 
    ∃ t, exec (.s2mCreditReturn true n p) s = .next t ∧ t.link.drs = s.link.drs + n ∧ t.link.ndr = s.link.ndr ∧ t.link.starved = none ∧ t.out = s.out) ∧
  (∀ (s : State) (n p : Nat), s.memOpen = true → s.link.held = [] → 
    ∃ t, exec (.s2mCreditReturn false n p) s = .next t ∧ t.link.ndr = s.link.ndr + n ∧ t.link.drs = s.link.drs ∧ t.link.starved = none ∧ t.out = s.out)

/-- A read of the medium path is looked up at its DRAM slot. 212 clk later it is bound to the segment, bin and classes of its map entry where the lookup meets no error, no staged line that covers it and no entry of the sector cache, and waits for a second lookup where its map line is uncorrectable; a second lookup that meets no error binds it too. It is sensed at its R slot, and ends once its one sector decodes; after a failure it is sensed again at the slot that is due, and after a program turn that its first sense overlapped it is read again and counted (R30, R36, R38, R39, R92, R385, R386, R392) -/
def Obligations.LookupsAndSensesComplete : Prop :=
  (∀ (s : State) (r : Rd) (n p : Nat) (rows : List (Nat × Nat × Nat × Nat)), s.rd n = some r → r.st = .miss → (s.clk.bell * 4096 + p % 4096) % s.lookupStep r.cls = 0 → r.missAt ≤ (s.clk.bell * 4096 + p % 4096) → (s.clk.bell * 4096 + p % 4096) < r.missAt + s.lookupStep r.cls → 
    ∃ t, exec (.lookupIssue n rows p) s = .next t ∧ t.rd n = some { r with st := .looked, look := (s.clk.bell * 4096 + p % 4096), arrive := (s.clk.bell * 4096 + p % 4096) + 236 } ∧ t.med = s.med ∧ t.xlt = s.xlt) ∧
  (∀ (s : State) (r : Rd) (n p : Nat) (sc map : List SymErr), s.rd n = some r → r.st = .looked → (s.clk.bell * 4096 + p % 4096) = r.look + 212 → s.stagedHit r = false → s.scHit r = none → (s.mapOf r.lseg).st = .caldera → (r.lseg / 16) ∉ s.dram.badMap → s.mapErr r map = .good → s.scErr r sc = .good → 
    ∃ t, exec (.lookupComplete n sc map p) s = .next t ∧ t.rd n = some { r with st := .bound, psa := (s.mapOf r.lseg).psa, slc := s.psaSlc (s.mapOf r.lseg).psa, bin := s.psaBin (s.mapOf r.lseg).psa, classes := s.classesOf (psaGang (s.mapOf r.lseg).psa), parts := s.stagedParts r, stale := false } ∧ t.med = s.med ∧ t.xlt = s.xlt ∧ t.out = s.out) ∧
  (∀ (s : State) (r : Rd) (n p : Nat) (sc map : List SymErr), s.rd n = some r → r.st = .looked → (s.clk.bell * 4096 + p % 4096) = r.look + 212 → s.stagedHit r = false → s.scHit r = none → s.mapErr r map = .bad → s.scErr r sc = .good → 
    ∃ t, exec (.lookupComplete n sc map p) s = .next t ∧ t.rd n = some { r with st := .relook, scBad := false, mapBad := true, struck := r.struck ++ [3] } ∧ t.med = s.med ∧ t.xlt = s.xlt ∧ t.out = s.out) ∧
  (∀ (s : State) (r : Rd) (n p : Nat) (sc map scOther mapOther : List SymErr) (rows : List (Nat × Nat × Nat × Nat)), s.rd n = some r → r.st = .relook → (s.clk.bell * 4096 + p % 4096) = r.look + (if s.throttled r.cls then 256 else 224) → r.mapBad = true → r.scBad = false → s.stagedHit r = false → s.scHit r = none → (s.mapOf r.lseg).st = .caldera → (r.lseg / 16) ∉ s.dram.badMap → s.mapErr { r with st := .looked, look := (s.clk.bell * 4096 + p % 4096), arrive := (s.clk.bell * 4096 + p % 4096) + 236 } map = .good → s.scErr { r with st := .looked, look := (s.clk.bell * 4096 + p % 4096), arrive := (s.clk.bell * 4096 + p % 4096) + 236 } sc = .good → 
    ∃ t, exec (.lookupRetry n sc map scOther mapOther rows p) s = .next t ∧ t.rd n = some { r with st := .bound, look := (s.clk.bell * 4096 + p % 4096), arrive := (s.clk.bell * 4096 + p % 4096) + 236, psa := (s.mapOf r.lseg).psa, slc := s.psaSlc (s.mapOf r.lseg).psa, bin := s.psaBin (s.mapOf r.lseg).psa, classes := s.classesOf (psaGang (s.mapOf r.lseg).psa), parts := s.stagedParts r, stale := false } ∧ t.med = s.med ∧ t.xlt = s.xlt) ∧
  (∀ (s : State) (r : Rd) (n p : Nat), s.rd n = some r → r.st = .bound → r.arrive ≤ (s.clk.bell * 4096 + p % 4096) → (s.clk.bell * 4096 + p % 4096) = (s.at_ p).nextR (psaGang r.psa) r.arrive → 
    ∃ t, exec (.foregroundSenseStart n p) s = .next t ∧ (t.rd n).map (fun x => (x.st, x.s1, x.psa, x.turnEnd)) = some (.sensing, (s.clk.bell * 4096 + p % 4096), r.psa, (s.rota (psaGang r.psa)).turnEnd) ∧ t.med = s.med ∧ t.xlt = s.xlt) ∧
  (∀ (s : State) (r : Rd) (n k tag p : Nat) (x : Sensed), s.rd n = some r → r.st = .sensing → r.who = .host tag → r.sectors = [k] → r.outs = [] → r.fails = [] → r.start + r.len ≤ (s.clk.bell * 4096 + p % 4096) → s.margin (psaGang r.psa) < 3 → ((s.at_ p).attempt r.sensing k x (r.er ++ s.failedOf (psaGang r.psa)).eraseDups none).out.ok = true → 
    ∃ t, exec (.senseComplete n x p) s = .next t ∧ t.rd n = none ∧ t.med = s.med) ∧
  (∀ (s : State) (r : Rd) (n p : Nat), s.rd n = some r → r.st = .second → (s.clk.bell * 4096 + p % 4096) = (s.at_ p).retryAt r → 
    ∃ t, exec (.retrySenseStart n p) s = .next t ∧ (t.rd n).map (fun x => (x.st, x.s2, x.reread, x.s1)) = some (.sensing2, (s.clk.bell * 4096 + p % 4096), false, r.s1) ∧ t.med = s.med ∧ t.xlt = s.xlt) ∧
  (∀ (s : State) (r : Rd) (n p : Nat), s.rd n = some r → r.st = .reread → (s.clk.bell * 4096 + p % 4096) = (s.at_ p).nextR (psaGang r.psa) (max r.turnEnd (r.s1 + r.len + 50)) → 
    ∃ t, exec (.rereadStart n p) s = .next t ∧ (t.rd n).map (fun x => (x.st, x.s2, x.reread)) = some (.sensing2, (s.clk.bell * 4096 + p % 4096), true) ∧ t.fld (Reg.SEC.REREAD.REREAD (psaGang r.psa)) = (s.fld (Reg.SEC.REREAD.REREAD (psaGang r.psa)) + 1) % 2 ^ 32 ∧ t.med = s.med)

/-- In an open B slot a background sense of the work that is next starts. When its chunks have left the dies a Shepherd visit, the read of an old segment, a fold source read, a fold verify, a rewrite, a paddock verify and a parity rebuild are decoded: either the sense is over, or it has failed and waits for its second attempt, which in turn ends it. None of them writes the medium (R29, R95, R137, R141, R178, R185, R186, R190, R191, R140) -/
def Obligations.BackgroundSensesComplete : Prop :=
  (∀ (s : State) (g p : Nat), (s.at_ p).bgOpen g = true → (((s.at_ p).bgPick g).1).isSome = true → 
    ∃ t, exec (.backgroundSenseStart g p) s = .next t ∧ t.reads.bg.length = s.reads.bg.length + 1 ∧ t.reads.next = s.reads.next + 1 ∧ t.reads.list = s.reads.list ∧ t.med = s.med) ∧
  (∀ (s : State) (b : Bg) (n p : Nat) (x : Sensed), s.bgOf n = some b → b.work = .shepherd → b.failed = false → b.ready ≤ (s.clk.bell * 4096 + p % 4096) → 
    ∃ t, exec (.shepherdVisit n x p) s = .next t ∧ (t.bgOf n = none ∨ (t.bgOf n).any (fun y => y.failed) = true) ∧ t.med = s.med) ∧
  (∀ (s : State) (b : Bg) (n p : Nat) (x : Sensed) (i : Nat), s.bgOf n = some b → b.work = .oldRead i → b.failed = false → b.ready ≤ (s.clk.bell * 4096 + p % 4096) → 
    ∃ t, exec (.oldSegmentRead n x p) s = .next t ∧ (t.bgOf n = none ∨ (t.bgOf n).any (fun y => y.failed) = true) ∧ t.med = s.med) ∧
  (∀ (s : State) (b : Bg) (n p : Nat) (x : Sensed) (i j : Nat), s.bgOf n = some b → b.work = .foldSource i j → b.failed = false → b.ready ≤ (s.clk.bell * 4096 + p % 4096) → 
    ∃ t, exec (.foldSourceRead n x p) s = .next t ∧ (t.bgOf n = none ∨ (t.bgOf n).any (fun y => y.failed) = true) ∧ t.med = s.med) ∧
  (∀ (s : State) (b : Bg) (n p : Nat) (x : Sensed) (i j : Nat), s.bgOf n = some b → b.work = .foldVerify i j → b.failed = false → b.ready ≤ (s.clk.bell * 4096 + p % 4096) → 
    ∃ t, exec (.foldVerify n x p) s = .next t ∧ (t.bgOf n = none ∨ (t.bgOf n).any (fun y => y.failed) = true) ∧ t.med = s.med) ∧
  (∀ (s : State) (b : Bg) (n p : Nat) (x : Sensed) (l : List Nat), s.bgOf n = some b → b.work = .rewrite l → b.failed = false → b.ready ≤ (s.clk.bell * 4096 + p % 4096) → 
    ∃ t, exec (.rewrite n x p) s = .next t ∧ (t.bgOf n = none ∨ (t.bgOf n).any (fun y => y.failed) = true) ∧ t.med = s.med) ∧
  (∀ (s : State) (b : Bg) (n p : Nat) (x : Sensed) (i j : Nat), s.bgOf n = some b → b.work = .rebuild i j → b.failed = false → b.ready ≤ (s.clk.bell * 4096 + p % 4096) → 
    ∃ t, exec (.parityRebuild ⟨⟨n, x⟩, p⟩) s = .next t ∧ (t.bgOf n = none ∨ (t.bgOf n).any (fun y => y.failed) = true) ∧ t.med = s.med) ∧
  (∀ (s : State) (b : Bg) (n p : Nat) (x : Sensed) (g i j : Nat), s.bgOf n = some b → b.work = .padVerify i j → b.failed = false → b.ready ≤ (s.clk.bell * 4096 + p % 4096) → 
    ∃ t, exec (.paddockVerify g n x p) s = .next t ∧ (t.bgOf n = none ∨ (t.bgOf n).any (fun y => y.failed) = true) ∧ t.med = s.med) ∧
  (∀ (s : State) (b : Bg) (n p : Nat) (x : Sensed), s.bgOf n = some b → b.failed = true → b.known ≤ (s.clk.bell * 4096 + p % 4096) → (s.at_ p).atB (psaGang b.psa) = true → (s.at_ p).crossesTurn (psaGang b.psa) b.psa = false → s.levelNow < 2 → (s.at_ p).bgHeld (psaGang b.psa) ≤ 16 → 
    ∃ t, exec (.backgroundSecondAttempt n x p) s = .next t ∧ t.bgOf n = none ∧ t.med = s.med)

/-- In a B slot that is open for its die, a confirmation sense leaves the queue; where it finds the chunk right it leaves no lasting fault, and where the chunk is wrong it is one more lasting fault of the die in this flock. A catch-up sense that finds every chunk right leaves its queue and is counted in CATCHUP. A failed die on which no sense is in progress has both domains switched off, the array first, and is isolated. A bank that has woken opens the paddock that waits for it in its Caldera band, and otherwise is in transition no more (R101, R107, R109, R110, R111, R112, R143, R172, R745) -/
def Obligations.RepairsComplete : Prop :=
  (∀ (s : State) (n p : Nat) (flips : Chunk) (c : Confirm), s.xlt.confirms[n]? = some c → (s.at_ p).shortOpen c.die c.psa = true → s.dieFailed c.die = false → s.chunk c.psa c.sector (dieLocal c.die) ^^^ flips = c.chunk → 
    ∃ t, exec (.confirmationSense n ⟨flips, false⟩ p) s = .next t ∧ t.xlt = { s.xlt with confirms := s.xlt.confirms.eraseIdx n } ∧ t.regs = s.regs ∧ t.pnv = s.pnv ∧ t.med = s.med ∧ t.out.length = s.out.length + 1) ∧
  (∀ (s : State) (n p : Nat) (flips : Chunk) (c : Confirm), s.xlt.confirms[n]? = some c → (s.at_ p).shortOpen c.die c.psa = true → s.dieFailed c.die = false → c.die < 40 → s.chunk c.psa c.sector (dieLocal c.die) ^^^ flips ≠ c.chunk → s.fld (Reg.MED.DIE_FAULTS.FLOCK_LASTING (dieStack c.die) (diePos c.die)) < 7 → 
    ∃ t, exec (.confirmationSense n ⟨flips, false⟩ p) s = .next t ∧ t.xlt = { s.xlt with confirms := s.xlt.confirms.eraseIdx n } ∧ t.fld (Reg.MED.DIE_FAULTS.FLOCK_LASTING (dieStack c.die) (diePos c.die)) = s.fld (Reg.MED.DIE_FAULTS.FLOCK_LASTING (dieStack c.die) (diePos c.die)) + 1 ∧ t.dieFailed c.die = false ∧ t.med = s.med) ∧
  (∀ (s : State) (g n p : Nat) (x : Sensed) (c : CatchUp), g < s.nGangs → (s.gang g).shep.catchUps[n]? = some c → (s.at_ p).shortOpen c.die c.psa = true → s.dieFailed c.die = false → (∀ k ∈ List.range 16, (x.parityOf k []).contains (dieLocal c.die) = false ∧ s.chunk c.psa k (dieLocal c.die) ^^^ x.flipsAt k (dieLocal c.die) = c.chunks.getD k 0) → 
    ∃ t, exec (.catchUpSense g n x p) s = .next t ∧ (t.gang g).shep.catchUps = (s.gang g).shep.catchUps.eraseIdx n ∧ t.fld (Reg.SHP.CATCHUP.CATCHUP g) = (s.fld (Reg.SHP.CATCHUP.CATCHUP g) + 1) % (Reg.SHP.CATCHUP.CATCHUP g).max.succ ∧ t.xlt = s.xlt ∧ t.med = s.med) ∧
  (∀ (s : State) (d p : Nat), s.dieFailed d = true → (s.at_ p).senseOn d = false → 
    ∃ t, exec (.diePowerOff ⟨d, p⟩) s = .next t ∧ t.pwr = { s.pwr with dom := s.pwr.dom &&& ~~~(arrayBit d) &&& ~~~(ifBit d), iso := s.pwr.iso ||| (1#40 <<< d) } ∧ t.out = s.out ++ [Output.domain d true false, .domain d false false, .isolate d] ∧ t.regs = s.regs ∧ t.med = s.med) ∧
  (∀ (s : State) (g q i b : Nat), s.xlt.waking.find? (fun w => decide (w.2.2 + 10 = b)) = some (g, q, i) → g < s.nGangs → (s.band g (q / 3)).st = .caldera → 
    ∃ t, exec (.bankWakeEnd b) s = .next t ∧ t.pad g q = { st := .opened, next := 0, slot := some i } ∧ t.xlt.waking = s.xlt.waking.filter (fun w => decide (w ≠ (g, q, i))) ∧ (t.gang g).order = ((s.gang g).order.erase q) ++ [q] ∧ t.regs = s.regs ∧ t.med = s.med) ∧
  (∀ (s : State) (b : Nat), s.xlt.waking.find? (fun w => decide (w.2.2 + 10 = b)) = none → 
    ∃ t, exec (.bankWakeEnd b) s = .next t ∧ t = { s with srm := { s.srm with waking := s.srm.waking.filter (fun y => decide (y ≠ b)) } })

/-- A segment that has aged, or any while staging is drained, is closed into a snapshot with its lines; a snapshot whose build may start and needs no generation advance is built and counted; a row batch that has aged, or any while staging is drained, is made ready; a fold band whose verify is over, with room in update buffer and journal tail, is switched and counted, and the next band that waits enters verify; 16 complete blocks of the journal tail join a row batch of each copy that has room; a generation advance becomes durable, raises CUR and starts a pass; a pass that is over at its target ends and FLOOR is the target (R177, R178, R179, R186, R199, R543, R546) -/
def Obligations.TranslationWorkCompletes : Prop :=
  (∀ (s : State) (l : Nat) (gr : Option Nat) (p : Nat), s.working = true → s.segLines l gr ≠ [] → (s.draining = true ∨ s.lastWrite (l, gr) + 4096 * s.stageAge ≤ (s.clk.bell * 4096 + p % 4096)) → 
    ∃ t, exec (.segmentClose l ⟨gr, p⟩) s = .next t ∧ t.xlt.snaps = s.xlt.snaps ++ [{ id := s.xlt.nextSnap, lseg := l, group := gr, lines := (s.segLines l gr).map (fun e => (e.1 / 32 % 64, e.2)) }] ∧ t.xlt.nextSnap = s.xlt.nextSnap + 1 ∧ t.regs = s.regs ∧ t.med = s.med ∧ t.out = s.out) ∧
  (∀ (s : State) (x : Snap), s.xlt.snaps.find? (fun y => y.id = x.id) = some x → s.working = true → x.st = .waiting → ((s.buildFrom x).2).placed = false ∨ ((s.buildFrom x).1).old.isSome = true → s.buildBlocked (s.buildFrom x).1 = false → s.advWaits (s.buildFrom x).1 = false → ((s.buildFrom x).1).adv.isSome = true ∨ ∀ k ∈ List.range 16, s.needsAdvance (s.buildFrom x).1 (s.buildFrom x).2 k = false → 
    ∃ t, exec (.segmentBuild x.id) s = .next t ∧ (t.xlt.snaps.find? (fun y => y.id = x.id)).map (fun y => y.st) = some .built ∧ t.fld Reg.DRV.HOST_SEGS.HOST_SEGS = (s.fld Reg.DRV.HOST_SEGS.HOST_SEGS + 1) % 2 ^ 32 ∧ t.med = s.med) ∧
  (∀ (s : State) (g p : Nat) (b : RowBatch), g < s.nGangs → s.working = true → (s.gang g).batches.getLast? = some b → b.ready = false → (s.draining = true ∨ b.joined + 4096 * s.stageAge ≤ (s.clk.bell * 4096 + p % 4096)) → 
    ∃ t, exec (.rowBatchComplete ⟨g, p⟩) s = .next t ∧ (t.gang g).batches = (s.gang g).batches.dropLast ++ [{ b with ready := true }] ∧ t.xlt = s.xlt ∧ t.regs = s.regs ∧ t.med = s.med ∧ t.out = s.out) ∧
  (∀ (s : State) (g b : Nat), g < s.nGangs → (s.gang g).fold.vband = some b → (s.gang g).fold.vdone = (s.gang g).fold.vsegs.length → (s.gang g).fold.vnext = (s.gang g).fold.vsegs.length → s.ubReserve = true → s.tailRoom ((s.gang g).fold.vsegs.length + 1) = true → (s.gang g).fold.vwait = [] → 
    ∃ t, exec (.foldSwitch g) s = .next t ∧ (t.gang g).fold.vband = none ∧ (t.gang g).fold.vsegs = [] ∧ t.fld (Reg.DRV.FOLDS.FOLDS g) = (s.fld (Reg.DRV.FOLDS.FOLDS g) + 1) % 2 ^ 32 ∧ t.flag Reg.DRV.INT_STATUS.FOLD_DONE = true ∧ t.med = s.med) ∧
  (∀ (s : State) (g b : Nat) (v : Nat × List FoldSeg × Nat) (vs : List (Nat × List FoldSeg × Nat)), g < s.nGangs → (s.gang g).fold.vband = some b → (s.gang g).fold.vdone = (s.gang g).fold.vsegs.length → (s.gang g).fold.vnext = (s.gang g).fold.vsegs.length → s.ubReserve = true → s.tailRoom ((s.gang g).fold.vsegs.length + 1) = true → (s.gang g).fold.vwait = v :: vs → 
    ∃ t, exec (.foldSwitch g) s = .next t ∧ (t.gang g).fold.vband = some v.1 ∧ (t.gang g).fold.vsegs = v.2.1 ∧ (t.gang g).fold.vepoch = v.2.2 ∧ (t.gang g).fold.vwait = vs ∧ t.flag Reg.DRV.INT_STATUS.FOLD_DONE = true ∧ t.med = s.med) ∧
  (∀ (s : State) (q : List Nat), s.working = true → s.draining = false → s.writable ≠ [] → q = ((s.xlt.tail.filter (fun b => b.closed && !b.queued)).take 16).map (fun b => b.seq) → q.length = 16 → (s.queueCopy 0 q).1 = true → ((s.queueCopy 0 q).2.queueCopy 1 q).1 = true → 
    ∃ t, exec (.journalWrite) s = .next t ∧ t.xlt.tail = (((s.queueCopy 0 q).2.queueCopy 1 q).2.xlt.tail).map (fun x => if q.contains x.seq then { x with queued := true } else x) ∧ t.med = s.med) ∧
  (∀ (s : State) (i : Nat), 0 < (s.gen i).advancing → 
    ∃ t, exec (.genReservationDurable i) s = .next t ∧ (t.gen i).cur = min ((s.gen i).cur + 1) 255 ∧ (t.gen i).advancing = (s.gen i).advancing - 1 ∧ (t.gen i).passActive = true ∧ (t.gen i).passTarget = (t.gen i).cur ∧ t.pnv.gens = t.prot.gens ∧ t.flag Reg.RGN.INT_STATUS.GEN_ADVANCED = true ∧ t.med = s.med) ∧
  (∀ (s : State) (i : Nat), (s.gen i).passActive = true → (s.gen i).passTarget = (s.gen i).cur → s.passRegion = some i → s.serving = true → s.passOver i = true → 
    ∃ t, exec (.reencryptionPassEnd i) s = .next t ∧ (t.gen i).low = (s.gen i).cur ∧ (t.gen i).passActive = false ∧ t.flag Reg.RGN.INT_STATUS.PASS_DONE = true ∧ t.pnv.gens = t.prot.gens ∧ t.med = s.med)

/-- A draining group with no segment left to be built or programmed is committed, and a committed group is DONE once the update buffer has its reserve; the cache walk of a trim ends, and its map update, once the update buffer has its reserve, unmaps every segment of the range that a later write does not keep, reports the length of the range as done and raises TRIM_DONE; a query answers; at bell 62 of a flock the class of every die that has not failed is decided, and where no gang is tracked nothing else changes; an inspection becomes ready 16 clk after its selection (R202, R203, R206, R216, R262, R293) -/
def Obligations.GroupsTrimQueryAndDriftComplete : Prop :=
  (∀ (s : State) (g : Nat), s.working = true → (s.group g).st = .draining → s.xlt.snaps = [] → s.anyBuild (fun b => b.group = some g) = false → 
    ∃ t, exec (.groupCommitted g) s = .next t ∧ t.group g = { s.group g with st := .committed } ∧ t.med = s.med ∧ t.xlt.map = s.xlt.map) ∧
  (∀ (s : State) (g : Nat), s.working = true → (s.group g).st = .committed → s.ubReserve = true → 
    ∃ t, exec (.groupApply g) s = .next t ∧ t.group g = { s.group g with st := .done, segs := [] } ∧ t.flag Reg.XLT.INT_STATUS.GROUP_DONE = true ∧ t.med = s.med) ∧
  (∀ (s : State), s.xlt.trim.busy = true → s.xlt.trim.walked = false → 
    ∃ t, exec (.trimCacheWalkEnd) s = .next t ∧ t.xlt = { s.xlt with trim := { s.xlt.trim with walked := true } } ∧ t.regs = s.regs ∧ t.med = s.med ∧ t.out = s.out) ∧
  (∀ (s : State), s.working = true → s.xlt.trim.busy = true → s.xlt.trim.walked = true → s.ubReserve = true → 
    ∃ t, exec (.trimMapUpdate) s = .next t ∧ t.xlt.trim.busy = false ∧ (∀ i ∈ List.range s.xlt.trim.count, (s.xlt.trim.first + i) ∉ s.xlt.trim.kept → (t.mapOf (s.xlt.trim.first + i)).st = .unmapped) ∧ t.flag Reg.XLT.STATUS.TRIM_BUSY = false ∧ t.fld Reg.XLT.TRIM_PROGRESS.DONE = s.xlt.trim.count % (Reg.XLT.TRIM_PROGRESS.DONE.max + 1) ∧ t.flag Reg.XLT.INT_STATUS.TRIM_DONE = true ∧ t.med = s.med) ∧
  (∀ (s : State) (l : Nat), s.xlt.query = some l → s.queryWord l < 2 ^ 32 → 
    ∃ t, exec (.queryResultReady) s = .next t ∧ t.xlt = { s.xlt with query := none } ∧ t.reg Reg.XLT.QUERY_RESULT.word = s.queryWord l ∧ t.out = s.out) ∧
  (∀ (s : State) (p : Nat), s.clk.bell % 64 = 62 → s.pwr.ctrlOn = true → 
    ∃ t, exec (.driftEvaluation p) s = .next t ∧ t.drift.classNext = ((List.range s.nDies).filter (fun d => !s.dieFailed d)).map (fun d => (d, s.decideClass d)) ∧ t.med = s.med) ∧
  (∀ (s : State) (p : Nat), s.clk.bell % 64 = 62 → s.pwr.ctrlOn = true → (s.serving = false ∨ s.appFld Reg.DRF.CTRL.TRACK_ENABLE = 0) → 
    ∃ t, exec (.driftEvaluation p) s = .next t ∧ t.drift = { s.drift with classNext := ((List.range s.nDies).filter (fun d => !s.dieFailed d)).map (fun d => (d, s.decideClass d)) } ∧ t.regs = s.regs ∧ t.med = s.med) ∧
  (∀ (s : State) (c p : Nat), s.drift.inspect = some c → c + 16 ≤ (s.clk.bell * 4096 + p % 4096) → 
    ∃ t, exec (.inspectReady p) s = .next t ∧ t.drift = { s.drift with inspect := none } ∧ t.flag Reg.DRF.INSPECT_SEL.READY = true ∧ t.out = s.out)

/-- On a page that is open: a soft reset in IDLE makes the page RESETTING, drops its commit, returns PAGE_CTRL to reset, clears INT_ENABLE and the error capture; its end makes the page idle again; a commit that no lock refuses waits for its boundary; INT_FORCE sets implemented interrupt bits; LOCK with its guard sets locks; INT_ENABLE takes the implemented bits (R849, R852, R854, R856, R857, R861, R862) -/
def Obligations.HeaderCommandsComplete : Prop :=
  (∀ (s : State) (p : Nat) (src : Source) (w : Word), s.pageOpen p 8 = true → src ≠ .i3c → s.pageState p = 1 → s.cfgLock p = false → 
    ∃ t, exec (.softReset p src w) s = .next t ∧ p ∈ t.resetting ∧ t.commits = s.commits.filter (fun q => q ≠ p) ∧ t.reg (p * 0x1000 + 0x08) = pageCtrlReset p ∧ t.reg (p * 0x1000 + 0x14) = 0 ∧ t.reg (p * 0x1000 + 0x28) = 0 ∧ t.med = s.med) ∧
  (∀ (s : State) (p : Nat), 
    ∃ t, exec (.softResetEnd p) s = .next t ∧ t = { s with resetting := s.resetting.filter (fun q => q ≠ p) }) ∧
  (∀ (s : State) (p : Nat) (src : Source) (w : Word), s.pageOpen p 8 = true → src ≠ .i3c → s.pageState p ≠ 3 → s.cfgLock p = false → 
    ∃ t, exec (.commit p src w) s = .next t ∧ p ∈ t.commits ∧ t.applied = s.applied ∧ t.med = s.med) ∧
  (∀ (s : State) (p : Nat) (src : Source) (w : Word), s.pageOpen p 0x18 = true → src ≠ .i3c → s.cmdLock p = false → 
    ∃ t, exec (.intForce p src w) s = .next t ∧ t.reg (p * 0x1000 + 0x10) = s.reg (p * 0x1000 + 0x10) ||| (w.toNat &&& intMask p) ∧ t.applied = s.applied ∧ t.med = s.med) ∧
  (∀ (s : State) (p : Nat) (src : Source) (w : Word), s.pageOpen p 0x2C = true → src ≠ .i3c → bitsOf w.toNat 15 8 = 0x4C → 
    ∃ t, exec (.lock p src w) s = .next t ∧ t.reg (p * 0x1000 + 0x2C) = s.reg (p * 0x1000 + 0x2C) ||| bitsOf w.toNat 31 30 * 2 ^ 30 ∧ t.out = s.out) ∧
  (∀ (s : State) (p : Nat) (src : Source) (w : Word), s.pageOpen p 0x14 = true → src ≠ .i3c → 
    ∃ t, exec (.registerWrite src (p * 0x1000 + 0x14) w {}) s = .next t ∧ t.reg (p * 0x1000 + 0x14) = w.toNat &&& intMask p ∧ t.applied = s.applied ∧ t.med = s.med)

/-- On an open page without the lock that refuses them: a write of CMP_LO arms the comparison; FORCE_FAIL with its guard fails every die that it names, with cause 5 where the die had not failed; GROUP_COMMIT makes an open group drain and GROUP_ABORT aborts one of a region without keys; TRIM_GO starts a trim within the user segments; QUERY starts a query; EPOCH_ADVANCE adds to the units that wait; INSPECT_SEL captures a set (R52, R112, R203, R206, R207, R216, R273, R293) -/
def Obligations.TranslationAndDriftWritesComplete : Prop :=
  (∀ (s : State) (src : Source) (w : Word), s.pageOpen 0x01 0x90 = true → s.cfgLock 0x01 = false → src ≠ .i3c → 
    ∃ t, exec (.cmpLoWrite src w) s = .next t ∧ t.bw.cmpArmed = true ∧ t.reg 0x01090 = w.toNat) ∧
  (∀ (s : State) (src : Source) (w : Word) (st : Nat), s.pageOpen (4 + st) 0x44 = true → s.cmdLock (4 + st) = false → src ≠ .i3c → bitsOf w.toNat 15 8 = 0xA5 → st < 5 → 
    ∃ t, exec (.forceFail st src w) s = .next t ∧ (∀ n ∈ List.range 8, bitOf w.toNat n = true → dieAt st n < s.nDies → t.dieFailed (dieAt st n) = true ∧ (s.dieFailed (dieAt st n) = false → SMap.get (fun _ => 0) t.pnv.failed (dieAt st n) = 5)) ∧ t.med = s.med) ∧
  (∀ (s : State) (src : Source) (w : Word) (i : Nat), s.pageOpen 0x0B 0x70 = true → s.cmdLock 0x0B = false → src ≠ .i3c → s.openGroup (bitsOf w.toNat 7 0) = some i → (s.group i).st = .opened → 
    ∃ t, exec (.groupCommit src w) s = .next t ∧ t.group i = { s.group i with st := .draining } ∧ t.regs = s.regs ∧ t.med = s.med ∧ t.xlt.map = s.xlt.map) ∧
  (∀ (s : State) (src : Source) (w : Word) (i : Nat), s.pageOpen 0x0B 0x70 = true → s.cmdLock 0x0B = false → src ≠ .i3c → s.openGroup (bitsOf w.toNat 7 0) = some i → (s.group i).st = .opened → (s.region (s.group i).region).keyed = false → 
    ∃ t, exec (.groupAbort src w) s = .next t ∧ t.group i = { st := .aborted, region := (s.group i).region } ∧ t.med = s.med ∧ t.xlt.map = s.xlt.map) ∧
  (∀ (s : State) (src : Source) (w : Word), s.pageOpen 0x0B 0x68 = true → s.cmdLock 0x0B = false → src ≠ .i3c → bitsOf w.toNat 15 8 = 0x5A → s.fld Reg.XLT.TRIM_COUNT.COUNT ≠ 0 → s.fld Reg.XLT.TRIM_START.FIRST + s.fld Reg.XLT.TRIM_COUNT.COUNT ≤ s.fld Reg.XLT.USER_SEGS.USER_SEGS → s.xlt.trim.busy = false → (s.regionsIn (s.fld Reg.XLT.TRIM_START.FIRST) (s.fld Reg.XLT.TRIM_COUNT.COUNT)).any s.hasGroup = false → 
    ∃ t, exec (.trimGo src w) s = .next t ∧ t.xlt.trim = { busy := true, first := s.fld Reg.XLT.TRIM_START.FIRST, count := s.fld Reg.XLT.TRIM_COUNT.COUNT, at_ := s.now } ∧ t.flag Reg.XLT.STATUS.TRIM_BUSY = true ∧ t.fld Reg.XLT.TRIM_PROGRESS.DONE = 0 ∧ t.med = s.med ∧ t.xlt.map = s.xlt.map) ∧
  (∀ (s : State) (src : Source) (w : Word), s.pageOpen 0x0B 0x58 = true → s.cfgLock 0x0B = false → src ≠ .i3c → 
    ∃ t, exec (.query src w) s = .next t ∧ t.xlt = { s.xlt with query := some (bitsOf w.toNat 29 0) } ∧ t.flag Reg.XLT.QUERY_RESULT.DONE = false) ∧
  (∀ (s : State) (src : Source) (w : Word), s.pageOpen 0x0E 0x54 = true → s.cmdLock 0x0E = false → src ≠ .i3c → 
    ∃ t, exec (.epochAdvance src w) s = .next t ∧ t.drift = { s.drift with advance := s.drift.advance + w.toNat } ∧ t.med = s.med) ∧
  (∀ (s : State) (src : Source) (w : Word), s.pageOpen 0x0E 0xC0 = true → s.cfgLock 0x0E = false → src ≠ .i3c → 
    ∃ t, exec (.inspectSel src w) s = .next t ∧ t.drift = { s.drift with inspect := some s.now } ∧ t.flag Reg.DRF.INSPECT_SEL.READY = false ∧ t.med = s.med)

/-- On an open page without CMD_LOCK and with their guards: CLEAN, INVALIDATE and both start for lines by address, for one set and way, and for a whole cache, with the lines that they examine; a retrain of a link that is up enters Recovery; a flush empties the pen; INSTALL, REKEY and REMOVE take the key unit and make it BUSY; ERUPT in SERVICE erases every key and records the Eruption; NEW_CHALLENGE draws a challenge; VERIFY without a challenge fails (R308, R328, R448, R513, R537, R556, R592, R594, R559) -/
def Obligations.MaintenanceLinkAndKeyWritesComplete : Prop :=
  (∀ (s : State) (src : Source) (w : Word), s.pageOpen 0x11 0x4C = true → s.cmdLock 0x11 = false → src ≠ .i3c → bitsOf w.toNat 29 28 = 0 → bitsOf w.toNat 27 24 ≠ 15 → s.caches.maint = none → (s.flag Reg.L2C.MAINT_ADDR_HI.SPACE = false ∨ s.fld Reg.L2C.MAINT_ADDR_HI.KEYID = 0) → 
    ∃ t, exec (.maintClean src w) s = .next t ∧ t.caches.maint.map (fun m => (m.op, m.mode, m.cache, m.lines)) = some (1, 0, bitsOf w.toNat 27 24, bitsOf w.toNat 15 0 + 1) ∧ t.fld Reg.L2C.MAINT_STATUS.LINES_DONE = 0 ∧ t.caches.sets = s.caches.sets ∧ t.med = s.med) ∧
  (∀ (s : State) (src : Source) (w : Word), s.pageOpen 0x11 0x4C = true → s.cmdLock 0x11 = false → src ≠ .i3c → bitsOf w.toNat 29 28 = 1 → bitsOf w.toNat 27 24 ≠ 15 → s.caches.maint = none → s.fld Reg.L2C.MAINT_SETWAY.WAY < cacheWays (bitsOf w.toNat 27 24) → s.fld Reg.L2C.MAINT_SETWAY.SET < cacheSets (bitsOf w.toNat 27 24) → 
    ∃ t, exec (.maintClean src w) s = .next t ∧ t.caches.maint.map (fun m => (m.op, m.mode, m.cache, m.lines)) = some (1, 1, bitsOf w.toNat 27 24, 1) ∧ t.fld Reg.L2C.MAINT_STATUS.LINES_DONE = 0 ∧ t.caches.sets = s.caches.sets ∧ t.med = s.med) ∧
  (∀ (s : State) (src : Source) (w : Word), s.pageOpen 0x11 0x4C = true → s.cmdLock 0x11 = false → src ≠ .i3c → bitsOf w.toNat 29 28 = 2 → bitsOf w.toNat 27 24 ≠ 15 → s.caches.maint = none → 
    ∃ t, exec (.maintClean src w) s = .next t ∧ t.caches.maint.map (fun m => (m.op, m.mode, m.cache, m.lines)) = some (1, 2, bitsOf w.toNat 27 24, cacheSets (bitsOf w.toNat 27 24) * cacheWays (bitsOf w.toNat 27 24) * (if bitsOf w.toNat 27 24 = 0 then 16 else 1)) ∧ t.fld Reg.L2C.MAINT_STATUS.LINES_DONE = 0 ∧ t.caches.sets = s.caches.sets ∧ t.med = s.med) ∧
  (∀ (s : State) (src : Source) (w : Word), s.pageOpen 0x11 0x4C = true → s.cmdLock 0x11 = false → src ≠ .i3c → bitsOf w.toNat 29 28 = 0 → bitsOf w.toNat 27 24 ≠ 15 → s.caches.maint = none → (s.flag Reg.L2C.MAINT_ADDR_HI.SPACE = false ∨ s.fld Reg.L2C.MAINT_ADDR_HI.KEYID = 0) → 
    ∃ t, exec (.maintInvalidate src w) s = .next t ∧ t.caches.maint.map (fun m => (m.op, m.mode, m.cache, m.lines)) = some (2, 0, bitsOf w.toNat 27 24, bitsOf w.toNat 15 0 + 1) ∧ t.fld Reg.L2C.MAINT_STATUS.LINES_DONE = 0 ∧ t.caches.sets = s.caches.sets ∧ t.med = s.med) ∧
  (∀ (s : State) (src : Source) (w : Word), s.pageOpen 0x11 0x4C = true → s.cmdLock 0x11 = false → src ≠ .i3c → bitsOf w.toNat 29 28 = 1 → bitsOf w.toNat 27 24 ≠ 15 → s.caches.maint = none → s.fld Reg.L2C.MAINT_SETWAY.WAY < cacheWays (bitsOf w.toNat 27 24) → s.fld Reg.L2C.MAINT_SETWAY.SET < cacheSets (bitsOf w.toNat 27 24) → 
    ∃ t, exec (.maintInvalidate src w) s = .next t ∧ t.caches.maint.map (fun m => (m.op, m.mode, m.cache, m.lines)) = some (2, 1, bitsOf w.toNat 27 24, 1) ∧ t.fld Reg.L2C.MAINT_STATUS.LINES_DONE = 0 ∧ t.caches.sets = s.caches.sets ∧ t.med = s.med) ∧
  (∀ (s : State) (src : Source) (w : Word), s.pageOpen 0x11 0x4C = true → s.cmdLock 0x11 = false → src ≠ .i3c → bitsOf w.toNat 29 28 = 2 → bitsOf w.toNat 27 24 ≠ 15 → s.caches.maint = none → 
    ∃ t, exec (.maintInvalidate src w) s = .next t ∧ t.caches.maint.map (fun m => (m.op, m.mode, m.cache, m.lines)) = some (2, 2, bitsOf w.toNat 27 24, cacheSets (bitsOf w.toNat 27 24) * cacheWays (bitsOf w.toNat 27 24) * (if bitsOf w.toNat 27 24 = 0 then 16 else 1)) ∧ t.fld Reg.L2C.MAINT_STATUS.LINES_DONE = 0 ∧ t.caches.sets = s.caches.sets ∧ t.med = s.med) ∧
  (∀ (s : State) (src : Source) (w : Word), s.pageOpen 0x11 0x4C = true → s.cmdLock 0x11 = false → src ≠ .i3c → bitsOf w.toNat 29 28 = 0 → bitsOf w.toNat 27 24 ≠ 15 → s.caches.maint = none → (s.flag Reg.L2C.MAINT_ADDR_HI.SPACE = false ∨ s.fld Reg.L2C.MAINT_ADDR_HI.KEYID = 0) → 
    ∃ t, exec (.maintCleanInvalidate src w) s = .next t ∧ t.caches.maint.map (fun m => (m.op, m.mode, m.cache, m.lines)) = some (3, 0, bitsOf w.toNat 27 24, bitsOf w.toNat 15 0 + 1) ∧ t.fld Reg.L2C.MAINT_STATUS.LINES_DONE = 0 ∧ t.caches.sets = s.caches.sets ∧ t.med = s.med) ∧
  (∀ (s : State) (src : Source) (w : Word), s.pageOpen 0x11 0x4C = true → s.cmdLock 0x11 = false → src ≠ .i3c → bitsOf w.toNat 29 28 = 1 → bitsOf w.toNat 27 24 ≠ 15 → s.caches.maint = none → s.fld Reg.L2C.MAINT_SETWAY.WAY < cacheWays (bitsOf w.toNat 27 24) → s.fld Reg.L2C.MAINT_SETWAY.SET < cacheSets (bitsOf w.toNat 27 24) → 
    ∃ t, exec (.maintCleanInvalidate src w) s = .next t ∧ t.caches.maint.map (fun m => (m.op, m.mode, m.cache, m.lines)) = some (3, 1, bitsOf w.toNat 27 24, 1) ∧ t.fld Reg.L2C.MAINT_STATUS.LINES_DONE = 0 ∧ t.caches.sets = s.caches.sets ∧ t.med = s.med) ∧
  (∀ (s : State) (src : Source) (w : Word), s.pageOpen 0x11 0x4C = true → s.cmdLock 0x11 = false → src ≠ .i3c → bitsOf w.toNat 29 28 = 2 → bitsOf w.toNat 27 24 ≠ 15 → s.caches.maint = none → 
    ∃ t, exec (.maintCleanInvalidate src w) s = .next t ∧ t.caches.maint.map (fun m => (m.op, m.mode, m.cache, m.lines)) = some (3, 2, bitsOf w.toNat 27 24, cacheSets (bitsOf w.toNat 27 24) * cacheWays (bitsOf w.toNat 27 24) * (if bitsOf w.toNat 27 24 = 0 then 16 else 1)) ∧ t.fld Reg.L2C.MAINT_STATUS.LINES_DONE = 0 ∧ t.caches.sets = s.caches.sets ∧ t.med = s.med) ∧
  (∀ (s : State) (src : Source) (w : Word), s.pageOpen 0x18 0x44 = true → s.cmdLock 0x18 = false → src ≠ .i3c → s.link.up = true → s.link.recovery = false → 
    ∃ t, exec (.linkRetrain src w) s = .next t ∧ t.link.recovery = true ∧ t.link.retraining = true ∧ t.fld Reg.HLK.RECOVERIES.RECOVERIES = (s.fld Reg.HLK.RECOVERIES.RECOVERIES + 1) % (Reg.HLK.RECOVERIES.RECOVERIES.max + 1) ∧ t.reads.list.length = s.reads.list.length) ∧
  (∀ (s : State) (src : Source) (w : Word) (pen : Nat), s.pageOpen 0x1B (0x100 + 0x20 * pen) = true → s.cmdLock 0x1B = false → src ≠ .i3c → pen < 64 → 
    ∃ t, exec (.penFlush pen src w) s = .next t ∧ t.strm.packets = s.strm.packets.filter (fun k => decide (k.pen ≠ pen)) ∧ t.fld (Reg.PEN.STATUS.QUEUED pen) = 0 ∧ t.med = s.med) ∧
  (∀ (s : State) (src : Source) (w : Word), s.pageOpen 0x21 0x70 = true → s.cmdLock 0x21 = false → src ≠ .i3c → bitsOf w.toNat 15 8 = 0xC3 → s.flag Reg.KEY.OP_STATUS.BUSY = false → 
    ∃ t, exec (.install src w) s = .next t ∧ t.prot.op.map (fun o => (o.op, o.slot, o.persist)) = some (1, bitsOf w.toNat 5 0, bitOf w.toNat 29) ∧ t.prot.slots = s.prot.slots ∧ t.flag Reg.KEY.OP_STATUS.BUSY = true ∧ t.fld Reg.KEY.OP_STATUS.SLOT = bitsOf w.toNat 5 0 ∧ t.med = s.med) ∧
  (∀ (s : State) (src : Source) (w : Word), s.pageOpen 0x21 0x70 = true → s.cmdLock 0x21 = false → src ≠ .i3c → bitsOf w.toNat 15 8 = 0xC3 → s.flag Reg.KEY.OP_STATUS.BUSY = false → 
    ∃ t, exec (.rekey src w) s = .next t ∧ t.prot.op.map (fun o => (o.op, o.slot, o.persist)) = some (2, bitsOf w.toNat 5 0, bitOf w.toNat 29) ∧ t.prot.slots = s.prot.slots ∧ t.flag Reg.KEY.OP_STATUS.BUSY = true ∧ t.fld Reg.KEY.OP_STATUS.SLOT = bitsOf w.toNat 5 0 ∧ t.med = s.med) ∧
  (∀ (s : State) (src : Source) (w : Word), s.pageOpen 0x21 0x70 = true → s.cmdLock 0x21 = false → src ≠ .i3c → bitsOf w.toNat 15 8 = 0xC3 → s.flag Reg.KEY.OP_STATUS.BUSY = false → 
    ∃ t, exec (.remove src w) s = .next t ∧ t.prot.op.map (fun o => (o.op, o.slot, o.persist)) = some (3, bitsOf w.toNat 5 0, bitOf w.toNat 29) ∧ t.prot.slots = s.prot.slots ∧ t.flag Reg.KEY.OP_STATUS.BUSY = true ∧ t.fld Reg.KEY.OP_STATUS.SLOT = bitsOf w.toNat 5 0 ∧ t.med = s.med) ∧
  (∀ (s : State) (src : Source) (w : Word), s.pageOpen 0x23 0x58 = true → s.cmdLock 0x23 = false → src ≠ .i3c → bitsOf w.toNat 15 8 = 0x3C → s.dev.st = .service → s.pwr.standby = false → s.flag Reg.ALM.STATUS.ZEROISING = false → 
    ∃ t, exec (.erupt src w) s = .next t ∧ t.prot.slots = [] ∧ t.pnv.erupted = true ∧ t.pnv.cause = 0x80 ∧ t.pnv.eruptions = min (s.pnv.eruptions + 1) 0xFFFF ∧ t.flag Reg.ALM.STATUS.ZEROISING = true ∧ t.flag Reg.ALM.STATUS.ERUPTED = true ∧ t.link.ideKeys = false ∧ t.med = s.med) ∧
  (∀ (s : State) (src : Source) (w : Word), s.pageOpen 0x23 0x60 = true → s.cmdLock 0x23 = false → src ≠ .i3c → bitOf w.toNat 30 = false → 
    ∃ t, exec (.newChallenge src w) s = .next t ∧ t.prot = { s.prot with challenge := true } ∧ t.drawn = s.drawn + 1 ∧ t.pnv = s.pnv ∧ t.out = s.out) ∧
  (∀ (s : State) (src : Source) (w : Word), s.pageOpen 0x23 0x60 = true → s.cmdLock 0x23 = false → src ≠ .i3c → bitOf w.toNat 31 = false → s.prot.challenge = false → bitOf s.prot.tremors.toNat 6 = true → 
    ∃ t, exec (.verify src w) s = .next t ∧ t.prot.challenge = false ∧ t.fld Reg.ALM.CLEAR_CTRL.RESULT = 2 ∧ t.prot.slots = s.prot.slots ∧ t.pnv.erupted = s.pnv.erupted)

/-- On an open page without CMD_LOCK and with their guards: EJECT powers off a seated cartridge that ends LOCKED; REMOUNT of a cartridge locked by removal of its key starts its power-up; COPY_GO and SAVE_GO with everything in order start the copy and the save; FAULT_CLEAR clears PWR_FAULT; STANDBY in SERVICE with nothing in the way starts to drain and flushes the Tally; RESUME over the sideband, with nothing found wrong, leaves standby (R626, R627, R635, R649, R654, R666, R675, R676) -/
def Obligations.CartridgeAndPowerWritesComplete : Prop :=
  (∀ (s : State) (src : Source) (w : Word) (n : Nat), s.pageOpen (0x28 + n) 0x44 = true → s.cmdLock (0x28 + n) = false → src ≠ .i3c → bitsOf w.toNat 15 8 = 0xE7 → n < 2 → bitOf w.toNat 0 = false → s.cartSeated n = true → s.zlState n ≠ zlPoweringOff → s.zlState n ≠ zlEmpty → 
    ∃ t, exec (.eject n src w) s = .next t ∧ t.zlState n = zlPoweringOff ∧ (t.zl n).after = zlLocked ∧ (t.zl n).cmds = [] ∧ (t.zl n).power = false ∧ t.med = s.med) ∧
  (∀ (s : State) (src : Source) (w : Word) (n : Nat), s.pageOpen (0x28 + n) 0x44 = true → s.cmdLock (0x28 + n) = false → src ≠ .i3c → bitsOf w.toNat 15 8 = 0xE7 → n < 2 → bitOf w.toNat 1 = false → s.zlState n = zlLocked → s.fld (Reg.ZL.STATUS.AUTH_CAUSE n) = 9 → s.canBringUp n = true → 
    ∃ t, exec (.remount n src w) s = .next t ∧ t.zlState n = zlPowering ∧ (t.zl n).power = true ∧ (t.zl n).stepAt = s.now ∧ t.fld (Reg.ZL.STATUS.AUTH_CAUSE n) = 0 ∧ t.med = s.med) ∧
  (∀ (s : State) (src : Source) (w : Word) (n : Nat), s.pageOpen (0x28 + n) 0x8C = true → s.cmdLock (0x28 + n) = false → src ≠ .i3c → bitsOf w.toNat 23 16 = 0x7E → n < 2 → s.flag (Reg.ZL.COPY_STATUS.BUSY n) = false → s.cartMounted n = true → s.cartRight n 2 = true → s.fld (Reg.ZL.COPY_SRC.SEG n) + (bitsOf w.toNat 15 0 + 1) ≤ s.cartSegs n → s.dpaInternal (s.fld (Reg.ZL.COPY_DST_HI.DPA_HI n) * 2 ^ 32 + s.fld (Reg.ZL.COPY_DST_LO.DPA_LO n) * 4096) = true → s.dpaInternal (s.fld (Reg.ZL.COPY_DST_HI.DPA_HI n) * 2 ^ 32 + s.fld (Reg.ZL.COPY_DST_LO.DPA_LO n) * 4096 + 4096 * (bitsOf w.toNat 15 0 + 1) - 1) = true → (s.checkRange clsCart true (s.fld (Reg.ZL.COPY_DST_HI.DPA_HI n) * 2 ^ 32 + s.fld (Reg.ZL.COPY_DST_LO.DPA_LO n) * 4096) (4096 * (bitsOf w.toNat 15 0 + 1)) (s.fld (Reg.ZL.COPY_DST_HI.KEYID n))).1 = 0 → 
    ∃ t, exec (.copyGo n src w) s = .next t ∧ (t.zl n).copy = some { src := 16 * s.fld (Reg.ZL.COPY_SRC.SEG n), dst := s.fld (Reg.ZL.COPY_DST_HI.DPA_HI n) * 2 ^ 32 + s.fld (Reg.ZL.COPY_DST_LO.DPA_LO n) * 4096, keyid := s.fld (Reg.ZL.COPY_DST_HI.KEYID n), total := 16 * (bitsOf w.toNat 15 0 + 1) } ∧ t.flag (Reg.ZL.COPY_STATUS.BUSY n) = true ∧ t.med = s.med) ∧
  (∀ (s : State) (src : Source) (w : Word) (n : Nat), s.pageOpen (0x28 + n) 0xAC = true → s.cmdLock (0x28 + n) = false → src ≠ .i3c → bitsOf w.toNat 15 8 = 0x5E → n < 2 → s.flag (Reg.ZL.SAVE_STATUS.BUSY n) = false → s.cartMounted n = true → s.fld (Reg.ZL.CONTENT.CONTENT_SEGS n) ≤ s.fld (Reg.ZL.SAVE_SEG.SEG n) → s.fld (Reg.ZL.SAVE_SEG.SEG n) < s.cartSegs n → s.irq.busMaster = true → 
    ∃ t, exec (.saveGo n src w) s = .next t ∧ (t.zl n).save = some { seg := s.fld (Reg.ZL.SAVE_SEG.SEG n) } ∧ t.flag (Reg.ZL.SAVE_STATUS.BUSY n) = true ∧ t.strm.nextTag = s.strm.nextTag + 8 ∧ t.strm.hostReads.length = s.strm.hostReads.length + 8 ∧ t.out.length = s.out.length + 8) ∧
  (∀ (s : State) (src : Source) (w : Word), s.pageOpen 0x30 0x40 = true → s.cmdLock 0x30 = false → bitsOf w.toNat 15 8 = 0x96 → bitOf w.toNat 30 = false → bitOf w.toNat 31 = false → 
    ∃ t, exec (.faultClear src w) s = .next t ∧ t.flag Reg.PWR.STATUS.PWR_FAULT = false ∧ t.out = s.out ∧ t.med = s.med) ∧
  (∀ (s : State) (src : Source) (w : Word), s.pageOpen 0x30 0x40 = true → s.cmdLock 0x30 = false → bitsOf w.toNat 15 8 = 0x96 → bitOf w.toNat 30 = false → bitOf w.toNat 29 = false → s.serving = true → s.pwr.standby = false → s.strm.reqs = [] → s.xlt.trim.busy = false → s.xlt.groups = [] → 
    ∃ t, exec (.standby src w) s = .next t ∧ t.pwr = { s.pwr with standbyWait := true } ∧ t.tally.flush.running = true ∧ t.med = s.med ∧ t.xlt.map = s.xlt.map) ∧
  (∀ (s : State) (src : Source) (w : Word), s.pageOpen 0x30 0x40 = true → s.cmdLock 0x30 = false → bitsOf w.toNat 15 8 = 0x96 → src = .i3c → bitOf w.toNat 31 = false → bitOf w.toNat 29 = false → s.serving = true → s.pwr.standby = true → s.pwr.keptFault = none → s.pnv.latched = 0 → 
    ∃ t, exec (.resume src w {}) s = .next t ∧ t.pwr.standby = false ∧ t.pwr.ctrlOn = true ∧ t.dev.resuming = true ∧ t.dev.rotaPending = true ∧ t.fld Reg.DEV.START.KIND = 3 ∧ t.med = s.med)

/-- On an open page without the lock that refuses them and with their guards: a march test starts on its bank; a flush of the Tally starts; READ_SEL captures a record and is not ready; CLEAR waits for the bell boundary; END_SESSION ends a level 2 session; L2_LOCK sets its lock and ends the session (R749, R762, R779, R799, R824, R828, R842) -/
def Obligations.MemoryTallyAndDebugWritesComplete : Prop :=
  (∀ (s : State) (src : Source) (w : Word), s.pageOpen 0x38 0x40 = true → s.cmdLock 0x38 = false → src ≠ .i3c → bitsOf w.toNat 15 8 = 0xA9 → s.srm.march = none → bitsOf w.toNat 4 0 ≤ 23 → s.mayWipe (bitsOf w.toNat 4 0) = true → 
    ∃ t, exec (.marchDestructive src w) s = .next t ∧ t.srm.march = some (bitsOf w.toNat 4 0, 0) ∧ t.flag Reg.SRM.MARCH_STATUS.BUSY = true ∧ t.fld Reg.SRM.MARCH_STATUS.BANK = bitsOf w.toNat 4 0 ∧ t.out = s.out) ∧
  (∀ (s : State) (src : Source) (w : Word), s.pageOpen 0x38 0x40 = true → s.cmdLock 0x38 = false → src ≠ .i3c → bitsOf w.toNat 15 8 = 0xA9 → s.srm.march = none → bitsOf w.toNat 4 0 ≤ 23 → 
    ∃ t, exec (.marchPreserving src w) s = .next t ∧ t.srm.march = some (bitsOf w.toNat 4 0, 1) ∧ t.flag Reg.SRM.MARCH_STATUS.BUSY = true ∧ t.fld Reg.SRM.MARCH_STATUS.BANK = bitsOf w.toNat 4 0 ∧ t.out = s.out) ∧
  (∀ (s : State) (src : Source) (w : Word), s.pageOpen 0x3A 0x44 = true → s.cmdLock 0x3A = false → src ≠ .i3c → bitsOf w.toNat 15 8 = 0x71 → s.tally.flush.running = false → 
    ∃ t, exec (.tallyFlush src w) s = .next t ∧ t.tally = { s.tally with flush := { s.tally.flush with running := true, deferred := false, lastStart := some s.clk.bell } } ∧ t.out = s.out) ∧
  (∀ (s : State) (src : Source) (w : Word), s.pageOpen 0x3A 0x50 = true → s.cfgLock 0x3A = false → src ≠ .i3c → 
    ∃ t, exec (.readSel src w) s = .next t ∧ t.flag Reg.TLY.READ_SEL.READY = false ∧ t.flag Reg.TLY.READ_SEL.VALID = false ∧ t.fld Reg.TLY.READ_SEL.INDEX = bitsOf w.toNat 12 0 ∧ t.tally.buf = s.tally.buf ∧ t.tally.ring = s.tally.ring) ∧
  (∀ (s : State) (src : Source) (w : Word), s.pageOpen 0x3C 0x40 = true → s.cmdLock 0x3C = false → src ≠ .i3c → 
    ∃ t, exec (.clear src w) s = .next t ∧ t.pmc = { s.pmc with clear := true } ∧ t.out = s.out) ∧
  (∀ (s : State) (src : Source) (w : Word), s.pageOpen 0x3D 0x44 = true → s.cmdLock 0x3D = false → src ≠ .i3c → bitsOf w.toNat 15 8 = 0xD2 → s.fld Reg.DBG.STATUS.LEVEL = 2 → bitOf w.toNat 1 = false → 
    ∃ t, exec (.endSession src w) s = .next t ∧ t.fld Reg.DBG.STATUS.LEVEL = 1 ∧ t.flag Reg.DBG.INT_STATUS.SESSION_END = true ∧ t.dbg = s.dbg) ∧
  (∀ (s : State) (src : Source) (w : Word), s.pageOpen 0x3D 0x44 = true → s.cmdLock 0x3D = false → src ≠ .i3c → bitsOf w.toNat 15 8 = 0xD2 → 
    ∃ t, exec (.l2Lock src w) s = .next t ∧ t.dbg = { s.dbg with lock := true } ∧ t.fld Reg.DBG.STATUS.LEVEL ≠ 2)

/-- RD_SHARED and RD_OWN of a live core stop, and a stash write, to a line that is not busy and whose slice has a free entry are entered and start a transaction whose snoop, with the code and the stops of R344, leaves in the next clk that its home has a place for; RD_STREAM of a stream stop is completed at once, by COMP alone where the L2 has not the line and by its data and COMP where it has; a stash fill that is taken sends its line to its target and COMP; a fill of the crypto engine that arrives and is not stale goes on to its target; a snoop of each of the five codes passes its stop, whatever it meets there; an owner that SNP_OWN meets owes its follow-up; a snoop that is back while a follow-up is owed waits for it, and otherwise an owner's RD_SHARED ends with COMP (R341, R342, R344, R345, R346, R347, R348, R353) -/
def Obligations.RingRequestsAndSnoopsComplete : Prop :=
  (∀ (s : State) (stop addr p : Nat) (errs : List ArrErr) (mem : Option MemErr), stop ∈ coreStops → s.stopDead stop = false → s.ring.parked.any (fun y => decide (y.stop = stop) && decide (y.line = ownLine addr)) = false → s.req stop (ownLine addr) = none → s.ring.reqs.any (fun y => y.stop = stop && y.st = .held && decide (y.line.home = (ownLine addr).home)) = false → s.resetting.contains 0x11 = false → (s.at_ p).entryFree (l2Slice (ownLine addr).addr) = true → (s.at_ p).lineBusy (ownLine addr) = false → s.wbPending (ownLine addr) = false → s.creditWaits (ownLine addr) = false → 
    ∃ t, exec (.rdShared stop ⟨addr, errs, mem⟩ p) s = .next t ∧ t.ring.reqs = s.ring.reqs ++ [({ stop, op := .rdShared, line := ownLine addr, mem } : RReq)] ∧ t.ring.txs = s.ring.txs ++ [{ RReq.tx ({ stop, op := .rdShared, line := ownLine addr, mem }) false with id := s.ring.next, at_ := snoopClk ({ stop, op := .rdShared, line := ownLine addr, mem } : RReq).line.home s.ring.txs (32 + s.ring.txs.length) ((s.clk.bell * 4096 + p % 4096) + 1) }] ∧ t.ring.next = s.ring.next + 1 ∧ t.ring.msgs = s.ring.msgs) ∧
  (∀ (s : State) (stop addr p : Nat) (d : Line) (k : Mask) (errs : List ArrErr) (mem : Option MemErr), stop ∈ coreStops → s.stopDead stop = false → s.ring.parked.any (fun y => decide (y.stop = stop) && decide (y.line = ownLine addr)) = false → s.req stop (ownLine addr) = none → s.ring.reqs.any (fun y => y.stop = stop && y.st = .held && decide (y.line.home = (ownLine addr).home)) = false → s.resetting.contains 0x11 = false → (s.at_ p).entryFree (l2Slice (ownLine addr).addr) = true → (s.at_ p).lineBusy (ownLine addr) = false → s.wbPending (ownLine addr) = false → s.creditWaits (ownLine addr) = false → 
    ∃ t, exec (.rdOwn stop ⟨addr, errs, mem⟩ d k p) s = .next t ∧ t.ring.reqs = s.ring.reqs ++ [({ stop, op := .rdOwn, line := ownLine addr, store := d, mask := k, mem } : RReq)] ∧ t.ring.txs = s.ring.txs ++ [{ RReq.tx ({ stop, op := .rdOwn, line := ownLine addr, store := d, mask := k, mem }) false with id := s.ring.next, at_ := snoopClk ({ stop, op := .rdOwn, line := ownLine addr, store := d, mask := k, mem } : RReq).line.home s.ring.txs (32 + s.ring.txs.length) ((s.clk.bell * 4096 + p % 4096) + 1) }] ∧ t.ring.next = s.ring.next + 1 ∧ t.ring.msgs = s.ring.msgs) ∧
  (∀ (s : State) (stop keyid a p : Nat) (errs : List ArrErr) (mem : Option MemErr), (stop = 7 ∨ stop = 23) → s.stopDead stop = false → s.ring.parked.any (fun y => decide (y.stop = stop) && decide (y.line = hostLine a keyid)) = false → s.req stop (hostLine a keyid) = none → s.ring.reqs.any (fun y => y.stop = stop && y.st = .held && decide (y.line.home = (hostLine a keyid).home)) = false → s.resetting.contains 0x11 = false → (s.at_ p).entryFree (l2Slice (hostLine a keyid).addr) = true → s.lineAt 0 (hostLine a keyid) = none → 
    ∃ t, exec (.rdStream stop keyid ⟨a, errs, mem⟩ p) s = .next t ∧ t.ring.reqs = s.ring.reqs ++ [({ stop, op := .rdStream, line := hostLine a keyid, granted := true } : RReq)] ∧ t.ring.msgs = (s.at_ p).schedule (s.ring.msgs) { id := s.ring.next, ty := .comp, src := (hostLine a keyid).home, dst := stop, line := hostLine a keyid, ready := (s.clk.bell * 4096 + p % 4096) + 1, sent := (s.clk.bell * 4096 + p % 4096) + 1 }) ∧
  (∀ (s : State) (stop keyid a p w : Nat) (mem : Option MemErr) (x : CLine), (stop = 7 ∨ stop = 23) → s.stopDead stop = false → s.ring.parked.any (fun y => decide (y.stop = stop) && decide (y.line = hostLine a keyid)) = false → s.req stop (hostLine a keyid) = none → s.ring.reqs.any (fun y => y.stop = stop && y.st = .held && decide (y.line.home = (hostLine a keyid).home)) = false → s.resetting.contains 0x11 = false → (s.at_ p).entryFree (l2Slice (hostLine a keyid).addr) = true → s.caches.errs = [] → s.lineAt 0 (hostLine a keyid) = some (w, x) → 
    ∃ t, exec (.rdStream stop keyid ⟨a, [], mem⟩ p) s = .next t ∧ t.ring.msgs = (s.at_ p).schedule ((s.at_ p).schedule (s.ring.msgs) { id := s.ring.next, ty := .data x.data x.poison, src := (hostLine a keyid).home, dst := stop, line := hostLine a keyid, ready := (s.clk.bell * 4096 + p % 4096) + 1, sent := (s.clk.bell * 4096 + p % 4096) + 1 }) { id := s.ring.next + 1, ty := .comp, src := (hostLine a keyid).home, dst := stop, line := hostLine a keyid, ready := (s.clk.bell * 4096 + p % 4096) + 1, sent := (s.clk.bell * 4096 + p % 4096) + 1 }) ∧
  (∀ (s : State) (agent target keyid addr p : Nat) (internal : Bool) (d : Line) (k : Mask), s.stopDead (agentStop agent) = false → s.ring.parked.any (fun y => decide (y.stop = (agentStop agent)) && decide (y.line = stashedLine internal keyid addr)) = false → s.req (agentStop agent) (stashedLine internal keyid addr) = none → s.ring.reqs.any (fun y => y.stop = (agentStop agent) && y.st = .held && decide (y.line.home = (stashedLine internal keyid addr).home)) = false → s.resetting.contains 0x11 = false → (s.at_ p).entryFree (l2Slice (stashedLine internal keyid addr).addr) = true → (internal = false ∨ ((s.at_ p).lineBusy (stashedLine internal keyid addr) = false ∧ s.wbPending (stashedLine internal keyid addr) = false ∧ s.creditWaits (stashedLine internal keyid addr) = false)) → 
    ∃ t, exec (.stashWrite agent target internal keyid addr d k p) s = .next t ∧ t.ring.reqs = s.ring.reqs ++ [({ stop := agentStop agent, op := .stashWrite, line := stashedLine internal keyid addr, store := d, mask := k, target := stashTarget target, agent } : RReq)] ∧ t.ring.txs = s.ring.txs ++ [{ RReq.tx ({ stop := agentStop agent, op := .stashWrite, line := stashedLine internal keyid addr, store := d, mask := k, target := stashTarget target, agent }) false with id := s.ring.next, at_ := snoopClk ({ stop := agentStop agent, op := .stashWrite, line := stashedLine internal keyid addr, store := d, mask := k, target := stashTarget target, agent } : RReq).line.home s.ring.txs (32 + s.ring.txs.length) ((s.clk.bell * 4096 + p % 4096) + 1) }] ∧ t.ring.next = s.ring.next + 1 ∧ t.ring.msgs = s.ring.msgs) ∧
  (∀ (s : State) (agent target keyid addr p : Nat) (internal : Bool) (d : Line), agent ≤ 2 → 1 ≤ target → target ≤ 14 → s.stopDead (agentStop agent) = false → s.ring.parked.any (fun y => decide (y.stop = (agentStop agent)) && decide (y.line = stashedLine internal keyid addr)) = false → s.req (agentStop agent) (stashedLine internal keyid addr) = none → s.ring.reqs.any (fun y => y.stop = (agentStop agent) && y.st = .held && decide (y.line.home = (stashedLine internal keyid addr).home)) = false → s.resetting.contains 0x11 = false → (s.at_ p).entryFree (l2Slice (stashedLine internal keyid addr).addr) = true → s.stashRefused agent target (stashedLine internal keyid addr) = false → 
    ∃ t, exec (.stashFill agent target internal keyid addr d p) s = .next t ∧ t.ring.msgs = (s.at_ p).schedule ((s.at_ p).schedule (s.ring.msgs) { id := s.ring.next, ty := .stash target d false, src := (stashedLine internal keyid addr).home, dst := stopOf target, line := stashedLine internal keyid addr, ready := (s.clk.bell * 4096 + p % 4096) + 1, sent := (s.clk.bell * 4096 + p % 4096) + 1 }) { id := s.ring.next + 1, ty := .comp, src := (stashedLine internal keyid addr).home, dst := agentStop agent, line := stashedLine internal keyid addr, ready := (s.clk.bell * 4096 + p % 4096) + 1, sent := (s.clk.bell * 4096 + p % 4096) + 1 }) ∧
  (∀ (s : State) (m : RMsg) (target keyid addr p : Nat) (internal : Bool) (e d : Line), (s.at_ p).fillArrived target (stashedLine internal keyid addr) = some (m, d) → m.stale = false → s.noAlloc m.line.addr = false → 1 ≤ target → target ≤ 14 → s.stashRefused 3 target m.line = false → 
    ∃ t, exec (.stashFill 3 target internal keyid addr e p) s = .next t ∧ t.ring.msgs = (s.at_ p).schedule (s.ring.msgs.filter (fun y => y.id ≠ m.id)) { id := s.ring.next, ty := .stash target d false, src := m.line.home, dst := stopOf target, line := m.line, ready := (s.clk.bell * 4096 + p % 4096) + 1, sent := (s.clk.bell * 4096 + p % 4096) + 1 }) ∧
  (∀ (s : State) (x : RTx) (stop p : Nat) (parity : Bool), s.ring.txs.find? (fun y => y.id = x.id) = some x → x.snoop = 0 → stop ∈ x.mask → (s.clk.bell * 4096 + p % 4096) = x.at_ + (stop + 32 - x.line.home) % 32 → 
    ∃ t, exec (.snpShare x.id stop parity p) s = .next t ∧ (t.ring.txs.find? (fun y => y.id = x.id)).map (fun y => y.mask) = some (x.mask.filter (fun m => m ≠ stop)) ∧ t.ring.txs.length = s.ring.txs.length ∧ t.med = s.med) ∧
  (∀ (s : State) (x : RTx) (stop p : Nat) (parity : Bool), s.ring.txs.find? (fun y => y.id = x.id) = some x → x.snoop = 1 → stop ∈ x.mask → (s.clk.bell * 4096 + p % 4096) = x.at_ + (stop + 32 - x.line.home) % 32 → 
    ∃ t, exec (.snpOwn x.id stop parity p) s = .next t ∧ (t.ring.txs.find? (fun y => y.id = x.id)).map (fun y => y.mask) = some (x.mask.filter (fun m => m ≠ stop)) ∧ t.ring.txs.length = s.ring.txs.length ∧ t.med = s.med) ∧
  (∀ (s : State) (x : RTx) (stop p : Nat) (parity : Bool), s.ring.txs.find? (fun y => y.id = x.id) = some x → x.snoop = 2 → stop ∈ x.mask → (s.clk.bell * 4096 + p % 4096) = x.at_ + (stop + 32 - x.line.home) % 32 → 
    ∃ t, exec (.snpInv x.id stop parity p) s = .next t ∧ (t.ring.txs.find? (fun y => y.id = x.id)).map (fun y => y.mask) = some (x.mask.filter (fun m => m ≠ stop)) ∧ t.ring.txs.length = s.ring.txs.length ∧ t.med = s.med) ∧
  (∀ (s : State) (x : RTx) (stop p : Nat) (parity : Bool), s.ring.txs.find? (fun y => y.id = x.id) = some x → x.snoop = 3 → stop ∈ x.mask → (s.clk.bell * 4096 + p % 4096) = x.at_ + (stop + 32 - x.line.home) % 32 → 
    ∃ t, exec (.snpClean x.id stop parity p) s = .next t ∧ (t.ring.txs.find? (fun y => y.id = x.id)).map (fun y => y.mask) = some (x.mask.filter (fun m => m ≠ stop)) ∧ t.ring.txs.length = s.ring.txs.length ∧ t.med = s.med) ∧
  (∀ (s : State) (x : RTx) (stop p : Nat) (parity : Bool), s.ring.txs.find? (fun y => y.id = x.id) = some x → x.snoop = 4 → stop ∈ x.mask → (s.clk.bell * 4096 + p % 4096) = x.at_ + (stop + 32 - x.line.home) % 32 → 
    ∃ t, exec (.snpClinv x.id stop parity p) s = .next t ∧ (t.ring.txs.find? (fun y => y.id = x.id)).map (fun y => y.mask) = some (x.mask.filter (fun m => m ≠ stop)) ∧ t.ring.txs.length = s.ring.txs.length ∧ t.med = s.med) ∧
  (∀ (s : State) (x : RTx) (stop c w p : Nat) (y : CLine), s.ring.txs.find? (fun y => y.id = x.id) = some x → x.snoop = 1 → stop ∈ x.mask → (s.clk.bell * 4096 + p % 4096) = x.at_ + (stop + 32 - x.line.home) % 32 → s.stopDead stop = false → s.ring.wbs = [] → s.ring.reqs = [] → s.caches.errs = [] → cacheAt stop = some c → s.lineAt c x.line = some (w, y) → y.dirty = true → 
    ∃ t, exec (.snpOwn x.id stop false p) s = .next t ∧ t.ring.txs.find? (fun y => y.id = x.id) = some { x with mask := x.mask.filter (fun m => m ≠ stop), owed := x.owed ++ [(stop, false)], owner := true }) ∧
  (∀ (s : State) (x : RTx) (p : Nat), s.ring.txs.find? (fun y => y.id = x.id) = some x → x.back = false → x.mask = [] → x.at_ + 32 = (s.clk.bell * 4096 + p % 4096) → x.owed ≠ [] → 
    ∃ t, exec (.snoopReturn x.id p) s = .next t ∧ (t.ring.txs.find? (fun y => y.id = x.id)) = some { x with back := true } ∧ t.ring.msgs = s.ring.msgs ∧ t.med = s.med) ∧
  (∀ (s : State) (x : RTx) (p : Nat), s.ring.txs.find? (fun y => y.id = x.id) = some x → x.back = false → x.mask = [] → x.at_ + 32 = (s.clk.bell * 4096 + p % 4096) → x.owed = [] → x.owner = true → x.op = .rdShared → x.credited = false → 
    ∃ t, exec (.snoopReturn x.id p) s = .next t ∧ t.ring.msgs = (s.at_ p).schedule (s.ring.msgs) { id := s.ring.next, ty := .comp, src := x.line.home, dst := x.stop, line := x.line, ready := (s.clk.bell * 4096 + p % 4096) + 1, sent := (s.clk.bell * 4096 + p % 4096) + 1 } ∧ t.med = s.med)

/-- An arrived SNP_DONE takes away what was owed; COMP is noted at a core's request and ends a stash; data is noted at its request, and a stashed line of internal space is counted where its target takes it; RETRY with a credit makes its request go out again with it, and without one holds it; CREDIT makes the oldest held request to the slice go out again, and with none left frees the entry; a write-back header is noted, its write in a reserved cycle marks the entry and sends WB_DONE, and WB_DONE frees the entry; an agent that owes a follow-up, or the data of a header, for 4,096 clk is declared dead and the line poisoned; a maintenance operation whose lines are done ends with its count; a way that powers down is off (R342, R345, R350, R351, R352, R353, R356, R308, R309) -/
def Obligations.RingMessagesComplete : Prop :=
  (∀ (s : State) (m : RMsg) (p : Nat) (x : RTx) (l : Option (Line × Bool)) (o : Nat × Bool) (os : List (Nat × Bool)), (s.at_ p).arrived m.id = some m → m.ty = .snpDone x.id l → s.ring.txs.find? (fun y => y.id = x.id) = some x → x.owed = (m.src, false) :: o :: os → 
    ∃ t, exec (.snpDone m.id p) s = .next t ∧ t.ring.msgs = s.ring.msgs.filter (fun y => y.id ≠ m.id) ∧ (t.ring.txs.find? (fun y => y.id = x.id)) = some { x with owed := o :: os } ∧ t.med = s.med) ∧
  (∀ (s : State) (m : RMsg) (p : Nat) (q : RReq), (s.at_ p).arrived m.id = some m → m.ty = .comp → s.req m.dst m.line = some q → q.data = none → (q.op = .rdShared ∨ q.op = .rdOwn) → 
    ∃ t, exec (.comp m.id p) s = .next t ∧ t.ring.msgs = s.ring.msgs.filter (fun y => y.id ≠ m.id) ∧ t.req m.dst m.line = some { q with comp := true } ∧ t.med = s.med) ∧
  (∀ (s : State) (m : RMsg) (p : Nat) (q : RReq), (s.at_ p).arrived m.id = some m → m.ty = .comp → s.req m.dst m.line = some q → q.data = none → (q.op = .stashWrite ∨ q.op = .stashFill) → 
    ∃ t, exec (.comp m.id p) s = .next t ∧ t.ring.msgs = s.ring.msgs.filter (fun y => y.id ≠ m.id) ∧ t.req m.dst m.line = none ∧ t.med = s.med) ∧
  (∀ (s : State) (m : RMsg) (p : Nat) (q : RReq) (c : Nat), (s.at_ p).arrived m.id = some m → m.ty = .retry (some c) → s.req m.dst m.line = some q → 
    ∃ t, exec (.retry m.id p) s = .next t ∧ t.ring.msgs = (s.at_ p).schedule (s.ring.msgs.filter (fun y => y.id ≠ m.id)) { id := s.ring.next, ty := .again, src := m.dst, dst := m.line.home, line := m.line, ready := (s.clk.bell * 4096 + p % 4096) + 1, sent := (s.clk.bell * 4096 + p % 4096) + 1 } ∧ t.req m.dst m.line = some { q with st := .reissue } ∧ t.ring.creds = s.ring.creds) ∧
  (∀ (s : State) (m : RMsg) (p : Nat) (q : RReq), (s.at_ p).arrived m.id = some m → m.ty = .retry none → s.req m.dst m.line = some q → 
    ∃ t, exec (.retry m.id p) s = .next t ∧ t.ring.msgs = s.ring.msgs.filter (fun y => y.id ≠ m.id) ∧ t.req m.dst m.line = some { q with st := .held } ∧ t.ring.creds = s.ring.creds) ∧
  (∀ (s : State) (m : RMsg) (p : Nat) (q : RReq) (c : Nat), (s.at_ p).arrived m.id = some m → m.ty = .credit c → s.ring.reqs.find? (fun q => q.stop = m.dst && decide (q.st = .held) && decide (q.line.home = m.src)) = some q → 
    ∃ t, exec (.credit m.id p) s = .next t ∧ t.ring.msgs = (s.at_ p).schedule (s.ring.msgs.filter (fun y => y.id ≠ m.id)) { id := s.ring.next, ty := .again, src := q.stop, dst := q.line.home, line := q.line, ready := (s.clk.bell * 4096 + p % 4096) + 1, sent := (s.clk.bell * 4096 + p % 4096) + 1 } ∧ (t.req q.stop q.line).map (fun y => y.st) = some .reissue ∧ t.ring.creds = s.ring.creds) ∧
  (∀ (s : State) (m : RMsg) (p : Nat) (c : Nat), (s.at_ p).arrived m.id = some m → m.ty = .credit c → s.ring.reqs.any (fun q => decide (q.stop = m.dst)) = false → 
    ∃ t, exec (.credit m.id p) s = .next t ∧ t.ring.msgs = s.ring.msgs.filter (fun y => y.id ≠ m.id) ∧ t.ring.creds = s.ring.creds.map (fun c => if c.slice = m.src / 2 ∧ c.stop = m.dst then { c with wait := none, free := some (s.clk.bell * 4096 + p % 4096) } else c)) ∧
  (∀ (s : State) (m : RMsg) (p : Nat), (s.at_ p).arrived m.id = some m → m.ty = .wb → 
    ∃ t, exec (.wb m.id p) s = .next t ∧ t.ring.msgs = s.ring.msgs.filter (fun y => y.id ≠ m.id) ∧ t.ring.wbs = s.ring.wbs.map (fun w => if w.stop = m.src ∧ w.line = m.line ∧ w.header = none then { w with header := some (s.clk.bell * 4096 + p % 4096) } else w)) ∧
  (∀ (s : State) (m : RMsg) (p : Nat) (q : RReq) (d : Line) (b : Bool), (s.at_ p).arrived m.id = some m → m.ty = .data d b → s.req m.dst m.line = some q → q.comp = false → 
    ∃ t, exec (.dat m.id p) s = .next t ∧ t.ring.msgs = s.ring.msgs.filter (fun y => y.id ≠ m.id) ∧ t.req m.dst m.line = some { q with data := some (d, b) } ∧ t.med = s.med) ∧
  (∀ (s : State) (m : RMsg) (p : Nat) (d : Line) (b : Bool), (s.at_ p).arrived m.id = some m → m.ty = .wbData d b → 
    ∃ t, exec (.dat m.id p) s = .next t ∧ t.ring.msgs = s.ring.msgs.filter (fun y => y.id ≠ m.id) ∧ t.ring.wbs = s.ring.wbs.map (fun w => if w.stop = m.src ∧ w.line = m.line ∧ w.written = false then { w with got := true } else w)) ∧
  (∀ (s : State) (m : RMsg) (p : Nat) (c : Nat) (d : Line) (b : Bool), (s.at_ p).arrived m.id = some m → m.ty = .stash c d b → m.line.internal = true → m.stale = false → s.stashClosed c = false → 
    ∃ t, exec (.dat m.id p) s = .next t ∧ t.fld Reg.RNG.STASHES.STASHES = (s.fld Reg.RNG.STASHES.STASHES + 1) % (Reg.RNG.STASHES.STASHES.max + 1) ∧ t.med = s.med) ∧
  (∀ (s : State) (stop addr p : Nat) (w : RWb), s.ring.wbs.find? (fun w => w.stop = stop && w.line = ownLine addr && w.header.isSome && w.got && !w.written) = some w → p % 4 = 0 → 
    ∃ t, exec (.wbDataWrite stop addr p) s = .next t ∧ t.ring.wbs = s.ring.wbs.map (fun x => if x = w then { x with written := true } else x) ∧ t.med = s.med) ∧
  (∀ (s : State) (stop addr p : Nat) (w : RWb), s.ring.wbs.find? (fun w => w.stop = stop && w.line = ownLine addr && w.header.isSome && w.got && !w.written) = some w → p % 4 = 0 → s.ring.txs.any (fun x => x.owed.contains (stop, true)) = false → 
    ∃ t, exec (.wbDataWrite stop addr p) s = .next t ∧ t.ring.msgs = (s.at_ p).schedule (s.ring.msgs) { id := s.ring.next, ty := .wbDone, src := (ownLine addr).home, dst := stop, line := ownLine addr, ready := (s.clk.bell * 4096 + p % 4096) + 1, sent := (s.clk.bell * 4096 + p % 4096) + 1 }) ∧
  (∀ (s : State) (m : RMsg) (p : Nat), (s.at_ p).arrived m.id = some m → m.ty = .wbDone → 
    ∃ t, exec (.wbDone m.id p) s = .next t ∧ t.ring.msgs = s.ring.msgs.filter (fun y => y.id ≠ m.id) ∧ t.ring.wbs = s.ring.wbs.filter (fun w => !(w.stop = m.dst && w.line = m.line && w.written)) ∧ t.med = s.med) ∧
  (∀ (s : State) (x : RTx) (d p : Nat), s.ring.txs.find? (fun y => y.id = x.id) = some x → x.at_ + 4096 = (s.clk.bell * 4096 + p % 4096) → x.owed = [(d, false)] → d < 32 → 
    ∃ t, exec (.deadAgentTimeout (some x.id) 0 0 p) s = .next t ∧ t.fld Reg.RNG.DEAD.DEAD = s.fld Reg.RNG.DEAD.DEAD ||| 2 ^ d ∧ t.flag Reg.RNG.INT_STATUS.DEAD_AGENT = true ∧ t.flag Reg.RNG.INT_STATUS.LINE_POISONED = true ∧ t.med = s.med) ∧
  (∀ (s : State) (stop addr c p : Nat) (w : RWb), s.ring.wbs.find? (fun w => w.stop = stop && w.line = ownLine addr && !w.got) = some w → w.header = some c → c + 4096 = (s.clk.bell * 4096 + p % 4096) → stop < 32 → 
    ∃ t, exec (.deadAgentTimeout none stop addr p) s = .next t ∧ t.fld Reg.RNG.DEAD.DEAD = s.fld Reg.RNG.DEAD.DEAD ||| 2 ^ stop ∧ t.flag Reg.RNG.INT_STATUS.DEAD_AGENT = true ∧ t.flag Reg.RNG.INT_STATUS.LINE_POISONED = true ∧ t.med = s.med) ∧
  (∀ (s : State) (m : Maint), s.caches.maint = some m → m.doneAt ≤ s.clk.bell * 4096 + s.clk.phase → s.ring.txs.any (fun x => decide (x.op = .maint)) = false → s.ring.waits = [] → s.maintBehind m = false → 
    ∃ t, exec (.maintDone) s = .next t ∧ t.caches.maint = none ∧ t.fld Reg.L2C.MAINT_STATUS.LINES_DONE = m.lines % (Reg.L2C.MAINT_STATUS.LINES_DONE.max + 1) ∧ t.flag Reg.L2C.INT_STATUS.MAINT_DONE = true ∧ t.med = s.med) ∧
  (∀ (s : State) (w : Nat), s.caches.goingDown.getLsbD w = true → 
    ∃ t, exec (.wayTransitionEnd w) s = .next t ∧ t.caches.wayOn = s.caches.wayOn &&& ~~~(1#16 <<< w) ∧ t.caches.goingDown = s.caches.goingDown &&& ~~~(1#16 <<< w) ∧ t.med = s.med)

/-- Outside standby a refresh of subchannel A or B in its window goes to every channel in use; retraining of a subchannel that is due, in its off-duty span, is done and noted with its flock, and counted and raised where it fails; an update-buffer entry that only one subchannel still owes is written and leaves the buffer, and one that both owe stays for the other; a neighbour refresh due is issued for the rows beside it (R380, R381, R387, R389, R395, R398) -/
def Obligations.DramCommandsComplete : Prop :=
  (∀ (s : State) (p : Nat), s.pwr.standby = false → p % 4096 < 32 → 
    ∃ t, exec (.refresh 0 p) s = .next t ∧ t.out = s.out ++ s.channels.map (fun c => .dram .refresh c 0 []) ∧ t.dram = s.dram ∧ t.regs = s.regs) ∧
  (∀ (s : State) (p : Nat), s.pwr.standby = false → 2048 ≤ p % 4096 → p % 4096 < 2080 → 
    ∃ t, exec (.refresh 1 p) s = .next t ∧ t.out = s.out ++ s.channels.map (fun c => .dram .refresh c 1 []) ∧ t.dram = s.dram ∧ t.regs = s.regs) ∧
  (∀ (s : State) (c sub p : Nat), c ∈ s.channels → s.pwr.standby = false → offDuty sub (p % 4096) = true → s.retrainDue c sub = true → 
    ∃ t, exec (.dramRetrain c sub ⟨false, p⟩) s = .next t ∧ t.dram = { s.dram with retrained := SMap.set (fun _ => none) s.dram.retrained (2 * c + sub) (some s.flock) } ∧ t.out = s.out ++ [Output.dram .retrain c sub []] ∧ t.regs = s.regs) ∧
  (∀ (s : State) (c sub p : Nat), c ∈ s.channels → s.pwr.standby = false → offDuty sub (p % 4096) = true → s.retrainDue c sub = true → 
    ∃ t, exec (.dramRetrain c sub ⟨true, p⟩) s = .next t ∧ t.dram = { s.dram with retrained := SMap.set (fun _ => none) s.dram.retrained (2 * c + sub) (some s.flock) } ∧ t.fld (Reg.DMC.RETRAIN_FAIL.RETRAIN_FAIL c) = (s.fld (Reg.DMC.RETRAIN_FAIL.RETRAIN_FAIL c) + 1) % ((Reg.DMC.RETRAIN_FAIL.RETRAIN_FAIL c).max + 1) ∧ t.flag (Reg.DMC.INT_STATUS.TRAIN_FAIL c) = true) ∧
  (∀ (s : State) (n sub p : Nat) (e : UbE), s.dram.ub[n]? = some e → sub ≤ 1 → (e.needA = true ↔ sub = 0) → (e.needB = true ↔ sub = 1) → offDuty sub (p % 4096) = true → 
    ∃ t, exec (.updateBufferWrite n sub p) s = .next t ∧ t.dram.ub = s.dram.ub.eraseIdx n ∧ t.xlt = s.xlt ∧ t.med = s.med) ∧
  (∀ (s : State) (n sub p : Nat) (e : UbE), s.dram.ub[n]? = some e → sub ≤ 1 → e.needA = true → e.needB = true → offDuty sub (p % 4096) = true → 
    ∃ t, exec (.updateBufferWrite n sub p) s = .next t ∧ t.dram.ub = s.dram.ub.set n (if sub = 0 then { e with needA := false } else { e with needB := false }) ∧ t.xlt = s.xlt ∧ t.med = s.med) ∧
  (∀ (s : State) (p c sub bank row : Nat) (l : List (Nat × Nat × Nat × Nat)), s.dram.neighbours = (c, sub, bank, row) :: l → offDuty sub (p % 4096) = true → c < 4 → 
    ∃ t, exec (.neighbourRefresh p) s = .next t ∧ t.dram = { s.dram with neighbours := l } ∧ t.out = s.out ++ [Output.dram .neighbour c sub (bank :: if row = 0 then [1] else [row - 1, row + 1])] ∧ t.fld (Reg.DMC.NEIGHBOUR_REF.NEIGHBOUR_REF c) = (s.fld (Reg.DMC.NEIGHBOUR_REF.NEIGHBOUR_REF c) + 1) % ((Reg.DMC.NEIGHBOUR_REF.NEIGHBOUR_REF c).max + 1))

/-- LINK_UP of a partner that the link can take sets UP and 64 credits of each kind, and CXL at 64 GT/s, or at 32 GT/s with 256-byte flits; LINK_DOWN, HOT_RESET and PERST_N_ASSERT of a link take it down with its session state; a retry trains again; PERST_N_RELEASE starts training; RECOVERY_ENTRY and RECOVERY_EXIT of a link that holds nothing back enter and leave Recovery (R418, R419, R420, R421, R422, R448) -/
def Obligations.LinkCommandsComplete : Prop :=
  (∀ (s : State) (r w p : Nat) (f : Bool), s.linkCan = true → s.link.up = false → 4 ≤ w → 1 ≤ r → r ≤ 6 → 
    ∃ t, exec (.linkUp r w f p) s = .next t ∧ t.link.up = true ∧ t.link.recovery = false ∧ t.link.drs = 64 ∧ t.link.ndr = 64 ∧ t.link.cxl = (decide (min r (s.fld Reg.HLK.LINK_CTRL.MAX_RATE) = 6) || (decide (min r (s.fld Reg.HLK.LINK_CTRL.MAX_RATE) = 5) && f)) ∧ t.link.pRate = r ∧ t.link.pWidth = w ∧ t.flag Reg.HLK.LINK_STATUS.UP = true ∧ t.flag Reg.HLK.INT_STATUS.LINK_UP = true ∧ t.med = s.med) ∧
  (∀ (s : State), s.linkCan = true → s.link.up = false → 
    ∃ t, exec (.linkTrainingRetry) s = .next t ∧ t = { s with out := s.out ++ [Output.linkTrain] }) ∧
  (∀ (s : State) (p : Nat), s.link.up = true → 
    ∃ t, exec (.linkDown p) s = .next t ∧ t.link.up = false ∧ t.link.cxl = false ∧ t.link.held = [] ∧ t.link.hdmOn = false ∧ t.mbox = {} ∧ t.irq.busMaster = false ∧ t.flag Reg.HLK.LINK_STATUS.UP = false ∧ t.flag Reg.HLK.INT_STATUS.LINK_DOWN = true ∧ t.med = s.med ∧ t.prot.slots = s.prot.slots) ∧
  (∀ (s : State) (p : Nat), s.link.up = true → 
    ∃ t, exec (.hotReset p) s = .next t ∧ t.link.up = false ∧ t.link.cxl = false ∧ t.link.held = [] ∧ t.link.hdmOn = false ∧ t.mbox = {} ∧ t.irq.busMaster = false ∧ t.flag Reg.HLK.LINK_STATUS.UP = false ∧ t.flag Reg.HLK.INT_STATUS.LINK_DOWN = true ∧ t.med = s.med ∧ t.prot.slots = s.prot.slots) ∧
  (∀ (s : State) (p : Nat), s.link.perst = false → s.pwr.ctrlOn = true → s.pwr.standby = false → 
    ∃ t, exec (.perstNAssert p) s = .next t ∧ t.link.perst = true ∧ t.link.up = false ∧ t.mbox = {} ∧ t.flag Reg.HLK.INT_STATUS.LINK_DOWN = true ∧ t.med = s.med) ∧
  (∀ (s : State) (p : Nat) (us : Int), s.link.perst = true → s.pwr.standby = false → s.pwr.ctrlOn = true → s.dev.st = .service → 
    ∃ t, exec (.perstNRelease us {} p) s = .next t ∧ t.link.perst = false ∧ t.fld Reg.DEV.PERST_US.US = ofSigned 32 us ∧ t.out = s.out ++ [Output.linkTrain]) ∧
  (∀ (s : State) (p : Nat), s.link.up = true → s.link.recovery = false → 
    ∃ t, exec (.recoveryEntry p) s = .next t ∧ t.link.recovery = true ∧ t.link.retraining = false ∧ t.fld Reg.HLK.RECOVERIES.RECOVERIES = (s.fld Reg.HLK.RECOVERIES.RECOVERIES + 1) % (Reg.HLK.RECOVERIES.RECOVERIES.max + 1) ∧ t.flag Reg.HLK.INT_STATUS.RECOVERY = true) ∧
  (∀ (s : State) (p : Nat), s.link.up = true → s.link.recovery = true → s.link.retraining = false → s.link.held = [] → s.irq.busMaster = false → 
    ∃ t, exec (.recoveryExit p) s = .next t ∧ t.link = { s.link with recovery := false } ∧ t.out = s.out ∧ t.regs = s.regs)

/-- A commit with the device size, an aligned base and one way turns the decoder on, and any other one of an unlocked decoder leaves it in error; phase 1 of the flush is counted and answered; phase 2 is answered at once unless data is at risk, then it waits, and its timeout is counted and answered; bus mastering and D3hot change the interrupt state (R422, R425, R434) -/
def Obligations.HdmFlushAndConfigurationComplete : Prop :=
  (∀ (s : State) (b p : Nat) (lock : Bool), s.ioOpen = true → s.link.hdmLocked = false → b % s.hdmSize = 0 → 
    ∃ t, exec (.hdmDecoderCommit b s.hdmSize 1 lock p) s = .next t ∧ t.link = { s.link with hdmOn := true, hdmErr := false, hdmLocked := lock, hdmBase := b } ∧ t.fld Reg.HDM.BASE.BASE_HI = b / 2 ^ 32 % (Reg.HDM.BASE.BASE_HI.max + 1) ∧ t.flag Reg.HDM.STATUS.COMMITTED = true ∧ t.flag Reg.HDM.INT_STATUS.COMMITTED = true) ∧
  (∀ (s : State) (b z w p : Nat) (lock : Bool), s.ioOpen = true → s.link.hdmLocked = false → (z ≠ s.hdmSize ∨ b % s.hdmSize ≠ 0 ∨ w ≠ 1) → 
    ∃ t, exec (.hdmDecoderCommit b z w lock p) s = .next t ∧ t.link = { s.link with hdmOn := false, hdmErr := true, hdmLocked := false, hdmBase := 0 } ∧ t.flag Reg.HDM.STATUS.COMMITTED = false ∧ t.fld Reg.HDM.BASE.BASE_HI = 0) ∧
  (∀ (s : State) (p : Nat), s.ioOpen = true → 
    ∃ t, exec (.gpfPhase1 p) s = .next t ∧ t.fld Reg.HDM.GPF.EVENTS = (s.fld Reg.HDM.GPF.EVENTS + 1) % (Reg.HDM.GPF.EVENTS.max + 1) ∧ t.out = s.out ++ [Output.gpfDone 1]) ∧
  (∀ (s : State) (p : Nat), s.ioOpen = true → s.flag Reg.HDM.STATUS.AT_RISK = false → 
    ∃ t, exec (.gpfPhase2 p) s = .next t ∧ t.out = s.out ++ [Output.gpfDone 2] ∧ t.link = s.link ∧ t.regs = s.regs) ∧
  (∀ (s : State) (p : Nat), s.ioOpen = true → s.flag Reg.HDM.STATUS.AT_RISK = true → 
    ∃ t, exec (.gpfPhase2 p) s = .next t ∧ t.link = { s.link with gpf2 := true } ∧ t.out = s.out) ∧
  (∀ (s : State), s.link.gpf2 = true → 
    ∃ t, exec (.gpfPhase2Timeout) s = .next t ∧ t.link = { s.link with gpf2 := false } ∧ t.fld Reg.HDM.GPF.LATE = min (s.fld Reg.HDM.GPF.LATE + 1) Reg.HDM.GPF.LATE.max ∧ t.flag Reg.HDM.INT_STATUS.GPF_LATE = true ∧ t.out.getLast? = some (.gpfDone 2)) ∧
  (∀ (s : State) (tph mps p : Nat), s.ioOpen = true → s.strm.waiting = [] → s.strm.reqs = [] → s.irq.pend = 0 → s.zl0.save = none → s.zl1.save = none → 
    ∃ t, exec (.busMasterEnableChange true true tph mps p) s = .next t ∧ t.irq = { s.irq with msixEn := true, busMaster := true } ∧ t.link = { s.link with tph := min tph 2, mps := min (max mps 128) 512 } ∧ t.flag Reg.STR.STATUS.SUSPENDED = false ∧ t.out = s.out) ∧
  (∀ (s : State) (p : Nat), s.ioOpen = true → 
    ∃ t, exec (.d3hot p) s = .next t ∧ t.irq.busMaster = false ∧ t.flag Reg.STR.STATUS.SUSPENDED = true ∧ t.link = s.link ∧ t.med = s.med)

/-- A malformed TLP is violation 6, a poisoned BAR write 7, a misaligned access 8 with Completer Abort for a read, an unsupported request 0x0A with its answer; a Type 1 vendor-defined message has no effect; an IDE integrity failure is violation 0x0B and drops the messages that follow (R439, R445) -/
def Obligations.LinkViolationsComplete : Prop :=
  (∀ (s : State) (p : Nat), s.ioOpen = true → 
    ∃ t, exec (.malformedTlp p) s = .next t ∧ t.fld Reg.HLK.LAST_VIOL.CODE = 6 ∧ t.fld Reg.HLK.LAST_VIOL.BELL = s.clk.bell % 2 ^ 24 ∧ t.flag Reg.HLK.INT_STATUS.VIOLATION = true ∧ t.med = s.med ∧ t.prot = s.prot ∧ t.link.logged = s.link.logged ++ [6]) ∧
  (∀ (s : State) (p : Nat), s.ioOpen = true → 
    ∃ t, exec (.poisonedBarWrite p) s = .next t ∧ t.fld Reg.HLK.LAST_VIOL.CODE = 7 ∧ t.fld Reg.HLK.LAST_VIOL.BELL = s.clk.bell % 2 ^ 24 ∧ t.flag Reg.HLK.INT_STATUS.VIOLATION = true ∧ t.med = s.med ∧ t.prot = s.prot ∧ t.link.logged = s.link.logged ++ [7]) ∧
  (∀ (s : State) (p : Nat), s.ioOpen = true → 
    ∃ t, exec (.barMisalignedAccess true p) s = .next t ∧ t.fld Reg.HLK.LAST_VIOL.CODE = 8 ∧ t.fld Reg.HLK.LAST_VIOL.BELL = s.clk.bell % 2 ^ 24 ∧ t.flag Reg.HLK.INT_STATUS.VIOLATION = true ∧ t.med = s.med ∧ t.prot = s.prot ∧ t.out.getLast? = some .completerAbort) ∧
  (∀ (s : State) (p : Nat), s.ioOpen = true → 
    ∃ t, exec (.barMisalignedAccess false p) s = .next t ∧ t.fld Reg.HLK.LAST_VIOL.CODE = 8 ∧ t.fld Reg.HLK.LAST_VIOL.BELL = s.clk.bell % 2 ^ 24 ∧ t.flag Reg.HLK.INT_STATUS.VIOLATION = true ∧ t.med = s.med ∧ t.prot = s.prot ∧ t.link = s.link) ∧
  (∀ (s : State) (p : Nat), s.ioOpen = true → 
    ∃ t, exec (.unsupportedRequest p) s = .next t ∧ t.fld Reg.HLK.LAST_VIOL.CODE = 10 ∧ t.fld Reg.HLK.LAST_VIOL.BELL = s.clk.bell % 2 ^ 24 ∧ t.flag Reg.HLK.INT_STATUS.VIOLATION = true ∧ t.med = s.med ∧ t.prot = s.prot ∧ t.out.getLast? = some .unsupportedRequest) ∧
  (∀ (s : State) (p : Nat), 
    ∃ t, exec (.type1Vdm p) s = .next t ∧ t = { s with clk := { s.clk with phase := p % 4096 } }) ∧
  (∀ (s : State) (p : Nat), s.link.up = true → s.link.ideMem = true → s.link.ideDrop = false → bitOf s.prot.tremors.toNat 4 = true → 
    ∃ t, exec (.ideIntegrityFailure p) s = .next t ∧ t.fld Reg.HLK.LAST_VIOL.CODE = 11 ∧ t.fld Reg.HLK.LAST_VIOL.BELL = s.clk.bell % 2 ^ 24 ∧ t.flag Reg.HLK.INT_STATUS.VIOLATION = true ∧ t.med = s.med ∧ t.prot = s.prot ∧ t.link.ideDrop = true ∧ t.flag Reg.HLK.INT_STATUS.IDE_FAIL = true)

/-- With the mailbox open, each command that reads the device answers success with the values of its rule and changes neither registers nor the medium, and an opcode the device does not have is answered unsupported; where the host enabled the doorbell interrupt for the command, MSI-X vector 0 follows the answer or is pending (R441, R442, R435, R443) -/
def Obligations.MailboxQueriesComplete : Prop :=
  (∀ (s : State) (i : Bool) (p : Nat), s.mboxOpen = true → 
    ∃ t, exec (.identify i p) s = .next t ∧ t.out = s.out ++ [Output.mailbox 0x0001 .success ([0x4680, Config.serial.toNat, 16, 3])] ++ (if i && (s.irq.msixEn && s.irq.busMaster && !s.link.recovery) then [.msix 0] else []) ∧ t.irq.pend = (if i && !((s.irq.msixEn && s.irq.busMaster && !s.link.recovery)) then s.irq.pend ||| 1#3 else s.irq.pend) ∧ t.regs = s.regs ∧ t.med = s.med) ∧
  (∀ (s : State) (i : Bool) (p : Nat), s.mboxOpen = true → 
    ∃ t, exec (.backgroundOperationStatus i p) s = .next t ∧ t.out = s.out ++ [Output.mailbox 0x0002 .success ([0])] ++ (if i && (s.irq.msixEn && s.irq.busMaster && !s.link.recovery) then [.msix 0] else []) ∧ t.irq.pend = (if i && !((s.irq.msixEn && s.irq.busMaster && !s.link.recovery)) then s.irq.pend ||| 1#3 else s.irq.pend) ∧ t.regs = s.regs ∧ t.med = s.med) ∧
  (∀ (s : State) (i : Bool) (p : Nat), s.mboxOpen = true → 
    ∃ t, exec (.getResponseMessageLimit i p) s = .next t ∧ t.out = s.out ++ [Output.mailbox 0x0003 .success ([s.mbox.limit])] ++ (if i && (s.irq.msixEn && s.irq.busMaster && !s.link.recovery) then [.msix 0] else []) ∧ t.irq.pend = (if i && !((s.irq.msixEn && s.irq.busMaster && !s.link.recovery)) then s.irq.pend ||| 1#3 else s.irq.pend) ∧ t.regs = s.regs ∧ t.med = s.med) ∧
  (∀ (s : State) (i : Bool) (p : Nat), s.mboxOpen = true → 
    ∃ t, exec (.getEventRecords 1 i p) s = .next t ∧ t.out = s.out ++ [Output.mailbox 0x0100 .success ([b2n (decide ((2 ^ s.mbox.limit - 32) / 128 < (s.log 1).recs.length)), (s.log 1).overflow, min ((2 ^ s.mbox.limit - 32) / 128) (s.log 1).recs.length] ++ ((s.log 1).recs.take ((2 ^ s.mbox.limit - 32) / 128)).flatMap Evt.values)] ++ (if i && (s.irq.msixEn && s.irq.busMaster && !s.link.recovery) then [.msix 0] else []) ∧ t.irq.pend = (if i && !((s.irq.msixEn && s.irq.busMaster && !s.link.recovery)) then s.irq.pend ||| 1#3 else s.irq.pend) ∧ t.link = s.link) ∧
  (∀ (s : State) (i : Bool) (p : Nat), s.mboxOpen = true → 
    ∃ t, exec (.getEventInterruptPolicy i p) s = .next t ∧ t.out = s.out ++ [Output.mailbox 0x0102 .success ((List.range 4).map (fun n => (s.log n).policy))] ++ (if i && (s.irq.msixEn && s.irq.busMaster && !s.link.recovery) then [.msix 0] else []) ∧ t.irq.pend = (if i && !((s.irq.msixEn && s.irq.busMaster && !s.link.recovery)) then s.irq.pend ||| 1#3 else s.irq.pend) ∧ t.regs = s.regs ∧ t.med = s.med) ∧
  (∀ (s : State) (i : Bool) (p : Nat), s.mboxOpen = true → 
    ∃ t, exec (.getFwInfo i p) s = .next t ∧ t.out = s.out ++ [Output.mailbox 0x0200 .success ([2, s.fld Reg.ATT.BOOT.BOOTED, if s.fld Reg.ATT.BOOT.NEXT = s.fld Reg.ATT.BOOT.BOOTED then 0 else s.fld Reg.ATT.BOOT.NEXT] ++ [1, 2].flatMap (fun k => [ofBytesLe (slice (s.image k) 12 15), ofBytesLe (slice (s.image k) 16 19)]))] ++ (if i && (s.irq.msixEn && s.irq.busMaster && !s.link.recovery) then [.msix 0] else []) ∧ t.irq.pend = (if i && !((s.irq.msixEn && s.irq.busMaster && !s.link.recovery)) then s.irq.pend ||| 1#3 else s.irq.pend) ∧ t.regs = s.regs ∧ t.med = s.med) ∧
  (∀ (s : State) (i : Bool) (p : Nat) (v c : Nat), s.mboxOpen = true → s.mbox.stamp = some (v, c) → 
    ∃ t, exec (.getTimestamp i p) s = .next t ∧ t.out = s.out ++ [Output.mailbox 0x0300 .success ([(v + ((s.clk.bell * 4096 + p % 4096) - c) / 3) % 2 ^ 64])] ++ (if i && (s.irq.msixEn && s.irq.busMaster && !s.link.recovery) then [.msix 0] else []) ∧ t.irq.pend = (if i && !((s.irq.msixEn && s.irq.busMaster && !s.link.recovery)) then s.irq.pend ||| 1#3 else s.irq.pend) ∧ t.regs = s.regs ∧ t.med = s.med) ∧
  (∀ (s : State) (i : Bool) (p : Nat), s.mboxOpen = true → 
    ∃ t, exec (.getSupportedLogs i p) s = .next t ∧ t.out = s.out ++ [Output.mailbox 0x0400 .success ([1, 0, 4 * mboxOpcodes.length])] ++ (if i && (s.irq.msixEn && s.irq.busMaster && !s.link.recovery) then [.msix 0] else []) ∧ t.irq.pend = (if i && !((s.irq.msixEn && s.irq.busMaster && !s.link.recovery)) then s.irq.pend ||| 1#3 else s.irq.pend) ∧ t.regs = s.regs ∧ t.med = s.med) ∧
  (∀ (s : State) (i : Bool) (p : Nat) (offset len : Nat), s.mboxOpen = true → offset + len ≤ 4 * mboxOpcodes.length → 
    ∃ t, exec (.getLog 0 offset len i p) s = .next t ∧ t.out = s.out ++ [Output.mailbox 0x0401 .success ((mboxOpcodes.drop (offset / 4)).take (len / 4))] ++ (if i && (s.irq.msixEn && s.irq.busMaster && !s.link.recovery) then [.msix 0] else []) ∧ t.irq.pend = (if i && !((s.irq.msixEn && s.irq.busMaster && !s.link.recovery)) then s.irq.pend ||| 1#3 else s.irq.pend) ∧ t.regs = s.regs ∧ t.med = s.med) ∧
  (∀ (s : State) (i : Bool) (p : Nat), s.mboxOpen = true → 
    ∃ t, exec (.identifyMemoryDevice i p) s = .next t ∧ t.out = s.out ++ [Output.mailbox 0x4000 .success ([s.hdmSize / 2 ^ 28, 0, s.hdmSize / 2 ^ 28, 64, 64, 64, 64, 4096])] ++ (if i && (s.irq.msixEn && s.irq.busMaster && !s.link.recovery) then [.msix 0] else []) ∧ t.irq.pend = (if i && !((s.irq.msixEn && s.irq.busMaster && !s.link.recovery)) then s.irq.pend ||| 1#3 else s.irq.pend) ∧ t.regs = s.regs ∧ t.med = s.med) ∧
  (∀ (s : State) (i : Bool) (p : Nat), s.mboxOpen = true → 
    ∃ t, exec (.getPartitionInfo i p) s = .next t ∧ t.out = s.out ++ [Output.mailbox 0x4100 .success ([0, s.hdmSize / 2 ^ 28, 0, 0])] ++ (if i && (s.irq.msixEn && s.irq.busMaster && !s.link.recovery) then [.msix 0] else []) ∧ t.irq.pend = (if i && !((s.irq.msixEn && s.irq.busMaster && !s.link.recovery)) then s.irq.pend ||| 1#3 else s.irq.pend) ∧ t.regs = s.regs ∧ t.med = s.med) ∧
  (∀ (s : State) (i : Bool) (p : Nat), s.mboxOpen = true → 
    ∃ t, exec (.getHealthInfo i p) s = .next t ∧ t.out = s.out ++ [Output.mailbox 0x4200 .success ([s.healthLife, ofSigned 16 (s.hottest.2 / 16), s.fld Reg.HDM.DIRTY_SHUTDOWNS.COUNT, ((List.range 4).map (fun c => s.fld (Reg.DMC.CE.CE c))).sum, (s.gangIds.map (fun g => s.fld (Reg.SEC.SYM_CORR.SYM_CORR g))).sum])] ++ (if i && (s.irq.msixEn && s.irq.busMaster && !s.link.recovery) then [.msix 0] else []) ∧ t.irq.pend = (if i && !((s.irq.msixEn && s.irq.busMaster && !s.link.recovery)) then s.irq.pend ||| 1#3 else s.irq.pend) ∧ t.regs = s.regs ∧ t.med = s.med) ∧
  (∀ (s : State) (i : Bool) (p : Nat), s.mboxOpen = true → 
    ∃ t, exec (.getAlertConfiguration i p) s = .next t ∧ t.out = s.out ++ [Output.mailbox 0x4201 .success (s.mbox.alerts)] ++ (if i && (s.irq.msixEn && s.irq.busMaster && !s.link.recovery) then [.msix 0] else []) ∧ t.irq.pend = (if i && !((s.irq.msixEn && s.irq.busMaster && !s.link.recovery)) then s.irq.pend ||| 1#3 else s.irq.pend) ∧ t.regs = s.regs ∧ t.med = s.med) ∧
  (∀ (s : State) (i : Bool) (p : Nat), s.mboxOpen = true → 
    ∃ t, exec (.getShutdownState i p) s = .next t ∧ t.out = s.out ++ [Output.mailbox 0x4203 .success ([s.pnv.shutdown])] ++ (if i && (s.irq.msixEn && s.irq.busMaster && !s.link.recovery) then [.msix 0] else []) ∧ t.irq.pend = (if i && !((s.irq.msixEn && s.irq.busMaster && !s.link.recovery)) then s.irq.pend ||| 1#3 else s.irq.pend) ∧ t.regs = s.regs ∧ t.med = s.med) ∧
  (∀ (s : State) (i : Bool) (p : Nat) (dpa len : Nat), s.mboxOpen = true → 
    ∃ t, exec (.getPoisonList dpa len i p) s = .next t ∧ t.out = s.out ++ [Output.mailbox 0x4300 .success ([b2n (decide (4096 < s.poisonList.length)), ((s.poisonList.take 4096).filter (fun e => decide (e.1 < dpa + len) && decide (dpa < e.1 + e.2))).length] ++ ((s.poisonList.take 4096).filter (fun e => decide (e.1 < dpa + len) && decide (dpa < e.1 + e.2))).flatMap (fun e => [e.1, e.2]))] ++ (if i && (s.irq.msixEn && s.irq.busMaster && !s.link.recovery) then [.msix 0] else []) ∧ t.irq.pend = (if i && !((s.irq.msixEn && s.irq.busMaster && !s.link.recovery)) then s.irq.pend ||| 1#3 else s.irq.pend) ∧ t.regs = s.regs ∧ t.med = s.med) ∧
  (∀ (s : State) (i : Bool) (p : Nat) (op : Nat), s.mboxOpen = true → 
    ∃ t, exec (.unsupportedMailboxCommand op i p) s = .next t ∧ t.out = s.out ++ [Output.mailbox op .unsupported ([])] ++ (if i && (s.irq.msixEn && s.irq.busMaster && !s.link.recovery) then [.msix 0] else []) ∧ t.irq.pend = (if i && !((s.irq.msixEn && s.irq.busMaster && !s.link.recovery)) then s.irq.pend ||| 1#3 else s.irq.pend) ∧ t.regs = s.regs ∧ t.med = s.med)

/-- With the mailbox open: a limit of 8 to 16 is taken; clearing all records of a log empties it; an interrupt policy of four modes is taken; Transfer FW whole stores the image in the slot that is not booted; Activate FW sets the slot tried next; the timestamp, the alert configuration and the shutdown state are taken; where the host enabled the doorbell interrupt for the command, MSI-X vector 0 follows the answer or is pending (R441, R443, R435) -/
def Obligations.MailboxSettingsComplete : Prop :=
  (∀ (s : State) (i : Bool) (p : Nat) (n : Nat), s.mboxOpen = true → 8 ≤ n → n ≤ 16 → 
    ∃ t, exec (.setResponseMessageLimit n i p) s = .next t ∧ t.out = s.out ++ [Output.mailbox 0x0004 .success ([n])] ++ (if i && (s.irq.msixEn && s.irq.busMaster && !s.link.recovery) then [.msix 0] else []) ∧ t.irq.pend = (if i && !((s.irq.msixEn && s.irq.busMaster && !s.link.recovery)) then s.irq.pend ||| 1#3 else s.irq.pend) ∧ t.mbox = { s.mbox with limit := n } ∧ t.regs = s.regs) ∧
  (∀ (s : State) (i : Bool) (p : Nat) (n : Nat), s.mboxOpen = true → n < 4 → 
    ∃ t, exec (.clearEventRecords n true [] i p) s = .next t ∧ t.out = s.out ++ [Output.mailbox 0x0101 .success ([])] ++ (if i && (s.irq.msixEn && s.irq.busMaster && !s.link.recovery) then [.msix 0] else []) ∧ t.irq.pend = (if i && !((s.irq.msixEn && s.irq.busMaster && !s.link.recovery)) then s.irq.pend ||| 1#3 else s.irq.pend) ∧ t.log n = { s.log n with recs := [], overflow := 0 } ∧ t.regs = s.regs) ∧
  (∀ (s : State) (i : Bool) (p : Nat) (a b c d : Nat), s.mboxOpen = true → a ≤ 1 → b ≤ 1 → c ≤ 1 → d ≤ 1 → 
    ∃ t, exec (.setEventInterruptPolicy [a, b, c, d] i p) s = .next t ∧ t.out = s.out ++ [Output.mailbox 0x0103 .success ([])] ++ (if i && (s.irq.msixEn && s.irq.busMaster && !s.link.recovery) then [.msix 0] else []) ∧ t.irq.pend = (if i && !((s.irq.msixEn && s.irq.busMaster && !s.link.recovery)) then s.irq.pend ||| 1#3 else s.irq.pend) ∧ (List.range 4).map (fun n => (t.log n).policy) = [a, b, c, d] ∧ t.regs = s.regs) ∧
  (∀ (s : State) (i : Bool) (p : Nat) (slot : Nat) (l : List Nat), s.mboxOpen = true → (slot = 1 ∨ slot = 2) → slot ≠ s.fld Reg.ATT.BOOT.BOOTED → 
    ∃ t, exec (.transferFw 0 slot 0 l i p) s = .next t ∧ t.out = s.out ++ [Output.mailbox 0x0201 .success ([])] ++ (if i && (s.irq.msixEn && s.irq.busMaster && !s.link.recovery) then [.msix 0] else []) ∧ t.irq.pend = (if i && !((s.irq.msixEn && s.irq.busMaster && !s.link.recovery)) then s.irq.pend ||| 1#3 else s.irq.pend) ∧ t.image slot = l.map (fun b => b % 256) ∧ t.mbox.transfer = none ∧ t.regs = s.regs) ∧
  (∀ (s : State) (i : Bool) (p : Nat) (slot : Nat), s.mboxOpen = true → (slot = 1 ∨ slot = 2) → 
    ∃ t, exec (.activateFw false slot i p) s = .next t ∧ t.out = s.out ++ [Output.mailbox 0x0202 .success ([])] ++ (if i && (s.irq.msixEn && s.irq.busMaster && !s.link.recovery) then [.msix 0] else []) ∧ t.irq.pend = (if i && !((s.irq.msixEn && s.irq.busMaster && !s.link.recovery)) then s.irq.pend ||| 1#3 else s.irq.pend) ∧ t.pnv = { s.pnv with next := slot } ∧ t.fld Reg.ATT.BOOT.NEXT = slot) ∧
  (∀ (s : State) (i : Bool) (p : Nat) (ns : Nat), s.mboxOpen = true → 
    ∃ t, exec (.setTimestamp ns i p) s = .next t ∧ t.out = s.out ++ [Output.mailbox 0x0301 .success ([])] ++ (if i && (s.irq.msixEn && s.irq.busMaster && !s.link.recovery) then [.msix 0] else []) ∧ t.irq.pend = (if i && !((s.irq.msixEn && s.irq.busMaster && !s.link.recovery)) then s.irq.pend ||| 1#3 else s.irq.pend) ∧ t.mbox = { s.mbox with stamp := some (ns % 2 ^ 64, (s.clk.bell * 4096 + p % 4096)) } ∧ t.regs = s.regs) ∧
  (∀ (s : State) (i : Bool) (p : Nat) (l : List Nat), s.mboxOpen = true → 
    ∃ t, exec (.setAlertConfiguration l i p) s = .next t ∧ t.out = s.out ++ [Output.mailbox 0x4202 .success ([])] ++ (if i && (s.irq.msixEn && s.irq.busMaster && !s.link.recovery) then [.msix 0] else []) ∧ t.irq.pend = (if i && !((s.irq.msixEn && s.irq.busMaster && !s.link.recovery)) then s.irq.pend ||| 1#3 else s.irq.pend) ∧ t.mbox = { s.mbox with alerts := l, lifeWarned := false } ∧ t.regs = s.regs) ∧
  (∀ (s : State) (i : Bool) (p : Nat) (n : Nat), s.mboxOpen = true → n ≤ 1 → 
    ∃ t, exec (.setShutdownState n i p) s = .next t ∧ t.out = s.out ++ [Output.mailbox 0x4204 .success ([])] ++ (if i && (s.irq.msixEn && s.irq.busMaster && !s.link.recovery) then [.msix 0] else []) ∧ t.irq.pend = (if i && !((s.irq.msixEn && s.irq.busMaster && !s.link.recovery)) then s.irq.pend ||| 1#3 else s.irq.pend) ∧ t.pnv = { s.pnv with shutdown := n } ∧ t.regs = s.regs)

/-- With DOE open and ready and a request within its size: discovery and CDAT answer their entries; the SPDM sequence of version, capabilities and algorithms is followed; digests, certificate, challenge, measurements and key exchange answer once algorithms are agreed, the values drawn being free (R440, R553, R554) -/
def Obligations.DoeAndSpdmRequestsComplete : Prop :=
  (∀ (s : State) (len p : Nat) (index : Nat), s.doeOpen = true → len ≤ 16384 → s.doeBusy = false → 
    ∃ t, exec (.doeDiscovery len index p) s = .next t ∧ t.out = s.out ++ [Output.doe (.object 0 [(doeProtocols.getD index (0xFFFF, 0)).1, (doeProtocols.getD index (0xFFFF, 0)).2, if index + 1 < doeProtocols.length then index + 1 else 0])] ∧ t.mbox = s.mbox ∧ t.regs = s.regs ∧ t.link = s.link) ∧
  (∀ (s : State) (len p : Nat) (handle : Nat) (e : List Nat), s.doeOpen = true → len ≤ 16384 → s.doeBusy = false → s.cdat[handle]? = some e → 
    ∃ t, exec (.cdatTableAccess len handle p) s = .next t ∧ t.out = s.out ++ [Output.doe (.object 2 ((if handle + 1 < s.cdat.length then handle + 1 else 0xFFFF) :: e))] ∧ t.mbox = s.mbox ∧ t.regs = s.regs ∧ t.link = s.link) ∧
  (∀ (s : State) (len p : Nat), s.doeOpen = true → len ≤ 16384 → s.doeBusy = false → 
    ∃ t, exec (.getVersion len p) s = .next t ∧ t.out = s.out ++ [Output.doe (.object 0x84 [0x13])] ∧ t.mbox = { s.mbox with version := true, caps := false, algs := false } ∧ t.regs = s.regs) ∧
  (∀ (s : State) (len p : Nat), s.doeOpen = true → len ≤ 16384 → s.doeBusy = false → s.mbox.version = true → 
    ∃ t, exec (.getCapabilities len p) s = .next t ∧ t.out = s.out ++ [Output.doe (.object 0xE1 [16384])] ∧ t.mbox = { s.mbox with caps := true } ∧ t.regs = s.regs) ∧
  (∀ (s : State) (len p : Nat), s.doeOpen = true → len ≤ 16384 → s.doeBusy = false → s.mbox.caps = true → 
    ∃ t, exec (.negotiateAlgorithms len true p) s = .next t ∧ t.out = s.out ++ [Output.doe (.object 0xE3 [521, 512, 256])] ∧ t.mbox = { s.mbox with algs := true } ∧ t.regs = s.regs) ∧
  (∀ (s : State) (len p : Nat), s.doeOpen = true → len ≤ 16384 → s.doeBusy = false → s.mbox.algs = true → 
    ∃ t, exec (.getDigests len p) s = .next t ∧ t.out = s.out ++ [Output.doe (.object 0x81 [1, chainDigest])] ∧ t.mbox = s.mbox ∧ t.regs = s.regs ∧ t.link = s.link) ∧
  (∀ (s : State) (len p offset length : Nat), s.doeOpen = true → len ≤ 16384 → s.doeBusy = false → s.mbox.algs = true → 
    ∃ t, exec (.getCertificate len 0 offset length p) s = .next t ∧ t.out = s.out ++ [Output.doe (if Config.certChain.length ≤ offset then .error spdmInvalid else .object 0x82 ([0, ((Config.certChain.drop offset).take (min length 16384)).length, Config.certChain.length - offset - ((Config.certChain.drop offset).take (min length 16384)).length] ++ (Config.certChain.drop offset).take (min length 16384)))] ∧ t.mbox = s.mbox ∧ t.regs = s.regs) ∧
  (∀ (s : State) (len p : Nat), s.doeOpen = true → len ≤ 16384 → s.doeBusy = false → s.mbox.algs = true → 
    ∃ t, exec (.spdmChallenge len 0 p) s = .next t ∧ t.out = s.out ++ [Output.doe (.object 0x83 [chainDigest, (Config.free s.drawn 256).toNat, (Config.free (s.drawn + 1) 1056).toNat])] ∧ t.drawn = s.drawn + 2 ∧ t.mbox = s.mbox ∧ t.regs = s.regs) ∧
  (∀ (s : State) (len p : Nat) (index : Nat), s.doeOpen = true → len ≤ 16384 → s.doeBusy = false → s.mbox.algs = true → 1 ≤ index → index ≤ 6 → 
    ∃ t, exec (.getMeasurements len index false p) s = .next t ∧ t.out = s.out ++ [Output.doe (.object 0xE0 [1, s.measurement index, 0])] ∧ t.mbox = s.mbox ∧ t.regs = s.regs ∧ t.link = s.link) ∧
  (∀ (s : State) (len p : Nat), s.doeOpen = true → len ≤ 16384 → s.doeBusy = false → s.mbox.algs = true → s.session 0 = none → 
    ∃ t, exec (.keyExchange len 0 p) s = .next t ∧ t.out = s.out ++ [Output.doe (.object 0xE4 [0, (Config.free s.drawn 256).toNat, (Config.free (s.drawn + 1) 1056).toNat])] ∧ t.session 0 = some false ∧ t.drawn = s.drawn + 2)

/-- FINISH of a session whose key exchange has been answered opens it; in an open session END_SESSION closes it, KEY_UPDATE and HEARTBEAT are answered, and the IDE key-management objects program the keys of CXL.io and of CXL.cachemem, each its own, and start IDE on the stream whose keys are there (R439, R553) -/
def Obligations.SecureSessionsComplete : Prop :=
  (∀ (s : State) (len p : Nat) (i : Nat), s.doeOpen = true → len ≤ 16384 → s.doeBusy = false → s.session i = some false → 
    ∃ t, exec (.finish len i true p) s = .next t ∧ t.out = s.out ++ [Output.doe (.object 0xE5 [i])] ∧ t.session i = some true ∧ t.link = s.link) ∧
  (∀ (s : State) (len p : Nat) (i : Nat), s.doeOpen = true → len ≤ 16384 → s.doeBusy = false → s.session i = some true → 
    ∃ t, exec (.spdmEndSession len i p) s = .next t ∧ t.out = s.out ++ [Output.doe (.object 0xEC [i])] ∧ t.session i = none ∧ t.link = s.link) ∧
  (∀ (s : State) (len p : Nat) (i k : Nat), s.doeOpen = true → len ≤ 16384 → s.doeBusy = false → s.session i = some true → 1 ≤ k → k ≤ 3 → 
    ∃ t, exec (.keyUpdate len i k p) s = .next t ∧ t.out = s.out ++ [Output.doe (.object 0xE9 [i, k])] ∧ t.mbox = s.mbox ∧ t.regs = s.regs ∧ t.link = s.link) ∧
  (∀ (s : State) (len p : Nat) (i : Nat), s.doeOpen = true → len ≤ 16384 → s.doeBusy = false → s.session i = some true → 
    ∃ t, exec (.heartbeat len i p) s = .next t ∧ t.out = s.out ++ [Output.doe (.object 0xE8 [i])] ∧ t.mbox = s.mbox ∧ t.regs = s.regs ∧ t.link = s.link) ∧
  (∀ (s : State) (len p : Nat) (i : Nat), s.doeOpen = true → len ≤ 16384 → s.doeBusy = false → s.session i = some true → 
    ∃ t, exec (.ideKm len i 1 p) s = .next t ∧ t.out = s.out ++ [Output.doe (.object 0x101 [1])] ∧ t.link = { s.link with ideKeys := true, ideDrop := false } ∧ t.regs = s.regs) ∧
  (∀ (s : State) (len p : Nat) (i : Nat), s.doeOpen = true → len ≤ 16384 → s.doeBusy = false → s.session i = some true → 
    ∃ t, exec (.cxlIdeKm len i 1 p) s = .next t ∧ t.out = s.out ++ [Output.doe (.object 0x102 [1])] ∧ t.link = { s.link with ideMemKeys := true, ideDrop := false } ∧ t.regs = s.regs) ∧
  (∀ (s : State) (len p : Nat) (i : Nat), s.doeOpen = true → len ≤ 16384 → s.doeBusy = false → s.session i = some true → s.link.ideKeys = true → 
    ∃ t, exec (.ideKm len i 2 p) s = .next t ∧ t.out = s.out ++ [Output.doe (.object 0x101 [2])] ∧ t.link = { s.link with ideIo := true } ∧ t.flag Reg.HLK.LINK_STATUS.IDE_IO = true) ∧
  (∀ (s : State) (len p : Nat) (i : Nat), s.doeOpen = true → len ≤ 16384 → s.doeBusy = false → s.session i = some true → s.link.ideMemKeys = true → s.link.cxl = true → 
    ∃ t, exec (.cxlIdeKm len i 2 p) s = .next t ∧ t.out = s.out ++ [Output.doe (.object 0x102 [2])] ∧ t.link = { s.link with ideMem := true } ∧ t.flag Reg.HLK.LINK_STATUS.IDE_MEM = true)

/-- With POR released and VIN present: dynamic address assignment answers the provisioned identifier and takes the address; SETDASA takes it from the static address; RSTDAA drops it; the GET codes answer their values, ENEC and DISEC switch in-band interrupts; a write reaches the registers of the DEV and PWR pages, a read answers their words (R866, R867) -/
def Obligations.SidebandCommandsComplete : Prop :=
  (∀ (s : State) (a : Nat), s.dev.por = true → s.pwr.vin = true → s.i3c.addr = none → 
    ∃ t, exec (.entdaa a) s = .next t ∧ t.i3c.addr = some a ∧ t.out = s.out ++ [Output.i3c (i3cPidBytes ++ [i3cBcr, Config.i3cDcr.toNat])] ∧ t.regs = s.regs) ∧
  (∀ (s : State) (a : Nat), s.dev.por = true → s.pwr.vin = true → s.i3c.addr = none → 
    ∃ t, exec (.setdasa 0x46 a) s = .next t ∧ t = { s with i3c := { s.i3c with addr := some a } }) ∧
  (∀ (s : State), s.dev.por = true → s.pwr.vin = true → 
    ∃ t, exec (.rstdaa) s = .next t ∧ t = { s with i3c := { s.i3c with addr := none } }) ∧
  (∀ (s : State) (a : Nat), s.dev.por = true → s.pwr.vin = true → s.i3c.addr = some a → 
    ∃ t, exec (.getpid a) s = .next t ∧ t = { s with out := s.out ++ [Output.i3c (i3cPidBytes)] }) ∧
  (∀ (s : State) (a : Nat), s.dev.por = true → s.pwr.vin = true → s.i3c.addr = some a → 
    ∃ t, exec (.getbcr a) s = .next t ∧ t = { s with out := s.out ++ [Output.i3c ([i3cBcr])] }) ∧
  (∀ (s : State) (a : Nat), s.dev.por = true → s.pwr.vin = true → s.i3c.addr = some a → 
    ∃ t, exec (.getdcr a) s = .next t ∧ t = { s with out := s.out ++ [Output.i3c ([Config.i3cDcr.toNat])] }) ∧
  (∀ (s : State) (a : Nat), s.dev.por = true → s.pwr.vin = true → s.i3c.addr = some a → s.irq.pin = false → 
    ∃ t, exec (.getstatus a) s = .next t ∧ t = { s with drawn := s.drawn + 1, out := s.out ++ [Output.i3c (bytesBe 2 ((Config.free s.drawn 16).toNat % 2 ^ 16 - (Config.free s.drawn 16).toNat % 16))] }) ∧
  (∀ (s : State) (b : Nat), s.dev.por = true → s.pwr.vin = true → bitOf b 0 = true → 
    ∃ t, exec (.enec none b) s = .next t ∧ t = { s with irq := { s.irq with ibiEn := true } }) ∧
  (∀ (s : State) (b : Nat), s.dev.por = true → s.pwr.vin = true → bitOf b 0 = true → 
    ∃ t, exec (.disec none b) s = .next t ∧ t = { s with irq := { s.irq with ibiEn := false } }) ∧
  (∀ (s : State) (a : Nat) (w : Word), s.dev.por = true → s.pwr.vin = true → s.i3c.addr = some a → s.pageOpen 0x30 0x14 = true → 
    ∃ t, exec (.i3cWrite a 0x30 0x14 [w] {}) s = .next t ∧ t.reg 0x30014 = w.toNat &&& intMask 0x30 ∧ t.applied = s.applied) ∧
  (∀ (s : State) (a o : Nat), s.dev.por = true → s.pwr.vin = true → s.i3c.addr = some a → o < 0x1000 → o % 4 = 0 → 
    ∃ t, exec (.i3cRead a 0x30 o 1) s = .next t ∧ t.out = s.out ++ [Output.i3c (bytesLe 4 (s.viewReg (0x30000 + o)).toNat)] ∧ t.regs = s.regs)

/-- With the port powered: in TEST, EXTEST and CLAMP act, SAMPLE/PRELOAD, IDCODE and BYPASS act in every state, and TRST_N returns the instruction register to IDCODE; at level 1 a register read answers its word and AUTH answers a challenge; a signature shifted in uses the challenge up and opens level 2 exactly where it verifies; at level 2 a write of memory that passes its checks is staged and answered, a read of a line whose bytes are all staged answers it, an access that fails its checks is answered 0x10 plus the cause, and RMA_SEAL answers a challenge; in RMA a vendor test mode sets the instruction register (R822, R823, R824, R825, R826, R842) -/
def Obligations.DebugPortCommandsComplete : Prop :=
  (∀ (s : State) (b d : Nat), s.dev.por = true → Rail.vddIo ∈ s.pwr.rails → s.dev.st = .test → 
    ∃ t, exec (.extest b d) s = .next t ∧ t.dbg = { s.dbg with ir := 0x00, boundary := d } ∧ t.out = s.out ++ [Output.tdo [b]] ∧ t.regs = s.regs) ∧
  (∀ (s : State) (b d : Nat), s.dev.por = true → Rail.vddIo ∈ s.pwr.rails → 
    ∃ t, exec (.samplePreload b d) s = .next t ∧ t.dbg = { s.dbg with ir := 0x01, boundary := d } ∧ t.out = s.out ++ [Output.tdo [b]] ∧ t.regs = s.regs) ∧
  (∀ (s : State), s.dev.por = true → Rail.vddIo ∈ s.pwr.rails → 
    ∃ t, exec (.idcode) s = .next t ∧ t.dbg = { s.dbg with ir := 0x02 } ∧ t.out = s.out ++ [Output.tdo [0x1468014B]] ∧ t.regs = s.regs) ∧
  (∀ (s : State), s.dev.por = true → Rail.vddIo ∈ s.pwr.rails → s.dev.st = .test → 
    ∃ t, exec (.clamp) s = .next t ∧ t.dbg = { s.dbg with ir := 0x03 } ∧ t.out = s.out ++ [Output.tdo [0]] ∧ t.regs = s.regs) ∧
  (∀ (s : State), s.dev.por = true → Rail.vddIo ∈ s.pwr.rails → 
    ∃ t, exec (.bypass) s = .next t ∧ t = { s with dbg := { s.dbg with ir := 0xFF }, out := s.out ++ [Output.tdo [0]] }) ∧
  (∀ (s : State), s.dev.por = true → Rail.vddIo ∈ s.pwr.rails → s.fld Reg.DBG.STATUS.LEVEL ≠ 2 → 
    ∃ t, exec (.trstNAssert) s = .next t ∧ t = { s with dbg := { s.dbg with ir := 0x02 } }) ∧
  (∀ (s : State) (a p : Nat), s.dev.por = true → Rail.vddIo ∈ s.pwr.rails → s.dev.st = .service → a < 0x40000 → 
    ∃ t, exec (.regRead a p) s = .next t ∧ t.dbg = { s.dbg with ir := 0x10 } ∧ t.regs = s.regs ∧ t.out = s.out ++ [Output.tdo [(({ s.at_ p with dbg := { s.dbg with ir := 0x10 } } : State).viewReg a).toNat]]) ∧
  (∀ (s : State), s.dev.por = true → Rail.vddIo ∈ s.pwr.rails → s.dev.st = .service → s.dbg.lock = false → s.dbg.challenge = false → 
    ∃ t, exec (.auth []) s = .next t ∧ t.dbg = { s.dbg with ir := 0x20, challenge := true } ∧ t.drawn = s.drawn + 1 ∧ t.out.length = s.out.length + 1) ∧
  (∀ (s : State) (a k p i : Nat) (d : Line), s.dev.por = true → Rail.vddIo ∈ s.pwr.rails → s.dev.st = .service → s.fld Reg.DBG.STATUS.LEVEL = 2 → s.checkDpa clsDebug true false (a / 64 * 64) k = 0 → s.regionOf (dpaPaddock (a / 64 * 64)) = some i → (s.region i).grouped = false → s.xlt.staged = [] → s.hk.vholdQual = true → s.bw.holding = true → 
    ∃ t, exec (.memAccess true a k d [] {} {} p) s = .next t ∧ t.xlt.staged = [(stKey (a / 64) none, { data := mergeLine 0 d (BitVec.allOnes 64), mask := BitVec.allOnes 64, bell := s.clk.bell, keyid := k, clk := (s.clk.bell * 4096 + p % 4096) })] ∧ t.out = s.out ++ [Output.tdo [0]] ∧ t.dbg = { s.dbg with ir := 0x21 } ∧ t.med = s.med) ∧
  (∀ (s : State) (a k p : Nat) (d x : Line) (rows : List (Nat × Nat × Nat × Nat)) (e f : Sensed), s.dev.por = true → Rail.vddIo ∈ s.pwr.rails → s.dev.st = .service → s.fld Reg.DBG.STATUS.LEVEL = 2 → s.checkDpa clsDebug false false (a / 64 * 64) k = 0 → dpaCart (a / 64 * 64) = none → s.readView (a / 64) = (x, BitVec.allOnes 64) → 
    ∃ t, exec (.memAccess false a k d rows e f p) s = .next t ∧ t.out.getLast? = some (.tdo [0, x.toNat]) ∧ t.xlt = s.xlt ∧ t.dbg = { s.dbg with ir := 0x21 } ∧ t.med = s.med) ∧
  (∀ (s : State) (w : Bool) (a k p : Nat) (d : Line) (rows : List (Nat × Nat × Nat × Nat)) (e f : Sensed), s.dev.por = true → Rail.vddIo ∈ s.pwr.rails → s.dev.st = .service → s.fld Reg.DBG.STATUS.LEVEL = 2 → s.checkDpa clsDebug w false (a / 64 * 64) k ≠ 0 → 
    ∃ t, exec (.memAccess w a k d rows e f p) s = .next t ∧ t.out.getLast? = some (.tdo [0x10 + s.checkDpa clsDebug w false (a / 64 * 64) k]) ∧ t.xlt.staged.length ≤ s.xlt.staged.length ∧ t.med = s.med) ∧
  (∀ (s : State) (g : List Nat), s.dev.por = true → Rail.vddIo ∈ s.pwr.rails → s.dev.st = .service → s.dbg.lock = false → s.dbg.challenge = true → g ≠ [] → 
    ∃ t, exec (.auth g) s = .next t ∧ t.dbg.challenge = false ∧ t.fld Reg.DBG.STATUS.LEVEL = (if Config.customerSet && Config.ecdsaOk Config.customerKey (deleper2 ++ serialBytes ++ s.dbgChal) g then 2 else s.fld Reg.DBG.STATUS.LEVEL)) ∧
  (∀ (s : State), s.dev.por = true → Rail.vddIo ∈ s.pwr.rails → s.dev.st = .halt → s.fld Reg.DBG.STATUS.LEVEL = 2 → 
    ∃ t, exec (.rmaSeal [] []) s = .next t ∧ t.dbg.rmaChallenge = some (Config.free s.drawn 256).toNat ∧ t.out = s.out ++ [Output.tdo (bytesBe 32 (Config.free s.drawn 256).toNat)] ∧ t.drawn = s.drawn + 1) ∧
  (∀ (s : State) (c : Nat), s.dev.por = true → Rail.vddIo ∈ s.pwr.rails → s.dev.st = .rma → 0x80 ≤ c → c ≤ 0xFE → 
    ∃ t, exec (.vendorTestMode c) s = .next t ∧ t = { s with dbg := { s.dbg with ir := c } })

/-- A preserving march pass without a failure ends with result 1; a PNV operation on a page leaves the page as it was to be and is counted, one on a ring page takes its records out of the running flush, and the first record that waits is written next; a report is taken from its page FIFO into the queue of its severity; the record step dequeues a report; a notification is served; a core whose watchdog expires is lost; a deferred flush whose interval is over starts, or is queued behind a running one, and a running one ends; READ_SEL becomes ready (R749, R752, R779, R785, R786, R788, R789, R790, R791, R799) -/
def Obligations.MemoriesAndFaultServiceComplete : Prop :=
  (∀ (s : State) (b : Nat), s.srm.march = some (b, 1) → 
    ∃ t, exec (.marchPassEnd none) s = .next t ∧ t.srm.march = none ∧ t.flag Reg.SRM.MARCH_STATUS.BUSY = false ∧ t.fld Reg.SRM.MARCH_STATUS.RESULT = 1 ∧ t.flag Reg.SRM.INT_STATUS.MARCH_DONE = true ∧ t.xlt = s.xlt ∧ t.med = s.med) ∧
  (∀ (s : State) (o : Option Nat) (p n : Nat) (x : NvPage), s.pnv.ventPend = none → s.nvm.job = some (n, x) → (n < 512 ∨ 1536 ≤ n) → 
    ∃ t, exec (.pnvOperationEnd o p) s = .next t ∧ t.nvPage n = x ∧ SMap.get (fun _ => 0) t.pnv.programs n = SMap.get (fun _ => 0) s.pnv.programs n + (if (s.nvPage n).bytes = x.bytes ∧ x.bytes ≠ 0 then 0 else 1) ∧ t.fld Reg.PNV.PROGRAMS.PROGRAMS = (s.fld Reg.PNV.PROGRAMS.PROGRAMS + 1) % (Reg.PNV.PROGRAMS.PROGRAMS.max + 1) ∧ t.out = s.out) ∧
  (∀ (s : State) (o : Option Nat) (p n : Nat) (x : NvPage), s.pnv.ventPend = none → s.nvm.job = some (n, x) → 512 ≤ n → n < 1536 → 
    ∃ t, exec (.pnvOperationEnd o p) s = .next t ∧ t.tally.flush.plan = s.tally.flush.plan.filter (fun e => decide (ringPage e.2.2 ≠ n)) ∧ t.fld Reg.PNV.PROGRAMS.PROGRAMS = (s.fld Reg.PNV.PROGRAMS.PROGRAMS + 1) % (Reg.PNV.PROGRAMS.PROGRAMS.max + 1) ∧ t.out = s.out) ∧
  (∀ (s : State) (o : Option Nat) (p : Nat) (r : NvRec), s.pnv.ventPend = none → s.nvm.job = none → s.pnv.op = none → nvRecs.find? s.nvDirty = some r → 
    ∃ t, exec (.pnvOperationEnd o p) s = .next t ∧ t.nvm.job = some (s.nvTarget r) ∧ t.pnv = { s.pnv with op := some (nvOp (s.nvPage (s.nvTarget r).1) (s.nvTarget r)) } ∧ t.flag Reg.PNV.STATUS.BUSY = true ∧ t.out = s.out) ∧
  (∀ (s : State) (q p : Nat) (r : Report), s.dev.st = .service → s.dev.tallyReady = true → s.tally.pick = some (q, r) → (s.tally.queueOf r.sev).length < 8 → 
    ∃ t, exec (.reportIntake p) s = .next t ∧ t.tally.fifoOf q = (s.tally.fifoOf q).tail ∧ t.tally.queueOf r.sev = s.tally.queueOf r.sev ++ [{ r with bell := s.clk.bell }] ∧ t.regs = s.regs ∧ t.out = s.out) ∧
  (∀ (s : State) (r : Report) (p : Nat), (s.at_ p).outranked 2 = false → s.dev.st = .service → s.dev.tallyReady = true → s.dev.haltVent = false → s.tally.head = some r → r.sev = 3 → r.code ≠ 0x3B01 → s.tally.escFlag = 0 → s.tally.queueOf 3 = [r] → s.minRecord ≤ 3 → s.tally.last = none → s.tally.buf = [] → 
    ∃ t, exec (.recordStep p) s = .next t ∧ t.tally.queueOf 3 = [] ∧ t.tally.last = some 0 ∧ t.tally.seq = (s.tally.seq + 1) % 2 ^ 32 ∧ (SMap.get (fun _ => none) t.tally.buf 0).map (fun b => b.rcd) = some { seq := s.tally.seq, bell := r.bell, sev := 3, cls := r.cls, code := r.code, page := r.page, inst := r.inst, p1 := r.p1, p2 := r.p2, p3 := r.p3, rep := 0 } ∧ t.fld Reg.ERR.LAST.CODE = r.code % (Reg.ERR.LAST.CODE.max + 1) ∧ t.fld Reg.ERR.LAST.SEV = 3) ∧
  (∀ (s : State) (c : Nat), s.liveCores.head? = some c → SMap.get (fun _ => []) s.tally.notes 7 = [] → SMap.get (fun _ => []) s.tally.notes 6 = [] → SMap.get (fun _ => []) s.tally.notes 5 = [] → SMap.get (fun _ => []) s.tally.notes 4 ≠ [] → 
    ∃ t, exec (.faultServiceNotification) s = .next t ∧ SMap.get (fun _ => []) t.tally.notes 4 = (SMap.get (fun _ => []) s.tally.notes 4).tail ∧ t.regs = s.regs ∧ t.out = s.out) ∧
  (∀ (s : State) (c : Nat), c < 8 → (s.core c).live = true → 
    ∃ t, exec (.watchdogExpiry c) s = .next t ∧ (t.core c).live = false ∧ (t.core c).lost = true ∧ (t.core c).tasks = [] ∧ t.flag Reg.ERR.INT_STATUS.CORE_LOST = true ∧ t.med = s.med) ∧
  (∀ (s : State), s.tally.flush.deferred = true → s.tally.flush.running = false → (∀ b ∈ s.tally.flush.lastStart, b + 65536 ≤ s.clk.bell) → 
    ∃ t, exec (.flushStart) s = .next t ∧ t.tally.flush.running = true ∧ t.tally.flush.deferred = false ∧ t.tally.flush.lastStart = some s.clk.bell ∧ t.tally.flush.queued = s.tally.flush.queued ∧ t.tally.ring = s.tally.ring ∧ t.med = s.med) ∧
  (∀ (s : State), s.tally.flush.deferred = true → s.tally.flush.running = true → (∀ b ∈ s.tally.flush.lastStart, b + 65536 ≤ s.clk.bell) → 
    ∃ t, exec (.flushStart) s = .next t ∧ t.tally.flush = { s.tally.flush with deferred := false, queued := true } ∧ t.regs = s.regs) ∧
  (∀ (s : State), s.tally.flush.running = true → s.tally.flush.queued = false → s.pwr.downAfterFlush = false → s.pwr.standbyWait = false → 
    ∃ t, exec (.flushEnd) s = .next t ∧ t.tally.flush.running = false ∧ t.flag Reg.TLY.INT_STATUS.FLUSH_DONE = true ∧ t.fld Reg.TLY.FLUSHES.FLUSHES = (s.fld Reg.TLY.FLUSHES.FLUSHES + 1) % (Reg.TLY.FLUSHES.FLUSHES.max + 1) ∧ t.dev = s.dev ∧ t.med = s.med) ∧
  (∀ (s : State), 
    ∃ t, exec (.readSelReady) s = .next t ∧ t.flag Reg.TLY.READ_SEL.READY = true ∧ t.flag Reg.TLY.READ_SEL.VALID = s.tally.sel.isSome ∧ t.tally = s.tally ∧ t.out = s.out)

/-- A key operation that its check has allowed ends, stays due until the bell boundary and raises OP_DONE; each enabled tamper input in SERVICE starts an Eruption with its cause; the end of the erasure clears ZEROISING and the persisted keys, and no page of CK or of the key cache says anything any more; a read of GROUP_STATUS answers the group and frees a group that is done (R223, R537, R538, R556, R557, R558) -/
def Obligations.KeysTamperAndGroupStatusComplete : Prop :=
  (∀ (s : State) (o : KeyOp), s.prot.op = some o → o.result = 0 → o.persist = false → 
    ∃ t, exec (.keyOpComplete) s = .next t ∧ t.prot.op = none ∧ t.prot.due = s.prot.due ++ [(o.op, o.slot, o.after)] ∧ t.prot.slots = s.prot.slots ∧ t.flag Reg.KEY.OP_STATUS.BUSY = false ∧ t.fld Reg.KEY.OP_STATUS.RESULT = 0 ∧ t.flag Reg.KEY.INT_STATUS.OP_DONE = true) ∧
  (∀ (s : State), s.dev.st = .service → s.pwr.standby = false → s.flag Reg.ALM.STATUS.ZEROISING = false → s.pwr.vin = true → 
    ∃ t, exec (.tamperMesh) s = .next t ∧ t.prot.slots = [] ∧ t.pnv.erupted = true ∧ t.pnv.erasing = true ∧ t.pnv.cause = 0x01 ∧ t.flag Reg.ALM.STATUS.ZEROISING = true ∧ t.fld Reg.ALM.CAUSE.CAUSE = 0x01 ∧ t.med = s.med) ∧
  (∀ (s : State) (n : Nat), s.dev.st = .service → s.pwr.standby = false → s.flag Reg.ALM.STATUS.ZEROISING = false → s.pwr.vin = true → n < 4 → bitOf (s.fld Reg.ALM.CFG.TAMPER_EN) n = true → 
    ∃ t, exec (.tamperNLow n) s = .next t ∧ t.prot.slots = [] ∧ t.pnv.erupted = true ∧ t.pnv.erasing = true ∧ t.pnv.cause = 0x02 ∧ t.flag Reg.ALM.STATUS.ZEROISING = true ∧ t.fld Reg.ALM.CAUSE.CAUSE = 0x02 ∧ t.med = s.med) ∧
  (∀ (s : State), s.dev.st = .service → s.pwr.standby = false → s.flag Reg.ALM.STATUS.ZEROISING = false → Rail.vddCore ∈ s.pwr.rails → 
    ∃ t, exec (.coreSupplyFault) s = .next t ∧ t.prot.slots = [] ∧ t.pnv.erupted = true ∧ t.pnv.erasing = true ∧ t.pnv.cause = 0x04 ∧ t.flag Reg.ALM.STATUS.ZEROISING = true ∧ t.fld Reg.ALM.CAUSE.CAUSE = 0x04 ∧ t.med = s.med) ∧
  (∀ (s : State), s.dev.st = .service → s.pwr.standby = false → s.flag Reg.ALM.STATUS.ZEROISING = false → s.flag Reg.BWT.CLK_STATUS.PLL_LOCKED = true → 
    ∃ t, exec (.clockFault) s = .next t ∧ t.prot.slots = [] ∧ t.pnv.erupted = true ∧ t.pnv.erasing = true ∧ t.pnv.cause = 0x08 ∧ t.flag Reg.ALM.STATUS.ZEROISING = true ∧ t.fld Reg.ALM.CAUSE.CAUSE = 0x08 ∧ t.med = s.med) ∧
  (∀ (s : State), s.flag Reg.ALM.STATUS.ZEROISING = true → 
    ∃ t, exec (.zeroiseEnd) s = .next t ∧ t.flag Reg.ALM.STATUS.ZEROISING = false ∧ t.pnv.keys = [] ∧ t.pnv.ck = false ∧ t.pnv.erasing = false ∧ t.nvSays .ck = some .none ∧ (∀ k ∈ List.range 64, t.nvSays (.slot k) = some .none) ∧ t.out = s.out) ∧
  (∀ (s : State) (src : Source) (g : Nat), g < 16 → s.pageOpen 0x0B 0x80 = true → (s.group g).st = .done → 
    ∃ t, exec (.groupStatusRead src g) s = .next t ∧ t.group g = {} ∧ t.out = s.out ++ [Output.regValue src (Reg.XLT.GROUP_STATUS.word g) (BitVec.ofNat 32 (s.groupWord g))] ∧ t.regs = s.regs)

/-- A push of one word that does not end a packet into an idle slot opens the slot while a cell is free; an open slot times out and is rewound; with the engine enabled and its admission unit free, the packet that is next is taken for admission whatever its opcode; at its decision a packet of a group opcode becomes the one request where there was none, and a packet that its pen's flush has marked, or that meets a refusal which is no region check, is counted as refused (R476, R477, R478, R480, R481, R484, R498) -/
def Obligations.StreamAdmissionCompletes : Prop :=
  (∀ (s : State) (a v p : Nat) (b : List Nat), s.ioOpen = true → b.length = 8 → a % 8 = 0 → a / 8 % 8 ≠ 7 → s.penSlot (a / 4096 % 64) (a / 64 % 64) = none → s.cellFree (a / 4096 % 64) = true → v = ofBytesLe b → 
    ∃ t, exec (.penPush a b p) s = .next t ∧ t.penSlot (a / 4096 % 64) (a / 64 % 64) = some { words := [none, none, none, none, none, none, none, none].set (a / 8 % 8) (some v), since := s.clk.bell } ∧ t.strm.packets = s.strm.packets ∧ t.out = s.out) ∧
  (∀ (s : State) (n k : Nat) (x : PenSlot), s.penSlot n k = some x → x.broken = false → x.since + s.appFld Reg.PEN.POOL_CFG.STAGE_TIMEOUT * 1024 < s.clk.bell → n < 64 → 
    ∃ t, exec (.slotStageTimeout n k) s = .next t ∧ t.penSlot n k = none ∧ t.fld (Reg.PEN.REWIND.REWIND n) = (s.fld (Reg.PEN.REWIND.REWIND n) + 1) % ((Reg.PEN.REWIND.REWIND n).max + 1) ∧ t.flag Reg.PEN.INT_STATUS.STAGE_TIMEOUT = true ∧ t.strm.packets = s.strm.packets) ∧
  (∀ (s : State) (k : Packet) (p : Nat), s.strm.adm = none → s.flag Reg.STR.CTRL.ENABLE = true → s.dev.st ≠ .vent → s.dev.st ≠ .halt → s.pwr.standbyWait = false → s.nextPacket = some k → k.opcode = 1 → 
    ∃ t, exec (.streamRead p) s = .next t ∧ t.strm.adm = some { pkt := k, due := (s.clk.bell * 4096 + p % 4096) + k.admitTime } ∧ t.strm.packets = s.strm.packets.erase k ∧ t.flag Reg.STR.STATUS.ADMITTING = true ∧ t.strm.reqs = s.strm.reqs ∧ t.med = s.med) ∧
  (∀ (s : State) (k : Packet) (p : Nat), s.strm.adm = none → s.flag Reg.STR.CTRL.ENABLE = true → s.dev.st ≠ .vent → s.dev.st ≠ .halt → s.pwr.standbyWait = false → s.nextPacket = some k → k.opcode = 2 → 
    ∃ t, exec (.streamWrite p) s = .next t ∧ t.strm.adm = some { pkt := k, due := (s.clk.bell * 4096 + p % 4096) + k.admitTime } ∧ t.strm.packets = s.strm.packets.erase k ∧ t.flag Reg.STR.STATUS.ADMITTING = true ∧ t.strm.reqs = s.strm.reqs ∧ t.med = s.med) ∧
  (∀ (s : State) (k : Packet) (p : Nat), s.strm.adm = none → s.flag Reg.STR.CTRL.ENABLE = true → s.dev.st ≠ .vent → s.dev.st ≠ .halt → s.pwr.standbyWait = false → s.nextPacket = some k → k.opcode = 3 → 
    ∃ t, exec (.loadDict p) s = .next t ∧ t.strm.adm = some { pkt := k, due := (s.clk.bell * 4096 + p % 4096) + k.admitTime } ∧ t.strm.packets = s.strm.packets.erase k ∧ t.flag Reg.STR.STATUS.ADMITTING = true ∧ t.strm.reqs = s.strm.reqs ∧ t.med = s.med) ∧
  (∀ (s : State) (k : Packet) (p : Nat), s.strm.adm = none → s.flag Reg.STR.CTRL.ENABLE = true → s.dev.st ≠ .vent → s.dev.st ≠ .halt → s.pwr.standbyWait = false → s.nextPacket = some k → k.opcode = 4 → 
    ∃ t, exec (.commitGroup p) s = .next t ∧ t.strm.adm = some { pkt := k, due := (s.clk.bell * 4096 + p % 4096) + k.admitTime } ∧ t.strm.packets = s.strm.packets.erase k ∧ t.flag Reg.STR.STATUS.ADMITTING = true ∧ t.strm.reqs = s.strm.reqs ∧ t.med = s.med) ∧
  (∀ (s : State) (k : Packet) (p : Nat), s.strm.adm = none → s.flag Reg.STR.CTRL.ENABLE = true → s.dev.st ≠ .vent → s.dev.st ≠ .halt → s.pwr.standbyWait = false → s.nextPacket = some k → k.opcode = 5 → 
    ∃ t, exec (.abortGroup p) s = .next t ∧ t.strm.adm = some { pkt := k, due := (s.clk.bell * 4096 + p % 4096) + k.admitTime } ∧ t.strm.packets = s.strm.packets.erase k ∧ t.flag Reg.STR.STATUS.ADMITTING = true ∧ t.strm.reqs = s.strm.reqs ∧ t.med = s.med) ∧
  (∀ (s : State) (a : Adm) (p : Nat), s.strm.adm = some a → a.due ≤ (s.clk.bell * 4096 + p % 4096) → a.flushed = false → (a.pkt.opcode = 4 ∨ a.pkt.opcode = 5) → a.pkt.useDict = false → s.strm.reqs = [] → 
    ∃ t, exec (.admissionDecision p) s = .next t ∧ t.strm.adm = none ∧ t.strm.reqs = [{ id := s.strm.next, pkt := a.pkt }] ∧ t.strm.next = s.strm.next + 1 ∧ t.flag Reg.STR.STATUS.ADMITTING = false ∧ t.med = s.med) ∧
  (∀ (s : State) (a : Adm) (p st d x : Nat), s.strm.adm = some a → a.due ≤ (s.clk.bell * 4096 + p % 4096) → a.pkt.pen < 64 → (a.flushed = true ∨ (s.packetRefusal a.pkt = some (st, d, x) ∧ (st ≠ 0x11 ∨ 0x10 ≤ d))) → 
    ∃ t, exec (.admissionDecision p) s = .next t ∧ t.strm.adm = none ∧ t.strm.reqs = s.strm.reqs ∧ t.fld (Reg.PEN.REFUSED.REFUSED a.pkt.pen) = (s.fld (Reg.PEN.REFUSED.REFUSED a.pkt.pen) + 1) % ((Reg.PEN.REFUSED.REFUSED a.pkt.pen).max + 1) ∧ t.flag Reg.STR.INT_STATUS.REFUSED = true ∧ t.med = s.med)

/-- A booked segment that no cache serves is read from the medium from its bell on where it has capacity, and is struck by its intervention where it has none; a lane that is free starts on a complete source and ends; a dictionary whose source is complete and whose finish has come is loaded; a commit of an open group makes it drain, and an abort ends it; a request that is over and delivered, its finish come and its deadline 0, ends DONE and is counted, and a failed one ends FAILED and is counted; host data that arrives for a save is kept; a cartridge sector that has been decoded is handed to its host read (R484, R488, R489, R492, R493, R497) -/
def Obligations.StreamWorkCompletes : Prop :=
  (∀ (s : State) (q : Req) (b : Book) (p : Nat), s.sreq q.id = some q → q.books.find? (fun x => x.seg = b.seg) = some b → b.started = false → b.bell ≤ s.clk.bell → q.fail = none → s.serving = true → dpaCart q.pkt.dpa = none → s.streamCached q.pkt b.seg = false → s.mediaRoom q b = true → 
    ∃ t, exec (.streamMediaRead q.id b.seg p) s = .next t ∧ t.reads.list = s.reads.list ++ [{ id := s.reads.next, who := .stream q.id b.seg, dpa := b.seg * 4096, keyid := q.pkt.keyid, acc := (s.clk.bell * 4096 + p % 4096), missAt := (s.clk.bell * 4096 + p % 4096), cls := 1 + q.pkt.engine, sectors := List.range 16 }] ∧ t.med = s.med) ∧
  (∀ (s : State) (q : Req) (b : Book) (p : Nat), s.sreq q.id = some q → q.books.find? (fun x => x.seg = b.seg) = some b → b.started = false → b.bell ≤ s.clk.bell → q.fail = none → s.serving = true → s.mediaRoom q b = false → 
    ∃ t, exec (.streamMediaRead q.id b.seg p) s = .next t ∧ t.reads = s.reads ∧ t.sreq q.id = some (q.struckBy (s.bookStrike q b)) ∧ t.out = s.out ∧ t.med = s.med) ∧
  (∀ (s : State) (r : Req) (x b n p : Nat), s.reads.list = [] → s.sreq r.id = some r → r.lane = some (x, b, n) → r.started = none → r.fail = none → r.complete = true → s.laneBusy x = false → b ≤ s.clk.bell → s.laneTaken x s.clk.bell r.id = false → s.serving = true → r.gen = none → 
    ∃ t, exec (.laneDecodeStart r.id p) s = .next t ∧ (t.sreq r.id).map (fun y => (y.decoding, y.decoded)) = some (true, r.decoded) ∧ t.strm.ledger = s.strm.ledger ∧ t.med = s.med) ∧
  (∀ (s : State) (r : Req) (p : Nat), s.sreq r.id = some r → r.decoding = true → 
    ∃ t, exec (.laneDecodeEnd r.id p) s = .next t ∧ t.sreq r.id = some { r with decoding := false, decoded := true } ∧ t.med = s.med) ∧
  (∀ (s : State) (r : Req) (g p : Nat) (c : List Nat), s.reads.list = [] → s.sreq r.id = some r → r.pkt.opcode = 3 → r.decoded = false → r.gen = some g → r.finish ≤ s.clk.bell → (s.dictSlot r.pkt.dict).named = true → r.fail = none → r.complete = true → (parseDict r.source).map (fun z => z.content) = some c → 
    ∃ t, exec (.dictLoadFinish r.id p) s = .next t ∧ (t.dictSlot r.pkt.dict).loaded = some g ∧ (t.dictSlot r.pkt.dict).content = c ∧ t.sreq r.id = some { r with decoded := true } ∧ t.flag Reg.DCX.INT_STATUS.DICT_LOADED = true ∧ t.med = s.med) ∧
  (∀ (s : State) (r : Req) (g p : Nat), s.sreq r.id = some r → r.pkt.opcode = 4 → r.acted = none → r.fail = none → s.strm.reqs.any (fun y => decide (y.pkt.pen = r.pkt.pen) && decide (y.id < r.id)) = false → s.openGroup r.pkt.region = some g → (s.group g).st = .opened → 
    ∃ t, exec (.streamGroupAction r.id p) s = .next t ∧ t.group g = { s.group g with st := .draining } ∧ t.sreq r.id = some { r with acted := some g } ∧ t.med = s.med) ∧
  (∀ (s : State) (r : Req) (p : Nat), s.reads.list = [] → s.sreq r.id = some r → s.reqOver r = true → s.delivered r.id = true → r.finish ≤ s.clk.bell → r.fail = none → r.bad = [] → r.pkt.deadline = 0 → r.pkt.pen < 64 → s.link.up = true → s.irq.busMaster = true → s.link.recovery = false → s.serving = true → 
    ∃ t, exec (.streamRequestEnd r.id p) s = .next t ∧ t.sreq r.id = none ∧ t.fld (Reg.PEN.DONE.DONE r.pkt.pen) = (s.fld (Reg.PEN.DONE.DONE r.pkt.pen) + 1) % ((Reg.PEN.DONE.DONE r.pkt.pen).max + 1) ∧ t.med = s.med) ∧
  (∀ (s : State) (r : Req) (g p : Nat), s.sreq r.id = some r → r.pkt.opcode = 5 → r.acted = none → r.fail = none → s.strm.reqs.any (fun y => decide (y.pkt.pen = r.pkt.pen) && decide (y.id < r.id)) = false → s.openGroup r.pkt.region = some g → 
    ∃ t, exec (.streamGroupAction r.id p) s = .next t ∧ (t.group g).st ≠ .opened ∧ t.sreq r.id = some { r with acted := some g } ∧ t.med = s.med) ∧
  (∀ (s : State) (r : Req) (st d o p : Nat), s.reads.list = [] → s.sreq r.id = some r → r.fail = some (st, d, o) → r.decoding = false → r.pkt.opcode ≠ 3 → r.pkt.pen < 64 → s.link.up = true → s.irq.busMaster = true → s.link.recovery = false → s.serving = true → 
    ∃ t, exec (.streamRequestEnd r.id p) s = .next t ∧ t.sreq r.id = none ∧ t.fld (Reg.PEN.FAILED.FAILED r.pkt.pen) = (s.fld (Reg.PEN.FAILED.FAILED r.pkt.pen) + 1) % ((Reg.PEN.FAILED.FAILED r.pkt.pen).max + 1) ∧ t.flag Reg.STR.INT_STATUS.FAILED = true ∧ t.med = s.med) ∧
  (∀ (s : State) (h : HostRd) (sv : Save) (p : Nat) (b : List Nat), s.strm.hostReads.find? (fun x => decide (x.tag = h.tag)) = some h → h.req = none → (s.zl h.slot).save = some sv → sv.reads = [] → s.ioOpen = true → s.serving = true → b.length = 512 → (∀ x ∈ b, x < 256) → h.len = 512 → 
    ∃ t, exec (.hostReadCompletion h.tag true b p) s = .next t ∧ (t.zl h.slot).save = some { sv with reads := [(h.off / 512, b)] } ∧ t.strm.hostReads = s.strm.hostReads.filter (fun x => decide (x.tag ≠ h.tag)) ∧ t.med = s.med) ∧
  (∀ (s : State) (r : Rd) (n tag p : Nat), s.rd n = some r → r.who = .host tag → r.st = .cart → r.acc + (if r.reread then 12686 else 7286) ≤ (s.clk.bell * 4096 + p % 4096) → r.outs ≠ [] → 
    ∃ t, exec (.cartReadHandoff n p) s = .next t ∧ t.rd n = none ∧ t.med = s.med ∧ t.xlt = s.xlt)

/-- Training with four lanes, or with lanes 0 and 1 only, starts the authentication at that width, and with neither pair the mount fails with cause 0xA; a good frame renews the link; an acknowledgement frees what it acknowledges, a NAK that frees nothing and a replay timer send everything unacknowledged again and are counted; a bad sequenced frame owes a NAK; the loss of the link takes the slot to FAULT the first time; a frame boundary sends a training frame while lanes train, the acknowledgement that is due, the commands that wait, and an idle frame where nothing waits, spread over the lanes and scrambled (R604, R608, R609, R610, R611, R631) -/
def Obligations.CartridgeLinkEventsComplete : Prop :=
  (∀ (s : State) (n p : Nat), n < 2 → s.serving = true → s.zlState n = zlTraining → 
    ∃ t, exec (.laneTrainingEnd n 0xF p) s = .next t ∧ t.zlState n = zlAuth ∧ t.fld (Reg.ZL.STATUS.WIDTH n) = 4 ∧ (t.zl n).stepAt = (s.clk.bell * 4096 + p % 4096) ∧ (t.zl n).cmds.length = 1 ∧ t.med = s.med) ∧
  (∀ (s : State) (n x p : Nat), n < 2 → s.serving = true → s.zlState n = zlTraining → x % 16 ≠ 15 → x % 4 = 3 → 
    ∃ t, exec (.laneTrainingEnd n x p) s = .next t ∧ t.zlState n = zlAuth ∧ t.fld (Reg.ZL.STATUS.WIDTH n) = 2 ∧ (t.zl n).stepAt = (s.clk.bell * 4096 + p % 4096) ∧ (t.zl n).cmds.length = 1 ∧ t.med = s.med) ∧
  (∀ (s : State) (n x p : Nat), n < 2 → s.serving = true → s.zlState n = zlTraining → x % 4 ≠ 3 → 
    ∃ t, exec (.laneTrainingEnd n x p) s = .next t ∧ t.zlState n = zlLocked ∧ t.fld (Reg.ZL.STATUS.AUTH_CAUSE n) = 0xA ∧ t.med = s.med) ∧
  (∀ (s : State) (n p : Nat), n < 2 → 
    ∃ t, exec (.tsFrame n p) s = .next t ∧ t.zl n = { s.zl n with lastGood := (s.clk.bell * 4096 + p % 4096) } ∧ t.regs = s.regs ∧ t.out = s.out) ∧
  (∀ (s : State) (n p : Nat), s.cartLive n = true → 
    ∃ t, exec (.idleFrame n p) s = .next t ∧ t.zl n = { s.zl n with lastGood := (s.clk.bell * 4096 + p % 4096) } ∧ t.regs = s.regs ∧ t.out = s.out) ∧
  (∀ (s : State) (n a p : Nat), s.cartLive n = true → a < 256 → 
    ∃ t, exec (.linkFrame n a true false p) s = .next t ∧ t.zl n = { s.zl n with lastGood := (s.clk.bell * 4096 + p % 4096), unacked := afterAck a (s.zl n).unacked, replay := min (s.zl n).replay (afterAck a (s.zl n).unacked).length, timer := if (afterAck a (s.zl n).unacked).length < (s.zl n).unacked.length then (s.clk.bell * 4096 + p % 4096) else (s.zl n).timer } ∧ t.regs = s.regs) ∧
  (∀ (s : State) (n p : Nat), s.cartLive n = true → (s.zl n).unacked ≠ [] → (s.zl n).timer + 6000 ≤ (s.clk.bell * 4096 + p % 4096) → s.fld (Reg.ZL.LINK_ERR.WINDOW n) < 32 → 
    ∃ t, exec (.replayTimer n p) s = .next t ∧ t.zl n = { s.zl n with replay := (s.zl n).unacked.length, timer := (s.clk.bell * 4096 + p % 4096) } ∧ t.fld (Reg.ZL.LINK_ERR.REPLAYS n) = min (s.fld (Reg.ZL.LINK_ERR.REPLAYS n) + 1) (Reg.ZL.LINK_ERR.REPLAYS n).max) ∧
  (∀ (s : State) (n p : Nat), s.cartLive n = true → (s.zl n).lastGood + 24000 ≤ (s.clk.bell * 4096 + p % 4096) → (s.zl n).lostOnce = false → 
    ∃ t, exec (.cartLinkLoss n p) s = .next t ∧ t.flag (Reg.ZL.INT_STATUS.LINK_LOST n) = true ∧ t.zlState n = zlFault ∧ (t.zl n).lostOnce = true ∧ (t.zl n).power = false ∧ t.med = s.med) ∧
  (∀ (s : State) (n p : Nat), s.cartLive n = true → 
    ∃ t, exec (.badCrcFrame n true p) s = .next t ∧ t.zl n = { s.zl n with nakDue := true } ∧ t.regs = s.regs ∧ t.out = s.out) ∧
  (∀ (s : State) (n a p : Nat) (v : Bool), s.cartLive n = true → (s.zl n).unacked ≠ [] → (v = true → (s.zl n).unacked.any (fun f => f.seq = a % 256) = false) → s.fld (Reg.ZL.LINK_ERR.WINDOW n) < 32 → 
    ∃ t, exec (.linkFrame n a v true p) s = .next t ∧ t.zl n = { s.zl n with lastGood := (s.clk.bell * 4096 + p % 4096), replay := (s.zl n).unacked.length, timer := (s.clk.bell * 4096 + p % 4096) } ∧ t.fld (Reg.ZL.LINK_ERR.REPLAYS n) = min (s.fld (Reg.ZL.LINK_ERR.REPLAYS n) + 1) (Reg.ZL.LINK_ERR.REPLAYS n).max) ∧
  (∀ (s : State) (n p : Nat), s.cartTrains n = true → 
    ∃ t, exec (.cartFrameBoundary n p) s = .next t ∧ t.zl n = s.zl n ∧ t.out = s.out ++ [Output.cartFrame n (frameBytes 0 0x02 (Config.tsPayload n)) (List.replicate (if (s.zl n).degrading then 2 else 4) (frameBytes 0 0x02 (Config.tsPayload n)))] ∧ t.regs = s.regs) ∧
  (∀ (s : State) (n p : Nat), s.cartLive n = true → (s.zl n).nakDue = false → (s.zl n).ackDue = true → 15 ≤ (s.zl n).sinceAck → 
    ∃ t, exec (.cartFrameBoundary n p) s = .next t ∧ t.out = s.out ++ [Output.cartFrame n (frameBytes 0 0x01 (BitVec.ofNat 512 (((s.zl n).expect + 255) % 256 + 512))) ((List.range (s.lanesOf n)).map (fun m => (scrLane ((s.zl n).scr.getD m 0) (laneOf (s.lanesOf n) m (frameBytes 0 0x01 (BitVec.ofNat 512 (((s.zl n).expect + 255) % 256 + 512))))).1))] ∧ t.zl n = { s.zl n with scr := (List.range (s.lanesOf n)).map (fun m => (scrLane ((s.zl n).scr.getD m 0) (laneOf (s.lanesOf n) m (frameBytes 0 0x01 (BitVec.ofNat 512 (((s.zl n).expect + 255) % 256 + 512))))).2), ackDue := false, sinceAck := 0 } ∧ t.regs = s.regs) ∧
  (∀ (s : State) (n p : Nat), s.cartLive n = true → (s.zl n).nakDue = false → (s.zl n).ackDue = false → (s.zl n).replay = 0 → (s.zl n).nextCmds = [] → (s.zl n).wdata = [] → 
    ∃ t, exec (.cartFrameBoundary n p) s = .next t ∧ t.out = s.out ++ [Output.cartFrame n (frameBytes 0 0x00 0) ((List.range (s.lanesOf n)).map (fun m => (scrLane ((s.zl n).scr.getD m 0) (laneOf (s.lanesOf n) m (frameBytes 0 0x00 0))).1))] ∧ t.zl n = { s.zl n with scr := (List.range (s.lanesOf n)).map (fun m => (scrLane ((s.zl n).scr.getD m 0) (laneOf (s.lanesOf n) m (frameBytes 0 0x00 0))).2), sinceAck := (s.zl n).sinceAck + 1 } ∧ t.regs = s.regs) ∧
  (∀ (s : State) (n p : Nat) (l : List CartCmd), s.cartLive n = true → (s.zl n).nakDue = false → (s.zl n).ackDue = false → (s.zl n).replay = 0 → (s.zl n).unacked.length < 32 → (s.zl n).nextCmds = l → l ≠ [] → 
    ∃ t, exec (.cartFrameBoundary n p) s = .next t ∧ (t.zl n).unacked = (s.zl n).unacked ++ [{ seq := (s.zl n).seq, ty := 0x10, payload := BitVec.ofNat 512 (ofBytesLe (l.flatMap CartCmd.bytes)) }] ∧ (t.zl n).seq = ((s.zl n).seq + 1) % 256 ∧ (t.zl n).cmds = (s.zl n).cmds.map (fun c => if (l.map (fun c => c.tag)).contains c.tag then { c with sent := some (s.clk.bell * 4096 + p % 4096) } else c) ∧ t.fld (Reg.ZL.READS.READS n) = min (s.fld (Reg.ZL.READS.READS n) + (l.filter (fun c => c.op = 1)).length) (Reg.ZL.READS.READS n).max)

/-- A metadata frame that answers an outstanding read in time is kept and data frames follow it; an error frame ends its read; a response header is kept; frames of a type that only the device sends, or of no type, are violations; an answer or completion that is late ends its command as a timeout or tries again (R612, R613, R616, R621, R623, R624, R627, R631) -/
def Obligations.CartridgeResponsesComplete : Prop :=
  (∀ (s : State) (n p : Nat) (c : CartCmd) (pl : Line), s.cartLive n = true → (s.zl n).expect = 7 → (s.zl n).resp = none → (s.zl n).cmds = [c] → c.op = 1 → c.sent.isSome = true → (s.at_ p).lateFirst c = false → payByte pl 0 = c.tag → payByte pl 1 = 0 → payByte pl 2 = c.count → (∀ i ∈ List.range 13, payByte pl (3 + i) = 0) → 
    ∃ t, exec (.rmeta n 7 pl p) s = .next t ∧ t.zl n = { s.zl n with lastGood := (s.clk.bell * 4096 + p % 4096), expect := 8, ackDue := true, dropping := false, resp := some c.tag, cmds := [{ c with head := some pl, data := [] }] } ∧ t.regs = s.regs) ∧
  (∀ (s : State) (n p : Nat) (c : CartCmd) (pl : Line), s.cartLive n = true → (s.zl n).expect = 7 → (s.zl n).resp = some c.tag → (s.zl n).cmds = [c] → c.op = 1 → c.sent.isSome = true → (s.at_ p).lateLast c = false → c.data.length + 1 < 4 * c.count → 
    ∃ t, exec (.rdata n 7 pl p) s = .next t ∧ t.zl n = { s.zl n with lastGood := (s.clk.bell * 4096 + p % 4096), expect := 8, ackDue := true, cmds := [{ c with data := c.data ++ [pl] }] } ∧ t.regs = s.regs) ∧
  (∀ (s : State) (n p : Nat) (c : CartCmd) (pl : Line), s.cartLive n = true → (s.zl n).expect = 7 → (s.zl n).resp = none → (s.zl n).cmds = [c] → c.op = 1 → c.sent.isSome = true → payByte pl 0 = c.tag → c.use = .copy 0 false → c.count = 1 → (∀ i ∈ List.range 62, payByte pl (2 + i) = 0) → 
    ∃ t, exec (.rerr n 7 pl p) s = .next t ∧ (t.zl n).expect = 8 ∧ (t.zl n).ackDue = true ∧ (t.zl n).cmds.map (fun y => (y.op, y.count, y.arg, y.use, y.sent)) = [(1, 1, c.arg, .copy 0 true, none)] ∧ t.fld (Reg.ZL.RETRY.RETRIES n) = min (s.fld (Reg.ZL.RETRY.RETRIES n) + 1) (Reg.ZL.RETRY.RETRIES n).max) ∧
  (∀ (s : State) (n p : Nat) (c : CartCmd) (pl : Line), s.cartLive n = true → (s.zl n).expect = 7 → (s.zl n).resp = none → (s.zl n).cmds = [c] → c.op = 4 → c.sent.isSome = true → payByte pl 0 = c.tag → payByte pl 2 + 256 * payByte pl 3 = 64 → (∀ i ∈ List.range 12, payByte pl (4 + i) = 0) → 
    ∃ t, exec (.rsp n 7 pl p) s = .next t ∧ t.zl n = { s.zl n with lastGood := (s.clk.bell * 4096 + p % 4096), expect := 8, ackDue := true, dropping := false, resp := some c.tag, cmds := [{ c with head := some pl, data := [] }] } ∧ t.regs = s.regs) ∧
  (∀ (s : State) (n p : Nat), s.cartLive n = true → (s.zl n).expect = 7 → 
    ∃ t, exec (.deviceOnlyTypeFrame n 7 p) s = .next t ∧ (t.zl n).expect = 8 ∧ (t.zl n).ackDue = true ∧ t.fld (Reg.ZL.VIOL.UNSOLICITED n) = min (s.fld (Reg.ZL.VIOL.UNSOLICITED n) + 1) (Reg.ZL.VIOL.UNSOLICITED n).max ∧ t.med = s.med) ∧
  (∀ (s : State) (n p : Nat), s.cartLive n = true → (s.zl n).resp = none → 
    ∃ t, exec (.unusedTypeFrame n p) s = .next t ∧ t.zl n = { s.zl n with lastGood := (s.clk.bell * 4096 + p % 4096) } ∧ t.fld (Reg.ZL.VIOL.MALFORMED n) = min (s.fld (Reg.ZL.VIOL.MALFORMED n) + 1) (Reg.ZL.VIOL.MALFORMED n).max ∧ t.med = s.med) ∧
  (∀ (s : State) (n p k : Nat) (c : CartCmd), s.cartLive n = true → (s.zl n).cmds = [c] → c.op = 1 → c.sent = some k → c.use = .copy 0 false → c.count = 1 → c.head = none → k + 5400 ≤ (s.clk.bell * 4096 + p % 4096) → 
    ∃ t, exec (.cartAnswerTimeout n c.tag p) s = .next t ∧ (t.zl n).cmds.map (fun y => (y.op, y.count, y.arg, y.use, y.sent)) = [(1, 1, c.arg, .copy 0 true, none)] ∧ t.fld (Reg.ZL.RETRY.RETRIES n) = min (s.fld (Reg.ZL.RETRY.RETRIES n) + 1) (Reg.ZL.RETRY.RETRIES n).max ∧ t.fld (Reg.ZL.VIOL.TIMEOUTS n) = min (s.fld (Reg.ZL.VIOL.TIMEOUTS n) + 1) (Reg.ZL.VIOL.TIMEOUTS n).max ∧ t.med = s.med) ∧
  (∀ (s : State) (n p k : Nat) (c : CartCmd) (h : Line), s.cartLive n = true → (s.zl n).cmds = [c] → (s.zl n).resp = some c.tag → c.op = 1 → c.sent = some k → c.use = .copy 0 false → c.count = 1 → c.head = some h → k + 6930 ≤ (s.clk.bell * 4096 + p % 4096) → 
    ∃ t, exec (.cartCompletionDeadline n c.tag p) s = .next t ∧ (t.zl n).resp = none ∧ (t.zl n).dropping = true ∧ (t.zl n).cmds.map (fun y => (y.op, y.count, y.arg, y.use, y.sent)) = [(1, 1, c.arg, .copy 0 true, none)] ∧ t.fld (Reg.ZL.RETRY.RETRIES n) = min (s.fld (Reg.ZL.RETRY.RETRIES n) + 1) (Reg.ZL.RETRY.RETRIES n).max) ∧
  (∀ (s : State) (n p k : Nat) (c : CartCmd), s.cartLive n = true → (s.zl n).cmds = [c] → c.op = 4 → c.sent = some k → k + 3000000 ≤ (s.clk.bell * 4096 + p % 4096) → 
    ∃ t, exec (.cartCommandTimeout n c.tag p) s = .next t ∧ t.zlState n = zlLocked ∧ t.fld (Reg.ZL.STATUS.AUTH_CAUSE n) = 0xA ∧ (t.zl n).cmds = [] ∧ t.med = s.med) ∧
  (∀ (s : State) (n p k : Nat) (c : CartCmd) (sv : Save), s.cartLive n = true → (s.zl n).cmds = [c] → c.op = 2 → c.sent = some k → c.use = .saveWrite true → (s.zl n).save = some sv → (s.zl n).wdata = [] → k + 60000000 ≤ (s.clk.bell * 4096 + p % 4096) → 
    ∃ t, exec (.saveWriteTimeout n p) s = .next t ∧ (t.zl n).cmds = [] ∧ (t.zl n).save = none ∧ t.fld (Reg.ZL.SAVE_STATUS.RESULT n) = 4 ∧ t.flag (Reg.ZL.SAVE_STATUS.BUSY n) = false ∧ t.flag (Reg.ZL.INT_STATUS.SAVE_DONE n) = true)

/-- An insertion into an empty slot with AUTO_MOUNT starts the power-up; the reset is released 100 ms after the clock and training begins; a step that lasts too long ends LOCKED with cause 0xA; a removal powers the slot off and is recorded; a power-good that falls ends the power-off in the state that was due (R604, R629, R630) -/
def Obligations.CartridgeSlotEventsComplete : Prop :=
  (∀ (s : State) (n p : Nat), n < 2 → s.zlOff n = false → s.dev.st = .service → s.pwr.ctrlOn = true → s.zlState n = zlEmpty → s.cartSeated n = false → s.flag (Reg.ZL.CFG.AUTO_MOUNT n) = true → 
    ∃ t, exec (.cartInsert n p) s = .next t ∧ t.zlState n = zlPowering ∧ (t.zl n).power = true ∧ (t.zl n).stepAt = (s.clk.bell * 4096 + p % 4096) ∧ t.cartSeated n = true ∧ t.flag (Reg.ZL.INT_STATUS.INSERTED n) = true ∧ t.med = s.med) ∧
  (∀ (s : State) (n p : Nat), n < 2 → s.zlState n = zlPowering → (s.zl n).clock = true → (s.zl n).stepAt + 300000 ≤ (s.clk.bell * 4096 + p % 4096) → 
    ∃ t, exec (.cartRstNRelease n p) s = .next t ∧ t.zlState n = zlTraining ∧ t.zl n = { s.zl n with rstN := true, stepAt := (s.clk.bell * 4096 + p % 4096) } ∧ t.out = s.out) ∧
  (∀ (s : State) (n p l : Nat), n < 2 → s.stepLimit n = some l → (s.zl n).stepAt + l < (s.clk.bell * 4096 + p % 4096) → 
    ∃ t, exec (.cartStepTimeout n p) s = .next t ∧ t.zlState n = zlLocked ∧ t.fld (Reg.ZL.STATUS.AUTH_CAUSE n) = 0xA ∧ (t.zl n).power = false ∧ t.med = s.med) ∧
  (∀ (s : State) (n p : Nat), n < 2 → s.cartSeated n = true → s.zlState n ≠ zlEmpty → 
    ∃ t, exec (.cartRemoval n p) s = .next t ∧ t.zlState n = zlPoweringOff ∧ t.cartSeated n = false ∧ (t.zl n).after = zlEmpty ∧ (t.zl n).power = false ∧ t.flag (Reg.ZL.INT_STATUS.REMOVED n) = true ∧ t.med = s.med) ∧
  (∀ (s : State) (n : Nat), n < 2 → s.zlState n = zlPoweringOff → (s.zl n).after < 16 → 
    ∃ t, exec (.cartPgLow n) s = .next t ∧ t.zlState n = (s.zl n).after ∧ t.zl n = s.zl n ∧ t.out = s.out)

/-- A write of THM.LIMITS on the idle page is applied only if WARN < CRIT < TRIP, no value exceeds its reset value and ROR is 1 or more; otherwise nothing of it is applied and CFG_ERR is set (R704) -/
def Obligations.ThermalLimitsKeepTheirOrder : Prop :=
  (∀ (s : State) (src : Source) (w : Word), s.pageOpen 0x32 0x40 = true → src ≠ .i3c → s.cfgLock 0x32 = false → s.pageState 0x32 = 1 → (bitsOf w.toNat 15 8 < bitsOf w.toNat 23 16 ∧ bitsOf w.toNat 23 16 < bitsOf w.toNat 31 24 ∧ bitsOf w.toNat 31 24 ≤ 0x73 ∧ bitsOf w.toNat 23 16 ≤ 0x69 ∧ bitsOf w.toNat 15 8 ≤ 0x5F ∧ 1 ≤ bitsOf w.toNat 7 0 ∧ bitsOf w.toNat 7 0 ≤ 0x14) → 
    ∃ t, exec (.registerWrite src 0x32040 w {}) s = .next t ∧ t.reg 0x32040 = w.toNat ∧ t.reg 0x3200C = s.reg 0x3200C ∧ t.med = s.med) ∧
  (∀ (s : State) (src : Source) (w : Word), s.pageOpen 0x32 0x40 = true → src ≠ .i3c → s.cfgLock 0x32 = false → s.pageState 0x32 = 1 → (¬ (bitsOf w.toNat 15 8 < bitsOf w.toNat 23 16 ∧ bitsOf w.toNat 23 16 < bitsOf w.toNat 31 24 ∧ bitsOf w.toNat 31 24 ≤ 0x73 ∧ bitsOf w.toNat 23 16 ≤ 0x69 ∧ bitsOf w.toNat 15 8 ≤ 0x5F ∧ 1 ≤ bitsOf w.toNat 7 0 ∧ bitsOf w.toNat 7 0 ≤ 0x14)) → 
    ∃ t, exec (.registerWrite src 0x32040 w {}) s = .next t ∧ t.reg 0x32040 = s.reg 0x32040 ∧ bitOf (t.reg 0x3200C) 27 = true ∧ t.med = s.med) ∧
  State.reset.reg 0x32040 = 0x73695F14

/-- A write of LAT_PROFILE on the idle page: the value 0x1 is taken; any other value is ignored and sets CFG_ERR; the reserved bits read 0 and ignore the write, and the register resets to 1 (R59) -/
def Obligations.LatencyProfileTakesOnlyOne : Prop :=
  (∀ (s : State) (src : Source) (w : Word), s.pageOpen 0x01 0x54 = true → src ≠ .i3c → s.cfgLock 0x01 = false → s.pageState 0x01 = 1 → bitsOf w.toNat 3 0 = 1 → 
    ∃ t, exec (.registerWrite src 0x01054 w {}) s = .next t ∧ t.fld Reg.BWT.LAT_PROFILE.PROFILE = 1 ∧ bitsOf (t.reg 0x01054) 31 4 = bitsOf (s.reg 0x01054) 31 4 ∧ t.reg 0x0100C = s.reg 0x0100C ∧ t.med = s.med) ∧
  (∀ (s : State) (src : Source) (w : Word), s.pageOpen 0x01 0x54 = true → src ≠ .i3c → s.cfgLock 0x01 = false → s.pageState 0x01 = 1 → bitsOf w.toNat 3 0 ≠ 1 → 
    ∃ t, exec (.registerWrite src 0x01054 w {}) s = .next t ∧ t.reg 0x01054 = s.reg 0x01054 ∧ bitOf (t.reg 0x0100C) 27 = true ∧ t.med = s.med) ∧
  State.reset.reg 0x01054 = 1

/-- TRIM_GO raises TRIM_REFUSED and changes no map, region, cache, medium or other register of the page, where TRIM_COUNT is 0, where the range passes USER_SEGS, where a region that the range touches has an open group, or where a trim is busy (R207) -/
def Obligations.TrimsAreRefusedWhole : Prop :=
  (∀ (s : State) (src : Source) (w : Word), s.pageOpen 0x0B 0x68 = true → s.cmdLock 0x0B = false → src ≠ .i3c → bitsOf w.toNat 15 8 = 0x5A → s.fld Reg.XLT.TRIM_COUNT.COUNT = 0 → 
    ∃ t, exec (.trimGo src w) s = .next t ∧ t.flag Reg.XLT.INT_STATUS.TRIM_REFUSED = true ∧ t.xlt = s.xlt ∧ t.prot = s.prot ∧ t.caches = s.caches ∧ t.dram = s.dram ∧ t.med = s.med ∧ t.pnv = s.pnv ∧ t.applied = s.applied ∧ (∀ a ∈ List.range 0x1000, a ≠ 0x10 → t.reg (0x0B000 + a) = s.reg (0x0B000 + a))) ∧
  (∀ (s : State) (src : Source) (w : Word), s.pageOpen 0x0B 0x68 = true → s.cmdLock 0x0B = false → src ≠ .i3c → bitsOf w.toNat 15 8 = 0x5A → s.fld Reg.XLT.USER_SEGS.USER_SEGS < s.fld Reg.XLT.TRIM_START.FIRST + s.fld Reg.XLT.TRIM_COUNT.COUNT → 
    ∃ t, exec (.trimGo src w) s = .next t ∧ t.flag Reg.XLT.INT_STATUS.TRIM_REFUSED = true ∧ t.xlt = s.xlt ∧ t.prot = s.prot ∧ t.caches = s.caches ∧ t.dram = s.dram ∧ t.med = s.med ∧ t.pnv = s.pnv ∧ t.applied = s.applied ∧ (∀ a ∈ List.range 0x1000, a ≠ 0x10 → t.reg (0x0B000 + a) = s.reg (0x0B000 + a))) ∧
  (∀ (s : State) (src : Source) (w : Word), s.pageOpen 0x0B 0x68 = true → s.cmdLock 0x0B = false → src ≠ .i3c → bitsOf w.toNat 15 8 = 0x5A → (s.regionsIn (s.fld Reg.XLT.TRIM_START.FIRST) (s.fld Reg.XLT.TRIM_COUNT.COUNT)).any (fun r => (s.openGroup r).isSome) = true → 
    ∃ t, exec (.trimGo src w) s = .next t ∧ t.flag Reg.XLT.INT_STATUS.TRIM_REFUSED = true ∧ t.xlt = s.xlt ∧ t.prot = s.prot ∧ t.caches = s.caches ∧ t.dram = s.dram ∧ t.med = s.med ∧ t.pnv = s.pnv ∧ t.applied = s.applied ∧ (∀ a ∈ List.range 0x1000, a ≠ 0x10 → t.reg (0x0B000 + a) = s.reg (0x0B000 + a))) ∧
  (∀ (s : State) (src : Source) (w : Word), s.pageOpen 0x0B 0x68 = true → s.cmdLock 0x0B = false → src ≠ .i3c → bitsOf w.toNat 15 8 = 0x5A → s.xlt.trim.busy = true → 
    ∃ t, exec (.trimGo src w) s = .next t ∧ t.flag Reg.XLT.INT_STATUS.TRIM_REFUSED = true ∧ t.xlt = s.xlt ∧ t.prot = s.prot ∧ t.caches = s.caches ∧ t.dram = s.dram ∧ t.med = s.med ∧ t.pnv = s.pnv ∧ t.applied = s.applied ∧ (∀ a ∈ List.range 0x1000, a ≠ 0x10 → t.reg (0x0B000 + a) = s.reg (0x0B000 + a)))

/-- A stash fill whose space does not match its target, whose target is an L1P of other address bits, is bypassed or dead, or whose agent is disabled in STASH_CTRL, is counted in STASH_DROPS and raises STASH_DROPPED; of messages only COMP goes to the agent, no record is queued, and the caches hold what the write of the home line alone leaves; a fill of the crypto engine that its target does not take is counted and raises it as well, and no message follows it (R354) -/
def Obligations.DroppedStashesStayAtTheHome : Prop :=
  (∀ (s : State) (internal : Bool) (keyid addr agent target p : Nat) (d : Line), agent ≤ 2 → 1 ≤ target → target ≤ 14 → s.stopDead (agentStop agent) = false → s.ring.parked.any (fun y => decide (y.stop = (agentStop agent)) && decide (y.line = stashedLine internal keyid addr)) = false → s.req (agentStop agent) (stashedLine internal keyid addr) = none → s.ring.reqs.any (fun y => y.stop = (agentStop agent) && y.st = .held && decide (y.line.home = (stashedLine internal keyid addr).home)) = false → s.resetting.contains 0x11 = false → (s.at_ p).entryFree (l2Slice (stashedLine internal keyid addr).addr) = true → (target ≤ 4 ∨ 13 ≤ target) → internal = true → 
    ∃ t, exec (.stashFill agent target internal keyid addr d p) s = .next t ∧ t.fld Reg.RNG.STASH_DROPS.DROPS = (s.fld Reg.RNG.STASH_DROPS.DROPS + 1) % 2 ^ 32 ∧ t.flag Reg.RNG.INT_STATUS.STASH_DROPPED = true ∧ t.ring.msgs = (s.at_ p).schedule (s.ring.msgs) { id := s.ring.next, ty := .comp, src := (stashedLine internal keyid addr).home, dst := agentStop agent, line := stashedLine internal keyid addr, ready := (s.clk.bell * 4096 + p % 4096) + 1, sent := (s.clk.bell * 4096 + p % 4096) + 1 } ∧ t.tally = s.tally ∧ t.caches = ((s.at_ p).homeWrite (stashedLine internal keyid addr) d false false).caches ∧ t.med = s.med) ∧
  (∀ (s : State) (internal : Bool) (keyid addr agent target p : Nat) (d : Line), agent ≤ 2 → 1 ≤ target → target ≤ 14 → s.stopDead (agentStop agent) = false → s.ring.parked.any (fun y => decide (y.stop = (agentStop agent)) && decide (y.line = stashedLine internal keyid addr)) = false → s.req (agentStop agent) (stashedLine internal keyid addr) = none → s.ring.reqs.any (fun y => y.stop = (agentStop agent) && y.st = .held && decide (y.line.home = (stashedLine internal keyid addr).home)) = false → s.resetting.contains 0x11 = false → (s.at_ p).entryFree (l2Slice (stashedLine internal keyid addr).addr) = true → 5 ≤ target → target ≤ 12 → internal = false → 
    ∃ t, exec (.stashFill agent target internal keyid addr d p) s = .next t ∧ t.fld Reg.RNG.STASH_DROPS.DROPS = (s.fld Reg.RNG.STASH_DROPS.DROPS + 1) % 2 ^ 32 ∧ t.flag Reg.RNG.INT_STATUS.STASH_DROPPED = true ∧ t.ring.msgs = (s.at_ p).schedule (s.ring.msgs) { id := s.ring.next, ty := .comp, src := (stashedLine internal keyid addr).home, dst := agentStop agent, line := stashedLine internal keyid addr, ready := (s.clk.bell * 4096 + p % 4096) + 1, sent := (s.clk.bell * 4096 + p % 4096) + 1 } ∧ t.tally = s.tally ∧ t.caches = ((s.at_ p).homeWrite (stashedLine internal keyid addr) d false false).caches ∧ t.med = s.med) ∧
  (∀ (s : State) (internal : Bool) (keyid addr agent target p : Nat) (d : Line), agent ≤ 2 → 1 ≤ target → target ≤ 14 → s.stopDead (agentStop agent) = false → s.ring.parked.any (fun y => decide (y.stop = (agentStop agent)) && decide (y.line = stashedLine internal keyid addr)) = false → s.req (agentStop agent) (stashedLine internal keyid addr) = none → s.ring.reqs.any (fun y => y.stop = (agentStop agent) && y.st = .held && decide (y.line.home = (stashedLine internal keyid addr).home)) = false → s.resetting.contains 0x11 = false → (s.at_ p).entryFree (l2Slice (stashedLine internal keyid addr).addr) = true → target ≤ 4 → target ≠ bitsOf (addr / 64 * 64) 7 6 + 1 → 
    ∃ t, exec (.stashFill agent target internal keyid addr d p) s = .next t ∧ t.fld Reg.RNG.STASH_DROPS.DROPS = (s.fld Reg.RNG.STASH_DROPS.DROPS + 1) % 2 ^ 32 ∧ t.flag Reg.RNG.INT_STATUS.STASH_DROPPED = true ∧ t.ring.msgs = (s.at_ p).schedule (s.ring.msgs) { id := s.ring.next, ty := .comp, src := (stashedLine internal keyid addr).home, dst := agentStop agent, line := stashedLine internal keyid addr, ready := (s.clk.bell * 4096 + p % 4096) + 1, sent := (s.clk.bell * 4096 + p % 4096) + 1 } ∧ t.tally = s.tally ∧ t.caches = ((s.at_ p).homeWrite (stashedLine internal keyid addr) d false false).caches ∧ t.med = s.med) ∧
  (∀ (s : State) (internal : Bool) (keyid addr agent target p : Nat) (d : Line), agent ≤ 2 → 1 ≤ target → target ≤ 14 → s.stopDead (agentStop agent) = false → s.ring.parked.any (fun y => decide (y.stop = (agentStop agent)) && decide (y.line = stashedLine internal keyid addr)) = false → s.req (agentStop agent) (stashedLine internal keyid addr) = none → s.ring.reqs.any (fun y => y.stop = (agentStop agent) && y.st = .held && decide (y.line.home = (stashedLine internal keyid addr).home)) = false → s.resetting.contains 0x11 = false → (s.at_ p).entryFree (l2Slice (stashedLine internal keyid addr).addr) = true → popCount (cacheWays target) (s.small target).disabled = cacheWays target → 
    ∃ t, exec (.stashFill agent target internal keyid addr d p) s = .next t ∧ t.fld Reg.RNG.STASH_DROPS.DROPS = (s.fld Reg.RNG.STASH_DROPS.DROPS + 1) % 2 ^ 32 ∧ t.flag Reg.RNG.INT_STATUS.STASH_DROPPED = true ∧ t.ring.msgs = (s.at_ p).schedule (s.ring.msgs) { id := s.ring.next, ty := .comp, src := (stashedLine internal keyid addr).home, dst := agentStop agent, line := stashedLine internal keyid addr, ready := (s.clk.bell * 4096 + p % 4096) + 1, sent := (s.clk.bell * 4096 + p % 4096) + 1 } ∧ t.tally = s.tally ∧ t.caches = ((s.at_ p).homeWrite (stashedLine internal keyid addr) d false false).caches ∧ t.med = s.med) ∧
  (∀ (s : State) (internal : Bool) (keyid addr agent target p : Nat) (d : Line), agent ≤ 2 → 1 ≤ target → target ≤ 14 → s.stopDead (agentStop agent) = false → s.ring.parked.any (fun y => decide (y.stop = (agentStop agent)) && decide (y.line = stashedLine internal keyid addr)) = false → s.req (agentStop agent) (stashedLine internal keyid addr) = none → s.ring.reqs.any (fun y => y.stop = (agentStop agent) && y.st = .held && decide (y.line.home = (stashedLine internal keyid addr).home)) = false → s.resetting.contains 0x11 = false → (s.at_ p).entryFree (l2Slice (stashedLine internal keyid addr).addr) = true → s.agentDead target = true → 
    ∃ t, exec (.stashFill agent target internal keyid addr d p) s = .next t ∧ t.fld Reg.RNG.STASH_DROPS.DROPS = (s.fld Reg.RNG.STASH_DROPS.DROPS + 1) % 2 ^ 32 ∧ t.flag Reg.RNG.INT_STATUS.STASH_DROPPED = true ∧ t.ring.msgs = (s.at_ p).schedule (s.ring.msgs) { id := s.ring.next, ty := .comp, src := (stashedLine internal keyid addr).home, dst := agentStop agent, line := stashedLine internal keyid addr, ready := (s.clk.bell * 4096 + p % 4096) + 1, sent := (s.clk.bell * 4096 + p % 4096) + 1 } ∧ t.tally = s.tally ∧ t.caches = ((s.at_ p).homeWrite (stashedLine internal keyid addr) d false false).caches ∧ t.med = s.med) ∧
  (∀ (s : State) (internal : Bool) (keyid addr agent target p : Nat) (d : Line), agent ≤ 2 → 1 ≤ target → target ≤ 14 → s.stopDead (agentStop agent) = false → s.ring.parked.any (fun y => decide (y.stop = (agentStop agent)) && decide (y.line = stashedLine internal keyid addr)) = false → s.req (agentStop agent) (stashedLine internal keyid addr) = none → s.ring.reqs.any (fun y => y.stop = (agentStop agent) && y.st = .held && decide (y.line.home = (stashedLine internal keyid addr).home)) = false → s.resetting.contains 0x11 = false → (s.at_ p).entryFree (l2Slice (stashedLine internal keyid addr).addr) = true → (agent = 0 ∧ s.flag Reg.RNG.STASH_CTRL.DROVER_EN = false ∨ agent = 1 ∧ s.flag Reg.RNG.STASH_CTRL.SHEPHERD_EN = false ∨ agent = 2 ∧ s.flag Reg.RNG.STASH_CTRL.DMA_EN = false) → 
    ∃ t, exec (.stashFill agent target internal keyid addr d p) s = .next t ∧ t.fld Reg.RNG.STASH_DROPS.DROPS = (s.fld Reg.RNG.STASH_DROPS.DROPS + 1) % 2 ^ 32 ∧ t.flag Reg.RNG.INT_STATUS.STASH_DROPPED = true ∧ t.ring.msgs = (s.at_ p).schedule (s.ring.msgs) { id := s.ring.next, ty := .comp, src := (stashedLine internal keyid addr).home, dst := agentStop agent, line := stashedLine internal keyid addr, ready := (s.clk.bell * 4096 + p % 4096) + 1, sent := (s.clk.bell * 4096 + p % 4096) + 1 } ∧ t.tally = s.tally ∧ t.caches = ((s.at_ p).homeWrite (stashedLine internal keyid addr) d false false).caches ∧ t.med = s.med) ∧
  (∀ (s : State) (m : RMsg) (target keyid addr p : Nat) (internal : Bool) (e d : Line), (s.at_ p).fillArrived target (stashedLine internal keyid addr) = some (m, d) → m.stale = false → s.noAlloc m.line.addr = false → 1 ≤ target → target ≤ 14 → s.stashRefused 3 target m.line = true → 
    ∃ t, exec (.stashFill 3 target internal keyid addr e p) s = .next t ∧ t.fld Reg.RNG.STASH_DROPS.DROPS = (s.fld Reg.RNG.STASH_DROPS.DROPS + 1) % 2 ^ 32 ∧ t.flag Reg.RNG.INT_STATUS.STASH_DROPPED = true ∧ t.ring.msgs = s.ring.msgs.filter (fun y => y.id ≠ m.id) ∧ t.tally = s.tally ∧ t.med = s.med)

/-- From BOOT onward, with no authorisation, REG_READ answers the register over the port and changes no register, RC field, companion latch or counter: beside the phase of the time base, the instruction register of the port and the answer, the state is as before (R823) -/
def Obligations.DebugReadsDisturbNothing : Prop :=
  (∀ (s : State) (a p : Nat), s.tapOn = true → s.dev.st ≠ .off → s.dev.st ≠ .seqUp → a < 0x40000 → 
    ∃ t, exec (.regRead a p) s = .next t ∧ t = { (s.at_ p) with dbg := { s.dbg with ir := 0x10 }, out := t.out } ∧ t.out = s.out ++ [Output.tdo [(({ s.at_ p with dbg := { s.dbg with ir := 0x10 } } : State).viewReg a).toNat]])

/-- A write of CMP_LO arms the comparison. At a bell boundary at which the counter is equal to or greater than {CMP_HI, CMP_LO}, an armed comparison raises BELL_CMP and is spent; at an earlier boundary it stays armed and raises nothing; a boundary with no comparison armed raises nothing (R52) -/
def Obligations.BellCompareRaisesOnce : Prop :=
  (∀ (s : State) (src : Source) (w : Word), s.pageOpen 0x01 0x90 = true → s.cfgLock 0x01 = false → src ≠ .i3c → 
    ∃ t, exec (.cmpLoWrite src w) s = .next t ∧ t.bw.cmpArmed = true ∧ t.reg 0x01090 = w.toNat ∧ t.reg 0x01094 = s.reg 0x01094) ∧
  (∀ (s : State) (words : List WordErr), s.bellRuns = true → s.bw.cmpArmed = true → s.cmpValue ≤ s.clk.bell + 1 → 
    ∃ t, exec (.bellBoundary words) s = .next t ∧ t.flag Reg.BWT.INT_STATUS.BELL_CMP = true ∧ t.bw.cmpArmed = false) ∧
  (∀ (s : State) (words : List WordErr), s.bellRuns = true → s.bw.cmpArmed = true → s.clk.bell + 1 < s.cmpValue → 
    ∃ t, exec (.bellBoundary words) s = .next t ∧ t.flag Reg.BWT.INT_STATUS.BELL_CMP = s.flag Reg.BWT.INT_STATUS.BELL_CMP ∧ t.bw.cmpArmed = true) ∧
  (∀ (s : State) (words : List WordErr), s.bellRuns = true → s.bw.cmpArmed = false → 
    ∃ t, exec (.bellBoundary words) s = .next t ∧ t.flag Reg.BWT.INT_STATUS.BELL_CMP = s.flag Reg.BWT.INT_STATUS.BELL_CMP ∧ t.bw.cmpArmed = false)

/-- DevLoad is 3 while WB_HOLDING is 1, otherwise 2 while THROT_LEVEL is 1 or more or the HOST class is row-disturb throttled, otherwise 0; a Cmp and a data response that the device answers carry it, and HDM.STATUS.DEVLOAD reports it while the page is on (R428) -/
def Obligations.ResponsesCarryDevLoad : Prop := (∀ s : State, s.devLoad =
    (if s.flag Reg.BWT.LAT_STATUS.WB_HOLDING = true then 3
     else if 1 ≤ s.fld Reg.BWT.LAT_STATUS.THROT_LEVEL ∨ bitOf (s.fld Reg.BWT.LAT_STATUS.RD_THROTTLED) 0 = true then 2 else 0)) ∧
  (∀ (s : State) (tag c : Nat), tag < 2 ^ 16 → s.sendCmp tag c = s.respond (.cmp tag s.devLoad c)) ∧
  (∀ (s : State) (tag c : Nat) (poison : Bool) (d : Line), (s.sendData tag poison d c).out = ((s.reqEnds c).respond (.memData tag poison d s.devLoad c)).out ∧
    (s.sendData tag poison d c).link = ((s.reqEnds c).respond (.memData tag poison d s.devLoad c)).link) ∧
  (∀ s : State, s.pageOpen 0x19 (Reg.HDM.STATUS.word % 0x1000) = true →
    bitsOf (s.viewReg Reg.HDM.STATUS.word).toNat Reg.HDM.STATUS.DEVLOAD.hi Reg.HDM.STATUS.DEVLOAD.lo = s.devLoad)

/-- Each of the seven host memory requests that the device supports, arriving in VENT, changes nothing but the phase of the time base: no credit is returned and no response is sent (R436) -/
def Obligations.VentTakesNoHostRequest : Prop :=
  (∀ (s : State) (hpa tag p : Nat) (errs : List ArrErr), s.dev.st = .vent → 
    ∃ t, exec (.memRd hpa tag errs p) s = .next t ∧ t = s.at_ p) ∧
  (∀ (s : State) (hpa tag p : Nat) (errs : List ArrErr), s.dev.st = .vent → 
    ∃ t, exec (.memRdData hpa tag errs p) s = .next t ∧ t = s.at_ p) ∧
  (∀ (s : State) (hpa tag p : Nat), s.dev.st = .vent → 
    ∃ t, exec (.memInv hpa tag p) s = .next t ∧ t = s.at_ p) ∧
  (∀ (s : State) (hpa tag p : Nat), s.dev.st = .vent → 
    ∃ t, exec (.memInvNt hpa tag p) s = .next t ∧ t = s.at_ p) ∧
  (∀ (s : State) (hpa p : Nat), s.dev.st = .vent → 
    ∃ t, exec (.memSpecRd hpa p) s = .next t ∧ t = s.at_ p) ∧
  (∀ (s : State) (hpa tag p : Nat) (d : Line) (poison : Bool), s.dev.st = .vent → 
    ∃ t, exec (.memWr hpa tag d poison p) s = .next t ∧ t = s.at_ p) ∧
  (∀ (s : State) (hpa tag p : Nat) (d : Line) (m : Mask) (poison : Bool), s.dev.st = .vent → 
    ∃ t, exec (.memWrPtl hpa tag d m poison p) s = .next t ∧ t = s.at_ p)

/-- INSTALL, REKEY and REMOVE of slot 0 are recorded as an operation with a result other than success and leave every slot, every due change and the wrapped-key cache as they were; the completion of an operation with such a result changes no slot, no due change and no cached key (R535, R537) -/
def Obligations.KeySlotZeroIsNeverChanged : Prop :=
  (∀ (s : State) (src : Source) (w : Word), s.pageOpen 0x21 0x70 = true → s.cmdLock 0x21 = false → src ≠ .i3c → bitsOf w.toNat 15 8 = 0xC3 → bitsOf w.toNat 5 0 = 0 → s.flag Reg.KEY.OP_STATUS.BUSY = false → 
    ∃ t, exec (.install src w) s = .next t ∧ t.prot.slots = s.prot.slots ∧ t.prot.due = s.prot.due ∧ t.pnv.keys = s.pnv.keys ∧ (∃ o, t.prot.op = some o ∧ o.op = 1 ∧ o.slot = 0 ∧ o.result ≠ 0)) ∧
  (∀ (s : State) (src : Source) (w : Word), s.pageOpen 0x21 0x70 = true → s.cmdLock 0x21 = false → src ≠ .i3c → bitsOf w.toNat 15 8 = 0xC3 → bitsOf w.toNat 5 0 = 0 → s.flag Reg.KEY.OP_STATUS.BUSY = false → 
    ∃ t, exec (.rekey src w) s = .next t ∧ t.prot.slots = s.prot.slots ∧ t.prot.due = s.prot.due ∧ t.pnv.keys = s.pnv.keys ∧ (∃ o, t.prot.op = some o ∧ o.op = 2 ∧ o.slot = 0 ∧ o.result ≠ 0)) ∧
  (∀ (s : State) (src : Source) (w : Word), s.pageOpen 0x21 0x70 = true → s.cmdLock 0x21 = false → src ≠ .i3c → bitsOf w.toNat 15 8 = 0xC3 → bitsOf w.toNat 5 0 = 0 → s.flag Reg.KEY.OP_STATUS.BUSY = false → 
    ∃ t, exec (.remove src w) s = .next t ∧ t.prot.slots = s.prot.slots ∧ t.prot.due = s.prot.due ∧ t.pnv.keys = s.pnv.keys ∧ (∃ o, t.prot.op = some o ∧ o.op = 3 ∧ o.slot = 0 ∧ o.result ≠ 0)) ∧
  (∀ (s : State) (o : KeyOp), s.prot.op = some o → o.result ≠ 0 → 
    ∃ t, exec (.keyOpComplete) s = .next t ∧ t.prot.slots = s.prot.slots ∧ t.prot.due = s.prot.due ∧ t.pnv.keys = s.pnv.keys ∧ t.prot.op = none ∧ t.flag Reg.KEY.INT_STATUS.OP_REFUSED = true)

/-- A read of BELL_LO, of BYTES_OUT_LO or of WB_HELD_LO latches for its own accessor only: every latch of another accessor reads as before (R25, R856) -/
def Obligations.LatchesAreKeptApart : Prop :=
  (∀ (s : State) (src other : Source) (a p : Nat), other.latch ≠ src.latch → a < 0x40000 → 
    ∃ t, exec (.bellLoRead src p) s = .next t ∧ SMap.get (fun _ => (0 : Word)) t.latches (other.latch * 0x40000 + a) = SMap.get (fun _ => (0 : Word)) s.latches (other.latch * 0x40000 + a)) ∧
  (∀ (s : State) (src other : Source) (a p : Nat), other.latch ≠ src.latch → a < 0x40000 → 
    ∃ t, exec (.wbHeldLoRead src p) s = .next t ∧ SMap.get (fun _ => (0 : Word)) t.latches (other.latch * 0x40000 + a) = SMap.get (fun _ => (0 : Word)) s.latches (other.latch * 0x40000 + a)) ∧
  (∀ (s : State) (src other : Source) (a : Nat), other.latch ≠ src.latch → a < 0x40000 → 
    ∃ t, exec (.bytesOutLoRead src) s = .next t ∧ SMap.get (fun _ => (0 : Word)) t.latches (other.latch * 0x40000 + a) = SMap.get (fun _ => (0 : Word)) s.latches (other.latch * 0x40000 + a))

/-- While CFG_LOCK of a page is 1: a write of the IL register LAT_PROFILE, of THM.LIMITS and of COMMIT is refused with CFG_ERR and leaves the register or the commit as it was; a write of INT_ENABLE is still taken (R862) -/
def Obligations.ConfigurationLockRefusesWrites : Prop :=
  (∀ (s : State) (src : Source) (w : Word), s.pageOpen 0x01 0x54 = true → src ≠ .i3c → s.cfgLock 0x01 = true → 
    ∃ t, exec (.registerWrite src 0x01054 w {}) s = .next t ∧ t.reg 0x01054 = s.reg 0x01054 ∧ bitOf (t.reg 0x0100C) 27 = true ∧ t.applied = s.applied) ∧
  (∀ (s : State) (src : Source) (w : Word), s.pageOpen 0x32 0x40 = true → src ≠ .i3c → s.cfgLock 0x32 = true → 
    ∃ t, exec (.registerWrite src 0x32040 w {}) s = .next t ∧ t.reg 0x32040 = s.reg 0x32040 ∧ bitOf (t.reg 0x3200C) 27 = true ∧ t.applied = s.applied) ∧
  (∀ (s : State) (p : Nat) (src : Source) (w : Word), s.pageOpen p 8 = true → src ≠ .i3c → s.cfgLock p = true → s.resetting.contains p = false → 
    ∃ t, exec (.commit p src w) s = .next t ∧ t.commits = s.commits ∧ bitOf (t.reg (p * 0x1000 + 0x0C)) 27 = true ∧ t.applied = s.applied) ∧
  (∀ (s : State) (p : Nat) (src : Source) (w : Word), s.pageOpen p 0x14 = true → src ≠ .i3c → s.cfgLock p = true → 
    ∃ t, exec (.registerWrite src (p * 0x1000 + 0x14) w {}) s = .next t ∧ t.reg (p * 0x1000 + 0x14) = w.toNat &&& intMask p)

/-- From every state in which the phase lies within its bell and the medium is in canonical form, a step that answers a next state leads to such a state (R24, R9, R126) -/
def Obligations.EveryStepKeepsTheBlockSound : Prop := ∀ s t : State, Sound s → step s = .next t → Sound t

/-- A command other than PROGRAM_TURN_END that answers a next state leaves every segment of the medium as it was, in every state (R26, R81, R126) -/
def Obligations.OnlyAProgramTurnEndWritesTheMedium : Prop := ∀ (c : Instr) (s t : State), (∀ g f p, c ≠ .programTurnEnd g f p) → exec c s = .next t → t.med = s.med

/-- A command that is not a boundary, a housekeeping, a Vent or start-up step (reach wide) and does not begin or end a power cycle (reach starts) leaves the bell counter as it was; a bell boundary with the PLL locked, or in standby, adds 1 (R9, R14) -/
def Obligations.OnlyBoundariesMoveTheBell : Prop := (∀ (c : Instr) (s t : State), c.reach ≠ .wide → c.reach ≠ .starts → exec c s = .next t → t.clk.bell = s.clk.bell) ∧
  (∀ (w : List WordErr) (s : State), s.bellRuns = true → ∃ t, exec (.bellBoundary w) s = .next t ∧ t.clk.bell = s.clk.bell + 1)

/-- For every command and state, carrying the command out leaves the queue of waiting commands and the variant of the part as they were (00_scope.md) -/
def Obligations.CommandsLeaveTheQueueAndTheVariant : Prop := ∀ (c : Instr) (s t : State), exec c s = .next t → t.pending = s.pending ∧ t.variant = s.variant

/-- A command that Instr.keepsRegisters names (reads, queries, mailbox answers, port and ring messages, turn and timer events) leaves every register of every page, every applied value, every waiting commit and the medium as they were (R823, R441, R440, R866, R341, R604) -/
def Obligations.ReadsAndQueriesKeepEveryRegister : Prop := ∀ (c : Instr) (s t : State), c.keepsRegisters = true → exec c s = .next t → (∀ a : Nat, t.reg a = s.reg a) ∧ t.applied = s.applied ∧ t.commits = s.commits ∧ t.med = s.med

/-- A command whose reach is answers, hostFace, ports or link changes only the fields of the state that its reach names, and of the time base the phase only (R24, R435, R823, R856) -/
def Obligations.ReadsAndLinkCommandsKeepTheirReach : Prop := ∀ (c : Instr) (s t : State), c.reach ∈ [Reach.answers, Reach.hostFace, Reach.ports, Reach.link] → exec c s = .next t → t = c.reach.take s t

/-- A command whose reach is cart, memories, ring, upkeep or supply changes only the fields of the state that its reach names, and of the time base the phase only (R24, R318) -/
def Obligations.CartridgeRingAndSupplyCommandsKeepTheirReach : Prop := ∀ (c : Instr) (s t : State), c.reach ∈ [Reach.cart, Reach.memories, Reach.ring, Reach.upkeep, Reach.supply] → exec c s = .next t → t = c.reach.take s t

/-- A command whose reach is senses, reads, resets or media changes only the fields of the state that its reach names, and of the time base the phase only (R24, R81) -/
def Obligations.ReadPathAndMediaCommandsKeepTheirReach : Prop := ∀ (c : Instr) (s t : State), c.reach ∈ [Reach.senses, Reach.reads, Reach.resets, Reach.media] → exec c s = .next t → t = c.reach.take s t

/-- A command whose reach is service, wide, writes, starts or program changes only the fields of the state that its reach names; of the time base, service and program commands change the phase only, and writes the phase and the list of pages whose COMMIT came in the clk of a flock boundary (R9, R864) -/
def Obligations.ServiceWriteAndWideCommandsKeepTheirReach : Prop := ∀ (c : Instr) (s t : State), c.reach ∈ [Reach.service, Reach.wide, Reach.writes, Reach.starts, Reach.program] → exec c s = .next t → t = c.reach.take s t

end
end

