-- ==== Sys2Proof/Laws/State.lean ====
section
/-! SUPPORT. Laws of State: a projection passes through a choice, a fold over a list keeps what each step keeps, and two states with equal fields are equal. -/

namespace Sys2Proof.Machine

/-- What every step of a fold over states keeps, the fold keeps. -/
theorem State.each_keeps {α β : Type} (p : State → β) {f : State → α → State} (h : ∀ s a, p (f s a) = p s) (s : State) (l : List α) :
    p (l.foldl f s) = p s := by
  induction l generalizing s with
  | nil => rfl
  | cons a l ih => simp only [List.foldl_cons]; exact (ih (f s a)).trans (h s a)
/-- The same for a fold over any data. -/
theorem State.foldl_keeps {α β γ : Type} (p : γ → β) {f : γ → α → γ} (h : ∀ s a, p (f s a) = p s) (s : γ) (l : List α) :
    p (l.foldl f s) = p s := by
  induction l generalizing s with
  | nil => rfl
  | cons a l ih => simp only [List.foldl_cons]; exact (ih (f s a)).trans (h s a)

@[simp] theorem State.pending_ite (c : Prop) [Decidable c] (a b : State) : (if c then a else b).pending = if c then a.pending else b.pending := by split <;> rfl
@[simp] theorem State.variant_ite (c : Prop) [Decidable c] (a b : State) : (if c then a else b).variant = if c then a.variant else b.variant := by split <;> rfl
@[simp] theorem State.regs_ite (c : Prop) [Decidable c] (a b : State) : (if c then a else b).regs = if c then a.regs else b.regs := by split <;> rfl
@[simp] theorem State.applied_ite (c : Prop) [Decidable c] (a b : State) : (if c then a else b).applied = if c then a.applied else b.applied := by split <;> rfl
@[simp] theorem State.latches_ite (c : Prop) [Decidable c] (a b : State) : (if c then a else b).latches = if c then a.latches else b.latches := by split <;> rfl
@[simp] theorem State.commits_ite (c : Prop) [Decidable c] (a b : State) : (if c then a else b).commits = if c then a.commits else b.commits := by split <;> rfl
@[simp] theorem State.resetting_ite (c : Prop) [Decidable c] (a b : State) : (if c then a else b).resetting = if c then a.resetting else b.resetting := by split <;> rfl
@[simp] theorem State.irq_ite (c : Prop) [Decidable c] (a b : State) : (if c then a else b).irq = if c then a.irq else b.irq := by split <;> rfl
@[simp] theorem State.dev_ite (c : Prop) [Decidable c] (a b : State) : (if c then a else b).dev = if c then a.dev else b.dev := by split <;> rfl
@[simp] theorem State.pwr_ite (c : Prop) [Decidable c] (a b : State) : (if c then a else b).pwr = if c then a.pwr else b.pwr := by split <;> rfl
@[simp] theorem State.hk_ite (c : Prop) [Decidable c] (a b : State) : (if c then a else b).hk = if c then a.hk else b.hk := by split <;> rfl
@[simp] theorem State.clk_ite (c : Prop) [Decidable c] (a b : State) : (if c then a else b).clk = if c then a.clk else b.clk := by split <;> rfl
@[simp] theorem State.bw_ite (c : Prop) [Decidable c] (a b : State) : (if c then a else b).bw = if c then a.bw else b.bw := by split <;> rfl
@[simp] theorem State.gang0_ite (c : Prop) [Decidable c] (a b : State) : (if c then a else b).gang0 = if c then a.gang0 else b.gang0 := by split <;> rfl
@[simp] theorem State.gang1_ite (c : Prop) [Decidable c] (a b : State) : (if c then a else b).gang1 = if c then a.gang1 else b.gang1 := by split <;> rfl
@[simp] theorem State.med_ite (c : Prop) [Decidable c] (a b : State) : (if c then a else b).med = if c then a.med else b.med := by split <;> rfl
@[simp] theorem State.roms_ite (c : Prop) [Decidable c] (a b : State) : (if c then a else b).roms = if c then a.roms else b.roms := by split <;> rfl
@[simp] theorem State.xlt_ite (c : Prop) [Decidable c] (a b : State) : (if c then a else b).xlt = if c then a.xlt else b.xlt := by split <;> rfl
@[simp] theorem State.tally_ite (c : Prop) [Decidable c] (a b : State) : (if c then a else b).tally = if c then a.tally else b.tally := by split <;> rfl
@[simp] theorem State.prot_ite (c : Prop) [Decidable c] (a b : State) : (if c then a else b).prot = if c then a.prot else b.prot := by split <;> rfl
@[simp] theorem State.caches_ite (c : Prop) [Decidable c] (a b : State) : (if c then a else b).caches = if c then a.caches else b.caches := by split <;> rfl
@[simp] theorem State.dram_ite (c : Prop) [Decidable c] (a b : State) : (if c then a else b).dram = if c then a.dram else b.dram := by split <;> rfl
@[simp] theorem State.link_ite (c : Prop) [Decidable c] (a b : State) : (if c then a else b).link = if c then a.link else b.link := by split <;> rfl
@[simp] theorem State.reads_ite (c : Prop) [Decidable c] (a b : State) : (if c then a else b).reads = if c then a.reads else b.reads := by split <;> rfl
@[simp] theorem State.drift_ite (c : Prop) [Decidable c] (a b : State) : (if c then a else b).drift = if c then a.drift else b.drift := by split <;> rfl
@[simp] theorem State.zl0_ite (c : Prop) [Decidable c] (a b : State) : (if c then a else b).zl0 = if c then a.zl0 else b.zl0 := by split <;> rfl
@[simp] theorem State.zl1_ite (c : Prop) [Decidable c] (a b : State) : (if c then a else b).zl1 = if c then a.zl1 else b.zl1 := by split <;> rfl
@[simp] theorem State.pmc_ite (c : Prop) [Decidable c] (a b : State) : (if c then a else b).pmc = if c then a.pmc else b.pmc := by split <;> rfl
@[simp] theorem State.ring_ite (c : Prop) [Decidable c] (a b : State) : (if c then a else b).ring = if c then a.ring else b.ring := by split <;> rfl
@[simp] theorem State.strm_ite (c : Prop) [Decidable c] (a b : State) : (if c then a else b).strm = if c then a.strm else b.strm := by split <;> rfl
@[simp] theorem State.mbox_ite (c : Prop) [Decidable c] (a b : State) : (if c then a else b).mbox = if c then a.mbox else b.mbox := by split <;> rfl
@[simp] theorem State.pnv_ite (c : Prop) [Decidable c] (a b : State) : (if c then a else b).pnv = if c then a.pnv else b.pnv := by split <;> rfl
@[simp] theorem State.nvm_ite (c : Prop) [Decidable c] (a b : State) : (if c then a else b).nvm = if c then a.nvm else b.nvm := by split <;> rfl
@[simp] theorem State.srm_ite (c : Prop) [Decidable c] (a b : State) : (if c then a else b).srm = if c then a.srm else b.srm := by split <;> rfl
@[simp] theorem State.dbg_ite (c : Prop) [Decidable c] (a b : State) : (if c then a else b).dbg = if c then a.dbg else b.dbg := by split <;> rfl
@[simp] theorem State.i3c_ite (c : Prop) [Decidable c] (a b : State) : (if c then a else b).i3c = if c then a.i3c else b.i3c := by split <;> rfl
@[simp] theorem State.drawn_ite (c : Prop) [Decidable c] (a b : State) : (if c then a else b).drawn = if c then a.drawn else b.drawn := by split <;> rfl
@[simp] theorem State.out_ite (c : Prop) [Decidable c] (a b : State) : (if c then a else b).out = if c then a.out else b.out := by split <;> rfl
@[simp] theorem State.each_pending {α : Type} (s : State) (l : List α) (f : State → α → State) (h : ∀ s a, (f s a).pending = s.pending) : (s.each l f).pending = s.pending := State.each_keeps (·.pending) h s l
@[simp] theorem State.foldl_pending {α : Type} (s : State) (l : List α) (f : State → α → State) (h : ∀ s a, (f s a).pending = s.pending) : (l.foldl f s).pending = s.pending := State.each_keeps (·.pending) h s l
@[simp] theorem State.cond_pending (s : State) (c : Bool) (f : State → State) (h : (f s).pending = s.pending) : (s.cond c f).pending = s.pending := by unfold State.cond; split <;> simp_all
@[simp] theorem State.each_variant {α : Type} (s : State) (l : List α) (f : State → α → State) (h : ∀ s a, (f s a).variant = s.variant) : (s.each l f).variant = s.variant := State.each_keeps (·.variant) h s l
@[simp] theorem State.foldl_variant {α : Type} (s : State) (l : List α) (f : State → α → State) (h : ∀ s a, (f s a).variant = s.variant) : (l.foldl f s).variant = s.variant := State.each_keeps (·.variant) h s l
@[simp] theorem State.cond_variant (s : State) (c : Bool) (f : State → State) (h : (f s).variant = s.variant) : (s.cond c f).variant = s.variant := by unfold State.cond; split <;> simp_all
@[simp] theorem State.each_regs {α : Type} (s : State) (l : List α) (f : State → α → State) (h : ∀ s a, (f s a).regs = s.regs) : (s.each l f).regs = s.regs := State.each_keeps (·.regs) h s l
@[simp] theorem State.foldl_regs {α : Type} (s : State) (l : List α) (f : State → α → State) (h : ∀ s a, (f s a).regs = s.regs) : (l.foldl f s).regs = s.regs := State.each_keeps (·.regs) h s l
@[simp] theorem State.cond_regs (s : State) (c : Bool) (f : State → State) (h : (f s).regs = s.regs) : (s.cond c f).regs = s.regs := by unfold State.cond; split <;> simp_all
@[simp] theorem State.each_applied {α : Type} (s : State) (l : List α) (f : State → α → State) (h : ∀ s a, (f s a).applied = s.applied) : (s.each l f).applied = s.applied := State.each_keeps (·.applied) h s l
@[simp] theorem State.foldl_applied {α : Type} (s : State) (l : List α) (f : State → α → State) (h : ∀ s a, (f s a).applied = s.applied) : (l.foldl f s).applied = s.applied := State.each_keeps (·.applied) h s l
@[simp] theorem State.cond_applied (s : State) (c : Bool) (f : State → State) (h : (f s).applied = s.applied) : (s.cond c f).applied = s.applied := by unfold State.cond; split <;> simp_all
@[simp] theorem State.each_latches {α : Type} (s : State) (l : List α) (f : State → α → State) (h : ∀ s a, (f s a).latches = s.latches) : (s.each l f).latches = s.latches := State.each_keeps (·.latches) h s l
@[simp] theorem State.foldl_latches {α : Type} (s : State) (l : List α) (f : State → α → State) (h : ∀ s a, (f s a).latches = s.latches) : (l.foldl f s).latches = s.latches := State.each_keeps (·.latches) h s l
@[simp] theorem State.cond_latches (s : State) (c : Bool) (f : State → State) (h : (f s).latches = s.latches) : (s.cond c f).latches = s.latches := by unfold State.cond; split <;> simp_all
@[simp] theorem State.each_commits {α : Type} (s : State) (l : List α) (f : State → α → State) (h : ∀ s a, (f s a).commits = s.commits) : (s.each l f).commits = s.commits := State.each_keeps (·.commits) h s l
@[simp] theorem State.foldl_commits {α : Type} (s : State) (l : List α) (f : State → α → State) (h : ∀ s a, (f s a).commits = s.commits) : (l.foldl f s).commits = s.commits := State.each_keeps (·.commits) h s l
@[simp] theorem State.cond_commits (s : State) (c : Bool) (f : State → State) (h : (f s).commits = s.commits) : (s.cond c f).commits = s.commits := by unfold State.cond; split <;> simp_all
@[simp] theorem State.each_resetting {α : Type} (s : State) (l : List α) (f : State → α → State) (h : ∀ s a, (f s a).resetting = s.resetting) : (s.each l f).resetting = s.resetting := State.each_keeps (·.resetting) h s l
@[simp] theorem State.foldl_resetting {α : Type} (s : State) (l : List α) (f : State → α → State) (h : ∀ s a, (f s a).resetting = s.resetting) : (l.foldl f s).resetting = s.resetting := State.each_keeps (·.resetting) h s l
@[simp] theorem State.cond_resetting (s : State) (c : Bool) (f : State → State) (h : (f s).resetting = s.resetting) : (s.cond c f).resetting = s.resetting := by unfold State.cond; split <;> simp_all
@[simp] theorem State.each_irq {α : Type} (s : State) (l : List α) (f : State → α → State) (h : ∀ s a, (f s a).irq = s.irq) : (s.each l f).irq = s.irq := State.each_keeps (·.irq) h s l
@[simp] theorem State.foldl_irq {α : Type} (s : State) (l : List α) (f : State → α → State) (h : ∀ s a, (f s a).irq = s.irq) : (l.foldl f s).irq = s.irq := State.each_keeps (·.irq) h s l
@[simp] theorem State.cond_irq (s : State) (c : Bool) (f : State → State) (h : (f s).irq = s.irq) : (s.cond c f).irq = s.irq := by unfold State.cond; split <;> simp_all
@[simp] theorem State.each_dev {α : Type} (s : State) (l : List α) (f : State → α → State) (h : ∀ s a, (f s a).dev = s.dev) : (s.each l f).dev = s.dev := State.each_keeps (·.dev) h s l
@[simp] theorem State.foldl_dev {α : Type} (s : State) (l : List α) (f : State → α → State) (h : ∀ s a, (f s a).dev = s.dev) : (l.foldl f s).dev = s.dev := State.each_keeps (·.dev) h s l
@[simp] theorem State.cond_dev (s : State) (c : Bool) (f : State → State) (h : (f s).dev = s.dev) : (s.cond c f).dev = s.dev := by unfold State.cond; split <;> simp_all
@[simp] theorem State.each_pwr {α : Type} (s : State) (l : List α) (f : State → α → State) (h : ∀ s a, (f s a).pwr = s.pwr) : (s.each l f).pwr = s.pwr := State.each_keeps (·.pwr) h s l
@[simp] theorem State.foldl_pwr {α : Type} (s : State) (l : List α) (f : State → α → State) (h : ∀ s a, (f s a).pwr = s.pwr) : (l.foldl f s).pwr = s.pwr := State.each_keeps (·.pwr) h s l
@[simp] theorem State.cond_pwr (s : State) (c : Bool) (f : State → State) (h : (f s).pwr = s.pwr) : (s.cond c f).pwr = s.pwr := by unfold State.cond; split <;> simp_all
@[simp] theorem State.each_hk {α : Type} (s : State) (l : List α) (f : State → α → State) (h : ∀ s a, (f s a).hk = s.hk) : (s.each l f).hk = s.hk := State.each_keeps (·.hk) h s l
@[simp] theorem State.foldl_hk {α : Type} (s : State) (l : List α) (f : State → α → State) (h : ∀ s a, (f s a).hk = s.hk) : (l.foldl f s).hk = s.hk := State.each_keeps (·.hk) h s l
@[simp] theorem State.cond_hk (s : State) (c : Bool) (f : State → State) (h : (f s).hk = s.hk) : (s.cond c f).hk = s.hk := by unfold State.cond; split <;> simp_all
@[simp] theorem State.each_clk {α : Type} (s : State) (l : List α) (f : State → α → State) (h : ∀ s a, (f s a).clk = s.clk) : (s.each l f).clk = s.clk := State.each_keeps (·.clk) h s l
@[simp] theorem State.foldl_clk {α : Type} (s : State) (l : List α) (f : State → α → State) (h : ∀ s a, (f s a).clk = s.clk) : (l.foldl f s).clk = s.clk := State.each_keeps (·.clk) h s l
@[simp] theorem State.cond_clk (s : State) (c : Bool) (f : State → State) (h : (f s).clk = s.clk) : (s.cond c f).clk = s.clk := by unfold State.cond; split <;> simp_all
@[simp] theorem State.each_bw {α : Type} (s : State) (l : List α) (f : State → α → State) (h : ∀ s a, (f s a).bw = s.bw) : (s.each l f).bw = s.bw := State.each_keeps (·.bw) h s l
@[simp] theorem State.foldl_bw {α : Type} (s : State) (l : List α) (f : State → α → State) (h : ∀ s a, (f s a).bw = s.bw) : (l.foldl f s).bw = s.bw := State.each_keeps (·.bw) h s l
@[simp] theorem State.cond_bw (s : State) (c : Bool) (f : State → State) (h : (f s).bw = s.bw) : (s.cond c f).bw = s.bw := by unfold State.cond; split <;> simp_all
@[simp] theorem State.each_gang0 {α : Type} (s : State) (l : List α) (f : State → α → State) (h : ∀ s a, (f s a).gang0 = s.gang0) : (s.each l f).gang0 = s.gang0 := State.each_keeps (·.gang0) h s l
@[simp] theorem State.foldl_gang0 {α : Type} (s : State) (l : List α) (f : State → α → State) (h : ∀ s a, (f s a).gang0 = s.gang0) : (l.foldl f s).gang0 = s.gang0 := State.each_keeps (·.gang0) h s l
@[simp] theorem State.cond_gang0 (s : State) (c : Bool) (f : State → State) (h : (f s).gang0 = s.gang0) : (s.cond c f).gang0 = s.gang0 := by unfold State.cond; split <;> simp_all
@[simp] theorem State.each_gang1 {α : Type} (s : State) (l : List α) (f : State → α → State) (h : ∀ s a, (f s a).gang1 = s.gang1) : (s.each l f).gang1 = s.gang1 := State.each_keeps (·.gang1) h s l
@[simp] theorem State.foldl_gang1 {α : Type} (s : State) (l : List α) (f : State → α → State) (h : ∀ s a, (f s a).gang1 = s.gang1) : (l.foldl f s).gang1 = s.gang1 := State.each_keeps (·.gang1) h s l
@[simp] theorem State.cond_gang1 (s : State) (c : Bool) (f : State → State) (h : (f s).gang1 = s.gang1) : (s.cond c f).gang1 = s.gang1 := by unfold State.cond; split <;> simp_all
@[simp] theorem State.each_med {α : Type} (s : State) (l : List α) (f : State → α → State) (h : ∀ s a, (f s a).med = s.med) : (s.each l f).med = s.med := State.each_keeps (·.med) h s l
@[simp] theorem State.foldl_med {α : Type} (s : State) (l : List α) (f : State → α → State) (h : ∀ s a, (f s a).med = s.med) : (l.foldl f s).med = s.med := State.each_keeps (·.med) h s l
@[simp] theorem State.cond_med (s : State) (c : Bool) (f : State → State) (h : (f s).med = s.med) : (s.cond c f).med = s.med := by unfold State.cond; split <;> simp_all
@[simp] theorem State.each_roms {α : Type} (s : State) (l : List α) (f : State → α → State) (h : ∀ s a, (f s a).roms = s.roms) : (s.each l f).roms = s.roms := State.each_keeps (·.roms) h s l
@[simp] theorem State.foldl_roms {α : Type} (s : State) (l : List α) (f : State → α → State) (h : ∀ s a, (f s a).roms = s.roms) : (l.foldl f s).roms = s.roms := State.each_keeps (·.roms) h s l
@[simp] theorem State.cond_roms (s : State) (c : Bool) (f : State → State) (h : (f s).roms = s.roms) : (s.cond c f).roms = s.roms := by unfold State.cond; split <;> simp_all
@[simp] theorem State.each_xlt {α : Type} (s : State) (l : List α) (f : State → α → State) (h : ∀ s a, (f s a).xlt = s.xlt) : (s.each l f).xlt = s.xlt := State.each_keeps (·.xlt) h s l
@[simp] theorem State.foldl_xlt {α : Type} (s : State) (l : List α) (f : State → α → State) (h : ∀ s a, (f s a).xlt = s.xlt) : (l.foldl f s).xlt = s.xlt := State.each_keeps (·.xlt) h s l
@[simp] theorem State.cond_xlt (s : State) (c : Bool) (f : State → State) (h : (f s).xlt = s.xlt) : (s.cond c f).xlt = s.xlt := by unfold State.cond; split <;> simp_all
@[simp] theorem State.each_tally {α : Type} (s : State) (l : List α) (f : State → α → State) (h : ∀ s a, (f s a).tally = s.tally) : (s.each l f).tally = s.tally := State.each_keeps (·.tally) h s l
@[simp] theorem State.foldl_tally {α : Type} (s : State) (l : List α) (f : State → α → State) (h : ∀ s a, (f s a).tally = s.tally) : (l.foldl f s).tally = s.tally := State.each_keeps (·.tally) h s l
@[simp] theorem State.cond_tally (s : State) (c : Bool) (f : State → State) (h : (f s).tally = s.tally) : (s.cond c f).tally = s.tally := by unfold State.cond; split <;> simp_all
@[simp] theorem State.each_prot {α : Type} (s : State) (l : List α) (f : State → α → State) (h : ∀ s a, (f s a).prot = s.prot) : (s.each l f).prot = s.prot := State.each_keeps (·.prot) h s l
@[simp] theorem State.foldl_prot {α : Type} (s : State) (l : List α) (f : State → α → State) (h : ∀ s a, (f s a).prot = s.prot) : (l.foldl f s).prot = s.prot := State.each_keeps (·.prot) h s l
@[simp] theorem State.cond_prot (s : State) (c : Bool) (f : State → State) (h : (f s).prot = s.prot) : (s.cond c f).prot = s.prot := by unfold State.cond; split <;> simp_all
@[simp] theorem State.each_caches {α : Type} (s : State) (l : List α) (f : State → α → State) (h : ∀ s a, (f s a).caches = s.caches) : (s.each l f).caches = s.caches := State.each_keeps (·.caches) h s l
@[simp] theorem State.foldl_caches {α : Type} (s : State) (l : List α) (f : State → α → State) (h : ∀ s a, (f s a).caches = s.caches) : (l.foldl f s).caches = s.caches := State.each_keeps (·.caches) h s l
@[simp] theorem State.cond_caches (s : State) (c : Bool) (f : State → State) (h : (f s).caches = s.caches) : (s.cond c f).caches = s.caches := by unfold State.cond; split <;> simp_all
@[simp] theorem State.each_dram {α : Type} (s : State) (l : List α) (f : State → α → State) (h : ∀ s a, (f s a).dram = s.dram) : (s.each l f).dram = s.dram := State.each_keeps (·.dram) h s l
@[simp] theorem State.foldl_dram {α : Type} (s : State) (l : List α) (f : State → α → State) (h : ∀ s a, (f s a).dram = s.dram) : (l.foldl f s).dram = s.dram := State.each_keeps (·.dram) h s l
@[simp] theorem State.cond_dram (s : State) (c : Bool) (f : State → State) (h : (f s).dram = s.dram) : (s.cond c f).dram = s.dram := by unfold State.cond; split <;> simp_all
@[simp] theorem State.each_link {α : Type} (s : State) (l : List α) (f : State → α → State) (h : ∀ s a, (f s a).link = s.link) : (s.each l f).link = s.link := State.each_keeps (·.link) h s l
@[simp] theorem State.foldl_link {α : Type} (s : State) (l : List α) (f : State → α → State) (h : ∀ s a, (f s a).link = s.link) : (l.foldl f s).link = s.link := State.each_keeps (·.link) h s l
@[simp] theorem State.cond_link (s : State) (c : Bool) (f : State → State) (h : (f s).link = s.link) : (s.cond c f).link = s.link := by unfold State.cond; split <;> simp_all
@[simp] theorem State.each_reads {α : Type} (s : State) (l : List α) (f : State → α → State) (h : ∀ s a, (f s a).reads = s.reads) : (s.each l f).reads = s.reads := State.each_keeps (·.reads) h s l
@[simp] theorem State.foldl_reads {α : Type} (s : State) (l : List α) (f : State → α → State) (h : ∀ s a, (f s a).reads = s.reads) : (l.foldl f s).reads = s.reads := State.each_keeps (·.reads) h s l
@[simp] theorem State.cond_reads (s : State) (c : Bool) (f : State → State) (h : (f s).reads = s.reads) : (s.cond c f).reads = s.reads := by unfold State.cond; split <;> simp_all
@[simp] theorem State.each_drift {α : Type} (s : State) (l : List α) (f : State → α → State) (h : ∀ s a, (f s a).drift = s.drift) : (s.each l f).drift = s.drift := State.each_keeps (·.drift) h s l
@[simp] theorem State.foldl_drift {α : Type} (s : State) (l : List α) (f : State → α → State) (h : ∀ s a, (f s a).drift = s.drift) : (l.foldl f s).drift = s.drift := State.each_keeps (·.drift) h s l
@[simp] theorem State.cond_drift (s : State) (c : Bool) (f : State → State) (h : (f s).drift = s.drift) : (s.cond c f).drift = s.drift := by unfold State.cond; split <;> simp_all
@[simp] theorem State.each_zl0 {α : Type} (s : State) (l : List α) (f : State → α → State) (h : ∀ s a, (f s a).zl0 = s.zl0) : (s.each l f).zl0 = s.zl0 := State.each_keeps (·.zl0) h s l
@[simp] theorem State.foldl_zl0 {α : Type} (s : State) (l : List α) (f : State → α → State) (h : ∀ s a, (f s a).zl0 = s.zl0) : (l.foldl f s).zl0 = s.zl0 := State.each_keeps (·.zl0) h s l
@[simp] theorem State.cond_zl0 (s : State) (c : Bool) (f : State → State) (h : (f s).zl0 = s.zl0) : (s.cond c f).zl0 = s.zl0 := by unfold State.cond; split <;> simp_all
@[simp] theorem State.each_zl1 {α : Type} (s : State) (l : List α) (f : State → α → State) (h : ∀ s a, (f s a).zl1 = s.zl1) : (s.each l f).zl1 = s.zl1 := State.each_keeps (·.zl1) h s l
@[simp] theorem State.foldl_zl1 {α : Type} (s : State) (l : List α) (f : State → α → State) (h : ∀ s a, (f s a).zl1 = s.zl1) : (l.foldl f s).zl1 = s.zl1 := State.each_keeps (·.zl1) h s l
@[simp] theorem State.cond_zl1 (s : State) (c : Bool) (f : State → State) (h : (f s).zl1 = s.zl1) : (s.cond c f).zl1 = s.zl1 := by unfold State.cond; split <;> simp_all
@[simp] theorem State.each_pmc {α : Type} (s : State) (l : List α) (f : State → α → State) (h : ∀ s a, (f s a).pmc = s.pmc) : (s.each l f).pmc = s.pmc := State.each_keeps (·.pmc) h s l
@[simp] theorem State.foldl_pmc {α : Type} (s : State) (l : List α) (f : State → α → State) (h : ∀ s a, (f s a).pmc = s.pmc) : (l.foldl f s).pmc = s.pmc := State.each_keeps (·.pmc) h s l
@[simp] theorem State.cond_pmc (s : State) (c : Bool) (f : State → State) (h : (f s).pmc = s.pmc) : (s.cond c f).pmc = s.pmc := by unfold State.cond; split <;> simp_all
@[simp] theorem State.each_ring {α : Type} (s : State) (l : List α) (f : State → α → State) (h : ∀ s a, (f s a).ring = s.ring) : (s.each l f).ring = s.ring := State.each_keeps (·.ring) h s l
@[simp] theorem State.foldl_ring {α : Type} (s : State) (l : List α) (f : State → α → State) (h : ∀ s a, (f s a).ring = s.ring) : (l.foldl f s).ring = s.ring := State.each_keeps (·.ring) h s l
@[simp] theorem State.cond_ring (s : State) (c : Bool) (f : State → State) (h : (f s).ring = s.ring) : (s.cond c f).ring = s.ring := by unfold State.cond; split <;> simp_all
@[simp] theorem State.each_strm {α : Type} (s : State) (l : List α) (f : State → α → State) (h : ∀ s a, (f s a).strm = s.strm) : (s.each l f).strm = s.strm := State.each_keeps (·.strm) h s l
@[simp] theorem State.foldl_strm {α : Type} (s : State) (l : List α) (f : State → α → State) (h : ∀ s a, (f s a).strm = s.strm) : (l.foldl f s).strm = s.strm := State.each_keeps (·.strm) h s l
@[simp] theorem State.cond_strm (s : State) (c : Bool) (f : State → State) (h : (f s).strm = s.strm) : (s.cond c f).strm = s.strm := by unfold State.cond; split <;> simp_all
@[simp] theorem State.each_mbox {α : Type} (s : State) (l : List α) (f : State → α → State) (h : ∀ s a, (f s a).mbox = s.mbox) : (s.each l f).mbox = s.mbox := State.each_keeps (·.mbox) h s l
@[simp] theorem State.foldl_mbox {α : Type} (s : State) (l : List α) (f : State → α → State) (h : ∀ s a, (f s a).mbox = s.mbox) : (l.foldl f s).mbox = s.mbox := State.each_keeps (·.mbox) h s l
@[simp] theorem State.cond_mbox (s : State) (c : Bool) (f : State → State) (h : (f s).mbox = s.mbox) : (s.cond c f).mbox = s.mbox := by unfold State.cond; split <;> simp_all
@[simp] theorem State.each_pnv {α : Type} (s : State) (l : List α) (f : State → α → State) (h : ∀ s a, (f s a).pnv = s.pnv) : (s.each l f).pnv = s.pnv := State.each_keeps (·.pnv) h s l
@[simp] theorem State.foldl_pnv {α : Type} (s : State) (l : List α) (f : State → α → State) (h : ∀ s a, (f s a).pnv = s.pnv) : (l.foldl f s).pnv = s.pnv := State.each_keeps (·.pnv) h s l
@[simp] theorem State.cond_pnv (s : State) (c : Bool) (f : State → State) (h : (f s).pnv = s.pnv) : (s.cond c f).pnv = s.pnv := by unfold State.cond; split <;> simp_all
@[simp] theorem State.each_nvm {α : Type} (s : State) (l : List α) (f : State → α → State) (h : ∀ s a, (f s a).nvm = s.nvm) : (s.each l f).nvm = s.nvm := State.each_keeps (·.nvm) h s l
@[simp] theorem State.foldl_nvm {α : Type} (s : State) (l : List α) (f : State → α → State) (h : ∀ s a, (f s a).nvm = s.nvm) : (l.foldl f s).nvm = s.nvm := State.each_keeps (·.nvm) h s l
@[simp] theorem State.cond_nvm (s : State) (c : Bool) (f : State → State) (h : (f s).nvm = s.nvm) : (s.cond c f).nvm = s.nvm := by unfold State.cond; split <;> simp_all
@[simp] theorem State.each_srm {α : Type} (s : State) (l : List α) (f : State → α → State) (h : ∀ s a, (f s a).srm = s.srm) : (s.each l f).srm = s.srm := State.each_keeps (·.srm) h s l
@[simp] theorem State.foldl_srm {α : Type} (s : State) (l : List α) (f : State → α → State) (h : ∀ s a, (f s a).srm = s.srm) : (l.foldl f s).srm = s.srm := State.each_keeps (·.srm) h s l
@[simp] theorem State.cond_srm (s : State) (c : Bool) (f : State → State) (h : (f s).srm = s.srm) : (s.cond c f).srm = s.srm := by unfold State.cond; split <;> simp_all
@[simp] theorem State.each_dbg {α : Type} (s : State) (l : List α) (f : State → α → State) (h : ∀ s a, (f s a).dbg = s.dbg) : (s.each l f).dbg = s.dbg := State.each_keeps (·.dbg) h s l
@[simp] theorem State.foldl_dbg {α : Type} (s : State) (l : List α) (f : State → α → State) (h : ∀ s a, (f s a).dbg = s.dbg) : (l.foldl f s).dbg = s.dbg := State.each_keeps (·.dbg) h s l
@[simp] theorem State.cond_dbg (s : State) (c : Bool) (f : State → State) (h : (f s).dbg = s.dbg) : (s.cond c f).dbg = s.dbg := by unfold State.cond; split <;> simp_all
@[simp] theorem State.each_i3c {α : Type} (s : State) (l : List α) (f : State → α → State) (h : ∀ s a, (f s a).i3c = s.i3c) : (s.each l f).i3c = s.i3c := State.each_keeps (·.i3c) h s l
@[simp] theorem State.foldl_i3c {α : Type} (s : State) (l : List α) (f : State → α → State) (h : ∀ s a, (f s a).i3c = s.i3c) : (l.foldl f s).i3c = s.i3c := State.each_keeps (·.i3c) h s l
@[simp] theorem State.cond_i3c (s : State) (c : Bool) (f : State → State) (h : (f s).i3c = s.i3c) : (s.cond c f).i3c = s.i3c := by unfold State.cond; split <;> simp_all
@[simp] theorem State.each_drawn {α : Type} (s : State) (l : List α) (f : State → α → State) (h : ∀ s a, (f s a).drawn = s.drawn) : (s.each l f).drawn = s.drawn := State.each_keeps (·.drawn) h s l
@[simp] theorem State.foldl_drawn {α : Type} (s : State) (l : List α) (f : State → α → State) (h : ∀ s a, (f s a).drawn = s.drawn) : (l.foldl f s).drawn = s.drawn := State.each_keeps (·.drawn) h s l
@[simp] theorem State.cond_drawn (s : State) (c : Bool) (f : State → State) (h : (f s).drawn = s.drawn) : (s.cond c f).drawn = s.drawn := by unfold State.cond; split <;> simp_all
@[simp] theorem State.each_out {α : Type} (s : State) (l : List α) (f : State → α → State) (h : ∀ s a, (f s a).out = s.out) : (s.each l f).out = s.out := State.each_keeps (·.out) h s l
@[simp] theorem State.foldl_out {α : Type} (s : State) (l : List α) (f : State → α → State) (h : ∀ s a, (f s a).out = s.out) : (l.foldl f s).out = s.out := State.each_keeps (·.out) h s l
@[simp] theorem State.cond_out (s : State) (c : Bool) (f : State → State) (h : (f s).out = s.out) : (s.cond c f).out = s.out := by unfold State.cond; split <;> simp_all
@[simp] theorem State.foldl_fst_pending {α β : Type} (p : State × β) (l : List α) (f : State × β → α → State × β) (h : ∀ p a, (f p a).1.pending = p.1.pending) : (l.foldl f p).1.pending = p.1.pending := State.foldl_keeps (fun p => p.1.pending) h p l
@[simp] theorem State.foldl_fst_variant {α β : Type} (p : State × β) (l : List α) (f : State × β → α → State × β) (h : ∀ p a, (f p a).1.variant = p.1.variant) : (l.foldl f p).1.variant = p.1.variant := State.foldl_keeps (fun p => p.1.variant) h p l
@[simp] theorem State.foldl_fst_regs {α β : Type} (p : State × β) (l : List α) (f : State × β → α → State × β) (h : ∀ p a, (f p a).1.regs = p.1.regs) : (l.foldl f p).1.regs = p.1.regs := State.foldl_keeps (fun p => p.1.regs) h p l
@[simp] theorem State.foldl_fst_applied {α β : Type} (p : State × β) (l : List α) (f : State × β → α → State × β) (h : ∀ p a, (f p a).1.applied = p.1.applied) : (l.foldl f p).1.applied = p.1.applied := State.foldl_keeps (fun p => p.1.applied) h p l
@[simp] theorem State.foldl_fst_latches {α β : Type} (p : State × β) (l : List α) (f : State × β → α → State × β) (h : ∀ p a, (f p a).1.latches = p.1.latches) : (l.foldl f p).1.latches = p.1.latches := State.foldl_keeps (fun p => p.1.latches) h p l
@[simp] theorem State.foldl_fst_commits {α β : Type} (p : State × β) (l : List α) (f : State × β → α → State × β) (h : ∀ p a, (f p a).1.commits = p.1.commits) : (l.foldl f p).1.commits = p.1.commits := State.foldl_keeps (fun p => p.1.commits) h p l
@[simp] theorem State.foldl_fst_resetting {α β : Type} (p : State × β) (l : List α) (f : State × β → α → State × β) (h : ∀ p a, (f p a).1.resetting = p.1.resetting) : (l.foldl f p).1.resetting = p.1.resetting := State.foldl_keeps (fun p => p.1.resetting) h p l
@[simp] theorem State.foldl_fst_irq {α β : Type} (p : State × β) (l : List α) (f : State × β → α → State × β) (h : ∀ p a, (f p a).1.irq = p.1.irq) : (l.foldl f p).1.irq = p.1.irq := State.foldl_keeps (fun p => p.1.irq) h p l
@[simp] theorem State.foldl_fst_dev {α β : Type} (p : State × β) (l : List α) (f : State × β → α → State × β) (h : ∀ p a, (f p a).1.dev = p.1.dev) : (l.foldl f p).1.dev = p.1.dev := State.foldl_keeps (fun p => p.1.dev) h p l
@[simp] theorem State.foldl_fst_pwr {α β : Type} (p : State × β) (l : List α) (f : State × β → α → State × β) (h : ∀ p a, (f p a).1.pwr = p.1.pwr) : (l.foldl f p).1.pwr = p.1.pwr := State.foldl_keeps (fun p => p.1.pwr) h p l
@[simp] theorem State.foldl_fst_hk {α β : Type} (p : State × β) (l : List α) (f : State × β → α → State × β) (h : ∀ p a, (f p a).1.hk = p.1.hk) : (l.foldl f p).1.hk = p.1.hk := State.foldl_keeps (fun p => p.1.hk) h p l
@[simp] theorem State.foldl_fst_clk {α β : Type} (p : State × β) (l : List α) (f : State × β → α → State × β) (h : ∀ p a, (f p a).1.clk = p.1.clk) : (l.foldl f p).1.clk = p.1.clk := State.foldl_keeps (fun p => p.1.clk) h p l
@[simp] theorem State.foldl_fst_bw {α β : Type} (p : State × β) (l : List α) (f : State × β → α → State × β) (h : ∀ p a, (f p a).1.bw = p.1.bw) : (l.foldl f p).1.bw = p.1.bw := State.foldl_keeps (fun p => p.1.bw) h p l
@[simp] theorem State.foldl_fst_gang0 {α β : Type} (p : State × β) (l : List α) (f : State × β → α → State × β) (h : ∀ p a, (f p a).1.gang0 = p.1.gang0) : (l.foldl f p).1.gang0 = p.1.gang0 := State.foldl_keeps (fun p => p.1.gang0) h p l
@[simp] theorem State.foldl_fst_gang1 {α β : Type} (p : State × β) (l : List α) (f : State × β → α → State × β) (h : ∀ p a, (f p a).1.gang1 = p.1.gang1) : (l.foldl f p).1.gang1 = p.1.gang1 := State.foldl_keeps (fun p => p.1.gang1) h p l
@[simp] theorem State.foldl_fst_med {α β : Type} (p : State × β) (l : List α) (f : State × β → α → State × β) (h : ∀ p a, (f p a).1.med = p.1.med) : (l.foldl f p).1.med = p.1.med := State.foldl_keeps (fun p => p.1.med) h p l
@[simp] theorem State.foldl_fst_roms {α β : Type} (p : State × β) (l : List α) (f : State × β → α → State × β) (h : ∀ p a, (f p a).1.roms = p.1.roms) : (l.foldl f p).1.roms = p.1.roms := State.foldl_keeps (fun p => p.1.roms) h p l
@[simp] theorem State.foldl_fst_xlt {α β : Type} (p : State × β) (l : List α) (f : State × β → α → State × β) (h : ∀ p a, (f p a).1.xlt = p.1.xlt) : (l.foldl f p).1.xlt = p.1.xlt := State.foldl_keeps (fun p => p.1.xlt) h p l
@[simp] theorem State.foldl_fst_tally {α β : Type} (p : State × β) (l : List α) (f : State × β → α → State × β) (h : ∀ p a, (f p a).1.tally = p.1.tally) : (l.foldl f p).1.tally = p.1.tally := State.foldl_keeps (fun p => p.1.tally) h p l
@[simp] theorem State.foldl_fst_prot {α β : Type} (p : State × β) (l : List α) (f : State × β → α → State × β) (h : ∀ p a, (f p a).1.prot = p.1.prot) : (l.foldl f p).1.prot = p.1.prot := State.foldl_keeps (fun p => p.1.prot) h p l
@[simp] theorem State.foldl_fst_caches {α β : Type} (p : State × β) (l : List α) (f : State × β → α → State × β) (h : ∀ p a, (f p a).1.caches = p.1.caches) : (l.foldl f p).1.caches = p.1.caches := State.foldl_keeps (fun p => p.1.caches) h p l
@[simp] theorem State.foldl_fst_dram {α β : Type} (p : State × β) (l : List α) (f : State × β → α → State × β) (h : ∀ p a, (f p a).1.dram = p.1.dram) : (l.foldl f p).1.dram = p.1.dram := State.foldl_keeps (fun p => p.1.dram) h p l
@[simp] theorem State.foldl_fst_link {α β : Type} (p : State × β) (l : List α) (f : State × β → α → State × β) (h : ∀ p a, (f p a).1.link = p.1.link) : (l.foldl f p).1.link = p.1.link := State.foldl_keeps (fun p => p.1.link) h p l
@[simp] theorem State.foldl_fst_reads {α β : Type} (p : State × β) (l : List α) (f : State × β → α → State × β) (h : ∀ p a, (f p a).1.reads = p.1.reads) : (l.foldl f p).1.reads = p.1.reads := State.foldl_keeps (fun p => p.1.reads) h p l
@[simp] theorem State.foldl_fst_drift {α β : Type} (p : State × β) (l : List α) (f : State × β → α → State × β) (h : ∀ p a, (f p a).1.drift = p.1.drift) : (l.foldl f p).1.drift = p.1.drift := State.foldl_keeps (fun p => p.1.drift) h p l
@[simp] theorem State.foldl_fst_zl0 {α β : Type} (p : State × β) (l : List α) (f : State × β → α → State × β) (h : ∀ p a, (f p a).1.zl0 = p.1.zl0) : (l.foldl f p).1.zl0 = p.1.zl0 := State.foldl_keeps (fun p => p.1.zl0) h p l
@[simp] theorem State.foldl_fst_zl1 {α β : Type} (p : State × β) (l : List α) (f : State × β → α → State × β) (h : ∀ p a, (f p a).1.zl1 = p.1.zl1) : (l.foldl f p).1.zl1 = p.1.zl1 := State.foldl_keeps (fun p => p.1.zl1) h p l
@[simp] theorem State.foldl_fst_pmc {α β : Type} (p : State × β) (l : List α) (f : State × β → α → State × β) (h : ∀ p a, (f p a).1.pmc = p.1.pmc) : (l.foldl f p).1.pmc = p.1.pmc := State.foldl_keeps (fun p => p.1.pmc) h p l
@[simp] theorem State.foldl_fst_ring {α β : Type} (p : State × β) (l : List α) (f : State × β → α → State × β) (h : ∀ p a, (f p a).1.ring = p.1.ring) : (l.foldl f p).1.ring = p.1.ring := State.foldl_keeps (fun p => p.1.ring) h p l
@[simp] theorem State.foldl_fst_strm {α β : Type} (p : State × β) (l : List α) (f : State × β → α → State × β) (h : ∀ p a, (f p a).1.strm = p.1.strm) : (l.foldl f p).1.strm = p.1.strm := State.foldl_keeps (fun p => p.1.strm) h p l
@[simp] theorem State.foldl_fst_mbox {α β : Type} (p : State × β) (l : List α) (f : State × β → α → State × β) (h : ∀ p a, (f p a).1.mbox = p.1.mbox) : (l.foldl f p).1.mbox = p.1.mbox := State.foldl_keeps (fun p => p.1.mbox) h p l
@[simp] theorem State.foldl_fst_pnv {α β : Type} (p : State × β) (l : List α) (f : State × β → α → State × β) (h : ∀ p a, (f p a).1.pnv = p.1.pnv) : (l.foldl f p).1.pnv = p.1.pnv := State.foldl_keeps (fun p => p.1.pnv) h p l
@[simp] theorem State.foldl_fst_nvm {α β : Type} (p : State × β) (l : List α) (f : State × β → α → State × β) (h : ∀ p a, (f p a).1.nvm = p.1.nvm) : (l.foldl f p).1.nvm = p.1.nvm := State.foldl_keeps (fun p => p.1.nvm) h p l
@[simp] theorem State.foldl_fst_srm {α β : Type} (p : State × β) (l : List α) (f : State × β → α → State × β) (h : ∀ p a, (f p a).1.srm = p.1.srm) : (l.foldl f p).1.srm = p.1.srm := State.foldl_keeps (fun p => p.1.srm) h p l
@[simp] theorem State.foldl_fst_dbg {α β : Type} (p : State × β) (l : List α) (f : State × β → α → State × β) (h : ∀ p a, (f p a).1.dbg = p.1.dbg) : (l.foldl f p).1.dbg = p.1.dbg := State.foldl_keeps (fun p => p.1.dbg) h p l
@[simp] theorem State.foldl_fst_i3c {α β : Type} (p : State × β) (l : List α) (f : State × β → α → State × β) (h : ∀ p a, (f p a).1.i3c = p.1.i3c) : (l.foldl f p).1.i3c = p.1.i3c := State.foldl_keeps (fun p => p.1.i3c) h p l
@[simp] theorem State.foldl_fst_drawn {α β : Type} (p : State × β) (l : List α) (f : State × β → α → State × β) (h : ∀ p a, (f p a).1.drawn = p.1.drawn) : (l.foldl f p).1.drawn = p.1.drawn := State.foldl_keeps (fun p => p.1.drawn) h p l
@[simp] theorem State.foldl_fst_out {α β : Type} (p : State × β) (l : List α) (f : State × β → α → State × β) (h : ∀ p a, (f p a).1.out = p.1.out) : (l.foldl f p).1.out = p.1.out := State.foldl_keeps (fun p => p.1.out) h p l
@[simp] theorem State.foldl_snd_pending {α β : Type} (p : β × State) (l : List α) (f : β × State → α → β × State) (h : ∀ p a, (f p a).2.pending = p.2.pending) : (l.foldl f p).2.pending = p.2.pending := State.foldl_keeps (fun p => p.2.pending) h p l
@[simp] theorem State.foldl_snd_variant {α β : Type} (p : β × State) (l : List α) (f : β × State → α → β × State) (h : ∀ p a, (f p a).2.variant = p.2.variant) : (l.foldl f p).2.variant = p.2.variant := State.foldl_keeps (fun p => p.2.variant) h p l
@[simp] theorem State.foldl_snd_regs {α β : Type} (p : β × State) (l : List α) (f : β × State → α → β × State) (h : ∀ p a, (f p a).2.regs = p.2.regs) : (l.foldl f p).2.regs = p.2.regs := State.foldl_keeps (fun p => p.2.regs) h p l
@[simp] theorem State.foldl_snd_applied {α β : Type} (p : β × State) (l : List α) (f : β × State → α → β × State) (h : ∀ p a, (f p a).2.applied = p.2.applied) : (l.foldl f p).2.applied = p.2.applied := State.foldl_keeps (fun p => p.2.applied) h p l
@[simp] theorem State.foldl_snd_latches {α β : Type} (p : β × State) (l : List α) (f : β × State → α → β × State) (h : ∀ p a, (f p a).2.latches = p.2.latches) : (l.foldl f p).2.latches = p.2.latches := State.foldl_keeps (fun p => p.2.latches) h p l
@[simp] theorem State.foldl_snd_commits {α β : Type} (p : β × State) (l : List α) (f : β × State → α → β × State) (h : ∀ p a, (f p a).2.commits = p.2.commits) : (l.foldl f p).2.commits = p.2.commits := State.foldl_keeps (fun p => p.2.commits) h p l
@[simp] theorem State.foldl_snd_resetting {α β : Type} (p : β × State) (l : List α) (f : β × State → α → β × State) (h : ∀ p a, (f p a).2.resetting = p.2.resetting) : (l.foldl f p).2.resetting = p.2.resetting := State.foldl_keeps (fun p => p.2.resetting) h p l
@[simp] theorem State.foldl_snd_irq {α β : Type} (p : β × State) (l : List α) (f : β × State → α → β × State) (h : ∀ p a, (f p a).2.irq = p.2.irq) : (l.foldl f p).2.irq = p.2.irq := State.foldl_keeps (fun p => p.2.irq) h p l
@[simp] theorem State.foldl_snd_dev {α β : Type} (p : β × State) (l : List α) (f : β × State → α → β × State) (h : ∀ p a, (f p a).2.dev = p.2.dev) : (l.foldl f p).2.dev = p.2.dev := State.foldl_keeps (fun p => p.2.dev) h p l
@[simp] theorem State.foldl_snd_pwr {α β : Type} (p : β × State) (l : List α) (f : β × State → α → β × State) (h : ∀ p a, (f p a).2.pwr = p.2.pwr) : (l.foldl f p).2.pwr = p.2.pwr := State.foldl_keeps (fun p => p.2.pwr) h p l
@[simp] theorem State.foldl_snd_hk {α β : Type} (p : β × State) (l : List α) (f : β × State → α → β × State) (h : ∀ p a, (f p a).2.hk = p.2.hk) : (l.foldl f p).2.hk = p.2.hk := State.foldl_keeps (fun p => p.2.hk) h p l
@[simp] theorem State.foldl_snd_clk {α β : Type} (p : β × State) (l : List α) (f : β × State → α → β × State) (h : ∀ p a, (f p a).2.clk = p.2.clk) : (l.foldl f p).2.clk = p.2.clk := State.foldl_keeps (fun p => p.2.clk) h p l
@[simp] theorem State.foldl_snd_bw {α β : Type} (p : β × State) (l : List α) (f : β × State → α → β × State) (h : ∀ p a, (f p a).2.bw = p.2.bw) : (l.foldl f p).2.bw = p.2.bw := State.foldl_keeps (fun p => p.2.bw) h p l
@[simp] theorem State.foldl_snd_gang0 {α β : Type} (p : β × State) (l : List α) (f : β × State → α → β × State) (h : ∀ p a, (f p a).2.gang0 = p.2.gang0) : (l.foldl f p).2.gang0 = p.2.gang0 := State.foldl_keeps (fun p => p.2.gang0) h p l
@[simp] theorem State.foldl_snd_gang1 {α β : Type} (p : β × State) (l : List α) (f : β × State → α → β × State) (h : ∀ p a, (f p a).2.gang1 = p.2.gang1) : (l.foldl f p).2.gang1 = p.2.gang1 := State.foldl_keeps (fun p => p.2.gang1) h p l
@[simp] theorem State.foldl_snd_med {α β : Type} (p : β × State) (l : List α) (f : β × State → α → β × State) (h : ∀ p a, (f p a).2.med = p.2.med) : (l.foldl f p).2.med = p.2.med := State.foldl_keeps (fun p => p.2.med) h p l
@[simp] theorem State.foldl_snd_roms {α β : Type} (p : β × State) (l : List α) (f : β × State → α → β × State) (h : ∀ p a, (f p a).2.roms = p.2.roms) : (l.foldl f p).2.roms = p.2.roms := State.foldl_keeps (fun p => p.2.roms) h p l
@[simp] theorem State.foldl_snd_xlt {α β : Type} (p : β × State) (l : List α) (f : β × State → α → β × State) (h : ∀ p a, (f p a).2.xlt = p.2.xlt) : (l.foldl f p).2.xlt = p.2.xlt := State.foldl_keeps (fun p => p.2.xlt) h p l
@[simp] theorem State.foldl_snd_tally {α β : Type} (p : β × State) (l : List α) (f : β × State → α → β × State) (h : ∀ p a, (f p a).2.tally = p.2.tally) : (l.foldl f p).2.tally = p.2.tally := State.foldl_keeps (fun p => p.2.tally) h p l
@[simp] theorem State.foldl_snd_prot {α β : Type} (p : β × State) (l : List α) (f : β × State → α → β × State) (h : ∀ p a, (f p a).2.prot = p.2.prot) : (l.foldl f p).2.prot = p.2.prot := State.foldl_keeps (fun p => p.2.prot) h p l
@[simp] theorem State.foldl_snd_caches {α β : Type} (p : β × State) (l : List α) (f : β × State → α → β × State) (h : ∀ p a, (f p a).2.caches = p.2.caches) : (l.foldl f p).2.caches = p.2.caches := State.foldl_keeps (fun p => p.2.caches) h p l
@[simp] theorem State.foldl_snd_dram {α β : Type} (p : β × State) (l : List α) (f : β × State → α → β × State) (h : ∀ p a, (f p a).2.dram = p.2.dram) : (l.foldl f p).2.dram = p.2.dram := State.foldl_keeps (fun p => p.2.dram) h p l
@[simp] theorem State.foldl_snd_link {α β : Type} (p : β × State) (l : List α) (f : β × State → α → β × State) (h : ∀ p a, (f p a).2.link = p.2.link) : (l.foldl f p).2.link = p.2.link := State.foldl_keeps (fun p => p.2.link) h p l
@[simp] theorem State.foldl_snd_reads {α β : Type} (p : β × State) (l : List α) (f : β × State → α → β × State) (h : ∀ p a, (f p a).2.reads = p.2.reads) : (l.foldl f p).2.reads = p.2.reads := State.foldl_keeps (fun p => p.2.reads) h p l
@[simp] theorem State.foldl_snd_drift {α β : Type} (p : β × State) (l : List α) (f : β × State → α → β × State) (h : ∀ p a, (f p a).2.drift = p.2.drift) : (l.foldl f p).2.drift = p.2.drift := State.foldl_keeps (fun p => p.2.drift) h p l
@[simp] theorem State.foldl_snd_zl0 {α β : Type} (p : β × State) (l : List α) (f : β × State → α → β × State) (h : ∀ p a, (f p a).2.zl0 = p.2.zl0) : (l.foldl f p).2.zl0 = p.2.zl0 := State.foldl_keeps (fun p => p.2.zl0) h p l
@[simp] theorem State.foldl_snd_zl1 {α β : Type} (p : β × State) (l : List α) (f : β × State → α → β × State) (h : ∀ p a, (f p a).2.zl1 = p.2.zl1) : (l.foldl f p).2.zl1 = p.2.zl1 := State.foldl_keeps (fun p => p.2.zl1) h p l
@[simp] theorem State.foldl_snd_pmc {α β : Type} (p : β × State) (l : List α) (f : β × State → α → β × State) (h : ∀ p a, (f p a).2.pmc = p.2.pmc) : (l.foldl f p).2.pmc = p.2.pmc := State.foldl_keeps (fun p => p.2.pmc) h p l
@[simp] theorem State.foldl_snd_ring {α β : Type} (p : β × State) (l : List α) (f : β × State → α → β × State) (h : ∀ p a, (f p a).2.ring = p.2.ring) : (l.foldl f p).2.ring = p.2.ring := State.foldl_keeps (fun p => p.2.ring) h p l
@[simp] theorem State.foldl_snd_strm {α β : Type} (p : β × State) (l : List α) (f : β × State → α → β × State) (h : ∀ p a, (f p a).2.strm = p.2.strm) : (l.foldl f p).2.strm = p.2.strm := State.foldl_keeps (fun p => p.2.strm) h p l
@[simp] theorem State.foldl_snd_mbox {α β : Type} (p : β × State) (l : List α) (f : β × State → α → β × State) (h : ∀ p a, (f p a).2.mbox = p.2.mbox) : (l.foldl f p).2.mbox = p.2.mbox := State.foldl_keeps (fun p => p.2.mbox) h p l
@[simp] theorem State.foldl_snd_pnv {α β : Type} (p : β × State) (l : List α) (f : β × State → α → β × State) (h : ∀ p a, (f p a).2.pnv = p.2.pnv) : (l.foldl f p).2.pnv = p.2.pnv := State.foldl_keeps (fun p => p.2.pnv) h p l
@[simp] theorem State.foldl_snd_nvm {α β : Type} (p : β × State) (l : List α) (f : β × State → α → β × State) (h : ∀ p a, (f p a).2.nvm = p.2.nvm) : (l.foldl f p).2.nvm = p.2.nvm := State.foldl_keeps (fun p => p.2.nvm) h p l
@[simp] theorem State.foldl_snd_srm {α β : Type} (p : β × State) (l : List α) (f : β × State → α → β × State) (h : ∀ p a, (f p a).2.srm = p.2.srm) : (l.foldl f p).2.srm = p.2.srm := State.foldl_keeps (fun p => p.2.srm) h p l
@[simp] theorem State.foldl_snd_dbg {α β : Type} (p : β × State) (l : List α) (f : β × State → α → β × State) (h : ∀ p a, (f p a).2.dbg = p.2.dbg) : (l.foldl f p).2.dbg = p.2.dbg := State.foldl_keeps (fun p => p.2.dbg) h p l
@[simp] theorem State.foldl_snd_i3c {α β : Type} (p : β × State) (l : List α) (f : β × State → α → β × State) (h : ∀ p a, (f p a).2.i3c = p.2.i3c) : (l.foldl f p).2.i3c = p.2.i3c := State.foldl_keeps (fun p => p.2.i3c) h p l
@[simp] theorem State.foldl_snd_drawn {α β : Type} (p : β × State) (l : List α) (f : β × State → α → β × State) (h : ∀ p a, (f p a).2.drawn = p.2.drawn) : (l.foldl f p).2.drawn = p.2.drawn := State.foldl_keeps (fun p => p.2.drawn) h p l
@[simp] theorem State.foldl_snd_out {α β : Type} (p : β × State) (l : List α) (f : β × State → α → β × State) (h : ∀ p a, (f p a).2.out = p.2.out) : (l.foldl f p).2.out = p.2.out := State.foldl_keeps (fun p => p.2.out) h p l

/-- States whose fields agree are equal. -/
theorem State.eq_of_fields {a b : State}
    (h : a.pending = b.pending ∧ a.variant = b.variant ∧ a.regs = b.regs ∧ a.applied = b.applied ∧ a.latches = b.latches ∧ a.commits = b.commits ∧ a.resetting = b.resetting ∧ a.irq = b.irq ∧ a.dev = b.dev ∧ a.pwr = b.pwr ∧ a.hk = b.hk ∧ a.clk = b.clk ∧ a.bw = b.bw ∧ a.gang0 = b.gang0 ∧ a.gang1 = b.gang1 ∧ a.med = b.med ∧ a.roms = b.roms ∧ a.xlt = b.xlt ∧ a.tally = b.tally ∧ a.prot = b.prot ∧ a.caches = b.caches ∧ a.dram = b.dram ∧ a.link = b.link ∧ a.reads = b.reads ∧ a.drift = b.drift ∧ a.zl0 = b.zl0 ∧ a.zl1 = b.zl1 ∧ a.pmc = b.pmc ∧ a.ring = b.ring ∧ a.strm = b.strm ∧ a.mbox = b.mbox ∧ a.pnv = b.pnv ∧ a.nvm = b.nvm ∧ a.srm = b.srm ∧ a.dbg = b.dbg ∧ a.i3c = b.i3c ∧ a.drawn = b.drawn ∧ a.out = b.out) : a = b := by
  cases a; cases b
  simp only at h
  simp only [h]

end Sys2Proof.Machine
end

