-- ==== Sys2Proof/Laws/FrameOps.lean ====
section
/-! SUPPORT. Frames of the operations of Machine/Ops.lean: the fields of State that each leaves as they were. -/

set_option maxRecDepth 4000
set_option linter.unusedSimpArgs false

namespace Sys2Proof.Machine

theorem State.emit_frame (s : State) (o : Output) : (s.emit o).pending = s.pending ∧ (s.emit o).variant = s.variant ∧ (s.emit o).regs = s.regs ∧ (s.emit o).applied = s.applied ∧ (s.emit o).latches = s.latches ∧ (s.emit o).commits = s.commits ∧ (s.emit o).resetting = s.resetting ∧ (s.emit o).dev = s.dev ∧ (s.emit o).pwr = s.pwr ∧ (s.emit o).hk = s.hk ∧ (s.emit o).clk = s.clk ∧ (s.emit o).bw = s.bw ∧ (s.emit o).gang0 = s.gang0 ∧ (s.emit o).gang1 = s.gang1 ∧ (s.emit o).med = s.med ∧ (s.emit o).roms = s.roms ∧ (s.emit o).xlt = s.xlt ∧ (s.emit o).tally = s.tally ∧ (s.emit o).prot = s.prot ∧ (s.emit o).caches = s.caches ∧ (s.emit o).dram = s.dram ∧ (s.emit o).link = s.link ∧ (s.emit o).reads = s.reads ∧ (s.emit o).drift = s.drift ∧ (s.emit o).zl0 = s.zl0 ∧ (s.emit o).zl1 = s.zl1 ∧ (s.emit o).pmc = s.pmc ∧ (s.emit o).ring = s.ring ∧ (s.emit o).strm = s.strm ∧ (s.emit o).mbox = s.mbox ∧ (s.emit o).pnv = s.pnv ∧ (s.emit o).nvm = s.nvm ∧ (s.emit o).srm = s.srm ∧ (s.emit o).dbg = s.dbg ∧ (s.emit o).i3c = s.i3c ∧ (s.emit o).drawn = s.drawn := by
  simp [State.emit]
theorem State.setReg_frame (s : State) (a : Nat) (v : Nat) : (s.setReg a v).pending = s.pending ∧ (s.setReg a v).variant = s.variant ∧ (s.setReg a v).applied = s.applied ∧ (s.setReg a v).latches = s.latches ∧ (s.setReg a v).commits = s.commits ∧ (s.setReg a v).resetting = s.resetting ∧ (s.setReg a v).dev = s.dev ∧ (s.setReg a v).pwr = s.pwr ∧ (s.setReg a v).hk = s.hk ∧ (s.setReg a v).clk = s.clk ∧ (s.setReg a v).bw = s.bw ∧ (s.setReg a v).gang0 = s.gang0 ∧ (s.setReg a v).gang1 = s.gang1 ∧ (s.setReg a v).med = s.med ∧ (s.setReg a v).roms = s.roms ∧ (s.setReg a v).xlt = s.xlt ∧ (s.setReg a v).tally = s.tally ∧ (s.setReg a v).prot = s.prot ∧ (s.setReg a v).caches = s.caches ∧ (s.setReg a v).dram = s.dram ∧ (s.setReg a v).link = s.link ∧ (s.setReg a v).reads = s.reads ∧ (s.setReg a v).drift = s.drift ∧ (s.setReg a v).zl0 = s.zl0 ∧ (s.setReg a v).zl1 = s.zl1 ∧ (s.setReg a v).pmc = s.pmc ∧ (s.setReg a v).ring = s.ring ∧ (s.setReg a v).strm = s.strm ∧ (s.setReg a v).mbox = s.mbox ∧ (s.setReg a v).pnv = s.pnv ∧ (s.setReg a v).nvm = s.nvm ∧ (s.setReg a v).srm = s.srm ∧ (s.setReg a v).dbg = s.dbg ∧ (s.setReg a v).i3c = s.i3c ∧ (s.setReg a v).drawn = s.drawn := by
  simp [State.setReg]
theorem State.setFld_frame (s : State) (f : Fld) (v : Nat) : (s.setFld f v).pending = s.pending ∧ (s.setFld f v).variant = s.variant ∧ (s.setFld f v).applied = s.applied ∧ (s.setFld f v).latches = s.latches ∧ (s.setFld f v).commits = s.commits ∧ (s.setFld f v).resetting = s.resetting ∧ (s.setFld f v).dev = s.dev ∧ (s.setFld f v).pwr = s.pwr ∧ (s.setFld f v).hk = s.hk ∧ (s.setFld f v).clk = s.clk ∧ (s.setFld f v).bw = s.bw ∧ (s.setFld f v).gang0 = s.gang0 ∧ (s.setFld f v).gang1 = s.gang1 ∧ (s.setFld f v).med = s.med ∧ (s.setFld f v).roms = s.roms ∧ (s.setFld f v).xlt = s.xlt ∧ (s.setFld f v).tally = s.tally ∧ (s.setFld f v).prot = s.prot ∧ (s.setFld f v).caches = s.caches ∧ (s.setFld f v).dram = s.dram ∧ (s.setFld f v).link = s.link ∧ (s.setFld f v).reads = s.reads ∧ (s.setFld f v).drift = s.drift ∧ (s.setFld f v).zl0 = s.zl0 ∧ (s.setFld f v).zl1 = s.zl1 ∧ (s.setFld f v).pmc = s.pmc ∧ (s.setFld f v).ring = s.ring ∧ (s.setFld f v).strm = s.strm ∧ (s.setFld f v).mbox = s.mbox ∧ (s.setFld f v).pnv = s.pnv ∧ (s.setFld f v).nvm = s.nvm ∧ (s.setFld f v).srm = s.srm ∧ (s.setFld f v).dbg = s.dbg ∧ (s.setFld f v).i3c = s.i3c ∧ (s.setFld f v).drawn = s.drawn := by
  have f1 := @State.setReg_frame
  simp [State.setFld, f1]
theorem State.setFlag_frame (s : State) (f : Fld) (b : Bool) : (s.setFlag f b).pending = s.pending ∧ (s.setFlag f b).variant = s.variant ∧ (s.setFlag f b).applied = s.applied ∧ (s.setFlag f b).latches = s.latches ∧ (s.setFlag f b).commits = s.commits ∧ (s.setFlag f b).resetting = s.resetting ∧ (s.setFlag f b).dev = s.dev ∧ (s.setFlag f b).pwr = s.pwr ∧ (s.setFlag f b).hk = s.hk ∧ (s.setFlag f b).clk = s.clk ∧ (s.setFlag f b).bw = s.bw ∧ (s.setFlag f b).gang0 = s.gang0 ∧ (s.setFlag f b).gang1 = s.gang1 ∧ (s.setFlag f b).med = s.med ∧ (s.setFlag f b).roms = s.roms ∧ (s.setFlag f b).xlt = s.xlt ∧ (s.setFlag f b).tally = s.tally ∧ (s.setFlag f b).prot = s.prot ∧ (s.setFlag f b).caches = s.caches ∧ (s.setFlag f b).dram = s.dram ∧ (s.setFlag f b).link = s.link ∧ (s.setFlag f b).reads = s.reads ∧ (s.setFlag f b).drift = s.drift ∧ (s.setFlag f b).zl0 = s.zl0 ∧ (s.setFlag f b).zl1 = s.zl1 ∧ (s.setFlag f b).pmc = s.pmc ∧ (s.setFlag f b).ring = s.ring ∧ (s.setFlag f b).strm = s.strm ∧ (s.setFlag f b).mbox = s.mbox ∧ (s.setFlag f b).pnv = s.pnv ∧ (s.setFlag f b).nvm = s.nvm ∧ (s.setFlag f b).srm = s.srm ∧ (s.setFlag f b).dbg = s.dbg ∧ (s.setFlag f b).i3c = s.i3c ∧ (s.setFlag f b).drawn = s.drawn := by
  have f1 := @State.setFld_frame
  simp [State.setFlag, f1]
theorem State.setGang_frame (s : State) (g : Nat) (x : Gang) : (s.setGang g x).pending = s.pending ∧ (s.setGang g x).variant = s.variant ∧ (s.setGang g x).applied = s.applied ∧ (s.setGang g x).latches = s.latches ∧ (s.setGang g x).commits = s.commits ∧ (s.setGang g x).resetting = s.resetting ∧ (s.setGang g x).dev = s.dev ∧ (s.setGang g x).pwr = s.pwr ∧ (s.setGang g x).hk = s.hk ∧ (s.setGang g x).clk = s.clk ∧ (s.setGang g x).bw = s.bw ∧ (s.setGang g x).med = s.med ∧ (s.setGang g x).roms = s.roms ∧ (s.setGang g x).prot = s.prot ∧ (s.setGang g x).caches = s.caches ∧ (s.setGang g x).dram = s.dram ∧ (s.setGang g x).link = s.link ∧ (s.setGang g x).reads = s.reads ∧ (s.setGang g x).drift = s.drift ∧ (s.setGang g x).zl0 = s.zl0 ∧ (s.setGang g x).zl1 = s.zl1 ∧ (s.setGang g x).ring = s.ring ∧ (s.setGang g x).strm = s.strm ∧ (s.setGang g x).mbox = s.mbox ∧ (s.setGang g x).pnv = s.pnv ∧ (s.setGang g x).nvm = s.nvm ∧ (s.setGang g x).srm = s.srm ∧ (s.setGang g x).dbg = s.dbg ∧ (s.setGang g x).i3c = s.i3c ∧ (s.setGang g x).drawn = s.drawn := by
  simp [State.setGang]
theorem State.onGang_frame (s : State) (g : Nat) (f : Gang → Gang) : (s.onGang g f).pending = s.pending ∧ (s.onGang g f).variant = s.variant ∧ (s.onGang g f).applied = s.applied ∧ (s.onGang g f).latches = s.latches ∧ (s.onGang g f).commits = s.commits ∧ (s.onGang g f).resetting = s.resetting ∧ (s.onGang g f).dev = s.dev ∧ (s.onGang g f).pwr = s.pwr ∧ (s.onGang g f).hk = s.hk ∧ (s.onGang g f).clk = s.clk ∧ (s.onGang g f).bw = s.bw ∧ (s.onGang g f).med = s.med ∧ (s.onGang g f).roms = s.roms ∧ (s.onGang g f).prot = s.prot ∧ (s.onGang g f).caches = s.caches ∧ (s.onGang g f).dram = s.dram ∧ (s.onGang g f).link = s.link ∧ (s.onGang g f).reads = s.reads ∧ (s.onGang g f).drift = s.drift ∧ (s.onGang g f).zl0 = s.zl0 ∧ (s.onGang g f).zl1 = s.zl1 ∧ (s.onGang g f).ring = s.ring ∧ (s.onGang g f).strm = s.strm ∧ (s.onGang g f).mbox = s.mbox ∧ (s.onGang g f).pnv = s.pnv ∧ (s.onGang g f).nvm = s.nvm ∧ (s.onGang g f).srm = s.srm ∧ (s.onGang g f).dbg = s.dbg ∧ (s.onGang g f).i3c = s.i3c ∧ (s.onGang g f).drawn = s.drawn := by
  have f1 := @State.setGang_frame
  simp [State.onGang, f1]
theorem State.bumpSatBy_frame (s : State) (f : Fld) (n : Nat) : (s.bumpSatBy f n).pending = s.pending ∧ (s.bumpSatBy f n).variant = s.variant ∧ (s.bumpSatBy f n).applied = s.applied ∧ (s.bumpSatBy f n).latches = s.latches ∧ (s.bumpSatBy f n).commits = s.commits ∧ (s.bumpSatBy f n).resetting = s.resetting ∧ (s.bumpSatBy f n).dev = s.dev ∧ (s.bumpSatBy f n).pwr = s.pwr ∧ (s.bumpSatBy f n).hk = s.hk ∧ (s.bumpSatBy f n).clk = s.clk ∧ (s.bumpSatBy f n).bw = s.bw ∧ (s.bumpSatBy f n).gang0 = s.gang0 ∧ (s.bumpSatBy f n).gang1 = s.gang1 ∧ (s.bumpSatBy f n).med = s.med ∧ (s.bumpSatBy f n).roms = s.roms ∧ (s.bumpSatBy f n).xlt = s.xlt ∧ (s.bumpSatBy f n).prot = s.prot ∧ (s.bumpSatBy f n).caches = s.caches ∧ (s.bumpSatBy f n).dram = s.dram ∧ (s.bumpSatBy f n).link = s.link ∧ (s.bumpSatBy f n).reads = s.reads ∧ (s.bumpSatBy f n).drift = s.drift ∧ (s.bumpSatBy f n).zl0 = s.zl0 ∧ (s.bumpSatBy f n).zl1 = s.zl1 ∧ (s.bumpSatBy f n).pmc = s.pmc ∧ (s.bumpSatBy f n).ring = s.ring ∧ (s.bumpSatBy f n).strm = s.strm ∧ (s.bumpSatBy f n).mbox = s.mbox ∧ (s.bumpSatBy f n).pnv = s.pnv ∧ (s.bumpSatBy f n).nvm = s.nvm ∧ (s.bumpSatBy f n).srm = s.srm ∧ (s.bumpSatBy f n).dbg = s.dbg ∧ (s.bumpSatBy f n).i3c = s.i3c ∧ (s.bumpSatBy f n).drawn = s.drawn := by
  have f1 := @State.setFld_frame
  simp [State.bumpSatBy, f1]
theorem State.bumpSat_frame (s : State) (f : Fld) : (s.bumpSat f).pending = s.pending ∧ (s.bumpSat f).variant = s.variant ∧ (s.bumpSat f).applied = s.applied ∧ (s.bumpSat f).latches = s.latches ∧ (s.bumpSat f).commits = s.commits ∧ (s.bumpSat f).resetting = s.resetting ∧ (s.bumpSat f).dev = s.dev ∧ (s.bumpSat f).pwr = s.pwr ∧ (s.bumpSat f).hk = s.hk ∧ (s.bumpSat f).clk = s.clk ∧ (s.bumpSat f).bw = s.bw ∧ (s.bumpSat f).gang0 = s.gang0 ∧ (s.bumpSat f).gang1 = s.gang1 ∧ (s.bumpSat f).med = s.med ∧ (s.bumpSat f).roms = s.roms ∧ (s.bumpSat f).xlt = s.xlt ∧ (s.bumpSat f).prot = s.prot ∧ (s.bumpSat f).caches = s.caches ∧ (s.bumpSat f).dram = s.dram ∧ (s.bumpSat f).link = s.link ∧ (s.bumpSat f).reads = s.reads ∧ (s.bumpSat f).drift = s.drift ∧ (s.bumpSat f).zl0 = s.zl0 ∧ (s.bumpSat f).zl1 = s.zl1 ∧ (s.bumpSat f).pmc = s.pmc ∧ (s.bumpSat f).ring = s.ring ∧ (s.bumpSat f).strm = s.strm ∧ (s.bumpSat f).mbox = s.mbox ∧ (s.bumpSat f).pnv = s.pnv ∧ (s.bumpSat f).nvm = s.nvm ∧ (s.bumpSat f).srm = s.srm ∧ (s.bumpSat f).dbg = s.dbg ∧ (s.bumpSat f).i3c = s.i3c ∧ (s.bumpSat f).drawn = s.drawn := by
  have f1 := @State.bumpSatBy_frame
  simp [State.bumpSat, f1]
theorem State.bumpBy_frame (s : State) (f : Fld) (n : Nat) : (s.bumpBy f n).pending = s.pending ∧ (s.bumpBy f n).variant = s.variant ∧ (s.bumpBy f n).applied = s.applied ∧ (s.bumpBy f n).latches = s.latches ∧ (s.bumpBy f n).commits = s.commits ∧ (s.bumpBy f n).resetting = s.resetting ∧ (s.bumpBy f n).dev = s.dev ∧ (s.bumpBy f n).pwr = s.pwr ∧ (s.bumpBy f n).hk = s.hk ∧ (s.bumpBy f n).clk = s.clk ∧ (s.bumpBy f n).bw = s.bw ∧ (s.bumpBy f n).gang0 = s.gang0 ∧ (s.bumpBy f n).gang1 = s.gang1 ∧ (s.bumpBy f n).med = s.med ∧ (s.bumpBy f n).roms = s.roms ∧ (s.bumpBy f n).xlt = s.xlt ∧ (s.bumpBy f n).tally = s.tally ∧ (s.bumpBy f n).prot = s.prot ∧ (s.bumpBy f n).caches = s.caches ∧ (s.bumpBy f n).dram = s.dram ∧ (s.bumpBy f n).link = s.link ∧ (s.bumpBy f n).reads = s.reads ∧ (s.bumpBy f n).drift = s.drift ∧ (s.bumpBy f n).zl0 = s.zl0 ∧ (s.bumpBy f n).zl1 = s.zl1 ∧ (s.bumpBy f n).pmc = s.pmc ∧ (s.bumpBy f n).ring = s.ring ∧ (s.bumpBy f n).strm = s.strm ∧ (s.bumpBy f n).mbox = s.mbox ∧ (s.bumpBy f n).pnv = s.pnv ∧ (s.bumpBy f n).nvm = s.nvm ∧ (s.bumpBy f n).srm = s.srm ∧ (s.bumpBy f n).dbg = s.dbg ∧ (s.bumpBy f n).i3c = s.i3c ∧ (s.bumpBy f n).drawn = s.drawn := by
  have f1 := @State.setFld_frame
  simp [State.bumpBy, f1]
theorem State.bump_frame (s : State) (f : Fld) : (s.bump f).pending = s.pending ∧ (s.bump f).variant = s.variant ∧ (s.bump f).applied = s.applied ∧ (s.bump f).latches = s.latches ∧ (s.bump f).commits = s.commits ∧ (s.bump f).resetting = s.resetting ∧ (s.bump f).dev = s.dev ∧ (s.bump f).pwr = s.pwr ∧ (s.bump f).hk = s.hk ∧ (s.bump f).clk = s.clk ∧ (s.bump f).bw = s.bw ∧ (s.bump f).gang0 = s.gang0 ∧ (s.bump f).gang1 = s.gang1 ∧ (s.bump f).med = s.med ∧ (s.bump f).roms = s.roms ∧ (s.bump f).xlt = s.xlt ∧ (s.bump f).tally = s.tally ∧ (s.bump f).prot = s.prot ∧ (s.bump f).caches = s.caches ∧ (s.bump f).dram = s.dram ∧ (s.bump f).link = s.link ∧ (s.bump f).reads = s.reads ∧ (s.bump f).drift = s.drift ∧ (s.bump f).zl0 = s.zl0 ∧ (s.bump f).zl1 = s.zl1 ∧ (s.bump f).pmc = s.pmc ∧ (s.bump f).ring = s.ring ∧ (s.bump f).strm = s.strm ∧ (s.bump f).mbox = s.mbox ∧ (s.bump f).pnv = s.pnv ∧ (s.bump f).nvm = s.nvm ∧ (s.bump f).srm = s.srm ∧ (s.bump f).dbg = s.dbg ∧ (s.bump f).i3c = s.i3c ∧ (s.bump f).drawn = s.drawn := by
  have f1 := @State.bumpBy_frame
  simp [State.bump, f1]
theorem State.onPmc_frame (s : State) (f : Pmc → Pmc) : (s.onPmc f).pending = s.pending ∧ (s.onPmc f).variant = s.variant ∧ (s.onPmc f).applied = s.applied ∧ (s.onPmc f).latches = s.latches ∧ (s.onPmc f).commits = s.commits ∧ (s.onPmc f).resetting = s.resetting ∧ (s.onPmc f).dev = s.dev ∧ (s.onPmc f).pwr = s.pwr ∧ (s.onPmc f).hk = s.hk ∧ (s.onPmc f).clk = s.clk ∧ (s.onPmc f).bw = s.bw ∧ (s.onPmc f).gang0 = s.gang0 ∧ (s.onPmc f).gang1 = s.gang1 ∧ (s.onPmc f).med = s.med ∧ (s.onPmc f).roms = s.roms ∧ (s.onPmc f).xlt = s.xlt ∧ (s.onPmc f).tally = s.tally ∧ (s.onPmc f).prot = s.prot ∧ (s.onPmc f).caches = s.caches ∧ (s.onPmc f).dram = s.dram ∧ (s.onPmc f).link = s.link ∧ (s.onPmc f).reads = s.reads ∧ (s.onPmc f).drift = s.drift ∧ (s.onPmc f).zl0 = s.zl0 ∧ (s.onPmc f).zl1 = s.zl1 ∧ (s.onPmc f).ring = s.ring ∧ (s.onPmc f).strm = s.strm ∧ (s.onPmc f).mbox = s.mbox ∧ (s.onPmc f).pnv = s.pnv ∧ (s.onPmc f).nvm = s.nvm ∧ (s.onPmc f).srm = s.srm ∧ (s.onPmc f).dbg = s.dbg ∧ (s.onPmc f).i3c = s.i3c ∧ (s.onPmc f).drawn = s.drawn := by
  simp [State.onPmc]
theorem State.setApplied_frame (s : State) (a : Nat) (v : Nat) : (s.setApplied a v).pending = s.pending ∧ (s.setApplied a v).variant = s.variant ∧ (s.setApplied a v).latches = s.latches ∧ (s.setApplied a v).resetting = s.resetting ∧ (s.setApplied a v).med = s.med ∧ (s.setApplied a v).roms = s.roms ∧ (s.setApplied a v).dbg = s.dbg ∧ (s.setApplied a v).i3c = s.i3c := by
  simp [State.setApplied]
theorem State.at__frame (s : State) (phase : Nat) : (s.at_ phase).pending = s.pending ∧ (s.at_ phase).variant = s.variant ∧ (s.at_ phase).regs = s.regs ∧ (s.at_ phase).applied = s.applied ∧ (s.at_ phase).latches = s.latches ∧ (s.at_ phase).commits = s.commits ∧ (s.at_ phase).resetting = s.resetting ∧ (s.at_ phase).dev = s.dev ∧ (s.at_ phase).pwr = s.pwr ∧ (s.at_ phase).hk = s.hk ∧ (s.at_ phase).bw = s.bw ∧ (s.at_ phase).gang0 = s.gang0 ∧ (s.at_ phase).gang1 = s.gang1 ∧ (s.at_ phase).med = s.med ∧ (s.at_ phase).roms = s.roms ∧ (s.at_ phase).xlt = s.xlt ∧ (s.at_ phase).tally = s.tally ∧ (s.at_ phase).prot = s.prot ∧ (s.at_ phase).caches = s.caches ∧ (s.at_ phase).dram = s.dram ∧ (s.at_ phase).link = s.link ∧ (s.at_ phase).reads = s.reads ∧ (s.at_ phase).drift = s.drift ∧ (s.at_ phase).zl0 = s.zl0 ∧ (s.at_ phase).zl1 = s.zl1 ∧ (s.at_ phase).pmc = s.pmc ∧ (s.at_ phase).ring = s.ring ∧ (s.at_ phase).strm = s.strm ∧ (s.at_ phase).mbox = s.mbox ∧ (s.at_ phase).pnv = s.pnv ∧ (s.at_ phase).nvm = s.nvm ∧ (s.at_ phase).srm = s.srm ∧ (s.at_ phase).dbg = s.dbg ∧ (s.at_ phase).i3c = s.i3c ∧ (s.at_ phase).drawn = s.drawn := by
  simp [State.at_]
theorem State.moved_frame (s : State) (p : Nat) (w : Bool) (n : Nat) : (s.moved p w n).pending = s.pending ∧ (s.moved p w n).variant = s.variant ∧ (s.moved p w n).applied = s.applied ∧ (s.moved p w n).latches = s.latches ∧ (s.moved p w n).commits = s.commits ∧ (s.moved p w n).resetting = s.resetting ∧ (s.moved p w n).dev = s.dev ∧ (s.moved p w n).pwr = s.pwr ∧ (s.moved p w n).hk = s.hk ∧ (s.moved p w n).clk = s.clk ∧ (s.moved p w n).bw = s.bw ∧ (s.moved p w n).gang0 = s.gang0 ∧ (s.moved p w n).gang1 = s.gang1 ∧ (s.moved p w n).med = s.med ∧ (s.moved p w n).roms = s.roms ∧ (s.moved p w n).xlt = s.xlt ∧ (s.moved p w n).prot = s.prot ∧ (s.moved p w n).caches = s.caches ∧ (s.moved p w n).dram = s.dram ∧ (s.moved p w n).link = s.link ∧ (s.moved p w n).reads = s.reads ∧ (s.moved p w n).drift = s.drift ∧ (s.moved p w n).zl0 = s.zl0 ∧ (s.moved p w n).zl1 = s.zl1 ∧ (s.moved p w n).ring = s.ring ∧ (s.moved p w n).strm = s.strm ∧ (s.moved p w n).mbox = s.mbox ∧ (s.moved p w n).pnv = s.pnv ∧ (s.moved p w n).nvm = s.nvm ∧ (s.moved p w n).srm = s.srm ∧ (s.moved p w n).dbg = s.dbg ∧ (s.moved p w n).i3c = s.i3c ∧ (s.moved p w n).drawn = s.drawn := by
  have f1 := @State.onPmc_frame
  simp [State.moved, f1]
theorem State.bump48_frame (s : State) (lo : Fld) (hi : Fld) (n : Nat) : (s.bump48 lo hi n).pending = s.pending ∧ (s.bump48 lo hi n).variant = s.variant ∧ (s.bump48 lo hi n).applied = s.applied ∧ (s.bump48 lo hi n).latches = s.latches ∧ (s.bump48 lo hi n).commits = s.commits ∧ (s.bump48 lo hi n).resetting = s.resetting ∧ (s.bump48 lo hi n).dev = s.dev ∧ (s.bump48 lo hi n).pwr = s.pwr ∧ (s.bump48 lo hi n).hk = s.hk ∧ (s.bump48 lo hi n).clk = s.clk ∧ (s.bump48 lo hi n).gang0 = s.gang0 ∧ (s.bump48 lo hi n).gang1 = s.gang1 ∧ (s.bump48 lo hi n).med = s.med ∧ (s.bump48 lo hi n).roms = s.roms ∧ (s.bump48 lo hi n).xlt = s.xlt ∧ (s.bump48 lo hi n).tally = s.tally ∧ (s.bump48 lo hi n).prot = s.prot ∧ (s.bump48 lo hi n).caches = s.caches ∧ (s.bump48 lo hi n).dram = s.dram ∧ (s.bump48 lo hi n).reads = s.reads ∧ (s.bump48 lo hi n).drift = s.drift ∧ (s.bump48 lo hi n).zl0 = s.zl0 ∧ (s.bump48 lo hi n).zl1 = s.zl1 ∧ (s.bump48 lo hi n).ring = s.ring ∧ (s.bump48 lo hi n).strm = s.strm ∧ (s.bump48 lo hi n).mbox = s.mbox ∧ (s.bump48 lo hi n).pnv = s.pnv ∧ (s.bump48 lo hi n).nvm = s.nvm ∧ (s.bump48 lo hi n).srm = s.srm ∧ (s.bump48 lo hi n).dbg = s.dbg ∧ (s.bump48 lo hi n).i3c = s.i3c ∧ (s.bump48 lo hi n).drawn = s.drawn := by
  have f1 := @State.setFld_frame
  simp [State.bump48, f1]
theorem State.onRota_frame (s : State) (g : Nat) (f : Rota → Rota) : (s.onRota g f).pending = s.pending ∧ (s.onRota g f).variant = s.variant ∧ (s.onRota g f).applied = s.applied ∧ (s.onRota g f).latches = s.latches ∧ (s.onRota g f).commits = s.commits ∧ (s.onRota g f).resetting = s.resetting ∧ (s.onRota g f).dev = s.dev ∧ (s.onRota g f).pwr = s.pwr ∧ (s.onRota g f).hk = s.hk ∧ (s.onRota g f).clk = s.clk ∧ (s.onRota g f).bw = s.bw ∧ (s.onRota g f).med = s.med ∧ (s.onRota g f).roms = s.roms ∧ (s.onRota g f).prot = s.prot ∧ (s.onRota g f).caches = s.caches ∧ (s.onRota g f).dram = s.dram ∧ (s.onRota g f).link = s.link ∧ (s.onRota g f).reads = s.reads ∧ (s.onRota g f).drift = s.drift ∧ (s.onRota g f).zl0 = s.zl0 ∧ (s.onRota g f).zl1 = s.zl1 ∧ (s.onRota g f).ring = s.ring ∧ (s.onRota g f).strm = s.strm ∧ (s.onRota g f).mbox = s.mbox ∧ (s.onRota g f).pnv = s.pnv ∧ (s.onRota g f).nvm = s.nvm ∧ (s.onRota g f).srm = s.srm ∧ (s.onRota g f).dbg = s.dbg ∧ (s.onRota g f).i3c = s.i3c ∧ (s.onRota g f).drawn = s.drawn := by
  have f1 := @State.onGang_frame
  simp [State.onRota, f1]

end Sys2Proof.Machine
end

