-- ==== Sys2Proof/Laws/FrameOperands.lean ====
section
/-! SUPPORT. Frames of the operations of Machine/Operands.lean: the fields of State that each leaves as they were. -/

set_option maxRecDepth 4000
set_option linter.unusedSimpArgs false

namespace Sys2Proof.Machine

theorem State.draw_frame (s : State) (n : Nat) : (s.draw n).2.pending = s.pending ∧ (s.draw n).2.variant = s.variant ∧ (s.draw n).2.regs = s.regs ∧ (s.draw n).2.applied = s.applied ∧ (s.draw n).2.latches = s.latches ∧ (s.draw n).2.commits = s.commits ∧ (s.draw n).2.resetting = s.resetting ∧ (s.draw n).2.dev = s.dev ∧ (s.draw n).2.pwr = s.pwr ∧ (s.draw n).2.hk = s.hk ∧ (s.draw n).2.clk = s.clk ∧ (s.draw n).2.bw = s.bw ∧ (s.draw n).2.gang0 = s.gang0 ∧ (s.draw n).2.gang1 = s.gang1 ∧ (s.draw n).2.med = s.med ∧ (s.draw n).2.roms = s.roms ∧ (s.draw n).2.xlt = s.xlt ∧ (s.draw n).2.tally = s.tally ∧ (s.draw n).2.prot = s.prot ∧ (s.draw n).2.caches = s.caches ∧ (s.draw n).2.dram = s.dram ∧ (s.draw n).2.link = s.link ∧ (s.draw n).2.reads = s.reads ∧ (s.draw n).2.drift = s.drift ∧ (s.draw n).2.zl0 = s.zl0 ∧ (s.draw n).2.zl1 = s.zl1 ∧ (s.draw n).2.pmc = s.pmc ∧ (s.draw n).2.ring = s.ring ∧ (s.draw n).2.strm = s.strm ∧ (s.draw n).2.mbox = s.mbox ∧ (s.draw n).2.pnv = s.pnv ∧ (s.draw n).2.nvm = s.nvm ∧ (s.draw n).2.srm = s.srm ∧ (s.draw n).2.dbg = s.dbg ∧ (s.draw n).2.i3c = s.i3c := by
  simp [State.draw]
theorem State.domainsOff_frame (s : State) (d : Nat) : (s.domainsOff d).pending = s.pending ∧ (s.domainsOff d).variant = s.variant ∧ (s.domainsOff d).applied = s.applied ∧ (s.domainsOff d).latches = s.latches ∧ (s.domainsOff d).commits = s.commits ∧ (s.domainsOff d).resetting = s.resetting ∧ (s.domainsOff d).clk = s.clk ∧ (s.domainsOff d).bw = s.bw ∧ (s.domainsOff d).gang0 = s.gang0 ∧ (s.domainsOff d).gang1 = s.gang1 ∧ (s.domainsOff d).med = s.med ∧ (s.domainsOff d).roms = s.roms ∧ (s.domainsOff d).xlt = s.xlt ∧ (s.domainsOff d).prot = s.prot ∧ (s.domainsOff d).caches = s.caches ∧ (s.domainsOff d).dram = s.dram ∧ (s.domainsOff d).link = s.link ∧ (s.domainsOff d).reads = s.reads ∧ (s.domainsOff d).drift = s.drift ∧ (s.domainsOff d).ring = s.ring ∧ (s.domainsOff d).strm = s.strm ∧ (s.domainsOff d).mbox = s.mbox ∧ (s.domainsOff d).srm = s.srm ∧ (s.domainsOff d).dbg = s.dbg ∧ (s.domainsOff d).i3c = s.i3c ∧ (s.domainsOff d).drawn = s.drawn := by
  have f1 := @State.emit_frame
  simp [State.domainsOff, f1]
theorem State.dieDomainsOff_frame (s : State) : (s.dieDomainsOff).pending = s.pending ∧ (s.dieDomainsOff).variant = s.variant ∧ (s.dieDomainsOff).applied = s.applied ∧ (s.dieDomainsOff).latches = s.latches ∧ (s.dieDomainsOff).commits = s.commits ∧ (s.dieDomainsOff).resetting = s.resetting ∧ (s.dieDomainsOff).clk = s.clk ∧ (s.dieDomainsOff).bw = s.bw ∧ (s.dieDomainsOff).gang0 = s.gang0 ∧ (s.dieDomainsOff).gang1 = s.gang1 ∧ (s.dieDomainsOff).med = s.med ∧ (s.dieDomainsOff).roms = s.roms ∧ (s.dieDomainsOff).xlt = s.xlt ∧ (s.dieDomainsOff).prot = s.prot ∧ (s.dieDomainsOff).caches = s.caches ∧ (s.dieDomainsOff).dram = s.dram ∧ (s.dieDomainsOff).link = s.link ∧ (s.dieDomainsOff).reads = s.reads ∧ (s.dieDomainsOff).drift = s.drift ∧ (s.dieDomainsOff).ring = s.ring ∧ (s.dieDomainsOff).strm = s.strm ∧ (s.dieDomainsOff).mbox = s.mbox ∧ (s.dieDomainsOff).srm = s.srm ∧ (s.dieDomainsOff).dbg = s.dbg ∧ (s.dieDomainsOff).i3c = s.i3c ∧ (s.dieDomainsOff).drawn = s.drawn := by
  have f1 := @State.domainsOff_frame
  simp [State.dieDomainsOff, f1]
theorem State.domainsOn_frame (s : State) (d : Nat) : (s.domainsOn d).pending = s.pending ∧ (s.domainsOn d).variant = s.variant ∧ (s.domainsOn d).latches = s.latches ∧ (s.domainsOn d).resetting = s.resetting ∧ (s.domainsOn d).clk = s.clk ∧ (s.domainsOn d).med = s.med ∧ (s.domainsOn d).roms = s.roms ∧ (s.domainsOn d).dbg = s.dbg ∧ (s.domainsOn d).i3c = s.i3c := by
  have f1 := @State.emit_frame
  simp [State.domainsOn, f1]

end Sys2Proof.Machine
end

