-- ==== Sys2Proof/Laws/FrameFlags.lean ====
section
/-! SUPPORT. Frames of the operations of Machine/Flags.lean: the fields of State that each leaves as they were. -/

set_option maxRecDepth 4000
set_option linter.unusedSimpArgs false

namespace Sys2Proof.Machine

theorem State.sendMsi_frame (s : State) (v : Nat) : (s.sendMsi v).pending = s.pending ∧ (s.sendMsi v).variant = s.variant ∧ (s.sendMsi v).regs = s.regs ∧ (s.sendMsi v).applied = s.applied ∧ (s.sendMsi v).latches = s.latches ∧ (s.sendMsi v).commits = s.commits ∧ (s.sendMsi v).resetting = s.resetting ∧ (s.sendMsi v).dev = s.dev ∧ (s.sendMsi v).pwr = s.pwr ∧ (s.sendMsi v).hk = s.hk ∧ (s.sendMsi v).clk = s.clk ∧ (s.sendMsi v).bw = s.bw ∧ (s.sendMsi v).gang0 = s.gang0 ∧ (s.sendMsi v).gang1 = s.gang1 ∧ (s.sendMsi v).med = s.med ∧ (s.sendMsi v).roms = s.roms ∧ (s.sendMsi v).xlt = s.xlt ∧ (s.sendMsi v).tally = s.tally ∧ (s.sendMsi v).prot = s.prot ∧ (s.sendMsi v).caches = s.caches ∧ (s.sendMsi v).dram = s.dram ∧ (s.sendMsi v).link = s.link ∧ (s.sendMsi v).reads = s.reads ∧ (s.sendMsi v).drift = s.drift ∧ (s.sendMsi v).zl0 = s.zl0 ∧ (s.sendMsi v).zl1 = s.zl1 ∧ (s.sendMsi v).pmc = s.pmc ∧ (s.sendMsi v).ring = s.ring ∧ (s.sendMsi v).strm = s.strm ∧ (s.sendMsi v).mbox = s.mbox ∧ (s.sendMsi v).pnv = s.pnv ∧ (s.sendMsi v).nvm = s.nvm ∧ (s.sendMsi v).srm = s.srm ∧ (s.sendMsi v).dbg = s.dbg ∧ (s.sendMsi v).i3c = s.i3c ∧ (s.sendMsi v).drawn = s.drawn := by
  have f1 := @State.emit_frame
  simp [State.sendMsi, f1]
theorem State.refreshIrq_frame (s : State) (always : Bool) : (s.refreshIrq always).pending = s.pending ∧ (s.refreshIrq always).variant = s.variant ∧ (s.refreshIrq always).applied = s.applied ∧ (s.refreshIrq always).latches = s.latches ∧ (s.refreshIrq always).commits = s.commits ∧ (s.refreshIrq always).resetting = s.resetting ∧ (s.refreshIrq always).dev = s.dev ∧ (s.refreshIrq always).pwr = s.pwr ∧ (s.refreshIrq always).hk = s.hk ∧ (s.refreshIrq always).clk = s.clk ∧ (s.refreshIrq always).bw = s.bw ∧ (s.refreshIrq always).gang0 = s.gang0 ∧ (s.refreshIrq always).gang1 = s.gang1 ∧ (s.refreshIrq always).med = s.med ∧ (s.refreshIrq always).roms = s.roms ∧ (s.refreshIrq always).xlt = s.xlt ∧ (s.refreshIrq always).tally = s.tally ∧ (s.refreshIrq always).prot = s.prot ∧ (s.refreshIrq always).caches = s.caches ∧ (s.refreshIrq always).dram = s.dram ∧ (s.refreshIrq always).link = s.link ∧ (s.refreshIrq always).reads = s.reads ∧ (s.refreshIrq always).drift = s.drift ∧ (s.refreshIrq always).zl0 = s.zl0 ∧ (s.refreshIrq always).zl1 = s.zl1 ∧ (s.refreshIrq always).pmc = s.pmc ∧ (s.refreshIrq always).ring = s.ring ∧ (s.refreshIrq always).strm = s.strm ∧ (s.refreshIrq always).mbox = s.mbox ∧ (s.refreshIrq always).pnv = s.pnv ∧ (s.refreshIrq always).nvm = s.nvm ∧ (s.refreshIrq always).srm = s.srm ∧ (s.refreshIrq always).dbg = s.dbg ∧ (s.refreshIrq always).i3c = s.i3c ∧ (s.refreshIrq always).drawn = s.drawn := by
  have f1 := @State.emit_frame; have f2 := @State.sendMsi_frame
  simp [State.refreshIrq, f1, f2]
theorem State.raise_frame (s : State) (f : Fld) : (s.raise f).pending = s.pending ∧ (s.raise f).variant = s.variant ∧ (s.raise f).applied = s.applied ∧ (s.raise f).latches = s.latches ∧ (s.raise f).commits = s.commits ∧ (s.raise f).resetting = s.resetting ∧ (s.raise f).dev = s.dev ∧ (s.raise f).pwr = s.pwr ∧ (s.raise f).hk = s.hk ∧ (s.raise f).clk = s.clk ∧ (s.raise f).bw = s.bw ∧ (s.raise f).gang0 = s.gang0 ∧ (s.raise f).gang1 = s.gang1 ∧ (s.raise f).med = s.med ∧ (s.raise f).roms = s.roms ∧ (s.raise f).xlt = s.xlt ∧ (s.raise f).tally = s.tally ∧ (s.raise f).prot = s.prot ∧ (s.raise f).caches = s.caches ∧ (s.raise f).dram = s.dram ∧ (s.raise f).link = s.link ∧ (s.raise f).reads = s.reads ∧ (s.raise f).drift = s.drift ∧ (s.raise f).zl0 = s.zl0 ∧ (s.raise f).zl1 = s.zl1 ∧ (s.raise f).pmc = s.pmc ∧ (s.raise f).ring = s.ring ∧ (s.raise f).strm = s.strm ∧ (s.raise f).mbox = s.mbox ∧ (s.raise f).pnv = s.pnv ∧ (s.raise f).nvm = s.nvm ∧ (s.raise f).srm = s.srm ∧ (s.raise f).dbg = s.dbg ∧ (s.raise f).i3c = s.i3c ∧ (s.raise f).drawn = s.drawn := by
  have f1 := @State.refreshIrq_frame; have f2 := @State.setFlag_frame
  simp [State.raise, f1, f2]
theorem State.lost_frame (s : State) (sev : Nat) : (s.lost sev).pending = s.pending ∧ (s.lost sev).variant = s.variant ∧ (s.lost sev).applied = s.applied ∧ (s.lost sev).latches = s.latches ∧ (s.lost sev).commits = s.commits ∧ (s.lost sev).resetting = s.resetting ∧ (s.lost sev).dev = s.dev ∧ (s.lost sev).pwr = s.pwr ∧ (s.lost sev).hk = s.hk ∧ (s.lost sev).clk = s.clk ∧ (s.lost sev).bw = s.bw ∧ (s.lost sev).gang0 = s.gang0 ∧ (s.lost sev).gang1 = s.gang1 ∧ (s.lost sev).med = s.med ∧ (s.lost sev).roms = s.roms ∧ (s.lost sev).xlt = s.xlt ∧ (s.lost sev).prot = s.prot ∧ (s.lost sev).caches = s.caches ∧ (s.lost sev).dram = s.dram ∧ (s.lost sev).link = s.link ∧ (s.lost sev).reads = s.reads ∧ (s.lost sev).drift = s.drift ∧ (s.lost sev).zl0 = s.zl0 ∧ (s.lost sev).zl1 = s.zl1 ∧ (s.lost sev).pmc = s.pmc ∧ (s.lost sev).ring = s.ring ∧ (s.lost sev).strm = s.strm ∧ (s.lost sev).mbox = s.mbox ∧ (s.lost sev).pnv = s.pnv ∧ (s.lost sev).nvm = s.nvm ∧ (s.lost sev).srm = s.srm ∧ (s.lost sev).dbg = s.dbg ∧ (s.lost sev).i3c = s.i3c ∧ (s.lost sev).drawn = s.drawn := by
  have f1 := @State.bumpSat_frame; have f2 := @State.raise_frame
  simp [State.lost, f1, f2]
theorem State.onTally_frame (s : State) (f : Tally → Tally) : (s.onTally f).pending = s.pending ∧ (s.onTally f).variant = s.variant ∧ (s.onTally f).applied = s.applied ∧ (s.onTally f).latches = s.latches ∧ (s.onTally f).commits = s.commits ∧ (s.onTally f).resetting = s.resetting ∧ (s.onTally f).dev = s.dev ∧ (s.onTally f).pwr = s.pwr ∧ (s.onTally f).hk = s.hk ∧ (s.onTally f).clk = s.clk ∧ (s.onTally f).bw = s.bw ∧ (s.onTally f).gang0 = s.gang0 ∧ (s.onTally f).gang1 = s.gang1 ∧ (s.onTally f).med = s.med ∧ (s.onTally f).roms = s.roms ∧ (s.onTally f).xlt = s.xlt ∧ (s.onTally f).prot = s.prot ∧ (s.onTally f).caches = s.caches ∧ (s.onTally f).dram = s.dram ∧ (s.onTally f).link = s.link ∧ (s.onTally f).reads = s.reads ∧ (s.onTally f).drift = s.drift ∧ (s.onTally f).zl0 = s.zl0 ∧ (s.onTally f).zl1 = s.zl1 ∧ (s.onTally f).pmc = s.pmc ∧ (s.onTally f).ring = s.ring ∧ (s.onTally f).strm = s.strm ∧ (s.onTally f).mbox = s.mbox ∧ (s.onTally f).pnv = s.pnv ∧ (s.onTally f).nvm = s.nvm ∧ (s.onTally f).srm = s.srm ∧ (s.onTally f).dbg = s.dbg ∧ (s.onTally f).i3c = s.i3c ∧ (s.onTally f).drawn = s.drawn := by
  simp [State.onTally]
theorem State.report_frame (s : State) (r : Report) : (s.report r).pending = s.pending ∧ (s.report r).variant = s.variant ∧ (s.report r).applied = s.applied ∧ (s.report r).latches = s.latches ∧ (s.report r).commits = s.commits ∧ (s.report r).resetting = s.resetting ∧ (s.report r).dev = s.dev ∧ (s.report r).pwr = s.pwr ∧ (s.report r).hk = s.hk ∧ (s.report r).clk = s.clk ∧ (s.report r).bw = s.bw ∧ (s.report r).gang0 = s.gang0 ∧ (s.report r).gang1 = s.gang1 ∧ (s.report r).med = s.med ∧ (s.report r).roms = s.roms ∧ (s.report r).xlt = s.xlt ∧ (s.report r).prot = s.prot ∧ (s.report r).caches = s.caches ∧ (s.report r).dram = s.dram ∧ (s.report r).link = s.link ∧ (s.report r).reads = s.reads ∧ (s.report r).drift = s.drift ∧ (s.report r).zl0 = s.zl0 ∧ (s.report r).zl1 = s.zl1 ∧ (s.report r).pmc = s.pmc ∧ (s.report r).ring = s.ring ∧ (s.report r).strm = s.strm ∧ (s.report r).mbox = s.mbox ∧ (s.report r).pnv = s.pnv ∧ (s.report r).nvm = s.nvm ∧ (s.report r).srm = s.srm ∧ (s.report r).dbg = s.dbg ∧ (s.report r).i3c = s.i3c ∧ (s.report r).drawn = s.drawn := by
  have f1 := @State.bump_frame; have f2 := @State.lost_frame; have f3 := @State.onTally_frame; have f4 := @State.raise_frame
  simp [State.report, f1, f2, f3, f4]
theorem State.raiseRec_frame (s : State) (f : Fld) (sev : Nat) (cls : Nat) (inst : Nat) (p1 : Nat) (p2 : Nat) (p3 : Nat) : (s.raiseRec f sev cls inst p1 p2 p3).pending = s.pending ∧ (s.raiseRec f sev cls inst p1 p2 p3).variant = s.variant ∧ (s.raiseRec f sev cls inst p1 p2 p3).applied = s.applied ∧ (s.raiseRec f sev cls inst p1 p2 p3).latches = s.latches ∧ (s.raiseRec f sev cls inst p1 p2 p3).commits = s.commits ∧ (s.raiseRec f sev cls inst p1 p2 p3).resetting = s.resetting ∧ (s.raiseRec f sev cls inst p1 p2 p3).dev = s.dev ∧ (s.raiseRec f sev cls inst p1 p2 p3).pwr = s.pwr ∧ (s.raiseRec f sev cls inst p1 p2 p3).hk = s.hk ∧ (s.raiseRec f sev cls inst p1 p2 p3).clk = s.clk ∧ (s.raiseRec f sev cls inst p1 p2 p3).bw = s.bw ∧ (s.raiseRec f sev cls inst p1 p2 p3).gang0 = s.gang0 ∧ (s.raiseRec f sev cls inst p1 p2 p3).gang1 = s.gang1 ∧ (s.raiseRec f sev cls inst p1 p2 p3).med = s.med ∧ (s.raiseRec f sev cls inst p1 p2 p3).roms = s.roms ∧ (s.raiseRec f sev cls inst p1 p2 p3).xlt = s.xlt ∧ (s.raiseRec f sev cls inst p1 p2 p3).prot = s.prot ∧ (s.raiseRec f sev cls inst p1 p2 p3).caches = s.caches ∧ (s.raiseRec f sev cls inst p1 p2 p3).dram = s.dram ∧ (s.raiseRec f sev cls inst p1 p2 p3).link = s.link ∧ (s.raiseRec f sev cls inst p1 p2 p3).reads = s.reads ∧ (s.raiseRec f sev cls inst p1 p2 p3).drift = s.drift ∧ (s.raiseRec f sev cls inst p1 p2 p3).zl0 = s.zl0 ∧ (s.raiseRec f sev cls inst p1 p2 p3).zl1 = s.zl1 ∧ (s.raiseRec f sev cls inst p1 p2 p3).pmc = s.pmc ∧ (s.raiseRec f sev cls inst p1 p2 p3).ring = s.ring ∧ (s.raiseRec f sev cls inst p1 p2 p3).strm = s.strm ∧ (s.raiseRec f sev cls inst p1 p2 p3).mbox = s.mbox ∧ (s.raiseRec f sev cls inst p1 p2 p3).pnv = s.pnv ∧ (s.raiseRec f sev cls inst p1 p2 p3).nvm = s.nvm ∧ (s.raiseRec f sev cls inst p1 p2 p3).srm = s.srm ∧ (s.raiseRec f sev cls inst p1 p2 p3).dbg = s.dbg ∧ (s.raiseRec f sev cls inst p1 p2 p3).i3c = s.i3c ∧ (s.raiseRec f sev cls inst p1 p2 p3).drawn = s.drawn := by
  have f1 := @State.raise_frame; have f2 := @State.report_frame
  simp [State.raiseRec, f1, f2]
theorem State.cfgErr_frame (s : State) (p : Nat) (cause : Nat) (source : Nat) (off : Nat) (value : Nat) : (s.cfgErr p cause source off value).pending = s.pending ∧ (s.cfgErr p cause source off value).variant = s.variant ∧ (s.cfgErr p cause source off value).latches = s.latches ∧ (s.cfgErr p cause source off value).resetting = s.resetting ∧ (s.cfgErr p cause source off value).clk = s.clk ∧ (s.cfgErr p cause source off value).med = s.med ∧ (s.cfgErr p cause source off value).roms = s.roms ∧ (s.cfgErr p cause source off value).dbg = s.dbg ∧ (s.cfgErr p cause source off value).i3c = s.i3c := by
  have f1 := @State.report_frame; have f2 := @State.setReg_frame
  simp [State.cfgErr, f1, f2]
theorem State.reportCode_frame (s : State) (sev : Nat) (code : Nat) (inst : Nat) (p1 : Nat) (p2 : Nat) (p3 : Nat) : (s.reportCode sev code inst p1 p2 p3).pending = s.pending ∧ (s.reportCode sev code inst p1 p2 p3).variant = s.variant ∧ (s.reportCode sev code inst p1 p2 p3).applied = s.applied ∧ (s.reportCode sev code inst p1 p2 p3).latches = s.latches ∧ (s.reportCode sev code inst p1 p2 p3).commits = s.commits ∧ (s.reportCode sev code inst p1 p2 p3).resetting = s.resetting ∧ (s.reportCode sev code inst p1 p2 p3).dev = s.dev ∧ (s.reportCode sev code inst p1 p2 p3).pwr = s.pwr ∧ (s.reportCode sev code inst p1 p2 p3).hk = s.hk ∧ (s.reportCode sev code inst p1 p2 p3).clk = s.clk ∧ (s.reportCode sev code inst p1 p2 p3).bw = s.bw ∧ (s.reportCode sev code inst p1 p2 p3).gang0 = s.gang0 ∧ (s.reportCode sev code inst p1 p2 p3).gang1 = s.gang1 ∧ (s.reportCode sev code inst p1 p2 p3).med = s.med ∧ (s.reportCode sev code inst p1 p2 p3).roms = s.roms ∧ (s.reportCode sev code inst p1 p2 p3).xlt = s.xlt ∧ (s.reportCode sev code inst p1 p2 p3).prot = s.prot ∧ (s.reportCode sev code inst p1 p2 p3).caches = s.caches ∧ (s.reportCode sev code inst p1 p2 p3).dram = s.dram ∧ (s.reportCode sev code inst p1 p2 p3).link = s.link ∧ (s.reportCode sev code inst p1 p2 p3).reads = s.reads ∧ (s.reportCode sev code inst p1 p2 p3).drift = s.drift ∧ (s.reportCode sev code inst p1 p2 p3).zl0 = s.zl0 ∧ (s.reportCode sev code inst p1 p2 p3).zl1 = s.zl1 ∧ (s.reportCode sev code inst p1 p2 p3).pmc = s.pmc ∧ (s.reportCode sev code inst p1 p2 p3).ring = s.ring ∧ (s.reportCode sev code inst p1 p2 p3).strm = s.strm ∧ (s.reportCode sev code inst p1 p2 p3).mbox = s.mbox ∧ (s.reportCode sev code inst p1 p2 p3).pnv = s.pnv ∧ (s.reportCode sev code inst p1 p2 p3).nvm = s.nvm ∧ (s.reportCode sev code inst p1 p2 p3).srm = s.srm ∧ (s.reportCode sev code inst p1 p2 p3).dbg = s.dbg ∧ (s.reportCode sev code inst p1 p2 p3).i3c = s.i3c ∧ (s.reportCode sev code inst p1 p2 p3).drawn = s.drawn := by
  have f1 := @State.report_frame
  simp [State.reportCode, f1]

end Sys2Proof.Machine
end

