-- ==== Sys2Proof/Laws/FramePnvStore.lean ====
section
/-! SUPPORT. Frames of the operations of Machine/PnvStore.lean: the fields of State that each leaves as they were. -/

set_option maxRecDepth 4000
set_option linter.unusedSimpArgs false

namespace Sys2Proof.Machine

theorem State.onPnv_frame (s : State) (f : Pnv → Pnv) : (s.onPnv f).pending = s.pending ∧ (s.onPnv f).variant = s.variant ∧ (s.onPnv f).applied = s.applied ∧ (s.onPnv f).latches = s.latches ∧ (s.onPnv f).commits = s.commits ∧ (s.onPnv f).resetting = s.resetting ∧ (s.onPnv f).dev = s.dev ∧ (s.onPnv f).pwr = s.pwr ∧ (s.onPnv f).hk = s.hk ∧ (s.onPnv f).clk = s.clk ∧ (s.onPnv f).bw = s.bw ∧ (s.onPnv f).gang0 = s.gang0 ∧ (s.onPnv f).gang1 = s.gang1 ∧ (s.onPnv f).med = s.med ∧ (s.onPnv f).roms = s.roms ∧ (s.onPnv f).xlt = s.xlt ∧ (s.onPnv f).prot = s.prot ∧ (s.onPnv f).caches = s.caches ∧ (s.onPnv f).dram = s.dram ∧ (s.onPnv f).link = s.link ∧ (s.onPnv f).reads = s.reads ∧ (s.onPnv f).drift = s.drift ∧ (s.onPnv f).zl0 = s.zl0 ∧ (s.onPnv f).zl1 = s.zl1 ∧ (s.onPnv f).ring = s.ring ∧ (s.onPnv f).strm = s.strm ∧ (s.onPnv f).mbox = s.mbox ∧ (s.onPnv f).nvm = s.nvm ∧ (s.onPnv f).srm = s.srm ∧ (s.onPnv f).dbg = s.dbg ∧ (s.onPnv f).i3c = s.i3c ∧ (s.onPnv f).drawn = s.drawn := by
  simp [State.onPnv]
theorem State.onNvm_frame (s : State) (f : Nvm → Nvm) : (s.onNvm f).pending = s.pending ∧ (s.onNvm f).variant = s.variant ∧ (s.onNvm f).applied = s.applied ∧ (s.onNvm f).latches = s.latches ∧ (s.onNvm f).commits = s.commits ∧ (s.onNvm f).resetting = s.resetting ∧ (s.onNvm f).dev = s.dev ∧ (s.onNvm f).pwr = s.pwr ∧ (s.onNvm f).hk = s.hk ∧ (s.onNvm f).clk = s.clk ∧ (s.onNvm f).bw = s.bw ∧ (s.onNvm f).gang0 = s.gang0 ∧ (s.onNvm f).gang1 = s.gang1 ∧ (s.onNvm f).med = s.med ∧ (s.onNvm f).roms = s.roms ∧ (s.onNvm f).xlt = s.xlt ∧ (s.onNvm f).prot = s.prot ∧ (s.onNvm f).caches = s.caches ∧ (s.onNvm f).dram = s.dram ∧ (s.onNvm f).link = s.link ∧ (s.onNvm f).reads = s.reads ∧ (s.onNvm f).drift = s.drift ∧ (s.onNvm f).zl0 = s.zl0 ∧ (s.onNvm f).zl1 = s.zl1 ∧ (s.onNvm f).ring = s.ring ∧ (s.onNvm f).strm = s.strm ∧ (s.onNvm f).mbox = s.mbox ∧ (s.onNvm f).srm = s.srm ∧ (s.onNvm f).dbg = s.dbg ∧ (s.onNvm f).i3c = s.i3c ∧ (s.onNvm f).drawn = s.drawn := by
  simp [State.onNvm]
theorem State.nvStart_frame (s : State) (o : Option PnvOp) (job : Option (Nat × NvPage)) : (s.nvStart o job).pending = s.pending ∧ (s.nvStart o job).variant = s.variant ∧ (s.nvStart o job).applied = s.applied ∧ (s.nvStart o job).latches = s.latches ∧ (s.nvStart o job).commits = s.commits ∧ (s.nvStart o job).resetting = s.resetting ∧ (s.nvStart o job).dev = s.dev ∧ (s.nvStart o job).pwr = s.pwr ∧ (s.nvStart o job).hk = s.hk ∧ (s.nvStart o job).clk = s.clk ∧ (s.nvStart o job).bw = s.bw ∧ (s.nvStart o job).gang0 = s.gang0 ∧ (s.nvStart o job).gang1 = s.gang1 ∧ (s.nvStart o job).med = s.med ∧ (s.nvStart o job).roms = s.roms ∧ (s.nvStart o job).xlt = s.xlt ∧ (s.nvStart o job).caches = s.caches ∧ (s.nvStart o job).dram = s.dram ∧ (s.nvStart o job).link = s.link ∧ (s.nvStart o job).reads = s.reads ∧ (s.nvStart o job).drift = s.drift ∧ (s.nvStart o job).zl0 = s.zl0 ∧ (s.nvStart o job).zl1 = s.zl1 ∧ (s.nvStart o job).ring = s.ring ∧ (s.nvStart o job).strm = s.strm ∧ (s.nvStart o job).mbox = s.mbox ∧ (s.nvStart o job).srm = s.srm ∧ (s.nvStart o job).dbg = s.dbg ∧ (s.nvStart o job).i3c = s.i3c := by
  have f1 := @State.onNvm_frame; have f2 := @State.onPnv_frame; have f3 := @State.setFlag_frame; have f4 := @State.setFld_frame
  dsimp only [State.nvStart]; (repeat' split) <;> simp [f1, f2, f3, f4]
theorem State.setNv_frame (s : State) (n : Nat) (x : NvPage) : (s.setNv n x).pending = s.pending ∧ (s.setNv n x).variant = s.variant ∧ (s.setNv n x).applied = s.applied ∧ (s.setNv n x).latches = s.latches ∧ (s.setNv n x).commits = s.commits ∧ (s.setNv n x).resetting = s.resetting ∧ (s.setNv n x).dev = s.dev ∧ (s.setNv n x).pwr = s.pwr ∧ (s.setNv n x).hk = s.hk ∧ (s.setNv n x).clk = s.clk ∧ (s.setNv n x).bw = s.bw ∧ (s.setNv n x).gang0 = s.gang0 ∧ (s.setNv n x).gang1 = s.gang1 ∧ (s.setNv n x).med = s.med ∧ (s.setNv n x).roms = s.roms ∧ (s.setNv n x).xlt = s.xlt ∧ (s.setNv n x).prot = s.prot ∧ (s.setNv n x).caches = s.caches ∧ (s.setNv n x).dram = s.dram ∧ (s.setNv n x).link = s.link ∧ (s.setNv n x).reads = s.reads ∧ (s.setNv n x).drift = s.drift ∧ (s.setNv n x).zl0 = s.zl0 ∧ (s.setNv n x).zl1 = s.zl1 ∧ (s.setNv n x).ring = s.ring ∧ (s.setNv n x).strm = s.strm ∧ (s.setNv n x).mbox = s.mbox ∧ (s.setNv n x).srm = s.srm ∧ (s.setNv n x).dbg = s.dbg ∧ (s.setNv n x).i3c = s.i3c ∧ (s.setNv n x).drawn = s.drawn := by
  have f1 := @State.onNvm_frame
  simp [State.setNv, f1]
theorem State.pnvWear_frame (s : State) (page : Nat) : (s.pnvWear page).pending = s.pending ∧ (s.pnvWear page).variant = s.variant ∧ (s.pnvWear page).applied = s.applied ∧ (s.pnvWear page).latches = s.latches ∧ (s.pnvWear page).commits = s.commits ∧ (s.pnvWear page).resetting = s.resetting ∧ (s.pnvWear page).dev = s.dev ∧ (s.pnvWear page).pwr = s.pwr ∧ (s.pnvWear page).hk = s.hk ∧ (s.pnvWear page).clk = s.clk ∧ (s.pnvWear page).bw = s.bw ∧ (s.pnvWear page).gang0 = s.gang0 ∧ (s.pnvWear page).gang1 = s.gang1 ∧ (s.pnvWear page).med = s.med ∧ (s.pnvWear page).roms = s.roms ∧ (s.pnvWear page).xlt = s.xlt ∧ (s.pnvWear page).prot = s.prot ∧ (s.pnvWear page).caches = s.caches ∧ (s.pnvWear page).dram = s.dram ∧ (s.pnvWear page).link = s.link ∧ (s.pnvWear page).reads = s.reads ∧ (s.pnvWear page).drift = s.drift ∧ (s.pnvWear page).zl0 = s.zl0 ∧ (s.pnvWear page).zl1 = s.zl1 ∧ (s.pnvWear page).ring = s.ring ∧ (s.pnvWear page).strm = s.strm ∧ (s.pnvWear page).mbox = s.mbox ∧ (s.pnvWear page).srm = s.srm ∧ (s.pnvWear page).dbg = s.dbg ∧ (s.pnvWear page).i3c = s.i3c ∧ (s.pnvWear page).drawn = s.drawn := by
  have f1 := @State.onPnv_frame; have f2 := @State.raise_frame; have f3 := @State.setFld_frame
  simp [State.pnvWear, f1, f2, f3]
theorem State.nvDone_frame (s : State) (n : Nat) (x : NvPage) : (s.nvDone n x).pending = s.pending ∧ (s.nvDone n x).variant = s.variant ∧ (s.nvDone n x).applied = s.applied ∧ (s.nvDone n x).latches = s.latches ∧ (s.nvDone n x).commits = s.commits ∧ (s.nvDone n x).resetting = s.resetting ∧ (s.nvDone n x).dev = s.dev ∧ (s.nvDone n x).pwr = s.pwr ∧ (s.nvDone n x).hk = s.hk ∧ (s.nvDone n x).clk = s.clk ∧ (s.nvDone n x).bw = s.bw ∧ (s.nvDone n x).gang0 = s.gang0 ∧ (s.nvDone n x).gang1 = s.gang1 ∧ (s.nvDone n x).med = s.med ∧ (s.nvDone n x).roms = s.roms ∧ (s.nvDone n x).xlt = s.xlt ∧ (s.nvDone n x).prot = s.prot ∧ (s.nvDone n x).caches = s.caches ∧ (s.nvDone n x).dram = s.dram ∧ (s.nvDone n x).link = s.link ∧ (s.nvDone n x).reads = s.reads ∧ (s.nvDone n x).drift = s.drift ∧ (s.nvDone n x).zl0 = s.zl0 ∧ (s.nvDone n x).zl1 = s.zl1 ∧ (s.nvDone n x).ring = s.ring ∧ (s.nvDone n x).strm = s.strm ∧ (s.nvDone n x).mbox = s.mbox ∧ (s.nvDone n x).srm = s.srm ∧ (s.nvDone n x).dbg = s.dbg ∧ (s.nvDone n x).i3c = s.i3c ∧ (s.nvDone n x).drawn = s.drawn := by
  have f1 := @State.bump_frame; have f2 := @State.moved_frame; have f3 := @State.pnvWear_frame; have f4 := @State.setNv_frame
  simp [State.nvDone, f1, f2, f3, f4]
theorem State.nvWrite_frame (s : State) (r : NvRec) : (s.nvWrite r).pending = s.pending ∧ (s.nvWrite r).variant = s.variant ∧ (s.nvWrite r).applied = s.applied ∧ (s.nvWrite r).latches = s.latches ∧ (s.nvWrite r).commits = s.commits ∧ (s.nvWrite r).resetting = s.resetting ∧ (s.nvWrite r).dev = s.dev ∧ (s.nvWrite r).pwr = s.pwr ∧ (s.nvWrite r).hk = s.hk ∧ (s.nvWrite r).clk = s.clk ∧ (s.nvWrite r).bw = s.bw ∧ (s.nvWrite r).gang0 = s.gang0 ∧ (s.nvWrite r).gang1 = s.gang1 ∧ (s.nvWrite r).med = s.med ∧ (s.nvWrite r).roms = s.roms ∧ (s.nvWrite r).xlt = s.xlt ∧ (s.nvWrite r).prot = s.prot ∧ (s.nvWrite r).caches = s.caches ∧ (s.nvWrite r).dram = s.dram ∧ (s.nvWrite r).link = s.link ∧ (s.nvWrite r).reads = s.reads ∧ (s.nvWrite r).drift = s.drift ∧ (s.nvWrite r).zl0 = s.zl0 ∧ (s.nvWrite r).zl1 = s.zl1 ∧ (s.nvWrite r).ring = s.ring ∧ (s.nvWrite r).strm = s.strm ∧ (s.nvWrite r).mbox = s.mbox ∧ (s.nvWrite r).srm = s.srm ∧ (s.nvWrite r).dbg = s.dbg ∧ (s.nvWrite r).i3c = s.i3c ∧ (s.nvWrite r).drawn = s.drawn := by
  have f1 := @State.nvDone_frame
  simp [State.nvWrite, f1]
theorem State.nvFlush_frame (s : State) : (s.nvFlush).pending = s.pending ∧ (s.nvFlush).variant = s.variant ∧ (s.nvFlush).applied = s.applied ∧ (s.nvFlush).latches = s.latches ∧ (s.nvFlush).commits = s.commits ∧ (s.nvFlush).resetting = s.resetting ∧ (s.nvFlush).dev = s.dev ∧ (s.nvFlush).pwr = s.pwr ∧ (s.nvFlush).hk = s.hk ∧ (s.nvFlush).clk = s.clk ∧ (s.nvFlush).bw = s.bw ∧ (s.nvFlush).gang0 = s.gang0 ∧ (s.nvFlush).gang1 = s.gang1 ∧ (s.nvFlush).med = s.med ∧ (s.nvFlush).roms = s.roms ∧ (s.nvFlush).xlt = s.xlt ∧ (s.nvFlush).caches = s.caches ∧ (s.nvFlush).dram = s.dram ∧ (s.nvFlush).link = s.link ∧ (s.nvFlush).reads = s.reads ∧ (s.nvFlush).drift = s.drift ∧ (s.nvFlush).zl0 = s.zl0 ∧ (s.nvFlush).zl1 = s.zl1 ∧ (s.nvFlush).ring = s.ring ∧ (s.nvFlush).strm = s.strm ∧ (s.nvFlush).mbox = s.mbox ∧ (s.nvFlush).srm = s.srm ∧ (s.nvFlush).dbg = s.dbg ∧ (s.nvFlush).i3c = s.i3c := by
  have f1 := @State.nvWrite_frame
  simp [State.nvFlush, f1]
theorem State.nvCut_frame (s : State) (vent : Bool) : (s.nvCut vent).pending = s.pending ∧ (s.nvCut vent).variant = s.variant ∧ (s.nvCut vent).latches = s.latches ∧ (s.nvCut vent).resetting = s.resetting ∧ (s.nvCut vent).med = s.med ∧ (s.nvCut vent).roms = s.roms ∧ (s.nvCut vent).dbg = s.dbg ∧ (s.nvCut vent).i3c = s.i3c := by
  have f1 := @State.draw_frame; have f2 := @State.nvDone_frame; have f3 := @State.nvStart_frame; have f4 := @State.pnvWear_frame; have f5 := @State.setNv_frame
  dsimp only [State.nvCut]; (repeat' split) <;> simp [f1, f2, f3, f4, f5]

end Sys2Proof.Machine
end

