-- ==== Sys2Proof/Laws/FrameDevState.lean ====
section
/-! SUPPORT. Frames of the operations of Machine/DevState.lean: the fields of State that each leaves as they were. -/

set_option maxRecDepth 4000
set_option linter.unusedSimpArgs false

namespace Sys2Proof.Machine

theorem State.rollbackUp_frame (s : State) : (s.rollbackUp).pending = s.pending ∧ (s.rollbackUp).variant = s.variant ∧ (s.rollbackUp).applied = s.applied ∧ (s.rollbackUp).latches = s.latches ∧ (s.rollbackUp).commits = s.commits ∧ (s.rollbackUp).resetting = s.resetting ∧ (s.rollbackUp).pwr = s.pwr ∧ (s.rollbackUp).hk = s.hk ∧ (s.rollbackUp).clk = s.clk ∧ (s.rollbackUp).bw = s.bw ∧ (s.rollbackUp).gang0 = s.gang0 ∧ (s.rollbackUp).gang1 = s.gang1 ∧ (s.rollbackUp).med = s.med ∧ (s.rollbackUp).roms = s.roms ∧ (s.rollbackUp).xlt = s.xlt ∧ (s.rollbackUp).prot = s.prot ∧ (s.rollbackUp).caches = s.caches ∧ (s.rollbackUp).dram = s.dram ∧ (s.rollbackUp).link = s.link ∧ (s.rollbackUp).reads = s.reads ∧ (s.rollbackUp).drift = s.drift ∧ (s.rollbackUp).zl0 = s.zl0 ∧ (s.rollbackUp).zl1 = s.zl1 ∧ (s.rollbackUp).ring = s.ring ∧ (s.rollbackUp).strm = s.strm ∧ (s.rollbackUp).mbox = s.mbox ∧ (s.rollbackUp).srm = s.srm ∧ (s.rollbackUp).dbg = s.dbg ∧ (s.rollbackUp).i3c = s.i3c ∧ (s.rollbackUp).drawn = s.drawn := by
  have f1 := @State.nvWrite_frame; have f2 := @State.onPnv_frame; have f3 := @State.raise_frame; have f4 := @State.setFld_frame
  simp [State.rollbackUp, f1, f2, f3, f4]
theorem State.toState_frame (s : State) (d : DevSt) : (s.toState d).pending = s.pending ∧ (s.toState d).variant = s.variant ∧ (s.toState d).applied = s.applied ∧ (s.toState d).latches = s.latches ∧ (s.toState d).commits = s.commits ∧ (s.toState d).resetting = s.resetting ∧ (s.toState d).pwr = s.pwr ∧ (s.toState d).hk = s.hk ∧ (s.toState d).clk = s.clk ∧ (s.toState d).bw = s.bw ∧ (s.toState d).gang0 = s.gang0 ∧ (s.toState d).gang1 = s.gang1 ∧ (s.toState d).med = s.med ∧ (s.toState d).roms = s.roms ∧ (s.toState d).xlt = s.xlt ∧ (s.toState d).prot = s.prot ∧ (s.toState d).caches = s.caches ∧ (s.toState d).dram = s.dram ∧ (s.toState d).link = s.link ∧ (s.toState d).reads = s.reads ∧ (s.toState d).drift = s.drift ∧ (s.toState d).zl0 = s.zl0 ∧ (s.toState d).zl1 = s.zl1 ∧ (s.toState d).ring = s.ring ∧ (s.toState d).strm = s.strm ∧ (s.toState d).mbox = s.mbox ∧ (s.toState d).srm = s.srm ∧ (s.toState d).dbg = s.dbg ∧ (s.toState d).i3c = s.i3c ∧ (s.toState d).drawn = s.drawn := by
  have f1 := @State.raise_frame; have f2 := @State.rollbackUp_frame
  simp [State.toState, f1, f2]

end Sys2Proof.Machine
end

