-- ==== Sys2Proof/Laws/FramePmc.lean ====
section
/-! SUPPORT. Frames of the operations of Machine/Pmc.lean: the fields of State that each leaves as they were. -/

set_option maxRecDepth 4000
set_option linter.unusedSimpArgs false

namespace Sys2Proof.Machine

theorem State.pcount_frame (s : State) (k : Nat) (n : Nat) : (s.pcount k n).pending = s.pending ∧ (s.pcount k n).variant = s.variant ∧ (s.pcount k n).applied = s.applied ∧ (s.pcount k n).latches = s.latches ∧ (s.pcount k n).commits = s.commits ∧ (s.pcount k n).resetting = s.resetting ∧ (s.pcount k n).dev = s.dev ∧ (s.pcount k n).pwr = s.pwr ∧ (s.pcount k n).hk = s.hk ∧ (s.pcount k n).clk = s.clk ∧ (s.pcount k n).bw = s.bw ∧ (s.pcount k n).gang0 = s.gang0 ∧ (s.pcount k n).gang1 = s.gang1 ∧ (s.pcount k n).med = s.med ∧ (s.pcount k n).roms = s.roms ∧ (s.pcount k n).xlt = s.xlt ∧ (s.pcount k n).tally = s.tally ∧ (s.pcount k n).prot = s.prot ∧ (s.pcount k n).caches = s.caches ∧ (s.pcount k n).dram = s.dram ∧ (s.pcount k n).link = s.link ∧ (s.pcount k n).reads = s.reads ∧ (s.pcount k n).drift = s.drift ∧ (s.pcount k n).zl0 = s.zl0 ∧ (s.pcount k n).zl1 = s.zl1 ∧ (s.pcount k n).ring = s.ring ∧ (s.pcount k n).strm = s.strm ∧ (s.pcount k n).mbox = s.mbox ∧ (s.pcount k n).pnv = s.pnv ∧ (s.pcount k n).nvm = s.nvm ∧ (s.pcount k n).srm = s.srm ∧ (s.pcount k n).dbg = s.dbg ∧ (s.pcount k n).i3c = s.i3c ∧ (s.pcount k n).drawn = s.drawn := by
  have f1 := @State.onPmc_frame; have f2 := @State.raise_frame; have f3 := @State.setFlag_frame
  simp [State.pcount, f1, f2, f3]
theorem State.ev_frame (s : State) (num : Nat) (dpa : Option Nat) (cls : Option Nat) (n : Nat) : (s.ev num dpa cls n).pending = s.pending ∧ (s.ev num dpa cls n).variant = s.variant ∧ (s.ev num dpa cls n).applied = s.applied ∧ (s.ev num dpa cls n).latches = s.latches ∧ (s.ev num dpa cls n).commits = s.commits ∧ (s.ev num dpa cls n).resetting = s.resetting ∧ (s.ev num dpa cls n).dev = s.dev ∧ (s.ev num dpa cls n).pwr = s.pwr ∧ (s.ev num dpa cls n).hk = s.hk ∧ (s.ev num dpa cls n).clk = s.clk ∧ (s.ev num dpa cls n).bw = s.bw ∧ (s.ev num dpa cls n).gang0 = s.gang0 ∧ (s.ev num dpa cls n).gang1 = s.gang1 ∧ (s.ev num dpa cls n).med = s.med ∧ (s.ev num dpa cls n).roms = s.roms ∧ (s.ev num dpa cls n).xlt = s.xlt ∧ (s.ev num dpa cls n).tally = s.tally ∧ (s.ev num dpa cls n).prot = s.prot ∧ (s.ev num dpa cls n).caches = s.caches ∧ (s.ev num dpa cls n).dram = s.dram ∧ (s.ev num dpa cls n).link = s.link ∧ (s.ev num dpa cls n).reads = s.reads ∧ (s.ev num dpa cls n).drift = s.drift ∧ (s.ev num dpa cls n).zl0 = s.zl0 ∧ (s.ev num dpa cls n).zl1 = s.zl1 ∧ (s.ev num dpa cls n).ring = s.ring ∧ (s.ev num dpa cls n).strm = s.strm ∧ (s.ev num dpa cls n).mbox = s.mbox ∧ (s.ev num dpa cls n).pnv = s.pnv ∧ (s.ev num dpa cls n).nvm = s.nvm ∧ (s.ev num dpa cls n).srm = s.srm ∧ (s.ev num dpa cls n).dbg = s.dbg ∧ (s.ev num dpa cls n).i3c = s.i3c ∧ (s.ev num dpa cls n).drawn = s.drawn := by
  have f1 := @State.pcount_frame
  simp [State.ev, f1]
theorem State.windowEnd_frame (s : State) : (s.windowEnd).pending = s.pending ∧ (s.windowEnd).variant = s.variant ∧ (s.windowEnd).applied = s.applied ∧ (s.windowEnd).latches = s.latches ∧ (s.windowEnd).commits = s.commits ∧ (s.windowEnd).resetting = s.resetting ∧ (s.windowEnd).dev = s.dev ∧ (s.windowEnd).pwr = s.pwr ∧ (s.windowEnd).hk = s.hk ∧ (s.windowEnd).clk = s.clk ∧ (s.windowEnd).gang0 = s.gang0 ∧ (s.windowEnd).gang1 = s.gang1 ∧ (s.windowEnd).med = s.med ∧ (s.windowEnd).roms = s.roms ∧ (s.windowEnd).xlt = s.xlt ∧ (s.windowEnd).tally = s.tally ∧ (s.windowEnd).prot = s.prot ∧ (s.windowEnd).caches = s.caches ∧ (s.windowEnd).dram = s.dram ∧ (s.windowEnd).reads = s.reads ∧ (s.windowEnd).drift = s.drift ∧ (s.windowEnd).zl0 = s.zl0 ∧ (s.windowEnd).zl1 = s.zl1 ∧ (s.windowEnd).ring = s.ring ∧ (s.windowEnd).strm = s.strm ∧ (s.windowEnd).mbox = s.mbox ∧ (s.windowEnd).pnv = s.pnv ∧ (s.windowEnd).nvm = s.nvm ∧ (s.windowEnd).srm = s.srm ∧ (s.windowEnd).dbg = s.dbg ∧ (s.windowEnd).i3c = s.i3c := by
  have f1 := @State.bump_frame; have f2 := @State.onPmc_frame; have f3 := @State.raise_frame; have f4 := @State.setFld_frame
  simp [State.windowEnd, f1, f2, f3, f4]
theorem State.settle_frame (s : State) : (s.settle).pending = s.pending ∧ (s.settle).variant = s.variant ∧ (s.settle).applied = s.applied ∧ (s.settle).latches = s.latches ∧ (s.settle).commits = s.commits ∧ (s.settle).resetting = s.resetting ∧ (s.settle).dev = s.dev ∧ (s.settle).pwr = s.pwr ∧ (s.settle).hk = s.hk ∧ (s.settle).clk = s.clk ∧ (s.settle).bw = s.bw ∧ (s.settle).gang0 = s.gang0 ∧ (s.settle).gang1 = s.gang1 ∧ (s.settle).med = s.med ∧ (s.settle).roms = s.roms ∧ (s.settle).xlt = s.xlt ∧ (s.settle).tally = s.tally ∧ (s.settle).prot = s.prot ∧ (s.settle).caches = s.caches ∧ (s.settle).dram = s.dram ∧ (s.settle).reads = s.reads ∧ (s.settle).drift = s.drift ∧ (s.settle).zl0 = s.zl0 ∧ (s.settle).zl1 = s.zl1 ∧ (s.settle).ring = s.ring ∧ (s.settle).strm = s.strm ∧ (s.settle).mbox = s.mbox ∧ (s.settle).pnv = s.pnv ∧ (s.settle).nvm = s.nvm ∧ (s.settle).srm = s.srm ∧ (s.settle).dbg = s.dbg ∧ (s.settle).i3c = s.i3c ∧ (s.settle).drawn = s.drawn := by
  have f1 := @State.ev_frame; have f2 := @State.onPmc_frame
  simp [State.settle, f1, f2]

end Sys2Proof.Machine
end

