-- ==== Sys2Proof/Laws/FrameBell.lean ====
section
/-! SUPPORT. Frames of the operations of Machine/Bell.lean: the fields of State that each leaves as they were. -/

set_option maxRecDepth 4000
set_option linter.unusedSimpArgs false

namespace Sys2Proof.Machine

theorem State.applyLat_frame (s : State) : (s.applyLat).pending = s.pending ∧ (s.applyLat).variant = s.variant ∧ (s.applyLat).latches = s.latches ∧ (s.applyLat).resetting = s.resetting ∧ (s.applyLat).med = s.med ∧ (s.applyLat).roms = s.roms ∧ (s.applyLat).dbg = s.dbg ∧ (s.applyLat).i3c = s.i3c := by
  have f1 := @State.raise_frame; have f2 := @State.setFlag_frame; have f3 := @State.setFld_frame
  simp [State.applyLat, f1, f2, f3]
theorem State.checkHold_frame (s : State) : (s.checkHold).pending = s.pending ∧ (s.checkHold).variant = s.variant ∧ (s.checkHold).applied = s.applied ∧ (s.checkHold).latches = s.latches ∧ (s.checkHold).commits = s.commits ∧ (s.checkHold).resetting = s.resetting ∧ (s.checkHold).dev = s.dev ∧ (s.checkHold).pwr = s.pwr ∧ (s.checkHold).hk = s.hk ∧ (s.checkHold).clk = s.clk ∧ (s.checkHold).gang0 = s.gang0 ∧ (s.checkHold).gang1 = s.gang1 ∧ (s.checkHold).med = s.med ∧ (s.checkHold).roms = s.roms ∧ (s.checkHold).prot = s.prot ∧ (s.checkHold).drift = s.drift ∧ (s.checkHold).zl0 = s.zl0 ∧ (s.checkHold).zl1 = s.zl1 ∧ (s.checkHold).mbox = s.mbox ∧ (s.checkHold).nvm = s.nvm ∧ (s.checkHold).srm = s.srm ∧ (s.checkHold).dbg = s.dbg ∧ (s.checkHold).i3c = s.i3c ∧ (s.checkHold).drawn = s.drawn := by
  have f1 := @State.bump_frame; have f2 := @State.raise_frame; have f3 := @State.setFlag_frame
  simp [State.checkHold, f1, f2, f3]
theorem State.takeLine_frame (s : State) : (s.takeLine).pending = s.pending ∧ (s.takeLine).variant = s.variant ∧ (s.takeLine).applied = s.applied ∧ (s.takeLine).latches = s.latches ∧ (s.takeLine).commits = s.commits ∧ (s.takeLine).resetting = s.resetting ∧ (s.takeLine).dev = s.dev ∧ (s.takeLine).pwr = s.pwr ∧ (s.takeLine).hk = s.hk ∧ (s.takeLine).clk = s.clk ∧ (s.takeLine).gang0 = s.gang0 ∧ (s.takeLine).gang1 = s.gang1 ∧ (s.takeLine).med = s.med ∧ (s.takeLine).roms = s.roms ∧ (s.takeLine).prot = s.prot ∧ (s.takeLine).drift = s.drift ∧ (s.takeLine).zl0 = s.zl0 ∧ (s.takeLine).zl1 = s.zl1 ∧ (s.takeLine).mbox = s.mbox ∧ (s.takeLine).nvm = s.nvm ∧ (s.takeLine).srm = s.srm ∧ (s.takeLine).dbg = s.dbg ∧ (s.takeLine).i3c = s.i3c ∧ (s.takeLine).drawn = s.drawn := by
  have f1 := @State.checkHold_frame; have f2 := @State.setFld_frame
  simp [State.takeLine, f1, f2]
theorem State.settleHeldTo_frame (s : State) (e : Nat) : (s.settleHeldTo e).pending = s.pending ∧ (s.settleHeldTo e).variant = s.variant ∧ (s.settleHeldTo e).applied = s.applied ∧ (s.settleHeldTo e).latches = s.latches ∧ (s.settleHeldTo e).commits = s.commits ∧ (s.settleHeldTo e).resetting = s.resetting ∧ (s.settleHeldTo e).dev = s.dev ∧ (s.settleHeldTo e).pwr = s.pwr ∧ (s.settleHeldTo e).hk = s.hk ∧ (s.settleHeldTo e).clk = s.clk ∧ (s.settleHeldTo e).gang0 = s.gang0 ∧ (s.settleHeldTo e).gang1 = s.gang1 ∧ (s.settleHeldTo e).med = s.med ∧ (s.settleHeldTo e).roms = s.roms ∧ (s.settleHeldTo e).xlt = s.xlt ∧ (s.settleHeldTo e).tally = s.tally ∧ (s.settleHeldTo e).prot = s.prot ∧ (s.settleHeldTo e).caches = s.caches ∧ (s.settleHeldTo e).dram = s.dram ∧ (s.settleHeldTo e).reads = s.reads ∧ (s.settleHeldTo e).drift = s.drift ∧ (s.settleHeldTo e).zl0 = s.zl0 ∧ (s.settleHeldTo e).zl1 = s.zl1 ∧ (s.settleHeldTo e).ring = s.ring ∧ (s.settleHeldTo e).strm = s.strm ∧ (s.settleHeldTo e).mbox = s.mbox ∧ (s.settleHeldTo e).pnv = s.pnv ∧ (s.settleHeldTo e).nvm = s.nvm ∧ (s.settleHeldTo e).srm = s.srm ∧ (s.settleHeldTo e).dbg = s.dbg ∧ (s.settleHeldTo e).i3c = s.i3c := by
  have f1 := @State.bump48_frame; have f2 := @State.ev_frame
  simp [State.settleHeldTo, f1, f2]
theorem State.settleHeld_frame (s : State) : (s.settleHeld).pending = s.pending ∧ (s.settleHeld).variant = s.variant ∧ (s.settleHeld).latches = s.latches ∧ (s.settleHeld).resetting = s.resetting ∧ (s.settleHeld).med = s.med ∧ (s.settleHeld).roms = s.roms ∧ (s.settleHeld).dbg = s.dbg ∧ (s.settleHeld).i3c = s.i3c := by
  have f1 := @State.settleHeldTo_frame
  simp [State.settleHeld, f1]
theorem State.bellCmp_frame (s : State) : (s.bellCmp).pending = s.pending ∧ (s.bellCmp).variant = s.variant ∧ (s.bellCmp).latches = s.latches ∧ (s.bellCmp).resetting = s.resetting ∧ (s.bellCmp).med = s.med ∧ (s.bellCmp).roms = s.roms ∧ (s.bellCmp).dbg = s.dbg ∧ (s.bellCmp).i3c = s.i3c := by
  have f1 := @State.raise_frame
  simp [State.bellCmp, f1]
theorem State.refill_frame (s : State) : (s.refill).pending = s.pending ∧ (s.refill).variant = s.variant ∧ (s.refill).latches = s.latches ∧ (s.refill).resetting = s.resetting ∧ (s.refill).med = s.med ∧ (s.refill).roms = s.roms ∧ (s.refill).dbg = s.dbg ∧ (s.refill).i3c = s.i3c := by
  have f1 := @State.bump_frame; have f2 := @State.checkHold_frame; have f3 := @State.setFlag_frame; have f4 := @State.setFld_frame
  simp [State.refill, f1, f2, f3, f4]
theorem State.postLat_frame (s : State) (cap : Option Nat) (level : Option Nat) : (s.postLat cap level).pending = s.pending ∧ (s.postLat cap level).variant = s.variant ∧ (s.postLat cap level).latches = s.latches ∧ (s.postLat cap level).resetting = s.resetting ∧ (s.postLat cap level).clk = s.clk ∧ (s.postLat cap level).med = s.med ∧ (s.postLat cap level).roms = s.roms ∧ (s.postLat cap level).dbg = s.dbg ∧ (s.postLat cap level).i3c = s.i3c := by
  have f1 := @State.raise_frame; have f2 := @State.setFlag_frame; have f3 := @State.setFld_frame
  simp [State.postLat, f1, f2, f3]
theorem State.fsCapture_frame (s : State) (clk : Nat) : (s.fsCapture clk).pending = s.pending ∧ (s.fsCapture clk).variant = s.variant ∧ (s.fsCapture clk).applied = s.applied ∧ (s.fsCapture clk).commits = s.commits ∧ (s.fsCapture clk).resetting = s.resetting ∧ (s.fsCapture clk).dev = s.dev ∧ (s.fsCapture clk).pwr = s.pwr ∧ (s.fsCapture clk).hk = s.hk ∧ (s.fsCapture clk).clk = s.clk ∧ (s.fsCapture clk).gang0 = s.gang0 ∧ (s.fsCapture clk).gang1 = s.gang1 ∧ (s.fsCapture clk).med = s.med ∧ (s.fsCapture clk).roms = s.roms ∧ (s.fsCapture clk).xlt = s.xlt ∧ (s.fsCapture clk).tally = s.tally ∧ (s.fsCapture clk).prot = s.prot ∧ (s.fsCapture clk).caches = s.caches ∧ (s.fsCapture clk).dram = s.dram ∧ (s.fsCapture clk).reads = s.reads ∧ (s.fsCapture clk).drift = s.drift ∧ (s.fsCapture clk).zl0 = s.zl0 ∧ (s.fsCapture clk).zl1 = s.zl1 ∧ (s.fsCapture clk).ring = s.ring ∧ (s.fsCapture clk).strm = s.strm ∧ (s.fsCapture clk).mbox = s.mbox ∧ (s.fsCapture clk).pnv = s.pnv ∧ (s.fsCapture clk).nvm = s.nvm ∧ (s.fsCapture clk).srm = s.srm := by
  have f1 := @State.bump_frame; have f2 := @State.setFld_frame
  simp [State.fsCapture, f1, f2]
theorem State.latch_frame (s : State) (src : Source) (addr : Nat) (v : Nat) : (s.latch src addr v).pending = s.pending ∧ (s.latch src addr v).variant = s.variant ∧ (s.latch src addr v).regs = s.regs ∧ (s.latch src addr v).applied = s.applied ∧ (s.latch src addr v).commits = s.commits ∧ (s.latch src addr v).resetting = s.resetting ∧ (s.latch src addr v).dev = s.dev ∧ (s.latch src addr v).pwr = s.pwr ∧ (s.latch src addr v).hk = s.hk ∧ (s.latch src addr v).clk = s.clk ∧ (s.latch src addr v).bw = s.bw ∧ (s.latch src addr v).gang0 = s.gang0 ∧ (s.latch src addr v).gang1 = s.gang1 ∧ (s.latch src addr v).med = s.med ∧ (s.latch src addr v).roms = s.roms ∧ (s.latch src addr v).xlt = s.xlt ∧ (s.latch src addr v).tally = s.tally ∧ (s.latch src addr v).prot = s.prot ∧ (s.latch src addr v).caches = s.caches ∧ (s.latch src addr v).dram = s.dram ∧ (s.latch src addr v).link = s.link ∧ (s.latch src addr v).reads = s.reads ∧ (s.latch src addr v).drift = s.drift ∧ (s.latch src addr v).zl0 = s.zl0 ∧ (s.latch src addr v).zl1 = s.zl1 ∧ (s.latch src addr v).pmc = s.pmc ∧ (s.latch src addr v).ring = s.ring ∧ (s.latch src addr v).strm = s.strm ∧ (s.latch src addr v).mbox = s.mbox ∧ (s.latch src addr v).pnv = s.pnv ∧ (s.latch src addr v).nvm = s.nvm ∧ (s.latch src addr v).srm = s.srm ∧ (s.latch src addr v).dbg = s.dbg ∧ (s.latch src addr v).i3c = s.i3c := by
  simp [State.latch]

end Sys2Proof.Machine
end

