-- ==== Sys2Proof/Laws/FrameTranslate.lean ====
section
/-! SUPPORT. Frames of the operations of Machine/Translate.lean: the fields of State that each leaves as they were. -/

set_option maxRecDepth 4000
set_option linter.unusedSimpArgs false

namespace Sys2Proof.Machine

theorem State.onXlt_frame (s : State) (f : Xlt → Xlt) : (s.onXlt f).pending = s.pending ∧ (s.onXlt f).variant = s.variant ∧ (s.onXlt f).applied = s.applied ∧ (s.onXlt f).latches = s.latches ∧ (s.onXlt f).commits = s.commits ∧ (s.onXlt f).resetting = s.resetting ∧ (s.onXlt f).dev = s.dev ∧ (s.onXlt f).pwr = s.pwr ∧ (s.onXlt f).hk = s.hk ∧ (s.onXlt f).clk = s.clk ∧ (s.onXlt f).bw = s.bw ∧ (s.onXlt f).gang0 = s.gang0 ∧ (s.onXlt f).gang1 = s.gang1 ∧ (s.onXlt f).med = s.med ∧ (s.onXlt f).roms = s.roms ∧ (s.onXlt f).prot = s.prot ∧ (s.onXlt f).caches = s.caches ∧ (s.onXlt f).dram = s.dram ∧ (s.onXlt f).link = s.link ∧ (s.onXlt f).reads = s.reads ∧ (s.onXlt f).drift = s.drift ∧ (s.onXlt f).zl0 = s.zl0 ∧ (s.onXlt f).zl1 = s.zl1 ∧ (s.onXlt f).ring = s.ring ∧ (s.onXlt f).strm = s.strm ∧ (s.onXlt f).mbox = s.mbox ∧ (s.onXlt f).pnv = s.pnv ∧ (s.onXlt f).nvm = s.nvm ∧ (s.onXlt f).srm = s.srm ∧ (s.onXlt f).dbg = s.dbg ∧ (s.onXlt f).i3c = s.i3c ∧ (s.onXlt f).drawn = s.drawn := by
  simp [State.onXlt]
theorem State.journalHigh_frame (s : State) : (s.journalHigh).pending = s.pending ∧ (s.journalHigh).variant = s.variant ∧ (s.journalHigh).applied = s.applied ∧ (s.journalHigh).latches = s.latches ∧ (s.journalHigh).commits = s.commits ∧ (s.journalHigh).resetting = s.resetting ∧ (s.journalHigh).dev = s.dev ∧ (s.journalHigh).pwr = s.pwr ∧ (s.journalHigh).hk = s.hk ∧ (s.journalHigh).clk = s.clk ∧ (s.journalHigh).bw = s.bw ∧ (s.journalHigh).gang0 = s.gang0 ∧ (s.journalHigh).gang1 = s.gang1 ∧ (s.journalHigh).med = s.med ∧ (s.journalHigh).roms = s.roms ∧ (s.journalHigh).caches = s.caches ∧ (s.journalHigh).dram = s.dram ∧ (s.journalHigh).link = s.link ∧ (s.journalHigh).reads = s.reads ∧ (s.journalHigh).zl0 = s.zl0 ∧ (s.journalHigh).zl1 = s.zl1 ∧ (s.journalHigh).ring = s.ring ∧ (s.journalHigh).mbox = s.mbox ∧ (s.journalHigh).dbg = s.dbg ∧ (s.journalHigh).i3c = s.i3c ∧ (s.journalHigh).drawn = s.drawn := by
  have f1 := @State.raise_frame
  simp [State.journalHigh, f1]
theorem State.journal_frame (s : State) (r : JRec) : (s.journal r).pending = s.pending ∧ (s.journal r).variant = s.variant ∧ (s.journal r).applied = s.applied ∧ (s.journal r).latches = s.latches ∧ (s.journal r).commits = s.commits ∧ (s.journal r).resetting = s.resetting ∧ (s.journal r).dev = s.dev ∧ (s.journal r).pwr = s.pwr ∧ (s.journal r).hk = s.hk ∧ (s.journal r).clk = s.clk ∧ (s.journal r).bw = s.bw ∧ (s.journal r).gang0 = s.gang0 ∧ (s.journal r).gang1 = s.gang1 ∧ (s.journal r).med = s.med ∧ (s.journal r).roms = s.roms ∧ (s.journal r).caches = s.caches ∧ (s.journal r).dram = s.dram ∧ (s.journal r).link = s.link ∧ (s.journal r).reads = s.reads ∧ (s.journal r).zl0 = s.zl0 ∧ (s.journal r).zl1 = s.zl1 ∧ (s.journal r).ring = s.ring ∧ (s.journal r).mbox = s.mbox ∧ (s.journal r).dbg = s.dbg ∧ (s.journal r).i3c = s.i3c ∧ (s.journal r).drawn = s.drawn := by
  have f1 := @State.journalHigh_frame; have f2 := @State.onXlt_frame
  simp only [State.journal, State.journal.newBlock]; (repeat' split) <;> simp [f1, f2]
theorem State.setBand_frame (s : State) (g : Nat) (b : Nat) (x : Band) : (s.setBand g b x).pending = s.pending ∧ (s.setBand g b x).variant = s.variant ∧ (s.setBand g b x).applied = s.applied ∧ (s.setBand g b x).latches = s.latches ∧ (s.setBand g b x).commits = s.commits ∧ (s.setBand g b x).resetting = s.resetting ∧ (s.setBand g b x).pwr = s.pwr ∧ (s.setBand g b x).hk = s.hk ∧ (s.setBand g b x).clk = s.clk ∧ (s.setBand g b x).bw = s.bw ∧ (s.setBand g b x).med = s.med ∧ (s.setBand g b x).roms = s.roms ∧ (s.setBand g b x).caches = s.caches ∧ (s.setBand g b x).zl0 = s.zl0 ∧ (s.setBand g b x).zl1 = s.zl1 ∧ (s.setBand g b x).ring = s.ring ∧ (s.setBand g b x).mbox = s.mbox ∧ (s.setBand g b x).dbg = s.dbg ∧ (s.setBand g b x).i3c = s.i3c ∧ (s.setBand g b x).drawn = s.drawn := by
  have f1 := @State.onXlt_frame
  simp [State.setBand, f1]
theorem State.releaseBand_frame (s : State) (g : Nat) (b : Nat) : (s.releaseBand g b).pending = s.pending ∧ (s.releaseBand g b).variant = s.variant ∧ (s.releaseBand g b).applied = s.applied ∧ (s.releaseBand g b).latches = s.latches ∧ (s.releaseBand g b).commits = s.commits ∧ (s.releaseBand g b).resetting = s.resetting ∧ (s.releaseBand g b).pwr = s.pwr ∧ (s.releaseBand g b).hk = s.hk ∧ (s.releaseBand g b).clk = s.clk ∧ (s.releaseBand g b).bw = s.bw ∧ (s.releaseBand g b).med = s.med ∧ (s.releaseBand g b).roms = s.roms ∧ (s.releaseBand g b).caches = s.caches ∧ (s.releaseBand g b).zl0 = s.zl0 ∧ (s.releaseBand g b).zl1 = s.zl1 ∧ (s.releaseBand g b).ring = s.ring ∧ (s.releaseBand g b).mbox = s.mbox ∧ (s.releaseBand g b).dbg = s.dbg ∧ (s.releaseBand g b).i3c = s.i3c ∧ (s.releaseBand g b).drawn = s.drawn := by
  have f1 := @State.journal_frame; have f2 := @State.onGang_frame; have f3 := @State.onXlt_frame; have f4 := @State.setBand_frame
  simp [State.releaseBand, f1, f2, f3, f4]
theorem State.releaseEmpty_frame (s : State) (g : Nat) (b : Nat) : (s.releaseEmpty g b).pending = s.pending ∧ (s.releaseEmpty g b).variant = s.variant ∧ (s.releaseEmpty g b).applied = s.applied ∧ (s.releaseEmpty g b).latches = s.latches ∧ (s.releaseEmpty g b).commits = s.commits ∧ (s.releaseEmpty g b).resetting = s.resetting ∧ (s.releaseEmpty g b).pwr = s.pwr ∧ (s.releaseEmpty g b).hk = s.hk ∧ (s.releaseEmpty g b).clk = s.clk ∧ (s.releaseEmpty g b).bw = s.bw ∧ (s.releaseEmpty g b).med = s.med ∧ (s.releaseEmpty g b).roms = s.roms ∧ (s.releaseEmpty g b).caches = s.caches ∧ (s.releaseEmpty g b).zl0 = s.zl0 ∧ (s.releaseEmpty g b).zl1 = s.zl1 ∧ (s.releaseEmpty g b).ring = s.ring ∧ (s.releaseEmpty g b).mbox = s.mbox ∧ (s.releaseEmpty g b).dbg = s.dbg ∧ (s.releaseEmpty g b).i3c = s.i3c ∧ (s.releaseEmpty g b).drawn = s.drawn := by
  have f1 := @State.releaseBand_frame
  simp [State.releaseEmpty, f1]
theorem State.setRev_frame (s : State) (psa : Nat) (e : RevE) : (s.setRev psa e).pending = s.pending ∧ (s.setRev psa e).variant = s.variant ∧ (s.setRev psa e).applied = s.applied ∧ (s.setRev psa e).latches = s.latches ∧ (s.setRev psa e).commits = s.commits ∧ (s.setRev psa e).resetting = s.resetting ∧ (s.setRev psa e).pwr = s.pwr ∧ (s.setRev psa e).hk = s.hk ∧ (s.setRev psa e).clk = s.clk ∧ (s.setRev psa e).bw = s.bw ∧ (s.setRev psa e).med = s.med ∧ (s.setRev psa e).roms = s.roms ∧ (s.setRev psa e).caches = s.caches ∧ (s.setRev psa e).zl0 = s.zl0 ∧ (s.setRev psa e).zl1 = s.zl1 ∧ (s.setRev psa e).ring = s.ring ∧ (s.setRev psa e).mbox = s.mbox ∧ (s.setRev psa e).dbg = s.dbg ∧ (s.setRev psa e).i3c = s.i3c ∧ (s.setRev psa e).drawn = s.drawn := by
  have f1 := @State.onXlt_frame; have f2 := @State.releaseEmpty_frame; have f3 := @State.setBand_frame
  simp [State.setRev, f1, f2, f3]
theorem State.staleOld_frame (s : State) (e : MapE) : (s.staleOld e).pending = s.pending ∧ (s.staleOld e).variant = s.variant ∧ (s.staleOld e).applied = s.applied ∧ (s.staleOld e).latches = s.latches ∧ (s.staleOld e).commits = s.commits ∧ (s.staleOld e).resetting = s.resetting ∧ (s.staleOld e).pwr = s.pwr ∧ (s.staleOld e).hk = s.hk ∧ (s.staleOld e).clk = s.clk ∧ (s.staleOld e).bw = s.bw ∧ (s.staleOld e).med = s.med ∧ (s.staleOld e).roms = s.roms ∧ (s.staleOld e).caches = s.caches ∧ (s.staleOld e).zl0 = s.zl0 ∧ (s.staleOld e).zl1 = s.zl1 ∧ (s.staleOld e).ring = s.ring ∧ (s.staleOld e).mbox = s.mbox ∧ (s.staleOld e).dbg = s.dbg ∧ (s.staleOld e).i3c = s.i3c ∧ (s.staleOld e).drawn = s.drawn := by
  have f1 := @State.setRev_frame
  dsimp only [State.staleOld]; (repeat' split) <;> simp [f1]
theorem State.dropBuilds_frame (s : State) (p : Built → Bool) : (s.dropBuilds p).pending = s.pending ∧ (s.dropBuilds p).variant = s.variant ∧ (s.dropBuilds p).applied = s.applied ∧ (s.dropBuilds p).latches = s.latches ∧ (s.dropBuilds p).commits = s.commits ∧ (s.dropBuilds p).resetting = s.resetting ∧ (s.dropBuilds p).pwr = s.pwr ∧ (s.dropBuilds p).hk = s.hk ∧ (s.dropBuilds p).clk = s.clk ∧ (s.dropBuilds p).bw = s.bw ∧ (s.dropBuilds p).med = s.med ∧ (s.dropBuilds p).roms = s.roms ∧ (s.dropBuilds p).caches = s.caches ∧ (s.dropBuilds p).zl0 = s.zl0 ∧ (s.dropBuilds p).zl1 = s.zl1 ∧ (s.dropBuilds p).ring = s.ring ∧ (s.dropBuilds p).mbox = s.mbox ∧ (s.dropBuilds p).dbg = s.dbg ∧ (s.dropBuilds p).i3c = s.i3c ∧ (s.dropBuilds p).drawn = s.drawn := by
  have f1 := @State.onGang_frame; have f2 := @State.onXlt_frame
  simp [State.dropBuilds, f1, f2]
theorem State.addRebuild_frame (s : State) (g : Nat) (p : Nat) (pos : Option Nat) (row : Nat) (rows : List Nat) (frags : List Nat) : (s.addRebuild g p pos row rows frags).pending = s.pending ∧ (s.addRebuild g p pos row rows frags).variant = s.variant ∧ (s.addRebuild g p pos row rows frags).applied = s.applied ∧ (s.addRebuild g p pos row rows frags).latches = s.latches ∧ (s.addRebuild g p pos row rows frags).commits = s.commits ∧ (s.addRebuild g p pos row rows frags).resetting = s.resetting ∧ (s.addRebuild g p pos row rows frags).dev = s.dev ∧ (s.addRebuild g p pos row rows frags).pwr = s.pwr ∧ (s.addRebuild g p pos row rows frags).hk = s.hk ∧ (s.addRebuild g p pos row rows frags).clk = s.clk ∧ (s.addRebuild g p pos row rows frags).bw = s.bw ∧ (s.addRebuild g p pos row rows frags).med = s.med ∧ (s.addRebuild g p pos row rows frags).roms = s.roms ∧ (s.addRebuild g p pos row rows frags).prot = s.prot ∧ (s.addRebuild g p pos row rows frags).caches = s.caches ∧ (s.addRebuild g p pos row rows frags).dram = s.dram ∧ (s.addRebuild g p pos row rows frags).link = s.link ∧ (s.addRebuild g p pos row rows frags).reads = s.reads ∧ (s.addRebuild g p pos row rows frags).drift = s.drift ∧ (s.addRebuild g p pos row rows frags).zl0 = s.zl0 ∧ (s.addRebuild g p pos row rows frags).zl1 = s.zl1 ∧ (s.addRebuild g p pos row rows frags).ring = s.ring ∧ (s.addRebuild g p pos row rows frags).strm = s.strm ∧ (s.addRebuild g p pos row rows frags).mbox = s.mbox ∧ (s.addRebuild g p pos row rows frags).pnv = s.pnv ∧ (s.addRebuild g p pos row rows frags).nvm = s.nvm ∧ (s.addRebuild g p pos row rows frags).srm = s.srm ∧ (s.addRebuild g p pos row rows frags).dbg = s.dbg ∧ (s.addRebuild g p pos row rows frags).i3c = s.i3c ∧ (s.addRebuild g p pos row rows frags).drawn = s.drawn := by
  have f1 := @State.onXlt_frame
  simp [State.addRebuild, f1]
theorem State.setPad_frame (s : State) (g : Nat) (p : Nat) (x : Pad) : (s.setPad g p x).pending = s.pending ∧ (s.setPad g p x).variant = s.variant ∧ (s.setPad g p x).applied = s.applied ∧ (s.setPad g p x).latches = s.latches ∧ (s.setPad g p x).commits = s.commits ∧ (s.setPad g p x).resetting = s.resetting ∧ (s.setPad g p x).pwr = s.pwr ∧ (s.setPad g p x).hk = s.hk ∧ (s.setPad g p x).clk = s.clk ∧ (s.setPad g p x).bw = s.bw ∧ (s.setPad g p x).med = s.med ∧ (s.setPad g p x).roms = s.roms ∧ (s.setPad g p x).caches = s.caches ∧ (s.setPad g p x).zl0 = s.zl0 ∧ (s.setPad g p x).zl1 = s.zl1 ∧ (s.setPad g p x).ring = s.ring ∧ (s.setPad g p x).mbox = s.mbox ∧ (s.setPad g p x).dbg = s.dbg ∧ (s.setPad g p x).i3c = s.i3c ∧ (s.setPad g p x).drawn = s.drawn := by
  have f1 := @State.onXlt_frame
  simp [State.setPad, f1]
theorem State.takeBand_frame (s : State) (g : Nat) (b : Nat) (tlc : Bool) : (s.takeBand g b tlc).pending = s.pending ∧ (s.takeBand g b tlc).variant = s.variant ∧ (s.takeBand g b tlc).applied = s.applied ∧ (s.takeBand g b tlc).latches = s.latches ∧ (s.takeBand g b tlc).commits = s.commits ∧ (s.takeBand g b tlc).resetting = s.resetting ∧ (s.takeBand g b tlc).pwr = s.pwr ∧ (s.takeBand g b tlc).hk = s.hk ∧ (s.takeBand g b tlc).clk = s.clk ∧ (s.takeBand g b tlc).bw = s.bw ∧ (s.takeBand g b tlc).med = s.med ∧ (s.takeBand g b tlc).roms = s.roms ∧ (s.takeBand g b tlc).caches = s.caches ∧ (s.takeBand g b tlc).zl0 = s.zl0 ∧ (s.takeBand g b tlc).zl1 = s.zl1 ∧ (s.takeBand g b tlc).ring = s.ring ∧ (s.takeBand g b tlc).mbox = s.mbox ∧ (s.takeBand g b tlc).dbg = s.dbg ∧ (s.takeBand g b tlc).i3c = s.i3c ∧ (s.takeBand g b tlc).drawn = s.drawn := by
  have f1 := @State.journal_frame; have f2 := @State.setBand_frame
  simp [State.takeBand, f1, f2]
theorem State.openPadWith_frame (s : State) (g : Nat) (p : Nat) (i : Nat) : (s.openPadWith g p i).pending = s.pending ∧ (s.openPadWith g p i).variant = s.variant ∧ (s.openPadWith g p i).applied = s.applied ∧ (s.openPadWith g p i).latches = s.latches ∧ (s.openPadWith g p i).commits = s.commits ∧ (s.openPadWith g p i).resetting = s.resetting ∧ (s.openPadWith g p i).pwr = s.pwr ∧ (s.openPadWith g p i).hk = s.hk ∧ (s.openPadWith g p i).clk = s.clk ∧ (s.openPadWith g p i).bw = s.bw ∧ (s.openPadWith g p i).med = s.med ∧ (s.openPadWith g p i).roms = s.roms ∧ (s.openPadWith g p i).caches = s.caches ∧ (s.openPadWith g p i).zl0 = s.zl0 ∧ (s.openPadWith g p i).zl1 = s.zl1 ∧ (s.openPadWith g p i).ring = s.ring ∧ (s.openPadWith g p i).mbox = s.mbox ∧ (s.openPadWith g p i).dbg = s.dbg ∧ (s.openPadWith g p i).i3c = s.i3c ∧ (s.openPadWith g p i).drawn = s.drawn := by
  have f1 := @State.onGang_frame; have f2 := @State.onXlt_frame; have f3 := @State.setPad_frame
  simp [State.openPadWith, f1, f2, f3]
theorem State.openNext_frame (s : State) (g : Nat) : (s.openNext g).pending = s.pending ∧ (s.openNext g).variant = s.variant ∧ (s.openNext g).applied = s.applied ∧ (s.openNext g).latches = s.latches ∧ (s.openNext g).commits = s.commits ∧ (s.openNext g).resetting = s.resetting ∧ (s.openNext g).pwr = s.pwr ∧ (s.openNext g).hk = s.hk ∧ (s.openNext g).clk = s.clk ∧ (s.openNext g).bw = s.bw ∧ (s.openNext g).med = s.med ∧ (s.openNext g).roms = s.roms ∧ (s.openNext g).caches = s.caches ∧ (s.openNext g).zl0 = s.zl0 ∧ (s.openNext g).zl1 = s.zl1 ∧ (s.openNext g).ring = s.ring ∧ (s.openNext g).mbox = s.mbox ∧ (s.openNext g).dbg = s.dbg ∧ (s.openNext g).i3c = s.i3c ∧ (s.openNext g).drawn = s.drawn := by
  have f1 := @State.onXlt_frame; have f2 := @State.openPadWith_frame; have f3 := @State.raise_frame; have f4 := @State.takeBand_frame
  dsimp only [State.openNext]; (repeat' split) <;> simp [f1, f2, f3, f4]
theorem State.joinBatch_frame (s : State) (b : Built) : (s.joinBatch b).pending = s.pending ∧ (s.joinBatch b).variant = s.variant ∧ (s.joinBatch b).applied = s.applied ∧ (s.joinBatch b).latches = s.latches ∧ (s.joinBatch b).commits = s.commits ∧ (s.joinBatch b).resetting = s.resetting ∧ (s.joinBatch b).pwr = s.pwr ∧ (s.joinBatch b).hk = s.hk ∧ (s.joinBatch b).clk = s.clk ∧ (s.joinBatch b).bw = s.bw ∧ (s.joinBatch b).med = s.med ∧ (s.joinBatch b).roms = s.roms ∧ (s.joinBatch b).caches = s.caches ∧ (s.joinBatch b).zl0 = s.zl0 ∧ (s.joinBatch b).zl1 = s.zl1 ∧ (s.joinBatch b).ring = s.ring ∧ (s.joinBatch b).mbox = s.mbox ∧ (s.joinBatch b).dbg = s.dbg ∧ (s.joinBatch b).i3c = s.i3c ∧ (s.joinBatch b).drawn = s.drawn := by
  have f1 := @State.onGang_frame; have f2 := @State.onXlt_frame
  dsimp only [State.joinBatch]; (repeat' split) <;> simp [f1, f2]
theorem State.mapCounts_frame (s : State) (a : MapSt) (b : MapSt) : (s.mapCounts a b).pending = s.pending ∧ (s.mapCounts a b).variant = s.variant ∧ (s.mapCounts a b).applied = s.applied ∧ (s.mapCounts a b).latches = s.latches ∧ (s.mapCounts a b).commits = s.commits ∧ (s.mapCounts a b).resetting = s.resetting ∧ (s.mapCounts a b).pwr = s.pwr ∧ (s.mapCounts a b).hk = s.hk ∧ (s.mapCounts a b).clk = s.clk ∧ (s.mapCounts a b).bw = s.bw ∧ (s.mapCounts a b).med = s.med ∧ (s.mapCounts a b).roms = s.roms ∧ (s.mapCounts a b).caches = s.caches ∧ (s.mapCounts a b).zl0 = s.zl0 ∧ (s.mapCounts a b).zl1 = s.zl1 ∧ (s.mapCounts a b).ring = s.ring ∧ (s.mapCounts a b).mbox = s.mbox ∧ (s.mapCounts a b).dbg = s.dbg ∧ (s.mapCounts a b).i3c = s.i3c ∧ (s.mapCounts a b).drawn = s.drawn := by
  have f1 := @State.setFld_frame
  simp [State.mapCounts, f1]
theorem State.setMap_frame (s : State) (lseg : Nat) (e : MapE) : (s.setMap lseg e).pending = s.pending ∧ (s.setMap lseg e).variant = s.variant ∧ (s.setMap lseg e).applied = s.applied ∧ (s.setMap lseg e).latches = s.latches ∧ (s.setMap lseg e).commits = s.commits ∧ (s.setMap lseg e).resetting = s.resetting ∧ (s.setMap lseg e).pwr = s.pwr ∧ (s.setMap lseg e).hk = s.hk ∧ (s.setMap lseg e).clk = s.clk ∧ (s.setMap lseg e).bw = s.bw ∧ (s.setMap lseg e).med = s.med ∧ (s.setMap lseg e).roms = s.roms ∧ (s.setMap lseg e).caches = s.caches ∧ (s.setMap lseg e).zl0 = s.zl0 ∧ (s.setMap lseg e).zl1 = s.zl1 ∧ (s.setMap lseg e).ring = s.ring ∧ (s.setMap lseg e).mbox = s.mbox ∧ (s.setMap lseg e).dbg = s.dbg ∧ (s.setMap lseg e).i3c = s.i3c ∧ (s.setMap lseg e).drawn = s.drawn := by
  have f1 := @State.mapCounts_frame; have f2 := @State.onXlt_frame
  simp [State.setMap, f1, f2]
theorem State.mapMove_frame (s : State) (lseg : Nat) (e : MapE) : (s.mapMove lseg e).pending = s.pending ∧ (s.mapMove lseg e).variant = s.variant ∧ (s.mapMove lseg e).applied = s.applied ∧ (s.mapMove lseg e).latches = s.latches ∧ (s.mapMove lseg e).commits = s.commits ∧ (s.mapMove lseg e).resetting = s.resetting ∧ (s.mapMove lseg e).pwr = s.pwr ∧ (s.mapMove lseg e).hk = s.hk ∧ (s.mapMove lseg e).clk = s.clk ∧ (s.mapMove lseg e).bw = s.bw ∧ (s.mapMove lseg e).med = s.med ∧ (s.mapMove lseg e).roms = s.roms ∧ (s.mapMove lseg e).caches = s.caches ∧ (s.mapMove lseg e).zl0 = s.zl0 ∧ (s.mapMove lseg e).zl1 = s.zl1 ∧ (s.mapMove lseg e).ring = s.ring ∧ (s.mapMove lseg e).mbox = s.mbox ∧ (s.mapMove lseg e).dbg = s.dbg ∧ (s.mapMove lseg e).i3c = s.i3c ∧ (s.mapMove lseg e).drawn = s.drawn := by
  have f1 := @State.journal_frame; have f2 := @State.setMap_frame; have f3 := @State.setRev_frame; have f4 := @State.staleOld_frame
  dsimp only [State.mapMove]; (repeat' split) <;> simp [f1, f2, f3, f4]
theorem State.closeSeg_frame (s : State) (lseg : Nat) (group : Option Nat) : (s.closeSeg lseg group).pending = s.pending ∧ (s.closeSeg lseg group).variant = s.variant ∧ (s.closeSeg lseg group).applied = s.applied ∧ (s.closeSeg lseg group).latches = s.latches ∧ (s.closeSeg lseg group).commits = s.commits ∧ (s.closeSeg lseg group).resetting = s.resetting ∧ (s.closeSeg lseg group).dev = s.dev ∧ (s.closeSeg lseg group).pwr = s.pwr ∧ (s.closeSeg lseg group).hk = s.hk ∧ (s.closeSeg lseg group).clk = s.clk ∧ (s.closeSeg lseg group).bw = s.bw ∧ (s.closeSeg lseg group).gang0 = s.gang0 ∧ (s.closeSeg lseg group).gang1 = s.gang1 ∧ (s.closeSeg lseg group).med = s.med ∧ (s.closeSeg lseg group).roms = s.roms ∧ (s.closeSeg lseg group).prot = s.prot ∧ (s.closeSeg lseg group).caches = s.caches ∧ (s.closeSeg lseg group).dram = s.dram ∧ (s.closeSeg lseg group).link = s.link ∧ (s.closeSeg lseg group).reads = s.reads ∧ (s.closeSeg lseg group).drift = s.drift ∧ (s.closeSeg lseg group).zl0 = s.zl0 ∧ (s.closeSeg lseg group).zl1 = s.zl1 ∧ (s.closeSeg lseg group).ring = s.ring ∧ (s.closeSeg lseg group).mbox = s.mbox ∧ (s.closeSeg lseg group).nvm = s.nvm ∧ (s.closeSeg lseg group).srm = s.srm ∧ (s.closeSeg lseg group).dbg = s.dbg ∧ (s.closeSeg lseg group).i3c = s.i3c ∧ (s.closeSeg lseg group).drawn = s.drawn := by
  have f1 := @State.onXlt_frame
  simp [State.closeSeg, f1]
theorem State.closeOldest_frame (s : State) (fuel : Nat) : (s.closeOldest fuel).pending = s.pending ∧ (s.closeOldest fuel).variant = s.variant ∧ (s.closeOldest fuel).applied = s.applied ∧ (s.closeOldest fuel).latches = s.latches ∧ (s.closeOldest fuel).commits = s.commits ∧ (s.closeOldest fuel).resetting = s.resetting ∧ (s.closeOldest fuel).dev = s.dev ∧ (s.closeOldest fuel).pwr = s.pwr ∧ (s.closeOldest fuel).hk = s.hk ∧ (s.closeOldest fuel).clk = s.clk ∧ (s.closeOldest fuel).gang0 = s.gang0 ∧ (s.closeOldest fuel).gang1 = s.gang1 ∧ (s.closeOldest fuel).med = s.med ∧ (s.closeOldest fuel).roms = s.roms ∧ (s.closeOldest fuel).prot = s.prot ∧ (s.closeOldest fuel).drift = s.drift ∧ (s.closeOldest fuel).zl0 = s.zl0 ∧ (s.closeOldest fuel).zl1 = s.zl1 ∧ (s.closeOldest fuel).mbox = s.mbox ∧ (s.closeOldest fuel).nvm = s.nvm ∧ (s.closeOldest fuel).srm = s.srm ∧ (s.closeOldest fuel).dbg = s.dbg ∧ (s.closeOldest fuel).i3c = s.i3c ∧ (s.closeOldest fuel).drawn = s.drawn := by
  have f1 := @State.closeSeg_frame
  induction fuel generalizing s with
  | zero => simp [State.closeOldest, f1]
  | succ k ih =>
    simp only [State.closeOldest]
    (repeat' split) <;> simp [ih, f1]
theorem State.afterStage_frame (s : State) (lseg : Nat) (group : Option Nat) : (s.afterStage lseg group).pending = s.pending ∧ (s.afterStage lseg group).variant = s.variant ∧ (s.afterStage lseg group).applied = s.applied ∧ (s.afterStage lseg group).latches = s.latches ∧ (s.afterStage lseg group).commits = s.commits ∧ (s.afterStage lseg group).resetting = s.resetting ∧ (s.afterStage lseg group).dev = s.dev ∧ (s.afterStage lseg group).pwr = s.pwr ∧ (s.afterStage lseg group).hk = s.hk ∧ (s.afterStage lseg group).clk = s.clk ∧ (s.afterStage lseg group).gang0 = s.gang0 ∧ (s.afterStage lseg group).gang1 = s.gang1 ∧ (s.afterStage lseg group).med = s.med ∧ (s.afterStage lseg group).roms = s.roms ∧ (s.afterStage lseg group).prot = s.prot ∧ (s.afterStage lseg group).drift = s.drift ∧ (s.afterStage lseg group).zl0 = s.zl0 ∧ (s.afterStage lseg group).zl1 = s.zl1 ∧ (s.afterStage lseg group).mbox = s.mbox ∧ (s.afterStage lseg group).nvm = s.nvm ∧ (s.afterStage lseg group).srm = s.srm ∧ (s.afterStage lseg group).dbg = s.dbg ∧ (s.afterStage lseg group).i3c = s.i3c ∧ (s.afterStage lseg group).drawn = s.drawn := by
  have f1 := @State.closeOldest_frame; have f2 := @State.closeSeg_frame
  simp [State.afterStage, f1, f2]
theorem State.stage_frame (s : State) (line : Nat) (group : Option Nat) (data : Line) (m : Mask) (keyid : Nat) (strict : Bool) : (s.stage line group data m keyid strict).pending = s.pending ∧ (s.stage line group data m keyid strict).variant = s.variant ∧ (s.stage line group data m keyid strict).applied = s.applied ∧ (s.stage line group data m keyid strict).latches = s.latches ∧ (s.stage line group data m keyid strict).commits = s.commits ∧ (s.stage line group data m keyid strict).resetting = s.resetting ∧ (s.stage line group data m keyid strict).dev = s.dev ∧ (s.stage line group data m keyid strict).pwr = s.pwr ∧ (s.stage line group data m keyid strict).hk = s.hk ∧ (s.stage line group data m keyid strict).clk = s.clk ∧ (s.stage line group data m keyid strict).gang0 = s.gang0 ∧ (s.stage line group data m keyid strict).gang1 = s.gang1 ∧ (s.stage line group data m keyid strict).med = s.med ∧ (s.stage line group data m keyid strict).roms = s.roms ∧ (s.stage line group data m keyid strict).prot = s.prot ∧ (s.stage line group data m keyid strict).drift = s.drift ∧ (s.stage line group data m keyid strict).zl0 = s.zl0 ∧ (s.stage line group data m keyid strict).zl1 = s.zl1 ∧ (s.stage line group data m keyid strict).mbox = s.mbox ∧ (s.stage line group data m keyid strict).nvm = s.nvm ∧ (s.stage line group data m keyid strict).srm = s.srm ∧ (s.stage line group data m keyid strict).dbg = s.dbg ∧ (s.stage line group data m keyid strict).i3c = s.i3c ∧ (s.stage line group data m keyid strict).drawn = s.drawn := by
  have f1 := @State.onXlt_frame
  simp [State.stage, f1]
theorem State.bandRelease_frame (s : State) (g : Nat) (b : Nat) : (s.bandRelease g b).pending = s.pending ∧ (s.bandRelease g b).variant = s.variant ∧ (s.bandRelease g b).latches = s.latches ∧ (s.bandRelease g b).resetting = s.resetting ∧ (s.bandRelease g b).med = s.med ∧ (s.bandRelease g b).roms = s.roms ∧ (s.bandRelease g b).dbg = s.dbg ∧ (s.bandRelease g b).i3c = s.i3c := by
  have f1 := @State.bumpSat_frame; have f2 := @State.journal_frame; have f3 := @State.onXlt_frame; have f4 := @State.raiseRec_frame; have f5 := @State.reportCode_frame; have f6 := @State.setBand_frame
  simp [State.bandRelease, f1, f2, f3, f4, f5, f6]
theorem State.joinWaiting_frame (s : State) : (s.joinWaiting).pending = s.pending ∧ (s.joinWaiting).variant = s.variant ∧ (s.joinWaiting).applied = s.applied ∧ (s.joinWaiting).latches = s.latches ∧ (s.joinWaiting).commits = s.commits ∧ (s.joinWaiting).resetting = s.resetting ∧ (s.joinWaiting).pwr = s.pwr ∧ (s.joinWaiting).hk = s.hk ∧ (s.joinWaiting).clk = s.clk ∧ (s.joinWaiting).bw = s.bw ∧ (s.joinWaiting).med = s.med ∧ (s.joinWaiting).roms = s.roms ∧ (s.joinWaiting).caches = s.caches ∧ (s.joinWaiting).zl0 = s.zl0 ∧ (s.joinWaiting).zl1 = s.zl1 ∧ (s.joinWaiting).ring = s.ring ∧ (s.joinWaiting).mbox = s.mbox ∧ (s.joinWaiting).dbg = s.dbg ∧ (s.joinWaiting).i3c = s.i3c ∧ (s.joinWaiting).drawn = s.drawn := by
  have f1 := @State.joinBatch_frame; have f2 := @State.onXlt_frame
  simp [State.joinWaiting, f1, f2]
theorem State.parityAdd_frame (s : State) (slot : Nat) (pos : Nat) (tile : Nat) (frag : Nat) (secs : List SecImg) : (s.parityAdd slot pos tile frag secs).pending = s.pending ∧ (s.parityAdd slot pos tile frag secs).variant = s.variant ∧ (s.parityAdd slot pos tile frag secs).applied = s.applied ∧ (s.parityAdd slot pos tile frag secs).latches = s.latches ∧ (s.parityAdd slot pos tile frag secs).commits = s.commits ∧ (s.parityAdd slot pos tile frag secs).resetting = s.resetting ∧ (s.parityAdd slot pos tile frag secs).dev = s.dev ∧ (s.parityAdd slot pos tile frag secs).pwr = s.pwr ∧ (s.parityAdd slot pos tile frag secs).hk = s.hk ∧ (s.parityAdd slot pos tile frag secs).clk = s.clk ∧ (s.parityAdd slot pos tile frag secs).bw = s.bw ∧ (s.parityAdd slot pos tile frag secs).roms = s.roms ∧ (s.parityAdd slot pos tile frag secs).prot = s.prot ∧ (s.parityAdd slot pos tile frag secs).caches = s.caches ∧ (s.parityAdd slot pos tile frag secs).dram = s.dram ∧ (s.parityAdd slot pos tile frag secs).link = s.link ∧ (s.parityAdd slot pos tile frag secs).reads = s.reads ∧ (s.parityAdd slot pos tile frag secs).drift = s.drift ∧ (s.parityAdd slot pos tile frag secs).zl0 = s.zl0 ∧ (s.parityAdd slot pos tile frag secs).zl1 = s.zl1 ∧ (s.parityAdd slot pos tile frag secs).ring = s.ring ∧ (s.parityAdd slot pos tile frag secs).strm = s.strm ∧ (s.parityAdd slot pos tile frag secs).mbox = s.mbox ∧ (s.parityAdd slot pos tile frag secs).pnv = s.pnv ∧ (s.parityAdd slot pos tile frag secs).nvm = s.nvm ∧ (s.parityAdd slot pos tile frag secs).srm = s.srm ∧ (s.parityAdd slot pos tile frag secs).dbg = s.dbg ∧ (s.parityAdd slot pos tile frag secs).i3c = s.i3c ∧ (s.parityAdd slot pos tile frag secs).drawn = s.drawn := by
  have f1 := @State.onXlt_frame
  simp [State.parityAdd, f1]
theorem State.placeOne_frame (s : State) (g : Nat) (p : Nat) (b : RowBatch) : (s.placeOne g p b).pending = s.pending ∧ (s.placeOne g p b).variant = s.variant ∧ (s.placeOne g p b).applied = s.applied ∧ (s.placeOne g p b).latches = s.latches ∧ (s.placeOne g p b).commits = s.commits ∧ (s.placeOne g p b).resetting = s.resetting ∧ (s.placeOne g p b).pwr = s.pwr ∧ (s.placeOne g p b).hk = s.hk ∧ (s.placeOne g p b).clk = s.clk ∧ (s.placeOne g p b).bw = s.bw ∧ (s.placeOne g p b).med = s.med ∧ (s.placeOne g p b).roms = s.roms ∧ (s.placeOne g p b).caches = s.caches ∧ (s.placeOne g p b).zl0 = s.zl0 ∧ (s.placeOne g p b).zl1 = s.zl1 ∧ (s.placeOne g p b).ring = s.ring ∧ (s.placeOne g p b).mbox = s.mbox ∧ (s.placeOne g p b).dbg = s.dbg ∧ (s.placeOne g p b).i3c = s.i3c ∧ (s.placeOne g p b).drawn = s.drawn := by
  have f1 := @State.onGang_frame; have f2 := @State.setPad_frame
  simp [State.placeOne, f1, f2]
theorem State.placeBatches_frame (s : State) (g : Nat) (fuel : Nat) (tiles : List Nat) : (s.placeBatches g fuel tiles).pending = s.pending ∧ (s.placeBatches g fuel tiles).variant = s.variant ∧ (s.placeBatches g fuel tiles).applied = s.applied ∧ (s.placeBatches g fuel tiles).latches = s.latches ∧ (s.placeBatches g fuel tiles).commits = s.commits ∧ (s.placeBatches g fuel tiles).resetting = s.resetting ∧ (s.placeBatches g fuel tiles).pwr = s.pwr ∧ (s.placeBatches g fuel tiles).hk = s.hk ∧ (s.placeBatches g fuel tiles).clk = s.clk ∧ (s.placeBatches g fuel tiles).bw = s.bw ∧ (s.placeBatches g fuel tiles).med = s.med ∧ (s.placeBatches g fuel tiles).roms = s.roms ∧ (s.placeBatches g fuel tiles).caches = s.caches ∧ (s.placeBatches g fuel tiles).zl0 = s.zl0 ∧ (s.placeBatches g fuel tiles).zl1 = s.zl1 ∧ (s.placeBatches g fuel tiles).ring = s.ring ∧ (s.placeBatches g fuel tiles).mbox = s.mbox ∧ (s.placeBatches g fuel tiles).dbg = s.dbg ∧ (s.placeBatches g fuel tiles).i3c = s.i3c ∧ (s.placeBatches g fuel tiles).drawn = s.drawn := by
  have f1 := @State.openNext_frame; have f2 := @State.placeOne_frame
  induction fuel generalizing s tiles with
  | zero => simp [State.placeBatches, f1, f2]
  | succ k ih =>
    simp only [State.placeBatches]
    (repeat' split) <;> simp [ih, f1, f2]
theorem State.setChunk_frame (s : State) (psa : Nat) (sector : Nat) (pos : Nat) (c : Chunk) : (s.setChunk psa sector pos c).pending = s.pending ∧ (s.setChunk psa sector pos c).variant = s.variant ∧ (s.setChunk psa sector pos c).applied = s.applied ∧ (s.setChunk psa sector pos c).latches = s.latches ∧ (s.setChunk psa sector pos c).commits = s.commits ∧ (s.setChunk psa sector pos c).resetting = s.resetting ∧ (s.setChunk psa sector pos c).dev = s.dev ∧ (s.setChunk psa sector pos c).pwr = s.pwr ∧ (s.setChunk psa sector pos c).hk = s.hk ∧ (s.setChunk psa sector pos c).clk = s.clk ∧ (s.setChunk psa sector pos c).bw = s.bw ∧ (s.setChunk psa sector pos c).roms = s.roms ∧ (s.setChunk psa sector pos c).prot = s.prot ∧ (s.setChunk psa sector pos c).caches = s.caches ∧ (s.setChunk psa sector pos c).dram = s.dram ∧ (s.setChunk psa sector pos c).link = s.link ∧ (s.setChunk psa sector pos c).reads = s.reads ∧ (s.setChunk psa sector pos c).drift = s.drift ∧ (s.setChunk psa sector pos c).zl0 = s.zl0 ∧ (s.setChunk psa sector pos c).zl1 = s.zl1 ∧ (s.setChunk psa sector pos c).ring = s.ring ∧ (s.setChunk psa sector pos c).strm = s.strm ∧ (s.setChunk psa sector pos c).mbox = s.mbox ∧ (s.setChunk psa sector pos c).pnv = s.pnv ∧ (s.setChunk psa sector pos c).nvm = s.nvm ∧ (s.setChunk psa sector pos c).srm = s.srm ∧ (s.setChunk psa sector pos c).dbg = s.dbg ∧ (s.setChunk psa sector pos c).i3c = s.i3c ∧ (s.setChunk psa sector pos c).drawn = s.drawn := by
  simp [State.setChunk]
theorem State.programSeg_frame (s : State) (psa : Nat) (pos : Nat) (secs : List SecImg) : (s.programSeg psa pos secs).pending = s.pending ∧ (s.programSeg psa pos secs).variant = s.variant ∧ (s.programSeg psa pos secs).applied = s.applied ∧ (s.programSeg psa pos secs).latches = s.latches ∧ (s.programSeg psa pos secs).commits = s.commits ∧ (s.programSeg psa pos secs).resetting = s.resetting ∧ (s.programSeg psa pos secs).dev = s.dev ∧ (s.programSeg psa pos secs).pwr = s.pwr ∧ (s.programSeg psa pos secs).hk = s.hk ∧ (s.programSeg psa pos secs).clk = s.clk ∧ (s.programSeg psa pos secs).bw = s.bw ∧ (s.programSeg psa pos secs).roms = s.roms ∧ (s.programSeg psa pos secs).prot = s.prot ∧ (s.programSeg psa pos secs).caches = s.caches ∧ (s.programSeg psa pos secs).dram = s.dram ∧ (s.programSeg psa pos secs).link = s.link ∧ (s.programSeg psa pos secs).reads = s.reads ∧ (s.programSeg psa pos secs).drift = s.drift ∧ (s.programSeg psa pos secs).zl0 = s.zl0 ∧ (s.programSeg psa pos secs).zl1 = s.zl1 ∧ (s.programSeg psa pos secs).ring = s.ring ∧ (s.programSeg psa pos secs).strm = s.strm ∧ (s.programSeg psa pos secs).mbox = s.mbox ∧ (s.programSeg psa pos secs).pnv = s.pnv ∧ (s.programSeg psa pos secs).nvm = s.nvm ∧ (s.programSeg psa pos secs).srm = s.srm ∧ (s.programSeg psa pos secs).dbg = s.dbg ∧ (s.programSeg psa pos secs).i3c = s.i3c ∧ (s.programSeg psa pos secs).drawn = s.drawn := by
  have f1 := @State.setChunk_frame
  simp [State.programSeg, f1]

end Sys2Proof.Machine
end

