-- ==== Sys2Proof/Laws/FramePositions.lean ====
section
/-! SUPPORT. Frames of the operations of Machine/Positions.lean: the fields of State that each leaves as they were. -/

set_option maxRecDepth 4000
set_option linter.unusedSimpArgs false

namespace Sys2Proof.Machine

theorem State.onReads_frame (s : State) (f : Reads → Reads) : (s.onReads f).pending = s.pending ∧ (s.onReads f).variant = s.variant ∧ (s.onReads f).applied = s.applied ∧ (s.onReads f).latches = s.latches ∧ (s.onReads f).commits = s.commits ∧ (s.onReads f).resetting = s.resetting ∧ (s.onReads f).dev = s.dev ∧ (s.onReads f).pwr = s.pwr ∧ (s.onReads f).hk = s.hk ∧ (s.onReads f).clk = s.clk ∧ (s.onReads f).bw = s.bw ∧ (s.onReads f).gang0 = s.gang0 ∧ (s.onReads f).gang1 = s.gang1 ∧ (s.onReads f).med = s.med ∧ (s.onReads f).roms = s.roms ∧ (s.onReads f).xlt = s.xlt ∧ (s.onReads f).tally = s.tally ∧ (s.onReads f).prot = s.prot ∧ (s.onReads f).caches = s.caches ∧ (s.onReads f).dram = s.dram ∧ (s.onReads f).link = s.link ∧ (s.onReads f).drift = s.drift ∧ (s.onReads f).zl0 = s.zl0 ∧ (s.onReads f).zl1 = s.zl1 ∧ (s.onReads f).ring = s.ring ∧ (s.onReads f).strm = s.strm ∧ (s.onReads f).mbox = s.mbox ∧ (s.onReads f).pnv = s.pnv ∧ (s.onReads f).nvm = s.nvm ∧ (s.onReads f).srm = s.srm ∧ (s.onReads f).dbg = s.dbg ∧ (s.onReads f).i3c = s.i3c ∧ (s.onReads f).drawn = s.drawn := by
  simp [State.onReads]
theorem State.forgetOuts_frame (s : State) : (s.forgetOuts).pending = s.pending ∧ (s.forgetOuts).variant = s.variant ∧ (s.forgetOuts).latches = s.latches ∧ (s.forgetOuts).resetting = s.resetting ∧ (s.forgetOuts).med = s.med ∧ (s.forgetOuts).roms = s.roms ∧ (s.forgetOuts).dbg = s.dbg ∧ (s.forgetOuts).i3c = s.i3c := by
  have f1 := @State.onReads_frame
  simp [State.forgetOuts, f1]
theorem State.posTake_frame (s : State) (g : Nat) (n : Nat) (l : List Nat) : (s.posTake g n l).pending = s.pending ∧ (s.posTake g n l).variant = s.variant ∧ (s.posTake g n l).applied = s.applied ∧ (s.posTake g n l).latches = s.latches ∧ (s.posTake g n l).commits = s.commits ∧ (s.posTake g n l).resetting = s.resetting ∧ (s.posTake g n l).dev = s.dev ∧ (s.posTake g n l).pwr = s.pwr ∧ (s.posTake g n l).hk = s.hk ∧ (s.posTake g n l).clk = s.clk ∧ (s.posTake g n l).bw = s.bw ∧ (s.posTake g n l).gang0 = s.gang0 ∧ (s.posTake g n l).gang1 = s.gang1 ∧ (s.posTake g n l).med = s.med ∧ (s.posTake g n l).roms = s.roms ∧ (s.posTake g n l).xlt = s.xlt ∧ (s.posTake g n l).tally = s.tally ∧ (s.posTake g n l).prot = s.prot ∧ (s.posTake g n l).caches = s.caches ∧ (s.posTake g n l).dram = s.dram ∧ (s.posTake g n l).link = s.link ∧ (s.posTake g n l).drift = s.drift ∧ (s.posTake g n l).zl0 = s.zl0 ∧ (s.posTake g n l).zl1 = s.zl1 ∧ (s.posTake g n l).ring = s.ring ∧ (s.posTake g n l).strm = s.strm ∧ (s.posTake g n l).mbox = s.mbox ∧ (s.posTake g n l).pnv = s.pnv ∧ (s.posTake g n l).nvm = s.nvm ∧ (s.posTake g n l).srm = s.srm ∧ (s.posTake g n l).dbg = s.dbg ∧ (s.posTake g n l).i3c = s.i3c ∧ (s.posTake g n l).drawn = s.drawn := by
  have f1 := @State.onReads_frame
  simp [State.posTake, f1]
theorem State.bookFrom_frame (s : State) (g : Nat) (fuel : Nat) (slot : Nat) (base : Nat) (n : Nat) (acc : List Nat) (done : Nat) : (s.bookFrom g fuel slot base n acc done).2.2.pending = s.pending ∧ (s.bookFrom g fuel slot base n acc done).2.2.variant = s.variant ∧ (s.bookFrom g fuel slot base n acc done).2.2.applied = s.applied ∧ (s.bookFrom g fuel slot base n acc done).2.2.latches = s.latches ∧ (s.bookFrom g fuel slot base n acc done).2.2.commits = s.commits ∧ (s.bookFrom g fuel slot base n acc done).2.2.resetting = s.resetting ∧ (s.bookFrom g fuel slot base n acc done).2.2.pwr = s.pwr ∧ (s.bookFrom g fuel slot base n acc done).2.2.hk = s.hk ∧ (s.bookFrom g fuel slot base n acc done).2.2.clk = s.clk ∧ (s.bookFrom g fuel slot base n acc done).2.2.bw = s.bw ∧ (s.bookFrom g fuel slot base n acc done).2.2.med = s.med ∧ (s.bookFrom g fuel slot base n acc done).2.2.roms = s.roms ∧ (s.bookFrom g fuel slot base n acc done).2.2.caches = s.caches ∧ (s.bookFrom g fuel slot base n acc done).2.2.zl0 = s.zl0 ∧ (s.bookFrom g fuel slot base n acc done).2.2.zl1 = s.zl1 ∧ (s.bookFrom g fuel slot base n acc done).2.2.ring = s.ring ∧ (s.bookFrom g fuel slot base n acc done).2.2.mbox = s.mbox ∧ (s.bookFrom g fuel slot base n acc done).2.2.dbg = s.dbg ∧ (s.bookFrom g fuel slot base n acc done).2.2.i3c = s.i3c ∧ (s.bookFrom g fuel slot base n acc done).2.2.drawn = s.drawn := by
  have f1 := @State.posTake_frame
  induction fuel generalizing s slot n acc done with
  | zero => simp [State.bookFrom, f1]
  | succ k ih =>
    simp only [State.bookFrom]
    split <;> simp [ih, f1]
theorem State.bookBg_frame (s : State) (g : Nat) (n : Nat) : (s.bookBg g n).2.2.pending = s.pending ∧ (s.bookBg g n).2.2.variant = s.variant ∧ (s.bookBg g n).2.2.applied = s.applied ∧ (s.bookBg g n).2.2.latches = s.latches ∧ (s.bookBg g n).2.2.commits = s.commits ∧ (s.bookBg g n).2.2.resetting = s.resetting ∧ (s.bookBg g n).2.2.pwr = s.pwr ∧ (s.bookBg g n).2.2.hk = s.hk ∧ (s.bookBg g n).2.2.clk = s.clk ∧ (s.bookBg g n).2.2.bw = s.bw ∧ (s.bookBg g n).2.2.med = s.med ∧ (s.bookBg g n).2.2.roms = s.roms ∧ (s.bookBg g n).2.2.caches = s.caches ∧ (s.bookBg g n).2.2.zl0 = s.zl0 ∧ (s.bookBg g n).2.2.zl1 = s.zl1 ∧ (s.bookBg g n).2.2.ring = s.ring ∧ (s.bookBg g n).2.2.mbox = s.mbox ∧ (s.bookBg g n).2.2.dbg = s.dbg ∧ (s.bookBg g n).2.2.i3c = s.i3c ∧ (s.bookBg g n).2.2.drawn = s.drawn := by
  have f1 := @State.bookFrom_frame
  dsimp only [State.bookBg]; (repeat' split) <;> simp [f1]
theorem State.bookFg_frame (s : State) (r : Rd) : (s.bookFg r).2.pending = s.pending ∧ (s.bookFg r).2.variant = s.variant ∧ (s.bookFg r).2.applied = s.applied ∧ (s.bookFg r).2.latches = s.latches ∧ (s.bookFg r).2.commits = s.commits ∧ (s.bookFg r).2.resetting = s.resetting ∧ (s.bookFg r).2.dev = s.dev ∧ (s.bookFg r).2.pwr = s.pwr ∧ (s.bookFg r).2.hk = s.hk ∧ (s.bookFg r).2.clk = s.clk ∧ (s.bookFg r).2.bw = s.bw ∧ (s.bookFg r).2.gang0 = s.gang0 ∧ (s.bookFg r).2.gang1 = s.gang1 ∧ (s.bookFg r).2.med = s.med ∧ (s.bookFg r).2.roms = s.roms ∧ (s.bookFg r).2.xlt = s.xlt ∧ (s.bookFg r).2.tally = s.tally ∧ (s.bookFg r).2.prot = s.prot ∧ (s.bookFg r).2.caches = s.caches ∧ (s.bookFg r).2.dram = s.dram ∧ (s.bookFg r).2.link = s.link ∧ (s.bookFg r).2.drift = s.drift ∧ (s.bookFg r).2.zl0 = s.zl0 ∧ (s.bookFg r).2.zl1 = s.zl1 ∧ (s.bookFg r).2.ring = s.ring ∧ (s.bookFg r).2.strm = s.strm ∧ (s.bookFg r).2.mbox = s.mbox ∧ (s.bookFg r).2.pnv = s.pnv ∧ (s.bookFg r).2.nvm = s.nvm ∧ (s.bookFg r).2.srm = s.srm ∧ (s.bookFg r).2.dbg = s.dbg ∧ (s.bookFg r).2.i3c = s.i3c ∧ (s.bookFg r).2.drawn = s.drawn := by
  have f1 := @State.posTake_frame
  simp [State.bookFg, f1]

end Sys2Proof.Machine
end

