-- ==== Sys2Proof/Laws/FrameMedia.lean ====
section
/-! SUPPORT. Frames of the operations of Machine/Media.lean: the fields of State that each leaves as they were. -/

set_option maxRecDepth 4000
set_option linter.unusedSimpArgs false

namespace Sys2Proof.Machine

theorem State.setLog_frame (s : State) (n : Nat) (l : EvtLog) : (s.setLog n l).pending = s.pending ∧ (s.setLog n l).variant = s.variant ∧ (s.setLog n l).applied = s.applied ∧ (s.setLog n l).latches = s.latches ∧ (s.setLog n l).commits = s.commits ∧ (s.setLog n l).resetting = s.resetting ∧ (s.setLog n l).dev = s.dev ∧ (s.setLog n l).pwr = s.pwr ∧ (s.setLog n l).hk = s.hk ∧ (s.setLog n l).clk = s.clk ∧ (s.setLog n l).bw = s.bw ∧ (s.setLog n l).gang0 = s.gang0 ∧ (s.setLog n l).gang1 = s.gang1 ∧ (s.setLog n l).med = s.med ∧ (s.setLog n l).roms = s.roms ∧ (s.setLog n l).xlt = s.xlt ∧ (s.setLog n l).tally = s.tally ∧ (s.setLog n l).prot = s.prot ∧ (s.setLog n l).caches = s.caches ∧ (s.setLog n l).dram = s.dram ∧ (s.setLog n l).reads = s.reads ∧ (s.setLog n l).drift = s.drift ∧ (s.setLog n l).zl0 = s.zl0 ∧ (s.setLog n l).zl1 = s.zl1 ∧ (s.setLog n l).pmc = s.pmc ∧ (s.setLog n l).ring = s.ring ∧ (s.setLog n l).strm = s.strm ∧ (s.setLog n l).mbox = s.mbox ∧ (s.setLog n l).pnv = s.pnv ∧ (s.setLog n l).nvm = s.nvm ∧ (s.setLog n l).srm = s.srm ∧ (s.setLog n l).dbg = s.dbg ∧ (s.setLog n l).i3c = s.i3c ∧ (s.setLog n l).drawn = s.drawn := by
  simp [State.setLog]
theorem State.event_frame (s : State) (kind : Nat) (n : Nat) (args : List Nat) : (s.event kind n args).pending = s.pending ∧ (s.event kind n args).variant = s.variant ∧ (s.event kind n args).applied = s.applied ∧ (s.event kind n args).latches = s.latches ∧ (s.event kind n args).commits = s.commits ∧ (s.event kind n args).resetting = s.resetting ∧ (s.event kind n args).dev = s.dev ∧ (s.event kind n args).pwr = s.pwr ∧ (s.event kind n args).hk = s.hk ∧ (s.event kind n args).clk = s.clk ∧ (s.event kind n args).bw = s.bw ∧ (s.event kind n args).gang0 = s.gang0 ∧ (s.event kind n args).gang1 = s.gang1 ∧ (s.event kind n args).med = s.med ∧ (s.event kind n args).roms = s.roms ∧ (s.event kind n args).xlt = s.xlt ∧ (s.event kind n args).prot = s.prot ∧ (s.event kind n args).caches = s.caches ∧ (s.event kind n args).dram = s.dram ∧ (s.event kind n args).drift = s.drift ∧ (s.event kind n args).zl0 = s.zl0 ∧ (s.event kind n args).zl1 = s.zl1 ∧ (s.event kind n args).ring = s.ring ∧ (s.event kind n args).strm = s.strm ∧ (s.event kind n args).mbox = s.mbox ∧ (s.event kind n args).pnv = s.pnv ∧ (s.event kind n args).nvm = s.nvm ∧ (s.event kind n args).srm = s.srm ∧ (s.event kind n args).dbg = s.dbg ∧ (s.event kind n args).i3c = s.i3c ∧ (s.event kind n args).drawn = s.drawn := by
  have f1 := @State.sendMsi_frame; have f2 := @State.setLog_frame
  simp [State.event, f1, f2]
theorem State.strikeGang_frame (s : State) (g : Nat) : (s.strikeGang g).pending = s.pending ∧ (s.strikeGang g).variant = s.variant ∧ (s.strikeGang g).applied = s.applied ∧ (s.strikeGang g).latches = s.latches ∧ (s.strikeGang g).commits = s.commits ∧ (s.strikeGang g).resetting = s.resetting ∧ (s.strikeGang g).pwr = s.pwr ∧ (s.strikeGang g).hk = s.hk ∧ (s.strikeGang g).clk = s.clk ∧ (s.strikeGang g).bw = s.bw ∧ (s.strikeGang g).med = s.med ∧ (s.strikeGang g).roms = s.roms ∧ (s.strikeGang g).caches = s.caches ∧ (s.strikeGang g).zl0 = s.zl0 ∧ (s.strikeGang g).zl1 = s.zl1 ∧ (s.strikeGang g).ring = s.ring ∧ (s.strikeGang g).mbox = s.mbox ∧ (s.strikeGang g).dbg = s.dbg ∧ (s.strikeGang g).i3c = s.i3c ∧ (s.strikeGang g).drawn = s.drawn := by
  simp [State.strikeGang]
theorem State.setReduced_frame (s : State) (l : List Nat) : (s.setReduced l).pending = s.pending ∧ (s.setReduced l).variant = s.variant ∧ (s.setReduced l).applied = s.applied ∧ (s.setReduced l).latches = s.latches ∧ (s.setReduced l).commits = s.commits ∧ (s.setReduced l).resetting = s.resetting ∧ (s.setReduced l).pwr = s.pwr ∧ (s.setReduced l).hk = s.hk ∧ (s.setReduced l).clk = s.clk ∧ (s.setReduced l).bw = s.bw ∧ (s.setReduced l).gang0 = s.gang0 ∧ (s.setReduced l).gang1 = s.gang1 ∧ (s.setReduced l).med = s.med ∧ (s.setReduced l).roms = s.roms ∧ (s.setReduced l).xlt = s.xlt ∧ (s.setReduced l).prot = s.prot ∧ (s.setReduced l).caches = s.caches ∧ (s.setReduced l).dram = s.dram ∧ (s.setReduced l).drift = s.drift ∧ (s.setReduced l).zl0 = s.zl0 ∧ (s.setReduced l).zl1 = s.zl1 ∧ (s.setReduced l).ring = s.ring ∧ (s.setReduced l).strm = s.strm ∧ (s.setReduced l).mbox = s.mbox ∧ (s.setReduced l).srm = s.srm ∧ (s.setReduced l).dbg = s.dbg ∧ (s.setReduced l).i3c = s.i3c ∧ (s.setReduced l).drawn = s.drawn := by
  have f1 := @State.raise_frame
  simp [State.setReduced, f1]
theorem State.reduce_frame (s : State) (r : Nat) : (s.reduce r).pending = s.pending ∧ (s.reduce r).variant = s.variant ∧ (s.reduce r).applied = s.applied ∧ (s.reduce r).latches = s.latches ∧ (s.reduce r).commits = s.commits ∧ (s.reduce r).resetting = s.resetting ∧ (s.reduce r).pwr = s.pwr ∧ (s.reduce r).hk = s.hk ∧ (s.reduce r).clk = s.clk ∧ (s.reduce r).bw = s.bw ∧ (s.reduce r).gang0 = s.gang0 ∧ (s.reduce r).gang1 = s.gang1 ∧ (s.reduce r).med = s.med ∧ (s.reduce r).roms = s.roms ∧ (s.reduce r).xlt = s.xlt ∧ (s.reduce r).prot = s.prot ∧ (s.reduce r).caches = s.caches ∧ (s.reduce r).dram = s.dram ∧ (s.reduce r).drift = s.drift ∧ (s.reduce r).zl0 = s.zl0 ∧ (s.reduce r).zl1 = s.zl1 ∧ (s.reduce r).ring = s.ring ∧ (s.reduce r).strm = s.strm ∧ (s.reduce r).mbox = s.mbox ∧ (s.reduce r).srm = s.srm ∧ (s.reduce r).dbg = s.dbg ∧ (s.reduce r).i3c = s.i3c ∧ (s.reduce r).drawn = s.drawn := by
  have f1 := @State.setReduced_frame; have f2 := @State.toState_frame
  simp [State.reduce, f1, f2]
theorem State.passPos_frame (s : State) (g : Nat) : (s.passPos g).pending = s.pending ∧ (s.passPos g).variant = s.variant ∧ (s.passPos g).applied = s.applied ∧ (s.passPos g).latches = s.latches ∧ (s.passPos g).commits = s.commits ∧ (s.passPos g).resetting = s.resetting ∧ (s.passPos g).dev = s.dev ∧ (s.passPos g).pwr = s.pwr ∧ (s.passPos g).hk = s.hk ∧ (s.passPos g).clk = s.clk ∧ (s.passPos g).bw = s.bw ∧ (s.passPos g).med = s.med ∧ (s.passPos g).roms = s.roms ∧ (s.passPos g).prot = s.prot ∧ (s.passPos g).caches = s.caches ∧ (s.passPos g).dram = s.dram ∧ (s.passPos g).link = s.link ∧ (s.passPos g).reads = s.reads ∧ (s.passPos g).drift = s.drift ∧ (s.passPos g).zl0 = s.zl0 ∧ (s.passPos g).zl1 = s.zl1 ∧ (s.passPos g).ring = s.ring ∧ (s.passPos g).strm = s.strm ∧ (s.passPos g).mbox = s.mbox ∧ (s.passPos g).pnv = s.pnv ∧ (s.passPos g).nvm = s.nvm ∧ (s.passPos g).srm = s.srm ∧ (s.passPos g).dbg = s.dbg ∧ (s.passPos g).i3c = s.i3c ∧ (s.passPos g).drawn = s.drawn := by
  have f1 := @State.onRota_frame
  simp [State.passPos, f1]
theorem State.skipFailed_frame (s : State) (g : Nat) (fuel : Nat) : (s.skipFailed g fuel).pending = s.pending ∧ (s.skipFailed g fuel).variant = s.variant ∧ (s.skipFailed g fuel).applied = s.applied ∧ (s.skipFailed g fuel).latches = s.latches ∧ (s.skipFailed g fuel).commits = s.commits ∧ (s.skipFailed g fuel).resetting = s.resetting ∧ (s.skipFailed g fuel).dev = s.dev ∧ (s.skipFailed g fuel).pwr = s.pwr ∧ (s.skipFailed g fuel).hk = s.hk ∧ (s.skipFailed g fuel).clk = s.clk ∧ (s.skipFailed g fuel).bw = s.bw ∧ (s.skipFailed g fuel).med = s.med ∧ (s.skipFailed g fuel).roms = s.roms ∧ (s.skipFailed g fuel).prot = s.prot ∧ (s.skipFailed g fuel).caches = s.caches ∧ (s.skipFailed g fuel).dram = s.dram ∧ (s.skipFailed g fuel).link = s.link ∧ (s.skipFailed g fuel).reads = s.reads ∧ (s.skipFailed g fuel).drift = s.drift ∧ (s.skipFailed g fuel).zl0 = s.zl0 ∧ (s.skipFailed g fuel).zl1 = s.zl1 ∧ (s.skipFailed g fuel).ring = s.ring ∧ (s.skipFailed g fuel).strm = s.strm ∧ (s.skipFailed g fuel).mbox = s.mbox ∧ (s.skipFailed g fuel).pnv = s.pnv ∧ (s.skipFailed g fuel).nvm = s.nvm ∧ (s.skipFailed g fuel).srm = s.srm ∧ (s.skipFailed g fuel).dbg = s.dbg ∧ (s.skipFailed g fuel).i3c = s.i3c ∧ (s.skipFailed g fuel).drawn = s.drawn := by
  have f1 := @State.passPos_frame
  induction fuel generalizing s with
  | zero => simp [State.skipFailed, f1]
  | succ k ih =>
    simp only [State.skipFailed]
    (repeat' split) <;> simp [ih, f1]
theorem State.checkOver_frame (s : State) (g : Nat) : (s.checkOver g).pending = s.pending ∧ (s.checkOver g).variant = s.variant ∧ (s.checkOver g).applied = s.applied ∧ (s.checkOver g).latches = s.latches ∧ (s.checkOver g).commits = s.commits ∧ (s.checkOver g).resetting = s.resetting ∧ (s.checkOver g).dev = s.dev ∧ (s.checkOver g).pwr = s.pwr ∧ (s.checkOver g).hk = s.hk ∧ (s.checkOver g).clk = s.clk ∧ (s.checkOver g).bw = s.bw ∧ (s.checkOver g).med = s.med ∧ (s.checkOver g).roms = s.roms ∧ (s.checkOver g).prot = s.prot ∧ (s.checkOver g).caches = s.caches ∧ (s.checkOver g).dram = s.dram ∧ (s.checkOver g).link = s.link ∧ (s.checkOver g).reads = s.reads ∧ (s.checkOver g).drift = s.drift ∧ (s.checkOver g).zl0 = s.zl0 ∧ (s.checkOver g).zl1 = s.zl1 ∧ (s.checkOver g).ring = s.ring ∧ (s.checkOver g).strm = s.strm ∧ (s.checkOver g).mbox = s.mbox ∧ (s.checkOver g).pnv = s.pnv ∧ (s.checkOver g).nvm = s.nvm ∧ (s.checkOver g).srm = s.srm ∧ (s.checkOver g).dbg = s.dbg ∧ (s.checkOver g).i3c = s.i3c ∧ (s.checkOver g).drawn = s.drawn := by
  have f1 := @State.bump_frame; have f2 := @State.onGang_frame; have f3 := @State.skipFailed_frame
  simp [State.checkOver, f1, f2, f3]
theorem State.turnCutFor_frame (s : State) (g : Nat) (i : Nat) : (s.turnCutFor g i).pending = s.pending ∧ (s.turnCutFor g i).variant = s.variant ∧ (s.turnCutFor g i).applied = s.applied ∧ (s.turnCutFor g i).latches = s.latches ∧ (s.turnCutFor g i).commits = s.commits ∧ (s.turnCutFor g i).resetting = s.resetting ∧ (s.turnCutFor g i).pwr = s.pwr ∧ (s.turnCutFor g i).hk = s.hk ∧ (s.turnCutFor g i).clk = s.clk ∧ (s.turnCutFor g i).bw = s.bw ∧ (s.turnCutFor g i).med = s.med ∧ (s.turnCutFor g i).roms = s.roms ∧ (s.turnCutFor g i).caches = s.caches ∧ (s.turnCutFor g i).zl0 = s.zl0 ∧ (s.turnCutFor g i).zl1 = s.zl1 ∧ (s.turnCutFor g i).ring = s.ring ∧ (s.turnCutFor g i).mbox = s.mbox ∧ (s.turnCutFor g i).dbg = s.dbg ∧ (s.turnCutFor g i).i3c = s.i3c ∧ (s.turnCutFor g i).drawn = s.drawn := by
  have f1 := @State.onReads_frame
  simp [State.turnCutFor, f1]
theorem State.cutTurn_frame (s : State) (d : Nat) : (s.cutTurn d).pending = s.pending ∧ (s.cutTurn d).variant = s.variant ∧ (s.cutTurn d).applied = s.applied ∧ (s.cutTurn d).latches = s.latches ∧ (s.cutTurn d).commits = s.commits ∧ (s.cutTurn d).resetting = s.resetting ∧ (s.cutTurn d).pwr = s.pwr ∧ (s.cutTurn d).hk = s.hk ∧ (s.cutTurn d).clk = s.clk ∧ (s.cutTurn d).bw = s.bw ∧ (s.cutTurn d).med = s.med ∧ (s.cutTurn d).roms = s.roms ∧ (s.cutTurn d).caches = s.caches ∧ (s.cutTurn d).zl0 = s.zl0 ∧ (s.cutTurn d).zl1 = s.zl1 ∧ (s.cutTurn d).ring = s.ring ∧ (s.cutTurn d).mbox = s.mbox ∧ (s.cutTurn d).dbg = s.dbg ∧ (s.cutTurn d).i3c = s.i3c ∧ (s.cutTurn d).drawn = s.drawn := by
  have f1 := @State.checkOver_frame; have f2 := @State.onRota_frame; have f3 := @State.passPos_frame; have f4 := @State.turnCutFor_frame
  simp [State.cutTurn, f1, f2, f3, f4]
theorem State.dieFail_frame (s : State) (d : Nat) (cause : Nat) : (s.dieFail d cause).pending = s.pending ∧ (s.dieFail d cause).variant = s.variant ∧ (s.dieFail d cause).applied = s.applied ∧ (s.dieFail d cause).latches = s.latches ∧ (s.dieFail d cause).commits = s.commits ∧ (s.dieFail d cause).resetting = s.resetting ∧ (s.dieFail d cause).pwr = s.pwr ∧ (s.dieFail d cause).hk = s.hk ∧ (s.dieFail d cause).clk = s.clk ∧ (s.dieFail d cause).bw = s.bw ∧ (s.dieFail d cause).med = s.med ∧ (s.dieFail d cause).roms = s.roms ∧ (s.dieFail d cause).caches = s.caches ∧ (s.dieFail d cause).zl0 = s.zl0 ∧ (s.dieFail d cause).zl1 = s.zl1 ∧ (s.dieFail d cause).ring = s.ring ∧ (s.dieFail d cause).mbox = s.mbox ∧ (s.dieFail d cause).dbg = s.dbg ∧ (s.dieFail d cause).i3c = s.i3c ∧ (s.dieFail d cause).drawn = s.drawn := by
  have f1 := @State.cutTurn_frame; have f2 := @State.event_frame; have f3 := @State.onPnv_frame; have f4 := @State.raiseRec_frame; have f5 := @State.reduce_frame; have f6 := @State.setFld_frame; have f7 := @State.strikeGang_frame
  simp [State.dieFail, f1, f2, f3, f4, f5, f6, f7]
theorem State.lastingChunk_frame (s : State) (d : Nat) : (s.lastingChunk d).pending = s.pending ∧ (s.lastingChunk d).variant = s.variant ∧ (s.lastingChunk d).applied = s.applied ∧ (s.lastingChunk d).latches = s.latches ∧ (s.lastingChunk d).commits = s.commits ∧ (s.lastingChunk d).resetting = s.resetting ∧ (s.lastingChunk d).pwr = s.pwr ∧ (s.lastingChunk d).hk = s.hk ∧ (s.lastingChunk d).clk = s.clk ∧ (s.lastingChunk d).bw = s.bw ∧ (s.lastingChunk d).med = s.med ∧ (s.lastingChunk d).roms = s.roms ∧ (s.lastingChunk d).caches = s.caches ∧ (s.lastingChunk d).zl0 = s.zl0 ∧ (s.lastingChunk d).zl1 = s.zl1 ∧ (s.lastingChunk d).ring = s.ring ∧ (s.lastingChunk d).mbox = s.mbox ∧ (s.lastingChunk d).dbg = s.dbg ∧ (s.lastingChunk d).i3c = s.i3c ∧ (s.lastingChunk d).drawn = s.drawn := by
  have f1 := @State.bumpSat_frame; have f2 := @State.dieFail_frame; have f3 := @State.raise_frame; have f4 := @State.setFld_frame
  simp [State.lastingChunk, f1, f2, f3, f4]
theorem State.forceFail_frame (s : State) (st : Nat) (w : Nat) : (s.forceFail st w).pending = s.pending ∧ (s.forceFail st w).variant = s.variant ∧ (s.forceFail st w).latches = s.latches ∧ (s.forceFail st w).clk = s.clk ∧ (s.forceFail st w).med = s.med ∧ (s.forceFail st w).roms = s.roms ∧ (s.forceFail st w).i3c = s.i3c := by
  have f1 := @State.dieFail_frame
  simp [State.forceFail, f1]
theorem State.restore_frame (s : State) (p : Nat → Bool) : (s.restore p).pending = s.pending ∧ (s.restore p).variant = s.variant ∧ (s.restore p).applied = s.applied ∧ (s.restore p).latches = s.latches ∧ (s.restore p).commits = s.commits ∧ (s.restore p).resetting = s.resetting ∧ (s.restore p).pwr = s.pwr ∧ (s.restore p).hk = s.hk ∧ (s.restore p).clk = s.clk ∧ (s.restore p).bw = s.bw ∧ (s.restore p).med = s.med ∧ (s.restore p).roms = s.roms ∧ (s.restore p).caches = s.caches ∧ (s.restore p).zl0 = s.zl0 ∧ (s.restore p).zl1 = s.zl1 ∧ (s.restore p).ring = s.ring ∧ (s.restore p).mbox = s.mbox ∧ (s.restore p).dbg = s.dbg ∧ (s.restore p).i3c = s.i3c ∧ (s.restore p).drawn = s.drawn := by
  have f1 := @State.setReduced_frame; have f2 := @State.toState_frame
  simp [State.restore, f1, f2]

end Sys2Proof.Machine
end

