-- ==== Sys2Proof/Laws/FrameDram.lean ====
section
/-! SUPPORT. Frames of the operations of Machine/Dram.lean: the fields of State that each leaves as they were. -/

set_option maxRecDepth 4000
set_option linter.unusedSimpArgs false

namespace Sys2Proof.Machine

theorem State.onDram_frame (s : State) (f : Dram → Dram) : (s.onDram f).pending = s.pending ∧ (s.onDram f).variant = s.variant ∧ (s.onDram f).applied = s.applied ∧ (s.onDram f).latches = s.latches ∧ (s.onDram f).commits = s.commits ∧ (s.onDram f).resetting = s.resetting ∧ (s.onDram f).dev = s.dev ∧ (s.onDram f).pwr = s.pwr ∧ (s.onDram f).hk = s.hk ∧ (s.onDram f).clk = s.clk ∧ (s.onDram f).bw = s.bw ∧ (s.onDram f).gang0 = s.gang0 ∧ (s.onDram f).gang1 = s.gang1 ∧ (s.onDram f).med = s.med ∧ (s.onDram f).roms = s.roms ∧ (s.onDram f).prot = s.prot ∧ (s.onDram f).caches = s.caches ∧ (s.onDram f).drift = s.drift ∧ (s.onDram f).zl0 = s.zl0 ∧ (s.onDram f).zl1 = s.zl1 ∧ (s.onDram f).ring = s.ring ∧ (s.onDram f).mbox = s.mbox ∧ (s.onDram f).nvm = s.nvm ∧ (s.onDram f).srm = s.srm ∧ (s.onDram f).dbg = s.dbg ∧ (s.onDram f).i3c = s.i3c ∧ (s.onDram f).drawn = s.drawn := by
  simp [State.onDram]
theorem State.hammer_frame (s : State) (ch : Nat) (sub : Nat) (bank : Nat) (row : Nat) (cls : Nat) : (s.hammer ch sub bank row cls).pending = s.pending ∧ (s.hammer ch sub bank row cls).variant = s.variant ∧ (s.hammer ch sub bank row cls).applied = s.applied ∧ (s.hammer ch sub bank row cls).latches = s.latches ∧ (s.hammer ch sub bank row cls).commits = s.commits ∧ (s.hammer ch sub bank row cls).resetting = s.resetting ∧ (s.hammer ch sub bank row cls).dev = s.dev ∧ (s.hammer ch sub bank row cls).pwr = s.pwr ∧ (s.hammer ch sub bank row cls).hk = s.hk ∧ (s.hammer ch sub bank row cls).clk = s.clk ∧ (s.hammer ch sub bank row cls).gang0 = s.gang0 ∧ (s.hammer ch sub bank row cls).gang1 = s.gang1 ∧ (s.hammer ch sub bank row cls).med = s.med ∧ (s.hammer ch sub bank row cls).roms = s.roms ∧ (s.hammer ch sub bank row cls).prot = s.prot ∧ (s.hammer ch sub bank row cls).drift = s.drift ∧ (s.hammer ch sub bank row cls).zl0 = s.zl0 ∧ (s.hammer ch sub bank row cls).zl1 = s.zl1 ∧ (s.hammer ch sub bank row cls).mbox = s.mbox ∧ (s.hammer ch sub bank row cls).nvm = s.nvm ∧ (s.hammer ch sub bank row cls).srm = s.srm ∧ (s.hammer ch sub bank row cls).dbg = s.dbg ∧ (s.hammer ch sub bank row cls).i3c = s.i3c ∧ (s.hammer ch sub bank row cls).drawn = s.drawn := by
  have f1 := @State.bump_frame; have f2 := @State.raiseRec_frame; have f3 := @State.setFld_frame
  simp [State.hammer, f1, f2, f3]
theorem State.activate_frame (s : State) (ch : Nat) (sub : Nat) (bank : Nat) (row : Nat) (cls : Nat) : (s.activate ch sub bank row cls).pending = s.pending ∧ (s.activate ch sub bank row cls).variant = s.variant ∧ (s.activate ch sub bank row cls).applied = s.applied ∧ (s.activate ch sub bank row cls).latches = s.latches ∧ (s.activate ch sub bank row cls).commits = s.commits ∧ (s.activate ch sub bank row cls).resetting = s.resetting ∧ (s.activate ch sub bank row cls).dev = s.dev ∧ (s.activate ch sub bank row cls).pwr = s.pwr ∧ (s.activate ch sub bank row cls).hk = s.hk ∧ (s.activate ch sub bank row cls).clk = s.clk ∧ (s.activate ch sub bank row cls).gang0 = s.gang0 ∧ (s.activate ch sub bank row cls).gang1 = s.gang1 ∧ (s.activate ch sub bank row cls).med = s.med ∧ (s.activate ch sub bank row cls).roms = s.roms ∧ (s.activate ch sub bank row cls).prot = s.prot ∧ (s.activate ch sub bank row cls).drift = s.drift ∧ (s.activate ch sub bank row cls).zl0 = s.zl0 ∧ (s.activate ch sub bank row cls).zl1 = s.zl1 ∧ (s.activate ch sub bank row cls).mbox = s.mbox ∧ (s.activate ch sub bank row cls).nvm = s.nvm ∧ (s.activate ch sub bank row cls).srm = s.srm ∧ (s.activate ch sub bank row cls).dbg = s.dbg ∧ (s.activate ch sub bank row cls).i3c = s.i3c ∧ (s.activate ch sub bank row cls).drawn = s.drawn := by
  have f1 := @State.hammer_frame; have f2 := @State.onDram_frame
  simp [State.activate, f1, f2]
theorem State.ubPush_frame (s : State) (e : UbE) : (s.ubPush e).pending = s.pending ∧ (s.ubPush e).variant = s.variant ∧ (s.ubPush e).applied = s.applied ∧ (s.ubPush e).latches = s.latches ∧ (s.ubPush e).commits = s.commits ∧ (s.ubPush e).resetting = s.resetting ∧ (s.ubPush e).dev = s.dev ∧ (s.ubPush e).pwr = s.pwr ∧ (s.ubPush e).hk = s.hk ∧ (s.ubPush e).clk = s.clk ∧ (s.ubPush e).bw = s.bw ∧ (s.ubPush e).gang0 = s.gang0 ∧ (s.ubPush e).gang1 = s.gang1 ∧ (s.ubPush e).med = s.med ∧ (s.ubPush e).roms = s.roms ∧ (s.ubPush e).prot = s.prot ∧ (s.ubPush e).caches = s.caches ∧ (s.ubPush e).drift = s.drift ∧ (s.ubPush e).zl0 = s.zl0 ∧ (s.ubPush e).zl1 = s.zl1 ∧ (s.ubPush e).ring = s.ring ∧ (s.ubPush e).mbox = s.mbox ∧ (s.ubPush e).nvm = s.nvm ∧ (s.ubPush e).srm = s.srm ∧ (s.ubPush e).dbg = s.dbg ∧ (s.ubPush e).i3c = s.i3c ∧ (s.ubPush e).drawn = s.drawn := by
  have f1 := @State.bump_frame; have f2 := @State.onDram_frame; have f3 := @State.raise_frame; have f4 := @State.setFlag_frame; have f5 := @State.settle_frame
  simp [State.ubPush, f1, f2, f3, f4, f5]
theorem State.scInvalidate_frame (s : State) (lseg : Nat) : (s.scInvalidate lseg).pending = s.pending ∧ (s.scInvalidate lseg).variant = s.variant ∧ (s.scInvalidate lseg).applied = s.applied ∧ (s.scInvalidate lseg).latches = s.latches ∧ (s.scInvalidate lseg).commits = s.commits ∧ (s.scInvalidate lseg).resetting = s.resetting ∧ (s.scInvalidate lseg).pwr = s.pwr ∧ (s.scInvalidate lseg).hk = s.hk ∧ (s.scInvalidate lseg).clk = s.clk ∧ (s.scInvalidate lseg).bw = s.bw ∧ (s.scInvalidate lseg).med = s.med ∧ (s.scInvalidate lseg).roms = s.roms ∧ (s.scInvalidate lseg).caches = s.caches ∧ (s.scInvalidate lseg).zl0 = s.zl0 ∧ (s.scInvalidate lseg).zl1 = s.zl1 ∧ (s.scInvalidate lseg).ring = s.ring ∧ (s.scInvalidate lseg).mbox = s.mbox ∧ (s.scInvalidate lseg).dbg = s.dbg ∧ (s.scInvalidate lseg).i3c = s.i3c ∧ (s.scInvalidate lseg).drawn = s.drawn := by
  have f1 := @State.onDram_frame; have f2 := @State.ubPush_frame
  simp [State.scInvalidate, f1, f2]
theorem State.ubMap_frame (s : State) (lseg : Nat) : (s.ubMap lseg).pending = s.pending ∧ (s.ubMap lseg).variant = s.variant ∧ (s.ubMap lseg).applied = s.applied ∧ (s.ubMap lseg).latches = s.latches ∧ (s.ubMap lseg).commits = s.commits ∧ (s.ubMap lseg).resetting = s.resetting ∧ (s.ubMap lseg).pwr = s.pwr ∧ (s.ubMap lseg).hk = s.hk ∧ (s.ubMap lseg).clk = s.clk ∧ (s.ubMap lseg).bw = s.bw ∧ (s.ubMap lseg).med = s.med ∧ (s.ubMap lseg).roms = s.roms ∧ (s.ubMap lseg).caches = s.caches ∧ (s.ubMap lseg).zl0 = s.zl0 ∧ (s.ubMap lseg).zl1 = s.zl1 ∧ (s.ubMap lseg).ring = s.ring ∧ (s.ubMap lseg).mbox = s.mbox ∧ (s.ubMap lseg).dbg = s.dbg ∧ (s.ubMap lseg).i3c = s.i3c ∧ (s.ubMap lseg).drawn = s.drawn := by
  have f1 := @State.ubPush_frame
  simp [State.ubMap, f1]
theorem State.scErupt_frame (s : State) : (s.scErupt).pending = s.pending ∧ (s.scErupt).variant = s.variant ∧ (s.scErupt).applied = s.applied ∧ (s.scErupt).latches = s.latches ∧ (s.scErupt).commits = s.commits ∧ (s.scErupt).resetting = s.resetting ∧ (s.scErupt).pwr = s.pwr ∧ (s.scErupt).hk = s.hk ∧ (s.scErupt).clk = s.clk ∧ (s.scErupt).med = s.med ∧ (s.scErupt).roms = s.roms ∧ (s.scErupt).dbg = s.dbg ∧ (s.scErupt).i3c = s.i3c := by
  have f1 := @State.onDram_frame
  simp [State.scErupt, f1]
theorem State.dramUe_frame (s : State) (ch : Nat) (sub : Nat) (cls : Nat) (area : Nat) (line : Nat) (lasting : Bool) : (s.dramUe ch sub cls area line lasting).pending = s.pending ∧ (s.dramUe ch sub cls area line lasting).variant = s.variant ∧ (s.dramUe ch sub cls area line lasting).applied = s.applied ∧ (s.dramUe ch sub cls area line lasting).latches = s.latches ∧ (s.dramUe ch sub cls area line lasting).commits = s.commits ∧ (s.dramUe ch sub cls area line lasting).resetting = s.resetting ∧ (s.dramUe ch sub cls area line lasting).dev = s.dev ∧ (s.dramUe ch sub cls area line lasting).pwr = s.pwr ∧ (s.dramUe ch sub cls area line lasting).hk = s.hk ∧ (s.dramUe ch sub cls area line lasting).clk = s.clk ∧ (s.dramUe ch sub cls area line lasting).bw = s.bw ∧ (s.dramUe ch sub cls area line lasting).gang0 = s.gang0 ∧ (s.dramUe ch sub cls area line lasting).gang1 = s.gang1 ∧ (s.dramUe ch sub cls area line lasting).med = s.med ∧ (s.dramUe ch sub cls area line lasting).roms = s.roms ∧ (s.dramUe ch sub cls area line lasting).xlt = s.xlt ∧ (s.dramUe ch sub cls area line lasting).prot = s.prot ∧ (s.dramUe ch sub cls area line lasting).dram = s.dram ∧ (s.dramUe ch sub cls area line lasting).drift = s.drift ∧ (s.dramUe ch sub cls area line lasting).zl0 = s.zl0 ∧ (s.dramUe ch sub cls area line lasting).zl1 = s.zl1 ∧ (s.dramUe ch sub cls area line lasting).strm = s.strm ∧ (s.dramUe ch sub cls area line lasting).mbox = s.mbox ∧ (s.dramUe ch sub cls area line lasting).nvm = s.nvm ∧ (s.dramUe ch sub cls area line lasting).srm = s.srm ∧ (s.dramUe ch sub cls area line lasting).dbg = s.dbg ∧ (s.dramUe ch sub cls area line lasting).i3c = s.i3c ∧ (s.dramUe ch sub cls area line lasting).drawn = s.drawn := by
  have f1 := @State.bumpSat_frame; have f2 := @State.bump_frame; have f3 := @State.event_frame; have f4 := @State.onPnv_frame; have f5 := @State.raiseRec_frame; have f6 := @State.reportCode_frame; have f7 := @State.setFlag_frame; have f8 := @State.setFld_frame
  simp [State.dramUe, f1, f2, f3, f4, f5, f6, f7, f8]
theorem State.coreMem_frame (s : State) (m : MemErr) : (s.coreMem m).2.pending = s.pending ∧ (s.coreMem m).2.variant = s.variant ∧ (s.coreMem m).2.applied = s.applied ∧ (s.coreMem m).2.latches = s.latches ∧ (s.coreMem m).2.commits = s.commits ∧ (s.coreMem m).2.pwr = s.pwr ∧ (s.coreMem m).2.hk = s.hk ∧ (s.coreMem m).2.clk = s.clk ∧ (s.coreMem m).2.bw = s.bw ∧ (s.coreMem m).2.gang0 = s.gang0 ∧ (s.coreMem m).2.gang1 = s.gang1 ∧ (s.coreMem m).2.med = s.med ∧ (s.coreMem m).2.roms = s.roms ∧ (s.coreMem m).2.xlt = s.xlt ∧ (s.coreMem m).2.prot = s.prot ∧ (s.coreMem m).2.dram = s.dram ∧ (s.coreMem m).2.drift = s.drift ∧ (s.coreMem m).2.zl0 = s.zl0 ∧ (s.coreMem m).2.zl1 = s.zl1 ∧ (s.coreMem m).2.strm = s.strm ∧ (s.coreMem m).2.mbox = s.mbox ∧ (s.coreMem m).2.srm = s.srm ∧ (s.coreMem m).2.dbg = s.dbg ∧ (s.coreMem m).2.i3c = s.i3c := by
  have f1 := @State.bump_frame; have f2 := @State.dramUe_frame; have f3 := @State.raise_frame
  dsimp only [State.coreMem]; (repeat' split) <;> simp [f1, f2, f3]
theorem State.markWritten_frame (s : State) (e : UbE) (h : Nat) : (s.markWritten e h).pending = s.pending ∧ (s.markWritten e h).variant = s.variant ∧ (s.markWritten e h).applied = s.applied ∧ (s.markWritten e h).latches = s.latches ∧ (s.markWritten e h).commits = s.commits ∧ (s.markWritten e h).resetting = s.resetting ∧ (s.markWritten e h).dev = s.dev ∧ (s.markWritten e h).pwr = s.pwr ∧ (s.markWritten e h).hk = s.hk ∧ (s.markWritten e h).clk = s.clk ∧ (s.markWritten e h).gang0 = s.gang0 ∧ (s.markWritten e h).gang1 = s.gang1 ∧ (s.markWritten e h).med = s.med ∧ (s.markWritten e h).roms = s.roms ∧ (s.markWritten e h).prot = s.prot ∧ (s.markWritten e h).drift = s.drift ∧ (s.markWritten e h).zl0 = s.zl0 ∧ (s.markWritten e h).zl1 = s.zl1 ∧ (s.markWritten e h).mbox = s.mbox ∧ (s.markWritten e h).nvm = s.nvm ∧ (s.markWritten e h).srm = s.srm ∧ (s.markWritten e h).dbg = s.dbg ∧ (s.markWritten e h).i3c = s.i3c ∧ (s.markWritten e h).drawn = s.drawn := by
  have f1 := @State.emit_frame; have f2 := @State.ev_frame; have f3 := @State.moved_frame; have f4 := @State.onDram_frame
  simp [State.markWritten, f1, f2, f3, f4]
theorem State.panicEnd_frame (s : State) : (s.panicEnd).pending = s.pending ∧ (s.panicEnd).variant = s.variant ∧ (s.panicEnd).applied = s.applied ∧ (s.panicEnd).latches = s.latches ∧ (s.panicEnd).commits = s.commits ∧ (s.panicEnd).resetting = s.resetting ∧ (s.panicEnd).dev = s.dev ∧ (s.panicEnd).pwr = s.pwr ∧ (s.panicEnd).hk = s.hk ∧ (s.panicEnd).clk = s.clk ∧ (s.panicEnd).gang0 = s.gang0 ∧ (s.panicEnd).gang1 = s.gang1 ∧ (s.panicEnd).med = s.med ∧ (s.panicEnd).roms = s.roms ∧ (s.panicEnd).prot = s.prot ∧ (s.panicEnd).drift = s.drift ∧ (s.panicEnd).zl0 = s.zl0 ∧ (s.panicEnd).zl1 = s.zl1 ∧ (s.panicEnd).mbox = s.mbox ∧ (s.panicEnd).nvm = s.nvm ∧ (s.panicEnd).srm = s.srm ∧ (s.panicEnd).dbg = s.dbg ∧ (s.panicEnd).i3c = s.i3c ∧ (s.panicEnd).drawn = s.drawn := by
  have f1 := @State.setFlag_frame; have f2 := @State.settle_frame
  simp [State.panicEnd, f1, f2]
theorem State.dramCe_frame (s : State) (ch : Nat) (kind : UbKind) (idx : Nat) : (s.dramCe ch kind idx).pending = s.pending ∧ (s.dramCe ch kind idx).variant = s.variant ∧ (s.dramCe ch kind idx).applied = s.applied ∧ (s.dramCe ch kind idx).latches = s.latches ∧ (s.dramCe ch kind idx).commits = s.commits ∧ (s.dramCe ch kind idx).resetting = s.resetting ∧ (s.dramCe ch kind idx).dev = s.dev ∧ (s.dramCe ch kind idx).pwr = s.pwr ∧ (s.dramCe ch kind idx).hk = s.hk ∧ (s.dramCe ch kind idx).clk = s.clk ∧ (s.dramCe ch kind idx).gang0 = s.gang0 ∧ (s.dramCe ch kind idx).gang1 = s.gang1 ∧ (s.dramCe ch kind idx).med = s.med ∧ (s.dramCe ch kind idx).roms = s.roms ∧ (s.dramCe ch kind idx).prot = s.prot ∧ (s.dramCe ch kind idx).drift = s.drift ∧ (s.dramCe ch kind idx).zl0 = s.zl0 ∧ (s.dramCe ch kind idx).zl1 = s.zl1 ∧ (s.dramCe ch kind idx).mbox = s.mbox ∧ (s.dramCe ch kind idx).nvm = s.nvm ∧ (s.dramCe ch kind idx).srm = s.srm ∧ (s.dramCe ch kind idx).dbg = s.dbg ∧ (s.dramCe ch kind idx).i3c = s.i3c ∧ (s.dramCe ch kind idx).drawn = s.drawn := by
  have f1 := @State.bump_frame; have f2 := @State.raise_frame; have f3 := @State.ubPush_frame
  simp [State.dramCe, f1, f2, f3]
theorem State.scFill_frame (s : State) (lsn : Nat) (poison : Bool) (d : SectorData) : (s.scFill lsn poison d).pending = s.pending ∧ (s.scFill lsn poison d).variant = s.variant ∧ (s.scFill lsn poison d).applied = s.applied ∧ (s.scFill lsn poison d).latches = s.latches ∧ (s.scFill lsn poison d).commits = s.commits ∧ (s.scFill lsn poison d).resetting = s.resetting ∧ (s.scFill lsn poison d).pwr = s.pwr ∧ (s.scFill lsn poison d).hk = s.hk ∧ (s.scFill lsn poison d).clk = s.clk ∧ (s.scFill lsn poison d).med = s.med ∧ (s.scFill lsn poison d).roms = s.roms ∧ (s.scFill lsn poison d).i3c = s.i3c := by
  have f1 := @State.bump_frame; have f2 := @State.onDram_frame; have f3 := @State.raise_frame; have f4 := @State.ubPush_frame
  simp [State.scFill, f1, f2, f3, f4]

end Sys2Proof.Machine
end

