-- ==== Sys2Proof/Laws/FrameRingMsg.lean ====
section
/-! SUPPORT. Frames of the operations of Machine/RingMsg.lean: the fields of State that each leaves as they were. -/

set_option maxRecDepth 4000
set_option linter.unusedSimpArgs false

namespace Sys2Proof.Machine

theorem State.onRing_frame (s : State) (f : Ring → Ring) : (s.onRing f).pending = s.pending ∧ (s.onRing f).variant = s.variant ∧ (s.onRing f).applied = s.applied ∧ (s.onRing f).latches = s.latches ∧ (s.onRing f).commits = s.commits ∧ (s.onRing f).resetting = s.resetting ∧ (s.onRing f).dev = s.dev ∧ (s.onRing f).pwr = s.pwr ∧ (s.onRing f).hk = s.hk ∧ (s.onRing f).clk = s.clk ∧ (s.onRing f).bw = s.bw ∧ (s.onRing f).gang0 = s.gang0 ∧ (s.onRing f).gang1 = s.gang1 ∧ (s.onRing f).med = s.med ∧ (s.onRing f).roms = s.roms ∧ (s.onRing f).xlt = s.xlt ∧ (s.onRing f).prot = s.prot ∧ (s.onRing f).dram = s.dram ∧ (s.onRing f).link = s.link ∧ (s.onRing f).reads = s.reads ∧ (s.onRing f).drift = s.drift ∧ (s.onRing f).zl0 = s.zl0 ∧ (s.onRing f).zl1 = s.zl1 ∧ (s.onRing f).strm = s.strm ∧ (s.onRing f).mbox = s.mbox ∧ (s.onRing f).nvm = s.nvm ∧ (s.onRing f).srm = s.srm ∧ (s.onRing f).dbg = s.dbg ∧ (s.onRing f).i3c = s.i3c ∧ (s.onRing f).drawn = s.drawn := by
  simp [State.onRing]
theorem State.sendAt_frame (s : State) (t : Nat) (ty : RTy) (src : Nat) (dst : Nat) (l : RLine) : (s.sendAt t ty src dst l).pending = s.pending ∧ (s.sendAt t ty src dst l).variant = s.variant ∧ (s.sendAt t ty src dst l).applied = s.applied ∧ (s.sendAt t ty src dst l).latches = s.latches ∧ (s.sendAt t ty src dst l).commits = s.commits ∧ (s.sendAt t ty src dst l).resetting = s.resetting ∧ (s.sendAt t ty src dst l).dev = s.dev ∧ (s.sendAt t ty src dst l).pwr = s.pwr ∧ (s.sendAt t ty src dst l).hk = s.hk ∧ (s.sendAt t ty src dst l).clk = s.clk ∧ (s.sendAt t ty src dst l).bw = s.bw ∧ (s.sendAt t ty src dst l).gang0 = s.gang0 ∧ (s.sendAt t ty src dst l).gang1 = s.gang1 ∧ (s.sendAt t ty src dst l).med = s.med ∧ (s.sendAt t ty src dst l).roms = s.roms ∧ (s.sendAt t ty src dst l).xlt = s.xlt ∧ (s.sendAt t ty src dst l).prot = s.prot ∧ (s.sendAt t ty src dst l).dram = s.dram ∧ (s.sendAt t ty src dst l).drift = s.drift ∧ (s.sendAt t ty src dst l).zl0 = s.zl0 ∧ (s.sendAt t ty src dst l).zl1 = s.zl1 ∧ (s.sendAt t ty src dst l).strm = s.strm ∧ (s.sendAt t ty src dst l).mbox = s.mbox ∧ (s.sendAt t ty src dst l).nvm = s.nvm ∧ (s.sendAt t ty src dst l).srm = s.srm ∧ (s.sendAt t ty src dst l).dbg = s.dbg ∧ (s.sendAt t ty src dst l).i3c = s.i3c ∧ (s.sendAt t ty src dst l).drawn = s.drawn := by
  have f1 := @State.onRing_frame
  simp [State.sendAt, f1]
theorem State.sendFill_frame (s : State) (t : Nat) (target : Nat) (a : Nat) (keyid : Nat) (d : Line) : (s.sendFill t target a keyid d).pending = s.pending ∧ (s.sendFill t target a keyid d).variant = s.variant ∧ (s.sendFill t target a keyid d).applied = s.applied ∧ (s.sendFill t target a keyid d).latches = s.latches ∧ (s.sendFill t target a keyid d).commits = s.commits ∧ (s.sendFill t target a keyid d).resetting = s.resetting ∧ (s.sendFill t target a keyid d).dev = s.dev ∧ (s.sendFill t target a keyid d).pwr = s.pwr ∧ (s.sendFill t target a keyid d).hk = s.hk ∧ (s.sendFill t target a keyid d).clk = s.clk ∧ (s.sendFill t target a keyid d).gang0 = s.gang0 ∧ (s.sendFill t target a keyid d).gang1 = s.gang1 ∧ (s.sendFill t target a keyid d).med = s.med ∧ (s.sendFill t target a keyid d).roms = s.roms ∧ (s.sendFill t target a keyid d).prot = s.prot ∧ (s.sendFill t target a keyid d).drift = s.drift ∧ (s.sendFill t target a keyid d).zl0 = s.zl0 ∧ (s.sendFill t target a keyid d).zl1 = s.zl1 ∧ (s.sendFill t target a keyid d).mbox = s.mbox ∧ (s.sendFill t target a keyid d).nvm = s.nvm ∧ (s.sendFill t target a keyid d).srm = s.srm ∧ (s.sendFill t target a keyid d).dbg = s.dbg ∧ (s.sendFill t target a keyid d).i3c = s.i3c ∧ (s.sendFill t target a keyid d).drawn = s.drawn := by
  have f1 := @State.sendAt_frame
  simp [State.sendFill, f1]
theorem State.startTx_frame (s : State) (t : Nat) (x : RTx) : (s.startTx t x).pending = s.pending ∧ (s.startTx t x).variant = s.variant ∧ (s.startTx t x).applied = s.applied ∧ (s.startTx t x).latches = s.latches ∧ (s.startTx t x).commits = s.commits ∧ (s.startTx t x).resetting = s.resetting ∧ (s.startTx t x).dev = s.dev ∧ (s.startTx t x).pwr = s.pwr ∧ (s.startTx t x).hk = s.hk ∧ (s.startTx t x).clk = s.clk ∧ (s.startTx t x).bw = s.bw ∧ (s.startTx t x).gang0 = s.gang0 ∧ (s.startTx t x).gang1 = s.gang1 ∧ (s.startTx t x).med = s.med ∧ (s.startTx t x).roms = s.roms ∧ (s.startTx t x).xlt = s.xlt ∧ (s.startTx t x).prot = s.prot ∧ (s.startTx t x).dram = s.dram ∧ (s.startTx t x).drift = s.drift ∧ (s.startTx t x).zl0 = s.zl0 ∧ (s.startTx t x).zl1 = s.zl1 ∧ (s.startTx t x).strm = s.strm ∧ (s.startTx t x).mbox = s.mbox ∧ (s.startTx t x).nvm = s.nvm ∧ (s.startTx t x).srm = s.srm ∧ (s.startTx t x).dbg = s.dbg ∧ (s.startTx t x).i3c = s.i3c ∧ (s.startTx t x).drawn = s.drawn := by
  have f1 := @State.bump_frame; have f2 := @State.ev_frame; have f3 := @State.onRing_frame
  simp [State.startTx, f1, f2, f3]
theorem State.send_frame (s : State) (ty : RTy) (src : Nat) (dst : Nat) (l : RLine) : (s.send ty src dst l).pending = s.pending ∧ (s.send ty src dst l).variant = s.variant ∧ (s.send ty src dst l).applied = s.applied ∧ (s.send ty src dst l).latches = s.latches ∧ (s.send ty src dst l).commits = s.commits ∧ (s.send ty src dst l).pwr = s.pwr ∧ (s.send ty src dst l).hk = s.hk ∧ (s.send ty src dst l).clk = s.clk ∧ (s.send ty src dst l).bw = s.bw ∧ (s.send ty src dst l).gang0 = s.gang0 ∧ (s.send ty src dst l).gang1 = s.gang1 ∧ (s.send ty src dst l).med = s.med ∧ (s.send ty src dst l).roms = s.roms ∧ (s.send ty src dst l).xlt = s.xlt ∧ (s.send ty src dst l).prot = s.prot ∧ (s.send ty src dst l).dram = s.dram ∧ (s.send ty src dst l).drift = s.drift ∧ (s.send ty src dst l).zl0 = s.zl0 ∧ (s.send ty src dst l).zl1 = s.zl1 ∧ (s.send ty src dst l).strm = s.strm ∧ (s.send ty src dst l).mbox = s.mbox ∧ (s.send ty src dst l).srm = s.srm ∧ (s.send ty src dst l).dbg = s.dbg ∧ (s.send ty src dst l).i3c = s.i3c := by
  have f1 := @State.sendAt_frame
  simp [State.send, f1]
theorem State.snoopWrite_frame (s : State) (l : RLine) : (s.snoopWrite l).pending = s.pending ∧ (s.snoopWrite l).variant = s.variant ∧ (s.snoopWrite l).applied = s.applied ∧ (s.snoopWrite l).latches = s.latches ∧ (s.snoopWrite l).commits = s.commits ∧ (s.snoopWrite l).resetting = s.resetting ∧ (s.snoopWrite l).dev = s.dev ∧ (s.snoopWrite l).pwr = s.pwr ∧ (s.snoopWrite l).hk = s.hk ∧ (s.snoopWrite l).clk = s.clk ∧ (s.snoopWrite l).gang0 = s.gang0 ∧ (s.snoopWrite l).gang1 = s.gang1 ∧ (s.snoopWrite l).med = s.med ∧ (s.snoopWrite l).roms = s.roms ∧ (s.snoopWrite l).prot = s.prot ∧ (s.snoopWrite l).drift = s.drift ∧ (s.snoopWrite l).zl0 = s.zl0 ∧ (s.snoopWrite l).zl1 = s.zl1 ∧ (s.snoopWrite l).mbox = s.mbox ∧ (s.snoopWrite l).nvm = s.nvm ∧ (s.snoopWrite l).srm = s.srm ∧ (s.snoopWrite l).dbg = s.dbg ∧ (s.snoopWrite l).i3c = s.i3c ∧ (s.snoopWrite l).drawn = s.drawn := by
  have f1 := @State.startTx_frame
  simp [State.snoopWrite, f1]
theorem State.staleFills_frame (s : State) (l : RLine) : (s.staleFills l).pending = s.pending ∧ (s.staleFills l).variant = s.variant ∧ (s.staleFills l).applied = s.applied ∧ (s.staleFills l).latches = s.latches ∧ (s.staleFills l).commits = s.commits ∧ (s.staleFills l).resetting = s.resetting ∧ (s.staleFills l).dev = s.dev ∧ (s.staleFills l).pwr = s.pwr ∧ (s.staleFills l).hk = s.hk ∧ (s.staleFills l).clk = s.clk ∧ (s.staleFills l).gang0 = s.gang0 ∧ (s.staleFills l).gang1 = s.gang1 ∧ (s.staleFills l).med = s.med ∧ (s.staleFills l).roms = s.roms ∧ (s.staleFills l).prot = s.prot ∧ (s.staleFills l).drift = s.drift ∧ (s.staleFills l).zl0 = s.zl0 ∧ (s.staleFills l).zl1 = s.zl1 ∧ (s.staleFills l).mbox = s.mbox ∧ (s.staleFills l).nvm = s.nvm ∧ (s.staleFills l).srm = s.srm ∧ (s.staleFills l).dbg = s.dbg ∧ (s.staleFills l).i3c = s.i3c ∧ (s.staleFills l).drawn = s.drawn := by
  simp [State.staleFills]
theorem State.taken_frame (s : State) (id : Nat) : (s.taken id).pending = s.pending ∧ (s.taken id).variant = s.variant ∧ (s.taken id).applied = s.applied ∧ (s.taken id).latches = s.latches ∧ (s.taken id).commits = s.commits ∧ (s.taken id).pwr = s.pwr ∧ (s.taken id).hk = s.hk ∧ (s.taken id).clk = s.clk ∧ (s.taken id).bw = s.bw ∧ (s.taken id).gang0 = s.gang0 ∧ (s.taken id).gang1 = s.gang1 ∧ (s.taken id).med = s.med ∧ (s.taken id).roms = s.roms ∧ (s.taken id).xlt = s.xlt ∧ (s.taken id).prot = s.prot ∧ (s.taken id).dram = s.dram ∧ (s.taken id).drift = s.drift ∧ (s.taken id).zl0 = s.zl0 ∧ (s.taken id).zl1 = s.zl1 ∧ (s.taken id).strm = s.strm ∧ (s.taken id).mbox = s.mbox ∧ (s.taken id).srm = s.srm ∧ (s.taken id).dbg = s.dbg ∧ (s.taken id).i3c = s.i3c := by
  have f1 := @State.onRing_frame
  simp [State.taken, f1]

end Sys2Proof.Machine
end

