-- ==== Sys2Proof/Laws/FrameCache.lean ====
section
/-! SUPPORT. Frames of the operations of Machine/Cache.lean: the fields of State that each leaves as they were. -/

set_option maxRecDepth 4000
set_option linter.unusedSimpArgs false

namespace Sys2Proof.Machine

theorem State.onCaches_frame (s : State) (f : Caches → Caches) : (s.onCaches f).pending = s.pending ∧ (s.onCaches f).variant = s.variant ∧ (s.onCaches f).applied = s.applied ∧ (s.onCaches f).latches = s.latches ∧ (s.onCaches f).commits = s.commits ∧ (s.onCaches f).resetting = s.resetting ∧ (s.onCaches f).dev = s.dev ∧ (s.onCaches f).pwr = s.pwr ∧ (s.onCaches f).hk = s.hk ∧ (s.onCaches f).clk = s.clk ∧ (s.onCaches f).bw = s.bw ∧ (s.onCaches f).gang0 = s.gang0 ∧ (s.onCaches f).gang1 = s.gang1 ∧ (s.onCaches f).med = s.med ∧ (s.onCaches f).roms = s.roms ∧ (s.onCaches f).xlt = s.xlt ∧ (s.onCaches f).prot = s.prot ∧ (s.onCaches f).dram = s.dram ∧ (s.onCaches f).link = s.link ∧ (s.onCaches f).reads = s.reads ∧ (s.onCaches f).drift = s.drift ∧ (s.onCaches f).zl0 = s.zl0 ∧ (s.onCaches f).zl1 = s.zl1 ∧ (s.onCaches f).strm = s.strm ∧ (s.onCaches f).mbox = s.mbox ∧ (s.onCaches f).pnv = s.pnv ∧ (s.onCaches f).nvm = s.nvm ∧ (s.onCaches f).srm = s.srm ∧ (s.onCaches f).dbg = s.dbg ∧ (s.onCaches f).i3c = s.i3c ∧ (s.onCaches f).drawn = s.drawn := by
  simp [State.onCaches]
theorem State.addErrs_frame (s : State) (l : List ArrErr) : (s.addErrs l).pending = s.pending ∧ (s.addErrs l).variant = s.variant ∧ (s.addErrs l).applied = s.applied ∧ (s.addErrs l).latches = s.latches ∧ (s.addErrs l).commits = s.commits ∧ (s.addErrs l).resetting = s.resetting ∧ (s.addErrs l).pwr = s.pwr ∧ (s.addErrs l).hk = s.hk ∧ (s.addErrs l).clk = s.clk ∧ (s.addErrs l).bw = s.bw ∧ (s.addErrs l).gang0 = s.gang0 ∧ (s.addErrs l).gang1 = s.gang1 ∧ (s.addErrs l).med = s.med ∧ (s.addErrs l).roms = s.roms ∧ (s.addErrs l).xlt = s.xlt ∧ (s.addErrs l).prot = s.prot ∧ (s.addErrs l).dram = s.dram ∧ (s.addErrs l).drift = s.drift ∧ (s.addErrs l).zl0 = s.zl0 ∧ (s.addErrs l).zl1 = s.zl1 ∧ (s.addErrs l).strm = s.strm ∧ (s.addErrs l).mbox = s.mbox ∧ (s.addErrs l).srm = s.srm ∧ (s.addErrs l).dbg = s.dbg ∧ (s.addErrs l).i3c = s.i3c := by
  have f1 := @State.onCaches_frame
  simp [State.addErrs, f1]
theorem State.wayPdApply_frame (s : State) : (s.wayPdApply).pending = s.pending ∧ (s.wayPdApply).variant = s.variant ∧ (s.wayPdApply).latches = s.latches ∧ (s.wayPdApply).resetting = s.resetting ∧ (s.wayPdApply).clk = s.clk ∧ (s.wayPdApply).med = s.med ∧ (s.wayPdApply).roms = s.roms ∧ (s.wayPdApply).dbg = s.dbg ∧ (s.wayPdApply).i3c = s.i3c := by
  have f1 := @State.onCaches_frame
  simp [State.wayPdApply, f1]
theorem State.dropFills_frame (s : State) (p : Nat → Bool) : (s.dropFills p).pending = s.pending ∧ (s.dropFills p).variant = s.variant ∧ (s.dropFills p).applied = s.applied ∧ (s.dropFills p).latches = s.latches ∧ (s.dropFills p).commits = s.commits ∧ (s.dropFills p).resetting = s.resetting ∧ (s.dropFills p).dev = s.dev ∧ (s.dropFills p).pwr = s.pwr ∧ (s.dropFills p).hk = s.hk ∧ (s.dropFills p).clk = s.clk ∧ (s.dropFills p).bw = s.bw ∧ (s.dropFills p).gang0 = s.gang0 ∧ (s.dropFills p).gang1 = s.gang1 ∧ (s.dropFills p).med = s.med ∧ (s.dropFills p).roms = s.roms ∧ (s.dropFills p).dram = s.dram ∧ (s.dropFills p).link = s.link ∧ (s.dropFills p).reads = s.reads ∧ (s.dropFills p).zl0 = s.zl0 ∧ (s.dropFills p).zl1 = s.zl1 ∧ (s.dropFills p).mbox = s.mbox ∧ (s.dropFills p).dbg = s.dbg ∧ (s.dropFills p).i3c = s.i3c := by
  have f1 := @State.onRing_frame
  simp [State.dropFills, f1]
theorem State.dropHost_frame (s : State) (p : Nat → Bool) : (s.dropHost p).pending = s.pending ∧ (s.dropHost p).variant = s.variant ∧ (s.dropHost p).applied = s.applied ∧ (s.dropHost p).latches = s.latches ∧ (s.dropHost p).commits = s.commits ∧ (s.dropHost p).resetting = s.resetting ∧ (s.dropHost p).dev = s.dev ∧ (s.dropHost p).pwr = s.pwr ∧ (s.dropHost p).hk = s.hk ∧ (s.dropHost p).clk = s.clk ∧ (s.dropHost p).bw = s.bw ∧ (s.dropHost p).gang0 = s.gang0 ∧ (s.dropHost p).gang1 = s.gang1 ∧ (s.dropHost p).med = s.med ∧ (s.dropHost p).roms = s.roms ∧ (s.dropHost p).dram = s.dram ∧ (s.dropHost p).link = s.link ∧ (s.dropHost p).reads = s.reads ∧ (s.dropHost p).zl0 = s.zl0 ∧ (s.dropHost p).zl1 = s.zl1 ∧ (s.dropHost p).mbox = s.mbox ∧ (s.dropHost p).dbg = s.dbg ∧ (s.dropHost p).i3c = s.i3c := by
  have f1 := @State.dropFills_frame; have f2 := @State.onCaches_frame
  simp [State.dropHost, f1, f2]
theorem State.setCset_frame (s : State) (k : Nat) (x : CSet) : (s.setCset k x).pending = s.pending ∧ (s.setCset k x).variant = s.variant ∧ (s.setCset k x).applied = s.applied ∧ (s.setCset k x).latches = s.latches ∧ (s.setCset k x).commits = s.commits ∧ (s.setCset k x).resetting = s.resetting ∧ (s.setCset k x).dev = s.dev ∧ (s.setCset k x).pwr = s.pwr ∧ (s.setCset k x).hk = s.hk ∧ (s.setCset k x).clk = s.clk ∧ (s.setCset k x).bw = s.bw ∧ (s.setCset k x).gang0 = s.gang0 ∧ (s.setCset k x).gang1 = s.gang1 ∧ (s.setCset k x).med = s.med ∧ (s.setCset k x).roms = s.roms ∧ (s.setCset k x).xlt = s.xlt ∧ (s.setCset k x).prot = s.prot ∧ (s.setCset k x).dram = s.dram ∧ (s.setCset k x).drift = s.drift ∧ (s.setCset k x).zl0 = s.zl0 ∧ (s.setCset k x).zl1 = s.zl1 ∧ (s.setCset k x).strm = s.strm ∧ (s.setCset k x).mbox = s.mbox ∧ (s.setCset k x).pnv = s.pnv ∧ (s.setCset k x).nvm = s.nvm ∧ (s.setCset k x).srm = s.srm ∧ (s.setCset k x).dbg = s.dbg ∧ (s.setCset k x).i3c = s.i3c ∧ (s.setCset k x).drawn = s.drawn := by
  have f1 := @State.onCaches_frame
  simp [State.setCset, f1]
theorem State.dropWay_frame (s : State) (k : Nat) (w : Nat) : (s.dropWay k w).pending = s.pending ∧ (s.dropWay k w).variant = s.variant ∧ (s.dropWay k w).applied = s.applied ∧ (s.dropWay k w).latches = s.latches ∧ (s.dropWay k w).commits = s.commits ∧ (s.dropWay k w).resetting = s.resetting ∧ (s.dropWay k w).dev = s.dev ∧ (s.dropWay k w).pwr = s.pwr ∧ (s.dropWay k w).hk = s.hk ∧ (s.dropWay k w).clk = s.clk ∧ (s.dropWay k w).bw = s.bw ∧ (s.dropWay k w).gang0 = s.gang0 ∧ (s.dropWay k w).gang1 = s.gang1 ∧ (s.dropWay k w).med = s.med ∧ (s.dropWay k w).roms = s.roms ∧ (s.dropWay k w).xlt = s.xlt ∧ (s.dropWay k w).prot = s.prot ∧ (s.dropWay k w).dram = s.dram ∧ (s.dropWay k w).drift = s.drift ∧ (s.dropWay k w).zl0 = s.zl0 ∧ (s.dropWay k w).zl1 = s.zl1 ∧ (s.dropWay k w).strm = s.strm ∧ (s.dropWay k w).mbox = s.mbox ∧ (s.dropWay k w).pnv = s.pnv ∧ (s.dropWay k w).nvm = s.nvm ∧ (s.dropWay k w).srm = s.srm ∧ (s.dropWay k w).dbg = s.dbg ∧ (s.dropWay k w).i3c = s.i3c ∧ (s.dropWay k w).drawn = s.drawn := by
  have f1 := @State.setCset_frame
  simp [State.dropWay, f1]
theorem State.clearErr_frame (s : State) (e : ArrErr) : (s.clearErr e).pending = s.pending ∧ (s.clearErr e).variant = s.variant ∧ (s.clearErr e).applied = s.applied ∧ (s.clearErr e).latches = s.latches ∧ (s.clearErr e).commits = s.commits ∧ (s.clearErr e).resetting = s.resetting ∧ (s.clearErr e).dev = s.dev ∧ (s.clearErr e).pwr = s.pwr ∧ (s.clearErr e).hk = s.hk ∧ (s.clearErr e).clk = s.clk ∧ (s.clearErr e).bw = s.bw ∧ (s.clearErr e).gang0 = s.gang0 ∧ (s.clearErr e).gang1 = s.gang1 ∧ (s.clearErr e).med = s.med ∧ (s.clearErr e).roms = s.roms ∧ (s.clearErr e).xlt = s.xlt ∧ (s.clearErr e).prot = s.prot ∧ (s.clearErr e).dram = s.dram ∧ (s.clearErr e).drift = s.drift ∧ (s.clearErr e).zl0 = s.zl0 ∧ (s.clearErr e).zl1 = s.zl1 ∧ (s.clearErr e).strm = s.strm ∧ (s.clearErr e).mbox = s.mbox ∧ (s.clearErr e).pnv = s.pnv ∧ (s.clearErr e).nvm = s.nvm ∧ (s.clearErr e).srm = s.srm ∧ (s.clearErr e).dbg = s.dbg ∧ (s.clearErr e).i3c = s.i3c ∧ (s.clearErr e).drawn = s.drawn := by
  have f1 := @State.onCaches_frame
  simp [State.clearErr, f1]
theorem State.l2Last_frame (s : State) (k : Nat) (w : Nat) (kind : Nat) (dirty : Bool) (lasting : Bool) : (s.l2Last k w kind dirty lasting).pending = s.pending ∧ (s.l2Last k w kind dirty lasting).variant = s.variant ∧ (s.l2Last k w kind dirty lasting).applied = s.applied ∧ (s.l2Last k w kind dirty lasting).latches = s.latches ∧ (s.l2Last k w kind dirty lasting).commits = s.commits ∧ (s.l2Last k w kind dirty lasting).resetting = s.resetting ∧ (s.l2Last k w kind dirty lasting).dev = s.dev ∧ (s.l2Last k w kind dirty lasting).pwr = s.pwr ∧ (s.l2Last k w kind dirty lasting).hk = s.hk ∧ (s.l2Last k w kind dirty lasting).clk = s.clk ∧ (s.l2Last k w kind dirty lasting).bw = s.bw ∧ (s.l2Last k w kind dirty lasting).gang0 = s.gang0 ∧ (s.l2Last k w kind dirty lasting).gang1 = s.gang1 ∧ (s.l2Last k w kind dirty lasting).med = s.med ∧ (s.l2Last k w kind dirty lasting).roms = s.roms ∧ (s.l2Last k w kind dirty lasting).xlt = s.xlt ∧ (s.l2Last k w kind dirty lasting).prot = s.prot ∧ (s.l2Last k w kind dirty lasting).dram = s.dram ∧ (s.l2Last k w kind dirty lasting).drift = s.drift ∧ (s.l2Last k w kind dirty lasting).zl0 = s.zl0 ∧ (s.l2Last k w kind dirty lasting).zl1 = s.zl1 ∧ (s.l2Last k w kind dirty lasting).strm = s.strm ∧ (s.l2Last k w kind dirty lasting).mbox = s.mbox ∧ (s.l2Last k w kind dirty lasting).pnv = s.pnv ∧ (s.l2Last k w kind dirty lasting).nvm = s.nvm ∧ (s.l2Last k w kind dirty lasting).srm = s.srm ∧ (s.l2Last k w kind dirty lasting).dbg = s.dbg ∧ (s.l2Last k w kind dirty lasting).i3c = s.i3c ∧ (s.l2Last k w kind dirty lasting).drawn = s.drawn := by
  have f1 := @State.setFlag_frame; have f2 := @State.setFld_frame
  simp [State.l2Last, f1, f2]
theorem State.locFault_frame (s : State) (k : Nat) (w : Nat) : (s.locFault k w).pending = s.pending ∧ (s.locFault k w).variant = s.variant ∧ (s.locFault k w).applied = s.applied ∧ (s.locFault k w).latches = s.latches ∧ (s.locFault k w).commits = s.commits ∧ (s.locFault k w).resetting = s.resetting ∧ (s.locFault k w).dev = s.dev ∧ (s.locFault k w).pwr = s.pwr ∧ (s.locFault k w).hk = s.hk ∧ (s.locFault k w).clk = s.clk ∧ (s.locFault k w).bw = s.bw ∧ (s.locFault k w).gang0 = s.gang0 ∧ (s.locFault k w).gang1 = s.gang1 ∧ (s.locFault k w).med = s.med ∧ (s.locFault k w).roms = s.roms ∧ (s.locFault k w).xlt = s.xlt ∧ (s.locFault k w).prot = s.prot ∧ (s.locFault k w).dram = s.dram ∧ (s.locFault k w).drift = s.drift ∧ (s.locFault k w).zl0 = s.zl0 ∧ (s.locFault k w).zl1 = s.zl1 ∧ (s.locFault k w).strm = s.strm ∧ (s.locFault k w).mbox = s.mbox ∧ (s.locFault k w).pnv = s.pnv ∧ (s.locFault k w).nvm = s.nvm ∧ (s.locFault k w).srm = s.srm ∧ (s.locFault k w).dbg = s.dbg ∧ (s.locFault k w).i3c = s.i3c ∧ (s.locFault k w).drawn = s.drawn := by
  have f1 := @State.onCaches_frame; have f2 := @State.raiseRec_frame; have f3 := @State.setFld_frame
  simp [State.locFault, f1, f2, f3]
theorem State.l2Tag_frame (s : State) (k : Nat) (w : Nat) (l : CLine) (again : Bool) (bad : Bool) : (s.l2Tag k w l again bad).pending = s.pending ∧ (s.l2Tag k w l again bad).variant = s.variant ∧ (s.l2Tag k w l again bad).applied = s.applied ∧ (s.l2Tag k w l again bad).latches = s.latches ∧ (s.l2Tag k w l again bad).commits = s.commits ∧ (s.l2Tag k w l again bad).resetting = s.resetting ∧ (s.l2Tag k w l again bad).dev = s.dev ∧ (s.l2Tag k w l again bad).pwr = s.pwr ∧ (s.l2Tag k w l again bad).hk = s.hk ∧ (s.l2Tag k w l again bad).clk = s.clk ∧ (s.l2Tag k w l again bad).bw = s.bw ∧ (s.l2Tag k w l again bad).gang0 = s.gang0 ∧ (s.l2Tag k w l again bad).gang1 = s.gang1 ∧ (s.l2Tag k w l again bad).med = s.med ∧ (s.l2Tag k w l again bad).roms = s.roms ∧ (s.l2Tag k w l again bad).xlt = s.xlt ∧ (s.l2Tag k w l again bad).prot = s.prot ∧ (s.l2Tag k w l again bad).dram = s.dram ∧ (s.l2Tag k w l again bad).drift = s.drift ∧ (s.l2Tag k w l again bad).zl0 = s.zl0 ∧ (s.l2Tag k w l again bad).zl1 = s.zl1 ∧ (s.l2Tag k w l again bad).strm = s.strm ∧ (s.l2Tag k w l again bad).mbox = s.mbox ∧ (s.l2Tag k w l again bad).pnv = s.pnv ∧ (s.l2Tag k w l again bad).nvm = s.nvm ∧ (s.l2Tag k w l again bad).srm = s.srm ∧ (s.l2Tag k w l again bad).dbg = s.dbg ∧ (s.l2Tag k w l again bad).i3c = s.i3c ∧ (s.l2Tag k w l again bad).drawn = s.drawn := by
  have f1 := @State.bump_frame; have f2 := @State.dropWay_frame; have f3 := @State.l2Last_frame; have f4 := @State.locFault_frame; have f5 := @State.raiseRec_frame; have f6 := @State.raise_frame
  dsimp only [State.l2Tag]; (repeat' split) <;> simp [f1, f2, f3, f4, f5, f6]
theorem State.memPut_frame (s : State) (a : Nat) (d : Line) (poison : Bool) : (s.memPut a d poison).pending = s.pending ∧ (s.memPut a d poison).variant = s.variant ∧ (s.memPut a d poison).applied = s.applied ∧ (s.memPut a d poison).latches = s.latches ∧ (s.memPut a d poison).commits = s.commits ∧ (s.memPut a d poison).resetting = s.resetting ∧ (s.memPut a d poison).dev = s.dev ∧ (s.memPut a d poison).pwr = s.pwr ∧ (s.memPut a d poison).hk = s.hk ∧ (s.memPut a d poison).clk = s.clk ∧ (s.memPut a d poison).bw = s.bw ∧ (s.memPut a d poison).gang0 = s.gang0 ∧ (s.memPut a d poison).gang1 = s.gang1 ∧ (s.memPut a d poison).med = s.med ∧ (s.memPut a d poison).roms = s.roms ∧ (s.memPut a d poison).xlt = s.xlt ∧ (s.memPut a d poison).prot = s.prot ∧ (s.memPut a d poison).dram = s.dram ∧ (s.memPut a d poison).drift = s.drift ∧ (s.memPut a d poison).zl0 = s.zl0 ∧ (s.memPut a d poison).zl1 = s.zl1 ∧ (s.memPut a d poison).strm = s.strm ∧ (s.memPut a d poison).mbox = s.mbox ∧ (s.memPut a d poison).pnv = s.pnv ∧ (s.memPut a d poison).nvm = s.nvm ∧ (s.memPut a d poison).srm = s.srm ∧ (s.memPut a d poison).dbg = s.dbg ∧ (s.memPut a d poison).i3c = s.i3c ∧ (s.memPut a d poison).drawn = s.drawn := by
  have f1 := @State.onCaches_frame
  simp [State.memPut, f1]
theorem State.l2Uncorr_frame (s : State) (k : Nat) (w : Nat) (l : CLine) (again : Bool) (bad : Bool) : (s.l2Uncorr k w l again bad).pending = s.pending ∧ (s.l2Uncorr k w l again bad).variant = s.variant ∧ (s.l2Uncorr k w l again bad).applied = s.applied ∧ (s.l2Uncorr k w l again bad).latches = s.latches ∧ (s.l2Uncorr k w l again bad).commits = s.commits ∧ (s.l2Uncorr k w l again bad).resetting = s.resetting ∧ (s.l2Uncorr k w l again bad).dev = s.dev ∧ (s.l2Uncorr k w l again bad).pwr = s.pwr ∧ (s.l2Uncorr k w l again bad).hk = s.hk ∧ (s.l2Uncorr k w l again bad).clk = s.clk ∧ (s.l2Uncorr k w l again bad).bw = s.bw ∧ (s.l2Uncorr k w l again bad).gang0 = s.gang0 ∧ (s.l2Uncorr k w l again bad).gang1 = s.gang1 ∧ (s.l2Uncorr k w l again bad).med = s.med ∧ (s.l2Uncorr k w l again bad).roms = s.roms ∧ (s.l2Uncorr k w l again bad).xlt = s.xlt ∧ (s.l2Uncorr k w l again bad).prot = s.prot ∧ (s.l2Uncorr k w l again bad).dram = s.dram ∧ (s.l2Uncorr k w l again bad).drift = s.drift ∧ (s.l2Uncorr k w l again bad).zl0 = s.zl0 ∧ (s.l2Uncorr k w l again bad).zl1 = s.zl1 ∧ (s.l2Uncorr k w l again bad).strm = s.strm ∧ (s.l2Uncorr k w l again bad).mbox = s.mbox ∧ (s.l2Uncorr k w l again bad).pnv = s.pnv ∧ (s.l2Uncorr k w l again bad).nvm = s.nvm ∧ (s.l2Uncorr k w l again bad).srm = s.srm ∧ (s.l2Uncorr k w l again bad).dbg = s.dbg ∧ (s.l2Uncorr k w l again bad).i3c = s.i3c ∧ (s.l2Uncorr k w l again bad).drawn = s.drawn := by
  have f1 := @State.bump_frame; have f2 := @State.dropWay_frame; have f3 := @State.l2Last_frame; have f4 := @State.locFault_frame; have f5 := @State.memPut_frame; have f6 := @State.raiseRec_frame; have f7 := @State.raise_frame
  dsimp only [State.l2Uncorr]; (repeat' split) <;> simp [f1, f2, f3, f4, f5, f6, f7]
theorem State.l2Meet_frame (s : State) (e : ArrErr) : (s.l2Meet e).pending = s.pending ∧ (s.l2Meet e).variant = s.variant ∧ (s.l2Meet e).applied = s.applied ∧ (s.l2Meet e).latches = s.latches ∧ (s.l2Meet e).commits = s.commits ∧ (s.l2Meet e).resetting = s.resetting ∧ (s.l2Meet e).dev = s.dev ∧ (s.l2Meet e).pwr = s.pwr ∧ (s.l2Meet e).hk = s.hk ∧ (s.l2Meet e).clk = s.clk ∧ (s.l2Meet e).bw = s.bw ∧ (s.l2Meet e).gang0 = s.gang0 ∧ (s.l2Meet e).gang1 = s.gang1 ∧ (s.l2Meet e).med = s.med ∧ (s.l2Meet e).roms = s.roms ∧ (s.l2Meet e).xlt = s.xlt ∧ (s.l2Meet e).prot = s.prot ∧ (s.l2Meet e).dram = s.dram ∧ (s.l2Meet e).drift = s.drift ∧ (s.l2Meet e).zl0 = s.zl0 ∧ (s.l2Meet e).zl1 = s.zl1 ∧ (s.l2Meet e).strm = s.strm ∧ (s.l2Meet e).mbox = s.mbox ∧ (s.l2Meet e).pnv = s.pnv ∧ (s.l2Meet e).nvm = s.nvm ∧ (s.l2Meet e).srm = s.srm ∧ (s.l2Meet e).dbg = s.dbg ∧ (s.l2Meet e).i3c = s.i3c ∧ (s.l2Meet e).drawn = s.drawn := by
  have f1 := @State.bump_frame; have f2 := @State.clearErr_frame; have f3 := @State.l2Last_frame; have f4 := @State.l2Tag_frame; have f5 := @State.l2Uncorr_frame
  dsimp only [State.l2Meet]; (repeat' split) <;> simp [f1, f2, f3, f4, f5]
theorem State.setSmall_frame (s : State) (c : Nat) (x : Small) : (s.setSmall c x).pending = s.pending ∧ (s.setSmall c x).variant = s.variant ∧ (s.setSmall c x).applied = s.applied ∧ (s.setSmall c x).latches = s.latches ∧ (s.setSmall c x).commits = s.commits ∧ (s.setSmall c x).resetting = s.resetting ∧ (s.setSmall c x).dev = s.dev ∧ (s.setSmall c x).pwr = s.pwr ∧ (s.setSmall c x).hk = s.hk ∧ (s.setSmall c x).clk = s.clk ∧ (s.setSmall c x).bw = s.bw ∧ (s.setSmall c x).gang0 = s.gang0 ∧ (s.setSmall c x).gang1 = s.gang1 ∧ (s.setSmall c x).med = s.med ∧ (s.setSmall c x).roms = s.roms ∧ (s.setSmall c x).xlt = s.xlt ∧ (s.setSmall c x).prot = s.prot ∧ (s.setSmall c x).dram = s.dram ∧ (s.setSmall c x).drift = s.drift ∧ (s.setSmall c x).zl0 = s.zl0 ∧ (s.setSmall c x).zl1 = s.zl1 ∧ (s.setSmall c x).strm = s.strm ∧ (s.setSmall c x).mbox = s.mbox ∧ (s.setSmall c x).pnv = s.pnv ∧ (s.setSmall c x).nvm = s.nvm ∧ (s.setSmall c x).srm = s.srm ∧ (s.setSmall c x).dbg = s.dbg ∧ (s.setSmall c x).i3c = s.i3c ∧ (s.setSmall c x).drawn = s.drawn := by
  have f1 := @State.onCaches_frame
  simp [State.setSmall, f1]
theorem State.wayCount_frame (s : State) (c : Nat) (w : Nat) : (s.wayCount c w).1.pending = s.pending ∧ (s.wayCount c w).1.variant = s.variant ∧ (s.wayCount c w).1.applied = s.applied ∧ (s.wayCount c w).1.latches = s.latches ∧ (s.wayCount c w).1.commits = s.commits ∧ (s.wayCount c w).1.resetting = s.resetting ∧ (s.wayCount c w).1.dev = s.dev ∧ (s.wayCount c w).1.pwr = s.pwr ∧ (s.wayCount c w).1.hk = s.hk ∧ (s.wayCount c w).1.clk = s.clk ∧ (s.wayCount c w).1.bw = s.bw ∧ (s.wayCount c w).1.gang0 = s.gang0 ∧ (s.wayCount c w).1.gang1 = s.gang1 ∧ (s.wayCount c w).1.med = s.med ∧ (s.wayCount c w).1.roms = s.roms ∧ (s.wayCount c w).1.xlt = s.xlt ∧ (s.wayCount c w).1.prot = s.prot ∧ (s.wayCount c w).1.dram = s.dram ∧ (s.wayCount c w).1.drift = s.drift ∧ (s.wayCount c w).1.zl0 = s.zl0 ∧ (s.wayCount c w).1.zl1 = s.zl1 ∧ (s.wayCount c w).1.strm = s.strm ∧ (s.wayCount c w).1.mbox = s.mbox ∧ (s.wayCount c w).1.pnv = s.pnv ∧ (s.wayCount c w).1.nvm = s.nvm ∧ (s.wayCount c w).1.srm = s.srm ∧ (s.wayCount c w).1.dbg = s.dbg ∧ (s.wayCount c w).1.i3c = s.i3c ∧ (s.wayCount c w).1.drawn = s.drawn := by
  have f1 := @State.setSmall_frame
  simp [State.wayCount, f1]
theorem State.clearErrs_frame (s : State) (k : Nat) (w : Nat) : (s.clearErrs k w).pending = s.pending ∧ (s.clearErrs k w).variant = s.variant ∧ (s.clearErrs k w).applied = s.applied ∧ (s.clearErrs k w).latches = s.latches ∧ (s.clearErrs k w).commits = s.commits ∧ (s.clearErrs k w).resetting = s.resetting ∧ (s.clearErrs k w).dev = s.dev ∧ (s.clearErrs k w).pwr = s.pwr ∧ (s.clearErrs k w).hk = s.hk ∧ (s.clearErrs k w).clk = s.clk ∧ (s.clearErrs k w).bw = s.bw ∧ (s.clearErrs k w).gang0 = s.gang0 ∧ (s.clearErrs k w).gang1 = s.gang1 ∧ (s.clearErrs k w).med = s.med ∧ (s.clearErrs k w).roms = s.roms ∧ (s.clearErrs k w).xlt = s.xlt ∧ (s.clearErrs k w).prot = s.prot ∧ (s.clearErrs k w).dram = s.dram ∧ (s.clearErrs k w).drift = s.drift ∧ (s.clearErrs k w).zl0 = s.zl0 ∧ (s.clearErrs k w).zl1 = s.zl1 ∧ (s.clearErrs k w).strm = s.strm ∧ (s.clearErrs k w).mbox = s.mbox ∧ (s.clearErrs k w).pnv = s.pnv ∧ (s.clearErrs k w).nvm = s.nvm ∧ (s.clearErrs k w).srm = s.srm ∧ (s.clearErrs k w).dbg = s.dbg ∧ (s.clearErrs k w).i3c = s.i3c ∧ (s.clearErrs k w).drawn = s.drawn := by
  have f1 := @State.onCaches_frame
  simp [State.clearErrs, f1]
theorem State.putWay_frame (s : State) (k : Nat) (w : Nat) (n : Nat) (l : CLine) : (s.putWay k w n l).pending = s.pending ∧ (s.putWay k w n l).variant = s.variant ∧ (s.putWay k w n l).applied = s.applied ∧ (s.putWay k w n l).latches = s.latches ∧ (s.putWay k w n l).commits = s.commits ∧ (s.putWay k w n l).resetting = s.resetting ∧ (s.putWay k w n l).dev = s.dev ∧ (s.putWay k w n l).pwr = s.pwr ∧ (s.putWay k w n l).hk = s.hk ∧ (s.putWay k w n l).clk = s.clk ∧ (s.putWay k w n l).bw = s.bw ∧ (s.putWay k w n l).gang0 = s.gang0 ∧ (s.putWay k w n l).gang1 = s.gang1 ∧ (s.putWay k w n l).med = s.med ∧ (s.putWay k w n l).roms = s.roms ∧ (s.putWay k w n l).xlt = s.xlt ∧ (s.putWay k w n l).prot = s.prot ∧ (s.putWay k w n l).dram = s.dram ∧ (s.putWay k w n l).drift = s.drift ∧ (s.putWay k w n l).zl0 = s.zl0 ∧ (s.putWay k w n l).zl1 = s.zl1 ∧ (s.putWay k w n l).strm = s.strm ∧ (s.putWay k w n l).mbox = s.mbox ∧ (s.putWay k w n l).pnv = s.pnv ∧ (s.putWay k w n l).nvm = s.nvm ∧ (s.putWay k w n l).srm = s.srm ∧ (s.putWay k w n l).dbg = s.dbg ∧ (s.putWay k w n l).i3c = s.i3c ∧ (s.putWay k w n l).drawn = s.drawn := by
  have f1 := @State.clearErrs_frame; have f2 := @State.setCset_frame
  simp [State.putWay, f1, f2]
theorem State.l2Evict_frame (s : State) (k : Nat) (w : Nat) : (s.l2Evict k w).pending = s.pending ∧ (s.l2Evict k w).variant = s.variant ∧ (s.l2Evict k w).applied = s.applied ∧ (s.l2Evict k w).latches = s.latches ∧ (s.l2Evict k w).commits = s.commits ∧ (s.l2Evict k w).resetting = s.resetting ∧ (s.l2Evict k w).dev = s.dev ∧ (s.l2Evict k w).pwr = s.pwr ∧ (s.l2Evict k w).hk = s.hk ∧ (s.l2Evict k w).clk = s.clk ∧ (s.l2Evict k w).bw = s.bw ∧ (s.l2Evict k w).gang0 = s.gang0 ∧ (s.l2Evict k w).gang1 = s.gang1 ∧ (s.l2Evict k w).med = s.med ∧ (s.l2Evict k w).roms = s.roms ∧ (s.l2Evict k w).xlt = s.xlt ∧ (s.l2Evict k w).prot = s.prot ∧ (s.l2Evict k w).dram = s.dram ∧ (s.l2Evict k w).drift = s.drift ∧ (s.l2Evict k w).zl0 = s.zl0 ∧ (s.l2Evict k w).zl1 = s.zl1 ∧ (s.l2Evict k w).strm = s.strm ∧ (s.l2Evict k w).mbox = s.mbox ∧ (s.l2Evict k w).pnv = s.pnv ∧ (s.l2Evict k w).nvm = s.nvm ∧ (s.l2Evict k w).srm = s.srm ∧ (s.l2Evict k w).dbg = s.dbg ∧ (s.l2Evict k w).i3c = s.i3c ∧ (s.l2Evict k w).drawn = s.drawn := by
  have f1 := @State.l2Meet_frame; have f2 := @State.memPut_frame
  dsimp only [State.l2Evict]; (repeat' split) <;> simp [f1, f2]
theorem State.fill_frame (s : State) (c : Nat) (a : Nat) (l : CLine) : (s.fill c a l).pending = s.pending ∧ (s.fill c a l).variant = s.variant ∧ (s.fill c a l).applied = s.applied ∧ (s.fill c a l).latches = s.latches ∧ (s.fill c a l).commits = s.commits ∧ (s.fill c a l).resetting = s.resetting ∧ (s.fill c a l).dev = s.dev ∧ (s.fill c a l).pwr = s.pwr ∧ (s.fill c a l).hk = s.hk ∧ (s.fill c a l).clk = s.clk ∧ (s.fill c a l).bw = s.bw ∧ (s.fill c a l).gang0 = s.gang0 ∧ (s.fill c a l).gang1 = s.gang1 ∧ (s.fill c a l).med = s.med ∧ (s.fill c a l).roms = s.roms ∧ (s.fill c a l).xlt = s.xlt ∧ (s.fill c a l).prot = s.prot ∧ (s.fill c a l).dram = s.dram ∧ (s.fill c a l).drift = s.drift ∧ (s.fill c a l).zl0 = s.zl0 ∧ (s.fill c a l).zl1 = s.zl1 ∧ (s.fill c a l).strm = s.strm ∧ (s.fill c a l).mbox = s.mbox ∧ (s.fill c a l).pnv = s.pnv ∧ (s.fill c a l).nvm = s.nvm ∧ (s.fill c a l).srm = s.srm ∧ (s.fill c a l).dbg = s.dbg ∧ (s.fill c a l).i3c = s.i3c ∧ (s.fill c a l).drawn = s.drawn := by
  have f1 := @State.clearErrs_frame; have f2 := @State.l2Evict_frame; have f3 := @State.putWay_frame; have f4 := @State.setCset_frame
  dsimp only [State.fill]; (repeat' split) <;> simp [f1, f2, f3, f4]
theorem State.writeBack_frame (s : State) (k : Nat) (l : CLine) : (s.writeBack k l).pending = s.pending ∧ (s.writeBack k l).variant = s.variant ∧ (s.writeBack k l).applied = s.applied ∧ (s.writeBack k l).latches = s.latches ∧ (s.writeBack k l).commits = s.commits ∧ (s.writeBack k l).resetting = s.resetting ∧ (s.writeBack k l).dev = s.dev ∧ (s.writeBack k l).pwr = s.pwr ∧ (s.writeBack k l).hk = s.hk ∧ (s.writeBack k l).clk = s.clk ∧ (s.writeBack k l).bw = s.bw ∧ (s.writeBack k l).gang0 = s.gang0 ∧ (s.writeBack k l).gang1 = s.gang1 ∧ (s.writeBack k l).med = s.med ∧ (s.writeBack k l).roms = s.roms ∧ (s.writeBack k l).xlt = s.xlt ∧ (s.writeBack k l).prot = s.prot ∧ (s.writeBack k l).dram = s.dram ∧ (s.writeBack k l).drift = s.drift ∧ (s.writeBack k l).zl0 = s.zl0 ∧ (s.writeBack k l).zl1 = s.zl1 ∧ (s.writeBack k l).strm = s.strm ∧ (s.writeBack k l).mbox = s.mbox ∧ (s.writeBack k l).pnv = s.pnv ∧ (s.writeBack k l).nvm = s.nvm ∧ (s.writeBack k l).srm = s.srm ∧ (s.writeBack k l).dbg = s.dbg ∧ (s.writeBack k l).i3c = s.i3c ∧ (s.writeBack k l).drawn = s.drawn := by
  have f1 := @State.fill_frame; have f2 := @State.memPut_frame
  dsimp only [State.writeBack]; (repeat' split) <;> simp [f1, f2]
theorem State.smallLoss_frame (s : State) (k : Nat) (w : Nat) (x : CLine) (inTag : Bool) : (s.smallLoss k w x inTag).pending = s.pending ∧ (s.smallLoss k w x inTag).variant = s.variant ∧ (s.smallLoss k w x inTag).applied = s.applied ∧ (s.smallLoss k w x inTag).latches = s.latches ∧ (s.smallLoss k w x inTag).commits = s.commits ∧ (s.smallLoss k w x inTag).resetting = s.resetting ∧ (s.smallLoss k w x inTag).dev = s.dev ∧ (s.smallLoss k w x inTag).pwr = s.pwr ∧ (s.smallLoss k w x inTag).hk = s.hk ∧ (s.smallLoss k w x inTag).clk = s.clk ∧ (s.smallLoss k w x inTag).bw = s.bw ∧ (s.smallLoss k w x inTag).gang0 = s.gang0 ∧ (s.smallLoss k w x inTag).gang1 = s.gang1 ∧ (s.smallLoss k w x inTag).med = s.med ∧ (s.smallLoss k w x inTag).roms = s.roms ∧ (s.smallLoss k w x inTag).xlt = s.xlt ∧ (s.smallLoss k w x inTag).prot = s.prot ∧ (s.smallLoss k w x inTag).dram = s.dram ∧ (s.smallLoss k w x inTag).drift = s.drift ∧ (s.smallLoss k w x inTag).zl0 = s.zl0 ∧ (s.smallLoss k w x inTag).zl1 = s.zl1 ∧ (s.smallLoss k w x inTag).strm = s.strm ∧ (s.smallLoss k w x inTag).mbox = s.mbox ∧ (s.smallLoss k w x inTag).pnv = s.pnv ∧ (s.smallLoss k w x inTag).nvm = s.nvm ∧ (s.smallLoss k w x inTag).srm = s.srm ∧ (s.smallLoss k w x inTag).dbg = s.dbg ∧ (s.smallLoss k w x inTag).i3c = s.i3c ∧ (s.smallLoss k w x inTag).drawn = s.drawn := by
  have f1 := @State.bump_frame; have f2 := @State.dropWay_frame; have f3 := @State.raiseRec_frame; have f4 := @State.setFlag_frame; have f5 := @State.setFld_frame; have f6 := @State.writeBack_frame
  simp [State.smallLoss, f1, f2, f3, f4, f5, f6]
theorem State.flushWay_frame (s : State) (w : Nat) (k : Nat) : (s.flushWay w k).pending = s.pending ∧ (s.flushWay w k).variant = s.variant ∧ (s.flushWay w k).applied = s.applied ∧ (s.flushWay w k).latches = s.latches ∧ (s.flushWay w k).commits = s.commits ∧ (s.flushWay w k).resetting = s.resetting ∧ (s.flushWay w k).dev = s.dev ∧ (s.flushWay w k).pwr = s.pwr ∧ (s.flushWay w k).hk = s.hk ∧ (s.flushWay w k).clk = s.clk ∧ (s.flushWay w k).bw = s.bw ∧ (s.flushWay w k).gang0 = s.gang0 ∧ (s.flushWay w k).gang1 = s.gang1 ∧ (s.flushWay w k).med = s.med ∧ (s.flushWay w k).roms = s.roms ∧ (s.flushWay w k).xlt = s.xlt ∧ (s.flushWay w k).prot = s.prot ∧ (s.flushWay w k).dram = s.dram ∧ (s.flushWay w k).drift = s.drift ∧ (s.flushWay w k).zl0 = s.zl0 ∧ (s.flushWay w k).zl1 = s.zl1 ∧ (s.flushWay w k).strm = s.strm ∧ (s.flushWay w k).mbox = s.mbox ∧ (s.flushWay w k).pnv = s.pnv ∧ (s.flushWay w k).nvm = s.nvm ∧ (s.flushWay w k).srm = s.srm ∧ (s.flushWay w k).dbg = s.dbg ∧ (s.flushWay w k).i3c = s.i3c ∧ (s.flushWay w k).drawn = s.drawn := by
  have f1 := @State.clearErrs_frame; have f2 := @State.dropWay_frame; have f3 := @State.l2Evict_frame; have f4 := @State.smallLoss_frame; have f5 := @State.wayCount_frame; have f6 := @State.writeBack_frame
  dsimp only [State.flushWay]; (repeat' split) <;> simp [f1, f2, f3, f4, f5, f6]
theorem State.cleanWay_frame (s : State) (c : Nat) (w : Nat) : (s.cleanWay c w).pending = s.pending ∧ (s.cleanWay c w).variant = s.variant ∧ (s.cleanWay c w).applied = s.applied ∧ (s.cleanWay c w).latches = s.latches ∧ (s.cleanWay c w).commits = s.commits ∧ (s.cleanWay c w).resetting = s.resetting ∧ (s.cleanWay c w).dev = s.dev ∧ (s.cleanWay c w).pwr = s.pwr ∧ (s.cleanWay c w).hk = s.hk ∧ (s.cleanWay c w).clk = s.clk ∧ (s.cleanWay c w).bw = s.bw ∧ (s.cleanWay c w).gang0 = s.gang0 ∧ (s.cleanWay c w).gang1 = s.gang1 ∧ (s.cleanWay c w).med = s.med ∧ (s.cleanWay c w).roms = s.roms ∧ (s.cleanWay c w).xlt = s.xlt ∧ (s.cleanWay c w).prot = s.prot ∧ (s.cleanWay c w).dram = s.dram ∧ (s.cleanWay c w).drift = s.drift ∧ (s.cleanWay c w).zl0 = s.zl0 ∧ (s.cleanWay c w).zl1 = s.zl1 ∧ (s.cleanWay c w).strm = s.strm ∧ (s.cleanWay c w).mbox = s.mbox ∧ (s.cleanWay c w).pnv = s.pnv ∧ (s.cleanWay c w).nvm = s.nvm ∧ (s.cleanWay c w).srm = s.srm ∧ (s.cleanWay c w).dbg = s.dbg ∧ (s.cleanWay c w).i3c = s.i3c ∧ (s.cleanWay c w).drawn = s.drawn := by
  have f1 := @State.flushWay_frame
  simp (disch := (intros; (repeat' split) <;> simp [f1])) [State.cleanWay, f1]
theorem State.disableWay_frame (s : State) (c : Nat) (w : Nat) : (s.disableWay c w).pending = s.pending ∧ (s.disableWay c w).variant = s.variant ∧ (s.disableWay c w).applied = s.applied ∧ (s.disableWay c w).latches = s.latches ∧ (s.disableWay c w).commits = s.commits ∧ (s.disableWay c w).resetting = s.resetting ∧ (s.disableWay c w).dev = s.dev ∧ (s.disableWay c w).pwr = s.pwr ∧ (s.disableWay c w).hk = s.hk ∧ (s.disableWay c w).clk = s.clk ∧ (s.disableWay c w).bw = s.bw ∧ (s.disableWay c w).gang0 = s.gang0 ∧ (s.disableWay c w).gang1 = s.gang1 ∧ (s.disableWay c w).med = s.med ∧ (s.disableWay c w).roms = s.roms ∧ (s.disableWay c w).xlt = s.xlt ∧ (s.disableWay c w).prot = s.prot ∧ (s.disableWay c w).dram = s.dram ∧ (s.disableWay c w).drift = s.drift ∧ (s.disableWay c w).zl0 = s.zl0 ∧ (s.disableWay c w).zl1 = s.zl1 ∧ (s.disableWay c w).strm = s.strm ∧ (s.disableWay c w).mbox = s.mbox ∧ (s.disableWay c w).pnv = s.pnv ∧ (s.disableWay c w).nvm = s.nvm ∧ (s.disableWay c w).srm = s.srm ∧ (s.disableWay c w).dbg = s.dbg ∧ (s.disableWay c w).i3c = s.i3c ∧ (s.disableWay c w).drawn = s.drawn := by
  have f1 := @State.cleanWay_frame; have f2 := @State.raiseRec_frame; have f3 := @State.reportCode_frame; have f4 := @State.setFld_frame; have f5 := @State.setSmall_frame
  simp [State.disableWay, f1, f2, f3, f4, f5]
theorem State.smallMeet_frame (s : State) (e : ArrErr) : (s.smallMeet e).pending = s.pending ∧ (s.smallMeet e).variant = s.variant ∧ (s.smallMeet e).applied = s.applied ∧ (s.smallMeet e).latches = s.latches ∧ (s.smallMeet e).commits = s.commits ∧ (s.smallMeet e).resetting = s.resetting ∧ (s.smallMeet e).dev = s.dev ∧ (s.smallMeet e).pwr = s.pwr ∧ (s.smallMeet e).hk = s.hk ∧ (s.smallMeet e).clk = s.clk ∧ (s.smallMeet e).bw = s.bw ∧ (s.smallMeet e).gang0 = s.gang0 ∧ (s.smallMeet e).gang1 = s.gang1 ∧ (s.smallMeet e).med = s.med ∧ (s.smallMeet e).roms = s.roms ∧ (s.smallMeet e).xlt = s.xlt ∧ (s.smallMeet e).prot = s.prot ∧ (s.smallMeet e).dram = s.dram ∧ (s.smallMeet e).drift = s.drift ∧ (s.smallMeet e).zl0 = s.zl0 ∧ (s.smallMeet e).zl1 = s.zl1 ∧ (s.smallMeet e).strm = s.strm ∧ (s.smallMeet e).mbox = s.mbox ∧ (s.smallMeet e).pnv = s.pnv ∧ (s.smallMeet e).nvm = s.nvm ∧ (s.smallMeet e).srm = s.srm ∧ (s.smallMeet e).dbg = s.dbg ∧ (s.smallMeet e).i3c = s.i3c ∧ (s.smallMeet e).drawn = s.drawn := by
  have f1 := @State.clearErr_frame; have f2 := @State.disableWay_frame; have f3 := @State.smallLoss_frame; have f4 := @State.wayCount_frame
  dsimp only [State.smallMeet]; (repeat' split) <;> simp [f1, f2, f3, f4]
theorem State.meet_frame (s : State) (e : ArrErr) : (s.meet e).pending = s.pending ∧ (s.meet e).variant = s.variant ∧ (s.meet e).applied = s.applied ∧ (s.meet e).latches = s.latches ∧ (s.meet e).commits = s.commits ∧ (s.meet e).resetting = s.resetting ∧ (s.meet e).dev = s.dev ∧ (s.meet e).pwr = s.pwr ∧ (s.meet e).hk = s.hk ∧ (s.meet e).clk = s.clk ∧ (s.meet e).bw = s.bw ∧ (s.meet e).gang0 = s.gang0 ∧ (s.meet e).gang1 = s.gang1 ∧ (s.meet e).med = s.med ∧ (s.meet e).roms = s.roms ∧ (s.meet e).xlt = s.xlt ∧ (s.meet e).prot = s.prot ∧ (s.meet e).dram = s.dram ∧ (s.meet e).drift = s.drift ∧ (s.meet e).zl0 = s.zl0 ∧ (s.meet e).zl1 = s.zl1 ∧ (s.meet e).strm = s.strm ∧ (s.meet e).mbox = s.mbox ∧ (s.meet e).pnv = s.pnv ∧ (s.meet e).nvm = s.nvm ∧ (s.meet e).srm = s.srm ∧ (s.meet e).dbg = s.dbg ∧ (s.meet e).i3c = s.i3c ∧ (s.meet e).drawn = s.drawn := by
  have f1 := @State.l2Meet_frame; have f2 := @State.smallMeet_frame
  simp [State.meet, f1, f2]
theorem State.maintEntry_frame (s : State) (op : Nat) (k : Nat) (w : Nat) : (s.maintEntry op k w).pending = s.pending ∧ (s.maintEntry op k w).variant = s.variant ∧ (s.maintEntry op k w).applied = s.applied ∧ (s.maintEntry op k w).latches = s.latches ∧ (s.maintEntry op k w).commits = s.commits ∧ (s.maintEntry op k w).pwr = s.pwr ∧ (s.maintEntry op k w).hk = s.hk ∧ (s.maintEntry op k w).clk = s.clk ∧ (s.maintEntry op k w).bw = s.bw ∧ (s.maintEntry op k w).gang0 = s.gang0 ∧ (s.maintEntry op k w).gang1 = s.gang1 ∧ (s.maintEntry op k w).med = s.med ∧ (s.maintEntry op k w).roms = s.roms ∧ (s.maintEntry op k w).xlt = s.xlt ∧ (s.maintEntry op k w).prot = s.prot ∧ (s.maintEntry op k w).dram = s.dram ∧ (s.maintEntry op k w).drift = s.drift ∧ (s.maintEntry op k w).zl0 = s.zl0 ∧ (s.maintEntry op k w).zl1 = s.zl1 ∧ (s.maintEntry op k w).strm = s.strm ∧ (s.maintEntry op k w).mbox = s.mbox ∧ (s.maintEntry op k w).srm = s.srm ∧ (s.maintEntry op k w).dbg = s.dbg ∧ (s.maintEntry op k w).i3c = s.i3c := by
  have f1 := @State.dropWay_frame; have f2 := @State.meet_frame; have f3 := @State.setCset_frame; have f4 := @State.writeBack_frame
  dsimp only [State.maintEntry]; (repeat' split) <;> simp [f1, f2, f3, f4]
theorem State.maintLine_frame (s : State) (op : Nat) (c : Nat) (a : Nat) (internal : Bool) (keyid : Nat) : (s.maintLine op c a internal keyid).pending = s.pending ∧ (s.maintLine op c a internal keyid).variant = s.variant ∧ (s.maintLine op c a internal keyid).applied = s.applied ∧ (s.maintLine op c a internal keyid).latches = s.latches ∧ (s.maintLine op c a internal keyid).commits = s.commits ∧ (s.maintLine op c a internal keyid).pwr = s.pwr ∧ (s.maintLine op c a internal keyid).hk = s.hk ∧ (s.maintLine op c a internal keyid).clk = s.clk ∧ (s.maintLine op c a internal keyid).bw = s.bw ∧ (s.maintLine op c a internal keyid).gang0 = s.gang0 ∧ (s.maintLine op c a internal keyid).gang1 = s.gang1 ∧ (s.maintLine op c a internal keyid).med = s.med ∧ (s.maintLine op c a internal keyid).roms = s.roms ∧ (s.maintLine op c a internal keyid).xlt = s.xlt ∧ (s.maintLine op c a internal keyid).prot = s.prot ∧ (s.maintLine op c a internal keyid).dram = s.dram ∧ (s.maintLine op c a internal keyid).drift = s.drift ∧ (s.maintLine op c a internal keyid).zl0 = s.zl0 ∧ (s.maintLine op c a internal keyid).zl1 = s.zl1 ∧ (s.maintLine op c a internal keyid).strm = s.strm ∧ (s.maintLine op c a internal keyid).mbox = s.mbox ∧ (s.maintLine op c a internal keyid).srm = s.srm ∧ (s.maintLine op c a internal keyid).dbg = s.dbg ∧ (s.maintLine op c a internal keyid).i3c = s.i3c := by
  have f1 := @State.maintEntry_frame
  dsimp only [State.maintLine]; (repeat' split) <;> simp [f1]
theorem State.lookIn_frame (s : State) (c : Nat) (a : Nat) (internal : Bool) (keyid : Nat) : (s.lookIn c a internal keyid).pending = s.pending ∧ (s.lookIn c a internal keyid).variant = s.variant ∧ (s.lookIn c a internal keyid).applied = s.applied ∧ (s.lookIn c a internal keyid).latches = s.latches ∧ (s.lookIn c a internal keyid).commits = s.commits ∧ (s.lookIn c a internal keyid).resetting = s.resetting ∧ (s.lookIn c a internal keyid).dev = s.dev ∧ (s.lookIn c a internal keyid).pwr = s.pwr ∧ (s.lookIn c a internal keyid).hk = s.hk ∧ (s.lookIn c a internal keyid).clk = s.clk ∧ (s.lookIn c a internal keyid).bw = s.bw ∧ (s.lookIn c a internal keyid).gang0 = s.gang0 ∧ (s.lookIn c a internal keyid).gang1 = s.gang1 ∧ (s.lookIn c a internal keyid).med = s.med ∧ (s.lookIn c a internal keyid).roms = s.roms ∧ (s.lookIn c a internal keyid).xlt = s.xlt ∧ (s.lookIn c a internal keyid).prot = s.prot ∧ (s.lookIn c a internal keyid).dram = s.dram ∧ (s.lookIn c a internal keyid).drift = s.drift ∧ (s.lookIn c a internal keyid).zl0 = s.zl0 ∧ (s.lookIn c a internal keyid).zl1 = s.zl1 ∧ (s.lookIn c a internal keyid).strm = s.strm ∧ (s.lookIn c a internal keyid).mbox = s.mbox ∧ (s.lookIn c a internal keyid).pnv = s.pnv ∧ (s.lookIn c a internal keyid).nvm = s.nvm ∧ (s.lookIn c a internal keyid).srm = s.srm ∧ (s.lookIn c a internal keyid).dbg = s.dbg ∧ (s.lookIn c a internal keyid).i3c = s.i3c ∧ (s.lookIn c a internal keyid).drawn = s.drawn := by
  have f1 := @State.meet_frame
  dsimp only [State.lookIn]; (repeat' split) <;> simp [f1]
theorem State.updateLine_frame (s : State) (c : Nat) (a : Nat) (keyid : Nat) (d : Line) (m : Mask) : (s.updateLine c a keyid d m).pending = s.pending ∧ (s.updateLine c a keyid d m).variant = s.variant ∧ (s.updateLine c a keyid d m).applied = s.applied ∧ (s.updateLine c a keyid d m).latches = s.latches ∧ (s.updateLine c a keyid d m).commits = s.commits ∧ (s.updateLine c a keyid d m).resetting = s.resetting ∧ (s.updateLine c a keyid d m).dev = s.dev ∧ (s.updateLine c a keyid d m).pwr = s.pwr ∧ (s.updateLine c a keyid d m).hk = s.hk ∧ (s.updateLine c a keyid d m).clk = s.clk ∧ (s.updateLine c a keyid d m).gang0 = s.gang0 ∧ (s.updateLine c a keyid d m).gang1 = s.gang1 ∧ (s.updateLine c a keyid d m).med = s.med ∧ (s.updateLine c a keyid d m).roms = s.roms ∧ (s.updateLine c a keyid d m).prot = s.prot ∧ (s.updateLine c a keyid d m).drift = s.drift ∧ (s.updateLine c a keyid d m).zl0 = s.zl0 ∧ (s.updateLine c a keyid d m).zl1 = s.zl1 ∧ (s.updateLine c a keyid d m).mbox = s.mbox ∧ (s.updateLine c a keyid d m).nvm = s.nvm ∧ (s.updateLine c a keyid d m).srm = s.srm ∧ (s.updateLine c a keyid d m).dbg = s.dbg ∧ (s.updateLine c a keyid d m).i3c = s.i3c ∧ (s.updateLine c a keyid d m).drawn = s.drawn := by
  have f1 := @State.setCset_frame
  dsimp only [State.updateLine]; (repeat' split) <;> simp [f1]
theorem State.touch_frame (s : State) (c : Nat) : (s.touch c).pending = s.pending ∧ (s.touch c).variant = s.variant ∧ (s.touch c).applied = s.applied ∧ (s.touch c).latches = s.latches ∧ (s.touch c).commits = s.commits ∧ (s.touch c).resetting = s.resetting ∧ (s.touch c).dev = s.dev ∧ (s.touch c).pwr = s.pwr ∧ (s.touch c).hk = s.hk ∧ (s.touch c).clk = s.clk ∧ (s.touch c).bw = s.bw ∧ (s.touch c).gang0 = s.gang0 ∧ (s.touch c).gang1 = s.gang1 ∧ (s.touch c).med = s.med ∧ (s.touch c).roms = s.roms ∧ (s.touch c).xlt = s.xlt ∧ (s.touch c).prot = s.prot ∧ (s.touch c).dram = s.dram ∧ (s.touch c).drift = s.drift ∧ (s.touch c).zl0 = s.zl0 ∧ (s.touch c).zl1 = s.zl1 ∧ (s.touch c).strm = s.strm ∧ (s.touch c).mbox = s.mbox ∧ (s.touch c).pnv = s.pnv ∧ (s.touch c).nvm = s.nvm ∧ (s.touch c).srm = s.srm ∧ (s.touch c).dbg = s.dbg ∧ (s.touch c).i3c = s.i3c ∧ (s.touch c).drawn = s.drawn := by
  have f1 := @State.setSmall_frame
  simp [State.touch, f1]
theorem State.lookSmall_frame (s : State) (c : Nat) (a : Nat) (internal : Bool) (keyid : Nat) : (s.lookSmall c a internal keyid).pending = s.pending ∧ (s.lookSmall c a internal keyid).variant = s.variant ∧ (s.lookSmall c a internal keyid).applied = s.applied ∧ (s.lookSmall c a internal keyid).latches = s.latches ∧ (s.lookSmall c a internal keyid).commits = s.commits ∧ (s.lookSmall c a internal keyid).resetting = s.resetting ∧ (s.lookSmall c a internal keyid).dev = s.dev ∧ (s.lookSmall c a internal keyid).pwr = s.pwr ∧ (s.lookSmall c a internal keyid).hk = s.hk ∧ (s.lookSmall c a internal keyid).clk = s.clk ∧ (s.lookSmall c a internal keyid).bw = s.bw ∧ (s.lookSmall c a internal keyid).gang0 = s.gang0 ∧ (s.lookSmall c a internal keyid).gang1 = s.gang1 ∧ (s.lookSmall c a internal keyid).med = s.med ∧ (s.lookSmall c a internal keyid).roms = s.roms ∧ (s.lookSmall c a internal keyid).xlt = s.xlt ∧ (s.lookSmall c a internal keyid).prot = s.prot ∧ (s.lookSmall c a internal keyid).dram = s.dram ∧ (s.lookSmall c a internal keyid).drift = s.drift ∧ (s.lookSmall c a internal keyid).zl0 = s.zl0 ∧ (s.lookSmall c a internal keyid).zl1 = s.zl1 ∧ (s.lookSmall c a internal keyid).strm = s.strm ∧ (s.lookSmall c a internal keyid).mbox = s.mbox ∧ (s.lookSmall c a internal keyid).pnv = s.pnv ∧ (s.lookSmall c a internal keyid).nvm = s.nvm ∧ (s.lookSmall c a internal keyid).srm = s.srm ∧ (s.lookSmall c a internal keyid).dbg = s.dbg ∧ (s.lookSmall c a internal keyid).i3c = s.i3c ∧ (s.lookSmall c a internal keyid).drawn = s.drawn := by
  have f1 := @State.lookIn_frame; have f2 := @State.touch_frame
  simp [State.lookSmall, f1, f2]
theorem State.writeCaches_frame (s : State) (a : Nat) (keyid : Nat) (d : Line) (m : Mask) : (s.writeCaches a keyid d m).pending = s.pending ∧ (s.writeCaches a keyid d m).variant = s.variant ∧ (s.writeCaches a keyid d m).applied = s.applied ∧ (s.writeCaches a keyid d m).latches = s.latches ∧ (s.writeCaches a keyid d m).commits = s.commits ∧ (s.writeCaches a keyid d m).resetting = s.resetting ∧ (s.writeCaches a keyid d m).dev = s.dev ∧ (s.writeCaches a keyid d m).pwr = s.pwr ∧ (s.writeCaches a keyid d m).hk = s.hk ∧ (s.writeCaches a keyid d m).clk = s.clk ∧ (s.writeCaches a keyid d m).gang0 = s.gang0 ∧ (s.writeCaches a keyid d m).gang1 = s.gang1 ∧ (s.writeCaches a keyid d m).med = s.med ∧ (s.writeCaches a keyid d m).roms = s.roms ∧ (s.writeCaches a keyid d m).prot = s.prot ∧ (s.writeCaches a keyid d m).drift = s.drift ∧ (s.writeCaches a keyid d m).zl0 = s.zl0 ∧ (s.writeCaches a keyid d m).zl1 = s.zl1 ∧ (s.writeCaches a keyid d m).mbox = s.mbox ∧ (s.writeCaches a keyid d m).nvm = s.nvm ∧ (s.writeCaches a keyid d m).srm = s.srm ∧ (s.writeCaches a keyid d m).dbg = s.dbg ∧ (s.writeCaches a keyid d m).i3c = s.i3c ∧ (s.writeCaches a keyid d m).drawn = s.drawn := by
  have f1 := @State.lookIn_frame; have f2 := @State.lookSmall_frame; have f3 := @State.snoopWrite_frame; have f4 := @State.staleFills_frame; have f5 := @State.updateLine_frame
  simp [State.writeCaches, f1, f2, f3, f4, f5]
theorem State.maintStart_frame (s : State) (src : Source) (w : Nat) : (s.maintStart src w).pending = s.pending ∧ (s.maintStart src w).variant = s.variant ∧ (s.maintStart src w).latches = s.latches ∧ (s.maintStart src w).clk = s.clk ∧ (s.maintStart src w).med = s.med ∧ (s.maintStart src w).roms = s.roms ∧ (s.maintStart src w).i3c = s.i3c := by
  have f1 := @State.cfgErr_frame; have f2 := @State.onCaches_frame; have f3 := @State.setFld_frame
  simp [State.maintStart, f1, f2, f3]
theorem State.hwInval_frame (s : State) (p : Nat → Bool) : (s.hwInval p).pending = s.pending ∧ (s.hwInval p).variant = s.variant ∧ (s.hwInval p).latches = s.latches ∧ (s.hwInval p).resetting = s.resetting ∧ (s.hwInval p).clk = s.clk ∧ (s.hwInval p).med = s.med ∧ (s.hwInval p).roms = s.roms ∧ (s.hwInval p).dbg = s.dbg ∧ (s.hwInval p).i3c = s.i3c := by
  have f1 := @State.onCaches_frame; have f2 := @State.setFld_frame
  simp [State.hwInval, f1, f2]
theorem State.fillHost_frame (s : State) (c : Nat) (a : Nat) (keyid : Nat) (d : Line) : (s.fillHost c a keyid d).pending = s.pending ∧ (s.fillHost c a keyid d).variant = s.variant ∧ (s.fillHost c a keyid d).applied = s.applied ∧ (s.fillHost c a keyid d).latches = s.latches ∧ (s.fillHost c a keyid d).commits = s.commits ∧ (s.fillHost c a keyid d).resetting = s.resetting ∧ (s.fillHost c a keyid d).pwr = s.pwr ∧ (s.fillHost c a keyid d).hk = s.hk ∧ (s.fillHost c a keyid d).clk = s.clk ∧ (s.fillHost c a keyid d).bw = s.bw ∧ (s.fillHost c a keyid d).gang0 = s.gang0 ∧ (s.fillHost c a keyid d).gang1 = s.gang1 ∧ (s.fillHost c a keyid d).med = s.med ∧ (s.fillHost c a keyid d).roms = s.roms ∧ (s.fillHost c a keyid d).xlt = s.xlt ∧ (s.fillHost c a keyid d).prot = s.prot ∧ (s.fillHost c a keyid d).dram = s.dram ∧ (s.fillHost c a keyid d).drift = s.drift ∧ (s.fillHost c a keyid d).zl0 = s.zl0 ∧ (s.fillHost c a keyid d).zl1 = s.zl1 ∧ (s.fillHost c a keyid d).strm = s.strm ∧ (s.fillHost c a keyid d).mbox = s.mbox ∧ (s.fillHost c a keyid d).srm = s.srm ∧ (s.fillHost c a keyid d).dbg = s.dbg ∧ (s.fillHost c a keyid d).i3c = s.i3c := by
  have f1 := @State.fill_frame
  simp [State.fillHost, f1]
theorem State.maintRun_frame (s : State) (m : Maint) : (s.maintRun m).pending = s.pending ∧ (s.maintRun m).variant = s.variant ∧ (s.maintRun m).applied = s.applied ∧ (s.maintRun m).latches = s.latches ∧ (s.maintRun m).commits = s.commits ∧ (s.maintRun m).pwr = s.pwr ∧ (s.maintRun m).hk = s.hk ∧ (s.maintRun m).clk = s.clk ∧ (s.maintRun m).bw = s.bw ∧ (s.maintRun m).gang0 = s.gang0 ∧ (s.maintRun m).gang1 = s.gang1 ∧ (s.maintRun m).med = s.med ∧ (s.maintRun m).roms = s.roms ∧ (s.maintRun m).xlt = s.xlt ∧ (s.maintRun m).prot = s.prot ∧ (s.maintRun m).dram = s.dram ∧ (s.maintRun m).drift = s.drift ∧ (s.maintRun m).zl0 = s.zl0 ∧ (s.maintRun m).zl1 = s.zl1 ∧ (s.maintRun m).strm = s.strm ∧ (s.maintRun m).mbox = s.mbox ∧ (s.maintRun m).srm = s.srm ∧ (s.maintRun m).dbg = s.dbg ∧ (s.maintRun m).i3c = s.i3c := by
  have f1 := @State.maintEntry_frame; have f2 := @State.maintLine_frame
  dsimp only [State.maintRun]; (repeat' split) <;> simp [f1, f2]

end Sys2Proof.Machine
end

