-- ==== Sys2Proof/Laws/FrameRespond.lean ====
section
/-! SUPPORT. Frames of the operations of Machine/Respond.lean: the fields of State that each leaves as they were. -/

set_option maxRecDepth 4000
set_option linter.unusedSimpArgs false

namespace Sys2Proof.Machine

theorem State.onLink_frame (s : State) (f : Link → Link) : (s.onLink f).pending = s.pending ∧ (s.onLink f).variant = s.variant ∧ (s.onLink f).applied = s.applied ∧ (s.onLink f).latches = s.latches ∧ (s.onLink f).commits = s.commits ∧ (s.onLink f).resetting = s.resetting ∧ (s.onLink f).dev = s.dev ∧ (s.onLink f).pwr = s.pwr ∧ (s.onLink f).hk = s.hk ∧ (s.onLink f).clk = s.clk ∧ (s.onLink f).bw = s.bw ∧ (s.onLink f).gang0 = s.gang0 ∧ (s.onLink f).gang1 = s.gang1 ∧ (s.onLink f).med = s.med ∧ (s.onLink f).roms = s.roms ∧ (s.onLink f).xlt = s.xlt ∧ (s.onLink f).tally = s.tally ∧ (s.onLink f).prot = s.prot ∧ (s.onLink f).caches = s.caches ∧ (s.onLink f).dram = s.dram ∧ (s.onLink f).reads = s.reads ∧ (s.onLink f).drift = s.drift ∧ (s.onLink f).zl0 = s.zl0 ∧ (s.onLink f).zl1 = s.zl1 ∧ (s.onLink f).pmc = s.pmc ∧ (s.onLink f).ring = s.ring ∧ (s.onLink f).strm = s.strm ∧ (s.onLink f).mbox = s.mbox ∧ (s.onLink f).pnv = s.pnv ∧ (s.onLink f).nvm = s.nvm ∧ (s.onLink f).srm = s.srm ∧ (s.onLink f).dbg = s.dbg ∧ (s.onLink f).i3c = s.i3c ∧ (s.onLink f).drawn = s.drawn := by
  simp [State.onLink]
theorem State.leave_frame (s : State) (o : Output) : (s.leave o).pending = s.pending ∧ (s.leave o).variant = s.variant ∧ (s.leave o).applied = s.applied ∧ (s.leave o).latches = s.latches ∧ (s.leave o).commits = s.commits ∧ (s.leave o).resetting = s.resetting ∧ (s.leave o).dev = s.dev ∧ (s.leave o).pwr = s.pwr ∧ (s.leave o).hk = s.hk ∧ (s.leave o).clk = s.clk ∧ (s.leave o).bw = s.bw ∧ (s.leave o).gang0 = s.gang0 ∧ (s.leave o).gang1 = s.gang1 ∧ (s.leave o).med = s.med ∧ (s.leave o).roms = s.roms ∧ (s.leave o).xlt = s.xlt ∧ (s.leave o).tally = s.tally ∧ (s.leave o).prot = s.prot ∧ (s.leave o).caches = s.caches ∧ (s.leave o).dram = s.dram ∧ (s.leave o).reads = s.reads ∧ (s.leave o).drift = s.drift ∧ (s.leave o).zl0 = s.zl0 ∧ (s.leave o).zl1 = s.zl1 ∧ (s.leave o).pmc = s.pmc ∧ (s.leave o).ring = s.ring ∧ (s.leave o).strm = s.strm ∧ (s.leave o).mbox = s.mbox ∧ (s.leave o).pnv = s.pnv ∧ (s.leave o).nvm = s.nvm ∧ (s.leave o).srm = s.srm ∧ (s.leave o).dbg = s.dbg ∧ (s.leave o).i3c = s.i3c ∧ (s.leave o).drawn = s.drawn := by
  have f1 := @State.emit_frame; have f2 := @State.onLink_frame
  simp [State.leave, f1, f2]
theorem State.respond_frame (s : State) (o : Output) : (s.respond o).pending = s.pending ∧ (s.respond o).variant = s.variant ∧ (s.respond o).applied = s.applied ∧ (s.respond o).latches = s.latches ∧ (s.respond o).commits = s.commits ∧ (s.respond o).resetting = s.resetting ∧ (s.respond o).dev = s.dev ∧ (s.respond o).pwr = s.pwr ∧ (s.respond o).hk = s.hk ∧ (s.respond o).clk = s.clk ∧ (s.respond o).bw = s.bw ∧ (s.respond o).gang0 = s.gang0 ∧ (s.respond o).gang1 = s.gang1 ∧ (s.respond o).med = s.med ∧ (s.respond o).roms = s.roms ∧ (s.respond o).xlt = s.xlt ∧ (s.respond o).tally = s.tally ∧ (s.respond o).prot = s.prot ∧ (s.respond o).caches = s.caches ∧ (s.respond o).dram = s.dram ∧ (s.respond o).reads = s.reads ∧ (s.respond o).drift = s.drift ∧ (s.respond o).zl0 = s.zl0 ∧ (s.respond o).zl1 = s.zl1 ∧ (s.respond o).pmc = s.pmc ∧ (s.respond o).ring = s.ring ∧ (s.respond o).strm = s.strm ∧ (s.respond o).mbox = s.mbox ∧ (s.respond o).pnv = s.pnv ∧ (s.respond o).nvm = s.nvm ∧ (s.respond o).srm = s.srm ∧ (s.respond o).dbg = s.dbg ∧ (s.respond o).i3c = s.i3c ∧ (s.respond o).drawn = s.drawn := by
  have f1 := @State.leave_frame; have f2 := @State.onLink_frame; have f3 := @State.raise_frame
  simp [State.respond, f1, f2, f3]
theorem State.sendCmp_frame (s : State) (tag : Nat) (c : Nat) : (s.sendCmp tag c).pending = s.pending ∧ (s.sendCmp tag c).variant = s.variant ∧ (s.sendCmp tag c).applied = s.applied ∧ (s.sendCmp tag c).latches = s.latches ∧ (s.sendCmp tag c).commits = s.commits ∧ (s.sendCmp tag c).resetting = s.resetting ∧ (s.sendCmp tag c).dev = s.dev ∧ (s.sendCmp tag c).pwr = s.pwr ∧ (s.sendCmp tag c).hk = s.hk ∧ (s.sendCmp tag c).clk = s.clk ∧ (s.sendCmp tag c).bw = s.bw ∧ (s.sendCmp tag c).gang0 = s.gang0 ∧ (s.sendCmp tag c).gang1 = s.gang1 ∧ (s.sendCmp tag c).med = s.med ∧ (s.sendCmp tag c).roms = s.roms ∧ (s.sendCmp tag c).xlt = s.xlt ∧ (s.sendCmp tag c).prot = s.prot ∧ (s.sendCmp tag c).caches = s.caches ∧ (s.sendCmp tag c).dram = s.dram ∧ (s.sendCmp tag c).reads = s.reads ∧ (s.sendCmp tag c).drift = s.drift ∧ (s.sendCmp tag c).zl0 = s.zl0 ∧ (s.sendCmp tag c).zl1 = s.zl1 ∧ (s.sendCmp tag c).pmc = s.pmc ∧ (s.sendCmp tag c).ring = s.ring ∧ (s.sendCmp tag c).mbox = s.mbox ∧ (s.sendCmp tag c).pnv = s.pnv ∧ (s.sendCmp tag c).nvm = s.nvm ∧ (s.sendCmp tag c).srm = s.srm ∧ (s.sendCmp tag c).dbg = s.dbg ∧ (s.sendCmp tag c).i3c = s.i3c ∧ (s.sendCmp tag c).drawn = s.drawn := by
  have f1 := @State.respond_frame
  simp [State.sendCmp, f1]
theorem State.riskEnd_frame (s : State) : (s.riskEnd).pending = s.pending ∧ (s.riskEnd).variant = s.variant ∧ (s.riskEnd).applied = s.applied ∧ (s.riskEnd).latches = s.latches ∧ (s.riskEnd).commits = s.commits ∧ (s.riskEnd).resetting = s.resetting ∧ (s.riskEnd).pwr = s.pwr ∧ (s.riskEnd).hk = s.hk ∧ (s.riskEnd).clk = s.clk ∧ (s.riskEnd).bw = s.bw ∧ (s.riskEnd).med = s.med ∧ (s.riskEnd).roms = s.roms ∧ (s.riskEnd).caches = s.caches ∧ (s.riskEnd).zl0 = s.zl0 ∧ (s.riskEnd).zl1 = s.zl1 ∧ (s.riskEnd).ring = s.ring ∧ (s.riskEnd).mbox = s.mbox ∧ (s.riskEnd).dbg = s.dbg ∧ (s.riskEnd).i3c = s.i3c ∧ (s.riskEnd).drawn = s.drawn := by
  have f1 := @State.emit_frame; have f2 := @State.onLink_frame; have f3 := @State.raise_frame; have f4 := @State.setFlag_frame
  simp [State.riskEnd, f1, f2, f3, f4]
theorem State.riskCheck_frame (s : State) : (s.riskCheck).pending = s.pending ∧ (s.riskCheck).variant = s.variant ∧ (s.riskCheck).applied = s.applied ∧ (s.riskCheck).latches = s.latches ∧ (s.riskCheck).commits = s.commits ∧ (s.riskCheck).resetting = s.resetting ∧ (s.riskCheck).pwr = s.pwr ∧ (s.riskCheck).hk = s.hk ∧ (s.riskCheck).clk = s.clk ∧ (s.riskCheck).bw = s.bw ∧ (s.riskCheck).med = s.med ∧ (s.riskCheck).roms = s.roms ∧ (s.riskCheck).caches = s.caches ∧ (s.riskCheck).zl0 = s.zl0 ∧ (s.riskCheck).zl1 = s.zl1 ∧ (s.riskCheck).ring = s.ring ∧ (s.riskCheck).mbox = s.mbox ∧ (s.riskCheck).dbg = s.dbg ∧ (s.riskCheck).i3c = s.i3c ∧ (s.riskCheck).drawn = s.drawn := by
  have f1 := @State.riskEnd_frame
  simp [State.riskCheck, f1]

end Sys2Proof.Machine
end

