-- ==== Sys2Proof/Laws/FrameSysArea.lean ====
section
/-! SUPPORT. Frames of the operations of Machine/SysArea.lean: the fields of State that each leaves as they were. -/

set_option maxRecDepth 4000
set_option linter.unusedSimpArgs false

namespace Sys2Proof.Machine

theorem State.blockStale_frame (s : State) (psa : Option Nat) : (s.blockStale psa).pending = s.pending ∧ (s.blockStale psa).variant = s.variant ∧ (s.blockStale psa).latches = s.latches ∧ (s.blockStale psa).resetting = s.resetting ∧ (s.blockStale psa).med = s.med ∧ (s.blockStale psa).roms = s.roms ∧ (s.blockStale psa).dbg = s.dbg ∧ (s.blockStale psa).i3c = s.i3c := by
  have f1 := @State.setRev_frame
  dsimp only [State.blockStale]; (repeat' split) <;> simp [f1]
theorem State.blocksMove_frame (s : State) : (s.blocksMove).pending = s.pending ∧ (s.blocksMove).variant = s.variant ∧ (s.blocksMove).applied = s.applied ∧ (s.blocksMove).latches = s.latches ∧ (s.blocksMove).commits = s.commits ∧ (s.blocksMove).resetting = s.resetting ∧ (s.blocksMove).pwr = s.pwr ∧ (s.blocksMove).hk = s.hk ∧ (s.blocksMove).clk = s.clk ∧ (s.blocksMove).bw = s.bw ∧ (s.blocksMove).med = s.med ∧ (s.blocksMove).roms = s.roms ∧ (s.blocksMove).caches = s.caches ∧ (s.blocksMove).zl0 = s.zl0 ∧ (s.blocksMove).zl1 = s.zl1 ∧ (s.blocksMove).ring = s.ring ∧ (s.blocksMove).mbox = s.mbox ∧ (s.blocksMove).dbg = s.dbg ∧ (s.blocksMove).i3c = s.i3c ∧ (s.blocksMove).drawn = s.drawn := by
  have f1 := @State.onXlt_frame
  simp [State.blocksMove, f1]
theorem State.blocksDone_frame (s : State) (c : Nat) (seqs : List Nat) (psa : Nat) : (s.blocksDone c seqs psa).pending = s.pending ∧ (s.blocksDone c seqs psa).variant = s.variant ∧ (s.blocksDone c seqs psa).applied = s.applied ∧ (s.blocksDone c seqs psa).latches = s.latches ∧ (s.blocksDone c seqs psa).commits = s.commits ∧ (s.blocksDone c seqs psa).resetting = s.resetting ∧ (s.blocksDone c seqs psa).pwr = s.pwr ∧ (s.blocksDone c seqs psa).hk = s.hk ∧ (s.blocksDone c seqs psa).clk = s.clk ∧ (s.blocksDone c seqs psa).bw = s.bw ∧ (s.blocksDone c seqs psa).med = s.med ∧ (s.blocksDone c seqs psa).roms = s.roms ∧ (s.blocksDone c seqs psa).caches = s.caches ∧ (s.blocksDone c seqs psa).zl0 = s.zl0 ∧ (s.blocksDone c seqs psa).zl1 = s.zl1 ∧ (s.blocksDone c seqs psa).ring = s.ring ∧ (s.blocksDone c seqs psa).mbox = s.mbox ∧ (s.blocksDone c seqs psa).dbg = s.dbg ∧ (s.blocksDone c seqs psa).i3c = s.i3c ∧ (s.blocksDone c seqs psa).drawn = s.drawn := by
  have f1 := @State.blocksMove_frame; have f2 := @State.onXlt_frame
  simp [State.blocksDone, f1, f2]
theorem State.sysTake_frame (s : State) (g : Nat) (w : Nat) (tiles : List Nat) : (s.sysTake g w tiles).2.pending = s.pending ∧ (s.sysTake g w tiles).2.variant = s.variant ∧ (s.sysTake g w tiles).2.applied = s.applied ∧ (s.sysTake g w tiles).2.latches = s.latches ∧ (s.sysTake g w tiles).2.commits = s.commits ∧ (s.sysTake g w tiles).2.resetting = s.resetting ∧ (s.sysTake g w tiles).2.pwr = s.pwr ∧ (s.sysTake g w tiles).2.hk = s.hk ∧ (s.sysTake g w tiles).2.clk = s.clk ∧ (s.sysTake g w tiles).2.bw = s.bw ∧ (s.sysTake g w tiles).2.med = s.med ∧ (s.sysTake g w tiles).2.roms = s.roms ∧ (s.sysTake g w tiles).2.caches = s.caches ∧ (s.sysTake g w tiles).2.zl0 = s.zl0 ∧ (s.sysTake g w tiles).2.zl1 = s.zl1 ∧ (s.sysTake g w tiles).2.ring = s.ring ∧ (s.sysTake g w tiles).2.mbox = s.mbox ∧ (s.sysTake g w tiles).2.dbg = s.dbg ∧ (s.sysTake g w tiles).2.i3c = s.i3c ∧ (s.sysTake g w tiles).2.drawn = s.drawn := by
  have f1 := @State.onGang_frame; have f2 := @State.setBand_frame
  dsimp only [State.sysTake]; (repeat' split) <;> simp [f1, f2]
theorem State.sysQueue_frame (s : State) (g : Nat) (k : SysKind) : (s.sysQueue g k).2.pending = s.pending ∧ (s.sysQueue g k).2.variant = s.variant ∧ (s.sysQueue g k).2.applied = s.applied ∧ (s.sysQueue g k).2.latches = s.latches ∧ (s.sysQueue g k).2.commits = s.commits ∧ (s.sysQueue g k).2.resetting = s.resetting ∧ (s.sysQueue g k).2.pwr = s.pwr ∧ (s.sysQueue g k).2.hk = s.hk ∧ (s.sysQueue g k).2.clk = s.clk ∧ (s.sysQueue g k).2.bw = s.bw ∧ (s.sysQueue g k).2.med = s.med ∧ (s.sysQueue g k).2.roms = s.roms ∧ (s.sysQueue g k).2.caches = s.caches ∧ (s.sysQueue g k).2.zl0 = s.zl0 ∧ (s.sysQueue g k).2.zl1 = s.zl1 ∧ (s.sysQueue g k).2.ring = s.ring ∧ (s.sysQueue g k).2.mbox = s.mbox ∧ (s.sysQueue g k).2.dbg = s.dbg ∧ (s.sysQueue g k).2.i3c = s.i3c ∧ (s.sysQueue g k).2.drawn = s.drawn := by
  have f1 := @State.onGang_frame; have f2 := @State.sysTake_frame
  dsimp only [State.sysQueue]; (repeat' split) <;> simp [f1, f2]
theorem State.placeJournal_frame (s : State) (g : Nat) (tiles : List Nat) : (s.placeJournal g tiles).pending = s.pending ∧ (s.placeJournal g tiles).variant = s.variant ∧ (s.placeJournal g tiles).applied = s.applied ∧ (s.placeJournal g tiles).latches = s.latches ∧ (s.placeJournal g tiles).commits = s.commits ∧ (s.placeJournal g tiles).resetting = s.resetting ∧ (s.placeJournal g tiles).pwr = s.pwr ∧ (s.placeJournal g tiles).hk = s.hk ∧ (s.placeJournal g tiles).clk = s.clk ∧ (s.placeJournal g tiles).bw = s.bw ∧ (s.placeJournal g tiles).med = s.med ∧ (s.placeJournal g tiles).roms = s.roms ∧ (s.placeJournal g tiles).caches = s.caches ∧ (s.placeJournal g tiles).zl0 = s.zl0 ∧ (s.placeJournal g tiles).zl1 = s.zl1 ∧ (s.placeJournal g tiles).ring = s.ring ∧ (s.placeJournal g tiles).mbox = s.mbox ∧ (s.placeJournal g tiles).dbg = s.dbg ∧ (s.placeJournal g tiles).i3c = s.i3c ∧ (s.placeJournal g tiles).drawn = s.drawn := by
  have f1 := @State.onGang_frame; have f2 := @State.onXlt_frame; have f3 := @State.sysTake_frame
  simp (disch := (intros; (repeat' split) <;> simp [f1, f2, f3])) [State.placeJournal, f1, f2, f3]
theorem State.placeSys_frame (s : State) (g : Nat) (tiles : List Nat) : (s.placeSys g tiles).pending = s.pending ∧ (s.placeSys g tiles).variant = s.variant ∧ (s.placeSys g tiles).applied = s.applied ∧ (s.placeSys g tiles).latches = s.latches ∧ (s.placeSys g tiles).commits = s.commits ∧ (s.placeSys g tiles).resetting = s.resetting ∧ (s.placeSys g tiles).pwr = s.pwr ∧ (s.placeSys g tiles).hk = s.hk ∧ (s.placeSys g tiles).clk = s.clk ∧ (s.placeSys g tiles).bw = s.bw ∧ (s.placeSys g tiles).med = s.med ∧ (s.placeSys g tiles).roms = s.roms ∧ (s.placeSys g tiles).caches = s.caches ∧ (s.placeSys g tiles).zl0 = s.zl0 ∧ (s.placeSys g tiles).zl1 = s.zl1 ∧ (s.placeSys g tiles).ring = s.ring ∧ (s.placeSys g tiles).mbox = s.mbox ∧ (s.placeSys g tiles).dbg = s.dbg ∧ (s.placeSys g tiles).i3c = s.i3c ∧ (s.placeSys g tiles).drawn = s.drawn := by
  have f1 := @State.onGang_frame
  simp [State.placeSys, f1]
theorem State.placeSystem_frame (s : State) (g : Nat) : (s.placeSystem g).pending = s.pending ∧ (s.placeSystem g).variant = s.variant ∧ (s.placeSystem g).applied = s.applied ∧ (s.placeSystem g).latches = s.latches ∧ (s.placeSystem g).commits = s.commits ∧ (s.placeSystem g).resetting = s.resetting ∧ (s.placeSystem g).pwr = s.pwr ∧ (s.placeSystem g).hk = s.hk ∧ (s.placeSystem g).clk = s.clk ∧ (s.placeSystem g).bw = s.bw ∧ (s.placeSystem g).med = s.med ∧ (s.placeSystem g).roms = s.roms ∧ (s.placeSystem g).caches = s.caches ∧ (s.placeSystem g).zl0 = s.zl0 ∧ (s.placeSystem g).zl1 = s.zl1 ∧ (s.placeSystem g).ring = s.ring ∧ (s.placeSystem g).mbox = s.mbox ∧ (s.placeSystem g).dbg = s.dbg ∧ (s.placeSystem g).i3c = s.i3c ∧ (s.placeSystem g).drawn = s.drawn := by
  have f1 := @State.placeJournal_frame; have f2 := @State.placeSys_frame
  simp [State.placeSystem, f1, f2]
/-- What programSeg and parityAdd leave, programDie leaves. -/
theorem State.programDie_keeps {α : Type} (π : State → α) (hSeg : ∀ s psa pos secs, π (State.programSeg s psa pos secs) = π s)
    (hPar : ∀ s slot pos t i secs, π (State.parityAdd s slot pos t i secs) = π s) (s : State) (g pos : Nat) : π (s.programDie g pos) = π s := by
  dsimp only [State.programDie]
  split
  · split
    · refine State.each_keeps π ?_ _ _
      intro s i
      split
      · exact hSeg _ _ _ _
      · rfl
    · rfl
  · refine (State.each_keeps π ?_ _ _).trans (State.each_keeps π ?_ _ _)
    · intro s p
      refine State.each_keeps π ?_ _ _
      intro s i
      split
      · exact (hPar _ _ _ _ _ _).trans (hSeg _ _ _ _)
      · exact hSeg _ _ _ _
    · intro s r
      exact State.each_keeps π (fun s i => hSeg _ _ _ _) _ _
theorem State.programDie_frame (s : State) (g : Nat) (pos : Nat) : (s.programDie g pos).pending = s.pending ∧ (s.programDie g pos).variant = s.variant ∧ (s.programDie g pos).applied = s.applied ∧ (s.programDie g pos).latches = s.latches ∧ (s.programDie g pos).commits = s.commits ∧ (s.programDie g pos).resetting = s.resetting ∧ (s.programDie g pos).dev = s.dev ∧ (s.programDie g pos).pwr = s.pwr ∧ (s.programDie g pos).hk = s.hk ∧ (s.programDie g pos).clk = s.clk ∧ (s.programDie g pos).bw = s.bw ∧ (s.programDie g pos).roms = s.roms ∧ (s.programDie g pos).prot = s.prot ∧ (s.programDie g pos).caches = s.caches ∧ (s.programDie g pos).dram = s.dram ∧ (s.programDie g pos).link = s.link ∧ (s.programDie g pos).reads = s.reads ∧ (s.programDie g pos).drift = s.drift ∧ (s.programDie g pos).zl0 = s.zl0 ∧ (s.programDie g pos).zl1 = s.zl1 ∧ (s.programDie g pos).ring = s.ring ∧ (s.programDie g pos).strm = s.strm ∧ (s.programDie g pos).mbox = s.mbox ∧ (s.programDie g pos).pnv = s.pnv ∧ (s.programDie g pos).nvm = s.nvm ∧ (s.programDie g pos).srm = s.srm ∧ (s.programDie g pos).dbg = s.dbg ∧ (s.programDie g pos).i3c = s.i3c ∧ (s.programDie g pos).drawn = s.drawn := by
  have f1 := @State.parityAdd_frame; have f2 := @State.programSeg_frame
  exact ⟨State.programDie_keeps (fun s => s.pending) (by simp [f1, f2]) (by simp [f1, f2]) s g pos, State.programDie_keeps (fun s => s.variant) (by simp [f1, f2]) (by simp [f1, f2]) s g pos, State.programDie_keeps (fun s => s.applied) (by simp [f1, f2]) (by simp [f1, f2]) s g pos, State.programDie_keeps (fun s => s.latches) (by simp [f1, f2]) (by simp [f1, f2]) s g pos, State.programDie_keeps (fun s => s.commits) (by simp [f1, f2]) (by simp [f1, f2]) s g pos, State.programDie_keeps (fun s => s.resetting) (by simp [f1, f2]) (by simp [f1, f2]) s g pos, State.programDie_keeps (fun s => s.dev) (by simp [f1, f2]) (by simp [f1, f2]) s g pos, State.programDie_keeps (fun s => s.pwr) (by simp [f1, f2]) (by simp [f1, f2]) s g pos, State.programDie_keeps (fun s => s.hk) (by simp [f1, f2]) (by simp [f1, f2]) s g pos, State.programDie_keeps (fun s => s.clk) (by simp [f1, f2]) (by simp [f1, f2]) s g pos, State.programDie_keeps (fun s => s.bw) (by simp [f1, f2]) (by simp [f1, f2]) s g pos, State.programDie_keeps (fun s => s.roms) (by simp [f1, f2]) (by simp [f1, f2]) s g pos, State.programDie_keeps (fun s => s.prot) (by simp [f1, f2]) (by simp [f1, f2]) s g pos, State.programDie_keeps (fun s => s.caches) (by simp [f1, f2]) (by simp [f1, f2]) s g pos, State.programDie_keeps (fun s => s.dram) (by simp [f1, f2]) (by simp [f1, f2]) s g pos, State.programDie_keeps (fun s => s.link) (by simp [f1, f2]) (by simp [f1, f2]) s g pos, State.programDie_keeps (fun s => s.reads) (by simp [f1, f2]) (by simp [f1, f2]) s g pos, State.programDie_keeps (fun s => s.drift) (by simp [f1, f2]) (by simp [f1, f2]) s g pos, State.programDie_keeps (fun s => s.zl0) (by simp [f1, f2]) (by simp [f1, f2]) s g pos, State.programDie_keeps (fun s => s.zl1) (by simp [f1, f2]) (by simp [f1, f2]) s g pos, State.programDie_keeps (fun s => s.ring) (by simp [f1, f2]) (by simp [f1, f2]) s g pos, State.programDie_keeps (fun s => s.strm) (by simp [f1, f2]) (by simp [f1, f2]) s g pos, State.programDie_keeps (fun s => s.mbox) (by simp [f1, f2]) (by simp [f1, f2]) s g pos, State.programDie_keeps (fun s => s.pnv) (by simp [f1, f2]) (by simp [f1, f2]) s g pos, State.programDie_keeps (fun s => s.nvm) (by simp [f1, f2]) (by simp [f1, f2]) s g pos, State.programDie_keeps (fun s => s.srm) (by simp [f1, f2]) (by simp [f1, f2]) s g pos, State.programDie_keeps (fun s => s.dbg) (by simp [f1, f2]) (by simp [f1, f2]) s g pos, State.programDie_keeps (fun s => s.i3c) (by simp [f1, f2]) (by simp [f1, f2]) s g pos, State.programDie_keeps (fun s => s.drawn) (by simp [f1, f2]) (by simp [f1, f2]) s g pos⟩
theorem State.sysRev_frame (s : State) (psa : Nat) (st : RevSt) : (s.sysRev psa st).pending = s.pending ∧ (s.sysRev psa st).variant = s.variant ∧ (s.sysRev psa st).applied = s.applied ∧ (s.sysRev psa st).latches = s.latches ∧ (s.sysRev psa st).commits = s.commits ∧ (s.sysRev psa st).resetting = s.resetting ∧ (s.sysRev psa st).pwr = s.pwr ∧ (s.sysRev psa st).hk = s.hk ∧ (s.sysRev psa st).clk = s.clk ∧ (s.sysRev psa st).bw = s.bw ∧ (s.sysRev psa st).med = s.med ∧ (s.sysRev psa st).roms = s.roms ∧ (s.sysRev psa st).caches = s.caches ∧ (s.sysRev psa st).zl0 = s.zl0 ∧ (s.sysRev psa st).zl1 = s.zl1 ∧ (s.sysRev psa st).ring = s.ring ∧ (s.sysRev psa st).mbox = s.mbox ∧ (s.sysRev psa st).dbg = s.dbg ∧ (s.sysRev psa st).i3c = s.i3c ∧ (s.sysRev psa st).drawn = s.drawn := by
  have f1 := @State.setRev_frame
  simp [State.sysRev, f1]
theorem State.tabDone_frame (s : State) (k : Nat) (psa : Nat) : (s.tabDone k psa).pending = s.pending ∧ (s.tabDone k psa).variant = s.variant ∧ (s.tabDone k psa).applied = s.applied ∧ (s.tabDone k psa).latches = s.latches ∧ (s.tabDone k psa).commits = s.commits ∧ (s.tabDone k psa).resetting = s.resetting ∧ (s.tabDone k psa).pwr = s.pwr ∧ (s.tabDone k psa).hk = s.hk ∧ (s.tabDone k psa).clk = s.clk ∧ (s.tabDone k psa).bw = s.bw ∧ (s.tabDone k psa).med = s.med ∧ (s.tabDone k psa).roms = s.roms ∧ (s.tabDone k psa).caches = s.caches ∧ (s.tabDone k psa).zl0 = s.zl0 ∧ (s.tabDone k psa).zl1 = s.zl1 ∧ (s.tabDone k psa).ring = s.ring ∧ (s.tabDone k psa).mbox = s.mbox ∧ (s.tabDone k psa).dbg = s.dbg ∧ (s.tabDone k psa).i3c = s.i3c ∧ (s.tabDone k psa).drawn = s.drawn := by
  have f1 := @State.onXlt_frame; have f2 := @State.sysRev_frame
  dsimp only [State.tabDone]; (repeat' split) <;> simp [f1, f2]
theorem State.sysDone_frame (s : State) (g : Nat) (r : SysRow) : (s.sysDone g r).pending = s.pending ∧ (s.sysDone g r).variant = s.variant ∧ (s.sysDone g r).applied = s.applied ∧ (s.sysDone g r).latches = s.latches ∧ (s.sysDone g r).commits = s.commits ∧ (s.sysDone g r).resetting = s.resetting ∧ (s.sysDone g r).pwr = s.pwr ∧ (s.sysDone g r).hk = s.hk ∧ (s.sysDone g r).clk = s.clk ∧ (s.sysDone g r).bw = s.bw ∧ (s.sysDone g r).med = s.med ∧ (s.sysDone g r).roms = s.roms ∧ (s.sysDone g r).caches = s.caches ∧ (s.sysDone g r).zl0 = s.zl0 ∧ (s.sysDone g r).zl1 = s.zl1 ∧ (s.sysDone g r).ring = s.ring ∧ (s.sysDone g r).mbox = s.mbox ∧ (s.sysDone g r).dbg = s.dbg ∧ (s.sysDone g r).i3c = s.i3c ∧ (s.sysDone g r).drawn = s.drawn := by
  have f1 := @State.blocksDone_frame; have f2 := @State.journal_frame; have f3 := @State.onXlt_frame; have f4 := @State.setRev_frame; have f5 := @State.sysRev_frame; have f6 := @State.tabDone_frame
  dsimp only [State.sysDone]; (repeat' split) <;> simp [f1, f2, f3, f4, f5, f6]

end Sys2Proof.Machine
end

