-- ==== Sys2Proof/Laws/FrameTurns.lean ====
section
/-! SUPPORT. Frames of the operations of Machine/Turns.lean: the fields of State that each leaves as they were. -/

set_option maxRecDepth 4000
set_option linter.unusedSimpArgs false

namespace Sys2Proof.Machine

theorem State.setGroup_frame (s : State) (i : Nat) (x : Group) : (s.setGroup i x).pending = s.pending ∧ (s.setGroup i x).variant = s.variant ∧ (s.setGroup i x).applied = s.applied ∧ (s.setGroup i x).latches = s.latches ∧ (s.setGroup i x).commits = s.commits ∧ (s.setGroup i x).resetting = s.resetting ∧ (s.setGroup i x).dev = s.dev ∧ (s.setGroup i x).pwr = s.pwr ∧ (s.setGroup i x).hk = s.hk ∧ (s.setGroup i x).clk = s.clk ∧ (s.setGroup i x).bw = s.bw ∧ (s.setGroup i x).gang0 = s.gang0 ∧ (s.setGroup i x).gang1 = s.gang1 ∧ (s.setGroup i x).med = s.med ∧ (s.setGroup i x).roms = s.roms ∧ (s.setGroup i x).prot = s.prot ∧ (s.setGroup i x).caches = s.caches ∧ (s.setGroup i x).dram = s.dram ∧ (s.setGroup i x).link = s.link ∧ (s.setGroup i x).reads = s.reads ∧ (s.setGroup i x).drift = s.drift ∧ (s.setGroup i x).zl0 = s.zl0 ∧ (s.setGroup i x).zl1 = s.zl1 ∧ (s.setGroup i x).ring = s.ring ∧ (s.setGroup i x).mbox = s.mbox ∧ (s.setGroup i x).nvm = s.nvm ∧ (s.setGroup i x).srm = s.srm ∧ (s.setGroup i x).dbg = s.dbg ∧ (s.setGroup i x).i3c = s.i3c ∧ (s.setGroup i x).drawn = s.drawn := by
  have f1 := @State.onXlt_frame
  simp [State.setGroup, f1]
theorem State.ackBlocks_frame (s : State) (g : Nat) (seqs : List Nat) : (s.ackBlocks g seqs).pending = s.pending ∧ (s.ackBlocks g seqs).variant = s.variant ∧ (s.ackBlocks g seqs).applied = s.applied ∧ (s.ackBlocks g seqs).latches = s.latches ∧ (s.ackBlocks g seqs).commits = s.commits ∧ (s.ackBlocks g seqs).resetting = s.resetting ∧ (s.ackBlocks g seqs).pwr = s.pwr ∧ (s.ackBlocks g seqs).hk = s.hk ∧ (s.ackBlocks g seqs).clk = s.clk ∧ (s.ackBlocks g seqs).bw = s.bw ∧ (s.ackBlocks g seqs).med = s.med ∧ (s.ackBlocks g seqs).roms = s.roms ∧ (s.ackBlocks g seqs).caches = s.caches ∧ (s.ackBlocks g seqs).zl0 = s.zl0 ∧ (s.ackBlocks g seqs).zl1 = s.zl1 ∧ (s.ackBlocks g seqs).ring = s.ring ∧ (s.ackBlocks g seqs).mbox = s.mbox ∧ (s.ackBlocks g seqs).dbg = s.dbg ∧ (s.ackBlocks g seqs).i3c = s.i3c ∧ (s.ackBlocks g seqs).drawn = s.drawn := by
  have f1 := @State.onLink_frame; have f2 := @State.onXlt_frame; have f3 := @State.riskCheck_frame; have f4 := @State.sendCmp_frame
  simp [State.ackBlocks, f1, f2, f3, f4]
theorem State.loadPage_frame (s : State) (g : Nat) (pos : Nat) (p : PageOf) : (s.loadPage g pos p).pending = s.pending ∧ (s.loadPage g pos p).variant = s.variant ∧ (s.loadPage g pos p).latches = s.latches ∧ (s.loadPage g pos p).resetting = s.resetting ∧ (s.loadPage g pos p).med = s.med ∧ (s.loadPage g pos p).roms = s.roms ∧ (s.loadPage g pos p).dbg = s.dbg ∧ (s.loadPage g pos p).i3c = s.i3c := by
  have f1 := @State.moved_frame; have f2 := @State.onGang_frame
  simp [State.loadPage, f1, f2]
theorem State.loadBell_frame (s : State) (g : Nat) : (s.loadBell g).pending = s.pending ∧ (s.loadBell g).variant = s.variant ∧ (s.loadBell g).latches = s.latches ∧ (s.loadBell g).resetting = s.resetting ∧ (s.loadBell g).med = s.med ∧ (s.loadBell g).roms = s.roms ∧ (s.loadBell g).dbg = s.dbg ∧ (s.loadBell g).i3c = s.i3c := by
  have f1 := @State.loadPage_frame
  simp [State.loadBell, f1]
theorem State.completeBatch_frame (s : State) (g : Nat) : (s.completeBatch g).pending = s.pending ∧ (s.completeBatch g).variant = s.variant ∧ (s.completeBatch g).applied = s.applied ∧ (s.completeBatch g).latches = s.latches ∧ (s.completeBatch g).commits = s.commits ∧ (s.completeBatch g).resetting = s.resetting ∧ (s.completeBatch g).pwr = s.pwr ∧ (s.completeBatch g).hk = s.hk ∧ (s.completeBatch g).clk = s.clk ∧ (s.completeBatch g).bw = s.bw ∧ (s.completeBatch g).med = s.med ∧ (s.completeBatch g).roms = s.roms ∧ (s.completeBatch g).caches = s.caches ∧ (s.completeBatch g).zl0 = s.zl0 ∧ (s.completeBatch g).zl1 = s.zl1 ∧ (s.completeBatch g).ring = s.ring ∧ (s.completeBatch g).mbox = s.mbox ∧ (s.completeBatch g).dbg = s.dbg ∧ (s.completeBatch g).i3c = s.i3c ∧ (s.completeBatch g).drawn = s.drawn := by
  have f1 := @State.onGang_frame
  simp [State.completeBatch, f1]
theorem State.foldTurned_frame (s : State) (g : Nat) : (s.foldTurned g).pending = s.pending ∧ (s.foldTurned g).variant = s.variant ∧ (s.foldTurned g).applied = s.applied ∧ (s.foldTurned g).latches = s.latches ∧ (s.foldTurned g).commits = s.commits ∧ (s.foldTurned g).resetting = s.resetting ∧ (s.foldTurned g).pwr = s.pwr ∧ (s.foldTurned g).hk = s.hk ∧ (s.foldTurned g).clk = s.clk ∧ (s.foldTurned g).bw = s.bw ∧ (s.foldTurned g).med = s.med ∧ (s.foldTurned g).roms = s.roms ∧ (s.foldTurned g).caches = s.caches ∧ (s.foldTurned g).zl0 = s.zl0 ∧ (s.foldTurned g).zl1 = s.zl1 ∧ (s.foldTurned g).ring = s.ring ∧ (s.foldTurned g).mbox = s.mbox ∧ (s.foldTurned g).dbg = s.dbg ∧ (s.foldTurned g).i3c = s.i3c ∧ (s.foldTurned g).drawn = s.drawn := by
  have f1 := @State.onGang_frame; have f2 := @State.setBand_frame
  dsimp only [State.foldTurned]; (repeat' split) <;> simp [f1, f2]
theorem State.startIdle_frame (s : State) (g : Nat) : (s.startIdle g).pending = s.pending ∧ (s.startIdle g).variant = s.variant ∧ (s.startIdle g).applied = s.applied ∧ (s.startIdle g).latches = s.latches ∧ (s.startIdle g).commits = s.commits ∧ (s.startIdle g).resetting = s.resetting ∧ (s.startIdle g).dev = s.dev ∧ (s.startIdle g).pwr = s.pwr ∧ (s.startIdle g).hk = s.hk ∧ (s.startIdle g).clk = s.clk ∧ (s.startIdle g).bw = s.bw ∧ (s.startIdle g).med = s.med ∧ (s.startIdle g).roms = s.roms ∧ (s.startIdle g).prot = s.prot ∧ (s.startIdle g).caches = s.caches ∧ (s.startIdle g).dram = s.dram ∧ (s.startIdle g).link = s.link ∧ (s.startIdle g).reads = s.reads ∧ (s.startIdle g).drift = s.drift ∧ (s.startIdle g).zl0 = s.zl0 ∧ (s.startIdle g).zl1 = s.zl1 ∧ (s.startIdle g).ring = s.ring ∧ (s.startIdle g).strm = s.strm ∧ (s.startIdle g).mbox = s.mbox ∧ (s.startIdle g).pnv = s.pnv ∧ (s.startIdle g).nvm = s.nvm ∧ (s.startIdle g).srm = s.srm ∧ (s.startIdle g).dbg = s.dbg ∧ (s.startIdle g).i3c = s.i3c ∧ (s.startIdle g).drawn = s.drawn := by
  have f1 := @State.ev_frame; have f2 := @State.onRota_frame
  simp [State.startIdle, f1, f2]
theorem State.followOn_frame (s : State) (g : Nat) : (s.followOn g).pending = s.pending ∧ (s.followOn g).variant = s.variant ∧ (s.followOn g).applied = s.applied ∧ (s.followOn g).latches = s.latches ∧ (s.followOn g).commits = s.commits ∧ (s.followOn g).resetting = s.resetting ∧ (s.followOn g).dev = s.dev ∧ (s.followOn g).pwr = s.pwr ∧ (s.followOn g).hk = s.hk ∧ (s.followOn g).clk = s.clk ∧ (s.followOn g).bw = s.bw ∧ (s.followOn g).med = s.med ∧ (s.followOn g).roms = s.roms ∧ (s.followOn g).prot = s.prot ∧ (s.followOn g).caches = s.caches ∧ (s.followOn g).dram = s.dram ∧ (s.followOn g).link = s.link ∧ (s.followOn g).reads = s.reads ∧ (s.followOn g).drift = s.drift ∧ (s.followOn g).zl0 = s.zl0 ∧ (s.followOn g).zl1 = s.zl1 ∧ (s.followOn g).ring = s.ring ∧ (s.followOn g).strm = s.strm ∧ (s.followOn g).mbox = s.mbox ∧ (s.followOn g).pnv = s.pnv ∧ (s.followOn g).nvm = s.nvm ∧ (s.followOn g).srm = s.srm ∧ (s.followOn g).dbg = s.dbg ∧ (s.followOn g).i3c = s.i3c ∧ (s.followOn g).drawn = s.drawn := by
  have f1 := @State.checkOver_frame; have f2 := @State.startIdle_frame
  simp [State.followOn, f1, f2]
theorem State.pendSeg_frame (s : State) (slot : Nat) (psa : Nat) (b : Built) : (s.pendSeg slot psa b).pending = s.pending ∧ (s.pendSeg slot psa b).variant = s.variant ∧ (s.pendSeg slot psa b).applied = s.applied ∧ (s.pendSeg slot psa b).latches = s.latches ∧ (s.pendSeg slot psa b).commits = s.commits ∧ (s.pendSeg slot psa b).resetting = s.resetting ∧ (s.pendSeg slot psa b).pwr = s.pwr ∧ (s.pendSeg slot psa b).hk = s.hk ∧ (s.pendSeg slot psa b).clk = s.clk ∧ (s.pendSeg slot psa b).bw = s.bw ∧ (s.pendSeg slot psa b).med = s.med ∧ (s.pendSeg slot psa b).roms = s.roms ∧ (s.pendSeg slot psa b).caches = s.caches ∧ (s.pendSeg slot psa b).zl0 = s.zl0 ∧ (s.pendSeg slot psa b).zl1 = s.zl1 ∧ (s.pendSeg slot psa b).ring = s.ring ∧ (s.pendSeg slot psa b).mbox = s.mbox ∧ (s.pendSeg slot psa b).dbg = s.dbg ∧ (s.pendSeg slot psa b).i3c = s.i3c ∧ (s.pendSeg slot psa b).drawn = s.drawn := by
  have f1 := @State.journal_frame; have f2 := @State.setGroup_frame; have f3 := @State.setRev_frame; have f4 := @State.staleOld_frame
  simp [State.pendSeg, f1, f2, f3, f4]
theorem State.snapDone_frame (s : State) (g : Nat) (block : Nat) (snap : Option Nat) : (s.snapDone g block snap).pending = s.pending ∧ (s.snapDone g block snap).variant = s.variant ∧ (s.snapDone g block snap).applied = s.applied ∧ (s.snapDone g block snap).latches = s.latches ∧ (s.snapDone g block snap).commits = s.commits ∧ (s.snapDone g block snap).resetting = s.resetting ∧ (s.snapDone g block snap).pwr = s.pwr ∧ (s.snapDone g block snap).hk = s.hk ∧ (s.snapDone g block snap).clk = s.clk ∧ (s.snapDone g block snap).bw = s.bw ∧ (s.snapDone g block snap).med = s.med ∧ (s.snapDone g block snap).roms = s.roms ∧ (s.snapDone g block snap).caches = s.caches ∧ (s.snapDone g block snap).zl0 = s.zl0 ∧ (s.snapDone g block snap).zl1 = s.zl1 ∧ (s.snapDone g block snap).ring = s.ring ∧ (s.snapDone g block snap).mbox = s.mbox ∧ (s.snapDone g block snap).dbg = s.dbg ∧ (s.snapDone g block snap).i3c = s.i3c ∧ (s.snapDone g block snap).drawn = s.drawn := by
  have f1 := @State.onLink_frame; have f2 := @State.onXlt_frame
  dsimp only [State.snapDone]; (repeat' split) <;> simp [f1, f2]
theorem State.mapBuilt_frame (s : State) (g : Nat) (psa : Nat) (b : Built) : (s.mapBuilt g psa b).pending = s.pending ∧ (s.mapBuilt g psa b).variant = s.variant ∧ (s.mapBuilt g psa b).applied = s.applied ∧ (s.mapBuilt g psa b).latches = s.latches ∧ (s.mapBuilt g psa b).commits = s.commits ∧ (s.mapBuilt g psa b).resetting = s.resetting ∧ (s.mapBuilt g psa b).pwr = s.pwr ∧ (s.mapBuilt g psa b).hk = s.hk ∧ (s.mapBuilt g psa b).clk = s.clk ∧ (s.mapBuilt g psa b).bw = s.bw ∧ (s.mapBuilt g psa b).med = s.med ∧ (s.mapBuilt g psa b).roms = s.roms ∧ (s.mapBuilt g psa b).caches = s.caches ∧ (s.mapBuilt g psa b).zl0 = s.zl0 ∧ (s.mapBuilt g psa b).zl1 = s.zl1 ∧ (s.mapBuilt g psa b).ring = s.ring ∧ (s.mapBuilt g psa b).mbox = s.mbox ∧ (s.mapBuilt g psa b).dbg = s.dbg ∧ (s.mapBuilt g psa b).i3c = s.i3c ∧ (s.mapBuilt g psa b).drawn = s.drawn := by
  have f1 := @State.dropBuilds_frame; have f2 := @State.mapMove_frame; have f3 := @State.onXlt_frame; have f4 := @State.pendSeg_frame; have f5 := @State.scInvalidate_frame; have f6 := @State.setRev_frame; have f7 := @State.snapDone_frame; have f8 := @State.ubMap_frame
  dsimp only [State.mapBuilt]; (repeat' split) <;> simp [f1, f2, f3, f4, f5, f6, f7, f8]
theorem State.mapPlaced_frame (s : State) (g : Nat) (p : Placed) : (s.mapPlaced g p).pending = s.pending ∧ (s.mapPlaced g p).variant = s.variant ∧ (s.mapPlaced g p).applied = s.applied ∧ (s.mapPlaced g p).latches = s.latches ∧ (s.mapPlaced g p).commits = s.commits ∧ (s.mapPlaced g p).resetting = s.resetting ∧ (s.mapPlaced g p).pwr = s.pwr ∧ (s.mapPlaced g p).hk = s.hk ∧ (s.mapPlaced g p).clk = s.clk ∧ (s.mapPlaced g p).bw = s.bw ∧ (s.mapPlaced g p).med = s.med ∧ (s.mapPlaced g p).roms = s.roms ∧ (s.mapPlaced g p).caches = s.caches ∧ (s.mapPlaced g p).zl0 = s.zl0 ∧ (s.mapPlaced g p).zl1 = s.zl1 ∧ (s.mapPlaced g p).ring = s.ring ∧ (s.mapPlaced g p).mbox = s.mbox ∧ (s.mapPlaced g p).dbg = s.dbg ∧ (s.mapPlaced g p).i3c = s.i3c ∧ (s.mapPlaced g p).drawn = s.drawn := by
  have f1 := @State.mapBuilt_frame; have f2 := @State.onGang_frame; have f3 := @State.setPad_frame; have f4 := @State.setRev_frame
  dsimp only [State.mapPlaced]
  split <;> simp (disch := (first | (intros; (repeat' split) <;> (first | rfl | (simp [f1, f2, f3, f4]; done) | (simp (disch := (first | (intros; (repeat' split) <;> (first | rfl | (simp [f1, f2, f3, f4]; done) | fail)) | fail)) [f1, f2, f3, f4]; done) | fail)) | fail)) [f1, f2, f3, f4]
theorem State.meetTurn_frame (s : State) (g : Nat) (pos : Nat) : (s.meetTurn g pos).pending = s.pending ∧ (s.meetTurn g pos).variant = s.variant ∧ (s.meetTurn g pos).applied = s.applied ∧ (s.meetTurn g pos).latches = s.latches ∧ (s.meetTurn g pos).commits = s.commits ∧ (s.meetTurn g pos).resetting = s.resetting ∧ (s.meetTurn g pos).pwr = s.pwr ∧ (s.meetTurn g pos).hk = s.hk ∧ (s.meetTurn g pos).clk = s.clk ∧ (s.meetTurn g pos).bw = s.bw ∧ (s.meetTurn g pos).med = s.med ∧ (s.meetTurn g pos).roms = s.roms ∧ (s.meetTurn g pos).caches = s.caches ∧ (s.meetTurn g pos).zl0 = s.zl0 ∧ (s.meetTurn g pos).zl1 = s.zl1 ∧ (s.meetTurn g pos).ring = s.ring ∧ (s.meetTurn g pos).mbox = s.mbox ∧ (s.meetTurn g pos).dbg = s.dbg ∧ (s.meetTurn g pos).i3c = s.i3c ∧ (s.meetTurn g pos).drawn = s.drawn := by
  have f1 := @State.onReads_frame
  simp [State.meetTurn, f1]
theorem State.startDie_frame (s : State) (g : Nat) : (s.startDie g).pending = s.pending ∧ (s.startDie g).variant = s.variant ∧ (s.startDie g).applied = s.applied ∧ (s.startDie g).latches = s.latches ∧ (s.startDie g).commits = s.commits ∧ (s.startDie g).resetting = s.resetting ∧ (s.startDie g).pwr = s.pwr ∧ (s.startDie g).hk = s.hk ∧ (s.startDie g).clk = s.clk ∧ (s.startDie g).bw = s.bw ∧ (s.startDie g).med = s.med ∧ (s.startDie g).roms = s.roms ∧ (s.startDie g).caches = s.caches ∧ (s.startDie g).zl0 = s.zl0 ∧ (s.startDie g).zl1 = s.zl1 ∧ (s.startDie g).ring = s.ring ∧ (s.startDie g).mbox = s.mbox ∧ (s.startDie g).dbg = s.dbg ∧ (s.startDie g).i3c = s.i3c ∧ (s.startDie g).drawn = s.drawn := by
  have f1 := @State.emit_frame; have f2 := @State.ev_frame; have f3 := @State.meetTurn_frame; have f4 := @State.onRota_frame
  simp [State.startDie, f1, f2, f3, f4]
theorem State.startItem_frame (s : State) (g : Nat) : (s.startItem g).pending = s.pending ∧ (s.startItem g).variant = s.variant ∧ (s.startItem g).applied = s.applied ∧ (s.startItem g).latches = s.latches ∧ (s.startItem g).commits = s.commits ∧ (s.startItem g).resetting = s.resetting ∧ (s.startItem g).pwr = s.pwr ∧ (s.startItem g).hk = s.hk ∧ (s.startItem g).clk = s.clk ∧ (s.startItem g).bw = s.bw ∧ (s.startItem g).med = s.med ∧ (s.startItem g).roms = s.roms ∧ (s.startItem g).caches = s.caches ∧ (s.startItem g).zl0 = s.zl0 ∧ (s.startItem g).zl1 = s.zl1 ∧ (s.startItem g).ring = s.ring ∧ (s.startItem g).mbox = s.mbox ∧ (s.startItem g).dbg = s.dbg ∧ (s.startItem g).i3c = s.i3c ∧ (s.startItem g).drawn = s.drawn := by
  have f1 := @State.checkOver_frame; have f2 := @State.startDie_frame; have f3 := @State.startIdle_frame
  simp [State.startItem, f1, f2, f3]
theorem State.startRotation_frame (s0 : State) (g : Nat) : (s0.startRotation g).pending = s0.pending ∧ (s0.startRotation g).variant = s0.variant ∧ (s0.startRotation g).applied = s0.applied ∧ (s0.startRotation g).latches = s0.latches ∧ (s0.startRotation g).commits = s0.commits ∧ (s0.startRotation g).resetting = s0.resetting ∧ (s0.startRotation g).pwr = s0.pwr ∧ (s0.startRotation g).hk = s0.hk ∧ (s0.startRotation g).clk = s0.clk ∧ (s0.startRotation g).bw = s0.bw ∧ (s0.startRotation g).med = s0.med ∧ (s0.startRotation g).roms = s0.roms ∧ (s0.startRotation g).caches = s0.caches ∧ (s0.startRotation g).zl0 = s0.zl0 ∧ (s0.startRotation g).zl1 = s0.zl1 ∧ (s0.startRotation g).ring = s0.ring ∧ (s0.startRotation g).mbox = s0.mbox ∧ (s0.startRotation g).dbg = s0.dbg ∧ (s0.startRotation g).i3c = s0.i3c ∧ (s0.startRotation g).drawn = s0.drawn := by
  have f1 := @State.completeBatch_frame; have f2 := @State.onRota_frame; have f3 := @State.placeBatches_frame; have f4 := @State.placeSystem_frame; have f5 := @State.skipFailed_frame
  dsimp only [State.startRotation]; (repeat' split) <;> simp [f1, f2, f3, f4, f5]
theorem State.tileFail_frame (s : State) (g : Nat) (pos : Nat) (tile : Nat) : (s.tileFail g pos tile).pending = s.pending ∧ (s.tileFail g pos tile).variant = s.variant ∧ (s.tileFail g pos tile).applied = s.applied ∧ (s.tileFail g pos tile).latches = s.latches ∧ (s.tileFail g pos tile).commits = s.commits ∧ (s.tileFail g pos tile).resetting = s.resetting ∧ (s.tileFail g pos tile).dev = s.dev ∧ (s.tileFail g pos tile).pwr = s.pwr ∧ (s.tileFail g pos tile).hk = s.hk ∧ (s.tileFail g pos tile).clk = s.clk ∧ (s.tileFail g pos tile).bw = s.bw ∧ (s.tileFail g pos tile).roms = s.roms ∧ (s.tileFail g pos tile).prot = s.prot ∧ (s.tileFail g pos tile).caches = s.caches ∧ (s.tileFail g pos tile).dram = s.dram ∧ (s.tileFail g pos tile).link = s.link ∧ (s.tileFail g pos tile).reads = s.reads ∧ (s.tileFail g pos tile).drift = s.drift ∧ (s.tileFail g pos tile).zl0 = s.zl0 ∧ (s.tileFail g pos tile).zl1 = s.zl1 ∧ (s.tileFail g pos tile).ring = s.ring ∧ (s.tileFail g pos tile).strm = s.strm ∧ (s.tileFail g pos tile).mbox = s.mbox ∧ (s.tileFail g pos tile).pnv = s.pnv ∧ (s.tileFail g pos tile).nvm = s.nvm ∧ (s.tileFail g pos tile).srm = s.srm ∧ (s.tileFail g pos tile).dbg = s.dbg ∧ (s.tileFail g pos tile).i3c = s.i3c ∧ (s.tileFail g pos tile).drawn = s.drawn := by
  have f1 := @State.addRebuild_frame; have f2 := @State.bumpSat_frame; have f3 := @State.raiseRec_frame
  dsimp only [State.tileFail]; (repeat' split) <;> simp [f1, f2, f3]
theorem State.turnOver_frame (s : State) (g : Nat) (pos : Nat) : (s.turnOver g pos).pending = s.pending ∧ (s.turnOver g pos).variant = s.variant ∧ (s.turnOver g pos).applied = s.applied ∧ (s.turnOver g pos).latches = s.latches ∧ (s.turnOver g pos).commits = s.commits ∧ (s.turnOver g pos).resetting = s.resetting ∧ (s.turnOver g pos).dev = s.dev ∧ (s.turnOver g pos).pwr = s.pwr ∧ (s.turnOver g pos).hk = s.hk ∧ (s.turnOver g pos).clk = s.clk ∧ (s.turnOver g pos).bw = s.bw ∧ (s.turnOver g pos).roms = s.roms ∧ (s.turnOver g pos).prot = s.prot ∧ (s.turnOver g pos).caches = s.caches ∧ (s.turnOver g pos).dram = s.dram ∧ (s.turnOver g pos).link = s.link ∧ (s.turnOver g pos).reads = s.reads ∧ (s.turnOver g pos).drift = s.drift ∧ (s.turnOver g pos).zl0 = s.zl0 ∧ (s.turnOver g pos).zl1 = s.zl1 ∧ (s.turnOver g pos).ring = s.ring ∧ (s.turnOver g pos).strm = s.strm ∧ (s.turnOver g pos).mbox = s.mbox ∧ (s.turnOver g pos).pnv = s.pnv ∧ (s.turnOver g pos).nvm = s.nvm ∧ (s.turnOver g pos).srm = s.srm ∧ (s.turnOver g pos).dbg = s.dbg ∧ (s.turnOver g pos).i3c = s.i3c ∧ (s.turnOver g pos).drawn = s.drawn := by
  have f1 := @State.onGang_frame
  simp [State.turnOver, f1]

end Sys2Proof.Machine
end

