-- ==== Sys2Proof/Laws/FrameProtect.lean ====
section
/-! SUPPORT. Frames of the operations of Machine/Protect.lean: the fields of State that each leaves as they were. -/

set_option maxRecDepth 4000
set_option linter.unusedSimpArgs false

namespace Sys2Proof.Machine

theorem State.onProt_frame (s : State) (f : Prot → Prot) : (s.onProt f).pending = s.pending ∧ (s.onProt f).variant = s.variant ∧ (s.onProt f).applied = s.applied ∧ (s.onProt f).latches = s.latches ∧ (s.onProt f).commits = s.commits ∧ (s.onProt f).resetting = s.resetting ∧ (s.onProt f).dev = s.dev ∧ (s.onProt f).pwr = s.pwr ∧ (s.onProt f).hk = s.hk ∧ (s.onProt f).clk = s.clk ∧ (s.onProt f).bw = s.bw ∧ (s.onProt f).gang0 = s.gang0 ∧ (s.onProt f).gang1 = s.gang1 ∧ (s.onProt f).med = s.med ∧ (s.onProt f).roms = s.roms ∧ (s.onProt f).xlt = s.xlt ∧ (s.onProt f).caches = s.caches ∧ (s.onProt f).dram = s.dram ∧ (s.onProt f).link = s.link ∧ (s.onProt f).reads = s.reads ∧ (s.onProt f).drift = s.drift ∧ (s.onProt f).zl0 = s.zl0 ∧ (s.onProt f).zl1 = s.zl1 ∧ (s.onProt f).ring = s.ring ∧ (s.onProt f).strm = s.strm ∧ (s.onProt f).mbox = s.mbox ∧ (s.onProt f).pnv = s.pnv ∧ (s.onProt f).nvm = s.nvm ∧ (s.onProt f).srm = s.srm ∧ (s.onProt f).dbg = s.dbg ∧ (s.onProt f).i3c = s.i3c ∧ (s.onProt f).drawn = s.drawn := by
  simp [State.onProt]
theorem State.setGen_frame (s : State) (i : Nat) (x : GenSt) : (s.setGen i x).pending = s.pending ∧ (s.setGen i x).variant = s.variant ∧ (s.setGen i x).applied = s.applied ∧ (s.setGen i x).latches = s.latches ∧ (s.setGen i x).commits = s.commits ∧ (s.setGen i x).resetting = s.resetting ∧ (s.setGen i x).dev = s.dev ∧ (s.setGen i x).pwr = s.pwr ∧ (s.setGen i x).hk = s.hk ∧ (s.setGen i x).clk = s.clk ∧ (s.setGen i x).bw = s.bw ∧ (s.setGen i x).gang0 = s.gang0 ∧ (s.setGen i x).gang1 = s.gang1 ∧ (s.setGen i x).med = s.med ∧ (s.setGen i x).roms = s.roms ∧ (s.setGen i x).xlt = s.xlt ∧ (s.setGen i x).caches = s.caches ∧ (s.setGen i x).dram = s.dram ∧ (s.setGen i x).link = s.link ∧ (s.setGen i x).reads = s.reads ∧ (s.setGen i x).drift = s.drift ∧ (s.setGen i x).zl0 = s.zl0 ∧ (s.setGen i x).zl1 = s.zl1 ∧ (s.setGen i x).ring = s.ring ∧ (s.setGen i x).strm = s.strm ∧ (s.setGen i x).mbox = s.mbox ∧ (s.setGen i x).srm = s.srm ∧ (s.setGen i x).dbg = s.dbg ∧ (s.setGen i x).i3c = s.i3c ∧ (s.setGen i x).drawn = s.drawn := by
  have f1 := @State.onProt_frame
  simp [State.setGen, f1]
theorem State.advance_frame (s : State) (i : Nat) : (s.advance i).pending = s.pending ∧ (s.advance i).variant = s.variant ∧ (s.advance i).applied = s.applied ∧ (s.advance i).latches = s.latches ∧ (s.advance i).commits = s.commits ∧ (s.advance i).resetting = s.resetting ∧ (s.advance i).pwr = s.pwr ∧ (s.advance i).hk = s.hk ∧ (s.advance i).clk = s.clk ∧ (s.advance i).bw = s.bw ∧ (s.advance i).med = s.med ∧ (s.advance i).roms = s.roms ∧ (s.advance i).caches = s.caches ∧ (s.advance i).zl0 = s.zl0 ∧ (s.advance i).zl1 = s.zl1 ∧ (s.advance i).ring = s.ring ∧ (s.advance i).mbox = s.mbox ∧ (s.advance i).dbg = s.dbg ∧ (s.advance i).i3c = s.i3c ∧ (s.advance i).drawn = s.drawn := by
  have f1 := @State.raiseRec_frame; have f2 := @State.setGen_frame
  simp [State.advance, f1, f2]
theorem State.setSlot_frame (s : State) (k : Nat) (x : KeySlot) : (s.setSlot k x).pending = s.pending ∧ (s.setSlot k x).variant = s.variant ∧ (s.setSlot k x).applied = s.applied ∧ (s.setSlot k x).latches = s.latches ∧ (s.setSlot k x).commits = s.commits ∧ (s.setSlot k x).resetting = s.resetting ∧ (s.setSlot k x).dev = s.dev ∧ (s.setSlot k x).pwr = s.pwr ∧ (s.setSlot k x).hk = s.hk ∧ (s.setSlot k x).clk = s.clk ∧ (s.setSlot k x).bw = s.bw ∧ (s.setSlot k x).gang0 = s.gang0 ∧ (s.setSlot k x).gang1 = s.gang1 ∧ (s.setSlot k x).med = s.med ∧ (s.setSlot k x).roms = s.roms ∧ (s.setSlot k x).xlt = s.xlt ∧ (s.setSlot k x).caches = s.caches ∧ (s.setSlot k x).dram = s.dram ∧ (s.setSlot k x).link = s.link ∧ (s.setSlot k x).reads = s.reads ∧ (s.setSlot k x).drift = s.drift ∧ (s.setSlot k x).zl0 = s.zl0 ∧ (s.setSlot k x).zl1 = s.zl1 ∧ (s.setSlot k x).ring = s.ring ∧ (s.setSlot k x).strm = s.strm ∧ (s.setSlot k x).mbox = s.mbox ∧ (s.setSlot k x).pnv = s.pnv ∧ (s.setSlot k x).nvm = s.nvm ∧ (s.setSlot k x).srm = s.srm ∧ (s.setSlot k x).dbg = s.dbg ∧ (s.setSlot k x).i3c = s.i3c ∧ (s.setSlot k x).drawn = s.drawn := by
  have f1 := @State.onProt_frame
  simp [State.setSlot, f1]
theorem State.startPass_frame (s : State) (i : Nat) : (s.startPass i).pending = s.pending ∧ (s.startPass i).variant = s.variant ∧ (s.startPass i).applied = s.applied ∧ (s.startPass i).latches = s.latches ∧ (s.startPass i).commits = s.commits ∧ (s.startPass i).resetting = s.resetting ∧ (s.startPass i).dev = s.dev ∧ (s.startPass i).pwr = s.pwr ∧ (s.startPass i).hk = s.hk ∧ (s.startPass i).clk = s.clk ∧ (s.startPass i).bw = s.bw ∧ (s.startPass i).gang0 = s.gang0 ∧ (s.startPass i).gang1 = s.gang1 ∧ (s.startPass i).med = s.med ∧ (s.startPass i).roms = s.roms ∧ (s.startPass i).xlt = s.xlt ∧ (s.startPass i).caches = s.caches ∧ (s.startPass i).dram = s.dram ∧ (s.startPass i).link = s.link ∧ (s.startPass i).reads = s.reads ∧ (s.startPass i).drift = s.drift ∧ (s.startPass i).zl0 = s.zl0 ∧ (s.startPass i).zl1 = s.zl1 ∧ (s.startPass i).ring = s.ring ∧ (s.startPass i).strm = s.strm ∧ (s.startPass i).mbox = s.mbox ∧ (s.startPass i).srm = s.srm ∧ (s.startPass i).dbg = s.dbg ∧ (s.startPass i).i3c = s.i3c := by
  have f1 := @State.setGen_frame
  simp [State.startPass, f1]
theorem State.tagFailed_frame (s : State) (i : Nat) (md : Chunk) : (s.tagFailed i md).pending = s.pending ∧ (s.tagFailed i md).variant = s.variant ∧ (s.tagFailed i md).applied = s.applied ∧ (s.tagFailed i md).latches = s.latches ∧ (s.tagFailed i md).commits = s.commits ∧ (s.tagFailed i md).resetting = s.resetting ∧ (s.tagFailed i md).pwr = s.pwr ∧ (s.tagFailed i md).hk = s.hk ∧ (s.tagFailed i md).clk = s.clk ∧ (s.tagFailed i md).med = s.med ∧ (s.tagFailed i md).roms = s.roms ∧ (s.tagFailed i md).dbg = s.dbg ∧ (s.tagFailed i md).i3c = s.i3c := by
  have f1 := @State.bump_frame; have f2 := @State.raise_frame; have f3 := @State.setFld_frame
  simp [State.tagFailed, f1, f2, f3]

end Sys2Proof.Machine
end

