-- ==== Sys2Proof/Laws/FrameGroups.lean ====
section
/-! SUPPORT. Frames of the operations of Machine/Groups.lean: the fields of State that each leaves as they were. -/

set_option maxRecDepth 4000
set_option linter.unusedSimpArgs false

namespace Sys2Proof.Machine

theorem State.dropSnaps_frame (s : State) (p : Snap → Bool) : (s.dropSnaps p).pending = s.pending ∧ (s.dropSnaps p).variant = s.variant ∧ (s.dropSnaps p).applied = s.applied ∧ (s.dropSnaps p).latches = s.latches ∧ (s.dropSnaps p).commits = s.commits ∧ (s.dropSnaps p).resetting = s.resetting ∧ (s.dropSnaps p).pwr = s.pwr ∧ (s.dropSnaps p).hk = s.hk ∧ (s.dropSnaps p).clk = s.clk ∧ (s.dropSnaps p).bw = s.bw ∧ (s.dropSnaps p).med = s.med ∧ (s.dropSnaps p).roms = s.roms ∧ (s.dropSnaps p).caches = s.caches ∧ (s.dropSnaps p).zl0 = s.zl0 ∧ (s.dropSnaps p).zl1 = s.zl1 ∧ (s.dropSnaps p).ring = s.ring ∧ (s.dropSnaps p).mbox = s.mbox ∧ (s.dropSnaps p).dbg = s.dbg ∧ (s.dropSnaps p).i3c = s.i3c ∧ (s.dropSnaps p).drawn = s.drawn := by
  have f1 := @State.onLink_frame; have f2 := @State.onXlt_frame; have f3 := @State.sendCmp_frame
  simp [State.dropSnaps, f1, f2, f3]
theorem State.dropStaged_frame (s : State) (p : Nat → Option Nat → Bool) : (s.dropStaged p).pending = s.pending ∧ (s.dropStaged p).variant = s.variant ∧ (s.dropStaged p).applied = s.applied ∧ (s.dropStaged p).latches = s.latches ∧ (s.dropStaged p).commits = s.commits ∧ (s.dropStaged p).resetting = s.resetting ∧ (s.dropStaged p).pwr = s.pwr ∧ (s.dropStaged p).hk = s.hk ∧ (s.dropStaged p).clk = s.clk ∧ (s.dropStaged p).bw = s.bw ∧ (s.dropStaged p).med = s.med ∧ (s.dropStaged p).roms = s.roms ∧ (s.dropStaged p).caches = s.caches ∧ (s.dropStaged p).zl0 = s.zl0 ∧ (s.dropStaged p).zl1 = s.zl1 ∧ (s.dropStaged p).ring = s.ring ∧ (s.dropStaged p).mbox = s.mbox ∧ (s.dropStaged p).dbg = s.dbg ∧ (s.dropStaged p).i3c = s.i3c ∧ (s.dropStaged p).drawn = s.drawn := by
  have f1 := @State.onXlt_frame; have f2 := @State.sendCmp_frame
  simp [State.dropStaged, f1, f2]
theorem State.abortGroup_frame (s : State) (i : Nat) : (s.abortGroup i).pending = s.pending ∧ (s.abortGroup i).variant = s.variant ∧ (s.abortGroup i).applied = s.applied ∧ (s.abortGroup i).latches = s.latches ∧ (s.abortGroup i).commits = s.commits ∧ (s.abortGroup i).resetting = s.resetting ∧ (s.abortGroup i).pwr = s.pwr ∧ (s.abortGroup i).hk = s.hk ∧ (s.abortGroup i).clk = s.clk ∧ (s.abortGroup i).bw = s.bw ∧ (s.abortGroup i).med = s.med ∧ (s.abortGroup i).roms = s.roms ∧ (s.abortGroup i).caches = s.caches ∧ (s.abortGroup i).zl0 = s.zl0 ∧ (s.abortGroup i).zl1 = s.zl1 ∧ (s.abortGroup i).ring = s.ring ∧ (s.abortGroup i).mbox = s.mbox ∧ (s.abortGroup i).dbg = s.dbg ∧ (s.abortGroup i).i3c = s.i3c ∧ (s.abortGroup i).drawn = s.drawn := by
  have f1 := @State.advance_frame; have f2 := @State.dropBuilds_frame; have f3 := @State.dropSnaps_frame; have f4 := @State.dropStaged_frame; have f5 := @State.journal_frame; have f6 := @State.setGroup_frame; have f7 := @State.staleOld_frame
  simp [State.abortGroup, f1, f2, f3, f4, f5, f6, f7]
theorem State.applyPend_frame (s : State) (lseg : Nat) (e : MapE) : (s.applyPend lseg e).pending = s.pending ∧ (s.applyPend lseg e).variant = s.variant ∧ (s.applyPend lseg e).applied = s.applied ∧ (s.applyPend lseg e).latches = s.latches ∧ (s.applyPend lseg e).commits = s.commits ∧ (s.applyPend lseg e).resetting = s.resetting ∧ (s.applyPend lseg e).pwr = s.pwr ∧ (s.applyPend lseg e).hk = s.hk ∧ (s.applyPend lseg e).clk = s.clk ∧ (s.applyPend lseg e).bw = s.bw ∧ (s.applyPend lseg e).med = s.med ∧ (s.applyPend lseg e).roms = s.roms ∧ (s.applyPend lseg e).caches = s.caches ∧ (s.applyPend lseg e).zl0 = s.zl0 ∧ (s.applyPend lseg e).zl1 = s.zl1 ∧ (s.applyPend lseg e).ring = s.ring ∧ (s.applyPend lseg e).mbox = s.mbox ∧ (s.applyPend lseg e).dbg = s.dbg ∧ (s.applyPend lseg e).i3c = s.i3c ∧ (s.applyPend lseg e).drawn = s.drawn := by
  have f1 := @State.scInvalidate_frame; have f2 := @State.setMap_frame; have f3 := @State.setRev_frame; have f4 := @State.staleOld_frame; have f5 := @State.ubMap_frame
  dsimp only [State.applyPend]; (repeat' split) <;> simp [f1, f2, f3, f4, f5]
theorem State.queryStart_frame (s : State) (w : Nat) : (s.queryStart w).pending = s.pending ∧ (s.queryStart w).variant = s.variant ∧ (s.queryStart w).latches = s.latches ∧ (s.queryStart w).clk = s.clk ∧ (s.queryStart w).med = s.med ∧ (s.queryStart w).roms = s.roms ∧ (s.queryStart w).i3c = s.i3c := by
  have f1 := @State.onXlt_frame; have f2 := @State.setFlag_frame; have f3 := @State.setFld_frame
  simp [State.queryStart, f1, f2, f3]
theorem State.trimGo_frame (s : State) : (s.trimGo).pending = s.pending ∧ (s.trimGo).variant = s.variant ∧ (s.trimGo).latches = s.latches ∧ (s.trimGo).clk = s.clk ∧ (s.trimGo).med = s.med ∧ (s.trimGo).roms = s.roms ∧ (s.trimGo).i3c = s.i3c := by
  have f1 := @State.advance_frame; have f2 := @State.dropBuilds_frame; have f3 := @State.dropSnaps_frame; have f4 := @State.dropStaged_frame; have f5 := @State.journal_frame; have f6 := @State.onXlt_frame; have f7 := @State.raise_frame; have f8 := @State.setFlag_frame; have f9 := @State.setFld_frame
  simp [State.trimGo, f1, f2, f3, f4, f5, f6, f7, f8, f9]
theorem State.commitGroup_frame (s : State) (i : Nat) : (s.commitGroup i).pending = s.pending ∧ (s.commitGroup i).variant = s.variant ∧ (s.commitGroup i).applied = s.applied ∧ (s.commitGroup i).latches = s.latches ∧ (s.commitGroup i).commits = s.commits ∧ (s.commitGroup i).resetting = s.resetting ∧ (s.commitGroup i).pwr = s.pwr ∧ (s.commitGroup i).hk = s.hk ∧ (s.commitGroup i).clk = s.clk ∧ (s.commitGroup i).bw = s.bw ∧ (s.commitGroup i).med = s.med ∧ (s.commitGroup i).roms = s.roms ∧ (s.commitGroup i).caches = s.caches ∧ (s.commitGroup i).zl0 = s.zl0 ∧ (s.commitGroup i).zl1 = s.zl1 ∧ (s.commitGroup i).ring = s.ring ∧ (s.commitGroup i).mbox = s.mbox ∧ (s.commitGroup i).dbg = s.dbg ∧ (s.commitGroup i).i3c = s.i3c ∧ (s.commitGroup i).drawn = s.drawn := by
  have f1 := @State.abortGroup_frame; have f2 := @State.closeSeg_frame; have f3 := @State.onXlt_frame; have f4 := @State.raise_frame
  simp [State.commitGroup, f1, f2, f3, f4]
theorem State.groupCtrl_frame (s : State) (src : Source) (op : Nat) (w : Nat) : (s.groupCtrl src op w).pending = s.pending ∧ (s.groupCtrl src op w).variant = s.variant ∧ (s.groupCtrl src op w).latches = s.latches ∧ (s.groupCtrl src op w).clk = s.clk ∧ (s.groupCtrl src op w).med = s.med ∧ (s.groupCtrl src op w).roms = s.roms ∧ (s.groupCtrl src op w).i3c = s.i3c := by
  have f1 := @State.abortGroup_frame; have f2 := @State.cfgErr_frame; have f3 := @State.commitGroup_frame
  dsimp only [State.groupCtrl]; (repeat' split) <;> simp [f1, f2, f3]
theorem State.unmap_frame (s : State) (lseg : Nat) : (s.unmap lseg).pending = s.pending ∧ (s.unmap lseg).variant = s.variant ∧ (s.unmap lseg).applied = s.applied ∧ (s.unmap lseg).latches = s.latches ∧ (s.unmap lseg).commits = s.commits ∧ (s.unmap lseg).resetting = s.resetting ∧ (s.unmap lseg).pwr = s.pwr ∧ (s.unmap lseg).hk = s.hk ∧ (s.unmap lseg).clk = s.clk ∧ (s.unmap lseg).bw = s.bw ∧ (s.unmap lseg).med = s.med ∧ (s.unmap lseg).roms = s.roms ∧ (s.unmap lseg).caches = s.caches ∧ (s.unmap lseg).zl0 = s.zl0 ∧ (s.unmap lseg).zl1 = s.zl1 ∧ (s.unmap lseg).ring = s.ring ∧ (s.unmap lseg).mbox = s.mbox ∧ (s.unmap lseg).dbg = s.dbg ∧ (s.unmap lseg).i3c = s.i3c ∧ (s.unmap lseg).drawn = s.drawn := by
  have f1 := @State.scInvalidate_frame; have f2 := @State.setMap_frame; have f3 := @State.staleOld_frame; have f4 := @State.ubMap_frame
  simp [State.unmap, f1, f2, f3, f4]

end Sys2Proof.Machine
end

