-- ==== Sys2Proof/Laws/FrameCartState.lean ====
section
/-! SUPPORT. Frames of the operations of Machine/CartState.lean: the fields of State that each leaves as they were. -/

set_option maxRecDepth 4000
set_option linter.unusedSimpArgs false

namespace Sys2Proof.Machine

theorem State.zlTo_frame (s : State) (n : Nat) (c : Nat) : (s.zlTo n c).pending = s.pending ∧ (s.zlTo n c).variant = s.variant ∧ (s.zlTo n c).applied = s.applied ∧ (s.zlTo n c).latches = s.latches ∧ (s.zlTo n c).commits = s.commits ∧ (s.zlTo n c).resetting = s.resetting ∧ (s.zlTo n c).dev = s.dev ∧ (s.zlTo n c).pwr = s.pwr ∧ (s.zlTo n c).hk = s.hk ∧ (s.zlTo n c).clk = s.clk ∧ (s.zlTo n c).bw = s.bw ∧ (s.zlTo n c).gang0 = s.gang0 ∧ (s.zlTo n c).gang1 = s.gang1 ∧ (s.zlTo n c).med = s.med ∧ (s.zlTo n c).roms = s.roms ∧ (s.zlTo n c).xlt = s.xlt ∧ (s.zlTo n c).prot = s.prot ∧ (s.zlTo n c).caches = s.caches ∧ (s.zlTo n c).dram = s.dram ∧ (s.zlTo n c).link = s.link ∧ (s.zlTo n c).reads = s.reads ∧ (s.zlTo n c).drift = s.drift ∧ (s.zlTo n c).ring = s.ring ∧ (s.zlTo n c).mbox = s.mbox ∧ (s.zlTo n c).pnv = s.pnv ∧ (s.zlTo n c).nvm = s.nvm ∧ (s.zlTo n c).srm = s.srm ∧ (s.zlTo n c).dbg = s.dbg ∧ (s.zlTo n c).i3c = s.i3c ∧ (s.zlTo n c).drawn = s.drawn := by
  have f1 := @State.setFld_frame
  simp [State.zlTo, f1]
theorem State.onZl_frame (s : State) (n : Nat) (f : Zl → Zl) : (s.onZl n f).pending = s.pending ∧ (s.onZl n f).variant = s.variant ∧ (s.onZl n f).applied = s.applied ∧ (s.onZl n f).latches = s.latches ∧ (s.onZl n f).commits = s.commits ∧ (s.onZl n f).resetting = s.resetting ∧ (s.onZl n f).dev = s.dev ∧ (s.onZl n f).pwr = s.pwr ∧ (s.onZl n f).hk = s.hk ∧ (s.onZl n f).clk = s.clk ∧ (s.onZl n f).bw = s.bw ∧ (s.onZl n f).gang0 = s.gang0 ∧ (s.onZl n f).gang1 = s.gang1 ∧ (s.onZl n f).med = s.med ∧ (s.onZl n f).roms = s.roms ∧ (s.onZl n f).xlt = s.xlt ∧ (s.onZl n f).prot = s.prot ∧ (s.onZl n f).caches = s.caches ∧ (s.onZl n f).dram = s.dram ∧ (s.onZl n f).link = s.link ∧ (s.onZl n f).reads = s.reads ∧ (s.onZl n f).drift = s.drift ∧ (s.onZl n f).ring = s.ring ∧ (s.onZl n f).strm = s.strm ∧ (s.onZl n f).mbox = s.mbox ∧ (s.onZl n f).pnv = s.pnv ∧ (s.onZl n f).nvm = s.nvm ∧ (s.onZl n f).srm = s.srm ∧ (s.onZl n f).dbg = s.dbg ∧ (s.onZl n f).i3c = s.i3c ∧ (s.onZl n f).drawn = s.drawn := by
  simp [State.onZl]
theorem State.cartPowerOff_frame (s : State) (n : Nat) (state : Nat) (after : Nat) : (s.cartPowerOff n state after).pending = s.pending ∧ (s.cartPowerOff n state after).variant = s.variant ∧ (s.cartPowerOff n state after).applied = s.applied ∧ (s.cartPowerOff n state after).latches = s.latches ∧ (s.cartPowerOff n state after).commits = s.commits ∧ (s.cartPowerOff n state after).resetting = s.resetting ∧ (s.cartPowerOff n state after).dev = s.dev ∧ (s.cartPowerOff n state after).pwr = s.pwr ∧ (s.cartPowerOff n state after).hk = s.hk ∧ (s.cartPowerOff n state after).clk = s.clk ∧ (s.cartPowerOff n state after).bw = s.bw ∧ (s.cartPowerOff n state after).gang0 = s.gang0 ∧ (s.cartPowerOff n state after).gang1 = s.gang1 ∧ (s.cartPowerOff n state after).med = s.med ∧ (s.cartPowerOff n state after).roms = s.roms ∧ (s.cartPowerOff n state after).dram = s.dram ∧ (s.cartPowerOff n state after).drift = s.drift ∧ (s.cartPowerOff n state after).pnv = s.pnv ∧ (s.cartPowerOff n state after).nvm = s.nvm ∧ (s.cartPowerOff n state after).srm = s.srm ∧ (s.cartPowerOff n state after).dbg = s.dbg ∧ (s.cartPowerOff n state after).i3c = s.i3c ∧ (s.cartPowerOff n state after).drawn = s.drawn := by
  have f1 := @State.onZl_frame; have f2 := @State.setFld_frame; have f3 := @State.zlTo_frame
  simp [State.cartPowerOff, f1, f2, f3]
theorem State.cartLock_frame (s : State) (n : Nat) (cause : Nat) : (s.cartLock n cause).pending = s.pending ∧ (s.cartLock n cause).variant = s.variant ∧ (s.cartLock n cause).applied = s.applied ∧ (s.cartLock n cause).latches = s.latches ∧ (s.cartLock n cause).commits = s.commits ∧ (s.cartLock n cause).resetting = s.resetting ∧ (s.cartLock n cause).pwr = s.pwr ∧ (s.cartLock n cause).hk = s.hk ∧ (s.cartLock n cause).clk = s.clk ∧ (s.cartLock n cause).med = s.med ∧ (s.cartLock n cause).roms = s.roms ∧ (s.cartLock n cause).dbg = s.dbg ∧ (s.cartLock n cause).i3c = s.i3c := by
  have f1 := @State.cartPowerOff_frame; have f2 := @State.setFld_frame
  simp [State.cartLock, f1, f2]
theorem State.copyEnd_frame (s : State) (n : Nat) (result : Nat) (cause : Nat) : (s.copyEnd n result cause).pending = s.pending ∧ (s.copyEnd n result cause).variant = s.variant ∧ (s.copyEnd n result cause).applied = s.applied ∧ (s.copyEnd n result cause).latches = s.latches ∧ (s.copyEnd n result cause).commits = s.commits ∧ (s.copyEnd n result cause).resetting = s.resetting ∧ (s.copyEnd n result cause).dev = s.dev ∧ (s.copyEnd n result cause).pwr = s.pwr ∧ (s.copyEnd n result cause).hk = s.hk ∧ (s.copyEnd n result cause).clk = s.clk ∧ (s.copyEnd n result cause).bw = s.bw ∧ (s.copyEnd n result cause).gang0 = s.gang0 ∧ (s.copyEnd n result cause).gang1 = s.gang1 ∧ (s.copyEnd n result cause).med = s.med ∧ (s.copyEnd n result cause).roms = s.roms ∧ (s.copyEnd n result cause).dram = s.dram ∧ (s.copyEnd n result cause).drift = s.drift ∧ (s.copyEnd n result cause).pnv = s.pnv ∧ (s.copyEnd n result cause).nvm = s.nvm ∧ (s.copyEnd n result cause).srm = s.srm ∧ (s.copyEnd n result cause).dbg = s.dbg ∧ (s.copyEnd n result cause).i3c = s.i3c ∧ (s.copyEnd n result cause).drawn = s.drawn := by
  have f1 := @State.onZl_frame; have f2 := @State.raise_frame; have f3 := @State.setFlag_frame; have f4 := @State.setFld_frame
  simp [State.copyEnd, f1, f2, f3, f4]
theorem State.onStrmReads_frame (s : State) (p : HostRd → Bool) : (s.onStrmReads p).pending = s.pending ∧ (s.onStrmReads p).variant = s.variant ∧ (s.onStrmReads p).applied = s.applied ∧ (s.onStrmReads p).latches = s.latches ∧ (s.onStrmReads p).commits = s.commits ∧ (s.onStrmReads p).resetting = s.resetting ∧ (s.onStrmReads p).dev = s.dev ∧ (s.onStrmReads p).pwr = s.pwr ∧ (s.onStrmReads p).hk = s.hk ∧ (s.onStrmReads p).clk = s.clk ∧ (s.onStrmReads p).bw = s.bw ∧ (s.onStrmReads p).gang0 = s.gang0 ∧ (s.onStrmReads p).gang1 = s.gang1 ∧ (s.onStrmReads p).med = s.med ∧ (s.onStrmReads p).roms = s.roms ∧ (s.onStrmReads p).xlt = s.xlt ∧ (s.onStrmReads p).prot = s.prot ∧ (s.onStrmReads p).caches = s.caches ∧ (s.onStrmReads p).dram = s.dram ∧ (s.onStrmReads p).link = s.link ∧ (s.onStrmReads p).reads = s.reads ∧ (s.onStrmReads p).drift = s.drift ∧ (s.onStrmReads p).ring = s.ring ∧ (s.onStrmReads p).mbox = s.mbox ∧ (s.onStrmReads p).pnv = s.pnv ∧ (s.onStrmReads p).nvm = s.nvm ∧ (s.onStrmReads p).srm = s.srm ∧ (s.onStrmReads p).dbg = s.dbg ∧ (s.onStrmReads p).i3c = s.i3c ∧ (s.onStrmReads p).drawn = s.drawn := by
  simp [State.onStrmReads]
theorem State.saveEnd_frame (s : State) (n : Nat) (result : Nat) : (s.saveEnd n result).pending = s.pending ∧ (s.saveEnd n result).variant = s.variant ∧ (s.saveEnd n result).applied = s.applied ∧ (s.saveEnd n result).latches = s.latches ∧ (s.saveEnd n result).commits = s.commits ∧ (s.saveEnd n result).resetting = s.resetting ∧ (s.saveEnd n result).dev = s.dev ∧ (s.saveEnd n result).pwr = s.pwr ∧ (s.saveEnd n result).hk = s.hk ∧ (s.saveEnd n result).clk = s.clk ∧ (s.saveEnd n result).bw = s.bw ∧ (s.saveEnd n result).gang0 = s.gang0 ∧ (s.saveEnd n result).gang1 = s.gang1 ∧ (s.saveEnd n result).med = s.med ∧ (s.saveEnd n result).roms = s.roms ∧ (s.saveEnd n result).xlt = s.xlt ∧ (s.saveEnd n result).prot = s.prot ∧ (s.saveEnd n result).caches = s.caches ∧ (s.saveEnd n result).dram = s.dram ∧ (s.saveEnd n result).link = s.link ∧ (s.saveEnd n result).reads = s.reads ∧ (s.saveEnd n result).drift = s.drift ∧ (s.saveEnd n result).ring = s.ring ∧ (s.saveEnd n result).mbox = s.mbox ∧ (s.saveEnd n result).pnv = s.pnv ∧ (s.saveEnd n result).nvm = s.nvm ∧ (s.saveEnd n result).srm = s.srm ∧ (s.saveEnd n result).dbg = s.dbg ∧ (s.saveEnd n result).i3c = s.i3c ∧ (s.saveEnd n result).drawn = s.drawn := by
  have f1 := @State.onStrmReads_frame; have f2 := @State.onZl_frame; have f3 := @State.raise_frame; have f4 := @State.setFlag_frame; have f5 := @State.setFld_frame
  simp [State.saveEnd, f1, f2, f3, f4, f5]
theorem State.cartLeave_frame (s : State) (n : Nat) : (s.cartLeave n).pending = s.pending ∧ (s.cartLeave n).variant = s.variant ∧ (s.cartLeave n).applied = s.applied ∧ (s.cartLeave n).latches = s.latches ∧ (s.cartLeave n).commits = s.commits ∧ (s.cartLeave n).resetting = s.resetting ∧ (s.cartLeave n).dev = s.dev ∧ (s.cartLeave n).pwr = s.pwr ∧ (s.cartLeave n).hk = s.hk ∧ (s.cartLeave n).clk = s.clk ∧ (s.cartLeave n).bw = s.bw ∧ (s.cartLeave n).gang0 = s.gang0 ∧ (s.cartLeave n).gang1 = s.gang1 ∧ (s.cartLeave n).med = s.med ∧ (s.cartLeave n).roms = s.roms ∧ (s.cartLeave n).dram = s.dram ∧ (s.cartLeave n).drift = s.drift ∧ (s.cartLeave n).pnv = s.pnv ∧ (s.cartLeave n).nvm = s.nvm ∧ (s.cartLeave n).srm = s.srm ∧ (s.cartLeave n).dbg = s.dbg ∧ (s.cartLeave n).i3c = s.i3c ∧ (s.cartLeave n).drawn = s.drawn := by
  have f1 := @State.copyEnd_frame; have f2 := @State.onProt_frame; have f3 := @State.onZl_frame; have f4 := @State.saveEnd_frame; have f5 := @State.setFld_frame; have f6 := @State.setSlot_frame
  simp [State.cartLeave, f1, f2, f3, f4, f5, f6]
theorem State.mountFailed_frame (s : State) (n : Nat) (cause : Nat) : (s.mountFailed n cause).pending = s.pending ∧ (s.mountFailed n cause).variant = s.variant ∧ (s.mountFailed n cause).applied = s.applied ∧ (s.mountFailed n cause).latches = s.latches ∧ (s.mountFailed n cause).commits = s.commits ∧ (s.mountFailed n cause).resetting = s.resetting ∧ (s.mountFailed n cause).pwr = s.pwr ∧ (s.mountFailed n cause).hk = s.hk ∧ (s.mountFailed n cause).clk = s.clk ∧ (s.mountFailed n cause).med = s.med ∧ (s.mountFailed n cause).roms = s.roms ∧ (s.mountFailed n cause).dbg = s.dbg ∧ (s.mountFailed n cause).i3c = s.i3c := by
  have f1 := @State.cartLeave_frame; have f2 := @State.cartLock_frame; have f3 := @State.raiseRec_frame
  simp [State.mountFailed, f1, f2, f3]

end Sys2Proof.Machine
end

