-- ==== Sys2Proof/Laws/FrameEnds.lean ====
section
/-! SUPPORT. Frames of the operations of Machine/Ends.lean: the fields of State that each leaves as they were. -/

set_option maxRecDepth 4000
set_option linter.unusedSimpArgs false

namespace Sys2Proof.Machine

theorem State.endSessions_frame (s : State) : (s.endSessions).pending = s.pending ∧ (s.endSessions).variant = s.variant ∧ (s.endSessions).applied = s.applied ∧ (s.endSessions).latches = s.latches ∧ (s.endSessions).commits = s.commits ∧ (s.endSessions).resetting = s.resetting ∧ (s.endSessions).dev = s.dev ∧ (s.endSessions).pwr = s.pwr ∧ (s.endSessions).hk = s.hk ∧ (s.endSessions).clk = s.clk ∧ (s.endSessions).bw = s.bw ∧ (s.endSessions).gang0 = s.gang0 ∧ (s.endSessions).gang1 = s.gang1 ∧ (s.endSessions).med = s.med ∧ (s.endSessions).roms = s.roms ∧ (s.endSessions).dram = s.dram ∧ (s.endSessions).drift = s.drift ∧ (s.endSessions).pnv = s.pnv ∧ (s.endSessions).nvm = s.nvm ∧ (s.endSessions).srm = s.srm ∧ (s.endSessions).dbg = s.dbg ∧ (s.endSessions).i3c = s.i3c ∧ (s.endSessions).drawn = s.drawn := by
  have f1 := @State.setFld_frame
  simp [State.endSessions, f1]
theorem State.endDebug_frame (s : State) : (s.endDebug).pending = s.pending ∧ (s.endDebug).variant = s.variant ∧ (s.endDebug).applied = s.applied ∧ (s.endDebug).latches = s.latches ∧ (s.endDebug).commits = s.commits ∧ (s.endDebug).resetting = s.resetting ∧ (s.endDebug).dev = s.dev ∧ (s.endDebug).pwr = s.pwr ∧ (s.endDebug).hk = s.hk ∧ (s.endDebug).clk = s.clk ∧ (s.endDebug).gang0 = s.gang0 ∧ (s.endDebug).gang1 = s.gang1 ∧ (s.endDebug).med = s.med ∧ (s.endDebug).roms = s.roms ∧ (s.endDebug).xlt = s.xlt ∧ (s.endDebug).tally = s.tally ∧ (s.endDebug).prot = s.prot ∧ (s.endDebug).caches = s.caches ∧ (s.endDebug).dram = s.dram ∧ (s.endDebug).reads = s.reads ∧ (s.endDebug).drift = s.drift ∧ (s.endDebug).zl0 = s.zl0 ∧ (s.endDebug).zl1 = s.zl1 ∧ (s.endDebug).ring = s.ring ∧ (s.endDebug).strm = s.strm ∧ (s.endDebug).mbox = s.mbox ∧ (s.endDebug).pnv = s.pnv ∧ (s.endDebug).nvm = s.nvm ∧ (s.endDebug).srm = s.srm ∧ (s.endDebug).dbg = s.dbg ∧ (s.endDebug).i3c = s.i3c := by
  have f1 := @State.raise_frame; have f2 := @State.setFld_frame
  simp [State.endDebug, f1, f2]
theorem State.eruptCart_frame (s : State) (n : Nat) : (s.eruptCart n).pending = s.pending ∧ (s.eruptCart n).variant = s.variant ∧ (s.eruptCart n).applied = s.applied ∧ (s.eruptCart n).latches = s.latches ∧ (s.eruptCart n).commits = s.commits ∧ (s.eruptCart n).resetting = s.resetting ∧ (s.eruptCart n).pwr = s.pwr ∧ (s.eruptCart n).hk = s.hk ∧ (s.eruptCart n).clk = s.clk ∧ (s.eruptCart n).med = s.med ∧ (s.eruptCart n).roms = s.roms ∧ (s.eruptCart n).dbg = s.dbg ∧ (s.eruptCart n).i3c = s.i3c := by
  have f1 := @State.mountFailed_frame
  simp [State.eruptCart, f1]
theorem State.clearDicts_frame (s : State) : (s.clearDicts).pending = s.pending ∧ (s.clearDicts).variant = s.variant ∧ (s.clearDicts).applied = s.applied ∧ (s.clearDicts).latches = s.latches ∧ (s.clearDicts).commits = s.commits ∧ (s.clearDicts).resetting = s.resetting ∧ (s.clearDicts).pwr = s.pwr ∧ (s.clearDicts).hk = s.hk ∧ (s.clearDicts).clk = s.clk ∧ (s.clearDicts).med = s.med ∧ (s.clearDicts).roms = s.roms ∧ (s.clearDicts).dbg = s.dbg ∧ (s.clearDicts).i3c = s.i3c := by
  have f1 := @State.setFld_frame
  simp [State.clearDicts, f1]
theorem State.poisonStreams_frame (s : State) : (s.poisonStreams).pending = s.pending ∧ (s.poisonStreams).variant = s.variant ∧ (s.poisonStreams).applied = s.applied ∧ (s.poisonStreams).latches = s.latches ∧ (s.poisonStreams).commits = s.commits ∧ (s.poisonStreams).resetting = s.resetting ∧ (s.poisonStreams).pwr = s.pwr ∧ (s.poisonStreams).hk = s.hk ∧ (s.poisonStreams).clk = s.clk ∧ (s.poisonStreams).med = s.med ∧ (s.poisonStreams).roms = s.roms ∧ (s.poisonStreams).dbg = s.dbg ∧ (s.poisonStreams).i3c = s.i3c := by
  simp [State.poisonStreams]
theorem State.eruptOthers_frame (s : State) : (s.eruptOthers).pending = s.pending ∧ (s.eruptOthers).variant = s.variant ∧ (s.eruptOthers).applied = s.applied ∧ (s.eruptOthers).latches = s.latches ∧ (s.eruptOthers).commits = s.commits ∧ (s.eruptOthers).resetting = s.resetting ∧ (s.eruptOthers).pwr = s.pwr ∧ (s.eruptOthers).hk = s.hk ∧ (s.eruptOthers).clk = s.clk ∧ (s.eruptOthers).med = s.med ∧ (s.eruptOthers).roms = s.roms ∧ (s.eruptOthers).dbg = s.dbg ∧ (s.eruptOthers).i3c = s.i3c := by
  have f1 := @State.clearDicts_frame; have f2 := @State.endDebug_frame; have f3 := @State.eruptCart_frame; have f4 := @State.poisonStreams_frame
  simp [State.eruptOthers, f1, f2, f3, f4]

end Sys2Proof.Machine
end

