-- ==== Sys2Proof/Laws/FrameAlarm.lean ====
section
/-! SUPPORT. Frames of the operations of Machine/Alarm.lean: the fields of State that each leaves as they were. -/

set_option maxRecDepth 4000
set_option linter.unusedSimpArgs false

namespace Sys2Proof.Machine

theorem State.zeroiseKeys_frame (s : State) : (s.zeroiseKeys).pending = s.pending ∧ (s.zeroiseKeys).variant = s.variant ∧ (s.zeroiseKeys).applied = s.applied ∧ (s.zeroiseKeys).latches = s.latches ∧ (s.zeroiseKeys).commits = s.commits ∧ (s.zeroiseKeys).resetting = s.resetting ∧ (s.zeroiseKeys).pwr = s.pwr ∧ (s.zeroiseKeys).hk = s.hk ∧ (s.zeroiseKeys).clk = s.clk ∧ (s.zeroiseKeys).med = s.med ∧ (s.zeroiseKeys).roms = s.roms ∧ (s.zeroiseKeys).dbg = s.dbg ∧ (s.zeroiseKeys).i3c = s.i3c := by
  have f1 := @State.endSessions_frame; have f2 := @State.onLink_frame; have f3 := @State.onProt_frame
  simp [State.zeroiseKeys, f1, f2, f3]
theorem State.eruptData_frame (s : State) : (s.eruptData).pending = s.pending ∧ (s.eruptData).variant = s.variant ∧ (s.eruptData).applied = s.applied ∧ (s.eruptData).latches = s.latches ∧ (s.eruptData).commits = s.commits ∧ (s.eruptData).resetting = s.resetting ∧ (s.eruptData).pwr = s.pwr ∧ (s.eruptData).hk = s.hk ∧ (s.eruptData).clk = s.clk ∧ (s.eruptData).med = s.med ∧ (s.eruptData).roms = s.roms ∧ (s.eruptData).dbg = s.dbg ∧ (s.eruptData).i3c = s.i3c := by
  have f1 := @State.abortGroup_frame; have f2 := @State.dropHost_frame; have f3 := @State.dropSnaps_frame; have f4 := @State.dropStaged_frame; have f5 := @State.eruptOthers_frame; have f6 := @State.scErupt_frame
  simp [State.eruptData, f1, f2, f3, f4, f5, f6]
theorem State.erupt_frame (s : State) (bits : Nat) : (s.erupt bits).pending = s.pending ∧ (s.erupt bits).variant = s.variant ∧ (s.erupt bits).applied = s.applied ∧ (s.erupt bits).latches = s.latches ∧ (s.erupt bits).commits = s.commits ∧ (s.erupt bits).resetting = s.resetting ∧ (s.erupt bits).pwr = s.pwr ∧ (s.erupt bits).hk = s.hk ∧ (s.erupt bits).clk = s.clk ∧ (s.erupt bits).med = s.med ∧ (s.erupt bits).roms = s.roms ∧ (s.erupt bits).dbg = s.dbg ∧ (s.erupt bits).i3c = s.i3c := by
  have f1 := @State.eruptData_frame; have f2 := @State.onPnv_frame; have f3 := @State.raiseRec_frame; have f4 := @State.report_frame; have f5 := @State.setFlag_frame; have f6 := @State.setFld_frame; have f7 := @State.zeroiseKeys_frame
  dsimp only [State.erupt]; (repeat' split) <;> simp [f1, f2, f3, f4, f5, f6, f7]
theorem State.setLevel_frame (s : State) (n : Nat) : (s.setLevel n).pending = s.pending ∧ (s.setLevel n).variant = s.variant ∧ (s.setLevel n).applied = s.applied ∧ (s.setLevel n).latches = s.latches ∧ (s.setLevel n).commits = s.commits ∧ (s.setLevel n).resetting = s.resetting ∧ (s.setLevel n).pwr = s.pwr ∧ (s.setLevel n).hk = s.hk ∧ (s.setLevel n).clk = s.clk ∧ (s.setLevel n).med = s.med ∧ (s.setLevel n).roms = s.roms ∧ (s.setLevel n).dbg = s.dbg ∧ (s.setLevel n).i3c = s.i3c := by
  have f1 := @State.onPnv_frame; have f2 := @State.setFld_frame
  simp [State.setLevel, f1, f2]
theorem State.tremor_frame (s : State) (code : Nat) (cls : Nat) : (s.tremor code cls).pending = s.pending ∧ (s.tremor code cls).variant = s.variant ∧ (s.tremor code cls).applied = s.applied ∧ (s.tremor code cls).latches = s.latches ∧ (s.tremor code cls).commits = s.commits ∧ (s.tremor code cls).resetting = s.resetting ∧ (s.tremor code cls).pwr = s.pwr ∧ (s.tremor code cls).hk = s.hk ∧ (s.tremor code cls).clk = s.clk ∧ (s.tremor code cls).med = s.med ∧ (s.tremor code cls).roms = s.roms ∧ (s.tremor code cls).dbg = s.dbg ∧ (s.tremor code cls).i3c = s.i3c := by
  have f1 := @State.bump_frame; have f2 := @State.erupt_frame; have f3 := @State.event_frame; have f4 := @State.onProt_frame; have f5 := @State.raiseRec_frame; have f6 := @State.raise_frame; have f7 := @State.setFld_frame; have f8 := @State.setLevel_frame
  simp [State.tremor, f1, f2, f3, f4, f5, f6, f7, f8]
theorem State.eruptLatched_frame (s : State) : (s.eruptLatched).pending = s.pending ∧ (s.eruptLatched).variant = s.variant ∧ (s.eruptLatched).latches = s.latches ∧ (s.eruptLatched).resetting = s.resetting ∧ (s.eruptLatched).clk = s.clk ∧ (s.eruptLatched).med = s.med ∧ (s.eruptLatched).roms = s.roms ∧ (s.eruptLatched).dbg = s.dbg ∧ (s.eruptLatched).i3c = s.i3c := by
  have f1 := @State.erupt_frame; have f2 := @State.onPnv_frame
  simp [State.eruptLatched, f1, f2]
theorem State.tremorFlock_frame (s : State) : (s.tremorFlock).pending = s.pending ∧ (s.tremorFlock).variant = s.variant ∧ (s.tremorFlock).latches = s.latches ∧ (s.tremorFlock).resetting = s.resetting ∧ (s.tremorFlock).med = s.med ∧ (s.tremorFlock).roms = s.roms ∧ (s.tremorFlock).dbg = s.dbg ∧ (s.tremorFlock).i3c = s.i3c := by
  have f1 := @State.onProt_frame; have f2 := @State.setFld_frame
  simp [State.tremorFlock, f1, f2]

end Sys2Proof.Machine
end

