-- ==== Sys2Proof/Laws/FrameDrift.lean ====
section
/-! SUPPORT. Frames of the operations of Machine/Drift.lean: the fields of State that each leaves as they were. -/

set_option maxRecDepth 4000
set_option linter.unusedSimpArgs false

namespace Sys2Proof.Machine

theorem State.onDrift_frame (s : State) (f : Drift → Drift) : (s.onDrift f).pending = s.pending ∧ (s.onDrift f).variant = s.variant ∧ (s.onDrift f).applied = s.applied ∧ (s.onDrift f).latches = s.latches ∧ (s.onDrift f).commits = s.commits ∧ (s.onDrift f).resetting = s.resetting ∧ (s.onDrift f).dev = s.dev ∧ (s.onDrift f).pwr = s.pwr ∧ (s.onDrift f).hk = s.hk ∧ (s.onDrift f).clk = s.clk ∧ (s.onDrift f).bw = s.bw ∧ (s.onDrift f).gang0 = s.gang0 ∧ (s.onDrift f).gang1 = s.gang1 ∧ (s.onDrift f).med = s.med ∧ (s.onDrift f).roms = s.roms ∧ (s.onDrift f).dram = s.dram ∧ (s.onDrift f).link = s.link ∧ (s.onDrift f).reads = s.reads ∧ (s.onDrift f).zl0 = s.zl0 ∧ (s.onDrift f).zl1 = s.zl1 ∧ (s.onDrift f).mbox = s.mbox ∧ (s.onDrift f).dbg = s.dbg ∧ (s.onDrift f).i3c = s.i3c := by
  simp [State.onDrift]
theorem State.writeSpare_frame (s : State) (g : Nat) : (s.writeSpare g).pending = s.pending ∧ (s.writeSpare g).variant = s.variant ∧ (s.writeSpare g).applied = s.applied ∧ (s.writeSpare g).latches = s.latches ∧ (s.writeSpare g).commits = s.commits ∧ (s.writeSpare g).resetting = s.resetting ∧ (s.writeSpare g).dev = s.dev ∧ (s.writeSpare g).pwr = s.pwr ∧ (s.writeSpare g).hk = s.hk ∧ (s.writeSpare g).clk = s.clk ∧ (s.writeSpare g).bw = s.bw ∧ (s.writeSpare g).gang0 = s.gang0 ∧ (s.writeSpare g).gang1 = s.gang1 ∧ (s.writeSpare g).med = s.med ∧ (s.writeSpare g).roms = s.roms ∧ (s.writeSpare g).dram = s.dram ∧ (s.writeSpare g).link = s.link ∧ (s.writeSpare g).reads = s.reads ∧ (s.writeSpare g).zl0 = s.zl0 ∧ (s.writeSpare g).zl1 = s.zl1 ∧ (s.writeSpare g).mbox = s.mbox ∧ (s.writeSpare g).dbg = s.dbg ∧ (s.writeSpare g).i3c = s.i3c := by
  have f1 := @State.emit_frame; have f2 := @State.onDrift_frame
  simp [State.writeSpare, f1, f2]
theorem State.spareWrite_frame (s : State) (g : Nat) : (s.spareWrite g).pending = s.pending ∧ (s.spareWrite g).variant = s.variant ∧ (s.spareWrite g).applied = s.applied ∧ (s.spareWrite g).latches = s.latches ∧ (s.spareWrite g).commits = s.commits ∧ (s.spareWrite g).resetting = s.resetting ∧ (s.spareWrite g).dev = s.dev ∧ (s.spareWrite g).pwr = s.pwr ∧ (s.spareWrite g).hk = s.hk ∧ (s.spareWrite g).clk = s.clk ∧ (s.spareWrite g).bw = s.bw ∧ (s.spareWrite g).gang0 = s.gang0 ∧ (s.spareWrite g).gang1 = s.gang1 ∧ (s.spareWrite g).med = s.med ∧ (s.spareWrite g).roms = s.roms ∧ (s.spareWrite g).dram = s.dram ∧ (s.spareWrite g).link = s.link ∧ (s.spareWrite g).reads = s.reads ∧ (s.spareWrite g).zl0 = s.zl0 ∧ (s.spareWrite g).zl1 = s.zl1 ∧ (s.spareWrite g).mbox = s.mbox ∧ (s.spareWrite g).dbg = s.dbg ∧ (s.spareWrite g).i3c = s.i3c := by
  have f1 := @State.onDrift_frame; have f2 := @State.writeSpare_frame
  simp [State.spareWrite, f1, f2]
theorem State.spareRetry_frame (s : State) : (s.spareRetry).pending = s.pending ∧ (s.spareRetry).variant = s.variant ∧ (s.spareRetry).latches = s.latches ∧ (s.spareRetry).resetting = s.resetting ∧ (s.spareRetry).med = s.med ∧ (s.spareRetry).roms = s.roms ∧ (s.spareRetry).dbg = s.dbg ∧ (s.spareRetry).i3c = s.i3c := by
  have f1 := @State.onDrift_frame; have f2 := @State.spareWrite_frame
  simp [State.spareRetry, f1, f2]
theorem State.setDriftSet_frame (s : State) (d : Nat) (n : Nat) (x : DriftSet) : (s.setDriftSet d n x).pending = s.pending ∧ (s.setDriftSet d n x).variant = s.variant ∧ (s.setDriftSet d n x).applied = s.applied ∧ (s.setDriftSet d n x).latches = s.latches ∧ (s.setDriftSet d n x).commits = s.commits ∧ (s.setDriftSet d n x).resetting = s.resetting ∧ (s.setDriftSet d n x).dev = s.dev ∧ (s.setDriftSet d n x).pwr = s.pwr ∧ (s.setDriftSet d n x).hk = s.hk ∧ (s.setDriftSet d n x).clk = s.clk ∧ (s.setDriftSet d n x).bw = s.bw ∧ (s.setDriftSet d n x).gang0 = s.gang0 ∧ (s.setDriftSet d n x).gang1 = s.gang1 ∧ (s.setDriftSet d n x).med = s.med ∧ (s.setDriftSet d n x).roms = s.roms ∧ (s.setDriftSet d n x).dram = s.dram ∧ (s.setDriftSet d n x).link = s.link ∧ (s.setDriftSet d n x).reads = s.reads ∧ (s.setDriftSet d n x).zl0 = s.zl0 ∧ (s.setDriftSet d n x).zl1 = s.zl1 ∧ (s.setDriftSet d n x).mbox = s.mbox ∧ (s.setDriftSet d n x).dbg = s.dbg ∧ (s.setDriftSet d n x).i3c = s.i3c := by
  have f1 := @State.onDrift_frame
  simp [State.setDriftSet, f1]
theorem State.driftBit_frame (s : State) (d : Nat) (n : Nat) (page : Nat) (l : Nat) : (s.driftBit d n page l).pending = s.pending ∧ (s.driftBit d n page l).variant = s.variant ∧ (s.driftBit d n page l).applied = s.applied ∧ (s.driftBit d n page l).latches = s.latches ∧ (s.driftBit d n page l).commits = s.commits ∧ (s.driftBit d n page l).resetting = s.resetting ∧ (s.driftBit d n page l).pwr = s.pwr ∧ (s.driftBit d n page l).hk = s.hk ∧ (s.driftBit d n page l).clk = s.clk ∧ (s.driftBit d n page l).med = s.med ∧ (s.driftBit d n page l).roms = s.roms ∧ (s.driftBit d n page l).dbg = s.dbg ∧ (s.driftBit d n page l).i3c = s.i3c := by
  have f1 := @State.bumpSat_frame; have f2 := @State.setDriftSet_frame
  simp [State.driftBit, f1, f2]
theorem State.driftChunk_frame (s : State) (d : Nat) (n : Nat) (page : Nat) (wrong : Chunk) (levels : List (Nat × Nat)) : (s.driftChunk d n page wrong levels).pending = s.pending ∧ (s.driftChunk d n page wrong levels).variant = s.variant ∧ (s.driftChunk d n page wrong levels).applied = s.applied ∧ (s.driftChunk d n page wrong levels).latches = s.latches ∧ (s.driftChunk d n page wrong levels).commits = s.commits ∧ (s.driftChunk d n page wrong levels).resetting = s.resetting ∧ (s.driftChunk d n page wrong levels).pwr = s.pwr ∧ (s.driftChunk d n page wrong levels).hk = s.hk ∧ (s.driftChunk d n page wrong levels).clk = s.clk ∧ (s.driftChunk d n page wrong levels).med = s.med ∧ (s.driftChunk d n page wrong levels).roms = s.roms ∧ (s.driftChunk d n page wrong levels).dbg = s.dbg ∧ (s.driftChunk d n page wrong levels).i3c = s.i3c := by
  have f1 := @State.driftBit_frame; have f2 := @State.setDriftSet_frame
  simp [State.driftChunk, f1, f2]
theorem State.driftDecode_frame (s : State) (psa : Nat) (bank : Nat) (bin : Nat) (classes : List Nat) (er : List Nat) (live : Bool) (rx : List Chunk) (cor : List Chunk) (levels : Nat → List (Nat × Nat)) : (s.driftDecode psa bank bin classes er live rx cor levels).pending = s.pending ∧ (s.driftDecode psa bank bin classes er live rx cor levels).variant = s.variant ∧ (s.driftDecode psa bank bin classes er live rx cor levels).applied = s.applied ∧ (s.driftDecode psa bank bin classes er live rx cor levels).latches = s.latches ∧ (s.driftDecode psa bank bin classes er live rx cor levels).commits = s.commits ∧ (s.driftDecode psa bank bin classes er live rx cor levels).resetting = s.resetting ∧ (s.driftDecode psa bank bin classes er live rx cor levels).pwr = s.pwr ∧ (s.driftDecode psa bank bin classes er live rx cor levels).hk = s.hk ∧ (s.driftDecode psa bank bin classes er live rx cor levels).clk = s.clk ∧ (s.driftDecode psa bank bin classes er live rx cor levels).med = s.med ∧ (s.driftDecode psa bank bin classes er live rx cor levels).roms = s.roms ∧ (s.driftDecode psa bank bin classes er live rx cor levels).dbg = s.dbg ∧ (s.driftDecode psa bank bin classes er live rx cor levels).i3c = s.i3c := by
  have f1 := @State.bumpSat_frame; have f2 := @State.bump_frame; have f3 := @State.driftChunk_frame; have f4 := @State.onDrift_frame; have f5 := @State.setFlag_frame
  simp [State.driftDecode, f1, f2, f3, f4, f5]
theorem State.inspectSel_frame (s : State) (src : Source) (w : Nat) : (s.inspectSel src w).pending = s.pending ∧ (s.inspectSel src w).variant = s.variant ∧ (s.inspectSel src w).latches = s.latches ∧ (s.inspectSel src w).clk = s.clk ∧ (s.inspectSel src w).med = s.med ∧ (s.inspectSel src w).roms = s.roms ∧ (s.inspectSel src w).i3c = s.i3c := by
  have f1 := @State.cfgErr_frame; have f2 := @State.onDrift_frame; have f3 := @State.setReg_frame
  simp [State.inspectSel, f1, f2, f3]
theorem State.epochWrite_frame (s : State) (w : Nat) : (s.epochWrite w).pending = s.pending ∧ (s.epochWrite w).variant = s.variant ∧ (s.epochWrite w).latches = s.latches ∧ (s.epochWrite w).clk = s.clk ∧ (s.epochWrite w).med = s.med ∧ (s.epochWrite w).roms = s.roms ∧ (s.epochWrite w).i3c = s.i3c := by
  have f1 := @State.onDrift_frame
  simp [State.epochWrite, f1]
theorem State.setClass_frame (s : State) (d : Nat) (c : Nat) : (s.setClass d c).pending = s.pending ∧ (s.setClass d c).variant = s.variant ∧ (s.setClass d c).latches = s.latches ∧ (s.setClass d c).resetting = s.resetting ∧ (s.setClass d c).med = s.med ∧ (s.setClass d c).roms = s.roms ∧ (s.setClass d c).dbg = s.dbg ∧ (s.setClass d c).i3c = s.i3c := by
  have f1 := @State.raise_frame; have f2 := @State.setFld_frame
  simp [State.setClass, f1, f2]
theorem State.classFlock_frame (s : State) : (s.classFlock).pending = s.pending ∧ (s.classFlock).variant = s.variant ∧ (s.classFlock).latches = s.latches ∧ (s.classFlock).resetting = s.resetting ∧ (s.classFlock).med = s.med ∧ (s.classFlock).roms = s.roms ∧ (s.classFlock).dbg = s.dbg ∧ (s.classFlock).i3c = s.i3c := by
  have f1 := @State.onDrift_frame; have f2 := @State.setClass_frame
  simp [State.classFlock, f1, f2]
theorem State.evalBoundary_frame (s : State) (d : Nat) (n : Nat) (k : Nat) (rollback : Bool) : (s.evalBoundary d n k rollback).1.pending = s.pending ∧ (s.evalBoundary d n k rollback).1.variant = s.variant ∧ (s.evalBoundary d n k rollback).1.applied = s.applied ∧ (s.evalBoundary d n k rollback).1.latches = s.latches ∧ (s.evalBoundary d n k rollback).1.commits = s.commits ∧ (s.evalBoundary d n k rollback).1.resetting = s.resetting ∧ (s.evalBoundary d n k rollback).1.dev = s.dev ∧ (s.evalBoundary d n k rollback).1.pwr = s.pwr ∧ (s.evalBoundary d n k rollback).1.hk = s.hk ∧ (s.evalBoundary d n k rollback).1.clk = s.clk ∧ (s.evalBoundary d n k rollback).1.bw = s.bw ∧ (s.evalBoundary d n k rollback).1.gang0 = s.gang0 ∧ (s.evalBoundary d n k rollback).1.gang1 = s.gang1 ∧ (s.evalBoundary d n k rollback).1.med = s.med ∧ (s.evalBoundary d n k rollback).1.roms = s.roms ∧ (s.evalBoundary d n k rollback).1.dram = s.dram ∧ (s.evalBoundary d n k rollback).1.link = s.link ∧ (s.evalBoundary d n k rollback).1.reads = s.reads ∧ (s.evalBoundary d n k rollback).1.zl0 = s.zl0 ∧ (s.evalBoundary d n k rollback).1.zl1 = s.zl1 ∧ (s.evalBoundary d n k rollback).1.mbox = s.mbox ∧ (s.evalBoundary d n k rollback).1.dbg = s.dbg ∧ (s.evalBoundary d n k rollback).1.i3c = s.i3c := by
  have f1 := @State.bumpSat_frame; have f2 := @State.bump_frame; have f3 := @State.raise_frame; have f4 := @State.setDriftSet_frame
  dsimp only [State.evalBoundary]; (repeat' split) <;> simp [f1, f2, f3, f4]
theorem State.evalSet_frame (s : State) (d : Nat) (n : Nat) (rollback : Bool) : (s.evalSet d n rollback).1.pending = s.pending ∧ (s.evalSet d n rollback).1.variant = s.variant ∧ (s.evalSet d n rollback).1.applied = s.applied ∧ (s.evalSet d n rollback).1.latches = s.latches ∧ (s.evalSet d n rollback).1.commits = s.commits ∧ (s.evalSet d n rollback).1.resetting = s.resetting ∧ (s.evalSet d n rollback).1.dev = s.dev ∧ (s.evalSet d n rollback).1.pwr = s.pwr ∧ (s.evalSet d n rollback).1.hk = s.hk ∧ (s.evalSet d n rollback).1.clk = s.clk ∧ (s.evalSet d n rollback).1.bw = s.bw ∧ (s.evalSet d n rollback).1.gang0 = s.gang0 ∧ (s.evalSet d n rollback).1.gang1 = s.gang1 ∧ (s.evalSet d n rollback).1.med = s.med ∧ (s.evalSet d n rollback).1.roms = s.roms ∧ (s.evalSet d n rollback).1.dram = s.dram ∧ (s.evalSet d n rollback).1.link = s.link ∧ (s.evalSet d n rollback).1.reads = s.reads ∧ (s.evalSet d n rollback).1.zl0 = s.zl0 ∧ (s.evalSet d n rollback).1.zl1 = s.zl1 ∧ (s.evalSet d n rollback).1.mbox = s.mbox ∧ (s.evalSet d n rollback).1.dbg = s.dbg ∧ (s.evalSet d n rollback).1.i3c = s.i3c := by
  have f1 := @State.evalBoundary_frame
  simp [State.evalSet, f1]
theorem State.driftEval_frame (s : State) (g : Nat) : (s.driftEval g).pending = s.pending ∧ (s.driftEval g).variant = s.variant ∧ (s.driftEval g).applied = s.applied ∧ (s.driftEval g).latches = s.latches ∧ (s.driftEval g).commits = s.commits ∧ (s.driftEval g).resetting = s.resetting ∧ (s.driftEval g).dev = s.dev ∧ (s.driftEval g).pwr = s.pwr ∧ (s.driftEval g).hk = s.hk ∧ (s.driftEval g).clk = s.clk ∧ (s.driftEval g).bw = s.bw ∧ (s.driftEval g).gang0 = s.gang0 ∧ (s.driftEval g).gang1 = s.gang1 ∧ (s.driftEval g).med = s.med ∧ (s.driftEval g).roms = s.roms ∧ (s.driftEval g).dram = s.dram ∧ (s.driftEval g).link = s.link ∧ (s.driftEval g).reads = s.reads ∧ (s.driftEval g).zl0 = s.zl0 ∧ (s.driftEval g).zl1 = s.zl1 ∧ (s.driftEval g).mbox = s.mbox ∧ (s.driftEval g).dbg = s.dbg ∧ (s.driftEval g).i3c = s.i3c := by
  have f1 := @State.bumpSat_frame; have f2 := @State.evalSet_frame; have f3 := @State.onDrift_frame; have f4 := @State.raiseRec_frame; have f5 := @State.spareWrite_frame
  simp [State.driftEval, f1, f2, f3, f4, f5]
theorem State.driftFlock_frame (s : State) : (s.driftFlock).pending = s.pending ∧ (s.driftFlock).variant = s.variant ∧ (s.driftFlock).latches = s.latches ∧ (s.driftFlock).resetting = s.resetting ∧ (s.driftFlock).med = s.med ∧ (s.driftFlock).roms = s.roms ∧ (s.driftFlock).dbg = s.dbg ∧ (s.driftFlock).i3c = s.i3c := by
  have f1 := @State.bump_frame; have f2 := @State.onDrift_frame; have f3 := @State.raise_frame; have f4 := @State.setFlag_frame; have f5 := @State.setFld_frame
  simp [State.driftFlock, f1, f2, f3, f4, f5]
theorem State.epochBy_frame (s : State) (n : Nat) : (s.epochBy n).pending = s.pending ∧ (s.epochBy n).variant = s.variant ∧ (s.epochBy n).latches = s.latches ∧ (s.epochBy n).resetting = s.resetting ∧ (s.epochBy n).med = s.med ∧ (s.epochBy n).roms = s.roms ∧ (s.epochBy n).dbg = s.dbg ∧ (s.epochBy n).i3c = s.i3c := by
  have f1 := @State.setFld_frame
  simp [State.epochBy, f1]
theorem State.epochAdvance_frame (s : State) : (s.epochAdvance).pending = s.pending ∧ (s.epochAdvance).variant = s.variant ∧ (s.epochAdvance).latches = s.latches ∧ (s.epochAdvance).resetting = s.resetting ∧ (s.epochAdvance).med = s.med ∧ (s.epochAdvance).roms = s.roms ∧ (s.epochAdvance).dbg = s.dbg ∧ (s.epochAdvance).i3c = s.i3c := by
  have f1 := @State.cfgErr_frame; have f2 := @State.epochBy_frame; have f3 := @State.onDrift_frame
  simp [State.epochAdvance, f1, f2, f3]
theorem State.oldRefRetry_frame (s : State) (g : Nat) (bin : Nat) (classes : List Nat) (ok : Bool) : (s.oldRefRetry g bin classes ok).pending = s.pending ∧ (s.oldRefRetry g bin classes ok).variant = s.variant ∧ (s.oldRefRetry g bin classes ok).applied = s.applied ∧ (s.oldRefRetry g bin classes ok).latches = s.latches ∧ (s.oldRefRetry g bin classes ok).commits = s.commits ∧ (s.oldRefRetry g bin classes ok).resetting = s.resetting ∧ (s.oldRefRetry g bin classes ok).pwr = s.pwr ∧ (s.oldRefRetry g bin classes ok).hk = s.hk ∧ (s.oldRefRetry g bin classes ok).clk = s.clk ∧ (s.oldRefRetry g bin classes ok).med = s.med ∧ (s.oldRefRetry g bin classes ok).roms = s.roms ∧ (s.oldRefRetry g bin classes ok).i3c = s.i3c := by
  have f1 := @State.bump_frame; have f2 := @State.onDrift_frame
  simp [State.oldRefRetry, f1, f2]

end Sys2Proof.Machine
end

