-- ==== Sys2Proof/Laws/FrameSectorRead.lean ====
section
/-! SUPPORT. Frames of the operations of Machine/SectorRead.lean: the fields of State that each leaves as they were. -/

set_option maxRecDepth 4000
set_option linter.unusedSimpArgs false

namespace Sys2Proof.Machine

theorem State.queueRewrite_frame (s : State) (lseg : Nat) (psa : Nat) (bad : List Nat) : (s.queueRewrite lseg psa bad).pending = s.pending ∧ (s.queueRewrite lseg psa bad).variant = s.variant ∧ (s.queueRewrite lseg psa bad).applied = s.applied ∧ (s.queueRewrite lseg psa bad).latches = s.latches ∧ (s.queueRewrite lseg psa bad).commits = s.commits ∧ (s.queueRewrite lseg psa bad).resetting = s.resetting ∧ (s.queueRewrite lseg psa bad).pwr = s.pwr ∧ (s.queueRewrite lseg psa bad).hk = s.hk ∧ (s.queueRewrite lseg psa bad).clk = s.clk ∧ (s.queueRewrite lseg psa bad).med = s.med ∧ (s.queueRewrite lseg psa bad).roms = s.roms ∧ (s.queueRewrite lseg psa bad).dbg = s.dbg ∧ (s.queueRewrite lseg psa bad).i3c = s.i3c := by
  have f1 := @State.onXlt_frame
  simp [State.queueRewrite, f1]
theorem State.secCounts_frame (s : State) (g : Nat) (a : Attempt) : (s.secCounts g a).pending = s.pending ∧ (s.secCounts g a).variant = s.variant ∧ (s.secCounts g a).applied = s.applied ∧ (s.secCounts g a).latches = s.latches ∧ (s.secCounts g a).commits = s.commits ∧ (s.secCounts g a).resetting = s.resetting ∧ (s.secCounts g a).pwr = s.pwr ∧ (s.secCounts g a).hk = s.hk ∧ (s.secCounts g a).clk = s.clk ∧ (s.secCounts g a).med = s.med ∧ (s.secCounts g a).roms = s.roms ∧ (s.secCounts g a).dbg = s.dbg ∧ (s.secCounts g a).i3c = s.i3c := by
  have f1 := @State.bumpBy_frame; have f2 := @State.bump_frame; have f3 := @State.raise_frame
  simp [State.secCounts, f1, f2, f3]
theorem State.parityFault_frame (s : State) (psa : Nat) (p : Nat) : (s.parityFault psa p).pending = s.pending ∧ (s.parityFault psa p).variant = s.variant ∧ (s.parityFault psa p).applied = s.applied ∧ (s.parityFault psa p).latches = s.latches ∧ (s.parityFault psa p).commits = s.commits ∧ (s.parityFault psa p).resetting = s.resetting ∧ (s.parityFault psa p).pwr = s.pwr ∧ (s.parityFault psa p).hk = s.hk ∧ (s.parityFault psa p).clk = s.clk ∧ (s.parityFault psa p).bw = s.bw ∧ (s.parityFault psa p).med = s.med ∧ (s.parityFault psa p).roms = s.roms ∧ (s.parityFault psa p).caches = s.caches ∧ (s.parityFault psa p).zl0 = s.zl0 ∧ (s.parityFault psa p).zl1 = s.zl1 ∧ (s.parityFault psa p).ring = s.ring ∧ (s.parityFault psa p).mbox = s.mbox ∧ (s.parityFault psa p).dbg = s.dbg ∧ (s.parityFault psa p).i3c = s.i3c ∧ (s.parityFault psa p).drawn = s.drawn := by
  have f1 := @State.bumpSat_frame; have f2 := @State.raise_frame
  simp [State.parityFault, f1, f2]
theorem State.chunkFault_frame (s : State) (psa : Nat) (k : Nat) (p : Nat) (right : Chunk) : (s.chunkFault psa k p right).pending = s.pending ∧ (s.chunkFault psa k p right).variant = s.variant ∧ (s.chunkFault psa k p right).applied = s.applied ∧ (s.chunkFault psa k p right).latches = s.latches ∧ (s.chunkFault psa k p right).commits = s.commits ∧ (s.chunkFault psa k p right).resetting = s.resetting ∧ (s.chunkFault psa k p right).pwr = s.pwr ∧ (s.chunkFault psa k p right).hk = s.hk ∧ (s.chunkFault psa k p right).clk = s.clk ∧ (s.chunkFault psa k p right).bw = s.bw ∧ (s.chunkFault psa k p right).med = s.med ∧ (s.chunkFault psa k p right).roms = s.roms ∧ (s.chunkFault psa k p right).caches = s.caches ∧ (s.chunkFault psa k p right).zl0 = s.zl0 ∧ (s.chunkFault psa k p right).zl1 = s.zl1 ∧ (s.chunkFault psa k p right).ring = s.ring ∧ (s.chunkFault psa k p right).mbox = s.mbox ∧ (s.chunkFault psa k p right).dbg = s.dbg ∧ (s.chunkFault psa k p right).i3c = s.i3c ∧ (s.chunkFault psa k p right).drawn = s.drawn := by
  have f1 := @State.bump_frame; have f2 := @State.onXlt_frame
  simp [State.chunkFault, f1, f2]
theorem noteChunk_frame (psa : Nat) (k : Nat) (a : Attempt) (prior : List (Nat × Nat)) (s : State) (p : Nat) : (noteChunk psa k a prior s p).pending = s.pending ∧ (noteChunk psa k a prior s p).variant = s.variant ∧ (noteChunk psa k a prior s p).applied = s.applied ∧ (noteChunk psa k a prior s p).latches = s.latches ∧ (noteChunk psa k a prior s p).commits = s.commits ∧ (noteChunk psa k a prior s p).resetting = s.resetting ∧ (noteChunk psa k a prior s p).pwr = s.pwr ∧ (noteChunk psa k a prior s p).hk = s.hk ∧ (noteChunk psa k a prior s p).clk = s.clk ∧ (noteChunk psa k a prior s p).med = s.med ∧ (noteChunk psa k a prior s p).roms = s.roms ∧ (noteChunk psa k a prior s p).dbg = s.dbg ∧ (noteChunk psa k a prior s p).i3c = s.i3c := by
  have f1 := @State.bump_frame; have f2 := @State.chunkFault_frame; have f3 := @State.lastingChunk_frame
  simp [noteChunk, f1, f2, f3]
theorem State.noteChunks_frame (s : State) (psa : Nat) (k : Nat) (faults : List Nat) (a : Attempt) (prior : List (Nat × Nat)) : (s.noteChunks psa k faults a prior).pending = s.pending ∧ (s.noteChunks psa k faults a prior).variant = s.variant ∧ (s.noteChunks psa k faults a prior).applied = s.applied ∧ (s.noteChunks psa k faults a prior).latches = s.latches ∧ (s.noteChunks psa k faults a prior).commits = s.commits ∧ (s.noteChunks psa k faults a prior).resetting = s.resetting ∧ (s.noteChunks psa k faults a prior).pwr = s.pwr ∧ (s.noteChunks psa k faults a prior).hk = s.hk ∧ (s.noteChunks psa k faults a prior).clk = s.clk ∧ (s.noteChunks psa k faults a prior).med = s.med ∧ (s.noteChunks psa k faults a prior).roms = s.roms ∧ (s.noteChunks psa k faults a prior).dbg = s.dbg ∧ (s.noteChunks psa k faults a prior).i3c = s.i3c := by
  have f1 := @noteChunk_frame
  simp [State.noteChunks, f1]
theorem State.notePoison_frame (s : State) (lsn : Nat) (o : SecOut) : (s.notePoison lsn o).pending = s.pending ∧ (s.notePoison lsn o).variant = s.variant ∧ (s.notePoison lsn o).applied = s.applied ∧ (s.notePoison lsn o).latches = s.latches ∧ (s.notePoison lsn o).commits = s.commits ∧ (s.notePoison lsn o).resetting = s.resetting ∧ (s.notePoison lsn o).pwr = s.pwr ∧ (s.notePoison lsn o).hk = s.hk ∧ (s.notePoison lsn o).clk = s.clk ∧ (s.notePoison lsn o).med = s.med ∧ (s.notePoison lsn o).roms = s.roms ∧ (s.notePoison lsn o).dbg = s.dbg ∧ (s.notePoison lsn o).i3c = s.i3c := by
  have f1 := @State.onXlt_frame
  dsimp only [State.notePoison]; (repeat' split) <;> simp [f1]
theorem State.noteTag_frame (s : State) (lsn : Nat) (cls : Nat) (a : Attempt) : (s.noteTag lsn cls a).pending = s.pending ∧ (s.noteTag lsn cls a).variant = s.variant ∧ (s.noteTag lsn cls a).applied = s.applied ∧ (s.noteTag lsn cls a).latches = s.latches ∧ (s.noteTag lsn cls a).commits = s.commits ∧ (s.noteTag lsn cls a).resetting = s.resetting ∧ (s.noteTag lsn cls a).pwr = s.pwr ∧ (s.noteTag lsn cls a).hk = s.hk ∧ (s.noteTag lsn cls a).clk = s.clk ∧ (s.noteTag lsn cls a).med = s.med ∧ (s.noteTag lsn cls a).roms = s.roms ∧ (s.noteTag lsn cls a).dbg = s.dbg ∧ (s.noteTag lsn cls a).i3c = s.i3c := by
  have f1 := @State.bump_frame; have f2 := @State.ev_frame; have f3 := @State.moved_frame; have f4 := @State.tagFailed_frame
  dsimp only [State.noteTag]; (repeat' split) <;> simp [f1, f2, f3, f4]
theorem State.noteAttempt_frame (s : State) (c : Sensing) (k : Nat) (x : Sensed) (a : Attempt) (first : Bool) (prior : List (Nat × Nat)) : (s.noteAttempt c k x a first prior).pending = s.pending ∧ (s.noteAttempt c k x a first prior).variant = s.variant ∧ (s.noteAttempt c k x a first prior).applied = s.applied ∧ (s.noteAttempt c k x a first prior).latches = s.latches ∧ (s.noteAttempt c k x a first prior).commits = s.commits ∧ (s.noteAttempt c k x a first prior).resetting = s.resetting ∧ (s.noteAttempt c k x a first prior).pwr = s.pwr ∧ (s.noteAttempt c k x a first prior).hk = s.hk ∧ (s.noteAttempt c k x a first prior).clk = s.clk ∧ (s.noteAttempt c k x a first prior).med = s.med ∧ (s.noteAttempt c k x a first prior).roms = s.roms ∧ (s.noteAttempt c k x a first prior).dbg = s.dbg ∧ (s.noteAttempt c k x a first prior).i3c = s.i3c := by
  have f1 := @State.bump_frame; have f2 := @State.driftDecode_frame; have f3 := @State.ev_frame; have f4 := @State.noteChunks_frame; have f5 := @State.notePoison_frame; have f6 := @State.noteTag_frame; have f7 := @State.parityFault_frame; have f8 := @State.secCounts_frame
  dsimp only [State.noteAttempt]; (repeat' split) <;> simp [f1, f2, f3, f4, f5, f6, f7, f8]
theorem State.transientFault_frame (s : State) (cls : Nat) (psa : Nat) (lseg : Nat) (k : Nat) (cause : Nat) : (s.transientFault cls psa lseg k cause).pending = s.pending ∧ (s.transientFault cls psa lseg k cause).variant = s.variant ∧ (s.transientFault cls psa lseg k cause).applied = s.applied ∧ (s.transientFault cls psa lseg k cause).latches = s.latches ∧ (s.transientFault cls psa lseg k cause).commits = s.commits ∧ (s.transientFault cls psa lseg k cause).resetting = s.resetting ∧ (s.transientFault cls psa lseg k cause).pwr = s.pwr ∧ (s.transientFault cls psa lseg k cause).hk = s.hk ∧ (s.transientFault cls psa lseg k cause).clk = s.clk ∧ (s.transientFault cls psa lseg k cause).med = s.med ∧ (s.transientFault cls psa lseg k cause).roms = s.roms ∧ (s.transientFault cls psa lseg k cause).dbg = s.dbg ∧ (s.transientFault cls psa lseg k cause).i3c = s.i3c := by
  have f1 := @State.bump_frame; have f2 := @State.raiseRec_frame
  simp [State.transientFault, f1, f2]
theorem State.lastingFault_frame (s : State) (cls : Nat) (psa : Nat) (lseg : Nat) (k : Nat) (cause : Nat) (er : List Nat) : (s.lastingFault cls psa lseg k cause er).pending = s.pending ∧ (s.lastingFault cls psa lseg k cause er).variant = s.variant ∧ (s.lastingFault cls psa lseg k cause er).applied = s.applied ∧ (s.lastingFault cls psa lseg k cause er).latches = s.latches ∧ (s.lastingFault cls psa lseg k cause er).commits = s.commits ∧ (s.lastingFault cls psa lseg k cause er).resetting = s.resetting ∧ (s.lastingFault cls psa lseg k cause er).pwr = s.pwr ∧ (s.lastingFault cls psa lseg k cause er).hk = s.hk ∧ (s.lastingFault cls psa lseg k cause er).clk = s.clk ∧ (s.lastingFault cls psa lseg k cause er).med = s.med ∧ (s.lastingFault cls psa lseg k cause er).roms = s.roms ∧ (s.lastingFault cls psa lseg k cause er).dbg = s.dbg ∧ (s.lastingFault cls psa lseg k cause er).i3c = s.i3c := by
  have f1 := @State.bump_frame; have f2 := @State.event_frame; have f3 := @State.raiseRec_frame; have f4 := @State.setReg_frame
  simp [State.lastingFault, f1, f2, f3, f4]
theorem State.noteClass_frame (s : State) (cls : Nat) (psa : Nat) (lseg : Nat) (k : Nat) (cause1 : Nat) (a : Attempt) : (s.noteClass cls psa lseg k cause1 a).pending = s.pending ∧ (s.noteClass cls psa lseg k cause1 a).variant = s.variant ∧ (s.noteClass cls psa lseg k cause1 a).applied = s.applied ∧ (s.noteClass cls psa lseg k cause1 a).latches = s.latches ∧ (s.noteClass cls psa lseg k cause1 a).commits = s.commits ∧ (s.noteClass cls psa lseg k cause1 a).resetting = s.resetting ∧ (s.noteClass cls psa lseg k cause1 a).pwr = s.pwr ∧ (s.noteClass cls psa lseg k cause1 a).hk = s.hk ∧ (s.noteClass cls psa lseg k cause1 a).clk = s.clk ∧ (s.noteClass cls psa lseg k cause1 a).med = s.med ∧ (s.noteClass cls psa lseg k cause1 a).roms = s.roms ∧ (s.noteClass cls psa lseg k cause1 a).dbg = s.dbg ∧ (s.noteClass cls psa lseg k cause1 a).i3c = s.i3c := by
  have f1 := @State.lastingFault_frame; have f2 := @State.transientFault_frame; have f3 := @State.tremor_frame
  dsimp only [State.noteClass]; (repeat' split) <;> simp [f1, f2, f3]
theorem State.classify_frame (s : State) (cls : Nat) (psa : Nat) (lseg : Nat) (k : Nat) (cause1 : Nat) (a : Attempt) : (s.classify cls psa lseg k cause1 a).pending = s.pending ∧ (s.classify cls psa lseg k cause1 a).variant = s.variant ∧ (s.classify cls psa lseg k cause1 a).applied = s.applied ∧ (s.classify cls psa lseg k cause1 a).latches = s.latches ∧ (s.classify cls psa lseg k cause1 a).commits = s.commits ∧ (s.classify cls psa lseg k cause1 a).resetting = s.resetting ∧ (s.classify cls psa lseg k cause1 a).pwr = s.pwr ∧ (s.classify cls psa lseg k cause1 a).hk = s.hk ∧ (s.classify cls psa lseg k cause1 a).clk = s.clk ∧ (s.classify cls psa lseg k cause1 a).med = s.med ∧ (s.classify cls psa lseg k cause1 a).roms = s.roms ∧ (s.classify cls psa lseg k cause1 a).dbg = s.dbg ∧ (s.classify cls psa lseg k cause1 a).i3c = s.i3c := by
  have f1 := @State.noteClass_frame; have f2 := @State.queueRewrite_frame
  dsimp only [State.classify]; (repeat' split) <;> simp [f1, f2]
theorem State.catchChunk_frame (s : State) (c : CatchUp) (x : Sensed) (k : Nat) : (s.catchChunk c x k).pending = s.pending ∧ (s.catchChunk c x k).variant = s.variant ∧ (s.catchChunk c x k).applied = s.applied ∧ (s.catchChunk c x k).latches = s.latches ∧ (s.catchChunk c x k).commits = s.commits ∧ (s.catchChunk c x k).resetting = s.resetting ∧ (s.catchChunk c x k).pwr = s.pwr ∧ (s.catchChunk c x k).hk = s.hk ∧ (s.catchChunk c x k).clk = s.clk ∧ (s.catchChunk c x k).bw = s.bw ∧ (s.catchChunk c x k).med = s.med ∧ (s.catchChunk c x k).roms = s.roms ∧ (s.catchChunk c x k).caches = s.caches ∧ (s.catchChunk c x k).zl0 = s.zl0 ∧ (s.catchChunk c x k).zl1 = s.zl1 ∧ (s.catchChunk c x k).ring = s.ring ∧ (s.catchChunk c x k).mbox = s.mbox ∧ (s.catchChunk c x k).dbg = s.dbg ∧ (s.catchChunk c x k).i3c = s.i3c ∧ (s.catchChunk c x k).drawn = s.drawn := by
  have f1 := @State.chunkFault_frame; have f2 := @State.parityFault_frame
  simp [State.catchChunk, f1, f2]
theorem State.shortSense_frame (s : State) (d : Nat) (psa : Nat) (lseg : Nat) (n : Nat) : (s.shortSense d psa lseg n).pending = s.pending ∧ (s.shortSense d psa lseg n).variant = s.variant ∧ (s.shortSense d psa lseg n).applied = s.applied ∧ (s.shortSense d psa lseg n).latches = s.latches ∧ (s.shortSense d psa lseg n).commits = s.commits ∧ (s.shortSense d psa lseg n).resetting = s.resetting ∧ (s.shortSense d psa lseg n).pwr = s.pwr ∧ (s.shortSense d psa lseg n).hk = s.hk ∧ (s.shortSense d psa lseg n).clk = s.clk ∧ (s.shortSense d psa lseg n).bw = s.bw ∧ (s.shortSense d psa lseg n).med = s.med ∧ (s.shortSense d psa lseg n).roms = s.roms ∧ (s.shortSense d psa lseg n).caches = s.caches ∧ (s.shortSense d psa lseg n).zl0 = s.zl0 ∧ (s.shortSense d psa lseg n).zl1 = s.zl1 ∧ (s.shortSense d psa lseg n).ring = s.ring ∧ (s.shortSense d psa lseg n).mbox = s.mbox ∧ (s.shortSense d psa lseg n).dbg = s.dbg ∧ (s.shortSense d psa lseg n).i3c = s.i3c ∧ (s.shortSense d psa lseg n).drawn = s.drawn := by
  have f1 := @State.bookBg_frame; have f2 := @State.emit_frame; have f3 := @State.ev_frame; have f4 := @State.onReads_frame
  simp [State.shortSense, f1, f2, f3, f4]

end Sys2Proof.Machine
end

