-- ==== Sys2Proof/Laws/FrameCartOps.lean ====
section
/-! SUPPORT. Frames of the operations of Machine/CartOps.lean: the fields of State that each leaves as they were. -/

set_option maxRecDepth 4000
set_option linter.unusedSimpArgs false

namespace Sys2Proof.Machine

theorem State.cartCmd_frame (s : State) (n : Nat) (op : Nat) (count : Nat) (arg : Nat) (prio : Nat) (wdata : List Line) (use : CartUse) : (s.cartCmd n op count arg prio wdata use).pending = s.pending ∧ (s.cartCmd n op count arg prio wdata use).variant = s.variant ∧ (s.cartCmd n op count arg prio wdata use).applied = s.applied ∧ (s.cartCmd n op count arg prio wdata use).latches = s.latches ∧ (s.cartCmd n op count arg prio wdata use).commits = s.commits ∧ (s.cartCmd n op count arg prio wdata use).resetting = s.resetting ∧ (s.cartCmd n op count arg prio wdata use).dev = s.dev ∧ (s.cartCmd n op count arg prio wdata use).pwr = s.pwr ∧ (s.cartCmd n op count arg prio wdata use).hk = s.hk ∧ (s.cartCmd n op count arg prio wdata use).clk = s.clk ∧ (s.cartCmd n op count arg prio wdata use).bw = s.bw ∧ (s.cartCmd n op count arg prio wdata use).gang0 = s.gang0 ∧ (s.cartCmd n op count arg prio wdata use).gang1 = s.gang1 ∧ (s.cartCmd n op count arg prio wdata use).med = s.med ∧ (s.cartCmd n op count arg prio wdata use).roms = s.roms ∧ (s.cartCmd n op count arg prio wdata use).xlt = s.xlt ∧ (s.cartCmd n op count arg prio wdata use).prot = s.prot ∧ (s.cartCmd n op count arg prio wdata use).caches = s.caches ∧ (s.cartCmd n op count arg prio wdata use).dram = s.dram ∧ (s.cartCmd n op count arg prio wdata use).link = s.link ∧ (s.cartCmd n op count arg prio wdata use).reads = s.reads ∧ (s.cartCmd n op count arg prio wdata use).drift = s.drift ∧ (s.cartCmd n op count arg prio wdata use).ring = s.ring ∧ (s.cartCmd n op count arg prio wdata use).mbox = s.mbox ∧ (s.cartCmd n op count arg prio wdata use).pnv = s.pnv ∧ (s.cartCmd n op count arg prio wdata use).nvm = s.nvm ∧ (s.cartCmd n op count arg prio wdata use).srm = s.srm ∧ (s.cartCmd n op count arg prio wdata use).dbg = s.dbg ∧ (s.cartCmd n op count arg prio wdata use).i3c = s.i3c ∧ (s.cartCmd n op count arg prio wdata use).drawn = s.drawn := by
  have f1 := @State.onZl_frame
  simp [State.cartCmd, f1]

end Sys2Proof.Machine
end

