-- ==== Sys2Proof/Laws/FrameHostMem.lean ====
section
/-! SUPPORT. Frames of the operations of Machine/HostMem.lean: the fields of State that each leaves as they were. -/

set_option maxRecDepth 4000
set_option linter.unusedSimpArgs false

namespace Sys2Proof.Machine

theorem State.accept_frame (s : State) (a : Nat) : (s.accept a).2.pending = s.pending ∧ (s.accept a).2.variant = s.variant ∧ (s.accept a).2.applied = s.applied ∧ (s.accept a).2.latches = s.latches ∧ (s.accept a).2.commits = s.commits ∧ (s.accept a).2.resetting = s.resetting ∧ (s.accept a).2.dev = s.dev ∧ (s.accept a).2.pwr = s.pwr ∧ (s.accept a).2.hk = s.hk ∧ (s.accept a).2.clk = s.clk ∧ (s.accept a).2.bw = s.bw ∧ (s.accept a).2.gang0 = s.gang0 ∧ (s.accept a).2.gang1 = s.gang1 ∧ (s.accept a).2.med = s.med ∧ (s.accept a).2.roms = s.roms ∧ (s.accept a).2.xlt = s.xlt ∧ (s.accept a).2.prot = s.prot ∧ (s.accept a).2.caches = s.caches ∧ (s.accept a).2.dram = s.dram ∧ (s.accept a).2.reads = s.reads ∧ (s.accept a).2.drift = s.drift ∧ (s.accept a).2.zl0 = s.zl0 ∧ (s.accept a).2.zl1 = s.zl1 ∧ (s.accept a).2.pmc = s.pmc ∧ (s.accept a).2.ring = s.ring ∧ (s.accept a).2.mbox = s.mbox ∧ (s.accept a).2.pnv = s.pnv ∧ (s.accept a).2.nvm = s.nvm ∧ (s.accept a).2.srm = s.srm ∧ (s.accept a).2.dbg = s.dbg ∧ (s.accept a).2.i3c = s.i3c ∧ (s.accept a).2.drawn = s.drawn := by
  have f1 := @State.bumpBy_frame; have f2 := @State.onLink_frame
  simp [State.accept, f1, f2]
theorem State.ackWrite_frame (s : State) (tag : Nat) (dpa : Nat) (c : Nat) : (s.ackWrite tag dpa c).pending = s.pending ∧ (s.ackWrite tag dpa c).variant = s.variant ∧ (s.ackWrite tag dpa c).applied = s.applied ∧ (s.ackWrite tag dpa c).latches = s.latches ∧ (s.ackWrite tag dpa c).commits = s.commits ∧ (s.ackWrite tag dpa c).resetting = s.resetting ∧ (s.ackWrite tag dpa c).dev = s.dev ∧ (s.ackWrite tag dpa c).pwr = s.pwr ∧ (s.ackWrite tag dpa c).hk = s.hk ∧ (s.ackWrite tag dpa c).clk = s.clk ∧ (s.ackWrite tag dpa c).gang0 = s.gang0 ∧ (s.ackWrite tag dpa c).gang1 = s.gang1 ∧ (s.ackWrite tag dpa c).med = s.med ∧ (s.ackWrite tag dpa c).roms = s.roms ∧ (s.ackWrite tag dpa c).prot = s.prot ∧ (s.ackWrite tag dpa c).drift = s.drift ∧ (s.ackWrite tag dpa c).zl0 = s.zl0 ∧ (s.ackWrite tag dpa c).zl1 = s.zl1 ∧ (s.ackWrite tag dpa c).mbox = s.mbox ∧ (s.ackWrite tag dpa c).nvm = s.nvm ∧ (s.ackWrite tag dpa c).srm = s.srm ∧ (s.ackWrite tag dpa c).dbg = s.dbg ∧ (s.ackWrite tag dpa c).i3c = s.i3c ∧ (s.ackWrite tag dpa c).drawn = s.drawn := by
  have f1 := @State.onXlt_frame; have f2 := @State.sendCmp_frame
  simp [State.ackWrite, f1, f2]
theorem State.addRead_frame (s : State) (r : Rd) : (s.addRead r).pending = s.pending ∧ (s.addRead r).variant = s.variant ∧ (s.addRead r).applied = s.applied ∧ (s.addRead r).latches = s.latches ∧ (s.addRead r).commits = s.commits ∧ (s.addRead r).resetting = s.resetting ∧ (s.addRead r).dev = s.dev ∧ (s.addRead r).pwr = s.pwr ∧ (s.addRead r).hk = s.hk ∧ (s.addRead r).clk = s.clk ∧ (s.addRead r).bw = s.bw ∧ (s.addRead r).gang0 = s.gang0 ∧ (s.addRead r).gang1 = s.gang1 ∧ (s.addRead r).med = s.med ∧ (s.addRead r).roms = s.roms ∧ (s.addRead r).dram = s.dram ∧ (s.addRead r).drift = s.drift ∧ (s.addRead r).pnv = s.pnv ∧ (s.addRead r).nvm = s.nvm ∧ (s.addRead r).srm = s.srm ∧ (s.addRead r).dbg = s.dbg ∧ (s.addRead r).i3c = s.i3c ∧ (s.addRead r).drawn = s.drawn := by
  have f1 := @State.onReads_frame
  simp [State.addRead, f1]
theorem State.groupRefused_frame (s : State) (dpa : Nat) : (s.groupRefused dpa).pending = s.pending ∧ (s.groupRefused dpa).variant = s.variant ∧ (s.groupRefused dpa).applied = s.applied ∧ (s.groupRefused dpa).latches = s.latches ∧ (s.groupRefused dpa).commits = s.commits ∧ (s.groupRefused dpa).resetting = s.resetting ∧ (s.groupRefused dpa).pwr = s.pwr ∧ (s.groupRefused dpa).hk = s.hk ∧ (s.groupRefused dpa).clk = s.clk ∧ (s.groupRefused dpa).med = s.med ∧ (s.groupRefused dpa).roms = s.roms ∧ (s.groupRefused dpa).dbg = s.dbg ∧ (s.groupRefused dpa).i3c = s.i3c := by
  have f1 := @State.raiseRec_frame; have f2 := @State.raise_frame; have f3 := @State.setGroup_frame
  dsimp only [State.groupRefused]; (repeat' split) <;> simp [f1, f2, f3]
theorem State.refusedWrite_frame (s : State) (cls : Nat) : (s.refusedWrite cls).pending = s.pending ∧ (s.refusedWrite cls).variant = s.variant ∧ (s.refusedWrite cls).applied = s.applied ∧ (s.refusedWrite cls).latches = s.latches ∧ (s.refusedWrite cls).commits = s.commits ∧ (s.refusedWrite cls).resetting = s.resetting ∧ (s.refusedWrite cls).pwr = s.pwr ∧ (s.refusedWrite cls).hk = s.hk ∧ (s.refusedWrite cls).clk = s.clk ∧ (s.refusedWrite cls).med = s.med ∧ (s.refusedWrite cls).roms = s.roms ∧ (s.refusedWrite cls).dbg = s.dbg ∧ (s.refusedWrite cls).i3c = s.i3c := by
  have f1 := @State.bump_frame; have f2 := @State.onXlt_frame; have f3 := @State.raiseRec_frame
  simp [State.refusedWrite, f1, f2, f3]
theorem State.joinGroup_frame (s : State) (dpa : Nat) : (s.joinGroup dpa).2.pending = s.pending ∧ (s.joinGroup dpa).2.variant = s.variant ∧ (s.joinGroup dpa).2.applied = s.applied ∧ (s.joinGroup dpa).2.latches = s.latches ∧ (s.joinGroup dpa).2.commits = s.commits ∧ (s.joinGroup dpa).2.resetting = s.resetting ∧ (s.joinGroup dpa).2.dev = s.dev ∧ (s.joinGroup dpa).2.pwr = s.pwr ∧ (s.joinGroup dpa).2.hk = s.hk ∧ (s.joinGroup dpa).2.clk = s.clk ∧ (s.joinGroup dpa).2.gang0 = s.gang0 ∧ (s.joinGroup dpa).2.gang1 = s.gang1 ∧ (s.joinGroup dpa).2.med = s.med ∧ (s.joinGroup dpa).2.roms = s.roms ∧ (s.joinGroup dpa).2.prot = s.prot ∧ (s.joinGroup dpa).2.drift = s.drift ∧ (s.joinGroup dpa).2.zl0 = s.zl0 ∧ (s.joinGroup dpa).2.zl1 = s.zl1 ∧ (s.joinGroup dpa).2.mbox = s.mbox ∧ (s.joinGroup dpa).2.nvm = s.nvm ∧ (s.joinGroup dpa).2.srm = s.srm ∧ (s.joinGroup dpa).2.dbg = s.dbg ∧ (s.joinGroup dpa).2.i3c = s.i3c ∧ (s.joinGroup dpa).2.drawn = s.drawn := by
  have f1 := @State.setGroup_frame
  dsimp only [State.joinGroup]; (repeat' split) <;> simp [f1]
theorem State.storeLine_frame (s : State) (dpa : Nat) (keyid : Nat) (d : Line) (m : Mask) (strict : Bool) : (s.storeLine dpa keyid d m strict).pending = s.pending ∧ (s.storeLine dpa keyid d m strict).variant = s.variant ∧ (s.storeLine dpa keyid d m strict).applied = s.applied ∧ (s.storeLine dpa keyid d m strict).latches = s.latches ∧ (s.storeLine dpa keyid d m strict).commits = s.commits ∧ (s.storeLine dpa keyid d m strict).resetting = s.resetting ∧ (s.storeLine dpa keyid d m strict).dev = s.dev ∧ (s.storeLine dpa keyid d m strict).pwr = s.pwr ∧ (s.storeLine dpa keyid d m strict).hk = s.hk ∧ (s.storeLine dpa keyid d m strict).clk = s.clk ∧ (s.storeLine dpa keyid d m strict).gang0 = s.gang0 ∧ (s.storeLine dpa keyid d m strict).gang1 = s.gang1 ∧ (s.storeLine dpa keyid d m strict).med = s.med ∧ (s.storeLine dpa keyid d m strict).roms = s.roms ∧ (s.storeLine dpa keyid d m strict).prot = s.prot ∧ (s.storeLine dpa keyid d m strict).drift = s.drift ∧ (s.storeLine dpa keyid d m strict).zl0 = s.zl0 ∧ (s.storeLine dpa keyid d m strict).zl1 = s.zl1 ∧ (s.storeLine dpa keyid d m strict).mbox = s.mbox ∧ (s.storeLine dpa keyid d m strict).nvm = s.nvm ∧ (s.storeLine dpa keyid d m strict).srm = s.srm ∧ (s.storeLine dpa keyid d m strict).dbg = s.dbg ∧ (s.storeLine dpa keyid d m strict).i3c = s.i3c ∧ (s.storeLine dpa keyid d m strict).drawn = s.drawn := by
  have f1 := @State.afterStage_frame; have f2 := @State.joinGroup_frame; have f3 := @State.moved_frame; have f4 := @State.stage_frame; have f5 := @State.writeCaches_frame
  simp [State.storeLine, f1, f2, f3, f4, f5]
theorem State.refusedBy_frame (s : State) (cls : Nat) (cause : Nat) (dpa : Nat) (keyid : Nat) : (s.refusedBy cls cause dpa keyid).pending = s.pending ∧ (s.refusedBy cls cause dpa keyid).variant = s.variant ∧ (s.refusedBy cls cause dpa keyid).applied = s.applied ∧ (s.refusedBy cls cause dpa keyid).latches = s.latches ∧ (s.refusedBy cls cause dpa keyid).commits = s.commits ∧ (s.refusedBy cls cause dpa keyid).resetting = s.resetting ∧ (s.refusedBy cls cause dpa keyid).pwr = s.pwr ∧ (s.refusedBy cls cause dpa keyid).hk = s.hk ∧ (s.refusedBy cls cause dpa keyid).clk = s.clk ∧ (s.refusedBy cls cause dpa keyid).med = s.med ∧ (s.refusedBy cls cause dpa keyid).roms = s.roms ∧ (s.refusedBy cls cause dpa keyid).i3c = s.i3c := by
  have f1 := @State.groupRefused_frame; have f2 := @State.refusedWrite_frame; have f3 := @State.tremor_frame
  simp [State.refusedBy, f1, f2, f3]
theorem State.reqEnds_frame (s : State) (c : Nat) : (s.reqEnds c).pending = s.pending ∧ (s.reqEnds c).variant = s.variant ∧ (s.reqEnds c).applied = s.applied ∧ (s.reqEnds c).latches = s.latches ∧ (s.reqEnds c).commits = s.commits ∧ (s.reqEnds c).resetting = s.resetting ∧ (s.reqEnds c).dev = s.dev ∧ (s.reqEnds c).pwr = s.pwr ∧ (s.reqEnds c).hk = s.hk ∧ (s.reqEnds c).clk = s.clk ∧ (s.reqEnds c).bw = s.bw ∧ (s.reqEnds c).gang0 = s.gang0 ∧ (s.reqEnds c).gang1 = s.gang1 ∧ (s.reqEnds c).med = s.med ∧ (s.reqEnds c).roms = s.roms ∧ (s.reqEnds c).xlt = s.xlt ∧ (s.reqEnds c).prot = s.prot ∧ (s.reqEnds c).caches = s.caches ∧ (s.reqEnds c).dram = s.dram ∧ (s.reqEnds c).reads = s.reads ∧ (s.reqEnds c).drift = s.drift ∧ (s.reqEnds c).zl0 = s.zl0 ∧ (s.reqEnds c).zl1 = s.zl1 ∧ (s.reqEnds c).pmc = s.pmc ∧ (s.reqEnds c).ring = s.ring ∧ (s.reqEnds c).mbox = s.mbox ∧ (s.reqEnds c).pnv = s.pnv ∧ (s.reqEnds c).nvm = s.nvm ∧ (s.reqEnds c).srm = s.srm ∧ (s.reqEnds c).dbg = s.dbg ∧ (s.reqEnds c).i3c = s.i3c ∧ (s.reqEnds c).drawn = s.drawn := by
  have f1 := @State.onLink_frame
  simp [State.reqEnds, f1]
theorem State.sendData_frame (s : State) (tag : Nat) (poison : Bool) (d : Line) (c : Nat) : (s.sendData tag poison d c).pending = s.pending ∧ (s.sendData tag poison d c).variant = s.variant ∧ (s.sendData tag poison d c).applied = s.applied ∧ (s.sendData tag poison d c).latches = s.latches ∧ (s.sendData tag poison d c).commits = s.commits ∧ (s.sendData tag poison d c).resetting = s.resetting ∧ (s.sendData tag poison d c).dev = s.dev ∧ (s.sendData tag poison d c).pwr = s.pwr ∧ (s.sendData tag poison d c).hk = s.hk ∧ (s.sendData tag poison d c).clk = s.clk ∧ (s.sendData tag poison d c).gang0 = s.gang0 ∧ (s.sendData tag poison d c).gang1 = s.gang1 ∧ (s.sendData tag poison d c).med = s.med ∧ (s.sendData tag poison d c).roms = s.roms ∧ (s.sendData tag poison d c).prot = s.prot ∧ (s.sendData tag poison d c).drift = s.drift ∧ (s.sendData tag poison d c).zl0 = s.zl0 ∧ (s.sendData tag poison d c).zl1 = s.zl1 ∧ (s.sendData tag poison d c).mbox = s.mbox ∧ (s.sendData tag poison d c).nvm = s.nvm ∧ (s.sendData tag poison d c).srm = s.srm ∧ (s.sendData tag poison d c).dbg = s.dbg ∧ (s.sendData tag poison d c).i3c = s.i3c ∧ (s.sendData tag poison d c).drawn = s.drawn := by
  have f1 := @State.moved_frame; have f2 := @State.reqEnds_frame; have f3 := @State.respond_frame
  simp [State.sendData, f1, f2, f3]
theorem State.violation_frame (s : State) (code : Nat) : (s.violation code).pending = s.pending ∧ (s.violation code).variant = s.variant ∧ (s.violation code).applied = s.applied ∧ (s.violation code).latches = s.latches ∧ (s.violation code).commits = s.commits ∧ (s.violation code).resetting = s.resetting ∧ (s.violation code).dev = s.dev ∧ (s.violation code).pwr = s.pwr ∧ (s.violation code).hk = s.hk ∧ (s.violation code).clk = s.clk ∧ (s.violation code).bw = s.bw ∧ (s.violation code).gang0 = s.gang0 ∧ (s.violation code).gang1 = s.gang1 ∧ (s.violation code).med = s.med ∧ (s.violation code).roms = s.roms ∧ (s.violation code).xlt = s.xlt ∧ (s.violation code).prot = s.prot ∧ (s.violation code).caches = s.caches ∧ (s.violation code).dram = s.dram ∧ (s.violation code).link = s.link ∧ (s.violation code).reads = s.reads ∧ (s.violation code).drift = s.drift ∧ (s.violation code).zl0 = s.zl0 ∧ (s.violation code).zl1 = s.zl1 ∧ (s.violation code).pmc = s.pmc ∧ (s.violation code).ring = s.ring ∧ (s.violation code).mbox = s.mbox ∧ (s.violation code).pnv = s.pnv ∧ (s.violation code).nvm = s.nvm ∧ (s.violation code).srm = s.srm ∧ (s.violation code).dbg = s.dbg ∧ (s.violation code).i3c = s.i3c ∧ (s.violation code).drawn = s.drawn := by
  have f1 := @State.bumpSat_frame; have f2 := @State.raiseRec_frame; have f3 := @State.setFld_frame
  simp [State.violation, f1, f2, f3]
theorem State.violationLogged_frame (s : State) (code : Nat) : (s.violationLogged code).pending = s.pending ∧ (s.violationLogged code).variant = s.variant ∧ (s.violationLogged code).applied = s.applied ∧ (s.violationLogged code).latches = s.latches ∧ (s.violationLogged code).commits = s.commits ∧ (s.violationLogged code).resetting = s.resetting ∧ (s.violationLogged code).dev = s.dev ∧ (s.violationLogged code).pwr = s.pwr ∧ (s.violationLogged code).hk = s.hk ∧ (s.violationLogged code).clk = s.clk ∧ (s.violationLogged code).bw = s.bw ∧ (s.violationLogged code).gang0 = s.gang0 ∧ (s.violationLogged code).gang1 = s.gang1 ∧ (s.violationLogged code).med = s.med ∧ (s.violationLogged code).roms = s.roms ∧ (s.violationLogged code).xlt = s.xlt ∧ (s.violationLogged code).prot = s.prot ∧ (s.violationLogged code).caches = s.caches ∧ (s.violationLogged code).dram = s.dram ∧ (s.violationLogged code).reads = s.reads ∧ (s.violationLogged code).drift = s.drift ∧ (s.violationLogged code).zl0 = s.zl0 ∧ (s.violationLogged code).zl1 = s.zl1 ∧ (s.violationLogged code).pmc = s.pmc ∧ (s.violationLogged code).ring = s.ring ∧ (s.violationLogged code).mbox = s.mbox ∧ (s.violationLogged code).pnv = s.pnv ∧ (s.violationLogged code).nvm = s.nvm ∧ (s.violationLogged code).srm = s.srm ∧ (s.violationLogged code).dbg = s.dbg ∧ (s.violationLogged code).i3c = s.i3c ∧ (s.violationLogged code).drawn = s.drawn := by
  have f1 := @State.onLink_frame; have f2 := @State.violation_frame
  simp [State.violationLogged, f1, f2]
theorem State.overrun_frame (s : State) : (s.overrun).pending = s.pending ∧ (s.overrun).variant = s.variant ∧ (s.overrun).applied = s.applied ∧ (s.overrun).latches = s.latches ∧ (s.overrun).commits = s.commits ∧ (s.overrun).resetting = s.resetting ∧ (s.overrun).dev = s.dev ∧ (s.overrun).pwr = s.pwr ∧ (s.overrun).hk = s.hk ∧ (s.overrun).clk = s.clk ∧ (s.overrun).bw = s.bw ∧ (s.overrun).gang0 = s.gang0 ∧ (s.overrun).gang1 = s.gang1 ∧ (s.overrun).med = s.med ∧ (s.overrun).roms = s.roms ∧ (s.overrun).xlt = s.xlt ∧ (s.overrun).prot = s.prot ∧ (s.overrun).caches = s.caches ∧ (s.overrun).dram = s.dram ∧ (s.overrun).reads = s.reads ∧ (s.overrun).drift = s.drift ∧ (s.overrun).zl0 = s.zl0 ∧ (s.overrun).zl1 = s.zl1 ∧ (s.overrun).pmc = s.pmc ∧ (s.overrun).ring = s.ring ∧ (s.overrun).mbox = s.mbox ∧ (s.overrun).pnv = s.pnv ∧ (s.overrun).nvm = s.nvm ∧ (s.overrun).srm = s.srm ∧ (s.overrun).dbg = s.dbg ∧ (s.overrun).i3c = s.i3c ∧ (s.overrun).drawn = s.drawn := by
  have f1 := @State.violationLogged_frame
  simp [State.overrun, f1]
theorem State.sendInv_frame (s : State) (tag : Nat) (c : Nat) : (s.sendInv tag c).pending = s.pending ∧ (s.sendInv tag c).variant = s.variant ∧ (s.sendInv tag c).applied = s.applied ∧ (s.sendInv tag c).latches = s.latches ∧ (s.sendInv tag c).commits = s.commits ∧ (s.sendInv tag c).resetting = s.resetting ∧ (s.sendInv tag c).dev = s.dev ∧ (s.sendInv tag c).pwr = s.pwr ∧ (s.sendInv tag c).hk = s.hk ∧ (s.sendInv tag c).clk = s.clk ∧ (s.sendInv tag c).bw = s.bw ∧ (s.sendInv tag c).gang0 = s.gang0 ∧ (s.sendInv tag c).gang1 = s.gang1 ∧ (s.sendInv tag c).med = s.med ∧ (s.sendInv tag c).roms = s.roms ∧ (s.sendInv tag c).xlt = s.xlt ∧ (s.sendInv tag c).prot = s.prot ∧ (s.sendInv tag c).caches = s.caches ∧ (s.sendInv tag c).dram = s.dram ∧ (s.sendInv tag c).reads = s.reads ∧ (s.sendInv tag c).drift = s.drift ∧ (s.sendInv tag c).zl0 = s.zl0 ∧ (s.sendInv tag c).zl1 = s.zl1 ∧ (s.sendInv tag c).pmc = s.pmc ∧ (s.sendInv tag c).ring = s.ring ∧ (s.sendInv tag c).mbox = s.mbox ∧ (s.sendInv tag c).pnv = s.pnv ∧ (s.sendInv tag c).nvm = s.nvm ∧ (s.sendInv tag c).srm = s.srm ∧ (s.sendInv tag c).dbg = s.dbg ∧ (s.sendInv tag c).i3c = s.i3c ∧ (s.sendInv tag c).drawn = s.drawn := by
  have f1 := @State.reqEnds_frame; have f2 := @State.sendCmp_frame
  simp [State.sendInv, f1, f2]
theorem State.memInv_frame (s : State) (hpa : Nat) (tag : Nat) : (s.memInv hpa tag).pending = s.pending ∧ (s.memInv hpa tag).variant = s.variant ∧ (s.memInv hpa tag).applied = s.applied ∧ (s.memInv hpa tag).latches = s.latches ∧ (s.memInv hpa tag).commits = s.commits ∧ (s.memInv hpa tag).resetting = s.resetting ∧ (s.memInv hpa tag).dev = s.dev ∧ (s.memInv hpa tag).pwr = s.pwr ∧ (s.memInv hpa tag).hk = s.hk ∧ (s.memInv hpa tag).clk = s.clk ∧ (s.memInv hpa tag).bw = s.bw ∧ (s.memInv hpa tag).gang0 = s.gang0 ∧ (s.memInv hpa tag).gang1 = s.gang1 ∧ (s.memInv hpa tag).med = s.med ∧ (s.memInv hpa tag).roms = s.roms ∧ (s.memInv hpa tag).xlt = s.xlt ∧ (s.memInv hpa tag).prot = s.prot ∧ (s.memInv hpa tag).caches = s.caches ∧ (s.memInv hpa tag).dram = s.dram ∧ (s.memInv hpa tag).reads = s.reads ∧ (s.memInv hpa tag).drift = s.drift ∧ (s.memInv hpa tag).zl0 = s.zl0 ∧ (s.memInv hpa tag).zl1 = s.zl1 ∧ (s.memInv hpa tag).pmc = s.pmc ∧ (s.memInv hpa tag).ring = s.ring ∧ (s.memInv hpa tag).mbox = s.mbox ∧ (s.memInv hpa tag).pnv = s.pnv ∧ (s.memInv hpa tag).nvm = s.nvm ∧ (s.memInv hpa tag).srm = s.srm ∧ (s.memInv hpa tag).dbg = s.dbg ∧ (s.memInv hpa tag).i3c = s.i3c ∧ (s.memInv hpa tag).drawn = s.drawn := by
  have f1 := @State.accept_frame; have f2 := @State.overrun_frame; have f3 := @State.sendInv_frame
  simp [State.memInv, f1, f2, f3]
theorem State.refuseHost_frame (s : State) (write : Bool) (cause : Nat) (dpa : Nat) (keyid : Nat) : (s.refuseHost write cause dpa keyid).pending = s.pending ∧ (s.refuseHost write cause dpa keyid).variant = s.variant ∧ (s.refuseHost write cause dpa keyid).applied = s.applied ∧ (s.refuseHost write cause dpa keyid).latches = s.latches ∧ (s.refuseHost write cause dpa keyid).commits = s.commits ∧ (s.refuseHost write cause dpa keyid).resetting = s.resetting ∧ (s.refuseHost write cause dpa keyid).pwr = s.pwr ∧ (s.refuseHost write cause dpa keyid).hk = s.hk ∧ (s.refuseHost write cause dpa keyid).clk = s.clk ∧ (s.refuseHost write cause dpa keyid).med = s.med ∧ (s.refuseHost write cause dpa keyid).roms = s.roms ∧ (s.refuseHost write cause dpa keyid).i3c = s.i3c := by
  have f1 := @State.bump_frame; have f2 := @State.ev_frame; have f3 := @State.raise_frame; have f4 := @State.refusedBy_frame; have f5 := @State.setFld_frame; have f6 := @State.setReg_frame; have f7 := @State.violation_frame
  simp [State.refuseHost, f1, f2, f3, f4, f5, f6, f7]
theorem State.takeRead_frame (s : State) (acc : Nat) (dpa : Nat) (keyid : Nat) (tag : Nat) (errs : List ArrErr) : (s.takeRead acc dpa keyid tag errs).pending = s.pending ∧ (s.takeRead acc dpa keyid tag errs).variant = s.variant ∧ (s.takeRead acc dpa keyid tag errs).applied = s.applied ∧ (s.takeRead acc dpa keyid tag errs).latches = s.latches ∧ (s.takeRead acc dpa keyid tag errs).commits = s.commits ∧ (s.takeRead acc dpa keyid tag errs).resetting = s.resetting ∧ (s.takeRead acc dpa keyid tag errs).pwr = s.pwr ∧ (s.takeRead acc dpa keyid tag errs).hk = s.hk ∧ (s.takeRead acc dpa keyid tag errs).clk = s.clk ∧ (s.takeRead acc dpa keyid tag errs).med = s.med ∧ (s.takeRead acc dpa keyid tag errs).roms = s.roms ∧ (s.takeRead acc dpa keyid tag errs).i3c = s.i3c := by
  have f1 := @State.addErrs_frame; have f2 := @State.addRead_frame; have f3 := @State.bump_frame; have f4 := @State.cartCmd_frame; have f5 := @State.ev_frame; have f6 := @State.fillHost_frame; have f7 := @State.lookIn_frame; have f8 := @State.lookSmall_frame; have f9 := @State.sendData_frame
  dsimp only [State.takeRead]; (repeat' split) <;> simp [f1, f2, f3, f4, f5, f6, f7, f8, f9]
theorem State.memRead_frame (s : State) (hpa : Nat) (tag : Nat) (errs : List ArrErr) : (s.memRead hpa tag errs).pending = s.pending ∧ (s.memRead hpa tag errs).variant = s.variant ∧ (s.memRead hpa tag errs).applied = s.applied ∧ (s.memRead hpa tag errs).latches = s.latches ∧ (s.memRead hpa tag errs).commits = s.commits ∧ (s.memRead hpa tag errs).resetting = s.resetting ∧ (s.memRead hpa tag errs).pwr = s.pwr ∧ (s.memRead hpa tag errs).hk = s.hk ∧ (s.memRead hpa tag errs).clk = s.clk ∧ (s.memRead hpa tag errs).med = s.med ∧ (s.memRead hpa tag errs).roms = s.roms ∧ (s.memRead hpa tag errs).i3c = s.i3c := by
  have f1 := @State.accept_frame; have f2 := @State.overrun_frame; have f3 := @State.refuseHost_frame; have f4 := @State.sendData_frame; have f5 := @State.takeRead_frame
  simp [State.memRead, f1, f2, f3, f4, f5]
theorem State.rwdTaken_frame (s : State) : (s.rwdTaken).pending = s.pending ∧ (s.rwdTaken).variant = s.variant ∧ (s.rwdTaken).applied = s.applied ∧ (s.rwdTaken).latches = s.latches ∧ (s.rwdTaken).commits = s.commits ∧ (s.rwdTaken).resetting = s.resetting ∧ (s.rwdTaken).dev = s.dev ∧ (s.rwdTaken).pwr = s.pwr ∧ (s.rwdTaken).hk = s.hk ∧ (s.rwdTaken).clk = s.clk ∧ (s.rwdTaken).gang0 = s.gang0 ∧ (s.rwdTaken).gang1 = s.gang1 ∧ (s.rwdTaken).med = s.med ∧ (s.rwdTaken).roms = s.roms ∧ (s.rwdTaken).prot = s.prot ∧ (s.rwdTaken).drift = s.drift ∧ (s.rwdTaken).zl0 = s.zl0 ∧ (s.rwdTaken).zl1 = s.zl1 ∧ (s.rwdTaken).mbox = s.mbox ∧ (s.rwdTaken).nvm = s.nvm ∧ (s.rwdTaken).srm = s.srm ∧ (s.rwdTaken).dbg = s.dbg ∧ (s.rwdTaken).i3c = s.i3c ∧ (s.rwdTaken).drawn = s.drawn := by
  have f1 := @State.onLink_frame
  simp [State.rwdTaken, f1]
theorem State.takeWrite_frame (s : State) (acc : Nat) (dpa : Nat) (keyid : Nat) (tag : Nat) (d : Line) (m : Mask) : (s.takeWrite acc dpa keyid tag d m).pending = s.pending ∧ (s.takeWrite acc dpa keyid tag d m).variant = s.variant ∧ (s.takeWrite acc dpa keyid tag d m).applied = s.applied ∧ (s.takeWrite acc dpa keyid tag d m).latches = s.latches ∧ (s.takeWrite acc dpa keyid tag d m).commits = s.commits ∧ (s.takeWrite acc dpa keyid tag d m).resetting = s.resetting ∧ (s.takeWrite acc dpa keyid tag d m).pwr = s.pwr ∧ (s.takeWrite acc dpa keyid tag d m).hk = s.hk ∧ (s.takeWrite acc dpa keyid tag d m).clk = s.clk ∧ (s.takeWrite acc dpa keyid tag d m).med = s.med ∧ (s.takeWrite acc dpa keyid tag d m).roms = s.roms ∧ (s.takeWrite acc dpa keyid tag d m).i3c = s.i3c := by
  have f1 := @State.ackWrite_frame; have f2 := @State.addRead_frame; have f3 := @State.bump_frame; have f4 := @State.ev_frame; have f5 := @State.joinGroup_frame; have f6 := @State.moved_frame; have f7 := @State.sendCmp_frame; have f8 := @State.storeLine_frame
  simp [State.takeWrite, f1, f2, f3, f4, f5, f6, f7, f8]
theorem State.memWrite_frame (s : State) (hpa : Nat) (tag : Nat) (d : Line) (m : Mask) (poison : Bool) : (s.memWrite hpa tag d m poison).pending = s.pending ∧ (s.memWrite hpa tag d m poison).variant = s.variant ∧ (s.memWrite hpa tag d m poison).applied = s.applied ∧ (s.memWrite hpa tag d m poison).latches = s.latches ∧ (s.memWrite hpa tag d m poison).commits = s.commits ∧ (s.memWrite hpa tag d m poison).resetting = s.resetting ∧ (s.memWrite hpa tag d m poison).pwr = s.pwr ∧ (s.memWrite hpa tag d m poison).hk = s.hk ∧ (s.memWrite hpa tag d m poison).clk = s.clk ∧ (s.memWrite hpa tag d m poison).med = s.med ∧ (s.memWrite hpa tag d m poison).roms = s.roms ∧ (s.memWrite hpa tag d m poison).i3c = s.i3c := by
  have f1 := @State.accept_frame; have f2 := @State.overrun_frame; have f3 := @State.refuseHost_frame; have f4 := @State.rwdTaken_frame; have f5 := @State.sendCmp_frame; have f6 := @State.takeLine_frame; have f7 := @State.takeWrite_frame
  simp [State.memWrite, f1, f2, f3, f4, f5, f6, f7]

end Sys2Proof.Machine
end

