-- ==== Sys2Proof/Laws/FrameLookup.lean ====
section
/-! SUPPORT. Frames of the operations of Machine/Lookup.lean: the fields of State that each leaves as they were. -/

set_option maxRecDepth 4000
set_option linter.unusedSimpArgs false

namespace Sys2Proof.Machine

theorem State.allocate_frame (s : State) (r : Rd) (d : Line) (c : Nat) : (s.allocate r d c).pending = s.pending ∧ (s.allocate r d c).variant = s.variant ∧ (s.allocate r d c).applied = s.applied ∧ (s.allocate r d c).latches = s.latches ∧ (s.allocate r d c).commits = s.commits ∧ (s.allocate r d c).resetting = s.resetting ∧ (s.allocate r d c).dev = s.dev ∧ (s.allocate r d c).pwr = s.pwr ∧ (s.allocate r d c).hk = s.hk ∧ (s.allocate r d c).clk = s.clk ∧ (s.allocate r d c).gang0 = s.gang0 ∧ (s.allocate r d c).gang1 = s.gang1 ∧ (s.allocate r d c).med = s.med ∧ (s.allocate r d c).roms = s.roms ∧ (s.allocate r d c).prot = s.prot ∧ (s.allocate r d c).drift = s.drift ∧ (s.allocate r d c).zl0 = s.zl0 ∧ (s.allocate r d c).zl1 = s.zl1 ∧ (s.allocate r d c).mbox = s.mbox ∧ (s.allocate r d c).nvm = s.nvm ∧ (s.allocate r d c).srm = s.srm ∧ (s.allocate r d c).dbg = s.dbg ∧ (s.allocate r d c).i3c = s.i3c ∧ (s.allocate r d c).drawn = s.drawn := by
  have f1 := @State.sendFill_frame
  simp [State.allocate, f1]
theorem State.setRd_frame (s : State) (x : Rd) : (s.setRd x).pending = s.pending ∧ (s.setRd x).variant = s.variant ∧ (s.setRd x).applied = s.applied ∧ (s.setRd x).latches = s.latches ∧ (s.setRd x).commits = s.commits ∧ (s.setRd x).resetting = s.resetting ∧ (s.setRd x).dev = s.dev ∧ (s.setRd x).pwr = s.pwr ∧ (s.setRd x).hk = s.hk ∧ (s.setRd x).clk = s.clk ∧ (s.setRd x).bw = s.bw ∧ (s.setRd x).gang0 = s.gang0 ∧ (s.setRd x).gang1 = s.gang1 ∧ (s.setRd x).med = s.med ∧ (s.setRd x).roms = s.roms ∧ (s.setRd x).xlt = s.xlt ∧ (s.setRd x).tally = s.tally ∧ (s.setRd x).prot = s.prot ∧ (s.setRd x).caches = s.caches ∧ (s.setRd x).dram = s.dram ∧ (s.setRd x).link = s.link ∧ (s.setRd x).drift = s.drift ∧ (s.setRd x).zl0 = s.zl0 ∧ (s.setRd x).zl1 = s.zl1 ∧ (s.setRd x).ring = s.ring ∧ (s.setRd x).strm = s.strm ∧ (s.setRd x).mbox = s.mbox ∧ (s.setRd x).pnv = s.pnv ∧ (s.setRd x).nvm = s.nvm ∧ (s.setRd x).srm = s.srm ∧ (s.setRd x).dbg = s.dbg ∧ (s.setRd x).i3c = s.i3c ∧ (s.setRd x).drawn = s.drawn := by
  have f1 := @State.onReads_frame
  simp [State.setRd, f1]
theorem State.endRd_frame (s : State) (id : Nat) : (s.endRd id).pending = s.pending ∧ (s.endRd id).variant = s.variant ∧ (s.endRd id).applied = s.applied ∧ (s.endRd id).latches = s.latches ∧ (s.endRd id).commits = s.commits ∧ (s.endRd id).resetting = s.resetting ∧ (s.endRd id).dev = s.dev ∧ (s.endRd id).pwr = s.pwr ∧ (s.endRd id).hk = s.hk ∧ (s.endRd id).clk = s.clk ∧ (s.endRd id).gang0 = s.gang0 ∧ (s.endRd id).gang1 = s.gang1 ∧ (s.endRd id).med = s.med ∧ (s.endRd id).roms = s.roms ∧ (s.endRd id).prot = s.prot ∧ (s.endRd id).drift = s.drift ∧ (s.endRd id).zl0 = s.zl0 ∧ (s.endRd id).zl1 = s.zl1 ∧ (s.endRd id).mbox = s.mbox ∧ (s.endRd id).nvm = s.nvm ∧ (s.endRd id).srm = s.srm ∧ (s.endRd id).dbg = s.dbg ∧ (s.endRd id).i3c = s.i3c ∧ (s.endRd id).drawn = s.drawn := by
  have f1 := @State.onReads_frame
  simp [State.endRd, f1]
theorem State.strictFail_frame (s : State) (r : Rd) : (s.strictFail r).pending = s.pending ∧ (s.strictFail r).variant = s.variant ∧ (s.strictFail r).applied = s.applied ∧ (s.strictFail r).latches = s.latches ∧ (s.strictFail r).commits = s.commits ∧ (s.strictFail r).resetting = s.resetting ∧ (s.strictFail r).dev = s.dev ∧ (s.strictFail r).pwr = s.pwr ∧ (s.strictFail r).hk = s.hk ∧ (s.strictFail r).clk = s.clk ∧ (s.strictFail r).gang0 = s.gang0 ∧ (s.strictFail r).gang1 = s.gang1 ∧ (s.strictFail r).med = s.med ∧ (s.strictFail r).roms = s.roms ∧ (s.strictFail r).prot = s.prot ∧ (s.strictFail r).drift = s.drift ∧ (s.strictFail r).zl0 = s.zl0 ∧ (s.strictFail r).zl1 = s.zl1 ∧ (s.strictFail r).mbox = s.mbox ∧ (s.strictFail r).nvm = s.nvm ∧ (s.strictFail r).srm = s.srm ∧ (s.strictFail r).dbg = s.dbg ∧ (s.strictFail r).i3c = s.i3c ∧ (s.strictFail r).drawn = s.drawn := by
  have f1 := @State.bump_frame; have f2 := @State.raise_frame; have f3 := @State.setFld_frame; have f4 := @State.setReg_frame
  simp [State.strictFail, f1, f2, f3, f4]
theorem State.deliver_frame (s : State) (r : Rd) (outs : List (Nat × SecOut)) (alloc : Bool) (c : Nat) : (s.deliver r outs alloc c).pending = s.pending ∧ (s.deliver r outs alloc c).variant = s.variant ∧ (s.deliver r outs alloc c).applied = s.applied ∧ (s.deliver r outs alloc c).latches = s.latches ∧ (s.deliver r outs alloc c).commits = s.commits ∧ (s.deliver r outs alloc c).resetting = s.resetting ∧ (s.deliver r outs alloc c).dev = s.dev ∧ (s.deliver r outs alloc c).pwr = s.pwr ∧ (s.deliver r outs alloc c).hk = s.hk ∧ (s.deliver r outs alloc c).clk = s.clk ∧ (s.deliver r outs alloc c).gang0 = s.gang0 ∧ (s.deliver r outs alloc c).gang1 = s.gang1 ∧ (s.deliver r outs alloc c).med = s.med ∧ (s.deliver r outs alloc c).roms = s.roms ∧ (s.deliver r outs alloc c).prot = s.prot ∧ (s.deliver r outs alloc c).drift = s.drift ∧ (s.deliver r outs alloc c).zl0 = s.zl0 ∧ (s.deliver r outs alloc c).zl1 = s.zl1 ∧ (s.deliver r outs alloc c).mbox = s.mbox ∧ (s.deliver r outs alloc c).nvm = s.nvm ∧ (s.deliver r outs alloc c).srm = s.srm ∧ (s.deliver r outs alloc c).dbg = s.dbg ∧ (s.deliver r outs alloc c).i3c = s.i3c ∧ (s.deliver r outs alloc c).drawn = s.drawn := by
  have f1 := @State.ackWrite_frame; have f2 := @State.allocate_frame; have f3 := @State.endRd_frame; have f4 := @State.sendCmp_frame; have f5 := @State.sendData_frame; have f6 := @State.setRd_frame; have f7 := @State.storeLine_frame; have f8 := @State.strictFail_frame
  unfold State.deliver
  dsimp only
  generalize (Option.getD _ _) = o
  cases r.who <;> cases o <;> dsimp only <;> (repeat' split) <;> simp [f1, f2, f3, f4, f5, f6, f7, f8]
theorem State.lookup_frame (s : State) (r : Rd) (rows : List (Nat × Nat × Nat × Nat)) : (s.lookup r rows).pending = s.pending ∧ (s.lookup r rows).variant = s.variant ∧ (s.lookup r rows).applied = s.applied ∧ (s.lookup r rows).latches = s.latches ∧ (s.lookup r rows).commits = s.commits ∧ (s.lookup r rows).resetting = s.resetting ∧ (s.lookup r rows).dev = s.dev ∧ (s.lookup r rows).pwr = s.pwr ∧ (s.lookup r rows).hk = s.hk ∧ (s.lookup r rows).clk = s.clk ∧ (s.lookup r rows).gang0 = s.gang0 ∧ (s.lookup r rows).gang1 = s.gang1 ∧ (s.lookup r rows).med = s.med ∧ (s.lookup r rows).roms = s.roms ∧ (s.lookup r rows).prot = s.prot ∧ (s.lookup r rows).drift = s.drift ∧ (s.lookup r rows).zl0 = s.zl0 ∧ (s.lookup r rows).zl1 = s.zl1 ∧ (s.lookup r rows).mbox = s.mbox ∧ (s.lookup r rows).nvm = s.nvm ∧ (s.lookup r rows).srm = s.srm ∧ (s.lookup r rows).dbg = s.dbg ∧ (s.lookup r rows).i3c = s.i3c ∧ (s.lookup r rows).drawn = s.drawn := by
  have f1 := @State.activate_frame; have f2 := @State.bump_frame; have f3 := @State.ev_frame
  simp [State.lookup, f1, f2, f3]
theorem State.lookupCe_frame (s : State) (r : Rd) (sc : LineErr) (map : LineErr) : (s.lookupCe r sc map).pending = s.pending ∧ (s.lookupCe r sc map).variant = s.variant ∧ (s.lookupCe r sc map).applied = s.applied ∧ (s.lookupCe r sc map).latches = s.latches ∧ (s.lookupCe r sc map).commits = s.commits ∧ (s.lookupCe r sc map).resetting = s.resetting ∧ (s.lookupCe r sc map).dev = s.dev ∧ (s.lookupCe r sc map).pwr = s.pwr ∧ (s.lookupCe r sc map).hk = s.hk ∧ (s.lookupCe r sc map).clk = s.clk ∧ (s.lookupCe r sc map).gang0 = s.gang0 ∧ (s.lookupCe r sc map).gang1 = s.gang1 ∧ (s.lookupCe r sc map).med = s.med ∧ (s.lookupCe r sc map).roms = s.roms ∧ (s.lookupCe r sc map).prot = s.prot ∧ (s.lookupCe r sc map).drift = s.drift ∧ (s.lookupCe r sc map).zl0 = s.zl0 ∧ (s.lookupCe r sc map).zl1 = s.zl1 ∧ (s.lookupCe r sc map).mbox = s.mbox ∧ (s.lookupCe r sc map).nvm = s.nvm ∧ (s.lookupCe r sc map).srm = s.srm ∧ (s.lookupCe r sc map).dbg = s.dbg ∧ (s.lookupCe r sc map).i3c = s.i3c ∧ (s.lookupCe r sc map).drawn = s.drawn := by
  have f1 := @State.dramCe_frame
  simp [State.lookupCe, f1]
theorem State.mapLasting_frame (s : State) (r : Rd) (otherBad : Bool) : (s.mapLasting r otherBad).pending = s.pending ∧ (s.mapLasting r otherBad).variant = s.variant ∧ (s.mapLasting r otherBad).applied = s.applied ∧ (s.mapLasting r otherBad).latches = s.latches ∧ (s.mapLasting r otherBad).commits = s.commits ∧ (s.mapLasting r otherBad).resetting = s.resetting ∧ (s.mapLasting r otherBad).dev = s.dev ∧ (s.mapLasting r otherBad).pwr = s.pwr ∧ (s.mapLasting r otherBad).hk = s.hk ∧ (s.mapLasting r otherBad).clk = s.clk ∧ (s.mapLasting r otherBad).gang0 = s.gang0 ∧ (s.mapLasting r otherBad).gang1 = s.gang1 ∧ (s.mapLasting r otherBad).med = s.med ∧ (s.mapLasting r otherBad).roms = s.roms ∧ (s.mapLasting r otherBad).prot = s.prot ∧ (s.mapLasting r otherBad).drift = s.drift ∧ (s.mapLasting r otherBad).zl0 = s.zl0 ∧ (s.mapLasting r otherBad).zl1 = s.zl1 ∧ (s.mapLasting r otherBad).mbox = s.mbox ∧ (s.mapLasting r otherBad).nvm = s.nvm ∧ (s.mapLasting r otherBad).srm = s.srm ∧ (s.mapLasting r otherBad).dbg = s.dbg ∧ (s.mapLasting r otherBad).i3c = s.i3c ∧ (s.mapLasting r otherBad).drawn = s.drawn := by
  have f1 := @State.onDram_frame; have f2 := @State.ubPush_frame
  simp [State.mapLasting, f1, f2]
theorem State.mapPath_frame (s : State) (r : Rd) (poison : Bool) : (s.mapPath r poison).pending = s.pending ∧ (s.mapPath r poison).variant = s.variant ∧ (s.mapPath r poison).applied = s.applied ∧ (s.mapPath r poison).latches = s.latches ∧ (s.mapPath r poison).commits = s.commits ∧ (s.mapPath r poison).resetting = s.resetting ∧ (s.mapPath r poison).dev = s.dev ∧ (s.mapPath r poison).pwr = s.pwr ∧ (s.mapPath r poison).hk = s.hk ∧ (s.mapPath r poison).clk = s.clk ∧ (s.mapPath r poison).gang0 = s.gang0 ∧ (s.mapPath r poison).gang1 = s.gang1 ∧ (s.mapPath r poison).med = s.med ∧ (s.mapPath r poison).roms = s.roms ∧ (s.mapPath r poison).prot = s.prot ∧ (s.mapPath r poison).drift = s.drift ∧ (s.mapPath r poison).zl0 = s.zl0 ∧ (s.mapPath r poison).zl1 = s.zl1 ∧ (s.mapPath r poison).mbox = s.mbox ∧ (s.mapPath r poison).nvm = s.nvm ∧ (s.mapPath r poison).srm = s.srm ∧ (s.mapPath r poison).dbg = s.dbg ∧ (s.mapPath r poison).i3c = s.i3c ∧ (s.mapPath r poison).drawn = s.drawn := by
  have f1 := @State.deliver_frame; have f2 := @State.setRd_frame
  dsimp only [State.mapPath]; (repeat' split) <;> simp [f1, f2]
theorem State.resolve_frame (s : State) (r0 : Rd) (miss : Bool) (poison : Bool) : (s.resolve r0 miss poison).pending = s.pending ∧ (s.resolve r0 miss poison).variant = s.variant ∧ (s.resolve r0 miss poison).applied = s.applied ∧ (s.resolve r0 miss poison).latches = s.latches ∧ (s.resolve r0 miss poison).commits = s.commits ∧ (s.resolve r0 miss poison).resetting = s.resetting ∧ (s.resolve r0 miss poison).dev = s.dev ∧ (s.resolve r0 miss poison).pwr = s.pwr ∧ (s.resolve r0 miss poison).hk = s.hk ∧ (s.resolve r0 miss poison).clk = s.clk ∧ (s.resolve r0 miss poison).gang0 = s.gang0 ∧ (s.resolve r0 miss poison).gang1 = s.gang1 ∧ (s.resolve r0 miss poison).med = s.med ∧ (s.resolve r0 miss poison).roms = s.roms ∧ (s.resolve r0 miss poison).prot = s.prot ∧ (s.resolve r0 miss poison).drift = s.drift ∧ (s.resolve r0 miss poison).zl0 = s.zl0 ∧ (s.resolve r0 miss poison).zl1 = s.zl1 ∧ (s.resolve r0 miss poison).mbox = s.mbox ∧ (s.resolve r0 miss poison).nvm = s.nvm ∧ (s.resolve r0 miss poison).srm = s.srm ∧ (s.resolve r0 miss poison).dbg = s.dbg ∧ (s.resolve r0 miss poison).i3c = s.i3c ∧ (s.resolve r0 miss poison).drawn = s.drawn := by
  have f1 := @State.deliver_frame; have f2 := @State.ev_frame; have f3 := @State.mapPath_frame
  dsimp only [State.resolve]; (repeat' split) <;> simp [f1, f2, f3]
theorem State.scLasting_frame (s : State) (r : Rd) (otherBad : Bool) : (s.scLasting r otherBad).pending = s.pending ∧ (s.scLasting r otherBad).variant = s.variant ∧ (s.scLasting r otherBad).applied = s.applied ∧ (s.scLasting r otherBad).latches = s.latches ∧ (s.scLasting r otherBad).commits = s.commits ∧ (s.scLasting r otherBad).resetting = s.resetting ∧ (s.scLasting r otherBad).dev = s.dev ∧ (s.scLasting r otherBad).pwr = s.pwr ∧ (s.scLasting r otherBad).hk = s.hk ∧ (s.scLasting r otherBad).clk = s.clk ∧ (s.scLasting r otherBad).gang0 = s.gang0 ∧ (s.scLasting r otherBad).gang1 = s.gang1 ∧ (s.scLasting r otherBad).med = s.med ∧ (s.scLasting r otherBad).roms = s.roms ∧ (s.scLasting r otherBad).prot = s.prot ∧ (s.scLasting r otherBad).drift = s.drift ∧ (s.scLasting r otherBad).zl0 = s.zl0 ∧ (s.scLasting r otherBad).zl1 = s.zl1 ∧ (s.scLasting r otherBad).mbox = s.mbox ∧ (s.scLasting r otherBad).nvm = s.nvm ∧ (s.scLasting r otherBad).srm = s.srm ∧ (s.scLasting r otherBad).dbg = s.dbg ∧ (s.scLasting r otherBad).i3c = s.i3c ∧ (s.scLasting r otherBad).drawn = s.drawn := by
  have f1 := @State.onDram_frame; have f2 := @State.ubPush_frame
  simp [State.scLasting, f1, f2]

end Sys2Proof.Machine
end

