-- ==== Sys2Proof/Laws/FramePens.lean ====
section
/-! SUPPORT. Frames of the operations of Machine/Pens.lean: the fields of State that each leaves as they were. -/

set_option maxRecDepth 4000
set_option linter.unusedSimpArgs false

namespace Sys2Proof.Machine

theorem State.onStrm_frame (s : State) (f : Strm → Strm) : (s.onStrm f).pending = s.pending ∧ (s.onStrm f).variant = s.variant ∧ (s.onStrm f).applied = s.applied ∧ (s.onStrm f).latches = s.latches ∧ (s.onStrm f).commits = s.commits ∧ (s.onStrm f).resetting = s.resetting ∧ (s.onStrm f).dev = s.dev ∧ (s.onStrm f).pwr = s.pwr ∧ (s.onStrm f).hk = s.hk ∧ (s.onStrm f).clk = s.clk ∧ (s.onStrm f).bw = s.bw ∧ (s.onStrm f).gang0 = s.gang0 ∧ (s.onStrm f).gang1 = s.gang1 ∧ (s.onStrm f).med = s.med ∧ (s.onStrm f).roms = s.roms ∧ (s.onStrm f).xlt = s.xlt ∧ (s.onStrm f).prot = s.prot ∧ (s.onStrm f).caches = s.caches ∧ (s.onStrm f).dram = s.dram ∧ (s.onStrm f).link = s.link ∧ (s.onStrm f).reads = s.reads ∧ (s.onStrm f).drift = s.drift ∧ (s.onStrm f).zl0 = s.zl0 ∧ (s.onStrm f).zl1 = s.zl1 ∧ (s.onStrm f).pmc = s.pmc ∧ (s.onStrm f).ring = s.ring ∧ (s.onStrm f).mbox = s.mbox ∧ (s.onStrm f).pnv = s.pnv ∧ (s.onStrm f).nvm = s.nvm ∧ (s.onStrm f).srm = s.srm ∧ (s.onStrm f).dbg = s.dbg ∧ (s.onStrm f).i3c = s.i3c ∧ (s.onStrm f).drawn = s.drawn := by
  simp [State.onStrm]
theorem State.freeCell_frame (s : State) (p : Nat) : (s.freeCell p).pending = s.pending ∧ (s.freeCell p).variant = s.variant ∧ (s.freeCell p).applied = s.applied ∧ (s.freeCell p).latches = s.latches ∧ (s.freeCell p).commits = s.commits ∧ (s.freeCell p).resetting = s.resetting ∧ (s.freeCell p).dev = s.dev ∧ (s.freeCell p).pwr = s.pwr ∧ (s.freeCell p).hk = s.hk ∧ (s.freeCell p).clk = s.clk ∧ (s.freeCell p).bw = s.bw ∧ (s.freeCell p).gang0 = s.gang0 ∧ (s.freeCell p).gang1 = s.gang1 ∧ (s.freeCell p).med = s.med ∧ (s.freeCell p).roms = s.roms ∧ (s.freeCell p).xlt = s.xlt ∧ (s.freeCell p).prot = s.prot ∧ (s.freeCell p).caches = s.caches ∧ (s.freeCell p).dram = s.dram ∧ (s.freeCell p).link = s.link ∧ (s.freeCell p).reads = s.reads ∧ (s.freeCell p).drift = s.drift ∧ (s.freeCell p).zl0 = s.zl0 ∧ (s.freeCell p).zl1 = s.zl1 ∧ (s.freeCell p).pmc = s.pmc ∧ (s.freeCell p).ring = s.ring ∧ (s.freeCell p).mbox = s.mbox ∧ (s.freeCell p).pnv = s.pnv ∧ (s.freeCell p).nvm = s.nvm ∧ (s.freeCell p).srm = s.srm ∧ (s.freeCell p).dbg = s.dbg ∧ (s.freeCell p).i3c = s.i3c ∧ (s.freeCell p).drawn = s.drawn := by
  have f1 := @State.setFld_frame
  simp [State.freeCell, f1]
theorem State.setPenSlot_frame (s : State) (p : Nat) (k : Nat) (x : Option PenSlot) : (s.setPenSlot p k x).pending = s.pending ∧ (s.setPenSlot p k x).variant = s.variant ∧ (s.setPenSlot p k x).applied = s.applied ∧ (s.setPenSlot p k x).latches = s.latches ∧ (s.setPenSlot p k x).commits = s.commits ∧ (s.setPenSlot p k x).resetting = s.resetting ∧ (s.setPenSlot p k x).dev = s.dev ∧ (s.setPenSlot p k x).pwr = s.pwr ∧ (s.setPenSlot p k x).hk = s.hk ∧ (s.setPenSlot p k x).clk = s.clk ∧ (s.setPenSlot p k x).bw = s.bw ∧ (s.setPenSlot p k x).gang0 = s.gang0 ∧ (s.setPenSlot p k x).gang1 = s.gang1 ∧ (s.setPenSlot p k x).med = s.med ∧ (s.setPenSlot p k x).roms = s.roms ∧ (s.setPenSlot p k x).xlt = s.xlt ∧ (s.setPenSlot p k x).prot = s.prot ∧ (s.setPenSlot p k x).caches = s.caches ∧ (s.setPenSlot p k x).dram = s.dram ∧ (s.setPenSlot p k x).link = s.link ∧ (s.setPenSlot p k x).reads = s.reads ∧ (s.setPenSlot p k x).drift = s.drift ∧ (s.setPenSlot p k x).zl0 = s.zl0 ∧ (s.setPenSlot p k x).zl1 = s.zl1 ∧ (s.setPenSlot p k x).pmc = s.pmc ∧ (s.setPenSlot p k x).ring = s.ring ∧ (s.setPenSlot p k x).mbox = s.mbox ∧ (s.setPenSlot p k x).pnv = s.pnv ∧ (s.setPenSlot p k x).nvm = s.nvm ∧ (s.setPenSlot p k x).srm = s.srm ∧ (s.setPenSlot p k x).dbg = s.dbg ∧ (s.setPenSlot p k x).i3c = s.i3c ∧ (s.setPenSlot p k x).drawn = s.drawn := by
  have f1 := @State.onStrm_frame
  simp [State.setPenSlot, f1]
theorem State.rewind_frame (s : State) (p : Nat) (k : Nat) (cause : Nat) : (s.rewind p k cause).pending = s.pending ∧ (s.rewind p k cause).variant = s.variant ∧ (s.rewind p k cause).applied = s.applied ∧ (s.rewind p k cause).latches = s.latches ∧ (s.rewind p k cause).commits = s.commits ∧ (s.rewind p k cause).resetting = s.resetting ∧ (s.rewind p k cause).dev = s.dev ∧ (s.rewind p k cause).pwr = s.pwr ∧ (s.rewind p k cause).hk = s.hk ∧ (s.rewind p k cause).clk = s.clk ∧ (s.rewind p k cause).bw = s.bw ∧ (s.rewind p k cause).gang0 = s.gang0 ∧ (s.rewind p k cause).gang1 = s.gang1 ∧ (s.rewind p k cause).med = s.med ∧ (s.rewind p k cause).roms = s.roms ∧ (s.rewind p k cause).xlt = s.xlt ∧ (s.rewind p k cause).prot = s.prot ∧ (s.rewind p k cause).caches = s.caches ∧ (s.rewind p k cause).dram = s.dram ∧ (s.rewind p k cause).link = s.link ∧ (s.rewind p k cause).reads = s.reads ∧ (s.rewind p k cause).drift = s.drift ∧ (s.rewind p k cause).zl0 = s.zl0 ∧ (s.rewind p k cause).zl1 = s.zl1 ∧ (s.rewind p k cause).pmc = s.pmc ∧ (s.rewind p k cause).ring = s.ring ∧ (s.rewind p k cause).mbox = s.mbox ∧ (s.rewind p k cause).pnv = s.pnv ∧ (s.rewind p k cause).nvm = s.nvm ∧ (s.rewind p k cause).srm = s.srm ∧ (s.rewind p k cause).dbg = s.dbg ∧ (s.rewind p k cause).i3c = s.i3c ∧ (s.rewind p k cause).drawn = s.drawn := by
  have f1 := @State.bump_frame; have f2 := @State.freeCell_frame; have f3 := @State.raise_frame; have f4 := @State.setPenSlot_frame; have f5 := @State.setReg_frame
  dsimp only [State.rewind]; (repeat' split) <;> simp [f1, f2, f3, f4, f5]
theorem State.sendWrites_frame (s : State) (l : List Output) (n : Nat) : (s.sendWrites l n).pending = s.pending ∧ (s.sendWrites l n).variant = s.variant ∧ (s.sendWrites l n).applied = s.applied ∧ (s.sendWrites l n).latches = s.latches ∧ (s.sendWrites l n).commits = s.commits ∧ (s.sendWrites l n).resetting = s.resetting ∧ (s.sendWrites l n).dev = s.dev ∧ (s.sendWrites l n).pwr = s.pwr ∧ (s.sendWrites l n).hk = s.hk ∧ (s.sendWrites l n).clk = s.clk ∧ (s.sendWrites l n).gang0 = s.gang0 ∧ (s.sendWrites l n).gang1 = s.gang1 ∧ (s.sendWrites l n).med = s.med ∧ (s.sendWrites l n).roms = s.roms ∧ (s.sendWrites l n).prot = s.prot ∧ (s.sendWrites l n).drift = s.drift ∧ (s.sendWrites l n).zl0 = s.zl0 ∧ (s.sendWrites l n).zl1 = s.zl1 ∧ (s.sendWrites l n).mbox = s.mbox ∧ (s.sendWrites l n).nvm = s.nvm ∧ (s.sendWrites l n).srm = s.srm ∧ (s.sendWrites l n).dbg = s.dbg ∧ (s.sendWrites l n).i3c = s.i3c ∧ (s.sendWrites l n).drawn = s.drawn := by
  have f1 := @State.emit_frame; have f2 := @State.moved_frame; have f3 := @State.onStrm_frame
  simp [State.sendWrites, f1, f2, f3]
theorem State.lastEvent_frame (s : State) (kind : Nat) (p : Packet) (status : Nat) (detail : Nat) : (s.lastEvent kind p status detail).pending = s.pending ∧ (s.lastEvent kind p status detail).variant = s.variant ∧ (s.lastEvent kind p status detail).applied = s.applied ∧ (s.lastEvent kind p status detail).latches = s.latches ∧ (s.lastEvent kind p status detail).commits = s.commits ∧ (s.lastEvent kind p status detail).resetting = s.resetting ∧ (s.lastEvent kind p status detail).dev = s.dev ∧ (s.lastEvent kind p status detail).pwr = s.pwr ∧ (s.lastEvent kind p status detail).hk = s.hk ∧ (s.lastEvent kind p status detail).clk = s.clk ∧ (s.lastEvent kind p status detail).gang0 = s.gang0 ∧ (s.lastEvent kind p status detail).gang1 = s.gang1 ∧ (s.lastEvent kind p status detail).med = s.med ∧ (s.lastEvent kind p status detail).roms = s.roms ∧ (s.lastEvent kind p status detail).prot = s.prot ∧ (s.lastEvent kind p status detail).drift = s.drift ∧ (s.lastEvent kind p status detail).zl0 = s.zl0 ∧ (s.lastEvent kind p status detail).zl1 = s.zl1 ∧ (s.lastEvent kind p status detail).mbox = s.mbox ∧ (s.lastEvent kind p status detail).nvm = s.nvm ∧ (s.lastEvent kind p status detail).srm = s.srm ∧ (s.lastEvent kind p status detail).dbg = s.dbg ∧ (s.lastEvent kind p status detail).i3c = s.i3c ∧ (s.lastEvent kind p status detail).drawn = s.drawn := by
  have f1 := @State.setReg_frame
  simp [State.lastEvent, f1]
theorem State.writeStatus_frame (s : State) (p : Packet) (status : Nat) (detail : Nat) (offset : Nat) : (s.writeStatus p status detail offset).pending = s.pending ∧ (s.writeStatus p status detail offset).variant = s.variant ∧ (s.writeStatus p status detail offset).applied = s.applied ∧ (s.writeStatus p status detail offset).latches = s.latches ∧ (s.writeStatus p status detail offset).commits = s.commits ∧ (s.writeStatus p status detail offset).resetting = s.resetting ∧ (s.writeStatus p status detail offset).dev = s.dev ∧ (s.writeStatus p status detail offset).pwr = s.pwr ∧ (s.writeStatus p status detail offset).hk = s.hk ∧ (s.writeStatus p status detail offset).clk = s.clk ∧ (s.writeStatus p status detail offset).gang0 = s.gang0 ∧ (s.writeStatus p status detail offset).gang1 = s.gang1 ∧ (s.writeStatus p status detail offset).med = s.med ∧ (s.writeStatus p status detail offset).roms = s.roms ∧ (s.writeStatus p status detail offset).prot = s.prot ∧ (s.writeStatus p status detail offset).drift = s.drift ∧ (s.writeStatus p status detail offset).zl0 = s.zl0 ∧ (s.writeStatus p status detail offset).zl1 = s.zl1 ∧ (s.writeStatus p status detail offset).mbox = s.mbox ∧ (s.writeStatus p status detail offset).nvm = s.nvm ∧ (s.writeStatus p status detail offset).srm = s.srm ∧ (s.writeStatus p status detail offset).dbg = s.dbg ∧ (s.writeStatus p status detail offset).i3c = s.i3c ∧ (s.writeStatus p status detail offset).drawn = s.drawn := by
  have f1 := @State.sendWrites_frame
  simp [State.writeStatus, f1]
theorem State.refusePacket_frame (s : State) (p : Packet) (status : Nat) (detail : Nat) : (s.refusePacket p status detail).pending = s.pending ∧ (s.refusePacket p status detail).variant = s.variant ∧ (s.refusePacket p status detail).applied = s.applied ∧ (s.refusePacket p status detail).latches = s.latches ∧ (s.refusePacket p status detail).commits = s.commits ∧ (s.refusePacket p status detail).resetting = s.resetting ∧ (s.refusePacket p status detail).pwr = s.pwr ∧ (s.refusePacket p status detail).hk = s.hk ∧ (s.refusePacket p status detail).clk = s.clk ∧ (s.refusePacket p status detail).med = s.med ∧ (s.refusePacket p status detail).roms = s.roms ∧ (s.refusePacket p status detail).i3c = s.i3c := by
  have f1 := @State.bump_frame; have f2 := @State.ev_frame; have f3 := @State.freeCell_frame; have f4 := @State.lastEvent_frame; have f5 := @State.raise_frame; have f6 := @State.writeStatus_frame
  simp [State.refusePacket, f1, f2, f3, f4, f5, f6]
theorem State.endPacket_frame (s : State) (p : Nat) (k : Nat) (x : PenSlot) : (s.endPacket p k x).pending = s.pending ∧ (s.endPacket p k x).variant = s.variant ∧ (s.endPacket p k x).applied = s.applied ∧ (s.endPacket p k x).latches = s.latches ∧ (s.endPacket p k x).commits = s.commits ∧ (s.endPacket p k x).resetting = s.resetting ∧ (s.endPacket p k x).dev = s.dev ∧ (s.endPacket p k x).pwr = s.pwr ∧ (s.endPacket p k x).hk = s.hk ∧ (s.endPacket p k x).clk = s.clk ∧ (s.endPacket p k x).bw = s.bw ∧ (s.endPacket p k x).gang0 = s.gang0 ∧ (s.endPacket p k x).gang1 = s.gang1 ∧ (s.endPacket p k x).med = s.med ∧ (s.endPacket p k x).roms = s.roms ∧ (s.endPacket p k x).xlt = s.xlt ∧ (s.endPacket p k x).prot = s.prot ∧ (s.endPacket p k x).caches = s.caches ∧ (s.endPacket p k x).dram = s.dram ∧ (s.endPacket p k x).link = s.link ∧ (s.endPacket p k x).reads = s.reads ∧ (s.endPacket p k x).drift = s.drift ∧ (s.endPacket p k x).ring = s.ring ∧ (s.endPacket p k x).mbox = s.mbox ∧ (s.endPacket p k x).pnv = s.pnv ∧ (s.endPacket p k x).nvm = s.nvm ∧ (s.endPacket p k x).srm = s.srm ∧ (s.endPacket p k x).dbg = s.dbg ∧ (s.endPacket p k x).i3c = s.i3c ∧ (s.endPacket p k x).drawn = s.drawn := by
  have f1 := @State.bump_frame; have f2 := @State.ev_frame; have f3 := @State.onStrm_frame; have f4 := @State.rewind_frame; have f5 := @State.setFld_frame; have f6 := @State.setPenSlot_frame
  dsimp only [State.endPacket]; (repeat' split) <;> simp [f1, f2, f3, f4, f5, f6]
theorem State.takeCell_frame (s : State) (p : Nat) : (s.takeCell p).pending = s.pending ∧ (s.takeCell p).variant = s.variant ∧ (s.takeCell p).applied = s.applied ∧ (s.takeCell p).latches = s.latches ∧ (s.takeCell p).commits = s.commits ∧ (s.takeCell p).resetting = s.resetting ∧ (s.takeCell p).dev = s.dev ∧ (s.takeCell p).pwr = s.pwr ∧ (s.takeCell p).hk = s.hk ∧ (s.takeCell p).clk = s.clk ∧ (s.takeCell p).bw = s.bw ∧ (s.takeCell p).gang0 = s.gang0 ∧ (s.takeCell p).gang1 = s.gang1 ∧ (s.takeCell p).med = s.med ∧ (s.takeCell p).roms = s.roms ∧ (s.takeCell p).xlt = s.xlt ∧ (s.takeCell p).prot = s.prot ∧ (s.takeCell p).caches = s.caches ∧ (s.takeCell p).dram = s.dram ∧ (s.takeCell p).link = s.link ∧ (s.takeCell p).reads = s.reads ∧ (s.takeCell p).drift = s.drift ∧ (s.takeCell p).ring = s.ring ∧ (s.takeCell p).mbox = s.mbox ∧ (s.takeCell p).pnv = s.pnv ∧ (s.takeCell p).nvm = s.nvm ∧ (s.takeCell p).srm = s.srm ∧ (s.takeCell p).dbg = s.dbg ∧ (s.takeCell p).i3c = s.i3c ∧ (s.takeCell p).drawn = s.drawn := by
  have f1 := @State.setFld_frame
  simp [State.takeCell, f1]
theorem State.pushWord_frame (s : State) (p : Nat) (k : Nat) (w : Nat) (v : Nat) : (s.pushWord p k w v).pending = s.pending ∧ (s.pushWord p k w v).variant = s.variant ∧ (s.pushWord p k w v).applied = s.applied ∧ (s.pushWord p k w v).latches = s.latches ∧ (s.pushWord p k w v).commits = s.commits ∧ (s.pushWord p k w v).resetting = s.resetting ∧ (s.pushWord p k w v).dev = s.dev ∧ (s.pushWord p k w v).pwr = s.pwr ∧ (s.pushWord p k w v).hk = s.hk ∧ (s.pushWord p k w v).clk = s.clk ∧ (s.pushWord p k w v).bw = s.bw ∧ (s.pushWord p k w v).gang0 = s.gang0 ∧ (s.pushWord p k w v).gang1 = s.gang1 ∧ (s.pushWord p k w v).med = s.med ∧ (s.pushWord p k w v).roms = s.roms ∧ (s.pushWord p k w v).xlt = s.xlt ∧ (s.pushWord p k w v).prot = s.prot ∧ (s.pushWord p k w v).caches = s.caches ∧ (s.pushWord p k w v).dram = s.dram ∧ (s.pushWord p k w v).link = s.link ∧ (s.pushWord p k w v).reads = s.reads ∧ (s.pushWord p k w v).drift = s.drift ∧ (s.pushWord p k w v).ring = s.ring ∧ (s.pushWord p k w v).mbox = s.mbox ∧ (s.pushWord p k w v).pnv = s.pnv ∧ (s.pushWord p k w v).nvm = s.nvm ∧ (s.pushWord p k w v).srm = s.srm ∧ (s.pushWord p k w v).dbg = s.dbg ∧ (s.pushWord p k w v).i3c = s.i3c ∧ (s.pushWord p k w v).drawn = s.drawn := by
  have f1 := @State.endPacket_frame; have f2 := @State.raise_frame; have f3 := @State.setPenSlot_frame; have f4 := @State.takeCell_frame
  dsimp only [State.pushWord]; (repeat' split) <;> simp [f1, f2, f3, f4]
theorem State.pushWords_frame (s : State) (addr : Nat) (bytes : List Nat) (n : Nat) : (s.pushWords addr bytes n).pending = s.pending ∧ (s.pushWords addr bytes n).variant = s.variant ∧ (s.pushWords addr bytes n).applied = s.applied ∧ (s.pushWords addr bytes n).latches = s.latches ∧ (s.pushWords addr bytes n).commits = s.commits ∧ (s.pushWords addr bytes n).resetting = s.resetting ∧ (s.pushWords addr bytes n).dev = s.dev ∧ (s.pushWords addr bytes n).pwr = s.pwr ∧ (s.pushWords addr bytes n).hk = s.hk ∧ (s.pushWords addr bytes n).clk = s.clk ∧ (s.pushWords addr bytes n).bw = s.bw ∧ (s.pushWords addr bytes n).gang0 = s.gang0 ∧ (s.pushWords addr bytes n).gang1 = s.gang1 ∧ (s.pushWords addr bytes n).med = s.med ∧ (s.pushWords addr bytes n).roms = s.roms ∧ (s.pushWords addr bytes n).xlt = s.xlt ∧ (s.pushWords addr bytes n).prot = s.prot ∧ (s.pushWords addr bytes n).caches = s.caches ∧ (s.pushWords addr bytes n).dram = s.dram ∧ (s.pushWords addr bytes n).link = s.link ∧ (s.pushWords addr bytes n).reads = s.reads ∧ (s.pushWords addr bytes n).drift = s.drift ∧ (s.pushWords addr bytes n).ring = s.ring ∧ (s.pushWords addr bytes n).mbox = s.mbox ∧ (s.pushWords addr bytes n).pnv = s.pnv ∧ (s.pushWords addr bytes n).nvm = s.nvm ∧ (s.pushWords addr bytes n).srm = s.srm ∧ (s.pushWords addr bytes n).dbg = s.dbg ∧ (s.pushWords addr bytes n).i3c = s.i3c ∧ (s.pushWords addr bytes n).drawn = s.drawn := by
  have f1 := @State.pushWord_frame
  induction n generalizing s addr bytes with
  | zero => simp [State.pushWords, f1]
  | succ k ih =>
    simp only [State.pushWords]
    (repeat' split) <;> simp [ih, f1]

end Sys2Proof.Machine
end

