-- ==== Sys2Proof/Laws/FrameAdmission.lean ====
section
/-! SUPPORT. Frames of the operations of Machine/Admission.lean: the fields of State that each leaves as they were. -/

set_option maxRecDepth 4000
set_option linter.unusedSimpArgs false

namespace Sys2Proof.Machine

theorem State.setDict_frame (s : State) (d : Nat) (x : Dict) : (s.setDict d x).pending = s.pending ∧ (s.setDict d x).variant = s.variant ∧ (s.setDict d x).applied = s.applied ∧ (s.setDict d x).latches = s.latches ∧ (s.setDict d x).commits = s.commits ∧ (s.setDict d x).resetting = s.resetting ∧ (s.setDict d x).dev = s.dev ∧ (s.setDict d x).pwr = s.pwr ∧ (s.setDict d x).hk = s.hk ∧ (s.setDict d x).clk = s.clk ∧ (s.setDict d x).gang0 = s.gang0 ∧ (s.setDict d x).gang1 = s.gang1 ∧ (s.setDict d x).med = s.med ∧ (s.setDict d x).roms = s.roms ∧ (s.setDict d x).prot = s.prot ∧ (s.setDict d x).drift = s.drift ∧ (s.setDict d x).zl0 = s.zl0 ∧ (s.setDict d x).zl1 = s.zl1 ∧ (s.setDict d x).mbox = s.mbox ∧ (s.setDict d x).nvm = s.nvm ∧ (s.setDict d x).srm = s.srm ∧ (s.setDict d x).dbg = s.dbg ∧ (s.setDict d x).i3c = s.i3c ∧ (s.setDict d x).drawn = s.drawn := by
  have f1 := @State.onStrm_frame
  simp [State.setDict, f1]
theorem State.acceptDict_frame (s : State) (p : Packet) (x : Booking) : (s.acceptDict p x).pending = s.pending ∧ (s.acceptDict p x).variant = s.variant ∧ (s.acceptDict p x).applied = s.applied ∧ (s.acceptDict p x).latches = s.latches ∧ (s.acceptDict p x).commits = s.commits ∧ (s.acceptDict p x).resetting = s.resetting ∧ (s.acceptDict p x).pwr = s.pwr ∧ (s.acceptDict p x).hk = s.hk ∧ (s.acceptDict p x).clk = s.clk ∧ (s.acceptDict p x).med = s.med ∧ (s.acceptDict p x).roms = s.roms ∧ (s.acceptDict p x).i3c = s.i3c := by
  have f1 := @State.setDict_frame; have f2 := @State.setFld_frame
  simp [State.acceptDict, f1, f2]
theorem State.keepBooking_frame (s : State) (x : Booking) : (s.keepBooking x).pending = s.pending ∧ (s.keepBooking x).variant = s.variant ∧ (s.keepBooking x).applied = s.applied ∧ (s.keepBooking x).latches = s.latches ∧ (s.keepBooking x).commits = s.commits ∧ (s.keepBooking x).resetting = s.resetting ∧ (s.keepBooking x).pwr = s.pwr ∧ (s.keepBooking x).hk = s.hk ∧ (s.keepBooking x).clk = s.clk ∧ (s.keepBooking x).med = s.med ∧ (s.keepBooking x).roms = s.roms ∧ (s.keepBooking x).i3c = s.i3c := by
  have f1 := @State.onStrm_frame
  dsimp only [State.keepBooking]; (repeat' split) <;> simp [f1]
theorem State.acceptPacket_frame (s : State) (p : Packet) (x : Booking) : (s.acceptPacket p x).pending = s.pending ∧ (s.acceptPacket p x).variant = s.variant ∧ (s.acceptPacket p x).applied = s.applied ∧ (s.acceptPacket p x).latches = s.latches ∧ (s.acceptPacket p x).commits = s.commits ∧ (s.acceptPacket p x).resetting = s.resetting ∧ (s.acceptPacket p x).pwr = s.pwr ∧ (s.acceptPacket p x).hk = s.hk ∧ (s.acceptPacket p x).clk = s.clk ∧ (s.acceptPacket p x).med = s.med ∧ (s.acceptPacket p x).roms = s.roms ∧ (s.acceptPacket p x).i3c = s.i3c := by
  have f1 := @State.acceptDict_frame; have f2 := @State.bump_frame; have f3 := @State.ev_frame; have f4 := @State.keepBooking_frame; have f5 := @State.onStrm_frame
  simp [State.acceptPacket, f1, f2, f3, f4, f5]
theorem State.takePacket_frame (s : State) (p : Packet) : (s.takePacket p).pending = s.pending ∧ (s.takePacket p).variant = s.variant ∧ (s.takePacket p).applied = s.applied ∧ (s.takePacket p).latches = s.latches ∧ (s.takePacket p).commits = s.commits ∧ (s.takePacket p).resetting = s.resetting ∧ (s.takePacket p).dev = s.dev ∧ (s.takePacket p).pwr = s.pwr ∧ (s.takePacket p).hk = s.hk ∧ (s.takePacket p).clk = s.clk ∧ (s.takePacket p).bw = s.bw ∧ (s.takePacket p).gang0 = s.gang0 ∧ (s.takePacket p).gang1 = s.gang1 ∧ (s.takePacket p).med = s.med ∧ (s.takePacket p).roms = s.roms ∧ (s.takePacket p).xlt = s.xlt ∧ (s.takePacket p).prot = s.prot ∧ (s.takePacket p).caches = s.caches ∧ (s.takePacket p).dram = s.dram ∧ (s.takePacket p).reads = s.reads ∧ (s.takePacket p).drift = s.drift ∧ (s.takePacket p).zl0 = s.zl0 ∧ (s.takePacket p).zl1 = s.zl1 ∧ (s.takePacket p).pmc = s.pmc ∧ (s.takePacket p).ring = s.ring ∧ (s.takePacket p).mbox = s.mbox ∧ (s.takePacket p).pnv = s.pnv ∧ (s.takePacket p).nvm = s.nvm ∧ (s.takePacket p).srm = s.srm ∧ (s.takePacket p).dbg = s.dbg ∧ (s.takePacket p).i3c = s.i3c ∧ (s.takePacket p).drawn = s.drawn := by
  have f1 := @State.onStrm_frame; have f2 := @State.setFlag_frame; have f3 := @State.setFld_frame
  simp [State.takePacket, f1, f2, f3]
theorem State.admitNext_frame (s : State) (op : Nat) : (s.admitNext op).pending = s.pending ∧ (s.admitNext op).variant = s.variant ∧ (s.admitNext op).applied = s.applied ∧ (s.admitNext op).latches = s.latches ∧ (s.admitNext op).commits = s.commits ∧ (s.admitNext op).resetting = s.resetting ∧ (s.admitNext op).dev = s.dev ∧ (s.admitNext op).pwr = s.pwr ∧ (s.admitNext op).hk = s.hk ∧ (s.admitNext op).clk = s.clk ∧ (s.admitNext op).bw = s.bw ∧ (s.admitNext op).gang0 = s.gang0 ∧ (s.admitNext op).gang1 = s.gang1 ∧ (s.admitNext op).med = s.med ∧ (s.admitNext op).roms = s.roms ∧ (s.admitNext op).xlt = s.xlt ∧ (s.admitNext op).prot = s.prot ∧ (s.admitNext op).caches = s.caches ∧ (s.admitNext op).dram = s.dram ∧ (s.admitNext op).reads = s.reads ∧ (s.admitNext op).drift = s.drift ∧ (s.admitNext op).zl0 = s.zl0 ∧ (s.admitNext op).zl1 = s.zl1 ∧ (s.admitNext op).pmc = s.pmc ∧ (s.admitNext op).ring = s.ring ∧ (s.admitNext op).mbox = s.mbox ∧ (s.admitNext op).pnv = s.pnv ∧ (s.admitNext op).nvm = s.nvm ∧ (s.admitNext op).srm = s.srm ∧ (s.admitNext op).dbg = s.dbg ∧ (s.admitNext op).i3c = s.i3c ∧ (s.admitNext op).drawn = s.drawn := by
  have f1 := @State.takePacket_frame
  dsimp only [State.admitNext]; (repeat' split) <;> simp [f1]
theorem State.askHost_frame (s : State) (r : Req) : (s.askHost r).pending = s.pending ∧ (s.askHost r).variant = s.variant ∧ (s.askHost r).applied = s.applied ∧ (s.askHost r).latches = s.latches ∧ (s.askHost r).commits = s.commits ∧ (s.askHost r).resetting = s.resetting ∧ (s.askHost r).dev = s.dev ∧ (s.askHost r).pwr = s.pwr ∧ (s.askHost r).hk = s.hk ∧ (s.askHost r).clk = s.clk ∧ (s.askHost r).bw = s.bw ∧ (s.askHost r).gang0 = s.gang0 ∧ (s.askHost r).gang1 = s.gang1 ∧ (s.askHost r).med = s.med ∧ (s.askHost r).roms = s.roms ∧ (s.askHost r).xlt = s.xlt ∧ (s.askHost r).prot = s.prot ∧ (s.askHost r).caches = s.caches ∧ (s.askHost r).dram = s.dram ∧ (s.askHost r).reads = s.reads ∧ (s.askHost r).drift = s.drift ∧ (s.askHost r).zl0 = s.zl0 ∧ (s.askHost r).zl1 = s.zl1 ∧ (s.askHost r).pmc = s.pmc ∧ (s.askHost r).ring = s.ring ∧ (s.askHost r).mbox = s.mbox ∧ (s.askHost r).pnv = s.pnv ∧ (s.askHost r).nvm = s.nvm ∧ (s.askHost r).srm = s.srm ∧ (s.askHost r).dbg = s.dbg ∧ (s.askHost r).i3c = s.i3c ∧ (s.askHost r).drawn = s.drawn := by
  have f1 := @State.emit_frame; have f2 := @State.onStrm_frame
  simp [State.askHost, f1, f2]
theorem State.askAll_frame (s : State) (e : Nat) (fuel : Nat) : (s.askAll e fuel).pending = s.pending ∧ (s.askAll e fuel).variant = s.variant ∧ (s.askAll e fuel).applied = s.applied ∧ (s.askAll e fuel).latches = s.latches ∧ (s.askAll e fuel).commits = s.commits ∧ (s.askAll e fuel).resetting = s.resetting ∧ (s.askAll e fuel).dev = s.dev ∧ (s.askAll e fuel).pwr = s.pwr ∧ (s.askAll e fuel).hk = s.hk ∧ (s.askAll e fuel).clk = s.clk ∧ (s.askAll e fuel).bw = s.bw ∧ (s.askAll e fuel).gang0 = s.gang0 ∧ (s.askAll e fuel).gang1 = s.gang1 ∧ (s.askAll e fuel).med = s.med ∧ (s.askAll e fuel).roms = s.roms ∧ (s.askAll e fuel).xlt = s.xlt ∧ (s.askAll e fuel).prot = s.prot ∧ (s.askAll e fuel).caches = s.caches ∧ (s.askAll e fuel).dram = s.dram ∧ (s.askAll e fuel).reads = s.reads ∧ (s.askAll e fuel).drift = s.drift ∧ (s.askAll e fuel).zl0 = s.zl0 ∧ (s.askAll e fuel).zl1 = s.zl1 ∧ (s.askAll e fuel).pmc = s.pmc ∧ (s.askAll e fuel).ring = s.ring ∧ (s.askAll e fuel).mbox = s.mbox ∧ (s.askAll e fuel).pnv = s.pnv ∧ (s.askAll e fuel).nvm = s.nvm ∧ (s.askAll e fuel).srm = s.srm ∧ (s.askAll e fuel).dbg = s.dbg ∧ (s.askAll e fuel).i3c = s.i3c ∧ (s.askAll e fuel).drawn = s.drawn := by
  have f1 := @State.askHost_frame
  induction fuel generalizing s with
  | zero => simp [State.askAll, f1]
  | succ k ih =>
    simp only [State.askAll]
    (repeat' split) <;> simp [ih, f1]
theorem State.askHosts_frame (s : State) : (s.askHosts).pending = s.pending ∧ (s.askHosts).variant = s.variant ∧ (s.askHosts).applied = s.applied ∧ (s.askHosts).latches = s.latches ∧ (s.askHosts).commits = s.commits ∧ (s.askHosts).resetting = s.resetting ∧ (s.askHosts).dev = s.dev ∧ (s.askHosts).pwr = s.pwr ∧ (s.askHosts).hk = s.hk ∧ (s.askHosts).clk = s.clk ∧ (s.askHosts).bw = s.bw ∧ (s.askHosts).gang0 = s.gang0 ∧ (s.askHosts).gang1 = s.gang1 ∧ (s.askHosts).med = s.med ∧ (s.askHosts).roms = s.roms ∧ (s.askHosts).xlt = s.xlt ∧ (s.askHosts).prot = s.prot ∧ (s.askHosts).caches = s.caches ∧ (s.askHosts).dram = s.dram ∧ (s.askHosts).reads = s.reads ∧ (s.askHosts).drift = s.drift ∧ (s.askHosts).zl0 = s.zl0 ∧ (s.askHosts).zl1 = s.zl1 ∧ (s.askHosts).pmc = s.pmc ∧ (s.askHosts).ring = s.ring ∧ (s.askHosts).mbox = s.mbox ∧ (s.askHosts).pnv = s.pnv ∧ (s.askHosts).nvm = s.nvm ∧ (s.askHosts).srm = s.srm ∧ (s.askHosts).dbg = s.dbg ∧ (s.askHosts).i3c = s.i3c ∧ (s.askHosts).drawn = s.drawn := by
  have f1 := @State.askAll_frame
  simp [State.askHosts, f1]
theorem State.laneWakes_frame (s : State) (s0 : State) : (s.laneWakes s0).pending = s.pending ∧ (s.laneWakes s0).variant = s.variant ∧ (s.laneWakes s0).applied = s.applied ∧ (s.laneWakes s0).latches = s.latches ∧ (s.laneWakes s0).commits = s.commits ∧ (s.laneWakes s0).resetting = s.resetting ∧ (s.laneWakes s0).pwr = s.pwr ∧ (s.laneWakes s0).hk = s.hk ∧ (s.laneWakes s0).clk = s.clk ∧ (s.laneWakes s0).med = s.med ∧ (s.laneWakes s0).roms = s.roms ∧ (s.laneWakes s0).dbg = s.dbg ∧ (s.laneWakes s0).i3c = s.i3c := by
  simp [State.laneWakes]
theorem State.decideRead_frame (s : State) (p : Packet) (due : Nat) : (s.decideRead p due).pending = s.pending ∧ (s.decideRead p due).variant = s.variant ∧ (s.decideRead p due).applied = s.applied ∧ (s.decideRead p due).latches = s.latches ∧ (s.decideRead p due).commits = s.commits ∧ (s.decideRead p due).resetting = s.resetting ∧ (s.decideRead p due).pwr = s.pwr ∧ (s.decideRead p due).hk = s.hk ∧ (s.decideRead p due).clk = s.clk ∧ (s.decideRead p due).med = s.med ∧ (s.decideRead p due).roms = s.roms ∧ (s.decideRead p due).i3c = s.i3c := by
  have f1 := @State.acceptPacket_frame; have f2 := @State.refusePacket_frame
  simp [State.decideRead, f1, f2]
theorem State.decidePacket_frame (s : State) (p : Packet) (due : Nat) : (s.decidePacket p due).pending = s.pending ∧ (s.decidePacket p due).variant = s.variant ∧ (s.decidePacket p due).applied = s.applied ∧ (s.decidePacket p due).latches = s.latches ∧ (s.decidePacket p due).commits = s.commits ∧ (s.decidePacket p due).resetting = s.resetting ∧ (s.decidePacket p due).pwr = s.pwr ∧ (s.decidePacket p due).hk = s.hk ∧ (s.decidePacket p due).clk = s.clk ∧ (s.decidePacket p due).med = s.med ∧ (s.decidePacket p due).roms = s.roms ∧ (s.decidePacket p due).i3c = s.i3c := by
  have f1 := @State.acceptPacket_frame; have f2 := @State.askHosts_frame; have f3 := @State.decideRead_frame; have f4 := @State.refusePacket_frame; have f5 := @State.refusedBy_frame
  dsimp only [State.decidePacket]; (repeat' split) <;> simp [f1, f2, f3, f4, f5]

end Sys2Proof.Machine
end

