-- ==== Sys2Proof/Laws/FrameSense.lean ====
section
/-! SUPPORT. Frames of the operations of Machine/Sense.lean: the fields of State that each leaves as they were. -/

set_option maxRecDepth 4000
set_option linter.unusedSimpArgs false

namespace Sys2Proof.Machine

theorem State.senseCount_frame (s : State) (num : Nat) (lseg : Nat) (master : Nat) (er : List Nat) (prog : List Nat) : (s.senseCount num lseg master er prog).pending = s.pending ∧ (s.senseCount num lseg master er prog).variant = s.variant ∧ (s.senseCount num lseg master er prog).applied = s.applied ∧ (s.senseCount num lseg master er prog).latches = s.latches ∧ (s.senseCount num lseg master er prog).commits = s.commits ∧ (s.senseCount num lseg master er prog).resetting = s.resetting ∧ (s.senseCount num lseg master er prog).dev = s.dev ∧ (s.senseCount num lseg master er prog).pwr = s.pwr ∧ (s.senseCount num lseg master er prog).hk = s.hk ∧ (s.senseCount num lseg master er prog).clk = s.clk ∧ (s.senseCount num lseg master er prog).bw = s.bw ∧ (s.senseCount num lseg master er prog).gang0 = s.gang0 ∧ (s.senseCount num lseg master er prog).gang1 = s.gang1 ∧ (s.senseCount num lseg master er prog).med = s.med ∧ (s.senseCount num lseg master er prog).roms = s.roms ∧ (s.senseCount num lseg master er prog).xlt = s.xlt ∧ (s.senseCount num lseg master er prog).tally = s.tally ∧ (s.senseCount num lseg master er prog).prot = s.prot ∧ (s.senseCount num lseg master er prog).caches = s.caches ∧ (s.senseCount num lseg master er prog).dram = s.dram ∧ (s.senseCount num lseg master er prog).link = s.link ∧ (s.senseCount num lseg master er prog).drift = s.drift ∧ (s.senseCount num lseg master er prog).zl0 = s.zl0 ∧ (s.senseCount num lseg master er prog).zl1 = s.zl1 ∧ (s.senseCount num lseg master er prog).ring = s.ring ∧ (s.senseCount num lseg master er prog).strm = s.strm ∧ (s.senseCount num lseg master er prog).mbox = s.mbox ∧ (s.senseCount num lseg master er prog).pnv = s.pnv ∧ (s.senseCount num lseg master er prog).nvm = s.nvm ∧ (s.senseCount num lseg master er prog).srm = s.srm ∧ (s.senseCount num lseg master er prog).dbg = s.dbg ∧ (s.senseCount num lseg master er prog).i3c = s.i3c ∧ (s.senseCount num lseg master er prog).drawn = s.drawn := by
  have f1 := @State.ev_frame
  simp [State.senseCount, f1]
theorem State.senseBytes_frame (s : State) (psa : Nat) (er : List Nat) (sectors : Nat) : (s.senseBytes psa er sectors).pending = s.pending ∧ (s.senseBytes psa er sectors).variant = s.variant ∧ (s.senseBytes psa er sectors).applied = s.applied ∧ (s.senseBytes psa er sectors).latches = s.latches ∧ (s.senseBytes psa er sectors).commits = s.commits ∧ (s.senseBytes psa er sectors).resetting = s.resetting ∧ (s.senseBytes psa er sectors).pwr = s.pwr ∧ (s.senseBytes psa er sectors).hk = s.hk ∧ (s.senseBytes psa er sectors).clk = s.clk ∧ (s.senseBytes psa er sectors).med = s.med ∧ (s.senseBytes psa er sectors).roms = s.roms ∧ (s.senseBytes psa er sectors).dbg = s.dbg ∧ (s.senseBytes psa er sectors).i3c = s.i3c := by
  have f1 := @State.moved_frame
  simp [State.senseBytes, f1]
theorem State.fillSectors_frame (s : State) (r : Rd) : (s.fillSectors r).pending = s.pending ∧ (s.fillSectors r).variant = s.variant ∧ (s.fillSectors r).applied = s.applied ∧ (s.fillSectors r).latches = s.latches ∧ (s.fillSectors r).commits = s.commits ∧ (s.fillSectors r).resetting = s.resetting ∧ (s.fillSectors r).pwr = s.pwr ∧ (s.fillSectors r).hk = s.hk ∧ (s.fillSectors r).clk = s.clk ∧ (s.fillSectors r).med = s.med ∧ (s.fillSectors r).roms = s.roms ∧ (s.fillSectors r).i3c = s.i3c := by
  have f1 := @State.scFill_frame
  simp (disch := (intros; (repeat' split) <;> simp [f1])) [State.fillSectors, f1]
theorem State.firstTry_frame (s : State) (r : Rd) (x : Sensed) (er : List Nat) (k : Nat) : (s.firstTry r x er k).1.pending = s.pending ∧ (s.firstTry r x er k).1.variant = s.variant ∧ (s.firstTry r x er k).1.applied = s.applied ∧ (s.firstTry r x er k).1.latches = s.latches ∧ (s.firstTry r x er k).1.commits = s.commits ∧ (s.firstTry r x er k).1.resetting = s.resetting ∧ (s.firstTry r x er k).1.pwr = s.pwr ∧ (s.firstTry r x er k).1.hk = s.hk ∧ (s.firstTry r x er k).1.clk = s.clk ∧ (s.firstTry r x er k).1.med = s.med ∧ (s.firstTry r x er k).1.roms = s.roms ∧ (s.firstTry r x er k).1.i3c = s.i3c := by
  have f1 := @State.noteAttempt_frame
  dsimp only [State.firstTry]; (repeat' split) <;> simp [f1]
theorem State.senseDone_frame (s : State) (r : Rd) : (s.senseDone r).pending = s.pending ∧ (s.senseDone r).variant = s.variant ∧ (s.senseDone r).applied = s.applied ∧ (s.senseDone r).latches = s.latches ∧ (s.senseDone r).commits = s.commits ∧ (s.senseDone r).resetting = s.resetting ∧ (s.senseDone r).pwr = s.pwr ∧ (s.senseDone r).hk = s.hk ∧ (s.senseDone r).clk = s.clk ∧ (s.senseDone r).med = s.med ∧ (s.senseDone r).roms = s.roms ∧ (s.senseDone r).i3c = s.i3c := by
  have f1 := @State.deliver_frame; have f2 := @State.fillSectors_frame
  simp [State.senseDone, f1, f2]
theorem State.firstDecode_frame (s : State) (r : Rd) (x : Sensed) : (s.firstDecode r x).pending = s.pending ∧ (s.firstDecode r x).variant = s.variant ∧ (s.firstDecode r x).applied = s.applied ∧ (s.firstDecode r x).latches = s.latches ∧ (s.firstDecode r x).commits = s.commits ∧ (s.firstDecode r x).resetting = s.resetting ∧ (s.firstDecode r x).pwr = s.pwr ∧ (s.firstDecode r x).hk = s.hk ∧ (s.firstDecode r x).clk = s.clk ∧ (s.firstDecode r x).med = s.med ∧ (s.firstDecode r x).roms = s.roms ∧ (s.firstDecode r x).i3c = s.i3c := by
  have f1 := @State.firstTry_frame; have f2 := @State.raise_frame; have f3 := @State.senseDone_frame; have f4 := @State.setRd_frame
  simp [State.firstDecode, f1, f2, f3, f4]
theorem State.offlineRead_frame (s : State) (r : Rd) : (s.offlineRead r).pending = s.pending ∧ (s.offlineRead r).variant = s.variant ∧ (s.offlineRead r).applied = s.applied ∧ (s.offlineRead r).latches = s.latches ∧ (s.offlineRead r).commits = s.commits ∧ (s.offlineRead r).resetting = s.resetting ∧ (s.offlineRead r).pwr = s.pwr ∧ (s.offlineRead r).hk = s.hk ∧ (s.offlineRead r).clk = s.clk ∧ (s.offlineRead r).med = s.med ∧ (s.offlineRead r).roms = s.roms ∧ (s.offlineRead r).i3c = s.i3c := by
  have f1 := @State.deliver_frame
  simp [State.offlineRead, f1]
theorem State.secondTry_frame (s : State) (r : Rd) (x : Sensed) (f : Nat × Nat) : (s.secondTry r x f).1.pending = s.pending ∧ (s.secondTry r x f).1.variant = s.variant ∧ (s.secondTry r x f).1.applied = s.applied ∧ (s.secondTry r x f).1.latches = s.latches ∧ (s.secondTry r x f).1.commits = s.commits ∧ (s.secondTry r x f).1.resetting = s.resetting ∧ (s.secondTry r x f).1.pwr = s.pwr ∧ (s.secondTry r x f).1.hk = s.hk ∧ (s.secondTry r x f).1.clk = s.clk ∧ (s.secondTry r x f).1.med = s.med ∧ (s.secondTry r x f).1.roms = s.roms ∧ (s.secondTry r x f).1.i3c = s.i3c := by
  have f1 := @State.classify_frame; have f2 := @State.noteAttempt_frame
  simp [State.secondTry, f1, f2]
theorem State.secondDecode_frame (s : State) (r : Rd) (x : Sensed) : (s.secondDecode r x).pending = s.pending ∧ (s.secondDecode r x).variant = s.variant ∧ (s.secondDecode r x).applied = s.applied ∧ (s.secondDecode r x).latches = s.latches ∧ (s.secondDecode r x).commits = s.commits ∧ (s.secondDecode r x).resetting = s.resetting ∧ (s.secondDecode r x).pwr = s.pwr ∧ (s.secondDecode r x).hk = s.hk ∧ (s.secondDecode r x).clk = s.clk ∧ (s.secondDecode r x).med = s.med ∧ (s.secondDecode r x).roms = s.roms ∧ (s.secondDecode r x).i3c = s.i3c := by
  have f1 := @State.oldRefRetry_frame; have f2 := @State.secondTry_frame; have f3 := @State.senseDone_frame
  simp [State.secondDecode, f1, f2, f3]
theorem State.startSense_frame (s : State) (r : Rd) : (s.startSense r).pending = s.pending ∧ (s.startSense r).variant = s.variant ∧ (s.startSense r).applied = s.applied ∧ (s.startSense r).latches = s.latches ∧ (s.startSense r).commits = s.commits ∧ (s.startSense r).resetting = s.resetting ∧ (s.startSense r).dev = s.dev ∧ (s.startSense r).pwr = s.pwr ∧ (s.startSense r).hk = s.hk ∧ (s.startSense r).clk = s.clk ∧ (s.startSense r).bw = s.bw ∧ (s.startSense r).gang0 = s.gang0 ∧ (s.startSense r).gang1 = s.gang1 ∧ (s.startSense r).med = s.med ∧ (s.startSense r).roms = s.roms ∧ (s.startSense r).xlt = s.xlt ∧ (s.startSense r).tally = s.tally ∧ (s.startSense r).prot = s.prot ∧ (s.startSense r).caches = s.caches ∧ (s.startSense r).dram = s.dram ∧ (s.startSense r).link = s.link ∧ (s.startSense r).drift = s.drift ∧ (s.startSense r).zl0 = s.zl0 ∧ (s.startSense r).zl1 = s.zl1 ∧ (s.startSense r).ring = s.ring ∧ (s.startSense r).strm = s.strm ∧ (s.startSense r).mbox = s.mbox ∧ (s.startSense r).pnv = s.pnv ∧ (s.startSense r).nvm = s.nvm ∧ (s.startSense r).srm = s.srm ∧ (s.startSense r).dbg = s.dbg ∧ (s.startSense r).i3c = s.i3c ∧ (s.startSense r).drawn = s.drawn := by
  have f1 := @State.bookFg_frame; have f2 := @State.senseCount_frame; have f3 := @State.setRd_frame
  simp [State.startSense, f1, f2, f3]

end Sys2Proof.Machine
end

