-- ==== Sys2Proof/Laws/FrameBackground.lean ====
section
/-! SUPPORT. Frames of the operations of Machine/Background.lean: the fields of State that each leaves as they were. -/

set_option maxRecDepth 4000
set_option linter.unusedSimpArgs false

namespace Sys2Proof.Machine

theorem State.bgCommands_frame (s : State) (b : Bg) : (s.bgCommands b).2.pending = s.pending ∧ (s.bgCommands b).2.variant = s.variant ∧ (s.bgCommands b).2.applied = s.applied ∧ (s.bgCommands b).2.latches = s.latches ∧ (s.bgCommands b).2.commits = s.commits ∧ (s.bgCommands b).2.resetting = s.resetting ∧ (s.bgCommands b).2.pwr = s.pwr ∧ (s.bgCommands b).2.hk = s.hk ∧ (s.bgCommands b).2.clk = s.clk ∧ (s.bgCommands b).2.bw = s.bw ∧ (s.bgCommands b).2.med = s.med ∧ (s.bgCommands b).2.roms = s.roms ∧ (s.bgCommands b).2.caches = s.caches ∧ (s.bgCommands b).2.zl0 = s.zl0 ∧ (s.bgCommands b).2.zl1 = s.zl1 ∧ (s.bgCommands b).2.ring = s.ring ∧ (s.bgCommands b).2.mbox = s.mbox ∧ (s.bgCommands b).2.dbg = s.dbg ∧ (s.bgCommands b).2.i3c = s.i3c ∧ (s.bgCommands b).2.drawn = s.drawn := by
  have f1 := @State.bookBg_frame; have f2 := @State.senseCount_frame
  simp [State.bgCommands, f1, f2]
theorem State.bgSector_frame (s : State) (b : Bg) (x : Sensed) (k : Nat) (cause1 : Option Nat) : (s.bgSector b x k cause1).1.pending = s.pending ∧ (s.bgSector b x k cause1).1.variant = s.variant ∧ (s.bgSector b x k cause1).1.applied = s.applied ∧ (s.bgSector b x k cause1).1.latches = s.latches ∧ (s.bgSector b x k cause1).1.commits = s.commits ∧ (s.bgSector b x k cause1).1.resetting = s.resetting ∧ (s.bgSector b x k cause1).1.pwr = s.pwr ∧ (s.bgSector b x k cause1).1.hk = s.hk ∧ (s.bgSector b x k cause1).1.clk = s.clk ∧ (s.bgSector b x k cause1).1.med = s.med ∧ (s.bgSector b x k cause1).1.roms = s.roms ∧ (s.bgSector b x k cause1).1.i3c = s.i3c := by
  have f1 := @State.classify_frame; have f2 := @State.noteAttempt_frame; have f3 := @State.noteClass_frame
  dsimp only [State.bgSector]; (repeat' split) <;> simp [f1, f2, f3]
theorem State.bgDecode_frame (s : State) (b : Bg) (x : Sensed) : (s.bgDecode b x).1.pending = s.pending ∧ (s.bgDecode b x).1.variant = s.variant ∧ (s.bgDecode b x).1.applied = s.applied ∧ (s.bgDecode b x).1.latches = s.latches ∧ (s.bgDecode b x).1.commits = s.commits ∧ (s.bgDecode b x).1.resetting = s.resetting ∧ (s.bgDecode b x).1.pwr = s.pwr ∧ (s.bgDecode b x).1.hk = s.hk ∧ (s.bgDecode b x).1.clk = s.clk ∧ (s.bgDecode b x).1.med = s.med ∧ (s.bgDecode b x).1.roms = s.roms ∧ (s.bgDecode b x).1.i3c = s.i3c := by
  have f1 := @State.bgSector_frame; have f2 := @State.moved_frame; have f3 := @State.senseBytes_frame
  simp (disch := (intros; (repeat' split) <;> simp [f1, f2, f3])) [State.bgDecode, f1, f2, f3]
theorem State.endBg_frame (s : State) (id : Nat) : (s.endBg id).pending = s.pending ∧ (s.endBg id).variant = s.variant ∧ (s.endBg id).applied = s.applied ∧ (s.endBg id).latches = s.latches ∧ (s.endBg id).commits = s.commits ∧ (s.endBg id).resetting = s.resetting ∧ (s.endBg id).pwr = s.pwr ∧ (s.endBg id).hk = s.hk ∧ (s.endBg id).clk = s.clk ∧ (s.endBg id).med = s.med ∧ (s.endBg id).roms = s.roms ∧ (s.endBg id).i3c = s.i3c := by
  have f1 := @State.onReads_frame
  simp [State.endBg, f1]
theorem State.bgDecode2_frame (s : State) (b : Bg) (x : Sensed) : (s.bgDecode2 b x).1.pending = s.pending ∧ (s.bgDecode2 b x).1.variant = s.variant ∧ (s.bgDecode2 b x).1.applied = s.applied ∧ (s.bgDecode2 b x).1.latches = s.latches ∧ (s.bgDecode2 b x).1.commits = s.commits ∧ (s.bgDecode2 b x).1.resetting = s.resetting ∧ (s.bgDecode2 b x).1.pwr = s.pwr ∧ (s.bgDecode2 b x).1.hk = s.hk ∧ (s.bgDecode2 b x).1.clk = s.clk ∧ (s.bgDecode2 b x).1.med = s.med ∧ (s.bgDecode2 b x).1.roms = s.roms ∧ (s.bgDecode2 b x).1.i3c = s.i3c := by
  have f1 := @State.bgSector_frame
  simp [State.bgDecode2, f1]
@[simp] theorem orTake_pending (take : State → Nat → Option (BgWork × Nat) × State) (g : Nat) (acc : Option (BgWork × Nat) × State) (h : ∀ s g, (take s g).2.pending = s.pending) : (orTake take g acc).2.pending = acc.2.pending := by
  unfold orTake
  dsimp only
  (repeat' split) <;> simp [h]
@[simp] theorem orTake_variant (take : State → Nat → Option (BgWork × Nat) × State) (g : Nat) (acc : Option (BgWork × Nat) × State) (h : ∀ s g, (take s g).2.variant = s.variant) : (orTake take g acc).2.variant = acc.2.variant := by
  unfold orTake
  dsimp only
  (repeat' split) <;> simp [h]
@[simp] theorem orTake_applied (take : State → Nat → Option (BgWork × Nat) × State) (g : Nat) (acc : Option (BgWork × Nat) × State) (h : ∀ s g, (take s g).2.applied = s.applied) : (orTake take g acc).2.applied = acc.2.applied := by
  unfold orTake
  dsimp only
  (repeat' split) <;> simp [h]
@[simp] theorem orTake_latches (take : State → Nat → Option (BgWork × Nat) × State) (g : Nat) (acc : Option (BgWork × Nat) × State) (h : ∀ s g, (take s g).2.latches = s.latches) : (orTake take g acc).2.latches = acc.2.latches := by
  unfold orTake
  dsimp only
  (repeat' split) <;> simp [h]
@[simp] theorem orTake_commits (take : State → Nat → Option (BgWork × Nat) × State) (g : Nat) (acc : Option (BgWork × Nat) × State) (h : ∀ s g, (take s g).2.commits = s.commits) : (orTake take g acc).2.commits = acc.2.commits := by
  unfold orTake
  dsimp only
  (repeat' split) <;> simp [h]
@[simp] theorem orTake_resetting (take : State → Nat → Option (BgWork × Nat) × State) (g : Nat) (acc : Option (BgWork × Nat) × State) (h : ∀ s g, (take s g).2.resetting = s.resetting) : (orTake take g acc).2.resetting = acc.2.resetting := by
  unfold orTake
  dsimp only
  (repeat' split) <;> simp [h]
@[simp] theorem orTake_pwr (take : State → Nat → Option (BgWork × Nat) × State) (g : Nat) (acc : Option (BgWork × Nat) × State) (h : ∀ s g, (take s g).2.pwr = s.pwr) : (orTake take g acc).2.pwr = acc.2.pwr := by
  unfold orTake
  dsimp only
  (repeat' split) <;> simp [h]
@[simp] theorem orTake_hk (take : State → Nat → Option (BgWork × Nat) × State) (g : Nat) (acc : Option (BgWork × Nat) × State) (h : ∀ s g, (take s g).2.hk = s.hk) : (orTake take g acc).2.hk = acc.2.hk := by
  unfold orTake
  dsimp only
  (repeat' split) <;> simp [h]
@[simp] theorem orTake_clk (take : State → Nat → Option (BgWork × Nat) × State) (g : Nat) (acc : Option (BgWork × Nat) × State) (h : ∀ s g, (take s g).2.clk = s.clk) : (orTake take g acc).2.clk = acc.2.clk := by
  unfold orTake
  dsimp only
  (repeat' split) <;> simp [h]
@[simp] theorem orTake_bw (take : State → Nat → Option (BgWork × Nat) × State) (g : Nat) (acc : Option (BgWork × Nat) × State) (h : ∀ s g, (take s g).2.bw = s.bw) : (orTake take g acc).2.bw = acc.2.bw := by
  unfold orTake
  dsimp only
  (repeat' split) <;> simp [h]
@[simp] theorem orTake_med (take : State → Nat → Option (BgWork × Nat) × State) (g : Nat) (acc : Option (BgWork × Nat) × State) (h : ∀ s g, (take s g).2.med = s.med) : (orTake take g acc).2.med = acc.2.med := by
  unfold orTake
  dsimp only
  (repeat' split) <;> simp [h]
@[simp] theorem orTake_roms (take : State → Nat → Option (BgWork × Nat) × State) (g : Nat) (acc : Option (BgWork × Nat) × State) (h : ∀ s g, (take s g).2.roms = s.roms) : (orTake take g acc).2.roms = acc.2.roms := by
  unfold orTake
  dsimp only
  (repeat' split) <;> simp [h]
@[simp] theorem orTake_caches (take : State → Nat → Option (BgWork × Nat) × State) (g : Nat) (acc : Option (BgWork × Nat) × State) (h : ∀ s g, (take s g).2.caches = s.caches) : (orTake take g acc).2.caches = acc.2.caches := by
  unfold orTake
  dsimp only
  (repeat' split) <;> simp [h]
@[simp] theorem orTake_zl0 (take : State → Nat → Option (BgWork × Nat) × State) (g : Nat) (acc : Option (BgWork × Nat) × State) (h : ∀ s g, (take s g).2.zl0 = s.zl0) : (orTake take g acc).2.zl0 = acc.2.zl0 := by
  unfold orTake
  dsimp only
  (repeat' split) <;> simp [h]
@[simp] theorem orTake_zl1 (take : State → Nat → Option (BgWork × Nat) × State) (g : Nat) (acc : Option (BgWork × Nat) × State) (h : ∀ s g, (take s g).2.zl1 = s.zl1) : (orTake take g acc).2.zl1 = acc.2.zl1 := by
  unfold orTake
  dsimp only
  (repeat' split) <;> simp [h]
@[simp] theorem orTake_ring (take : State → Nat → Option (BgWork × Nat) × State) (g : Nat) (acc : Option (BgWork × Nat) × State) (h : ∀ s g, (take s g).2.ring = s.ring) : (orTake take g acc).2.ring = acc.2.ring := by
  unfold orTake
  dsimp only
  (repeat' split) <;> simp [h]
@[simp] theorem orTake_mbox (take : State → Nat → Option (BgWork × Nat) × State) (g : Nat) (acc : Option (BgWork × Nat) × State) (h : ∀ s g, (take s g).2.mbox = s.mbox) : (orTake take g acc).2.mbox = acc.2.mbox := by
  unfold orTake
  dsimp only
  (repeat' split) <;> simp [h]
@[simp] theorem orTake_dbg (take : State → Nat → Option (BgWork × Nat) × State) (g : Nat) (acc : Option (BgWork × Nat) × State) (h : ∀ s g, (take s g).2.dbg = s.dbg) : (orTake take g acc).2.dbg = acc.2.dbg := by
  unfold orTake
  dsimp only
  (repeat' split) <;> simp [h]
@[simp] theorem orTake_i3c (take : State → Nat → Option (BgWork × Nat) × State) (g : Nat) (acc : Option (BgWork × Nat) × State) (h : ∀ s g, (take s g).2.i3c = s.i3c) : (orTake take g acc).2.i3c = acc.2.i3c := by
  unfold orTake
  dsimp only
  (repeat' split) <;> simp [h]
@[simp] theorem orTake_drawn (take : State → Nat → Option (BgWork × Nat) × State) (g : Nat) (acc : Option (BgWork × Nat) × State) (h : ∀ s g, (take s g).2.drawn = s.drawn) : (orTake take g acc).2.drawn = acc.2.drawn := by
  unfold orTake
  dsimp only
  (repeat' split) <;> simp [h]
theorem State.passTake_frame (s : State) (g : Nat) : (s.passTake g).2.pending = s.pending ∧ (s.passTake g).2.variant = s.variant ∧ (s.passTake g).2.applied = s.applied ∧ (s.passTake g).2.latches = s.latches ∧ (s.passTake g).2.commits = s.commits ∧ (s.passTake g).2.resetting = s.resetting ∧ (s.passTake g).2.pwr = s.pwr ∧ (s.passTake g).2.hk = s.hk ∧ (s.passTake g).2.clk = s.clk ∧ (s.passTake g).2.bw = s.bw ∧ (s.passTake g).2.med = s.med ∧ (s.passTake g).2.roms = s.roms ∧ (s.passTake g).2.caches = s.caches ∧ (s.passTake g).2.zl0 = s.zl0 ∧ (s.passTake g).2.zl1 = s.zl1 ∧ (s.passTake g).2.ring = s.ring ∧ (s.passTake g).2.mbox = s.mbox ∧ (s.passTake g).2.dbg = s.dbg ∧ (s.passTake g).2.i3c = s.i3c ∧ (s.passTake g).2.drawn = s.drawn := by
  have f1 := @State.setGen_frame
  dsimp only [State.passTake]; (repeat' split) <;> simp [f1]
theorem State.foldAims_frame (s : State) (g : Nat) : (s.foldAims g).pending = s.pending ∧ (s.foldAims g).variant = s.variant ∧ (s.foldAims g).applied = s.applied ∧ (s.foldAims g).latches = s.latches ∧ (s.foldAims g).commits = s.commits ∧ (s.foldAims g).resetting = s.resetting ∧ (s.foldAims g).pwr = s.pwr ∧ (s.foldAims g).hk = s.hk ∧ (s.foldAims g).clk = s.clk ∧ (s.foldAims g).bw = s.bw ∧ (s.foldAims g).med = s.med ∧ (s.foldAims g).roms = s.roms ∧ (s.foldAims g).caches = s.caches ∧ (s.foldAims g).zl0 = s.zl0 ∧ (s.foldAims g).zl1 = s.zl1 ∧ (s.foldAims g).ring = s.ring ∧ (s.foldAims g).mbox = s.mbox ∧ (s.foldAims g).dbg = s.dbg ∧ (s.foldAims g).i3c = s.i3c ∧ (s.foldAims g).drawn = s.drawn := by
  have f1 := @State.bump_frame; have f2 := @State.onGang_frame; have f3 := @State.raise_frame
  simp [State.foldAims, f1, f2, f3]
theorem State.foldOpen_frame (s : State) (dest : Nat) : (s.foldOpen dest).pending = s.pending ∧ (s.foldOpen dest).variant = s.variant ∧ (s.foldOpen dest).applied = s.applied ∧ (s.foldOpen dest).latches = s.latches ∧ (s.foldOpen dest).commits = s.commits ∧ (s.foldOpen dest).resetting = s.resetting ∧ (s.foldOpen dest).pwr = s.pwr ∧ (s.foldOpen dest).hk = s.hk ∧ (s.foldOpen dest).clk = s.clk ∧ (s.foldOpen dest).bw = s.bw ∧ (s.foldOpen dest).med = s.med ∧ (s.foldOpen dest).roms = s.roms ∧ (s.foldOpen dest).caches = s.caches ∧ (s.foldOpen dest).zl0 = s.zl0 ∧ (s.foldOpen dest).zl1 = s.zl1 ∧ (s.foldOpen dest).ring = s.ring ∧ (s.foldOpen dest).mbox = s.mbox ∧ (s.foldOpen dest).dbg = s.dbg ∧ (s.foldOpen dest).i3c = s.i3c ∧ (s.foldOpen dest).drawn = s.drawn := by
  have f1 := @State.onGang_frame; have f2 := @State.takeBand_frame
  dsimp only [State.foldOpen]; (repeat' split) <;> simp [f1, f2]
theorem State.foldTake_frame (s : State) (g : Nat) : (s.foldTake g).2.pending = s.pending ∧ (s.foldTake g).2.variant = s.variant ∧ (s.foldTake g).2.applied = s.applied ∧ (s.foldTake g).2.latches = s.latches ∧ (s.foldTake g).2.commits = s.commits ∧ (s.foldTake g).2.resetting = s.resetting ∧ (s.foldTake g).2.pwr = s.pwr ∧ (s.foldTake g).2.hk = s.hk ∧ (s.foldTake g).2.clk = s.clk ∧ (s.foldTake g).2.bw = s.bw ∧ (s.foldTake g).2.med = s.med ∧ (s.foldTake g).2.roms = s.roms ∧ (s.foldTake g).2.caches = s.caches ∧ (s.foldTake g).2.zl0 = s.zl0 ∧ (s.foldTake g).2.zl1 = s.zl1 ∧ (s.foldTake g).2.ring = s.ring ∧ (s.foldTake g).2.mbox = s.mbox ∧ (s.foldTake g).2.dbg = s.dbg ∧ (s.foldTake g).2.i3c = s.i3c ∧ (s.foldTake g).2.drawn = s.drawn := by
  have f1 := @State.foldAims_frame; have f2 := @State.foldOpen_frame; have f3 := @State.onGang_frame
  dsimp only [State.foldTake]; (repeat' split) <;> simp [f1, f2, f3]
theorem State.oldTake_frame (s : State) (g : Nat) : (s.oldTake g).2.pending = s.pending ∧ (s.oldTake g).2.variant = s.variant ∧ (s.oldTake g).2.applied = s.applied ∧ (s.oldTake g).2.latches = s.latches ∧ (s.oldTake g).2.commits = s.commits ∧ (s.oldTake g).2.resetting = s.resetting ∧ (s.oldTake g).2.pwr = s.pwr ∧ (s.oldTake g).2.hk = s.hk ∧ (s.oldTake g).2.clk = s.clk ∧ (s.oldTake g).2.bw = s.bw ∧ (s.oldTake g).2.med = s.med ∧ (s.oldTake g).2.roms = s.roms ∧ (s.oldTake g).2.caches = s.caches ∧ (s.oldTake g).2.zl0 = s.zl0 ∧ (s.oldTake g).2.zl1 = s.zl1 ∧ (s.oldTake g).2.ring = s.ring ∧ (s.oldTake g).2.mbox = s.mbox ∧ (s.oldTake g).2.dbg = s.dbg ∧ (s.oldTake g).2.i3c = s.i3c ∧ (s.oldTake g).2.drawn = s.drawn := by
  dsimp only [State.oldTake]; (repeat' split) <;> simp
theorem State.verTake_frame (s : State) (g : Nat) : (s.verTake g).2.pending = s.pending ∧ (s.verTake g).2.variant = s.variant ∧ (s.verTake g).2.applied = s.applied ∧ (s.verTake g).2.latches = s.latches ∧ (s.verTake g).2.commits = s.commits ∧ (s.verTake g).2.resetting = s.resetting ∧ (s.verTake g).2.pwr = s.pwr ∧ (s.verTake g).2.hk = s.hk ∧ (s.verTake g).2.clk = s.clk ∧ (s.verTake g).2.bw = s.bw ∧ (s.verTake g).2.med = s.med ∧ (s.verTake g).2.roms = s.roms ∧ (s.verTake g).2.caches = s.caches ∧ (s.verTake g).2.zl0 = s.zl0 ∧ (s.verTake g).2.zl1 = s.zl1 ∧ (s.verTake g).2.ring = s.ring ∧ (s.verTake g).2.mbox = s.mbox ∧ (s.verTake g).2.dbg = s.dbg ∧ (s.verTake g).2.i3c = s.i3c ∧ (s.verTake g).2.drawn = s.drawn := by
  have f1 := @State.onGang_frame
  dsimp only [State.verTake]; (repeat' split) <;> simp [f1]
theorem State.rewTake_frame (s : State) (g : Nat) : (s.rewTake g).2.pending = s.pending ∧ (s.rewTake g).2.variant = s.variant ∧ (s.rewTake g).2.applied = s.applied ∧ (s.rewTake g).2.latches = s.latches ∧ (s.rewTake g).2.commits = s.commits ∧ (s.rewTake g).2.resetting = s.resetting ∧ (s.rewTake g).2.pwr = s.pwr ∧ (s.rewTake g).2.hk = s.hk ∧ (s.rewTake g).2.clk = s.clk ∧ (s.rewTake g).2.bw = s.bw ∧ (s.rewTake g).2.med = s.med ∧ (s.rewTake g).2.roms = s.roms ∧ (s.rewTake g).2.caches = s.caches ∧ (s.rewTake g).2.zl0 = s.zl0 ∧ (s.rewTake g).2.zl1 = s.zl1 ∧ (s.rewTake g).2.ring = s.ring ∧ (s.rewTake g).2.mbox = s.mbox ∧ (s.rewTake g).2.dbg = s.dbg ∧ (s.rewTake g).2.i3c = s.i3c ∧ (s.rewTake g).2.drawn = s.drawn := by
  have f1 := @State.onXlt_frame
  dsimp only [State.rewTake]; (repeat' split) <;> simp [f1]
theorem State.padStart_frame (s : State) (g : Nat) : (s.padStart g).pending = s.pending ∧ (s.padStart g).variant = s.variant ∧ (s.padStart g).applied = s.applied ∧ (s.padStart g).latches = s.latches ∧ (s.padStart g).commits = s.commits ∧ (s.padStart g).resetting = s.resetting ∧ (s.padStart g).pwr = s.pwr ∧ (s.padStart g).hk = s.hk ∧ (s.padStart g).clk = s.clk ∧ (s.padStart g).bw = s.bw ∧ (s.padStart g).med = s.med ∧ (s.padStart g).roms = s.roms ∧ (s.padStart g).caches = s.caches ∧ (s.padStart g).zl0 = s.zl0 ∧ (s.padStart g).zl1 = s.zl1 ∧ (s.padStart g).ring = s.ring ∧ (s.padStart g).mbox = s.mbox ∧ (s.padStart g).dbg = s.dbg ∧ (s.padStart g).i3c = s.i3c ∧ (s.padStart g).drawn = s.drawn := by
  have f1 := @State.onGang_frame
  dsimp only [State.padStart]; (repeat' split) <;> simp [f1]
theorem State.padTake_frame (s : State) (g : Nat) : (s.padTake g).2.pending = s.pending ∧ (s.padTake g).2.variant = s.variant ∧ (s.padTake g).2.applied = s.applied ∧ (s.padTake g).2.latches = s.latches ∧ (s.padTake g).2.commits = s.commits ∧ (s.padTake g).2.resetting = s.resetting ∧ (s.padTake g).2.pwr = s.pwr ∧ (s.padTake g).2.hk = s.hk ∧ (s.padTake g).2.clk = s.clk ∧ (s.padTake g).2.bw = s.bw ∧ (s.padTake g).2.med = s.med ∧ (s.padTake g).2.roms = s.roms ∧ (s.padTake g).2.caches = s.caches ∧ (s.padTake g).2.zl0 = s.zl0 ∧ (s.padTake g).2.zl1 = s.zl1 ∧ (s.padTake g).2.ring = s.ring ∧ (s.padTake g).2.mbox = s.mbox ∧ (s.padTake g).2.dbg = s.dbg ∧ (s.padTake g).2.i3c = s.i3c ∧ (s.padTake g).2.drawn = s.drawn := by
  have f1 := @State.onGang_frame; have f2 := @State.padStart_frame
  dsimp only [State.padTake]; (repeat' split) <;> simp [f1, f2]
theorem State.rebTake_frame (s : State) (g : Nat) : (s.rebTake g).2.pending = s.pending ∧ (s.rebTake g).2.variant = s.variant ∧ (s.rebTake g).2.applied = s.applied ∧ (s.rebTake g).2.latches = s.latches ∧ (s.rebTake g).2.commits = s.commits ∧ (s.rebTake g).2.resetting = s.resetting ∧ (s.rebTake g).2.pwr = s.pwr ∧ (s.rebTake g).2.hk = s.hk ∧ (s.rebTake g).2.clk = s.clk ∧ (s.rebTake g).2.bw = s.bw ∧ (s.rebTake g).2.med = s.med ∧ (s.rebTake g).2.roms = s.roms ∧ (s.rebTake g).2.caches = s.caches ∧ (s.rebTake g).2.zl0 = s.zl0 ∧ (s.rebTake g).2.zl1 = s.zl1 ∧ (s.rebTake g).2.ring = s.ring ∧ (s.rebTake g).2.mbox = s.mbox ∧ (s.rebTake g).2.dbg = s.dbg ∧ (s.rebTake g).2.i3c = s.i3c ∧ (s.rebTake g).2.drawn = s.drawn := by
  have f1 := @State.onXlt_frame
  dsimp only [State.rebTake]; (repeat' split) <;> simp [f1]
theorem State.passBegin_frame (s : State) (g : Nat) : (s.passBegin g).pending = s.pending ∧ (s.passBegin g).variant = s.variant ∧ (s.passBegin g).applied = s.applied ∧ (s.passBegin g).latches = s.latches ∧ (s.passBegin g).commits = s.commits ∧ (s.passBegin g).resetting = s.resetting ∧ (s.passBegin g).pwr = s.pwr ∧ (s.passBegin g).hk = s.hk ∧ (s.passBegin g).clk = s.clk ∧ (s.passBegin g).bw = s.bw ∧ (s.passBegin g).med = s.med ∧ (s.passBegin g).roms = s.roms ∧ (s.passBegin g).caches = s.caches ∧ (s.passBegin g).zl0 = s.zl0 ∧ (s.passBegin g).zl1 = s.zl1 ∧ (s.passBegin g).ring = s.ring ∧ (s.passBegin g).mbox = s.mbox ∧ (s.passBegin g).dbg = s.dbg ∧ (s.passBegin g).i3c = s.i3c ∧ (s.passBegin g).drawn = s.drawn := by
  have f1 := @State.onGang_frame; have f2 := @State.setFld_frame
  simp [State.passBegin, f1, f2]
theorem State.passEnd_frame (s : State) (g : Nat) : (s.passEnd g).pending = s.pending ∧ (s.passEnd g).variant = s.variant ∧ (s.passEnd g).applied = s.applied ∧ (s.passEnd g).latches = s.latches ∧ (s.passEnd g).commits = s.commits ∧ (s.passEnd g).resetting = s.resetting ∧ (s.passEnd g).pwr = s.pwr ∧ (s.passEnd g).hk = s.hk ∧ (s.passEnd g).clk = s.clk ∧ (s.passEnd g).bw = s.bw ∧ (s.passEnd g).med = s.med ∧ (s.passEnd g).roms = s.roms ∧ (s.passEnd g).caches = s.caches ∧ (s.passEnd g).zl0 = s.zl0 ∧ (s.passEnd g).zl1 = s.zl1 ∧ (s.passEnd g).ring = s.ring ∧ (s.passEnd g).mbox = s.mbox ∧ (s.passEnd g).dbg = s.dbg ∧ (s.passEnd g).i3c = s.i3c ∧ (s.passEnd g).drawn = s.drawn := by
  have f1 := @State.bump_frame; have f2 := @State.passBegin_frame; have f3 := @State.raise_frame; have f4 := @State.setFld_frame
  simp [State.passEnd, f1, f2, f3, f4]
theorem State.shepTake_frame (s : State) (g : Nat) : (s.shepTake g).2.pending = s.pending ∧ (s.shepTake g).2.variant = s.variant ∧ (s.shepTake g).2.applied = s.applied ∧ (s.shepTake g).2.latches = s.latches ∧ (s.shepTake g).2.commits = s.commits ∧ (s.shepTake g).2.resetting = s.resetting ∧ (s.shepTake g).2.pwr = s.pwr ∧ (s.shepTake g).2.hk = s.hk ∧ (s.shepTake g).2.clk = s.clk ∧ (s.shepTake g).2.bw = s.bw ∧ (s.shepTake g).2.med = s.med ∧ (s.shepTake g).2.roms = s.roms ∧ (s.shepTake g).2.caches = s.caches ∧ (s.shepTake g).2.zl0 = s.zl0 ∧ (s.shepTake g).2.zl1 = s.zl1 ∧ (s.shepTake g).2.ring = s.ring ∧ (s.shepTake g).2.mbox = s.mbox ∧ (s.shepTake g).2.dbg = s.dbg ∧ (s.shepTake g).2.i3c = s.i3c ∧ (s.shepTake g).2.drawn = s.drawn := by
  have f1 := @State.bump_frame; have f2 := @State.onGang_frame; have f3 := @State.passEnd_frame; have f4 := @State.setFld_frame
  dsimp only [State.shepTake]; (repeat' split) <;> simp [f1, f2, f3, f4]
theorem State.bgPick_frame (s : State) (g : Nat) : (s.bgPick g).2.pending = s.pending ∧ (s.bgPick g).2.variant = s.variant ∧ (s.bgPick g).2.applied = s.applied ∧ (s.bgPick g).2.latches = s.latches ∧ (s.bgPick g).2.commits = s.commits ∧ (s.bgPick g).2.resetting = s.resetting ∧ (s.bgPick g).2.pwr = s.pwr ∧ (s.bgPick g).2.hk = s.hk ∧ (s.bgPick g).2.clk = s.clk ∧ (s.bgPick g).2.bw = s.bw ∧ (s.bgPick g).2.med = s.med ∧ (s.bgPick g).2.roms = s.roms ∧ (s.bgPick g).2.caches = s.caches ∧ (s.bgPick g).2.zl0 = s.zl0 ∧ (s.bgPick g).2.zl1 = s.zl1 ∧ (s.bgPick g).2.ring = s.ring ∧ (s.bgPick g).2.mbox = s.mbox ∧ (s.bgPick g).2.dbg = s.dbg ∧ (s.bgPick g).2.i3c = s.i3c ∧ (s.bgPick g).2.drawn = s.drawn := by
  have f1 := @State.foldTake_frame; have f2 := @State.oldTake_frame; have f3 := @State.padTake_frame; have f4 := @State.passTake_frame; have f5 := @State.rebTake_frame; have f6 := @State.rewTake_frame; have f7 := @State.shepTake_frame; have f8 := @State.verTake_frame
  simp [State.bgPick, f1, f2, f3, f4, f5, f6, f7, f8]
theorem State.bgStart_frame (s : State) (work : BgWork) (psa : Nat) : (s.bgStart work psa).pending = s.pending ∧ (s.bgStart work psa).variant = s.variant ∧ (s.bgStart work psa).applied = s.applied ∧ (s.bgStart work psa).latches = s.latches ∧ (s.bgStart work psa).commits = s.commits ∧ (s.bgStart work psa).resetting = s.resetting ∧ (s.bgStart work psa).pwr = s.pwr ∧ (s.bgStart work psa).hk = s.hk ∧ (s.bgStart work psa).clk = s.clk ∧ (s.bgStart work psa).bw = s.bw ∧ (s.bgStart work psa).med = s.med ∧ (s.bgStart work psa).roms = s.roms ∧ (s.bgStart work psa).caches = s.caches ∧ (s.bgStart work psa).zl0 = s.zl0 ∧ (s.bgStart work psa).zl1 = s.zl1 ∧ (s.bgStart work psa).ring = s.ring ∧ (s.bgStart work psa).mbox = s.mbox ∧ (s.bgStart work psa).dbg = s.dbg ∧ (s.bgStart work psa).i3c = s.i3c ∧ (s.bgStart work psa).drawn = s.drawn := by
  have f1 := @State.bgCommands_frame; have f2 := @State.onReads_frame
  unfold State.bgStart
  simp only [State.bgCommands_frame, State.onReads_frame, and_self]

end Sys2Proof.Machine
end

