-- ==== Sys2Proof/Laws/FrameStream.lean ====
section
/-! SUPPORT. Frames of the operations of Machine/Stream.lean: the fields of State that each leaves as they were. -/

set_option maxRecDepth 4000
set_option linter.unusedSimpArgs false

namespace Sys2Proof.Machine

theorem State.onSreq_frame (s : State) (i : Nat) (f : Req → Req) : (s.onSreq i f).pending = s.pending ∧ (s.onSreq i f).variant = s.variant ∧ (s.onSreq i f).applied = s.applied ∧ (s.onSreq i f).latches = s.latches ∧ (s.onSreq i f).commits = s.commits ∧ (s.onSreq i f).resetting = s.resetting ∧ (s.onSreq i f).dev = s.dev ∧ (s.onSreq i f).pwr = s.pwr ∧ (s.onSreq i f).hk = s.hk ∧ (s.onSreq i f).clk = s.clk ∧ (s.onSreq i f).bw = s.bw ∧ (s.onSreq i f).gang0 = s.gang0 ∧ (s.onSreq i f).gang1 = s.gang1 ∧ (s.onSreq i f).med = s.med ∧ (s.onSreq i f).roms = s.roms ∧ (s.onSreq i f).xlt = s.xlt ∧ (s.onSreq i f).prot = s.prot ∧ (s.onSreq i f).caches = s.caches ∧ (s.onSreq i f).dram = s.dram ∧ (s.onSreq i f).reads = s.reads ∧ (s.onSreq i f).drift = s.drift ∧ (s.onSreq i f).zl0 = s.zl0 ∧ (s.onSreq i f).zl1 = s.zl1 ∧ (s.onSreq i f).pmc = s.pmc ∧ (s.onSreq i f).ring = s.ring ∧ (s.onSreq i f).mbox = s.mbox ∧ (s.onSreq i f).pnv = s.pnv ∧ (s.onSreq i f).nvm = s.nvm ∧ (s.onSreq i f).srm = s.srm ∧ (s.onSreq i f).dbg = s.dbg ∧ (s.onSreq i f).i3c = s.i3c ∧ (s.onSreq i f).drawn = s.drawn := by
  have f1 := @State.onStrm_frame
  simp [State.onSreq, f1]
theorem State.engineWrite_frame (s : State) (dpa : Nat) (keyid : Nat) (tag : Nat) (d : Line) : (s.engineWrite dpa keyid tag d).pending = s.pending ∧ (s.engineWrite dpa keyid tag d).variant = s.variant ∧ (s.engineWrite dpa keyid tag d).applied = s.applied ∧ (s.engineWrite dpa keyid tag d).latches = s.latches ∧ (s.engineWrite dpa keyid tag d).commits = s.commits ∧ (s.engineWrite dpa keyid tag d).resetting = s.resetting ∧ (s.engineWrite dpa keyid tag d).pwr = s.pwr ∧ (s.engineWrite dpa keyid tag d).hk = s.hk ∧ (s.engineWrite dpa keyid tag d).clk = s.clk ∧ (s.engineWrite dpa keyid tag d).med = s.med ∧ (s.engineWrite dpa keyid tag d).roms = s.roms ∧ (s.engineWrite dpa keyid tag d).dbg = s.dbg ∧ (s.engineWrite dpa keyid tag d).i3c = s.i3c := by
  have f1 := @State.ackWrite_frame; have f2 := @State.storeLine_frame; have f3 := @State.takeLine_frame
  simp [State.engineWrite, f1, f2, f3]
theorem State.fillStream_frame (s : State) (p : Packet) (noFill : List Nat) (sector : Nat) (b : List Nat) : (s.fillStream p noFill sector b).pending = s.pending ∧ (s.fillStream p noFill sector b).variant = s.variant ∧ (s.fillStream p noFill sector b).applied = s.applied ∧ (s.fillStream p noFill sector b).latches = s.latches ∧ (s.fillStream p noFill sector b).commits = s.commits ∧ (s.fillStream p noFill sector b).resetting = s.resetting ∧ (s.fillStream p noFill sector b).dev = s.dev ∧ (s.fillStream p noFill sector b).pwr = s.pwr ∧ (s.fillStream p noFill sector b).hk = s.hk ∧ (s.fillStream p noFill sector b).clk = s.clk ∧ (s.fillStream p noFill sector b).gang0 = s.gang0 ∧ (s.fillStream p noFill sector b).gang1 = s.gang1 ∧ (s.fillStream p noFill sector b).med = s.med ∧ (s.fillStream p noFill sector b).roms = s.roms ∧ (s.fillStream p noFill sector b).prot = s.prot ∧ (s.fillStream p noFill sector b).drift = s.drift ∧ (s.fillStream p noFill sector b).zl0 = s.zl0 ∧ (s.fillStream p noFill sector b).zl1 = s.zl1 ∧ (s.fillStream p noFill sector b).mbox = s.mbox ∧ (s.fillStream p noFill sector b).nvm = s.nvm ∧ (s.fillStream p noFill sector b).srm = s.srm ∧ (s.fillStream p noFill sector b).dbg = s.dbg ∧ (s.fillStream p noFill sector b).i3c = s.i3c ∧ (s.fillStream p noFill sector b).drawn = s.drawn := by
  have f1 := @State.sendFill_frame
  simp [State.fillStream, f1]
theorem State.collectRd_frame (s : State) (q : Req) (r : Rd) : (s.collectRd q r).pending = s.pending ∧ (s.collectRd q r).variant = s.variant ∧ (s.collectRd q r).applied = s.applied ∧ (s.collectRd q r).latches = s.latches ∧ (s.collectRd q r).commits = s.commits ∧ (s.collectRd q r).resetting = s.resetting ∧ (s.collectRd q r).dev = s.dev ∧ (s.collectRd q r).pwr = s.pwr ∧ (s.collectRd q r).hk = s.hk ∧ (s.collectRd q r).clk = s.clk ∧ (s.collectRd q r).gang0 = s.gang0 ∧ (s.collectRd q r).gang1 = s.gang1 ∧ (s.collectRd q r).med = s.med ∧ (s.collectRd q r).roms = s.roms ∧ (s.collectRd q r).prot = s.prot ∧ (s.collectRd q r).drift = s.drift ∧ (s.collectRd q r).zl0 = s.zl0 ∧ (s.collectRd q r).zl1 = s.zl1 ∧ (s.collectRd q r).mbox = s.mbox ∧ (s.collectRd q r).nvm = s.nvm ∧ (s.collectRd q r).srm = s.srm ∧ (s.collectRd q r).dbg = s.dbg ∧ (s.collectRd q r).i3c = s.i3c ∧ (s.collectRd q r).drawn = s.drawn := by
  have f1 := @State.endRd_frame; have f2 := @State.fillStream_frame; have f3 := @State.moved_frame; have f4 := @State.onSreq_frame
  simp (disch := (intros; (repeat' split) <;> simp [f1, f2, f3, f4])) [State.collectRd, f1, f2, f3, f4]
theorem State.collect_frame (s : State) (i : Nat) : (s.collect i).pending = s.pending ∧ (s.collect i).variant = s.variant ∧ (s.collect i).applied = s.applied ∧ (s.collect i).latches = s.latches ∧ (s.collect i).commits = s.commits ∧ (s.collect i).resetting = s.resetting ∧ (s.collect i).dev = s.dev ∧ (s.collect i).pwr = s.pwr ∧ (s.collect i).hk = s.hk ∧ (s.collect i).clk = s.clk ∧ (s.collect i).gang0 = s.gang0 ∧ (s.collect i).gang1 = s.gang1 ∧ (s.collect i).med = s.med ∧ (s.collect i).roms = s.roms ∧ (s.collect i).prot = s.prot ∧ (s.collect i).drift = s.drift ∧ (s.collect i).zl0 = s.zl0 ∧ (s.collect i).zl1 = s.zl1 ∧ (s.collect i).mbox = s.mbox ∧ (s.collect i).nvm = s.nvm ∧ (s.collect i).srm = s.srm ∧ (s.collect i).dbg = s.dbg ∧ (s.collect i).i3c = s.i3c ∧ (s.collect i).drawn = s.drawn := by
  have f1 := @State.collectRd_frame
  dsimp only [State.collect]; (repeat' split) <;> simp [f1]
theorem State.deliverBytes_frame (s0 : State) (r : Req) (avail : List Nat) (b : Nat) : (s0.deliverBytes r avail b).pending = s0.pending ∧ (s0.deliverBytes r avail b).variant = s0.variant ∧ (s0.deliverBytes r avail b).applied = s0.applied ∧ (s0.deliverBytes r avail b).latches = s0.latches ∧ (s0.deliverBytes r avail b).commits = s0.commits ∧ (s0.deliverBytes r avail b).resetting = s0.resetting ∧ (s0.deliverBytes r avail b).dev = s0.dev ∧ (s0.deliverBytes r avail b).pwr = s0.pwr ∧ (s0.deliverBytes r avail b).hk = s0.hk ∧ (s0.deliverBytes r avail b).clk = s0.clk ∧ (s0.deliverBytes r avail b).gang0 = s0.gang0 ∧ (s0.deliverBytes r avail b).gang1 = s0.gang1 ∧ (s0.deliverBytes r avail b).med = s0.med ∧ (s0.deliverBytes r avail b).roms = s0.roms ∧ (s0.deliverBytes r avail b).prot = s0.prot ∧ (s0.deliverBytes r avail b).drift = s0.drift ∧ (s0.deliverBytes r avail b).zl0 = s0.zl0 ∧ (s0.deliverBytes r avail b).zl1 = s0.zl1 ∧ (s0.deliverBytes r avail b).mbox = s0.mbox ∧ (s0.deliverBytes r avail b).nvm = s0.nvm ∧ (s0.deliverBytes r avail b).srm = s0.srm ∧ (s0.deliverBytes r avail b).dbg = s0.dbg ∧ (s0.deliverBytes r avail b).i3c = s0.i3c ∧ (s0.deliverBytes r avail b).drawn = s0.drawn := by
  have f1 := @State.bump48_frame; have f2 := @State.moved_frame; have f3 := @State.onSreq_frame; have f4 := @State.sendWrites_frame
  simp [State.deliverBytes, f1, f2, f3, f4]
theorem State.drainWrite_frame (s : State) (i : Nat) (fuel : Nat) : (s.drainWrite i fuel).pending = s.pending ∧ (s.drainWrite i fuel).variant = s.variant ∧ (s.drainWrite i fuel).applied = s.applied ∧ (s.drainWrite i fuel).latches = s.latches ∧ (s.drainWrite i fuel).commits = s.commits ∧ (s.drainWrite i fuel).resetting = s.resetting ∧ (s.drainWrite i fuel).pwr = s.pwr ∧ (s.drainWrite i fuel).hk = s.hk ∧ (s.drainWrite i fuel).clk = s.clk ∧ (s.drainWrite i fuel).med = s.med ∧ (s.drainWrite i fuel).roms = s.roms ∧ (s.drainWrite i fuel).dbg = s.dbg ∧ (s.drainWrite i fuel).i3c = s.i3c := by
  have f1 := @State.engineWrite_frame; have f2 := @State.groupRefused_frame; have f3 := @State.moved_frame; have f4 := @State.onSreq_frame; have f5 := @State.refusedWrite_frame
  induction fuel generalizing s with
  | zero => simp [State.drainWrite, f1, f2, f3, f4, f5]
  | succ k ih =>
    simp only [State.drainWrite]
    (repeat' split) <;> simp [ih, f1, f2, f3, f4, f5]
theorem State.streamBell_frame (s : State) : (s.streamBell).pending = s.pending ∧ (s.streamBell).variant = s.variant ∧ (s.streamBell).latches = s.latches ∧ (s.streamBell).resetting = s.resetting ∧ (s.streamBell).med = s.med ∧ (s.streamBell).roms = s.roms ∧ (s.streamBell).dbg = s.dbg ∧ (s.streamBell).i3c = s.i3c := by
  have f1 := @State.collect_frame; have f2 := @State.deliverBytes_frame; have f3 := @State.drainWrite_frame; have f4 := @State.onSreq_frame
  dsimp only [State.streamBell]
  split
  · simp [f1, f2, f3, f4]
  · simp (disch := (first | (intros; (repeat' split) <;> (first | rfl | (simp [f1, f2, f3, f4]; done) | (simp (disch := (first | (intros; (repeat' split) <;> (first | rfl | (simp [f1, f2, f3, f4]; done) | fail)) | fail)) [f1, f2, f3, f4]; done) | fail)) | fail)) [f1, f2, f3, f4]
theorem State.strikeAll_frame (s : State) (code : Nat) : (s.strikeAll code).pending = s.pending ∧ (s.strikeAll code).variant = s.variant ∧ (s.strikeAll code).applied = s.applied ∧ (s.strikeAll code).latches = s.latches ∧ (s.strikeAll code).commits = s.commits ∧ (s.strikeAll code).resetting = s.resetting ∧ (s.strikeAll code).dev = s.dev ∧ (s.strikeAll code).pwr = s.pwr ∧ (s.strikeAll code).hk = s.hk ∧ (s.strikeAll code).clk = s.clk ∧ (s.strikeAll code).bw = s.bw ∧ (s.strikeAll code).gang0 = s.gang0 ∧ (s.strikeAll code).gang1 = s.gang1 ∧ (s.strikeAll code).med = s.med ∧ (s.strikeAll code).roms = s.roms ∧ (s.strikeAll code).xlt = s.xlt ∧ (s.strikeAll code).prot = s.prot ∧ (s.strikeAll code).caches = s.caches ∧ (s.strikeAll code).dram = s.dram ∧ (s.strikeAll code).reads = s.reads ∧ (s.strikeAll code).drift = s.drift ∧ (s.strikeAll code).zl0 = s.zl0 ∧ (s.strikeAll code).zl1 = s.zl1 ∧ (s.strikeAll code).pmc = s.pmc ∧ (s.strikeAll code).ring = s.ring ∧ (s.strikeAll code).mbox = s.mbox ∧ (s.strikeAll code).pnv = s.pnv ∧ (s.strikeAll code).nvm = s.nvm ∧ (s.strikeAll code).srm = s.srm ∧ (s.strikeAll code).dbg = s.dbg ∧ (s.strikeAll code).i3c = s.i3c ∧ (s.strikeAll code).drawn = s.drawn := by
  have f1 := @State.onStrm_frame
  simp [State.strikeAll, f1]
theorem State.suspend_frame (s : State) : (s.suspend).pending = s.pending ∧ (s.suspend).variant = s.variant ∧ (s.suspend).applied = s.applied ∧ (s.suspend).latches = s.latches ∧ (s.suspend).commits = s.commits ∧ (s.suspend).resetting = s.resetting ∧ (s.suspend).dev = s.dev ∧ (s.suspend).pwr = s.pwr ∧ (s.suspend).hk = s.hk ∧ (s.suspend).clk = s.clk ∧ (s.suspend).bw = s.bw ∧ (s.suspend).gang0 = s.gang0 ∧ (s.suspend).gang1 = s.gang1 ∧ (s.suspend).med = s.med ∧ (s.suspend).roms = s.roms ∧ (s.suspend).xlt = s.xlt ∧ (s.suspend).prot = s.prot ∧ (s.suspend).caches = s.caches ∧ (s.suspend).dram = s.dram ∧ (s.suspend).reads = s.reads ∧ (s.suspend).drift = s.drift ∧ (s.suspend).zl0 = s.zl0 ∧ (s.suspend).zl1 = s.zl1 ∧ (s.suspend).pmc = s.pmc ∧ (s.suspend).ring = s.ring ∧ (s.suspend).mbox = s.mbox ∧ (s.suspend).pnv = s.pnv ∧ (s.suspend).nvm = s.nvm ∧ (s.suspend).srm = s.srm ∧ (s.suspend).dbg = s.dbg ∧ (s.suspend).i3c = s.i3c ∧ (s.suspend).drawn = s.drawn := by
  have f1 := @State.raise_frame; have f2 := @State.setFlag_frame; have f3 := @State.strikeAll_frame
  simp [State.suspend, f1, f2, f3]
theorem State.finishDict_frame (s : State) (r : Req) (g : Nat) (x : Option ZDict) : (s.finishDict r g x).pending = s.pending ∧ (s.finishDict r g x).variant = s.variant ∧ (s.finishDict r g x).applied = s.applied ∧ (s.finishDict r g x).latches = s.latches ∧ (s.finishDict r g x).commits = s.commits ∧ (s.finishDict r g x).resetting = s.resetting ∧ (s.finishDict r g x).dev = s.dev ∧ (s.finishDict r g x).pwr = s.pwr ∧ (s.finishDict r g x).hk = s.hk ∧ (s.finishDict r g x).clk = s.clk ∧ (s.finishDict r g x).gang0 = s.gang0 ∧ (s.finishDict r g x).gang1 = s.gang1 ∧ (s.finishDict r g x).med = s.med ∧ (s.finishDict r g x).roms = s.roms ∧ (s.finishDict r g x).prot = s.prot ∧ (s.finishDict r g x).drift = s.drift ∧ (s.finishDict r g x).zl0 = s.zl0 ∧ (s.finishDict r g x).zl1 = s.zl1 ∧ (s.finishDict r g x).mbox = s.mbox ∧ (s.finishDict r g x).nvm = s.nvm ∧ (s.finishDict r g x).srm = s.srm ∧ (s.finishDict r g x).dbg = s.dbg ∧ (s.finishDict r g x).i3c = s.i3c ∧ (s.finishDict r g x).drawn = s.drawn := by
  have f1 := @State.raise_frame; have f2 := @State.setDict_frame; have f3 := @State.setFld_frame
  dsimp only [State.finishDict]; (repeat' split) <;> simp [f1, f2, f3]
theorem State.countFormat_frame (s : State) (st : Nat) : (s.countFormat st).pending = s.pending ∧ (s.countFormat st).variant = s.variant ∧ (s.countFormat st).applied = s.applied ∧ (s.countFormat st).latches = s.latches ∧ (s.countFormat st).commits = s.commits ∧ (s.countFormat st).resetting = s.resetting ∧ (s.countFormat st).dev = s.dev ∧ (s.countFormat st).pwr = s.pwr ∧ (s.countFormat st).hk = s.hk ∧ (s.countFormat st).clk = s.clk ∧ (s.countFormat st).gang0 = s.gang0 ∧ (s.countFormat st).gang1 = s.gang1 ∧ (s.countFormat st).med = s.med ∧ (s.countFormat st).roms = s.roms ∧ (s.countFormat st).prot = s.prot ∧ (s.countFormat st).drift = s.drift ∧ (s.countFormat st).zl0 = s.zl0 ∧ (s.countFormat st).zl1 = s.zl1 ∧ (s.countFormat st).mbox = s.mbox ∧ (s.countFormat st).nvm = s.nvm ∧ (s.countFormat st).srm = s.srm ∧ (s.countFormat st).dbg = s.dbg ∧ (s.countFormat st).i3c = s.i3c ∧ (s.countFormat st).drawn = s.drawn := by
  have f1 := @State.bump_frame; have f2 := @State.raise_frame
  simp [State.countFormat, f1, f2]
theorem State.dropReq_frame (s : State) (r : Req) : (s.dropReq r).pending = s.pending ∧ (s.dropReq r).variant = s.variant ∧ (s.dropReq r).applied = s.applied ∧ (s.dropReq r).latches = s.latches ∧ (s.dropReq r).commits = s.commits ∧ (s.dropReq r).resetting = s.resetting ∧ (s.dropReq r).dev = s.dev ∧ (s.dropReq r).pwr = s.pwr ∧ (s.dropReq r).hk = s.hk ∧ (s.dropReq r).clk = s.clk ∧ (s.dropReq r).gang0 = s.gang0 ∧ (s.dropReq r).gang1 = s.gang1 ∧ (s.dropReq r).med = s.med ∧ (s.dropReq r).roms = s.roms ∧ (s.dropReq r).prot = s.prot ∧ (s.dropReq r).drift = s.drift ∧ (s.dropReq r).zl0 = s.zl0 ∧ (s.dropReq r).zl1 = s.zl1 ∧ (s.dropReq r).mbox = s.mbox ∧ (s.dropReq r).nvm = s.nvm ∧ (s.dropReq r).srm = s.srm ∧ (s.dropReq r).dbg = s.dbg ∧ (s.dropReq r).i3c = s.i3c ∧ (s.dropReq r).drawn = s.drawn := by
  have f1 := @State.freeCell_frame; have f2 := @State.onReads_frame; have f3 := @State.onStrm_frame
  simp [State.dropReq, f1, f2, f3]
theorem State.failReq_frame (s0 : State) (r : Req) (st : Nat) (detail : Nat) : (s0.failReq r st detail).pending = s0.pending ∧ (s0.failReq r st detail).variant = s0.variant ∧ (s0.failReq r st detail).applied = s0.applied ∧ (s0.failReq r st detail).latches = s0.latches ∧ (s0.failReq r st detail).commits = s0.commits ∧ (s0.failReq r st detail).resetting = s0.resetting ∧ (s0.failReq r st detail).dev = s0.dev ∧ (s0.failReq r st detail).pwr = s0.pwr ∧ (s0.failReq r st detail).hk = s0.hk ∧ (s0.failReq r st detail).clk = s0.clk ∧ (s0.failReq r st detail).gang0 = s0.gang0 ∧ (s0.failReq r st detail).gang1 = s0.gang1 ∧ (s0.failReq r st detail).med = s0.med ∧ (s0.failReq r st detail).roms = s0.roms ∧ (s0.failReq r st detail).prot = s0.prot ∧ (s0.failReq r st detail).drift = s0.drift ∧ (s0.failReq r st detail).zl0 = s0.zl0 ∧ (s0.failReq r st detail).zl1 = s0.zl1 ∧ (s0.failReq r st detail).mbox = s0.mbox ∧ (s0.failReq r st detail).nvm = s0.nvm ∧ (s0.failReq r st detail).srm = s0.srm ∧ (s0.failReq r st detail).dbg = s0.dbg ∧ (s0.failReq r st detail).i3c = s0.i3c ∧ (s0.failReq r st detail).drawn = s0.drawn := by
  have f1 := @State.bump_frame; have f2 := @State.countFormat_frame; have f3 := @State.dropReq_frame; have f4 := @State.finishDict_frame; have f5 := @State.lastEvent_frame; have f6 := @State.raise_frame
  dsimp only [State.failReq]; (repeat' split) <;> simp [f1, f2, f3, f4, f5, f6]
theorem State.penFlush_frame (s : State) (p : Nat) : (s.penFlush p).pending = s.pending ∧ (s.penFlush p).variant = s.variant ∧ (s.penFlush p).latches = s.latches ∧ (s.penFlush p).clk = s.clk ∧ (s.penFlush p).med = s.med ∧ (s.penFlush p).roms = s.roms ∧ (s.penFlush p).i3c = s.i3c := by
  have f1 := @State.failReq_frame; have f2 := @State.onStrm_frame; have f3 := @State.refusePacket_frame; have f4 := @State.rewind_frame; have f5 := @State.setFld_frame; have f6 := @State.setPenSlot_frame
  dsimp only [State.penFlush]
  simp (disch := (first | (intros; (repeat' split) <;> (first | rfl | (simp [f1, f2, f3, f4, f5, f6]; done) | (simp (disch := (first | (intros; (repeat' split) <;> (first | rfl | (simp [f1, f2, f3, f4, f5, f6]; done) | fail)) | fail)) [f1, f2, f3, f4, f5, f6]; done) | fail)) | fail)) [f1, f2, f3, f4, f5, f6]
theorem State.stopStreams_frame (s : State) : (s.stopStreams).pending = s.pending ∧ (s.stopStreams).variant = s.variant ∧ (s.stopStreams).latches = s.latches ∧ (s.stopStreams).resetting = s.resetting ∧ (s.stopStreams).clk = s.clk ∧ (s.stopStreams).med = s.med ∧ (s.stopStreams).roms = s.roms ∧ (s.stopStreams).dbg = s.dbg ∧ (s.stopStreams).i3c = s.i3c := by
  have f1 := @State.onReads_frame
  simp [State.stopStreams, f1]
theorem State.countLane_frame (s : State) (r : Req) : (s.countLane r).pending = s.pending ∧ (s.countLane r).variant = s.variant ∧ (s.countLane r).applied = s.applied ∧ (s.countLane r).latches = s.latches ∧ (s.countLane r).commits = s.commits ∧ (s.countLane r).resetting = s.resetting ∧ (s.countLane r).dev = s.dev ∧ (s.countLane r).pwr = s.pwr ∧ (s.countLane r).hk = s.hk ∧ (s.countLane r).clk = s.clk ∧ (s.countLane r).bw = s.bw ∧ (s.countLane r).gang0 = s.gang0 ∧ (s.countLane r).gang1 = s.gang1 ∧ (s.countLane r).med = s.med ∧ (s.countLane r).roms = s.roms ∧ (s.countLane r).xlt = s.xlt ∧ (s.countLane r).prot = s.prot ∧ (s.countLane r).caches = s.caches ∧ (s.countLane r).dram = s.dram ∧ (s.countLane r).reads = s.reads ∧ (s.countLane r).drift = s.drift ∧ (s.countLane r).zl0 = s.zl0 ∧ (s.countLane r).zl1 = s.zl1 ∧ (s.countLane r).pmc = s.pmc ∧ (s.countLane r).ring = s.ring ∧ (s.countLane r).mbox = s.mbox ∧ (s.countLane r).pnv = s.pnv ∧ (s.countLane r).nvm = s.nvm ∧ (s.countLane r).srm = s.srm ∧ (s.countLane r).dbg = s.dbg ∧ (s.countLane r).i3c = s.i3c ∧ (s.countLane r).drawn = s.drawn := by
  have f1 := @State.bump_frame; have f2 := @State.raise_frame
  dsimp only [State.countLane]; (repeat' split) <;> simp [f1, f2]
theorem State.doneReq_frame (s : State) (r : Req) : (s.doneReq r).pending = s.pending ∧ (s.doneReq r).variant = s.variant ∧ (s.doneReq r).applied = s.applied ∧ (s.doneReq r).latches = s.latches ∧ (s.doneReq r).commits = s.commits ∧ (s.doneReq r).resetting = s.resetting ∧ (s.doneReq r).dev = s.dev ∧ (s.doneReq r).pwr = s.pwr ∧ (s.doneReq r).hk = s.hk ∧ (s.doneReq r).clk = s.clk ∧ (s.doneReq r).gang0 = s.gang0 ∧ (s.doneReq r).gang1 = s.gang1 ∧ (s.doneReq r).med = s.med ∧ (s.doneReq r).roms = s.roms ∧ (s.doneReq r).prot = s.prot ∧ (s.doneReq r).drift = s.drift ∧ (s.doneReq r).zl0 = s.zl0 ∧ (s.doneReq r).zl1 = s.zl1 ∧ (s.doneReq r).mbox = s.mbox ∧ (s.doneReq r).nvm = s.nvm ∧ (s.doneReq r).srm = s.srm ∧ (s.doneReq r).dbg = s.dbg ∧ (s.doneReq r).i3c = s.i3c ∧ (s.doneReq r).drawn = s.drawn := by
  have f1 := @State.bump_frame; have f2 := @State.dropReq_frame; have f3 := @State.ev_frame; have f4 := @State.lastEvent_frame; have f5 := @State.raise_frame; have f6 := @State.writeStatus_frame
  simp [State.doneReq, f1, f2, f3, f4, f5, f6]
theorem State.useMedia_frame (s : State) (q : Req) (b : Book) : (s.useMedia q b).pending = s.pending ∧ (s.useMedia q b).variant = s.variant ∧ (s.useMedia q b).applied = s.applied ∧ (s.useMedia q b).latches = s.latches ∧ (s.useMedia q b).commits = s.commits ∧ (s.useMedia q b).resetting = s.resetting ∧ (s.useMedia q b).dev = s.dev ∧ (s.useMedia q b).pwr = s.pwr ∧ (s.useMedia q b).hk = s.hk ∧ (s.useMedia q b).clk = s.clk ∧ (s.useMedia q b).bw = s.bw ∧ (s.useMedia q b).gang0 = s.gang0 ∧ (s.useMedia q b).gang1 = s.gang1 ∧ (s.useMedia q b).med = s.med ∧ (s.useMedia q b).roms = s.roms ∧ (s.useMedia q b).dram = s.dram ∧ (s.useMedia q b).drift = s.drift ∧ (s.useMedia q b).pnv = s.pnv ∧ (s.useMedia q b).nvm = s.nvm ∧ (s.useMedia q b).srm = s.srm ∧ (s.useMedia q b).dbg = s.dbg ∧ (s.useMedia q b).i3c = s.i3c ∧ (s.useMedia q b).drawn = s.drawn := by
  dsimp only [State.useMedia]; (repeat' split) <;> simp
theorem State.streamLook_frame (s : State) (p : Packet) (a : Nat) : (s.streamLook p a).pending = s.pending ∧ (s.streamLook p a).variant = s.variant ∧ (s.streamLook p a).applied = s.applied ∧ (s.streamLook p a).latches = s.latches ∧ (s.streamLook p a).commits = s.commits ∧ (s.streamLook p a).resetting = s.resetting ∧ (s.streamLook p a).dev = s.dev ∧ (s.streamLook p a).pwr = s.pwr ∧ (s.streamLook p a).hk = s.hk ∧ (s.streamLook p a).clk = s.clk ∧ (s.streamLook p a).bw = s.bw ∧ (s.streamLook p a).gang0 = s.gang0 ∧ (s.streamLook p a).gang1 = s.gang1 ∧ (s.streamLook p a).med = s.med ∧ (s.streamLook p a).roms = s.roms ∧ (s.streamLook p a).dram = s.dram ∧ (s.streamLook p a).drift = s.drift ∧ (s.streamLook p a).pnv = s.pnv ∧ (s.streamLook p a).nvm = s.nvm ∧ (s.streamLook p a).srm = s.srm ∧ (s.streamLook p a).dbg = s.dbg ∧ (s.streamLook p a).i3c = s.i3c ∧ (s.streamLook p a).drawn = s.drawn := by
  have f1 := @State.lookIn_frame; have f2 := @State.lookSmall_frame
  simp [State.streamLook, f1, f2]
theorem State.mediaRead_frame (s : State) (q : Req) (b : Book) : (s.mediaRead q b).pending = s.pending ∧ (s.mediaRead q b).variant = s.variant ∧ (s.mediaRead q b).applied = s.applied ∧ (s.mediaRead q b).latches = s.latches ∧ (s.mediaRead q b).commits = s.commits ∧ (s.mediaRead q b).resetting = s.resetting ∧ (s.mediaRead q b).dev = s.dev ∧ (s.mediaRead q b).pwr = s.pwr ∧ (s.mediaRead q b).hk = s.hk ∧ (s.mediaRead q b).clk = s.clk ∧ (s.mediaRead q b).bw = s.bw ∧ (s.mediaRead q b).gang0 = s.gang0 ∧ (s.mediaRead q b).gang1 = s.gang1 ∧ (s.mediaRead q b).med = s.med ∧ (s.mediaRead q b).roms = s.roms ∧ (s.mediaRead q b).dram = s.dram ∧ (s.mediaRead q b).drift = s.drift ∧ (s.mediaRead q b).pnv = s.pnv ∧ (s.mediaRead q b).nvm = s.nvm ∧ (s.mediaRead q b).srm = s.srm ∧ (s.mediaRead q b).dbg = s.dbg ∧ (s.mediaRead q b).i3c = s.i3c ∧ (s.mediaRead q b).drawn = s.drawn := by
  have f1 := @State.addRead_frame; have f2 := @State.cartCmd_frame; have f3 := @State.onSreq_frame; have f4 := @State.streamLook_frame; have f5 := @State.useMedia_frame
  dsimp only [State.mediaRead]; (repeat' split) <;> simp [f1, f2, f3, f4, f5]
theorem State.startLane_frame (s : State) (r : Req) (dict : Option ZDict) (st : Nat) (n : Nat) : (s.startLane r dict st n).pending = s.pending ∧ (s.startLane r dict st n).variant = s.variant ∧ (s.startLane r dict st n).applied = s.applied ∧ (s.startLane r dict st n).latches = s.latches ∧ (s.startLane r dict st n).commits = s.commits ∧ (s.startLane r dict st n).resetting = s.resetting ∧ (s.startLane r dict st n).dev = s.dev ∧ (s.startLane r dict st n).pwr = s.pwr ∧ (s.startLane r dict st n).hk = s.hk ∧ (s.startLane r dict st n).clk = s.clk ∧ (s.startLane r dict st n).gang0 = s.gang0 ∧ (s.startLane r dict st n).gang1 = s.gang1 ∧ (s.startLane r dict st n).med = s.med ∧ (s.startLane r dict st n).roms = s.roms ∧ (s.startLane r dict st n).prot = s.prot ∧ (s.startLane r dict st n).drift = s.drift ∧ (s.startLane r dict st n).zl0 = s.zl0 ∧ (s.startLane r dict st n).zl1 = s.zl1 ∧ (s.startLane r dict st n).mbox = s.mbox ∧ (s.startLane r dict st n).nvm = s.nvm ∧ (s.startLane r dict st n).srm = s.srm ∧ (s.startLane r dict st n).dbg = s.dbg ∧ (s.startLane r dict st n).i3c = s.i3c ∧ (s.startLane r dict st n).drawn = s.drawn := by
  have f1 := @State.onSreq_frame
  simp [State.startLane, f1]
theorem State.unsuspend_frame (s : State) : (s.unsuspend).pending = s.pending ∧ (s.unsuspend).variant = s.variant ∧ (s.unsuspend).applied = s.applied ∧ (s.unsuspend).latches = s.latches ∧ (s.unsuspend).commits = s.commits ∧ (s.unsuspend).resetting = s.resetting ∧ (s.unsuspend).dev = s.dev ∧ (s.unsuspend).pwr = s.pwr ∧ (s.unsuspend).hk = s.hk ∧ (s.unsuspend).clk = s.clk ∧ (s.unsuspend).bw = s.bw ∧ (s.unsuspend).gang0 = s.gang0 ∧ (s.unsuspend).gang1 = s.gang1 ∧ (s.unsuspend).med = s.med ∧ (s.unsuspend).roms = s.roms ∧ (s.unsuspend).xlt = s.xlt ∧ (s.unsuspend).prot = s.prot ∧ (s.unsuspend).caches = s.caches ∧ (s.unsuspend).dram = s.dram ∧ (s.unsuspend).reads = s.reads ∧ (s.unsuspend).drift = s.drift ∧ (s.unsuspend).zl0 = s.zl0 ∧ (s.unsuspend).zl1 = s.zl1 ∧ (s.unsuspend).pmc = s.pmc ∧ (s.unsuspend).ring = s.ring ∧ (s.unsuspend).mbox = s.mbox ∧ (s.unsuspend).pnv = s.pnv ∧ (s.unsuspend).nvm = s.nvm ∧ (s.unsuspend).srm = s.srm ∧ (s.unsuspend).dbg = s.dbg ∧ (s.unsuspend).i3c = s.i3c ∧ (s.unsuspend).drawn = s.drawn := by
  have f1 := @State.askHosts_frame; have f2 := @State.emit_frame; have f3 := @State.onStrm_frame; have f4 := @State.setFlag_frame
  simp [State.unsuspend, f1, f2, f3, f4]
theorem State.writeData_frame (s : State) (i : Nat) (off : Nat) (ok : Bool) (bytes : List Nat) : (s.writeData i off ok bytes).pending = s.pending ∧ (s.writeData i off ok bytes).variant = s.variant ∧ (s.writeData i off ok bytes).applied = s.applied ∧ (s.writeData i off ok bytes).latches = s.latches ∧ (s.writeData i off ok bytes).commits = s.commits ∧ (s.writeData i off ok bytes).resetting = s.resetting ∧ (s.writeData i off ok bytes).pwr = s.pwr ∧ (s.writeData i off ok bytes).hk = s.hk ∧ (s.writeData i off ok bytes).clk = s.clk ∧ (s.writeData i off ok bytes).med = s.med ∧ (s.writeData i off ok bytes).roms = s.roms ∧ (s.writeData i off ok bytes).i3c = s.i3c := by
  have f1 := @State.askHosts_frame; have f2 := @State.drainWrite_frame; have f3 := @State.onSreq_frame
  simp [State.writeData, f1, f2, f3]

end Sys2Proof.Machine
end

