-- ==== Sys2Proof/Laws/FrameCartMount.lean ====
section
/-! SUPPORT. Frames of the operations of Machine/CartMount.lean: the fields of State that each leaves as they were. -/

set_option maxRecDepth 4000
set_option linter.unusedSimpArgs false

namespace Sys2Proof.Machine

theorem State.mountFail_frame (s : State) (n : Nat) (cause : Nat) : (s.mountFail n cause).pending = s.pending ∧ (s.mountFail n cause).variant = s.variant ∧ (s.mountFail n cause).applied = s.applied ∧ (s.mountFail n cause).latches = s.latches ∧ (s.mountFail n cause).commits = s.commits ∧ (s.mountFail n cause).resetting = s.resetting ∧ (s.mountFail n cause).pwr = s.pwr ∧ (s.mountFail n cause).hk = s.hk ∧ (s.mountFail n cause).clk = s.clk ∧ (s.mountFail n cause).med = s.med ∧ (s.mountFail n cause).roms = s.roms ∧ (s.mountFail n cause).i3c = s.i3c := by
  have f1 := @State.mountFailed_frame; have f2 := @State.tremor_frame
  simp [State.mountFail, f1, f2]
theorem State.cartMountDue_frame (s : State) (n : Nat) : (s.cartMountDue n).pending = s.pending ∧ (s.cartMountDue n).variant = s.variant ∧ (s.cartMountDue n).latches = s.latches ∧ (s.cartMountDue n).resetting = s.resetting ∧ (s.cartMountDue n).med = s.med ∧ (s.cartMountDue n).roms = s.roms ∧ (s.cartMountDue n).dbg = s.dbg ∧ (s.cartMountDue n).i3c = s.i3c := by
  have f1 := @State.onZl_frame; have f2 := @State.raise_frame; have f3 := @State.setFld_frame; have f4 := @State.zlTo_frame
  simp [State.cartMountDue, f1, f2, f3, f4]
theorem State.removedNote_frame (s : State) (n : Nat) : (s.removedNote n).pending = s.pending ∧ (s.removedNote n).variant = s.variant ∧ (s.removedNote n).applied = s.applied ∧ (s.removedNote n).latches = s.latches ∧ (s.removedNote n).commits = s.commits ∧ (s.removedNote n).resetting = s.resetting ∧ (s.removedNote n).dev = s.dev ∧ (s.removedNote n).pwr = s.pwr ∧ (s.removedNote n).hk = s.hk ∧ (s.removedNote n).clk = s.clk ∧ (s.removedNote n).bw = s.bw ∧ (s.removedNote n).gang0 = s.gang0 ∧ (s.removedNote n).gang1 = s.gang1 ∧ (s.removedNote n).med = s.med ∧ (s.removedNote n).roms = s.roms ∧ (s.removedNote n).dram = s.dram ∧ (s.removedNote n).drift = s.drift ∧ (s.removedNote n).pnv = s.pnv ∧ (s.removedNote n).nvm = s.nvm ∧ (s.removedNote n).srm = s.srm ∧ (s.removedNote n).dbg = s.dbg ∧ (s.removedNote n).i3c = s.i3c ∧ (s.removedNote n).drawn = s.drawn := by
  have f1 := @State.event_frame; have f2 := @State.raiseRec_frame
  simp [State.removedNote, f1, f2]
theorem State.cartOff_frame (s : State) (n : Nat) (state : Nat) (after : Nat) (cause : Nat) : (s.cartOff n state after cause).pending = s.pending ∧ (s.cartOff n state after cause).variant = s.variant ∧ (s.cartOff n state after cause).applied = s.applied ∧ (s.cartOff n state after cause).latches = s.latches ∧ (s.cartOff n state after cause).commits = s.commits ∧ (s.cartOff n state after cause).resetting = s.resetting ∧ (s.cartOff n state after cause).dev = s.dev ∧ (s.cartOff n state after cause).pwr = s.pwr ∧ (s.cartOff n state after cause).hk = s.hk ∧ (s.cartOff n state after cause).clk = s.clk ∧ (s.cartOff n state after cause).bw = s.bw ∧ (s.cartOff n state after cause).gang0 = s.gang0 ∧ (s.cartOff n state after cause).gang1 = s.gang1 ∧ (s.cartOff n state after cause).med = s.med ∧ (s.cartOff n state after cause).roms = s.roms ∧ (s.cartOff n state after cause).dram = s.dram ∧ (s.cartOff n state after cause).drift = s.drift ∧ (s.cartOff n state after cause).pnv = s.pnv ∧ (s.cartOff n state after cause).nvm = s.nvm ∧ (s.cartOff n state after cause).srm = s.srm ∧ (s.cartOff n state after cause).dbg = s.dbg ∧ (s.cartOff n state after cause).i3c = s.i3c ∧ (s.cartOff n state after cause).drawn = s.drawn := by
  have f1 := @State.cartLeave_frame; have f2 := @State.cartPowerOff_frame; have f3 := @State.onZl_frame
  simp [State.cartOff, f1, f2, f3]
theorem State.bringUp_frame (s : State) (n : Nat) : (s.bringUp n).pending = s.pending ∧ (s.bringUp n).variant = s.variant ∧ (s.bringUp n).applied = s.applied ∧ (s.bringUp n).latches = s.latches ∧ (s.bringUp n).commits = s.commits ∧ (s.bringUp n).resetting = s.resetting ∧ (s.bringUp n).dev = s.dev ∧ (s.bringUp n).pwr = s.pwr ∧ (s.bringUp n).hk = s.hk ∧ (s.bringUp n).clk = s.clk ∧ (s.bringUp n).bw = s.bw ∧ (s.bringUp n).gang0 = s.gang0 ∧ (s.bringUp n).gang1 = s.gang1 ∧ (s.bringUp n).med = s.med ∧ (s.bringUp n).roms = s.roms ∧ (s.bringUp n).xlt = s.xlt ∧ (s.bringUp n).prot = s.prot ∧ (s.bringUp n).caches = s.caches ∧ (s.bringUp n).dram = s.dram ∧ (s.bringUp n).link = s.link ∧ (s.bringUp n).reads = s.reads ∧ (s.bringUp n).drift = s.drift ∧ (s.bringUp n).ring = s.ring ∧ (s.bringUp n).mbox = s.mbox ∧ (s.bringUp n).pnv = s.pnv ∧ (s.bringUp n).nvm = s.nvm ∧ (s.bringUp n).srm = s.srm ∧ (s.bringUp n).dbg = s.dbg ∧ (s.bringUp n).i3c = s.i3c ∧ (s.bringUp n).drawn = s.drawn := by
  have f1 := @State.onZl_frame; have f2 := @State.setFlag_frame; have f3 := @State.setFld_frame; have f4 := @State.zlTo_frame
  simp [State.bringUp, f1, f2, f3, f4]
theorem State.zlCtrl_frame (s : State) (n : Nat) (src : Source) (w : Nat) : (s.zlCtrl n src w).pending = s.pending ∧ (s.zlCtrl n src w).variant = s.variant ∧ (s.zlCtrl n src w).latches = s.latches ∧ (s.zlCtrl n src w).clk = s.clk ∧ (s.zlCtrl n src w).med = s.med ∧ (s.zlCtrl n src w).roms = s.roms ∧ (s.zlCtrl n src w).i3c = s.i3c := by
  have f1 := @State.bringUp_frame; have f2 := @State.cartOff_frame; have f3 := @State.cfgErr_frame
  simp [State.zlCtrl, f1, f2, f3]
theorem State.cartsUp_frame (s : State) : (s.cartsUp).pending = s.pending ∧ (s.cartsUp).variant = s.variant ∧ (s.cartsUp).latches = s.latches ∧ (s.cartsUp).resetting = s.resetting ∧ (s.cartsUp).clk = s.clk ∧ (s.cartsUp).med = s.med ∧ (s.cartsUp).roms = s.roms ∧ (s.cartsUp).dbg = s.dbg ∧ (s.cartsUp).i3c = s.i3c := by
  have f1 := @State.bringUp_frame
  simp [State.cartsUp, f1]
theorem State.cartPgGood_frame (s : State) (n : Nat) : (s.cartPgGood n).pending = s.pending ∧ (s.cartPgGood n).variant = s.variant ∧ (s.cartPgGood n).applied = s.applied ∧ (s.cartPgGood n).latches = s.latches ∧ (s.cartPgGood n).commits = s.commits ∧ (s.cartPgGood n).resetting = s.resetting ∧ (s.cartPgGood n).clk = s.clk ∧ (s.cartPgGood n).bw = s.bw ∧ (s.cartPgGood n).gang0 = s.gang0 ∧ (s.cartPgGood n).gang1 = s.gang1 ∧ (s.cartPgGood n).med = s.med ∧ (s.cartPgGood n).roms = s.roms ∧ (s.cartPgGood n).xlt = s.xlt ∧ (s.cartPgGood n).prot = s.prot ∧ (s.cartPgGood n).caches = s.caches ∧ (s.cartPgGood n).dram = s.dram ∧ (s.cartPgGood n).link = s.link ∧ (s.cartPgGood n).reads = s.reads ∧ (s.cartPgGood n).drift = s.drift ∧ (s.cartPgGood n).ring = s.ring ∧ (s.cartPgGood n).strm = s.strm ∧ (s.cartPgGood n).mbox = s.mbox ∧ (s.cartPgGood n).srm = s.srm ∧ (s.cartPgGood n).dbg = s.dbg ∧ (s.cartPgGood n).i3c = s.i3c ∧ (s.cartPgGood n).drawn = s.drawn := by
  have f1 := @State.onZl_frame
  simp [State.cartPgGood, f1]
theorem State.manifestDone_frame (s : State) (n : Nat) : (s.manifestDone n).pending = s.pending ∧ (s.manifestDone n).variant = s.variant ∧ (s.manifestDone n).applied = s.applied ∧ (s.manifestDone n).latches = s.latches ∧ (s.manifestDone n).commits = s.commits ∧ (s.manifestDone n).resetting = s.resetting ∧ (s.manifestDone n).pwr = s.pwr ∧ (s.manifestDone n).hk = s.hk ∧ (s.manifestDone n).clk = s.clk ∧ (s.manifestDone n).med = s.med ∧ (s.manifestDone n).roms = s.roms ∧ (s.manifestDone n).i3c = s.i3c := by
  have f1 := @State.mountFail_frame; have f2 := @State.onProt_frame; have f3 := @State.onZl_frame
  simp [State.manifestDone, f1, f2, f3]
theorem State.sendChallenge_frame (s : State) (n : Nat) : (s.sendChallenge n).pending = s.pending ∧ (s.sendChallenge n).variant = s.variant ∧ (s.sendChallenge n).applied = s.applied ∧ (s.sendChallenge n).latches = s.latches ∧ (s.sendChallenge n).commits = s.commits ∧ (s.sendChallenge n).resetting = s.resetting ∧ (s.sendChallenge n).pwr = s.pwr ∧ (s.sendChallenge n).hk = s.hk ∧ (s.sendChallenge n).clk = s.clk ∧ (s.sendChallenge n).med = s.med ∧ (s.sendChallenge n).roms = s.roms ∧ (s.sendChallenge n).i3c = s.i3c := by
  have f1 := @State.cartCmd_frame; have f2 := @State.draw_frame; have f3 := @State.onZl_frame
  simp [State.sendChallenge, f1, f2, f3]
theorem State.mountStep_frame (s : State) (n : Nat) (use : CartUse) (data : List Nat) : (s.mountStep n use data).pending = s.pending ∧ (s.mountStep n use data).variant = s.variant ∧ (s.mountStep n use data).applied = s.applied ∧ (s.mountStep n use data).latches = s.latches ∧ (s.mountStep n use data).commits = s.commits ∧ (s.mountStep n use data).resetting = s.resetting ∧ (s.mountStep n use data).pwr = s.pwr ∧ (s.mountStep n use data).hk = s.hk ∧ (s.mountStep n use data).clk = s.clk ∧ (s.mountStep n use data).med = s.med ∧ (s.mountStep n use data).roms = s.roms ∧ (s.mountStep n use data).i3c = s.i3c := by
  have f1 := @State.cartCmd_frame; have f2 := @State.manifestDone_frame; have f3 := @State.mountFail_frame; have f4 := @State.onZl_frame; have f5 := @State.sendChallenge_frame; have f6 := @State.setFld_frame
  dsimp only [State.mountStep]; (repeat' split) <;> simp [f1, f2, f3, f4, f5, f6]
theorem State.startAuth_frame (s : State) (n : Nat) : (s.startAuth n).pending = s.pending ∧ (s.startAuth n).variant = s.variant ∧ (s.startAuth n).applied = s.applied ∧ (s.startAuth n).latches = s.latches ∧ (s.startAuth n).commits = s.commits ∧ (s.startAuth n).resetting = s.resetting ∧ (s.startAuth n).pwr = s.pwr ∧ (s.startAuth n).hk = s.hk ∧ (s.startAuth n).clk = s.clk ∧ (s.startAuth n).med = s.med ∧ (s.startAuth n).roms = s.roms ∧ (s.startAuth n).i3c = s.i3c := by
  have f1 := @State.cartCmd_frame; have f2 := @State.onZl_frame; have f3 := @State.zlTo_frame
  simp [State.startAuth, f1, f2, f3]

end Sys2Proof.Machine
end

