-- ==== Sys2Proof/Laws/FrameCartWork.lean ====
section
/-! SUPPORT. Frames of the operations of Machine/CartWork.lean: the fields of State that each leaves as they were. -/

set_option maxRecDepth 4000
set_option linter.unusedSimpArgs false

namespace Sys2Proof.Machine

theorem State.sendSave_frame (s : State) (n : Nat) (sv : Save) (pair : Nat × Nat) (again : Bool) : (s.sendSave n sv pair again).pending = s.pending ∧ (s.sendSave n sv pair again).variant = s.variant ∧ (s.sendSave n sv pair again).applied = s.applied ∧ (s.sendSave n sv pair again).latches = s.latches ∧ (s.sendSave n sv pair again).commits = s.commits ∧ (s.sendSave n sv pair again).resetting = s.resetting ∧ (s.sendSave n sv pair again).dev = s.dev ∧ (s.sendSave n sv pair again).pwr = s.pwr ∧ (s.sendSave n sv pair again).hk = s.hk ∧ (s.sendSave n sv pair again).clk = s.clk ∧ (s.sendSave n sv pair again).bw = s.bw ∧ (s.sendSave n sv pair again).gang0 = s.gang0 ∧ (s.sendSave n sv pair again).gang1 = s.gang1 ∧ (s.sendSave n sv pair again).med = s.med ∧ (s.sendSave n sv pair again).roms = s.roms ∧ (s.sendSave n sv pair again).xlt = s.xlt ∧ (s.sendSave n sv pair again).prot = s.prot ∧ (s.sendSave n sv pair again).caches = s.caches ∧ (s.sendSave n sv pair again).dram = s.dram ∧ (s.sendSave n sv pair again).link = s.link ∧ (s.sendSave n sv pair again).reads = s.reads ∧ (s.sendSave n sv pair again).drift = s.drift ∧ (s.sendSave n sv pair again).ring = s.ring ∧ (s.sendSave n sv pair again).mbox = s.mbox ∧ (s.sendSave n sv pair again).pnv = s.pnv ∧ (s.sendSave n sv pair again).nvm = s.nvm ∧ (s.sendSave n sv pair again).srm = s.srm ∧ (s.sendSave n sv pair again).dbg = s.dbg ∧ (s.sendSave n sv pair again).i3c = s.i3c ∧ (s.sendSave n sv pair again).drawn = s.drawn := by
  have f1 := @State.cartCmd_frame; have f2 := @State.onZl_frame
  simp [State.sendSave, f1, f2]
theorem State.saveUnanswered_frame (s : State) (n : Nat) (again : Bool) : (s.saveUnanswered n again).pending = s.pending ∧ (s.saveUnanswered n again).variant = s.variant ∧ (s.saveUnanswered n again).applied = s.applied ∧ (s.saveUnanswered n again).latches = s.latches ∧ (s.saveUnanswered n again).commits = s.commits ∧ (s.saveUnanswered n again).resetting = s.resetting ∧ (s.saveUnanswered n again).dev = s.dev ∧ (s.saveUnanswered n again).pwr = s.pwr ∧ (s.saveUnanswered n again).hk = s.hk ∧ (s.saveUnanswered n again).clk = s.clk ∧ (s.saveUnanswered n again).bw = s.bw ∧ (s.saveUnanswered n again).gang0 = s.gang0 ∧ (s.saveUnanswered n again).gang1 = s.gang1 ∧ (s.saveUnanswered n again).med = s.med ∧ (s.saveUnanswered n again).roms = s.roms ∧ (s.saveUnanswered n again).xlt = s.xlt ∧ (s.saveUnanswered n again).prot = s.prot ∧ (s.saveUnanswered n again).caches = s.caches ∧ (s.saveUnanswered n again).dram = s.dram ∧ (s.saveUnanswered n again).link = s.link ∧ (s.saveUnanswered n again).reads = s.reads ∧ (s.saveUnanswered n again).drift = s.drift ∧ (s.saveUnanswered n again).ring = s.ring ∧ (s.saveUnanswered n again).mbox = s.mbox ∧ (s.saveUnanswered n again).pnv = s.pnv ∧ (s.saveUnanswered n again).nvm = s.nvm ∧ (s.saveUnanswered n again).srm = s.srm ∧ (s.saveUnanswered n again).dbg = s.dbg ∧ (s.saveUnanswered n again).i3c = s.i3c ∧ (s.saveUnanswered n again).drawn = s.drawn := by
  have f1 := @State.saveEnd_frame; have f2 := @State.sendSave_frame
  dsimp only [State.saveUnanswered]; (repeat' split) <;> simp [f1, f2]
theorem State.copyDrain_frame (s : State) (n : Nat) (fuel : Nat) : (s.copyDrain n fuel).pending = s.pending ∧ (s.copyDrain n fuel).variant = s.variant ∧ (s.copyDrain n fuel).applied = s.applied ∧ (s.copyDrain n fuel).latches = s.latches ∧ (s.copyDrain n fuel).commits = s.commits ∧ (s.copyDrain n fuel).resetting = s.resetting ∧ (s.copyDrain n fuel).pwr = s.pwr ∧ (s.copyDrain n fuel).hk = s.hk ∧ (s.copyDrain n fuel).clk = s.clk ∧ (s.copyDrain n fuel).med = s.med ∧ (s.copyDrain n fuel).roms = s.roms ∧ (s.copyDrain n fuel).dbg = s.dbg ∧ (s.copyDrain n fuel).i3c = s.i3c := by
  have f1 := @State.copyEnd_frame; have f2 := @State.engineWrite_frame; have f3 := @State.groupRefused_frame; have f4 := @State.onZl_frame; have f5 := @State.refusedWrite_frame; have f6 := @State.setFld_frame
  induction fuel generalizing s with
  | zero => simp [State.copyDrain, f1, f2, f3, f4, f5, f6]
  | succ k ih =>
    simp only [State.copyDrain]
    (repeat' split) <;> simp [ih, f1, f2, f3, f4, f5, f6]
theorem State.copySector_frame (s : State) (n : Nat) (i : Nat) (o : SecOut) : (s.copySector n i o).pending = s.pending ∧ (s.copySector n i o).variant = s.variant ∧ (s.copySector n i o).applied = s.applied ∧ (s.copySector n i o).latches = s.latches ∧ (s.copySector n i o).commits = s.commits ∧ (s.copySector n i o).resetting = s.resetting ∧ (s.copySector n i o).pwr = s.pwr ∧ (s.copySector n i o).hk = s.hk ∧ (s.copySector n i o).clk = s.clk ∧ (s.copySector n i o).med = s.med ∧ (s.copySector n i o).roms = s.roms ∧ (s.copySector n i o).i3c = s.i3c := by
  have f1 := @State.copyDrain_frame; have f2 := @State.copyEnd_frame; have f3 := @State.onZl_frame
  unfold State.copySector
  cases o <;> dsimp only <;> (repeat' split) <;> simp [f1, f2, f3]
theorem State.saveDecide_frame (s : State) (n : Nat) (o : SecOut) : (s.saveDecide n o).pending = s.pending ∧ (s.saveDecide n o).variant = s.variant ∧ (s.saveDecide n o).applied = s.applied ∧ (s.saveDecide n o).latches = s.latches ∧ (s.saveDecide n o).commits = s.commits ∧ (s.saveDecide n o).resetting = s.resetting ∧ (s.saveDecide n o).pwr = s.pwr ∧ (s.saveDecide n o).hk = s.hk ∧ (s.saveDecide n o).clk = s.clk ∧ (s.saveDecide n o).med = s.med ∧ (s.saveDecide n o).roms = s.roms ∧ (s.saveDecide n o).i3c = s.i3c := by
  have f1 := @State.saveEnd_frame; have f2 := @State.sendSave_frame
  dsimp only [State.saveDecide]; (repeat' split) <;> simp [f1, f2]
theorem State.cartOutcome_frame (s : State) (n : Nat) (u : CartUse) (i : Nat) (o : SecOut) : (s.cartOutcome n u i o).pending = s.pending ∧ (s.cartOutcome n u i o).variant = s.variant ∧ (s.cartOutcome n u i o).applied = s.applied ∧ (s.cartOutcome n u i o).latches = s.latches ∧ (s.cartOutcome n u i o).commits = s.commits ∧ (s.cartOutcome n u i o).resetting = s.resetting ∧ (s.cartOutcome n u i o).pwr = s.pwr ∧ (s.cartOutcome n u i o).hk = s.hk ∧ (s.cartOutcome n u i o).clk = s.clk ∧ (s.cartOutcome n u i o).med = s.med ∧ (s.cartOutcome n u i o).roms = s.roms ∧ (s.cartOutcome n u i o).i3c = s.i3c := by
  have f1 := @State.copySector_frame; have f2 := @State.emit_frame; have f3 := @State.onSreq_frame; have f4 := @State.saveDecide_frame; have f5 := @State.setRd_frame
  unfold State.cartOutcome; cases u <;> cases o <;> dsimp only <;> (try split) <;> simp [f1, f2, f3, f4, f5]
theorem State.retryNote_frame (s : State) (u : CartUse) : (s.retryNote u).pending = s.pending ∧ (s.retryNote u).variant = s.variant ∧ (s.retryNote u).applied = s.applied ∧ (s.retryNote u).latches = s.latches ∧ (s.retryNote u).commits = s.commits ∧ (s.retryNote u).resetting = s.resetting ∧ (s.retryNote u).pwr = s.pwr ∧ (s.retryNote u).hk = s.hk ∧ (s.retryNote u).clk = s.clk ∧ (s.retryNote u).med = s.med ∧ (s.retryNote u).roms = s.roms ∧ (s.retryNote u).i3c = s.i3c := by
  have f1 := @State.onSreq_frame; have f2 := @State.setRd_frame
  dsimp only [State.retryNote]; (repeat' split) <;> simp [f1, f2]
theorem State.sectorFail_frame (s : State) (n : Nat) (c : CartCmd) (i : Nat) : (s.sectorFail n c i).pending = s.pending ∧ (s.sectorFail n c i).variant = s.variant ∧ (s.sectorFail n c i).applied = s.applied ∧ (s.sectorFail n c i).latches = s.latches ∧ (s.sectorFail n c i).commits = s.commits ∧ (s.sectorFail n c i).resetting = s.resetting ∧ (s.sectorFail n c i).pwr = s.pwr ∧ (s.sectorFail n c i).hk = s.hk ∧ (s.sectorFail n c i).clk = s.clk ∧ (s.sectorFail n c i).med = s.med ∧ (s.sectorFail n c i).roms = s.roms ∧ (s.sectorFail n c i).i3c = s.i3c := by
  have f1 := @State.bumpSat_frame; have f2 := @State.cartCmd_frame; have f3 := @State.cartOutcome_frame; have f4 := @State.ev_frame; have f5 := @State.raiseRec_frame; have f6 := @State.retryNote_frame
  simp [State.sectorFail, f1, f2, f3, f4, f5, f6]
theorem State.cmdFail_frame (s : State) (n : Nat) (c : CartCmd) : (s.cmdFail n c).pending = s.pending ∧ (s.cmdFail n c).variant = s.variant ∧ (s.cmdFail n c).applied = s.applied ∧ (s.cmdFail n c).latches = s.latches ∧ (s.cmdFail n c).commits = s.commits ∧ (s.cmdFail n c).resetting = s.resetting ∧ (s.cmdFail n c).pwr = s.pwr ∧ (s.cmdFail n c).hk = s.hk ∧ (s.cmdFail n c).clk = s.clk ∧ (s.cmdFail n c).med = s.med ∧ (s.cmdFail n c).roms = s.roms ∧ (s.cmdFail n c).i3c = s.i3c := by
  have f1 := @State.mountFail_frame; have f2 := @State.saveUnanswered_frame; have f3 := @State.sectorFail_frame
  dsimp only [State.cmdFail]; (repeat' split) <;> simp [f1, f2, f3]
theorem State.copyPump_frame (s : State) (n : Nat) : (s.copyPump n).pending = s.pending ∧ (s.copyPump n).variant = s.variant ∧ (s.copyPump n).latches = s.latches ∧ (s.copyPump n).resetting = s.resetting ∧ (s.copyPump n).med = s.med ∧ (s.copyPump n).roms = s.roms ∧ (s.copyPump n).dbg = s.dbg ∧ (s.copyPump n).i3c = s.i3c := by
  have f1 := @State.cartCmd_frame; have f2 := @State.copyDrain_frame; have f3 := @State.onZl_frame
  dsimp only [State.copyPump]; (repeat' split) <;> simp [f1, f2, f3]
theorem State.copyCtrl_frame (s : State) (n : Nat) (src : Source) (w : Nat) : (s.copyCtrl n src w).pending = s.pending ∧ (s.copyCtrl n src w).variant = s.variant ∧ (s.copyCtrl n src w).latches = s.latches ∧ (s.copyCtrl n src w).clk = s.clk ∧ (s.copyCtrl n src w).med = s.med ∧ (s.copyCtrl n src w).roms = s.roms ∧ (s.copyCtrl n src w).i3c = s.i3c := by
  have f1 := @State.cfgErr_frame; have f2 := @State.copyEnd_frame; have f3 := @State.onZl_frame; have f4 := @State.refusedBy_frame; have f5 := @State.setFlag_frame; have f6 := @State.setFld_frame
  simp [State.copyCtrl, f1, f2, f3, f4, f5, f6]
theorem State.saveCtrl_frame (s : State) (n : Nat) (src : Source) (w : Nat) : (s.saveCtrl n src w).pending = s.pending ∧ (s.saveCtrl n src w).variant = s.variant ∧ (s.saveCtrl n src w).latches = s.latches ∧ (s.saveCtrl n src w).clk = s.clk ∧ (s.saveCtrl n src w).med = s.med ∧ (s.saveCtrl n src w).roms = s.roms ∧ (s.saveCtrl n src w).i3c = s.i3c := by
  have f1 := @State.cfgErr_frame; have f2 := @State.emit_frame; have f3 := @State.onStrm_frame; have f4 := @State.onZl_frame; have f5 := @State.raise_frame; have f6 := @State.setFlag_frame; have f7 := @State.setFld_frame
  simp [State.saveCtrl, f1, f2, f3, f4, f5, f6, f7]
theorem State.readDone_frame (s : State) (n : Nat) (c : CartCmd) : (s.readDone n c).pending = s.pending ∧ (s.readDone n c).variant = s.variant ∧ (s.readDone n c).applied = s.applied ∧ (s.readDone n c).latches = s.latches ∧ (s.readDone n c).commits = s.commits ∧ (s.readDone n c).resetting = s.resetting ∧ (s.readDone n c).pwr = s.pwr ∧ (s.readDone n c).hk = s.hk ∧ (s.readDone n c).clk = s.clk ∧ (s.readDone n c).med = s.med ∧ (s.readDone n c).roms = s.roms ∧ (s.readDone n c).i3c = s.i3c := by
  have f1 := @State.cartOutcome_frame; have f2 := @State.moved_frame; have f3 := @State.report_frame; have f4 := @State.sectorFail_frame
  simp (disch := (intros; (repeat' split) <;> simp [f1, f2, f3, f4])) [State.readDone, f1, f2, f3, f4]
theorem State.saveAnswered_frame (s : State) (n : Nat) (status : Nat) : (s.saveAnswered n status).pending = s.pending ∧ (s.saveAnswered n status).variant = s.variant ∧ (s.saveAnswered n status).applied = s.applied ∧ (s.saveAnswered n status).latches = s.latches ∧ (s.saveAnswered n status).commits = s.commits ∧ (s.saveAnswered n status).resetting = s.resetting ∧ (s.saveAnswered n status).pwr = s.pwr ∧ (s.saveAnswered n status).hk = s.hk ∧ (s.saveAnswered n status).clk = s.clk ∧ (s.saveAnswered n status).med = s.med ∧ (s.saveAnswered n status).roms = s.roms ∧ (s.saveAnswered n status).i3c = s.i3c := by
  have f1 := @State.saveEnd_frame; have f2 := @State.setFld_frame
  dsimp only [State.saveAnswered]; (repeat' split) <;> simp [f1, f2]
theorem State.saveData_frame (s : State) (n : Nat) (off : Nat) (ok : Bool) (bytes : List Nat) : (s.saveData n off ok bytes).pending = s.pending ∧ (s.saveData n off ok bytes).variant = s.variant ∧ (s.saveData n off ok bytes).applied = s.applied ∧ (s.saveData n off ok bytes).latches = s.latches ∧ (s.saveData n off ok bytes).commits = s.commits ∧ (s.saveData n off ok bytes).resetting = s.resetting ∧ (s.saveData n off ok bytes).pwr = s.pwr ∧ (s.saveData n off ok bytes).hk = s.hk ∧ (s.saveData n off ok bytes).clk = s.clk ∧ (s.saveData n off ok bytes).med = s.med ∧ (s.saveData n off ok bytes).roms = s.roms ∧ (s.saveData n off ok bytes).i3c = s.i3c := by
  have f1 := @State.cartCmd_frame; have f2 := @State.onZl_frame; have f3 := @State.saveEnd_frame
  dsimp only [State.saveData]; (repeat' split) <;> simp [f1, f2, f3]

end Sys2Proof.Machine
end

