-- ==== Sys2Proof/Laws/FrameCartLink.lean ====
section
/-! SUPPORT. Frames of the operations of Machine/CartLink.lean: the fields of State that each leaves as they were. -/

set_option maxRecDepth 4000
set_option linter.unusedSimpArgs false

namespace Sys2Proof.Machine

theorem State.cartViol_frame (s : State) (n : Nat) (kind : Nat) (f : Fld) : (s.cartViol n kind f).pending = s.pending ∧ (s.cartViol n kind f).variant = s.variant ∧ (s.cartViol n kind f).applied = s.applied ∧ (s.cartViol n kind f).latches = s.latches ∧ (s.cartViol n kind f).commits = s.commits ∧ (s.cartViol n kind f).resetting = s.resetting ∧ (s.cartViol n kind f).dev = s.dev ∧ (s.cartViol n kind f).pwr = s.pwr ∧ (s.cartViol n kind f).hk = s.hk ∧ (s.cartViol n kind f).clk = s.clk ∧ (s.cartViol n kind f).bw = s.bw ∧ (s.cartViol n kind f).gang0 = s.gang0 ∧ (s.cartViol n kind f).gang1 = s.gang1 ∧ (s.cartViol n kind f).med = s.med ∧ (s.cartViol n kind f).roms = s.roms ∧ (s.cartViol n kind f).xlt = s.xlt ∧ (s.cartViol n kind f).prot = s.prot ∧ (s.cartViol n kind f).caches = s.caches ∧ (s.cartViol n kind f).dram = s.dram ∧ (s.cartViol n kind f).link = s.link ∧ (s.cartViol n kind f).reads = s.reads ∧ (s.cartViol n kind f).drift = s.drift ∧ (s.cartViol n kind f).ring = s.ring ∧ (s.cartViol n kind f).mbox = s.mbox ∧ (s.cartViol n kind f).pnv = s.pnv ∧ (s.cartViol n kind f).nvm = s.nvm ∧ (s.cartViol n kind f).srm = s.srm ∧ (s.cartViol n kind f).dbg = s.dbg ∧ (s.cartViol n kind f).i3c = s.i3c ∧ (s.cartViol n kind f).drawn = s.drawn := by
  have f1 := @State.bumpSat_frame; have f2 := @State.raise_frame; have f3 := @State.report_frame
  simp [State.cartViol, f1, f2, f3]
theorem State.malformed_frame (s : State) (n : Nat) : (s.malformed n).pending = s.pending ∧ (s.malformed n).variant = s.variant ∧ (s.malformed n).applied = s.applied ∧ (s.malformed n).latches = s.latches ∧ (s.malformed n).commits = s.commits ∧ (s.malformed n).resetting = s.resetting ∧ (s.malformed n).pwr = s.pwr ∧ (s.malformed n).hk = s.hk ∧ (s.malformed n).clk = s.clk ∧ (s.malformed n).med = s.med ∧ (s.malformed n).roms = s.roms ∧ (s.malformed n).i3c = s.i3c := by
  have f1 := @State.cartViol_frame
  simp [State.malformed, f1]
theorem State.endCmd_frame (s : State) (n : Nat) (tag : Nat) : (s.endCmd n tag).pending = s.pending ∧ (s.endCmd n tag).variant = s.variant ∧ (s.endCmd n tag).applied = s.applied ∧ (s.endCmd n tag).latches = s.latches ∧ (s.endCmd n tag).commits = s.commits ∧ (s.endCmd n tag).resetting = s.resetting ∧ (s.endCmd n tag).dev = s.dev ∧ (s.endCmd n tag).pwr = s.pwr ∧ (s.endCmd n tag).hk = s.hk ∧ (s.endCmd n tag).clk = s.clk ∧ (s.endCmd n tag).bw = s.bw ∧ (s.endCmd n tag).gang0 = s.gang0 ∧ (s.endCmd n tag).gang1 = s.gang1 ∧ (s.endCmd n tag).med = s.med ∧ (s.endCmd n tag).roms = s.roms ∧ (s.endCmd n tag).xlt = s.xlt ∧ (s.endCmd n tag).prot = s.prot ∧ (s.endCmd n tag).caches = s.caches ∧ (s.endCmd n tag).dram = s.dram ∧ (s.endCmd n tag).link = s.link ∧ (s.endCmd n tag).reads = s.reads ∧ (s.endCmd n tag).drift = s.drift ∧ (s.endCmd n tag).ring = s.ring ∧ (s.endCmd n tag).mbox = s.mbox ∧ (s.endCmd n tag).pnv = s.pnv ∧ (s.endCmd n tag).nvm = s.nvm ∧ (s.endCmd n tag).srm = s.srm ∧ (s.endCmd n tag).dbg = s.dbg ∧ (s.endCmd n tag).i3c = s.i3c ∧ (s.endCmd n tag).drawn = s.drawn := by
  have f1 := @State.onZl_frame
  simp [State.endCmd, f1]
theorem State.badHeader_frame (s : State) (n : Nat) (c : CartCmd) : (s.badHeader n c).pending = s.pending ∧ (s.badHeader n c).variant = s.variant ∧ (s.badHeader n c).applied = s.applied ∧ (s.badHeader n c).latches = s.latches ∧ (s.badHeader n c).commits = s.commits ∧ (s.badHeader n c).resetting = s.resetting ∧ (s.badHeader n c).pwr = s.pwr ∧ (s.badHeader n c).hk = s.hk ∧ (s.badHeader n c).clk = s.clk ∧ (s.badHeader n c).med = s.med ∧ (s.badHeader n c).roms = s.roms ∧ (s.badHeader n c).i3c = s.i3c := by
  have f1 := @State.cmdFail_frame; have f2 := @State.endCmd_frame; have f3 := @State.malformed_frame; have f4 := @State.onZl_frame
  simp [State.badHeader, f1, f2, f3, f4]
theorem State.cartWindow_frame (s : State) : (s.cartWindow).pending = s.pending ∧ (s.cartWindow).variant = s.variant ∧ (s.cartWindow).latches = s.latches ∧ (s.cartWindow).resetting = s.resetting ∧ (s.cartWindow).med = s.med ∧ (s.cartWindow).roms = s.roms ∧ (s.cartWindow).dbg = s.dbg ∧ (s.cartWindow).i3c = s.i3c := by
  have f1 := @State.setFld_frame
  simp [State.cartWindow, f1]
theorem State.breakResponse_frame (s : State) (n : Nat) : (s.breakResponse n).pending = s.pending ∧ (s.breakResponse n).variant = s.variant ∧ (s.breakResponse n).applied = s.applied ∧ (s.breakResponse n).latches = s.latches ∧ (s.breakResponse n).commits = s.commits ∧ (s.breakResponse n).resetting = s.resetting ∧ (s.breakResponse n).pwr = s.pwr ∧ (s.breakResponse n).hk = s.hk ∧ (s.breakResponse n).clk = s.clk ∧ (s.breakResponse n).med = s.med ∧ (s.breakResponse n).roms = s.roms ∧ (s.breakResponse n).i3c = s.i3c := by
  have f1 := @State.cmdFail_frame; have f2 := @State.endCmd_frame; have f3 := @State.malformed_frame; have f4 := @State.onZl_frame
  dsimp only [State.breakResponse]; (repeat' split) <;> simp [f1, f2, f3, f4]
theorem State.degrade_frame (s : State) (n : Nat) : (s.degrade n).pending = s.pending ∧ (s.degrade n).variant = s.variant ∧ (s.degrade n).applied = s.applied ∧ (s.degrade n).latches = s.latches ∧ (s.degrade n).commits = s.commits ∧ (s.degrade n).resetting = s.resetting ∧ (s.degrade n).dev = s.dev ∧ (s.degrade n).pwr = s.pwr ∧ (s.degrade n).hk = s.hk ∧ (s.degrade n).clk = s.clk ∧ (s.degrade n).bw = s.bw ∧ (s.degrade n).gang0 = s.gang0 ∧ (s.degrade n).gang1 = s.gang1 ∧ (s.degrade n).med = s.med ∧ (s.degrade n).roms = s.roms ∧ (s.degrade n).xlt = s.xlt ∧ (s.degrade n).prot = s.prot ∧ (s.degrade n).caches = s.caches ∧ (s.degrade n).dram = s.dram ∧ (s.degrade n).link = s.link ∧ (s.degrade n).reads = s.reads ∧ (s.degrade n).drift = s.drift ∧ (s.degrade n).ring = s.ring ∧ (s.degrade n).mbox = s.mbox ∧ (s.degrade n).pnv = s.pnv ∧ (s.degrade n).nvm = s.nvm ∧ (s.degrade n).srm = s.srm ∧ (s.degrade n).dbg = s.dbg ∧ (s.degrade n).i3c = s.i3c ∧ (s.degrade n).drawn = s.drawn := by
  have f1 := @State.onZl_frame; have f2 := @State.raiseRec_frame; have f3 := @State.setFlag_frame; have f4 := @State.setFld_frame
  simp [State.degrade, f1, f2, f3, f4]
theorem State.goodFrame_frame (s : State) (n : Nat) : (s.goodFrame n).pending = s.pending ∧ (s.goodFrame n).variant = s.variant ∧ (s.goodFrame n).applied = s.applied ∧ (s.goodFrame n).latches = s.latches ∧ (s.goodFrame n).commits = s.commits ∧ (s.goodFrame n).resetting = s.resetting ∧ (s.goodFrame n).dev = s.dev ∧ (s.goodFrame n).pwr = s.pwr ∧ (s.goodFrame n).hk = s.hk ∧ (s.goodFrame n).clk = s.clk ∧ (s.goodFrame n).bw = s.bw ∧ (s.goodFrame n).gang0 = s.gang0 ∧ (s.goodFrame n).gang1 = s.gang1 ∧ (s.goodFrame n).med = s.med ∧ (s.goodFrame n).roms = s.roms ∧ (s.goodFrame n).xlt = s.xlt ∧ (s.goodFrame n).prot = s.prot ∧ (s.goodFrame n).caches = s.caches ∧ (s.goodFrame n).dram = s.dram ∧ (s.goodFrame n).link = s.link ∧ (s.goodFrame n).reads = s.reads ∧ (s.goodFrame n).drift = s.drift ∧ (s.goodFrame n).ring = s.ring ∧ (s.goodFrame n).mbox = s.mbox ∧ (s.goodFrame n).pnv = s.pnv ∧ (s.goodFrame n).nvm = s.nvm ∧ (s.goodFrame n).srm = s.srm ∧ (s.goodFrame n).dbg = s.dbg ∧ (s.goodFrame n).i3c = s.i3c ∧ (s.goodFrame n).drawn = s.drawn := by
  have f1 := @State.onZl_frame
  simp [State.goodFrame, f1]
theorem State.unsolicited_frame (s : State) (n : Nat) : (s.unsolicited n).pending = s.pending ∧ (s.unsolicited n).variant = s.variant ∧ (s.unsolicited n).applied = s.applied ∧ (s.unsolicited n).latches = s.latches ∧ (s.unsolicited n).commits = s.commits ∧ (s.unsolicited n).resetting = s.resetting ∧ (s.unsolicited n).dev = s.dev ∧ (s.unsolicited n).pwr = s.pwr ∧ (s.unsolicited n).hk = s.hk ∧ (s.unsolicited n).clk = s.clk ∧ (s.unsolicited n).bw = s.bw ∧ (s.unsolicited n).gang0 = s.gang0 ∧ (s.unsolicited n).gang1 = s.gang1 ∧ (s.unsolicited n).med = s.med ∧ (s.unsolicited n).roms = s.roms ∧ (s.unsolicited n).xlt = s.xlt ∧ (s.unsolicited n).prot = s.prot ∧ (s.unsolicited n).caches = s.caches ∧ (s.unsolicited n).dram = s.dram ∧ (s.unsolicited n).link = s.link ∧ (s.unsolicited n).reads = s.reads ∧ (s.unsolicited n).drift = s.drift ∧ (s.unsolicited n).ring = s.ring ∧ (s.unsolicited n).mbox = s.mbox ∧ (s.unsolicited n).pnv = s.pnv ∧ (s.unsolicited n).nvm = s.nvm ∧ (s.unsolicited n).srm = s.srm ∧ (s.unsolicited n).dbg = s.dbg ∧ (s.unsolicited n).i3c = s.i3c ∧ (s.unsolicited n).drawn = s.drawn := by
  have f1 := @State.cartViol_frame
  simp [State.unsolicited, f1]
theorem State.linkLost_frame (s : State) (n : Nat) : (s.linkLost n).pending = s.pending ∧ (s.linkLost n).variant = s.variant ∧ (s.linkLost n).applied = s.applied ∧ (s.linkLost n).latches = s.latches ∧ (s.linkLost n).commits = s.commits ∧ (s.linkLost n).resetting = s.resetting ∧ (s.linkLost n).pwr = s.pwr ∧ (s.linkLost n).hk = s.hk ∧ (s.linkLost n).clk = s.clk ∧ (s.linkLost n).med = s.med ∧ (s.linkLost n).roms = s.roms ∧ (s.linkLost n).i3c = s.i3c := by
  have f1 := @State.cartOff_frame; have f2 := @State.mountFail_frame; have f3 := @State.onZl_frame; have f4 := @State.raise_frame; have f5 := @State.removedNote_frame
  simp [State.linkLost, f1, f2, f3, f4, f5]
theorem State.readLate_frame (s : State) (n : Nat) (c : CartCmd) : (s.readLate n c).pending = s.pending ∧ (s.readLate n c).variant = s.variant ∧ (s.readLate n c).applied = s.applied ∧ (s.readLate n c).latches = s.latches ∧ (s.readLate n c).commits = s.commits ∧ (s.readLate n c).resetting = s.resetting ∧ (s.readLate n c).pwr = s.pwr ∧ (s.readLate n c).hk = s.hk ∧ (s.readLate n c).clk = s.clk ∧ (s.readLate n c).med = s.med ∧ (s.readLate n c).roms = s.roms ∧ (s.readLate n c).i3c = s.i3c := by
  have f1 := @State.cartViol_frame; have f2 := @State.cmdFail_frame; have f3 := @State.endCmd_frame; have f4 := @State.onZl_frame
  simp [State.readLate, f1, f2, f3, f4]
theorem State.replayEvent_frame (s : State) (n : Nat) : (s.replayEvent n).pending = s.pending ∧ (s.replayEvent n).variant = s.variant ∧ (s.replayEvent n).applied = s.applied ∧ (s.replayEvent n).latches = s.latches ∧ (s.replayEvent n).commits = s.commits ∧ (s.replayEvent n).resetting = s.resetting ∧ (s.replayEvent n).dev = s.dev ∧ (s.replayEvent n).pwr = s.pwr ∧ (s.replayEvent n).hk = s.hk ∧ (s.replayEvent n).clk = s.clk ∧ (s.replayEvent n).bw = s.bw ∧ (s.replayEvent n).gang0 = s.gang0 ∧ (s.replayEvent n).gang1 = s.gang1 ∧ (s.replayEvent n).med = s.med ∧ (s.replayEvent n).roms = s.roms ∧ (s.replayEvent n).xlt = s.xlt ∧ (s.replayEvent n).prot = s.prot ∧ (s.replayEvent n).caches = s.caches ∧ (s.replayEvent n).dram = s.dram ∧ (s.replayEvent n).link = s.link ∧ (s.replayEvent n).reads = s.reads ∧ (s.replayEvent n).drift = s.drift ∧ (s.replayEvent n).ring = s.ring ∧ (s.replayEvent n).mbox = s.mbox ∧ (s.replayEvent n).pnv = s.pnv ∧ (s.replayEvent n).nvm = s.nvm ∧ (s.replayEvent n).srm = s.srm ∧ (s.replayEvent n).dbg = s.dbg ∧ (s.replayEvent n).i3c = s.i3c ∧ (s.replayEvent n).drawn = s.drawn := by
  have f1 := @State.bumpSat_frame; have f2 := @State.degrade_frame; have f3 := @State.setFld_frame
  simp [State.replayEvent, f1, f2, f3]
theorem State.rspDone_frame (s : State) (n : Nat) (c : CartCmd) : (s.rspDone n c).pending = s.pending ∧ (s.rspDone n c).variant = s.variant ∧ (s.rspDone n c).applied = s.applied ∧ (s.rspDone n c).latches = s.latches ∧ (s.rspDone n c).commits = s.commits ∧ (s.rspDone n c).resetting = s.resetting ∧ (s.rspDone n c).pwr = s.pwr ∧ (s.rspDone n c).hk = s.hk ∧ (s.rspDone n c).clk = s.clk ∧ (s.rspDone n c).med = s.med ∧ (s.rspDone n c).roms = s.roms ∧ (s.rspDone n c).i3c = s.i3c := by
  have f1 := @State.cmdFail_frame; have f2 := @State.endCmd_frame; have f3 := @State.mountStep_frame; have f4 := @State.onZl_frame; have f5 := @State.saveAnswered_frame
  dsimp only [State.rspDone]; (repeat' split) <;> simp [f1, f2, f3, f4, f5]
theorem State.rspFrame_frame (s : State) (n : Nat) (c : CartCmd) : (s.rspFrame n c).pending = s.pending ∧ (s.rspFrame n c).variant = s.variant ∧ (s.rspFrame n c).applied = s.applied ∧ (s.rspFrame n c).latches = s.latches ∧ (s.rspFrame n c).commits = s.commits ∧ (s.rspFrame n c).resetting = s.resetting ∧ (s.rspFrame n c).pwr = s.pwr ∧ (s.rspFrame n c).hk = s.hk ∧ (s.rspFrame n c).clk = s.clk ∧ (s.rspFrame n c).med = s.med ∧ (s.rspFrame n c).roms = s.roms ∧ (s.rspFrame n c).i3c = s.i3c := by
  have f1 := @State.onZl_frame; have f2 := @State.rspDone_frame
  simp [State.rspFrame, f1, f2]
theorem State.sendFrame_frame (s : State) (n : Nat) (seq : Nat) (ty : Nat) (payload : Line) : (s.sendFrame n seq ty payload).pending = s.pending ∧ (s.sendFrame n seq ty payload).variant = s.variant ∧ (s.sendFrame n seq ty payload).applied = s.applied ∧ (s.sendFrame n seq ty payload).latches = s.latches ∧ (s.sendFrame n seq ty payload).commits = s.commits ∧ (s.sendFrame n seq ty payload).resetting = s.resetting ∧ (s.sendFrame n seq ty payload).dev = s.dev ∧ (s.sendFrame n seq ty payload).pwr = s.pwr ∧ (s.sendFrame n seq ty payload).hk = s.hk ∧ (s.sendFrame n seq ty payload).clk = s.clk ∧ (s.sendFrame n seq ty payload).bw = s.bw ∧ (s.sendFrame n seq ty payload).gang0 = s.gang0 ∧ (s.sendFrame n seq ty payload).gang1 = s.gang1 ∧ (s.sendFrame n seq ty payload).med = s.med ∧ (s.sendFrame n seq ty payload).roms = s.roms ∧ (s.sendFrame n seq ty payload).xlt = s.xlt ∧ (s.sendFrame n seq ty payload).prot = s.prot ∧ (s.sendFrame n seq ty payload).caches = s.caches ∧ (s.sendFrame n seq ty payload).dram = s.dram ∧ (s.sendFrame n seq ty payload).link = s.link ∧ (s.sendFrame n seq ty payload).reads = s.reads ∧ (s.sendFrame n seq ty payload).drift = s.drift ∧ (s.sendFrame n seq ty payload).ring = s.ring ∧ (s.sendFrame n seq ty payload).mbox = s.mbox ∧ (s.sendFrame n seq ty payload).pnv = s.pnv ∧ (s.sendFrame n seq ty payload).nvm = s.nvm ∧ (s.sendFrame n seq ty payload).srm = s.srm ∧ (s.sendFrame n seq ty payload).dbg = s.dbg ∧ (s.sendFrame n seq ty payload).i3c = s.i3c ∧ (s.sendFrame n seq ty payload).drawn = s.drawn := by
  have f1 := @State.emit_frame; have f2 := @State.onZl_frame
  simp [State.sendFrame, f1, f2]
theorem State.sendSequenced_frame (s : State) (n : Nat) (ty : Nat) (payload : Line) : (s.sendSequenced n ty payload).pending = s.pending ∧ (s.sendSequenced n ty payload).variant = s.variant ∧ (s.sendSequenced n ty payload).applied = s.applied ∧ (s.sendSequenced n ty payload).latches = s.latches ∧ (s.sendSequenced n ty payload).commits = s.commits ∧ (s.sendSequenced n ty payload).resetting = s.resetting ∧ (s.sendSequenced n ty payload).dev = s.dev ∧ (s.sendSequenced n ty payload).pwr = s.pwr ∧ (s.sendSequenced n ty payload).hk = s.hk ∧ (s.sendSequenced n ty payload).clk = s.clk ∧ (s.sendSequenced n ty payload).bw = s.bw ∧ (s.sendSequenced n ty payload).gang0 = s.gang0 ∧ (s.sendSequenced n ty payload).gang1 = s.gang1 ∧ (s.sendSequenced n ty payload).med = s.med ∧ (s.sendSequenced n ty payload).roms = s.roms ∧ (s.sendSequenced n ty payload).xlt = s.xlt ∧ (s.sendSequenced n ty payload).prot = s.prot ∧ (s.sendSequenced n ty payload).caches = s.caches ∧ (s.sendSequenced n ty payload).dram = s.dram ∧ (s.sendSequenced n ty payload).link = s.link ∧ (s.sendSequenced n ty payload).reads = s.reads ∧ (s.sendSequenced n ty payload).drift = s.drift ∧ (s.sendSequenced n ty payload).ring = s.ring ∧ (s.sendSequenced n ty payload).mbox = s.mbox ∧ (s.sendSequenced n ty payload).pnv = s.pnv ∧ (s.sendSequenced n ty payload).nvm = s.nvm ∧ (s.sendSequenced n ty payload).srm = s.srm ∧ (s.sendSequenced n ty payload).dbg = s.dbg ∧ (s.sendSequenced n ty payload).i3c = s.i3c ∧ (s.sendSequenced n ty payload).drawn = s.drawn := by
  have f1 := @State.onZl_frame; have f2 := @State.sendFrame_frame
  simp [State.sendSequenced, f1, f2]
theorem State.sendCmds_frame (s : State) (n : Nat) (l : List CartCmd) : (s.sendCmds n l).pending = s.pending ∧ (s.sendCmds n l).variant = s.variant ∧ (s.sendCmds n l).applied = s.applied ∧ (s.sendCmds n l).latches = s.latches ∧ (s.sendCmds n l).commits = s.commits ∧ (s.sendCmds n l).resetting = s.resetting ∧ (s.sendCmds n l).dev = s.dev ∧ (s.sendCmds n l).pwr = s.pwr ∧ (s.sendCmds n l).hk = s.hk ∧ (s.sendCmds n l).clk = s.clk ∧ (s.sendCmds n l).bw = s.bw ∧ (s.sendCmds n l).gang0 = s.gang0 ∧ (s.sendCmds n l).gang1 = s.gang1 ∧ (s.sendCmds n l).med = s.med ∧ (s.sendCmds n l).roms = s.roms ∧ (s.sendCmds n l).xlt = s.xlt ∧ (s.sendCmds n l).prot = s.prot ∧ (s.sendCmds n l).caches = s.caches ∧ (s.sendCmds n l).dram = s.dram ∧ (s.sendCmds n l).link = s.link ∧ (s.sendCmds n l).reads = s.reads ∧ (s.sendCmds n l).drift = s.drift ∧ (s.sendCmds n l).ring = s.ring ∧ (s.sendCmds n l).mbox = s.mbox ∧ (s.sendCmds n l).pnv = s.pnv ∧ (s.sendCmds n l).nvm = s.nvm ∧ (s.sendCmds n l).srm = s.srm ∧ (s.sendCmds n l).dbg = s.dbg ∧ (s.sendCmds n l).i3c = s.i3c ∧ (s.sendCmds n l).drawn = s.drawn := by
  have f1 := @State.bumpSatBy_frame; have f2 := @State.ev_frame; have f3 := @State.onZl_frame; have f4 := @State.sendSequenced_frame
  simp [State.sendCmds, f1, f2, f3, f4]
theorem State.sendLink_frame (s : State) (n : Nat) : (s.sendLink n).pending = s.pending ∧ (s.sendLink n).variant = s.variant ∧ (s.sendLink n).applied = s.applied ∧ (s.sendLink n).latches = s.latches ∧ (s.sendLink n).commits = s.commits ∧ (s.sendLink n).resetting = s.resetting ∧ (s.sendLink n).dev = s.dev ∧ (s.sendLink n).pwr = s.pwr ∧ (s.sendLink n).hk = s.hk ∧ (s.sendLink n).clk = s.clk ∧ (s.sendLink n).bw = s.bw ∧ (s.sendLink n).gang0 = s.gang0 ∧ (s.sendLink n).gang1 = s.gang1 ∧ (s.sendLink n).med = s.med ∧ (s.sendLink n).roms = s.roms ∧ (s.sendLink n).xlt = s.xlt ∧ (s.sendLink n).prot = s.prot ∧ (s.sendLink n).caches = s.caches ∧ (s.sendLink n).dram = s.dram ∧ (s.sendLink n).link = s.link ∧ (s.sendLink n).reads = s.reads ∧ (s.sendLink n).drift = s.drift ∧ (s.sendLink n).ring = s.ring ∧ (s.sendLink n).mbox = s.mbox ∧ (s.sendLink n).pnv = s.pnv ∧ (s.sendLink n).nvm = s.nvm ∧ (s.sendLink n).srm = s.srm ∧ (s.sendLink n).dbg = s.dbg ∧ (s.sendLink n).i3c = s.i3c ∧ (s.sendLink n).drawn = s.drawn := by
  have f1 := @State.cartViol_frame; have f2 := @State.onZl_frame; have f3 := @State.replayEvent_frame; have f4 := @State.sendFrame_frame
  simp [State.sendLink, f1, f2, f3, f4]
theorem State.sendTraining_frame (s : State) (n : Nat) : (s.sendTraining n).pending = s.pending ∧ (s.sendTraining n).variant = s.variant ∧ (s.sendTraining n).applied = s.applied ∧ (s.sendTraining n).latches = s.latches ∧ (s.sendTraining n).commits = s.commits ∧ (s.sendTraining n).resetting = s.resetting ∧ (s.sendTraining n).dev = s.dev ∧ (s.sendTraining n).pwr = s.pwr ∧ (s.sendTraining n).hk = s.hk ∧ (s.sendTraining n).clk = s.clk ∧ (s.sendTraining n).bw = s.bw ∧ (s.sendTraining n).gang0 = s.gang0 ∧ (s.sendTraining n).gang1 = s.gang1 ∧ (s.sendTraining n).med = s.med ∧ (s.sendTraining n).roms = s.roms ∧ (s.sendTraining n).xlt = s.xlt ∧ (s.sendTraining n).prot = s.prot ∧ (s.sendTraining n).caches = s.caches ∧ (s.sendTraining n).dram = s.dram ∧ (s.sendTraining n).link = s.link ∧ (s.sendTraining n).reads = s.reads ∧ (s.sendTraining n).drift = s.drift ∧ (s.sendTraining n).ring = s.ring ∧ (s.sendTraining n).mbox = s.mbox ∧ (s.sendTraining n).pnv = s.pnv ∧ (s.sendTraining n).nvm = s.nvm ∧ (s.sendTraining n).srm = s.srm ∧ (s.sendTraining n).dbg = s.dbg ∧ (s.sendTraining n).i3c = s.i3c ∧ (s.sendTraining n).drawn = s.drawn := by
  have f1 := @State.emit_frame
  simp [State.sendTraining, f1]
theorem State.sendWdata_frame (s : State) (n : Nat) (l : Line) : (s.sendWdata n l).pending = s.pending ∧ (s.sendWdata n l).variant = s.variant ∧ (s.sendWdata n l).applied = s.applied ∧ (s.sendWdata n l).latches = s.latches ∧ (s.sendWdata n l).commits = s.commits ∧ (s.sendWdata n l).resetting = s.resetting ∧ (s.sendWdata n l).dev = s.dev ∧ (s.sendWdata n l).pwr = s.pwr ∧ (s.sendWdata n l).hk = s.hk ∧ (s.sendWdata n l).clk = s.clk ∧ (s.sendWdata n l).bw = s.bw ∧ (s.sendWdata n l).gang0 = s.gang0 ∧ (s.sendWdata n l).gang1 = s.gang1 ∧ (s.sendWdata n l).med = s.med ∧ (s.sendWdata n l).roms = s.roms ∧ (s.sendWdata n l).xlt = s.xlt ∧ (s.sendWdata n l).prot = s.prot ∧ (s.sendWdata n l).caches = s.caches ∧ (s.sendWdata n l).dram = s.dram ∧ (s.sendWdata n l).link = s.link ∧ (s.sendWdata n l).reads = s.reads ∧ (s.sendWdata n l).drift = s.drift ∧ (s.sendWdata n l).ring = s.ring ∧ (s.sendWdata n l).mbox = s.mbox ∧ (s.sendWdata n l).pnv = s.pnv ∧ (s.sendWdata n l).nvm = s.nvm ∧ (s.sendWdata n l).srm = s.srm ∧ (s.sendWdata n l).dbg = s.dbg ∧ (s.sendWdata n l).i3c = s.i3c ∧ (s.sendWdata n l).drawn = s.drawn := by
  have f1 := @State.moved_frame; have f2 := @State.onZl_frame; have f3 := @State.sendSequenced_frame
  simp [State.sendWdata, f1, f2, f3]

end Sys2Proof.Machine
end

