-- ==== Sys2Proof/Laws/FrameDrover.lean ====
section
/-! SUPPORT. Frames of the operations of Machine/Drover.lean: the fields of State that each leaves as they were. -/

set_option maxRecDepth 4000
set_option linter.unusedSimpArgs false

namespace Sys2Proof.Machine

theorem State.padClose_frame (s : State) (g : Nat) (v : PadVer) : (s.padClose g v).pending = s.pending ∧ (s.padClose g v).variant = s.variant ∧ (s.padClose g v).applied = s.applied ∧ (s.padClose g v).latches = s.latches ∧ (s.padClose g v).commits = s.commits ∧ (s.padClose g v).resetting = s.resetting ∧ (s.padClose g v).pwr = s.pwr ∧ (s.padClose g v).hk = s.hk ∧ (s.padClose g v).clk = s.clk ∧ (s.padClose g v).med = s.med ∧ (s.padClose g v).roms = s.roms ∧ (s.padClose g v).i3c = s.i3c := by
  have f1 := @State.journal_frame; have f2 := @State.onGang_frame; have f3 := @State.openNext_frame; have f4 := @State.raise_frame; have f5 := @State.releaseEmpty_frame; have f6 := @State.setPad_frame
  simp [State.padClose, f1, f2, f3, f4, f5, f6]
theorem State.afterBg_frame (s : State) (g : Nat) : (s.afterBg g).pending = s.pending ∧ (s.afterBg g).variant = s.variant ∧ (s.afterBg g).applied = s.applied ∧ (s.afterBg g).latches = s.latches ∧ (s.afterBg g).commits = s.commits ∧ (s.afterBg g).resetting = s.resetting ∧ (s.afterBg g).pwr = s.pwr ∧ (s.afterBg g).hk = s.hk ∧ (s.afterBg g).clk = s.clk ∧ (s.afterBg g).med = s.med ∧ (s.afterBg g).roms = s.roms ∧ (s.afterBg g).i3c = s.i3c := by
  have f1 := @State.padClose_frame
  dsimp only [State.afterBg]; (repeat' split) <;> simp [f1]
theorem State.rebuildLost_frame (s : State) (lseg : Nat) : (s.rebuildLost lseg).pending = s.pending ∧ (s.rebuildLost lseg).variant = s.variant ∧ (s.rebuildLost lseg).applied = s.applied ∧ (s.rebuildLost lseg).latches = s.latches ∧ (s.rebuildLost lseg).commits = s.commits ∧ (s.rebuildLost lseg).resetting = s.resetting ∧ (s.rebuildLost lseg).pwr = s.pwr ∧ (s.rebuildLost lseg).hk = s.hk ∧ (s.rebuildLost lseg).clk = s.clk ∧ (s.rebuildLost lseg).med = s.med ∧ (s.rebuildLost lseg).roms = s.roms ∧ (s.rebuildLost lseg).i3c = s.i3c := by
  have f1 := @State.event_frame; have f2 := @State.raiseRec_frame; have f3 := @State.raise_frame
  simp [State.rebuildLost, f1, f2, f3]
theorem State.poisonSeg_frame (s : State) (lseg : Nat) : (s.poisonSeg lseg).pending = s.pending ∧ (s.poisonSeg lseg).variant = s.variant ∧ (s.poisonSeg lseg).applied = s.applied ∧ (s.poisonSeg lseg).latches = s.latches ∧ (s.poisonSeg lseg).commits = s.commits ∧ (s.poisonSeg lseg).resetting = s.resetting ∧ (s.poisonSeg lseg).pwr = s.pwr ∧ (s.poisonSeg lseg).hk = s.hk ∧ (s.poisonSeg lseg).clk = s.clk ∧ (s.poisonSeg lseg).med = s.med ∧ (s.poisonSeg lseg).roms = s.roms ∧ (s.poisonSeg lseg).i3c = s.i3c := by
  have f1 := @State.mapMove_frame; have f2 := @State.rebuildLost_frame; have f3 := @State.scInvalidate_frame; have f4 := @State.ubMap_frame
  simp [State.poisonSeg, f1, f2, f3, f4]
theorem State.poisonPend_frame (s : State) (i : Nat) (lseg : Nat) (psa : Nat) : (s.poisonPend i lseg psa).pending = s.pending ∧ (s.poisonPend i lseg psa).variant = s.variant ∧ (s.poisonPend i lseg psa).applied = s.applied ∧ (s.poisonPend i lseg psa).latches = s.latches ∧ (s.poisonPend i lseg psa).commits = s.commits ∧ (s.poisonPend i lseg psa).resetting = s.resetting ∧ (s.poisonPend i lseg psa).pwr = s.pwr ∧ (s.poisonPend i lseg psa).hk = s.hk ∧ (s.poisonPend i lseg psa).clk = s.clk ∧ (s.poisonPend i lseg psa).med = s.med ∧ (s.poisonPend i lseg psa).roms = s.roms ∧ (s.poisonPend i lseg psa).i3c = s.i3c := by
  have f1 := @State.journal_frame; have f2 := @State.rebuildLost_frame; have f3 := @State.setGroup_frame; have f4 := @State.setRev_frame
  simp [State.poisonPend, f1, f2, f3, f4]
theorem State.afterRebuild_frame (s : State) (psa : Nat) (imgs : Option (List SecImg)) : (s.afterRebuild psa imgs).pending = s.pending ∧ (s.afterRebuild psa imgs).variant = s.variant ∧ (s.afterRebuild psa imgs).applied = s.applied ∧ (s.afterRebuild psa imgs).latches = s.latches ∧ (s.afterRebuild psa imgs).commits = s.commits ∧ (s.afterRebuild psa imgs).resetting = s.resetting ∧ (s.afterRebuild psa imgs).pwr = s.pwr ∧ (s.afterRebuild psa imgs).hk = s.hk ∧ (s.afterRebuild psa imgs).clk = s.clk ∧ (s.afterRebuild psa imgs).med = s.med ∧ (s.afterRebuild psa imgs).roms = s.roms ∧ (s.afterRebuild psa imgs).i3c = s.i3c := by
  have f1 := @State.joinBatch_frame; have f2 := @State.poisonPend_frame; have f3 := @State.poisonSeg_frame; have f4 := @State.queueRewrite_frame
  dsimp only [State.afterRebuild]; (repeat' split) <;> simp [f1, f2, f3, f4]
theorem State.retireOld_frame (s : State) (k : Nat) : (s.retireOld k).pending = s.pending ∧ (s.retireOld k).variant = s.variant ∧ (s.retireOld k).applied = s.applied ∧ (s.retireOld k).latches = s.latches ∧ (s.retireOld k).commits = s.commits ∧ (s.retireOld k).resetting = s.resetting ∧ (s.retireOld k).dev = s.dev ∧ (s.retireOld k).pwr = s.pwr ∧ (s.retireOld k).hk = s.hk ∧ (s.retireOld k).clk = s.clk ∧ (s.retireOld k).bw = s.bw ∧ (s.retireOld k).gang0 = s.gang0 ∧ (s.retireOld k).gang1 = s.gang1 ∧ (s.retireOld k).med = s.med ∧ (s.retireOld k).roms = s.roms ∧ (s.retireOld k).xlt = s.xlt ∧ (s.retireOld k).caches = s.caches ∧ (s.retireOld k).dram = s.dram ∧ (s.retireOld k).link = s.link ∧ (s.retireOld k).reads = s.reads ∧ (s.retireOld k).drift = s.drift ∧ (s.retireOld k).zl0 = s.zl0 ∧ (s.retireOld k).zl1 = s.zl1 ∧ (s.retireOld k).ring = s.ring ∧ (s.retireOld k).strm = s.strm ∧ (s.retireOld k).mbox = s.mbox ∧ (s.retireOld k).srm = s.srm ∧ (s.retireOld k).dbg = s.dbg ∧ (s.retireOld k).i3c = s.i3c := by
  have f1 := @State.onPnv_frame; have f2 := @State.raise_frame; have f3 := @State.setGen_frame; have f4 := @State.setSlot_frame
  simp [State.retireOld, f1, f2, f3, f4]
theorem State.shepDone_frame (s : State) (b : Bg) : (s.shepDone b).pending = s.pending ∧ (s.shepDone b).variant = s.variant ∧ (s.shepDone b).applied = s.applied ∧ (s.shepDone b).latches = s.latches ∧ (s.shepDone b).commits = s.commits ∧ (s.shepDone b).resetting = s.resetting ∧ (s.shepDone b).pwr = s.pwr ∧ (s.shepDone b).hk = s.hk ∧ (s.shepDone b).clk = s.clk ∧ (s.shepDone b).med = s.med ∧ (s.shepDone b).roms = s.roms ∧ (s.shepDone b).i3c = s.i3c := by
  have f1 := @State.bumpBy_frame; have f2 := @State.bump_frame; have f3 := @State.onGang_frame; have f4 := @State.queueRewrite_frame; have f5 := @State.raise_frame
  dsimp only [State.shepDone]; (repeat' split) <;> simp [f1, f2, f3, f4, f5]
theorem State.rebuiltOk_frame (s : State) (psa : Nat) (imgs : List SecImg) : (s.rebuiltOk psa imgs).pending = s.pending ∧ (s.rebuiltOk psa imgs).variant = s.variant ∧ (s.rebuiltOk psa imgs).applied = s.applied ∧ (s.rebuiltOk psa imgs).latches = s.latches ∧ (s.rebuiltOk psa imgs).commits = s.commits ∧ (s.rebuiltOk psa imgs).resetting = s.resetting ∧ (s.rebuiltOk psa imgs).pwr = s.pwr ∧ (s.rebuiltOk psa imgs).hk = s.hk ∧ (s.rebuiltOk psa imgs).clk = s.clk ∧ (s.rebuiltOk psa imgs).med = s.med ∧ (s.rebuiltOk psa imgs).roms = s.roms ∧ (s.rebuiltOk psa imgs).i3c = s.i3c := by
  have f1 := @State.afterRebuild_frame; have f2 := @State.queueRewrite_frame
  simp [State.rebuiltOk, f1, f2]
theorem State.padFail_frame (s : State) (b : Bg) (p : Nat) (n : Nat) : (s.padFail b p n).pending = s.pending ∧ (s.padFail b p n).variant = s.variant ∧ (s.padFail b p n).applied = s.applied ∧ (s.padFail b p n).latches = s.latches ∧ (s.padFail b p n).commits = s.commits ∧ (s.padFail b p n).resetting = s.resetting ∧ (s.padFail b p n).pwr = s.pwr ∧ (s.padFail b p n).hk = s.hk ∧ (s.padFail b p n).clk = s.clk ∧ (s.padFail b p n).med = s.med ∧ (s.padFail b p n).roms = s.roms ∧ (s.padFail b p n).i3c = s.i3c := by
  have f1 := @State.addRebuild_frame; have f2 := @State.rebuiltOk_frame
  simp [State.padFail, f1, f2]
theorem State.rebuildSeg_frame (s : State) (r : Rebuild) (slot : Nat) (n : Nat) (x : Sensed) : (s.rebuildSeg r slot n x).2.pending = s.pending ∧ (s.rebuildSeg r slot n x).2.variant = s.variant ∧ (s.rebuildSeg r slot n x).2.applied = s.applied ∧ (s.rebuildSeg r slot n x).2.latches = s.latches ∧ (s.rebuildSeg r slot n x).2.commits = s.commits ∧ (s.rebuildSeg r slot n x).2.resetting = s.resetting ∧ (s.rebuildSeg r slot n x).2.pwr = s.pwr ∧ (s.rebuildSeg r slot n x).2.hk = s.hk ∧ (s.rebuildSeg r slot n x).2.clk = s.clk ∧ (s.rebuildSeg r slot n x).2.med = s.med ∧ (s.rebuildSeg r slot n x).2.roms = s.roms ∧ (s.rebuildSeg r slot n x).2.i3c = s.i3c := by
  have f1 := @State.secCounts_frame
  simp [State.rebuildSeg, f1]
theorem State.rebuildEnd_frame (s : State) (r : Rebuild) : (s.rebuildEnd r).pending = s.pending ∧ (s.rebuildEnd r).variant = s.variant ∧ (s.rebuildEnd r).applied = s.applied ∧ (s.rebuildEnd r).latches = s.latches ∧ (s.rebuildEnd r).commits = s.commits ∧ (s.rebuildEnd r).resetting = s.resetting ∧ (s.rebuildEnd r).pwr = s.pwr ∧ (s.rebuildEnd r).hk = s.hk ∧ (s.rebuildEnd r).clk = s.clk ∧ (s.rebuildEnd r).med = s.med ∧ (s.rebuildEnd r).roms = s.roms ∧ (s.rebuildEnd r).i3c = s.i3c := by
  have f1 := @State.afterRebuild_frame; have f2 := @State.bump_frame; have f3 := @State.onXlt_frame; have f4 := @State.raise_frame; have f5 := @State.rebuildSeg_frame; have f6 := @State.rebuiltOk_frame
  dsimp only [State.rebuildEnd]; (repeat' split) <;> simp [f1, f2, f3, f4, f5, f6]
theorem State.rebuildTook_frame (s : State) (b : Bg) (id : Nat) (n : Nat) : (s.rebuildTook b id n).pending = s.pending ∧ (s.rebuildTook b id n).variant = s.variant ∧ (s.rebuildTook b id n).applied = s.applied ∧ (s.rebuildTook b id n).latches = s.latches ∧ (s.rebuildTook b id n).commits = s.commits ∧ (s.rebuildTook b id n).resetting = s.resetting ∧ (s.rebuildTook b id n).pwr = s.pwr ∧ (s.rebuildTook b id n).hk = s.hk ∧ (s.rebuildTook b id n).clk = s.clk ∧ (s.rebuildTook b id n).med = s.med ∧ (s.rebuildTook b id n).roms = s.roms ∧ (s.rebuildTook b id n).i3c = s.i3c := by
  have f1 := @State.onXlt_frame; have f2 := @State.rebuildEnd_frame
  dsimp only [State.rebuildTook]; (repeat' split) <;> simp [f1, f2]
theorem State.rewriteDone_frame (s : State) (b : Bg) (bad0 : List Nat) : (s.rewriteDone b bad0).pending = s.pending ∧ (s.rewriteDone b bad0).variant = s.variant ∧ (s.rewriteDone b bad0).applied = s.applied ∧ (s.rewriteDone b bad0).latches = s.latches ∧ (s.rewriteDone b bad0).commits = s.commits ∧ (s.rewriteDone b bad0).resetting = s.resetting ∧ (s.rewriteDone b bad0).pwr = s.pwr ∧ (s.rewriteDone b bad0).hk = s.hk ∧ (s.rewriteDone b bad0).clk = s.clk ∧ (s.rewriteDone b bad0).med = s.med ∧ (s.rewriteDone b bad0).roms = s.roms ∧ (s.rewriteDone b bad0).i3c = s.i3c := by
  have f1 := @State.joinBatch_frame
  simp [State.rewriteDone, f1]
theorem State.reencDone_frame (s : State) (b : Bg) (i : Nat) : (s.reencDone b i).pending = s.pending ∧ (s.reencDone b i).variant = s.variant ∧ (s.reencDone b i).applied = s.applied ∧ (s.reencDone b i).latches = s.latches ∧ (s.reencDone b i).commits = s.commits ∧ (s.reencDone b i).resetting = s.resetting ∧ (s.reencDone b i).pwr = s.pwr ∧ (s.reencDone b i).hk = s.hk ∧ (s.reencDone b i).clk = s.clk ∧ (s.reencDone b i).med = s.med ∧ (s.reencDone b i).roms = s.roms ∧ (s.reencDone b i).i3c = s.i3c := by
  have f1 := @State.bumpBy_frame; have f2 := @State.joinBatch_frame; have f3 := @State.moved_frame
  simp [State.reencDone, f1, f2, f3]
theorem State.bgDone_frame (s0 : State) (b : Bg) : (s0.bgDone b).pending = s0.pending ∧ (s0.bgDone b).variant = s0.variant ∧ (s0.bgDone b).applied = s0.applied ∧ (s0.bgDone b).latches = s0.latches ∧ (s0.bgDone b).commits = s0.commits ∧ (s0.bgDone b).resetting = s0.resetting ∧ (s0.bgDone b).pwr = s0.pwr ∧ (s0.bgDone b).hk = s0.hk ∧ (s0.bgDone b).clk = s0.clk ∧ (s0.bgDone b).med = s0.med ∧ (s0.bgDone b).roms = s0.roms ∧ (s0.bgDone b).i3c = s0.i3c := by
  have f1 := @State.endBg_frame; have f2 := @State.onGang_frame; have f3 := @State.onXlt_frame; have f4 := @State.padFail_frame; have f5 := @State.rebuildTook_frame; have f6 := @State.reencDone_frame; have f7 := @State.rewriteDone_frame; have f8 := @State.shepDone_frame
  dsimp only [State.bgDone]; (repeat' split) <;> simp [f1, f2, f3, f4, f5, f6, f7, f8]
theorem State.bgFinish_frame (s : State) (b : Bg) (x : Sensed) : (s.bgFinish b x).pending = s.pending ∧ (s.bgFinish b x).variant = s.variant ∧ (s.bgFinish b x).applied = s.applied ∧ (s.bgFinish b x).latches = s.latches ∧ (s.bgFinish b x).commits = s.commits ∧ (s.bgFinish b x).resetting = s.resetting ∧ (s.bgFinish b x).pwr = s.pwr ∧ (s.bgFinish b x).hk = s.hk ∧ (s.bgFinish b x).clk = s.clk ∧ (s.bgFinish b x).med = s.med ∧ (s.bgFinish b x).roms = s.roms ∧ (s.bgFinish b x).i3c = s.i3c := by
  have f1 := @State.bgDecode_frame; have f2 := @State.bgDone_frame; have f3 := @State.onReads_frame
  simp [State.bgFinish, f1, f2, f3]
theorem State.bgComplete_frame (s : State) (id : Nat) (x : Sensed) (p : BgWork → Bool) : (s.bgComplete id x p).pending = s.pending ∧ (s.bgComplete id x p).variant = s.variant ∧ (s.bgComplete id x p).applied = s.applied ∧ (s.bgComplete id x p).latches = s.latches ∧ (s.bgComplete id x p).commits = s.commits ∧ (s.bgComplete id x p).resetting = s.resetting ∧ (s.bgComplete id x p).pwr = s.pwr ∧ (s.bgComplete id x p).hk = s.hk ∧ (s.bgComplete id x p).clk = s.clk ∧ (s.bgComplete id x p).med = s.med ∧ (s.bgComplete id x p).roms = s.roms ∧ (s.bgComplete id x p).i3c = s.i3c := by
  have f1 := @State.bgFinish_frame
  dsimp only [State.bgComplete]; (repeat' split) <;> simp [f1]
theorem State.poisonRecord_frame (s : State) (lseg : Nat) (k : Nat) (code : Nat) : (s.poisonRecord lseg k code).pending = s.pending ∧ (s.poisonRecord lseg k code).variant = s.variant ∧ (s.poisonRecord lseg k code).applied = s.applied ∧ (s.poisonRecord lseg k code).latches = s.latches ∧ (s.poisonRecord lseg k code).commits = s.commits ∧ (s.poisonRecord lseg k code).resetting = s.resetting ∧ (s.poisonRecord lseg k code).pwr = s.pwr ∧ (s.poisonRecord lseg k code).hk = s.hk ∧ (s.poisonRecord lseg k code).clk = s.clk ∧ (s.poisonRecord lseg k code).bw = s.bw ∧ (s.poisonRecord lseg k code).med = s.med ∧ (s.poisonRecord lseg k code).roms = s.roms ∧ (s.poisonRecord lseg k code).caches = s.caches ∧ (s.poisonRecord lseg k code).zl0 = s.zl0 ∧ (s.poisonRecord lseg k code).zl1 = s.zl1 ∧ (s.poisonRecord lseg k code).ring = s.ring ∧ (s.poisonRecord lseg k code).mbox = s.mbox ∧ (s.poisonRecord lseg k code).dbg = s.dbg ∧ (s.poisonRecord lseg k code).i3c = s.i3c ∧ (s.poisonRecord lseg k code).drawn = s.drawn := by
  have f1 := @State.event_frame; have f2 := @State.reportCode_frame
  simp [State.poisonRecord, f1, f2]
theorem State.rekeyNeeded_frame (s : State) (i : Nat) : (s.rekeyNeeded i).pending = s.pending ∧ (s.rekeyNeeded i).variant = s.variant ∧ (s.rekeyNeeded i).applied = s.applied ∧ (s.rekeyNeeded i).latches = s.latches ∧ (s.rekeyNeeded i).commits = s.commits ∧ (s.rekeyNeeded i).resetting = s.resetting ∧ (s.rekeyNeeded i).pwr = s.pwr ∧ (s.rekeyNeeded i).hk = s.hk ∧ (s.rekeyNeeded i).clk = s.clk ∧ (s.rekeyNeeded i).bw = s.bw ∧ (s.rekeyNeeded i).med = s.med ∧ (s.rekeyNeeded i).roms = s.roms ∧ (s.rekeyNeeded i).caches = s.caches ∧ (s.rekeyNeeded i).zl0 = s.zl0 ∧ (s.rekeyNeeded i).zl1 = s.zl1 ∧ (s.rekeyNeeded i).ring = s.ring ∧ (s.rekeyNeeded i).mbox = s.mbox ∧ (s.rekeyNeeded i).dbg = s.dbg ∧ (s.rekeyNeeded i).i3c = s.i3c ∧ (s.rekeyNeeded i).drawn = s.drawn := by
  have f1 := @State.raiseRec_frame; have f2 := @State.setGen_frame
  simp [State.rekeyNeeded, f1, f2]
theorem State.rekeyCheck_frame (s : State) (lseg : Nat) (imgs : List SecImg) : (s.rekeyCheck lseg imgs).pending = s.pending ∧ (s.rekeyCheck lseg imgs).variant = s.variant ∧ (s.rekeyCheck lseg imgs).applied = s.applied ∧ (s.rekeyCheck lseg imgs).latches = s.latches ∧ (s.rekeyCheck lseg imgs).commits = s.commits ∧ (s.rekeyCheck lseg imgs).resetting = s.resetting ∧ (s.rekeyCheck lseg imgs).pwr = s.pwr ∧ (s.rekeyCheck lseg imgs).hk = s.hk ∧ (s.rekeyCheck lseg imgs).clk = s.clk ∧ (s.rekeyCheck lseg imgs).bw = s.bw ∧ (s.rekeyCheck lseg imgs).med = s.med ∧ (s.rekeyCheck lseg imgs).roms = s.roms ∧ (s.rekeyCheck lseg imgs).caches = s.caches ∧ (s.rekeyCheck lseg imgs).zl0 = s.zl0 ∧ (s.rekeyCheck lseg imgs).zl1 = s.zl1 ∧ (s.rekeyCheck lseg imgs).ring = s.ring ∧ (s.rekeyCheck lseg imgs).mbox = s.mbox ∧ (s.rekeyCheck lseg imgs).dbg = s.dbg ∧ (s.rekeyCheck lseg imgs).i3c = s.i3c ∧ (s.rekeyCheck lseg imgs).drawn = s.drawn := by
  have f1 := @State.rekeyNeeded_frame
  dsimp only [State.rekeyCheck]; (repeat' split) <;> simp [f1]
theorem State.buildSnap_frame (s : State) (x : Snap) (e : MapE) : (s.buildSnap x e).pending = s.pending ∧ (s.buildSnap x e).variant = s.variant ∧ (s.buildSnap x e).applied = s.applied ∧ (s.buildSnap x e).latches = s.latches ∧ (s.buildSnap x e).commits = s.commits ∧ (s.buildSnap x e).resetting = s.resetting ∧ (s.buildSnap x e).pwr = s.pwr ∧ (s.buildSnap x e).hk = s.hk ∧ (s.buildSnap x e).clk = s.clk ∧ (s.buildSnap x e).bw = s.bw ∧ (s.buildSnap x e).med = s.med ∧ (s.buildSnap x e).roms = s.roms ∧ (s.buildSnap x e).caches = s.caches ∧ (s.buildSnap x e).zl0 = s.zl0 ∧ (s.buildSnap x e).zl1 = s.zl1 ∧ (s.buildSnap x e).ring = s.ring ∧ (s.buildSnap x e).mbox = s.mbox ∧ (s.buildSnap x e).dbg = s.dbg ∧ (s.buildSnap x e).i3c = s.i3c ∧ (s.buildSnap x e).drawn = s.drawn := by
  have f1 := @State.bumpBy_frame; have f2 := @State.bump_frame; have f3 := @State.ev_frame; have f4 := @State.joinBatch_frame; have f5 := @State.moved_frame; have f6 := @State.onXlt_frame; have f7 := @State.poisonRecord_frame; have f8 := @State.rekeyCheck_frame
  simp [State.buildSnap, f1, f2, f3, f4, f5, f6, f7, f8]
theorem State.evacCheck_frame (s : State) (g : Nat) : (s.evacCheck g).pending = s.pending ∧ (s.evacCheck g).variant = s.variant ∧ (s.evacCheck g).applied = s.applied ∧ (s.evacCheck g).latches = s.latches ∧ (s.evacCheck g).commits = s.commits ∧ (s.evacCheck g).resetting = s.resetting ∧ (s.evacCheck g).pwr = s.pwr ∧ (s.evacCheck g).hk = s.hk ∧ (s.evacCheck g).clk = s.clk ∧ (s.evacCheck g).bw = s.bw ∧ (s.evacCheck g).med = s.med ∧ (s.evacCheck g).roms = s.roms ∧ (s.evacCheck g).caches = s.caches ∧ (s.evacCheck g).zl0 = s.zl0 ∧ (s.evacCheck g).zl1 = s.zl1 ∧ (s.evacCheck g).ring = s.ring ∧ (s.evacCheck g).mbox = s.mbox ∧ (s.evacCheck g).dbg = s.dbg ∧ (s.evacCheck g).i3c = s.i3c ∧ (s.evacCheck g).drawn = s.drawn := by
  have f1 := @State.raise_frame; have f2 := @State.restore_frame
  simp [State.evacCheck, f1, f2]
theorem State.foldSeg_frame (s : State) (g : Nat) (b : Nat) (n : Nat) (f : FoldSeg) (fail : Bool) : (s.foldSeg g b n f fail).pending = s.pending ∧ (s.foldSeg g b n f fail).variant = s.variant ∧ (s.foldSeg g b n f fail).applied = s.applied ∧ (s.foldSeg g b n f fail).latches = s.latches ∧ (s.foldSeg g b n f fail).commits = s.commits ∧ (s.foldSeg g b n f fail).resetting = s.resetting ∧ (s.foldSeg g b n f fail).pwr = s.pwr ∧ (s.foldSeg g b n f fail).hk = s.hk ∧ (s.foldSeg g b n f fail).clk = s.clk ∧ (s.foldSeg g b n f fail).bw = s.bw ∧ (s.foldSeg g b n f fail).med = s.med ∧ (s.foldSeg g b n f fail).roms = s.roms ∧ (s.foldSeg g b n f fail).caches = s.caches ∧ (s.foldSeg g b n f fail).zl0 = s.zl0 ∧ (s.foldSeg g b n f fail).zl1 = s.zl1 ∧ (s.foldSeg g b n f fail).ring = s.ring ∧ (s.foldSeg g b n f fail).mbox = s.mbox ∧ (s.foldSeg g b n f fail).dbg = s.dbg ∧ (s.foldSeg g b n f fail).i3c = s.i3c ∧ (s.foldSeg g b n f fail).drawn = s.drawn := by
  have f1 := @State.mapMove_frame; have f2 := @State.onGang_frame; have f3 := @State.setRev_frame; have f4 := @State.ubMap_frame
  simp [State.foldSeg, f1, f2, f3, f4]
theorem State.nextVerify_frame (s : State) (g : Nat) : (s.nextVerify g).pending = s.pending ∧ (s.nextVerify g).variant = s.variant ∧ (s.nextVerify g).applied = s.applied ∧ (s.nextVerify g).latches = s.latches ∧ (s.nextVerify g).commits = s.commits ∧ (s.nextVerify g).resetting = s.resetting ∧ (s.nextVerify g).pwr = s.pwr ∧ (s.nextVerify g).hk = s.hk ∧ (s.nextVerify g).clk = s.clk ∧ (s.nextVerify g).bw = s.bw ∧ (s.nextVerify g).med = s.med ∧ (s.nextVerify g).roms = s.roms ∧ (s.nextVerify g).caches = s.caches ∧ (s.nextVerify g).zl0 = s.zl0 ∧ (s.nextVerify g).zl1 = s.zl1 ∧ (s.nextVerify g).ring = s.ring ∧ (s.nextVerify g).mbox = s.mbox ∧ (s.nextVerify g).dbg = s.dbg ∧ (s.nextVerify g).i3c = s.i3c ∧ (s.nextVerify g).drawn = s.drawn := by
  have f1 := @State.onGang_frame
  simp [State.nextVerify, f1]
theorem State.queueCopy_frame (s : State) (c : Nat) (seqs : List Nat) : (s.queueCopy c seqs).2.pending = s.pending ∧ (s.queueCopy c seqs).2.variant = s.variant ∧ (s.queueCopy c seqs).2.applied = s.applied ∧ (s.queueCopy c seqs).2.latches = s.latches ∧ (s.queueCopy c seqs).2.commits = s.commits ∧ (s.queueCopy c seqs).2.resetting = s.resetting ∧ (s.queueCopy c seqs).2.pwr = s.pwr ∧ (s.queueCopy c seqs).2.hk = s.hk ∧ (s.queueCopy c seqs).2.clk = s.clk ∧ (s.queueCopy c seqs).2.bw = s.bw ∧ (s.queueCopy c seqs).2.med = s.med ∧ (s.queueCopy c seqs).2.roms = s.roms ∧ (s.queueCopy c seqs).2.caches = s.caches ∧ (s.queueCopy c seqs).2.zl0 = s.zl0 ∧ (s.queueCopy c seqs).2.zl1 = s.zl1 ∧ (s.queueCopy c seqs).2.ring = s.ring ∧ (s.queueCopy c seqs).2.mbox = s.mbox ∧ (s.queueCopy c seqs).2.dbg = s.dbg ∧ (s.queueCopy c seqs).2.i3c = s.i3c ∧ (s.queueCopy c seqs).2.drawn = s.drawn := by
  have f1 := @State.blocksMove_frame; have f2 := @State.onXlt_frame; have f3 := @State.sysQueue_frame
  dsimp only [State.queueCopy]; (repeat' split) <;> simp [f1, f2, f3]

end Sys2Proof.Machine
end

