-- ==== Sys2Proof/Laws/FrameKeys.lean ====
section
/-! SUPPORT. Frames of the operations of Machine/Keys.lean: the fields of State that each leaves as they were. -/

set_option maxRecDepth 4000
set_option linter.unusedSimpArgs false

namespace Sys2Proof.Machine

theorem State.almForce_frame (s : State) (src : Source) (w : Nat) : (s.almForce src w).pending = s.pending ∧ (s.almForce src w).variant = s.variant ∧ (s.almForce src w).latches = s.latches ∧ (s.almForce src w).clk = s.clk ∧ (s.almForce src w).med = s.med ∧ (s.almForce src w).roms = s.roms ∧ (s.almForce src w).i3c = s.i3c := by
  have f1 := @State.cfgErr_frame; have f2 := @State.erupt_frame
  simp [State.almForce, f1, f2]
theorem State.rekeyRegion_frame (s : State) (i : Nat) : (s.rekeyRegion i).pending = s.pending ∧ (s.rekeyRegion i).variant = s.variant ∧ (s.rekeyRegion i).latches = s.latches ∧ (s.rekeyRegion i).resetting = s.resetting ∧ (s.rekeyRegion i).med = s.med ∧ (s.rekeyRegion i).roms = s.roms ∧ (s.rekeyRegion i).dbg = s.dbg ∧ (s.rekeyRegion i).i3c = s.i3c := by
  have f1 := @State.onPnv_frame; have f2 := @State.setGen_frame; have f3 := @State.startPass_frame
  simp [State.rekeyRegion, f1, f2, f3]
theorem State.keyDue_frame (s : State) (d : Nat × Nat × KeySlot) : (s.keyDue d).pending = s.pending ∧ (s.keyDue d).variant = s.variant ∧ (s.keyDue d).latches = s.latches ∧ (s.keyDue d).resetting = s.resetting ∧ (s.keyDue d).med = s.med ∧ (s.keyDue d).roms = s.roms ∧ (s.keyDue d).dbg = s.dbg ∧ (s.keyDue d).i3c = s.i3c := by
  have f1 := @State.onProt_frame; have f2 := @State.rekeyRegion_frame; have f3 := @State.retireOld_frame; have f4 := @State.setSlot_frame
  simp [State.keyDue, f1, f2, f3, f4]
theorem State.keysDue_frame (s : State) : (s.keysDue).pending = s.pending ∧ (s.keysDue).variant = s.variant ∧ (s.keysDue).latches = s.latches ∧ (s.keysDue).resetting = s.resetting ∧ (s.keysDue).med = s.med ∧ (s.keysDue).roms = s.roms ∧ (s.keysDue).dbg = s.dbg ∧ (s.keysDue).i3c = s.i3c := by
  have f1 := @State.keyDue_frame; have f2 := @State.onProt_frame
  simp [State.keysDue, f1, f2]
theorem State.keyCheck_frame (s : State) (op : Nat) (k : Nat) (persist : Bool) : (s.keyCheck op k persist).2.2.pending = s.pending ∧ (s.keyCheck op k persist).2.2.variant = s.variant ∧ (s.keyCheck op k persist).2.2.latches = s.latches ∧ (s.keyCheck op k persist).2.2.clk = s.clk ∧ (s.keyCheck op k persist).2.2.med = s.med ∧ (s.keyCheck op k persist).2.2.roms = s.roms ∧ (s.keyCheck op k persist).2.2.i3c = s.i3c := by
  have f1 := @State.bump_frame; have f2 := @State.raise_frame; have f3 := @State.tremor_frame
  dsimp only [State.keyCheck]; (repeat' split) <;> simp [f1, f2, f3]
theorem State.keyCtrl_frame (s : State) (src : Source) (w : Nat) : (s.keyCtrl src w).pending = s.pending ∧ (s.keyCtrl src w).variant = s.variant ∧ (s.keyCtrl src w).latches = s.latches ∧ (s.keyCtrl src w).clk = s.clk ∧ (s.keyCtrl src w).med = s.med ∧ (s.keyCtrl src w).roms = s.roms ∧ (s.keyCtrl src w).i3c = s.i3c := by
  have f1 := @State.cfgErr_frame; have f2 := @State.keyCheck_frame; have f3 := @State.onPnv_frame; have f4 := @State.onProt_frame; have f5 := @State.setFlag_frame; have f6 := @State.setFld_frame
  simp [State.keyCtrl, f1, f2, f3, f4, f5, f6]
theorem State.newChallenge_frame (s : State) : (s.newChallenge).pending = s.pending ∧ (s.newChallenge).variant = s.variant ∧ (s.newChallenge).latches = s.latches ∧ (s.newChallenge).clk = s.clk ∧ (s.newChallenge).med = s.med ∧ (s.newChallenge).roms = s.roms ∧ (s.newChallenge).i3c = s.i3c := by
  have f1 := @State.draw_frame; have f2 := @State.onProt_frame; have f3 := @State.setFld_frame
  simp [State.newChallenge, f1, f2, f3]
theorem State.verifyClear_frame (s : State) : (s.verifyClear).pending = s.pending ∧ (s.verifyClear).variant = s.variant ∧ (s.verifyClear).latches = s.latches ∧ (s.verifyClear).clk = s.clk ∧ (s.verifyClear).med = s.med ∧ (s.verifyClear).roms = s.roms ∧ (s.verifyClear).i3c = s.i3c := by
  have f1 := @State.onPnv_frame; have f2 := @State.onProt_frame; have f3 := @State.setFlag_frame; have f4 := @State.setFld_frame; have f5 := @State.setSlot_frame; have f6 := @State.tremor_frame
  simp [State.verifyClear, f1, f2, f3, f4, f5, f6]
theorem State.clearCtrl_frame (s : State) (w : Nat) : (s.clearCtrl w).pending = s.pending ∧ (s.clearCtrl w).variant = s.variant ∧ (s.clearCtrl w).latches = s.latches ∧ (s.clearCtrl w).clk = s.clk ∧ (s.clearCtrl w).med = s.med ∧ (s.clearCtrl w).roms = s.roms ∧ (s.clearCtrl w).i3c = s.i3c := by
  have f1 := @State.newChallenge_frame; have f2 := @State.verifyClear_frame
  simp [State.clearCtrl, f1, f2]
theorem State.keyCache_frame (s : State) (o : KeyOp) : (s.keyCache o).pending = s.pending ∧ (s.keyCache o).variant = s.variant ∧ (s.keyCache o).applied = s.applied ∧ (s.keyCache o).latches = s.latches ∧ (s.keyCache o).commits = s.commits ∧ (s.keyCache o).resetting = s.resetting ∧ (s.keyCache o).dev = s.dev ∧ (s.keyCache o).pwr = s.pwr ∧ (s.keyCache o).hk = s.hk ∧ (s.keyCache o).clk = s.clk ∧ (s.keyCache o).bw = s.bw ∧ (s.keyCache o).gang0 = s.gang0 ∧ (s.keyCache o).gang1 = s.gang1 ∧ (s.keyCache o).med = s.med ∧ (s.keyCache o).roms = s.roms ∧ (s.keyCache o).xlt = s.xlt ∧ (s.keyCache o).caches = s.caches ∧ (s.keyCache o).dram = s.dram ∧ (s.keyCache o).link = s.link ∧ (s.keyCache o).reads = s.reads ∧ (s.keyCache o).drift = s.drift ∧ (s.keyCache o).zl0 = s.zl0 ∧ (s.keyCache o).zl1 = s.zl1 ∧ (s.keyCache o).ring = s.ring ∧ (s.keyCache o).strm = s.strm ∧ (s.keyCache o).mbox = s.mbox ∧ (s.keyCache o).srm = s.srm ∧ (s.keyCache o).dbg = s.dbg ∧ (s.keyCache o).i3c = s.i3c := by
  have f1 := @State.draw_frame; have f2 := @State.nvWrite_frame; have f3 := @State.onPnv_frame
  simp [State.keyCache, f1, f2, f3]
theorem State.rekeyTable_frame (s : State) (o : KeyOp) : (s.rekeyTable o).pending = s.pending ∧ (s.rekeyTable o).variant = s.variant ∧ (s.rekeyTable o).applied = s.applied ∧ (s.rekeyTable o).latches = s.latches ∧ (s.rekeyTable o).commits = s.commits ∧ (s.rekeyTable o).resetting = s.resetting ∧ (s.rekeyTable o).dev = s.dev ∧ (s.rekeyTable o).pwr = s.pwr ∧ (s.rekeyTable o).hk = s.hk ∧ (s.rekeyTable o).clk = s.clk ∧ (s.rekeyTable o).bw = s.bw ∧ (s.rekeyTable o).gang0 = s.gang0 ∧ (s.rekeyTable o).gang1 = s.gang1 ∧ (s.rekeyTable o).med = s.med ∧ (s.rekeyTable o).roms = s.roms ∧ (s.rekeyTable o).xlt = s.xlt ∧ (s.rekeyTable o).caches = s.caches ∧ (s.rekeyTable o).dram = s.dram ∧ (s.rekeyTable o).link = s.link ∧ (s.rekeyTable o).reads = s.reads ∧ (s.rekeyTable o).drift = s.drift ∧ (s.rekeyTable o).zl0 = s.zl0 ∧ (s.rekeyTable o).zl1 = s.zl1 ∧ (s.rekeyTable o).ring = s.ring ∧ (s.rekeyTable o).strm = s.strm ∧ (s.rekeyTable o).mbox = s.mbox ∧ (s.rekeyTable o).srm = s.srm ∧ (s.rekeyTable o).dbg = s.dbg ∧ (s.rekeyTable o).i3c = s.i3c := by
  have f1 := @State.nvWrite_frame; have f2 := @State.onPnv_frame
  simp [State.rekeyTable, f1, f2]

end Sys2Proof.Machine
end

