-- ==== Sys2Proof/Laws/FrameLink.lean ====
section
/-! SUPPORT. Frames of the operations of Machine/Link.lean: the fields of State that each leaves as they were. -/

set_option maxRecDepth 4000
set_option linter.unusedSimpArgs false

namespace Sys2Proof.Machine

theorem State.settleStarved_frame (s : State) : (s.settleStarved).pending = s.pending ∧ (s.settleStarved).variant = s.variant ∧ (s.settleStarved).applied = s.applied ∧ (s.settleStarved).latches = s.latches ∧ (s.settleStarved).commits = s.commits ∧ (s.settleStarved).resetting = s.resetting ∧ (s.settleStarved).dev = s.dev ∧ (s.settleStarved).pwr = s.pwr ∧ (s.settleStarved).hk = s.hk ∧ (s.settleStarved).clk = s.clk ∧ (s.settleStarved).bw = s.bw ∧ (s.settleStarved).gang0 = s.gang0 ∧ (s.settleStarved).gang1 = s.gang1 ∧ (s.settleStarved).med = s.med ∧ (s.settleStarved).roms = s.roms ∧ (s.settleStarved).xlt = s.xlt ∧ (s.settleStarved).tally = s.tally ∧ (s.settleStarved).prot = s.prot ∧ (s.settleStarved).caches = s.caches ∧ (s.settleStarved).dram = s.dram ∧ (s.settleStarved).reads = s.reads ∧ (s.settleStarved).drift = s.drift ∧ (s.settleStarved).zl0 = s.zl0 ∧ (s.settleStarved).zl1 = s.zl1 ∧ (s.settleStarved).pmc = s.pmc ∧ (s.settleStarved).ring = s.ring ∧ (s.settleStarved).strm = s.strm ∧ (s.settleStarved).mbox = s.mbox ∧ (s.settleStarved).pnv = s.pnv ∧ (s.settleStarved).nvm = s.nvm ∧ (s.settleStarved).srm = s.srm ∧ (s.settleStarved).dbg = s.dbg ∧ (s.settleStarved).i3c = s.i3c := by
  have f1 := @State.bumpBy_frame; have f2 := @State.onLink_frame
  dsimp only [State.settleStarved]; (repeat' split) <;> simp [f1, f2]
theorem State.uncommit_frame (s : State) : (s.uncommit).pending = s.pending ∧ (s.uncommit).variant = s.variant ∧ (s.uncommit).applied = s.applied ∧ (s.uncommit).latches = s.latches ∧ (s.uncommit).commits = s.commits ∧ (s.uncommit).resetting = s.resetting ∧ (s.uncommit).dev = s.dev ∧ (s.uncommit).pwr = s.pwr ∧ (s.uncommit).hk = s.hk ∧ (s.uncommit).clk = s.clk ∧ (s.uncommit).bw = s.bw ∧ (s.uncommit).gang0 = s.gang0 ∧ (s.uncommit).gang1 = s.gang1 ∧ (s.uncommit).med = s.med ∧ (s.uncommit).roms = s.roms ∧ (s.uncommit).xlt = s.xlt ∧ (s.uncommit).tally = s.tally ∧ (s.uncommit).prot = s.prot ∧ (s.uncommit).caches = s.caches ∧ (s.uncommit).dram = s.dram ∧ (s.uncommit).reads = s.reads ∧ (s.uncommit).drift = s.drift ∧ (s.uncommit).zl0 = s.zl0 ∧ (s.uncommit).zl1 = s.zl1 ∧ (s.uncommit).pmc = s.pmc ∧ (s.uncommit).ring = s.ring ∧ (s.uncommit).strm = s.strm ∧ (s.uncommit).pnv = s.pnv ∧ (s.uncommit).nvm = s.nvm ∧ (s.uncommit).srm = s.srm ∧ (s.uncommit).dbg = s.dbg ∧ (s.uncommit).i3c = s.i3c ∧ (s.uncommit).drawn = s.drawn := by
  have f1 := @State.onLink_frame; have f2 := @State.setFlag_frame; have f3 := @State.setFld_frame
  simp [State.uncommit, f1, f2, f3]
theorem State.linkReset_frame (s : State) : (s.linkReset).pending = s.pending ∧ (s.linkReset).variant = s.variant ∧ (s.linkReset).applied = s.applied ∧ (s.linkReset).latches = s.latches ∧ (s.linkReset).commits = s.commits ∧ (s.linkReset).resetting = s.resetting ∧ (s.linkReset).dev = s.dev ∧ (s.linkReset).pwr = s.pwr ∧ (s.linkReset).hk = s.hk ∧ (s.linkReset).clk = s.clk ∧ (s.linkReset).bw = s.bw ∧ (s.linkReset).gang0 = s.gang0 ∧ (s.linkReset).gang1 = s.gang1 ∧ (s.linkReset).med = s.med ∧ (s.linkReset).roms = s.roms ∧ (s.linkReset).dram = s.dram ∧ (s.linkReset).drift = s.drift ∧ (s.linkReset).pnv = s.pnv ∧ (s.linkReset).nvm = s.nvm ∧ (s.linkReset).srm = s.srm ∧ (s.linkReset).dbg = s.dbg ∧ (s.linkReset).i3c = s.i3c ∧ (s.linkReset).drawn = s.drawn := by
  have f1 := @State.bump_frame; have f2 := @State.endSessions_frame; have f3 := @State.onLink_frame; have f4 := @State.onReads_frame; have f5 := @State.onXlt_frame; have f6 := @State.raise_frame; have f7 := @State.setReg_frame; have f8 := @State.suspend_frame; have f9 := @State.uncommit_frame
  simp [State.linkReset, f1, f2, f3, f4, f5, f6, f7, f8, f9]
theorem State.enterRecovery_frame (s : State) (retrain : Bool) : (s.enterRecovery retrain).pending = s.pending ∧ (s.enterRecovery retrain).variant = s.variant ∧ (s.enterRecovery retrain).applied = s.applied ∧ (s.enterRecovery retrain).latches = s.latches ∧ (s.enterRecovery retrain).commits = s.commits ∧ (s.enterRecovery retrain).resetting = s.resetting ∧ (s.enterRecovery retrain).dev = s.dev ∧ (s.enterRecovery retrain).pwr = s.pwr ∧ (s.enterRecovery retrain).hk = s.hk ∧ (s.enterRecovery retrain).clk = s.clk ∧ (s.enterRecovery retrain).bw = s.bw ∧ (s.enterRecovery retrain).gang0 = s.gang0 ∧ (s.enterRecovery retrain).gang1 = s.gang1 ∧ (s.enterRecovery retrain).med = s.med ∧ (s.enterRecovery retrain).roms = s.roms ∧ (s.enterRecovery retrain).xlt = s.xlt ∧ (s.enterRecovery retrain).prot = s.prot ∧ (s.enterRecovery retrain).caches = s.caches ∧ (s.enterRecovery retrain).dram = s.dram ∧ (s.enterRecovery retrain).reads = s.reads ∧ (s.enterRecovery retrain).drift = s.drift ∧ (s.enterRecovery retrain).zl0 = s.zl0 ∧ (s.enterRecovery retrain).zl1 = s.zl1 ∧ (s.enterRecovery retrain).pmc = s.pmc ∧ (s.enterRecovery retrain).ring = s.ring ∧ (s.enterRecovery retrain).mbox = s.mbox ∧ (s.enterRecovery retrain).pnv = s.pnv ∧ (s.enterRecovery retrain).nvm = s.nvm ∧ (s.enterRecovery retrain).srm = s.srm ∧ (s.enterRecovery retrain).dbg = s.dbg ∧ (s.enterRecovery retrain).i3c = s.i3c ∧ (s.enterRecovery retrain).drawn = s.drawn := by
  have f1 := @State.bump_frame; have f2 := @State.onLink_frame; have f3 := @State.raise_frame; have f4 := @State.strikeAll_frame
  simp [State.enterRecovery, f1, f2, f3, f4]
theorem State.retrain_frame (s : State) : (s.retrain).pending = s.pending ∧ (s.retrain).variant = s.variant ∧ (s.retrain).latches = s.latches ∧ (s.retrain).clk = s.clk ∧ (s.retrain).med = s.med ∧ (s.retrain).roms = s.roms ∧ (s.retrain).i3c = s.i3c := by
  have f1 := @State.emit_frame; have f2 := @State.enterRecovery_frame
  simp [State.retrain, f1, f2]
theorem State.drainHeld_frame (s : State) : (s.drainHeld).pending = s.pending ∧ (s.drainHeld).variant = s.variant ∧ (s.drainHeld).applied = s.applied ∧ (s.drainHeld).latches = s.latches ∧ (s.drainHeld).commits = s.commits ∧ (s.drainHeld).resetting = s.resetting ∧ (s.drainHeld).dev = s.dev ∧ (s.drainHeld).pwr = s.pwr ∧ (s.drainHeld).hk = s.hk ∧ (s.drainHeld).clk = s.clk ∧ (s.drainHeld).bw = s.bw ∧ (s.drainHeld).gang0 = s.gang0 ∧ (s.drainHeld).gang1 = s.gang1 ∧ (s.drainHeld).med = s.med ∧ (s.drainHeld).roms = s.roms ∧ (s.drainHeld).xlt = s.xlt ∧ (s.drainHeld).tally = s.tally ∧ (s.drainHeld).prot = s.prot ∧ (s.drainHeld).caches = s.caches ∧ (s.drainHeld).dram = s.dram ∧ (s.drainHeld).reads = s.reads ∧ (s.drainHeld).drift = s.drift ∧ (s.drainHeld).zl0 = s.zl0 ∧ (s.drainHeld).zl1 = s.zl1 ∧ (s.drainHeld).pmc = s.pmc ∧ (s.drainHeld).ring = s.ring ∧ (s.drainHeld).strm = s.strm ∧ (s.drainHeld).mbox = s.mbox ∧ (s.drainHeld).pnv = s.pnv ∧ (s.drainHeld).nvm = s.nvm ∧ (s.drainHeld).srm = s.srm ∧ (s.drainHeld).dbg = s.dbg ∧ (s.drainHeld).i3c = s.i3c ∧ (s.drainHeld).drawn = s.drawn := by
  have f1 := @State.onLink_frame; have f2 := @State.respond_frame
  simp [State.drainHeld, f1, f2]
theorem State.flushMsi_frame (s : State) : (s.flushMsi).pending = s.pending ∧ (s.flushMsi).variant = s.variant ∧ (s.flushMsi).applied = s.applied ∧ (s.flushMsi).latches = s.latches ∧ (s.flushMsi).commits = s.commits ∧ (s.flushMsi).resetting = s.resetting ∧ (s.flushMsi).dev = s.dev ∧ (s.flushMsi).pwr = s.pwr ∧ (s.flushMsi).hk = s.hk ∧ (s.flushMsi).clk = s.clk ∧ (s.flushMsi).bw = s.bw ∧ (s.flushMsi).gang0 = s.gang0 ∧ (s.flushMsi).gang1 = s.gang1 ∧ (s.flushMsi).med = s.med ∧ (s.flushMsi).roms = s.roms ∧ (s.flushMsi).xlt = s.xlt ∧ (s.flushMsi).prot = s.prot ∧ (s.flushMsi).caches = s.caches ∧ (s.flushMsi).dram = s.dram ∧ (s.flushMsi).reads = s.reads ∧ (s.flushMsi).drift = s.drift ∧ (s.flushMsi).zl0 = s.zl0 ∧ (s.flushMsi).zl1 = s.zl1 ∧ (s.flushMsi).pmc = s.pmc ∧ (s.flushMsi).ring = s.ring ∧ (s.flushMsi).mbox = s.mbox ∧ (s.flushMsi).pnv = s.pnv ∧ (s.flushMsi).nvm = s.nvm ∧ (s.flushMsi).srm = s.srm ∧ (s.flushMsi).dbg = s.dbg ∧ (s.flushMsi).i3c = s.i3c ∧ (s.flushMsi).drawn = s.drawn := by
  have f1 := @State.emit_frame
  simp [State.flushMsi, f1]
theorem State.trained_frame (s : State) (rate : Nat) (width : Nat) (flit : Bool) : (s.trained rate width flit).pending = s.pending ∧ (s.trained rate width flit).variant = s.variant ∧ (s.trained rate width flit).applied = s.applied ∧ (s.trained rate width flit).latches = s.latches ∧ (s.trained rate width flit).commits = s.commits ∧ (s.trained rate width flit).resetting = s.resetting ∧ (s.trained rate width flit).dev = s.dev ∧ (s.trained rate width flit).pwr = s.pwr ∧ (s.trained rate width flit).hk = s.hk ∧ (s.trained rate width flit).clk = s.clk ∧ (s.trained rate width flit).bw = s.bw ∧ (s.trained rate width flit).gang0 = s.gang0 ∧ (s.trained rate width flit).gang1 = s.gang1 ∧ (s.trained rate width flit).med = s.med ∧ (s.trained rate width flit).roms = s.roms ∧ (s.trained rate width flit).xlt = s.xlt ∧ (s.trained rate width flit).prot = s.prot ∧ (s.trained rate width flit).caches = s.caches ∧ (s.trained rate width flit).dram = s.dram ∧ (s.trained rate width flit).reads = s.reads ∧ (s.trained rate width flit).drift = s.drift ∧ (s.trained rate width flit).zl0 = s.zl0 ∧ (s.trained rate width flit).zl1 = s.zl1 ∧ (s.trained rate width flit).pmc = s.pmc ∧ (s.trained rate width flit).ring = s.ring ∧ (s.trained rate width flit).mbox = s.mbox ∧ (s.trained rate width flit).pnv = s.pnv ∧ (s.trained rate width flit).nvm = s.nvm ∧ (s.trained rate width flit).srm = s.srm ∧ (s.trained rate width flit).dbg = s.dbg ∧ (s.trained rate width flit).i3c = s.i3c ∧ (s.trained rate width flit).drawn = s.drawn := by
  have f1 := @State.onLink_frame; have f2 := @State.raise_frame; have f3 := @State.reportCode_frame; have f4 := @State.setFlag_frame; have f5 := @State.setFld_frame
  simp [State.trained, f1, f2, f3, f4, f5]

end Sys2Proof.Machine
end

