-- ==== Sys2Proof/Laws/FrameSequencer.lean ====
section
/-! SUPPORT. Frames of the operations of Machine/Sequencer.lean: the fields of State that each leaves as they were. -/

set_option maxRecDepth 4000
set_option linter.unusedSimpArgs false

namespace Sys2Proof.Machine

theorem State.onPwr_frame (s : State) (f : Pwr → Pwr) : (s.onPwr f).pending = s.pending ∧ (s.onPwr f).variant = s.variant ∧ (s.onPwr f).applied = s.applied ∧ (s.onPwr f).latches = s.latches ∧ (s.onPwr f).commits = s.commits ∧ (s.onPwr f).resetting = s.resetting ∧ (s.onPwr f).clk = s.clk ∧ (s.onPwr f).bw = s.bw ∧ (s.onPwr f).gang0 = s.gang0 ∧ (s.onPwr f).gang1 = s.gang1 ∧ (s.onPwr f).med = s.med ∧ (s.onPwr f).roms = s.roms ∧ (s.onPwr f).xlt = s.xlt ∧ (s.onPwr f).prot = s.prot ∧ (s.onPwr f).caches = s.caches ∧ (s.onPwr f).dram = s.dram ∧ (s.onPwr f).link = s.link ∧ (s.onPwr f).reads = s.reads ∧ (s.onPwr f).drift = s.drift ∧ (s.onPwr f).ring = s.ring ∧ (s.onPwr f).strm = s.strm ∧ (s.onPwr f).mbox = s.mbox ∧ (s.onPwr f).srm = s.srm ∧ (s.onPwr f).dbg = s.dbg ∧ (s.onPwr f).i3c = s.i3c ∧ (s.onPwr f).drawn = s.drawn := by
  simp [State.onPwr]
theorem State.ctrlSwitch_frame (s : State) (m : BitVec 136) (on : Bool) : (s.ctrlSwitch m on).pending = s.pending ∧ (s.ctrlSwitch m on).variant = s.variant ∧ (s.ctrlSwitch m on).applied = s.applied ∧ (s.ctrlSwitch m on).latches = s.latches ∧ (s.ctrlSwitch m on).commits = s.commits ∧ (s.ctrlSwitch m on).resetting = s.resetting ∧ (s.ctrlSwitch m on).clk = s.clk ∧ (s.ctrlSwitch m on).bw = s.bw ∧ (s.ctrlSwitch m on).gang0 = s.gang0 ∧ (s.ctrlSwitch m on).gang1 = s.gang1 ∧ (s.ctrlSwitch m on).med = s.med ∧ (s.ctrlSwitch m on).roms = s.roms ∧ (s.ctrlSwitch m on).xlt = s.xlt ∧ (s.ctrlSwitch m on).prot = s.prot ∧ (s.ctrlSwitch m on).caches = s.caches ∧ (s.ctrlSwitch m on).dram = s.dram ∧ (s.ctrlSwitch m on).link = s.link ∧ (s.ctrlSwitch m on).reads = s.reads ∧ (s.ctrlSwitch m on).drift = s.drift ∧ (s.ctrlSwitch m on).ring = s.ring ∧ (s.ctrlSwitch m on).strm = s.strm ∧ (s.ctrlSwitch m on).mbox = s.mbox ∧ (s.ctrlSwitch m on).srm = s.srm ∧ (s.ctrlSwitch m on).dbg = s.dbg ∧ (s.ctrlSwitch m on).i3c = s.i3c ∧ (s.ctrlSwitch m on).drawn = s.drawn := by
  simp [State.ctrlSwitch]
theorem State.faultClear_frame (s : State) : (s.faultClear).pending = s.pending ∧ (s.faultClear).variant = s.variant ∧ (s.faultClear).latches = s.latches ∧ (s.faultClear).clk = s.clk ∧ (s.faultClear).med = s.med ∧ (s.faultClear).roms = s.roms ∧ (s.faultClear).i3c = s.i3c := by
  have f1 := @State.onPwr_frame; have f2 := @State.setFlag_frame
  simp [State.faultClear, f1, f2]
theorem State.onDev_frame (s : State) (f : Dev → Dev) : (s.onDev f).pending = s.pending ∧ (s.onDev f).variant = s.variant ∧ (s.onDev f).applied = s.applied ∧ (s.onDev f).latches = s.latches ∧ (s.onDev f).commits = s.commits ∧ (s.onDev f).resetting = s.resetting ∧ (s.onDev f).clk = s.clk ∧ (s.onDev f).bw = s.bw ∧ (s.onDev f).gang0 = s.gang0 ∧ (s.onDev f).gang1 = s.gang1 ∧ (s.onDev f).med = s.med ∧ (s.onDev f).roms = s.roms ∧ (s.onDev f).xlt = s.xlt ∧ (s.onDev f).prot = s.prot ∧ (s.onDev f).caches = s.caches ∧ (s.onDev f).dram = s.dram ∧ (s.onDev f).link = s.link ∧ (s.onDev f).reads = s.reads ∧ (s.onDev f).drift = s.drift ∧ (s.onDev f).ring = s.ring ∧ (s.onDev f).strm = s.strm ∧ (s.onDev f).mbox = s.mbox ∧ (s.onDev f).srm = s.srm ∧ (s.onDev f).dbg = s.dbg ∧ (s.onDev f).i3c = s.i3c ∧ (s.onDev f).drawn = s.drawn := by
  simp [State.onDev]
theorem State.pllCheck_frame (s : State) : (s.pllCheck).pending = s.pending ∧ (s.pllCheck).variant = s.variant ∧ (s.pllCheck).applied = s.applied ∧ (s.pllCheck).latches = s.latches ∧ (s.pllCheck).commits = s.commits ∧ (s.pllCheck).resetting = s.resetting ∧ (s.pllCheck).clk = s.clk ∧ (s.pllCheck).bw = s.bw ∧ (s.pllCheck).gang0 = s.gang0 ∧ (s.pllCheck).gang1 = s.gang1 ∧ (s.pllCheck).med = s.med ∧ (s.pllCheck).roms = s.roms ∧ (s.pllCheck).xlt = s.xlt ∧ (s.pllCheck).prot = s.prot ∧ (s.pllCheck).caches = s.caches ∧ (s.pllCheck).dram = s.dram ∧ (s.pllCheck).link = s.link ∧ (s.pllCheck).reads = s.reads ∧ (s.pllCheck).drift = s.drift ∧ (s.pllCheck).ring = s.ring ∧ (s.pllCheck).strm = s.strm ∧ (s.pllCheck).mbox = s.mbox ∧ (s.pllCheck).srm = s.srm ∧ (s.pllCheck).dbg = s.dbg ∧ (s.pllCheck).i3c = s.i3c ∧ (s.pllCheck).drawn = s.drawn := by
  have f1 := @State.setFlag_frame
  simp [State.pllCheck, f1]
theorem State.enterOff_frame (s : State) : (s.enterOff).pending = s.pending ∧ (s.enterOff).variant = s.variant ∧ (s.enterOff).applied = s.applied ∧ (s.enterOff).latches = s.latches ∧ (s.enterOff).commits = s.commits ∧ (s.enterOff).resetting = s.resetting ∧ (s.enterOff).clk = s.clk ∧ (s.enterOff).bw = s.bw ∧ (s.enterOff).gang0 = s.gang0 ∧ (s.enterOff).gang1 = s.gang1 ∧ (s.enterOff).med = s.med ∧ (s.enterOff).roms = s.roms ∧ (s.enterOff).xlt = s.xlt ∧ (s.enterOff).prot = s.prot ∧ (s.enterOff).caches = s.caches ∧ (s.enterOff).dram = s.dram ∧ (s.enterOff).link = s.link ∧ (s.enterOff).reads = s.reads ∧ (s.enterOff).drift = s.drift ∧ (s.enterOff).ring = s.ring ∧ (s.enterOff).strm = s.strm ∧ (s.enterOff).mbox = s.mbox ∧ (s.enterOff).srm = s.srm ∧ (s.enterOff).dbg = s.dbg ∧ (s.enterOff).i3c = s.i3c ∧ (s.enterOff).drawn = s.drawn := by
  have f1 := @State.onPwr_frame; have f2 := @State.pllCheck_frame; have f3 := @State.setFld_frame; have f4 := @State.toState_frame
  simp [State.enterOff, f1, f2, f3, f4]
theorem State.switchOff_frame (s : State) (d : DownItem) : (s.switchOff d).pending = s.pending ∧ (s.switchOff d).variant = s.variant ∧ (s.switchOff d).applied = s.applied ∧ (s.switchOff d).latches = s.latches ∧ (s.switchOff d).commits = s.commits ∧ (s.switchOff d).resetting = s.resetting ∧ (s.switchOff d).clk = s.clk ∧ (s.switchOff d).bw = s.bw ∧ (s.switchOff d).gang0 = s.gang0 ∧ (s.switchOff d).gang1 = s.gang1 ∧ (s.switchOff d).med = s.med ∧ (s.switchOff d).roms = s.roms ∧ (s.switchOff d).xlt = s.xlt ∧ (s.switchOff d).prot = s.prot ∧ (s.switchOff d).caches = s.caches ∧ (s.switchOff d).dram = s.dram ∧ (s.switchOff d).link = s.link ∧ (s.switchOff d).reads = s.reads ∧ (s.switchOff d).drift = s.drift ∧ (s.switchOff d).ring = s.ring ∧ (s.switchOff d).strm = s.strm ∧ (s.switchOff d).mbox = s.mbox ∧ (s.switchOff d).srm = s.srm ∧ (s.switchOff d).dbg = s.dbg ∧ (s.switchOff d).i3c = s.i3c ∧ (s.switchOff d).drawn = s.drawn := by
  have f1 := @State.ctrlSwitch_frame; have f2 := @State.onPwr_frame
  simp [State.switchOff, f1, f2]
theorem State.downNext_frame (s : State) (l : List DownItem) : (s.downNext l).pending = s.pending ∧ (s.downNext l).variant = s.variant ∧ (s.downNext l).applied = s.applied ∧ (s.downNext l).latches = s.latches ∧ (s.downNext l).commits = s.commits ∧ (s.downNext l).resetting = s.resetting ∧ (s.downNext l).clk = s.clk ∧ (s.downNext l).bw = s.bw ∧ (s.downNext l).gang0 = s.gang0 ∧ (s.downNext l).gang1 = s.gang1 ∧ (s.downNext l).med = s.med ∧ (s.downNext l).roms = s.roms ∧ (s.downNext l).xlt = s.xlt ∧ (s.downNext l).prot = s.prot ∧ (s.downNext l).caches = s.caches ∧ (s.downNext l).dram = s.dram ∧ (s.downNext l).link = s.link ∧ (s.downNext l).reads = s.reads ∧ (s.downNext l).drift = s.drift ∧ (s.downNext l).ring = s.ring ∧ (s.downNext l).strm = s.strm ∧ (s.downNext l).mbox = s.mbox ∧ (s.downNext l).srm = s.srm ∧ (s.downNext l).dbg = s.dbg ∧ (s.downNext l).i3c = s.i3c ∧ (s.downNext l).drawn = s.drawn := by
  have f1 := @State.enterOff_frame; have f2 := @State.onPwr_frame; have f3 := @State.pllCheck_frame; have f4 := @State.switchOff_frame
  induction l generalizing s with
  | nil => simp [State.downNext, f1, f2, f3, f4]
  | cons d rest ih => cases d <;> simp [State.downNext, ih, f1, f2, f3, f4]
theorem State.downPop_frame (s : State) : (s.downPop).pending = s.pending ∧ (s.downPop).variant = s.variant ∧ (s.downPop).applied = s.applied ∧ (s.downPop).latches = s.latches ∧ (s.downPop).commits = s.commits ∧ (s.downPop).resetting = s.resetting ∧ (s.downPop).clk = s.clk ∧ (s.downPop).bw = s.bw ∧ (s.downPop).gang0 = s.gang0 ∧ (s.downPop).gang1 = s.gang1 ∧ (s.downPop).med = s.med ∧ (s.downPop).roms = s.roms ∧ (s.downPop).xlt = s.xlt ∧ (s.downPop).prot = s.prot ∧ (s.downPop).caches = s.caches ∧ (s.downPop).dram = s.dram ∧ (s.downPop).link = s.link ∧ (s.downPop).reads = s.reads ∧ (s.downPop).drift = s.drift ∧ (s.downPop).ring = s.ring ∧ (s.downPop).strm = s.strm ∧ (s.downPop).mbox = s.mbox ∧ (s.downPop).srm = s.srm ∧ (s.downPop).dbg = s.dbg ∧ (s.downPop).i3c = s.i3c ∧ (s.downPop).drawn = s.drawn := by
  have f1 := @State.downNext_frame
  simp [State.downPop, f1]
theorem State.loseQueued_frame (s : State) (keep : Nat) : (s.loseQueued keep).pending = s.pending ∧ (s.loseQueued keep).variant = s.variant ∧ (s.loseQueued keep).applied = s.applied ∧ (s.loseQueued keep).latches = s.latches ∧ (s.loseQueued keep).commits = s.commits ∧ (s.loseQueued keep).resetting = s.resetting ∧ (s.loseQueued keep).clk = s.clk ∧ (s.loseQueued keep).bw = s.bw ∧ (s.loseQueued keep).gang0 = s.gang0 ∧ (s.loseQueued keep).gang1 = s.gang1 ∧ (s.loseQueued keep).med = s.med ∧ (s.loseQueued keep).roms = s.roms ∧ (s.loseQueued keep).xlt = s.xlt ∧ (s.loseQueued keep).prot = s.prot ∧ (s.loseQueued keep).caches = s.caches ∧ (s.loseQueued keep).dram = s.dram ∧ (s.loseQueued keep).link = s.link ∧ (s.loseQueued keep).reads = s.reads ∧ (s.loseQueued keep).drift = s.drift ∧ (s.loseQueued keep).ring = s.ring ∧ (s.loseQueued keep).strm = s.strm ∧ (s.loseQueued keep).mbox = s.mbox ∧ (s.loseQueued keep).srm = s.srm ∧ (s.loseQueued keep).dbg = s.dbg ∧ (s.loseQueued keep).i3c = s.i3c ∧ (s.loseQueued keep).drawn = s.drawn := by
  have f1 := @State.lost_frame; have f2 := @State.onTally_frame
  simp [State.loseQueued, f1, f2]
theorem State.enterSeqDown_frame (s : State) (cause : Nat) : (s.enterSeqDown cause).pending = s.pending ∧ (s.enterSeqDown cause).variant = s.variant ∧ (s.enterSeqDown cause).applied = s.applied ∧ (s.enterSeqDown cause).latches = s.latches ∧ (s.enterSeqDown cause).commits = s.commits ∧ (s.enterSeqDown cause).resetting = s.resetting ∧ (s.enterSeqDown cause).clk = s.clk ∧ (s.enterSeqDown cause).bw = s.bw ∧ (s.enterSeqDown cause).gang0 = s.gang0 ∧ (s.enterSeqDown cause).gang1 = s.gang1 ∧ (s.enterSeqDown cause).med = s.med ∧ (s.enterSeqDown cause).roms = s.roms ∧ (s.enterSeqDown cause).xlt = s.xlt ∧ (s.enterSeqDown cause).prot = s.prot ∧ (s.enterSeqDown cause).caches = s.caches ∧ (s.enterSeqDown cause).dram = s.dram ∧ (s.enterSeqDown cause).link = s.link ∧ (s.enterSeqDown cause).reads = s.reads ∧ (s.enterSeqDown cause).drift = s.drift ∧ (s.enterSeqDown cause).ring = s.ring ∧ (s.enterSeqDown cause).strm = s.strm ∧ (s.enterSeqDown cause).mbox = s.mbox ∧ (s.enterSeqDown cause).srm = s.srm ∧ (s.enterSeqDown cause).dbg = s.dbg ∧ (s.enterSeqDown cause).i3c = s.i3c ∧ (s.enterSeqDown cause).drawn = s.drawn := by
  have f1 := @State.dieDomainsOff_frame; have f2 := @State.downNext_frame; have f3 := @State.loseQueued_frame; have f4 := @State.onDev_frame; have f5 := @State.onPwr_frame; have f6 := @State.setFlag_frame; have f7 := @State.setFld_frame; have f8 := @State.toState_frame
  simp [State.enterSeqDown, f1, f2, f3, f4, f5, f6, f7, f8]
theorem State.setSensor_frame (s : State) (k : Nat) (x : Sensor) : (s.setSensor k x).pending = s.pending ∧ (s.setSensor k x).variant = s.variant ∧ (s.setSensor k x).latches = s.latches ∧ (s.setSensor k x).resetting = s.resetting ∧ (s.setSensor k x).med = s.med ∧ (s.setSensor k x).roms = s.roms ∧ (s.setSensor k x).dbg = s.dbg ∧ (s.setSensor k x).i3c = s.i3c := by
  simp [State.setSensor]
theorem State.stageStart_frame (s : State) (st : Nat) : (s.stageStart st).pending = s.pending ∧ (s.stageStart st).variant = s.variant ∧ (s.stageStart st).applied = s.applied ∧ (s.stageStart st).latches = s.latches ∧ (s.stageStart st).commits = s.commits ∧ (s.stageStart st).resetting = s.resetting ∧ (s.stageStart st).clk = s.clk ∧ (s.stageStart st).bw = s.bw ∧ (s.stageStart st).gang0 = s.gang0 ∧ (s.stageStart st).gang1 = s.gang1 ∧ (s.stageStart st).med = s.med ∧ (s.stageStart st).roms = s.roms ∧ (s.stageStart st).xlt = s.xlt ∧ (s.stageStart st).prot = s.prot ∧ (s.stageStart st).caches = s.caches ∧ (s.stageStart st).dram = s.dram ∧ (s.stageStart st).link = s.link ∧ (s.stageStart st).reads = s.reads ∧ (s.stageStart st).drift = s.drift ∧ (s.stageStart st).ring = s.ring ∧ (s.stageStart st).strm = s.strm ∧ (s.stageStart st).mbox = s.mbox ∧ (s.stageStart st).srm = s.srm ∧ (s.stageStart st).dbg = s.dbg ∧ (s.stageStart st).i3c = s.i3c ∧ (s.stageStart st).drawn = s.drawn := by
  have f1 := @State.ctrlSwitch_frame; have f2 := @State.onPwr_frame; have f3 := @State.setFld_frame
  simp [State.stageStart, f1, f2, f3]
@[simp] theorem State.seqAdvance_pending (finish : State → State) (s : State) (fuel : Nat) (h : ∀ s, (finish s).pending = s.pending) : (State.seqAdvance finish s fuel).pending = s.pending := by
  have f1 := @State.enterSeqDown_frame; have f2 := @State.stageStart_frame
  induction fuel generalizing s with
  | zero => rfl
  | succ k ih =>
    simp only [State.seqAdvance]
    (repeat' split) <;> first | (simp [ih, h, f1, f2]; done) | rfl
@[simp] theorem State.seqAdvance_variant (finish : State → State) (s : State) (fuel : Nat) (h : ∀ s, (finish s).variant = s.variant) : (State.seqAdvance finish s fuel).variant = s.variant := by
  have f1 := @State.enterSeqDown_frame; have f2 := @State.stageStart_frame
  induction fuel generalizing s with
  | zero => rfl
  | succ k ih =>
    simp only [State.seqAdvance]
    (repeat' split) <;> first | (simp [ih, h, f1, f2]; done) | rfl
@[simp] theorem State.seqAdvance_applied (finish : State → State) (s : State) (fuel : Nat) (h : ∀ s, (finish s).applied = s.applied) : (State.seqAdvance finish s fuel).applied = s.applied := by
  have f1 := @State.enterSeqDown_frame; have f2 := @State.stageStart_frame
  induction fuel generalizing s with
  | zero => rfl
  | succ k ih =>
    simp only [State.seqAdvance]
    (repeat' split) <;> first | (simp [ih, h, f1, f2]; done) | rfl
@[simp] theorem State.seqAdvance_latches (finish : State → State) (s : State) (fuel : Nat) (h : ∀ s, (finish s).latches = s.latches) : (State.seqAdvance finish s fuel).latches = s.latches := by
  have f1 := @State.enterSeqDown_frame; have f2 := @State.stageStart_frame
  induction fuel generalizing s with
  | zero => rfl
  | succ k ih =>
    simp only [State.seqAdvance]
    (repeat' split) <;> first | (simp [ih, h, f1, f2]; done) | rfl
@[simp] theorem State.seqAdvance_commits (finish : State → State) (s : State) (fuel : Nat) (h : ∀ s, (finish s).commits = s.commits) : (State.seqAdvance finish s fuel).commits = s.commits := by
  have f1 := @State.enterSeqDown_frame; have f2 := @State.stageStart_frame
  induction fuel generalizing s with
  | zero => rfl
  | succ k ih =>
    simp only [State.seqAdvance]
    (repeat' split) <;> first | (simp [ih, h, f1, f2]; done) | rfl
@[simp] theorem State.seqAdvance_resetting (finish : State → State) (s : State) (fuel : Nat) (h : ∀ s, (finish s).resetting = s.resetting) : (State.seqAdvance finish s fuel).resetting = s.resetting := by
  have f1 := @State.enterSeqDown_frame; have f2 := @State.stageStart_frame
  induction fuel generalizing s with
  | zero => rfl
  | succ k ih =>
    simp only [State.seqAdvance]
    (repeat' split) <;> first | (simp [ih, h, f1, f2]; done) | rfl
@[simp] theorem State.seqAdvance_clk (finish : State → State) (s : State) (fuel : Nat) (h : ∀ s, (finish s).clk = s.clk) : (State.seqAdvance finish s fuel).clk = s.clk := by
  have f1 := @State.enterSeqDown_frame; have f2 := @State.stageStart_frame
  induction fuel generalizing s with
  | zero => rfl
  | succ k ih =>
    simp only [State.seqAdvance]
    (repeat' split) <;> first | (simp [ih, h, f1, f2]; done) | rfl
@[simp] theorem State.seqAdvance_bw (finish : State → State) (s : State) (fuel : Nat) (h : ∀ s, (finish s).bw = s.bw) : (State.seqAdvance finish s fuel).bw = s.bw := by
  have f1 := @State.enterSeqDown_frame; have f2 := @State.stageStart_frame
  induction fuel generalizing s with
  | zero => rfl
  | succ k ih =>
    simp only [State.seqAdvance]
    (repeat' split) <;> first | (simp [ih, h, f1, f2]; done) | rfl
@[simp] theorem State.seqAdvance_gang0 (finish : State → State) (s : State) (fuel : Nat) (h : ∀ s, (finish s).gang0 = s.gang0) : (State.seqAdvance finish s fuel).gang0 = s.gang0 := by
  have f1 := @State.enterSeqDown_frame; have f2 := @State.stageStart_frame
  induction fuel generalizing s with
  | zero => rfl
  | succ k ih =>
    simp only [State.seqAdvance]
    (repeat' split) <;> first | (simp [ih, h, f1, f2]; done) | rfl
@[simp] theorem State.seqAdvance_gang1 (finish : State → State) (s : State) (fuel : Nat) (h : ∀ s, (finish s).gang1 = s.gang1) : (State.seqAdvance finish s fuel).gang1 = s.gang1 := by
  have f1 := @State.enterSeqDown_frame; have f2 := @State.stageStart_frame
  induction fuel generalizing s with
  | zero => rfl
  | succ k ih =>
    simp only [State.seqAdvance]
    (repeat' split) <;> first | (simp [ih, h, f1, f2]; done) | rfl
@[simp] theorem State.seqAdvance_med (finish : State → State) (s : State) (fuel : Nat) (h : ∀ s, (finish s).med = s.med) : (State.seqAdvance finish s fuel).med = s.med := by
  have f1 := @State.enterSeqDown_frame; have f2 := @State.stageStart_frame
  induction fuel generalizing s with
  | zero => rfl
  | succ k ih =>
    simp only [State.seqAdvance]
    (repeat' split) <;> first | (simp [ih, h, f1, f2]; done) | rfl
@[simp] theorem State.seqAdvance_roms (finish : State → State) (s : State) (fuel : Nat) (h : ∀ s, (finish s).roms = s.roms) : (State.seqAdvance finish s fuel).roms = s.roms := by
  have f1 := @State.enterSeqDown_frame; have f2 := @State.stageStart_frame
  induction fuel generalizing s with
  | zero => rfl
  | succ k ih =>
    simp only [State.seqAdvance]
    (repeat' split) <;> first | (simp [ih, h, f1, f2]; done) | rfl
@[simp] theorem State.seqAdvance_xlt (finish : State → State) (s : State) (fuel : Nat) (h : ∀ s, (finish s).xlt = s.xlt) : (State.seqAdvance finish s fuel).xlt = s.xlt := by
  have f1 := @State.enterSeqDown_frame; have f2 := @State.stageStart_frame
  induction fuel generalizing s with
  | zero => rfl
  | succ k ih =>
    simp only [State.seqAdvance]
    (repeat' split) <;> first | (simp [ih, h, f1, f2]; done) | rfl
@[simp] theorem State.seqAdvance_prot (finish : State → State) (s : State) (fuel : Nat) (h : ∀ s, (finish s).prot = s.prot) : (State.seqAdvance finish s fuel).prot = s.prot := by
  have f1 := @State.enterSeqDown_frame; have f2 := @State.stageStart_frame
  induction fuel generalizing s with
  | zero => rfl
  | succ k ih =>
    simp only [State.seqAdvance]
    (repeat' split) <;> first | (simp [ih, h, f1, f2]; done) | rfl
@[simp] theorem State.seqAdvance_caches (finish : State → State) (s : State) (fuel : Nat) (h : ∀ s, (finish s).caches = s.caches) : (State.seqAdvance finish s fuel).caches = s.caches := by
  have f1 := @State.enterSeqDown_frame; have f2 := @State.stageStart_frame
  induction fuel generalizing s with
  | zero => rfl
  | succ k ih =>
    simp only [State.seqAdvance]
    (repeat' split) <;> first | (simp [ih, h, f1, f2]; done) | rfl
@[simp] theorem State.seqAdvance_dram (finish : State → State) (s : State) (fuel : Nat) (h : ∀ s, (finish s).dram = s.dram) : (State.seqAdvance finish s fuel).dram = s.dram := by
  have f1 := @State.enterSeqDown_frame; have f2 := @State.stageStart_frame
  induction fuel generalizing s with
  | zero => rfl
  | succ k ih =>
    simp only [State.seqAdvance]
    (repeat' split) <;> first | (simp [ih, h, f1, f2]; done) | rfl
@[simp] theorem State.seqAdvance_link (finish : State → State) (s : State) (fuel : Nat) (h : ∀ s, (finish s).link = s.link) : (State.seqAdvance finish s fuel).link = s.link := by
  have f1 := @State.enterSeqDown_frame; have f2 := @State.stageStart_frame
  induction fuel generalizing s with
  | zero => rfl
  | succ k ih =>
    simp only [State.seqAdvance]
    (repeat' split) <;> first | (simp [ih, h, f1, f2]; done) | rfl
@[simp] theorem State.seqAdvance_reads (finish : State → State) (s : State) (fuel : Nat) (h : ∀ s, (finish s).reads = s.reads) : (State.seqAdvance finish s fuel).reads = s.reads := by
  have f1 := @State.enterSeqDown_frame; have f2 := @State.stageStart_frame
  induction fuel generalizing s with
  | zero => rfl
  | succ k ih =>
    simp only [State.seqAdvance]
    (repeat' split) <;> first | (simp [ih, h, f1, f2]; done) | rfl
@[simp] theorem State.seqAdvance_drift (finish : State → State) (s : State) (fuel : Nat) (h : ∀ s, (finish s).drift = s.drift) : (State.seqAdvance finish s fuel).drift = s.drift := by
  have f1 := @State.enterSeqDown_frame; have f2 := @State.stageStart_frame
  induction fuel generalizing s with
  | zero => rfl
  | succ k ih =>
    simp only [State.seqAdvance]
    (repeat' split) <;> first | (simp [ih, h, f1, f2]; done) | rfl
@[simp] theorem State.seqAdvance_ring (finish : State → State) (s : State) (fuel : Nat) (h : ∀ s, (finish s).ring = s.ring) : (State.seqAdvance finish s fuel).ring = s.ring := by
  have f1 := @State.enterSeqDown_frame; have f2 := @State.stageStart_frame
  induction fuel generalizing s with
  | zero => rfl
  | succ k ih =>
    simp only [State.seqAdvance]
    (repeat' split) <;> first | (simp [ih, h, f1, f2]; done) | rfl
@[simp] theorem State.seqAdvance_strm (finish : State → State) (s : State) (fuel : Nat) (h : ∀ s, (finish s).strm = s.strm) : (State.seqAdvance finish s fuel).strm = s.strm := by
  have f1 := @State.enterSeqDown_frame; have f2 := @State.stageStart_frame
  induction fuel generalizing s with
  | zero => rfl
  | succ k ih =>
    simp only [State.seqAdvance]
    (repeat' split) <;> first | (simp [ih, h, f1, f2]; done) | rfl
@[simp] theorem State.seqAdvance_mbox (finish : State → State) (s : State) (fuel : Nat) (h : ∀ s, (finish s).mbox = s.mbox) : (State.seqAdvance finish s fuel).mbox = s.mbox := by
  have f1 := @State.enterSeqDown_frame; have f2 := @State.stageStart_frame
  induction fuel generalizing s with
  | zero => rfl
  | succ k ih =>
    simp only [State.seqAdvance]
    (repeat' split) <;> first | (simp [ih, h, f1, f2]; done) | rfl
@[simp] theorem State.seqAdvance_srm (finish : State → State) (s : State) (fuel : Nat) (h : ∀ s, (finish s).srm = s.srm) : (State.seqAdvance finish s fuel).srm = s.srm := by
  have f1 := @State.enterSeqDown_frame; have f2 := @State.stageStart_frame
  induction fuel generalizing s with
  | zero => rfl
  | succ k ih =>
    simp only [State.seqAdvance]
    (repeat' split) <;> first | (simp [ih, h, f1, f2]; done) | rfl
@[simp] theorem State.seqAdvance_dbg (finish : State → State) (s : State) (fuel : Nat) (h : ∀ s, (finish s).dbg = s.dbg) : (State.seqAdvance finish s fuel).dbg = s.dbg := by
  have f1 := @State.enterSeqDown_frame; have f2 := @State.stageStart_frame
  induction fuel generalizing s with
  | zero => rfl
  | succ k ih =>
    simp only [State.seqAdvance]
    (repeat' split) <;> first | (simp [ih, h, f1, f2]; done) | rfl
@[simp] theorem State.seqAdvance_i3c (finish : State → State) (s : State) (fuel : Nat) (h : ∀ s, (finish s).i3c = s.i3c) : (State.seqAdvance finish s fuel).i3c = s.i3c := by
  have f1 := @State.enterSeqDown_frame; have f2 := @State.stageStart_frame
  induction fuel generalizing s with
  | zero => rfl
  | succ k ih =>
    simp only [State.seqAdvance]
    (repeat' split) <;> first | (simp [ih, h, f1, f2]; done) | rfl
@[simp] theorem State.seqAdvance_drawn (finish : State → State) (s : State) (fuel : Nat) (h : ∀ s, (finish s).drawn = s.drawn) : (State.seqAdvance finish s fuel).drawn = s.drawn := by
  have f1 := @State.enterSeqDown_frame; have f2 := @State.stageStart_frame
  induction fuel generalizing s with
  | zero => rfl
  | succ k ih =>
    simp only [State.seqAdvance]
    (repeat' split) <;> first | (simp [ih, h, f1, f2]; done) | rfl
theorem State.stepEnds_frame (s : State) (n : Nat) (us : Nat) : (s.stepEnds n us).pending = s.pending ∧ (s.stepEnds n us).variant = s.variant ∧ (s.stepEnds n us).applied = s.applied ∧ (s.stepEnds n us).latches = s.latches ∧ (s.stepEnds n us).commits = s.commits ∧ (s.stepEnds n us).resetting = s.resetting ∧ (s.stepEnds n us).clk = s.clk ∧ (s.stepEnds n us).bw = s.bw ∧ (s.stepEnds n us).gang0 = s.gang0 ∧ (s.stepEnds n us).gang1 = s.gang1 ∧ (s.stepEnds n us).med = s.med ∧ (s.stepEnds n us).roms = s.roms ∧ (s.stepEnds n us).xlt = s.xlt ∧ (s.stepEnds n us).prot = s.prot ∧ (s.stepEnds n us).caches = s.caches ∧ (s.stepEnds n us).dram = s.dram ∧ (s.stepEnds n us).link = s.link ∧ (s.stepEnds n us).reads = s.reads ∧ (s.stepEnds n us).drift = s.drift ∧ (s.stepEnds n us).ring = s.ring ∧ (s.stepEnds n us).strm = s.strm ∧ (s.stepEnds n us).mbox = s.mbox ∧ (s.stepEnds n us).srm = s.srm ∧ (s.stepEnds n us).dbg = s.dbg ∧ (s.stepEnds n us).i3c = s.i3c ∧ (s.stepEnds n us).drawn = s.drawn := by
  have f1 := @State.onDev_frame; have f2 := @State.raiseRec_frame; have f3 := @State.setFld_frame
  simp [State.stepEnds, f1, f2, f3]
theorem State.seqFinish_frame (us : Nat) (s : State) : (State.seqFinish us s).pending = s.pending ∧ (State.seqFinish us s).variant = s.variant ∧ (State.seqFinish us s).applied = s.applied ∧ (State.seqFinish us s).latches = s.latches ∧ (State.seqFinish us s).commits = s.commits ∧ (State.seqFinish us s).resetting = s.resetting ∧ (State.seqFinish us s).clk = s.clk ∧ (State.seqFinish us s).bw = s.bw ∧ (State.seqFinish us s).gang0 = s.gang0 ∧ (State.seqFinish us s).gang1 = s.gang1 ∧ (State.seqFinish us s).med = s.med ∧ (State.seqFinish us s).roms = s.roms ∧ (State.seqFinish us s).xlt = s.xlt ∧ (State.seqFinish us s).prot = s.prot ∧ (State.seqFinish us s).caches = s.caches ∧ (State.seqFinish us s).dram = s.dram ∧ (State.seqFinish us s).link = s.link ∧ (State.seqFinish us s).reads = s.reads ∧ (State.seqFinish us s).drift = s.drift ∧ (State.seqFinish us s).ring = s.ring ∧ (State.seqFinish us s).strm = s.strm ∧ (State.seqFinish us s).mbox = s.mbox ∧ (State.seqFinish us s).srm = s.srm ∧ (State.seqFinish us s).dbg = s.dbg ∧ (State.seqFinish us s).i3c = s.i3c ∧ (State.seqFinish us s).drawn = s.drawn := by
  have f1 := @State.onDev_frame; have f2 := @State.raise_frame; have f3 := @State.stepEnds_frame; have f4 := @State.toState_frame
  simp [State.seqFinish, f1, f2, f3, f4]
theorem State.seqFail_frame (s : State) (cause : Nat) : (s.seqFail cause).pending = s.pending ∧ (s.seqFail cause).variant = s.variant ∧ (s.seqFail cause).applied = s.applied ∧ (s.seqFail cause).latches = s.latches ∧ (s.seqFail cause).commits = s.commits ∧ (s.seqFail cause).resetting = s.resetting ∧ (s.seqFail cause).clk = s.clk ∧ (s.seqFail cause).bw = s.bw ∧ (s.seqFail cause).gang0 = s.gang0 ∧ (s.seqFail cause).gang1 = s.gang1 ∧ (s.seqFail cause).med = s.med ∧ (s.seqFail cause).roms = s.roms ∧ (s.seqFail cause).xlt = s.xlt ∧ (s.seqFail cause).prot = s.prot ∧ (s.seqFail cause).caches = s.caches ∧ (s.seqFail cause).dram = s.dram ∧ (s.seqFail cause).link = s.link ∧ (s.seqFail cause).reads = s.reads ∧ (s.seqFail cause).drift = s.drift ∧ (s.seqFail cause).ring = s.ring ∧ (s.seqFail cause).strm = s.strm ∧ (s.seqFail cause).mbox = s.mbox ∧ (s.seqFail cause).srm = s.srm ∧ (s.seqFail cause).dbg = s.dbg ∧ (s.seqFail cause).i3c = s.i3c ∧ (s.seqFail cause).drawn = s.drawn := by
  have f1 := @State.enterSeqDown_frame; have f2 := @State.onPwr_frame; have f3 := @State.raise_frame; have f4 := @State.setFlag_frame; have f5 := @State.setFld_frame
  simp [State.seqFail, f1, f2, f3, f4, f5]

end Sys2Proof.Machine
end

