-- ==== Sys2Proof/Laws/FrameMailbox.lean ====
section
/-! SUPPORT. Frames of the operations of Machine/Mailbox.lean: the fields of State that each leaves as they were. -/

set_option maxRecDepth 4000
set_option linter.unusedSimpArgs false

namespace Sys2Proof.Machine

theorem State.onMbox_frame (s : State) (f : Mbox → Mbox) : (s.onMbox f).pending = s.pending ∧ (s.onMbox f).variant = s.variant ∧ (s.onMbox f).applied = s.applied ∧ (s.onMbox f).latches = s.latches ∧ (s.onMbox f).commits = s.commits ∧ (s.onMbox f).resetting = s.resetting ∧ (s.onMbox f).dev = s.dev ∧ (s.onMbox f).pwr = s.pwr ∧ (s.onMbox f).hk = s.hk ∧ (s.onMbox f).clk = s.clk ∧ (s.onMbox f).bw = s.bw ∧ (s.onMbox f).gang0 = s.gang0 ∧ (s.onMbox f).gang1 = s.gang1 ∧ (s.onMbox f).med = s.med ∧ (s.onMbox f).roms = s.roms ∧ (s.onMbox f).xlt = s.xlt ∧ (s.onMbox f).tally = s.tally ∧ (s.onMbox f).prot = s.prot ∧ (s.onMbox f).caches = s.caches ∧ (s.onMbox f).dram = s.dram ∧ (s.onMbox f).reads = s.reads ∧ (s.onMbox f).drift = s.drift ∧ (s.onMbox f).zl0 = s.zl0 ∧ (s.onMbox f).zl1 = s.zl1 ∧ (s.onMbox f).pmc = s.pmc ∧ (s.onMbox f).ring = s.ring ∧ (s.onMbox f).strm = s.strm ∧ (s.onMbox f).nvm = s.nvm ∧ (s.onMbox f).srm = s.srm ∧ (s.onMbox f).dbg = s.dbg ∧ (s.onMbox f).i3c = s.i3c := by
  simp [State.onMbox]
theorem State.lifeAlert_frame (s : State) : (s.lifeAlert).pending = s.pending ∧ (s.lifeAlert).variant = s.variant ∧ (s.lifeAlert).latches = s.latches ∧ (s.lifeAlert).resetting = s.resetting ∧ (s.lifeAlert).med = s.med ∧ (s.lifeAlert).roms = s.roms ∧ (s.lifeAlert).dbg = s.dbg ∧ (s.lifeAlert).i3c = s.i3c := by
  have f1 := @State.event_frame; have f2 := @State.onMbox_frame
  dsimp only [State.lifeAlert]; (repeat' split) <;> simp [f1, f2]
theorem State.ideKm_frame (s : State) (mem : Bool) (op : Nat) : (s.ideKm mem op).2.pending = s.pending ∧ (s.ideKm mem op).2.variant = s.variant ∧ (s.ideKm mem op).2.applied = s.applied ∧ (s.ideKm mem op).2.latches = s.latches ∧ (s.ideKm mem op).2.commits = s.commits ∧ (s.ideKm mem op).2.resetting = s.resetting ∧ (s.ideKm mem op).2.dev = s.dev ∧ (s.ideKm mem op).2.pwr = s.pwr ∧ (s.ideKm mem op).2.hk = s.hk ∧ (s.ideKm mem op).2.clk = s.clk ∧ (s.ideKm mem op).2.bw = s.bw ∧ (s.ideKm mem op).2.gang0 = s.gang0 ∧ (s.ideKm mem op).2.gang1 = s.gang1 ∧ (s.ideKm mem op).2.med = s.med ∧ (s.ideKm mem op).2.roms = s.roms ∧ (s.ideKm mem op).2.xlt = s.xlt ∧ (s.ideKm mem op).2.tally = s.tally ∧ (s.ideKm mem op).2.prot = s.prot ∧ (s.ideKm mem op).2.caches = s.caches ∧ (s.ideKm mem op).2.dram = s.dram ∧ (s.ideKm mem op).2.reads = s.reads ∧ (s.ideKm mem op).2.drift = s.drift ∧ (s.ideKm mem op).2.zl0 = s.zl0 ∧ (s.ideKm mem op).2.zl1 = s.zl1 ∧ (s.ideKm mem op).2.pmc = s.pmc ∧ (s.ideKm mem op).2.ring = s.ring ∧ (s.ideKm mem op).2.strm = s.strm ∧ (s.ideKm mem op).2.nvm = s.nvm ∧ (s.ideKm mem op).2.srm = s.srm ∧ (s.ideKm mem op).2.dbg = s.dbg ∧ (s.ideKm mem op).2.i3c = s.i3c := by
  have f1 := @State.onLink_frame; have f2 := @State.setFlag_frame
  dsimp only [State.ideKm]; (repeat' split) <;> simp [f1, f2]
theorem State.setSession_frame (s : State) (i : Nat) (x : Option Bool) : (s.setSession i x).pending = s.pending ∧ (s.setSession i x).variant = s.variant ∧ (s.setSession i x).applied = s.applied ∧ (s.setSession i x).latches = s.latches ∧ (s.setSession i x).commits = s.commits ∧ (s.setSession i x).resetting = s.resetting ∧ (s.setSession i x).dev = s.dev ∧ (s.setSession i x).pwr = s.pwr ∧ (s.setSession i x).hk = s.hk ∧ (s.setSession i x).clk = s.clk ∧ (s.setSession i x).bw = s.bw ∧ (s.setSession i x).gang0 = s.gang0 ∧ (s.setSession i x).gang1 = s.gang1 ∧ (s.setSession i x).med = s.med ∧ (s.setSession i x).roms = s.roms ∧ (s.setSession i x).xlt = s.xlt ∧ (s.setSession i x).tally = s.tally ∧ (s.setSession i x).prot = s.prot ∧ (s.setSession i x).caches = s.caches ∧ (s.setSession i x).dram = s.dram ∧ (s.setSession i x).reads = s.reads ∧ (s.setSession i x).drift = s.drift ∧ (s.setSession i x).zl0 = s.zl0 ∧ (s.setSession i x).zl1 = s.zl1 ∧ (s.setSession i x).pmc = s.pmc ∧ (s.setSession i x).ring = s.ring ∧ (s.setSession i x).strm = s.strm ∧ (s.setSession i x).nvm = s.nvm ∧ (s.setSession i x).srm = s.srm ∧ (s.setSession i x).dbg = s.dbg ∧ (s.setSession i x).i3c = s.i3c := by
  have f1 := @State.onMbox_frame; have f2 := @State.setFld_frame
  simp [State.setSession, f1, f2]
theorem State.sign_frame (s : State) : (s.sign).2.pending = s.pending ∧ (s.sign).2.variant = s.variant ∧ (s.sign).2.regs = s.regs ∧ (s.sign).2.applied = s.applied ∧ (s.sign).2.latches = s.latches ∧ (s.sign).2.commits = s.commits ∧ (s.sign).2.resetting = s.resetting ∧ (s.sign).2.dev = s.dev ∧ (s.sign).2.pwr = s.pwr ∧ (s.sign).2.hk = s.hk ∧ (s.sign).2.clk = s.clk ∧ (s.sign).2.bw = s.bw ∧ (s.sign).2.gang0 = s.gang0 ∧ (s.sign).2.gang1 = s.gang1 ∧ (s.sign).2.med = s.med ∧ (s.sign).2.roms = s.roms ∧ (s.sign).2.xlt = s.xlt ∧ (s.sign).2.tally = s.tally ∧ (s.sign).2.prot = s.prot ∧ (s.sign).2.caches = s.caches ∧ (s.sign).2.dram = s.dram ∧ (s.sign).2.link = s.link ∧ (s.sign).2.reads = s.reads ∧ (s.sign).2.drift = s.drift ∧ (s.sign).2.zl0 = s.zl0 ∧ (s.sign).2.zl1 = s.zl1 ∧ (s.sign).2.pmc = s.pmc ∧ (s.sign).2.ring = s.ring ∧ (s.sign).2.strm = s.strm ∧ (s.sign).2.mbox = s.mbox ∧ (s.sign).2.pnv = s.pnv ∧ (s.sign).2.nvm = s.nvm ∧ (s.sign).2.srm = s.srm ∧ (s.sign).2.dbg = s.dbg ∧ (s.sign).2.i3c = s.i3c := by
  have f1 := @State.draw_frame
  simp [State.sign, f1]

end Sys2Proof.Machine
end

