-- ==== Sys2Proof/Laws/FrameTally.lean ====
section
/-! SUPPORT. Frames of the operations of Machine/Tally.lean: the fields of State that each leaves as they were. -/

set_option maxRecDepth 4000
set_option linter.unusedSimpArgs false

namespace Sys2Proof.Machine

theorem State.countOver_frame (s : State) (o : Option Rec) : (s.countOver o).pending = s.pending ∧ (s.countOver o).variant = s.variant ∧ (s.countOver o).applied = s.applied ∧ (s.countOver o).latches = s.latches ∧ (s.countOver o).commits = s.commits ∧ (s.countOver o).resetting = s.resetting ∧ (s.countOver o).dev = s.dev ∧ (s.countOver o).pwr = s.pwr ∧ (s.countOver o).hk = s.hk ∧ (s.countOver o).clk = s.clk ∧ (s.countOver o).bw = s.bw ∧ (s.countOver o).gang0 = s.gang0 ∧ (s.countOver o).gang1 = s.gang1 ∧ (s.countOver o).med = s.med ∧ (s.countOver o).roms = s.roms ∧ (s.countOver o).xlt = s.xlt ∧ (s.countOver o).prot = s.prot ∧ (s.countOver o).caches = s.caches ∧ (s.countOver o).dram = s.dram ∧ (s.countOver o).reads = s.reads ∧ (s.countOver o).drift = s.drift ∧ (s.countOver o).zl0 = s.zl0 ∧ (s.countOver o).zl1 = s.zl1 ∧ (s.countOver o).pmc = s.pmc ∧ (s.countOver o).ring = s.ring ∧ (s.countOver o).mbox = s.mbox ∧ (s.countOver o).pnv = s.pnv ∧ (s.countOver o).nvm = s.nvm ∧ (s.countOver o).srm = s.srm ∧ (s.countOver o).dbg = s.dbg ∧ (s.countOver o).i3c = s.i3c ∧ (s.countOver o).drawn = s.drawn := by
  have f1 := @State.bumpSat_frame
  dsimp only [State.countOver]; (repeat' split) <;> simp [f1]
theorem State.ringTake_frame (s : State) (ring : SMap (Option Rec)) (r : Rec) : (s.ringTake ring r).2.2.pending = s.pending ∧ (s.ringTake ring r).2.2.variant = s.variant ∧ (s.ringTake ring r).2.2.applied = s.applied ∧ (s.ringTake ring r).2.2.latches = s.latches ∧ (s.ringTake ring r).2.2.commits = s.commits ∧ (s.ringTake ring r).2.2.resetting = s.resetting ∧ (s.ringTake ring r).2.2.dev = s.dev ∧ (s.ringTake ring r).2.2.pwr = s.pwr ∧ (s.ringTake ring r).2.2.hk = s.hk ∧ (s.ringTake ring r).2.2.clk = s.clk ∧ (s.ringTake ring r).2.2.bw = s.bw ∧ (s.ringTake ring r).2.2.gang0 = s.gang0 ∧ (s.ringTake ring r).2.2.gang1 = s.gang1 ∧ (s.ringTake ring r).2.2.med = s.med ∧ (s.ringTake ring r).2.2.roms = s.roms ∧ (s.ringTake ring r).2.2.xlt = s.xlt ∧ (s.ringTake ring r).2.2.prot = s.prot ∧ (s.ringTake ring r).2.2.caches = s.caches ∧ (s.ringTake ring r).2.2.dram = s.dram ∧ (s.ringTake ring r).2.2.reads = s.reads ∧ (s.ringTake ring r).2.2.drift = s.drift ∧ (s.ringTake ring r).2.2.zl0 = s.zl0 ∧ (s.ringTake ring r).2.2.zl1 = s.zl1 ∧ (s.ringTake ring r).2.2.pmc = s.pmc ∧ (s.ringTake ring r).2.2.ring = s.ring ∧ (s.ringTake ring r).2.2.mbox = s.mbox ∧ (s.ringTake ring r).2.2.pnv = s.pnv ∧ (s.ringTake ring r).2.2.nvm = s.nvm ∧ (s.ringTake ring r).2.2.srm = s.srm ∧ (s.ringTake ring r).2.2.dbg = s.dbg ∧ (s.ringTake ring r).2.2.i3c = s.i3c ∧ (s.ringTake ring r).2.2.drawn = s.drawn := by
  have f1 := @State.countOver_frame; have f2 := @State.lost_frame
  dsimp only [State.ringTake]; (repeat' split) <;> simp [f1, f2]
theorem flushOne_frame (acc : SMap (Option Rec) × State) (x : Nat × BufSlot) : (flushOne acc x).2.pending = acc.2.pending ∧ (flushOne acc x).2.variant = acc.2.variant ∧ (flushOne acc x).2.applied = acc.2.applied ∧ (flushOne acc x).2.latches = acc.2.latches ∧ (flushOne acc x).2.commits = acc.2.commits ∧ (flushOne acc x).2.resetting = acc.2.resetting ∧ (flushOne acc x).2.dev = acc.2.dev ∧ (flushOne acc x).2.pwr = acc.2.pwr ∧ (flushOne acc x).2.hk = acc.2.hk ∧ (flushOne acc x).2.clk = acc.2.clk ∧ (flushOne acc x).2.bw = acc.2.bw ∧ (flushOne acc x).2.gang0 = acc.2.gang0 ∧ (flushOne acc x).2.gang1 = acc.2.gang1 ∧ (flushOne acc x).2.med = acc.2.med ∧ (flushOne acc x).2.roms = acc.2.roms ∧ (flushOne acc x).2.xlt = acc.2.xlt ∧ (flushOne acc x).2.prot = acc.2.prot ∧ (flushOne acc x).2.caches = acc.2.caches ∧ (flushOne acc x).2.dram = acc.2.dram ∧ (flushOne acc x).2.reads = acc.2.reads ∧ (flushOne acc x).2.drift = acc.2.drift ∧ (flushOne acc x).2.zl0 = acc.2.zl0 ∧ (flushOne acc x).2.zl1 = acc.2.zl1 ∧ (flushOne acc x).2.pmc = acc.2.pmc ∧ (flushOne acc x).2.ring = acc.2.ring ∧ (flushOne acc x).2.mbox = acc.2.mbox ∧ (flushOne acc x).2.pnv = acc.2.pnv ∧ (flushOne acc x).2.nvm = acc.2.nvm ∧ (flushOne acc x).2.srm = acc.2.srm ∧ (flushOne acc x).2.dbg = acc.2.dbg ∧ (flushOne acc x).2.i3c = acc.2.i3c ∧ (flushOne acc x).2.drawn = acc.2.drawn := by
  have f1 := @State.onTally_frame; have f2 := @State.ringTake_frame
  dsimp only [flushOne]; (repeat' split) <;> simp [f1, f2]
theorem State.flushPlan_frame (s : State) : (s.flushPlan).pending = s.pending ∧ (s.flushPlan).variant = s.variant ∧ (s.flushPlan).applied = s.applied ∧ (s.flushPlan).latches = s.latches ∧ (s.flushPlan).commits = s.commits ∧ (s.flushPlan).resetting = s.resetting ∧ (s.flushPlan).dev = s.dev ∧ (s.flushPlan).pwr = s.pwr ∧ (s.flushPlan).hk = s.hk ∧ (s.flushPlan).clk = s.clk ∧ (s.flushPlan).bw = s.bw ∧ (s.flushPlan).gang0 = s.gang0 ∧ (s.flushPlan).gang1 = s.gang1 ∧ (s.flushPlan).med = s.med ∧ (s.flushPlan).roms = s.roms ∧ (s.flushPlan).xlt = s.xlt ∧ (s.flushPlan).prot = s.prot ∧ (s.flushPlan).caches = s.caches ∧ (s.flushPlan).dram = s.dram ∧ (s.flushPlan).reads = s.reads ∧ (s.flushPlan).drift = s.drift ∧ (s.flushPlan).zl0 = s.zl0 ∧ (s.flushPlan).zl1 = s.zl1 ∧ (s.flushPlan).pmc = s.pmc ∧ (s.flushPlan).ring = s.ring ∧ (s.flushPlan).mbox = s.mbox ∧ (s.flushPlan).pnv = s.pnv ∧ (s.flushPlan).nvm = s.nvm ∧ (s.flushPlan).srm = s.srm ∧ (s.flushPlan).dbg = s.dbg ∧ (s.flushPlan).i3c = s.i3c ∧ (s.flushPlan).drawn = s.drawn := by
  have f1 := @flushOne_frame
  simp [State.flushPlan, f1]
theorem State.flushNow_frame (s : State) : (s.flushNow).pending = s.pending ∧ (s.flushNow).variant = s.variant ∧ (s.flushNow).applied = s.applied ∧ (s.flushNow).latches = s.latches ∧ (s.flushNow).commits = s.commits ∧ (s.flushNow).resetting = s.resetting ∧ (s.flushNow).dev = s.dev ∧ (s.flushNow).pwr = s.pwr ∧ (s.flushNow).hk = s.hk ∧ (s.flushNow).clk = s.clk ∧ (s.flushNow).bw = s.bw ∧ (s.flushNow).gang0 = s.gang0 ∧ (s.flushNow).gang1 = s.gang1 ∧ (s.flushNow).med = s.med ∧ (s.flushNow).roms = s.roms ∧ (s.flushNow).xlt = s.xlt ∧ (s.flushNow).prot = s.prot ∧ (s.flushNow).caches = s.caches ∧ (s.flushNow).dram = s.dram ∧ (s.flushNow).reads = s.reads ∧ (s.flushNow).drift = s.drift ∧ (s.flushNow).zl0 = s.zl0 ∧ (s.flushNow).zl1 = s.zl1 ∧ (s.flushNow).pmc = s.pmc ∧ (s.flushNow).ring = s.ring ∧ (s.flushNow).mbox = s.mbox ∧ (s.flushNow).pnv = s.pnv ∧ (s.flushNow).nvm = s.nvm ∧ (s.flushNow).srm = s.srm ∧ (s.flushNow).dbg = s.dbg ∧ (s.flushNow).i3c = s.i3c ∧ (s.flushNow).drawn = s.drawn := by
  have f1 := @State.flushPlan_frame; have f2 := @State.onTally_frame
  simp [State.flushNow, f1, f2]
theorem State.setCore_frame (s : State) (c : Nat) (x : Core) : (s.setCore c x).pending = s.pending ∧ (s.setCore c x).variant = s.variant ∧ (s.setCore c x).applied = s.applied ∧ (s.setCore c x).latches = s.latches ∧ (s.setCore c x).commits = s.commits ∧ (s.setCore c x).pwr = s.pwr ∧ (s.setCore c x).hk = s.hk ∧ (s.setCore c x).clk = s.clk ∧ (s.setCore c x).bw = s.bw ∧ (s.setCore c x).gang0 = s.gang0 ∧ (s.setCore c x).gang1 = s.gang1 ∧ (s.setCore c x).med = s.med ∧ (s.setCore c x).roms = s.roms ∧ (s.setCore c x).xlt = s.xlt ∧ (s.setCore c x).prot = s.prot ∧ (s.setCore c x).dram = s.dram ∧ (s.setCore c x).drift = s.drift ∧ (s.setCore c x).zl0 = s.zl0 ∧ (s.setCore c x).zl1 = s.zl1 ∧ (s.setCore c x).strm = s.strm ∧ (s.setCore c x).mbox = s.mbox ∧ (s.setCore c x).srm = s.srm ∧ (s.setCore c x).dbg = s.dbg ∧ (s.setCore c x).i3c = s.i3c := by
  have f1 := @State.onTally_frame
  simp [State.setCore, f1]
theorem State.moveTask_frame (s : State) (task : Nat) : (s.moveTask task).pending = s.pending ∧ (s.moveTask task).variant = s.variant ∧ (s.moveTask task).applied = s.applied ∧ (s.moveTask task).latches = s.latches ∧ (s.moveTask task).commits = s.commits ∧ (s.moveTask task).pwr = s.pwr ∧ (s.moveTask task).hk = s.hk ∧ (s.moveTask task).clk = s.clk ∧ (s.moveTask task).bw = s.bw ∧ (s.moveTask task).gang0 = s.gang0 ∧ (s.moveTask task).gang1 = s.gang1 ∧ (s.moveTask task).med = s.med ∧ (s.moveTask task).roms = s.roms ∧ (s.moveTask task).xlt = s.xlt ∧ (s.moveTask task).prot = s.prot ∧ (s.moveTask task).dram = s.dram ∧ (s.moveTask task).drift = s.drift ∧ (s.moveTask task).zl0 = s.zl0 ∧ (s.moveTask task).zl1 = s.zl1 ∧ (s.moveTask task).strm = s.strm ∧ (s.moveTask task).mbox = s.mbox ∧ (s.moveTask task).srm = s.srm ∧ (s.moveTask task).dbg = s.dbg ∧ (s.moveTask task).i3c = s.i3c := by
  have f1 := @State.setCore_frame
  dsimp only [State.moveTask]; (repeat' split) <;> simp [f1]
theorem State.dropCore_frame (s : State) (c : Nat) : (s.dropCore c).pending = s.pending ∧ (s.dropCore c).variant = s.variant ∧ (s.dropCore c).applied = s.applied ∧ (s.dropCore c).latches = s.latches ∧ (s.dropCore c).commits = s.commits ∧ (s.dropCore c).pwr = s.pwr ∧ (s.dropCore c).hk = s.hk ∧ (s.dropCore c).clk = s.clk ∧ (s.dropCore c).bw = s.bw ∧ (s.dropCore c).gang0 = s.gang0 ∧ (s.dropCore c).gang1 = s.gang1 ∧ (s.dropCore c).med = s.med ∧ (s.dropCore c).roms = s.roms ∧ (s.dropCore c).xlt = s.xlt ∧ (s.dropCore c).prot = s.prot ∧ (s.dropCore c).dram = s.dram ∧ (s.dropCore c).drift = s.drift ∧ (s.dropCore c).zl0 = s.zl0 ∧ (s.dropCore c).zl1 = s.zl1 ∧ (s.dropCore c).strm = s.strm ∧ (s.dropCore c).mbox = s.mbox ∧ (s.dropCore c).srm = s.srm ∧ (s.dropCore c).dbg = s.dbg ∧ (s.dropCore c).i3c = s.i3c := by
  have f1 := @State.moveTask_frame; have f2 := @State.raise_frame; have f3 := @State.reportCode_frame; have f4 := @State.setCore_frame
  simp [State.dropCore, f1, f2, f3, f4]
theorem State.flushFor_frame (s : State) (v : Nat) : (s.flushFor v).pending = s.pending ∧ (s.flushFor v).variant = s.variant ∧ (s.flushFor v).latches = s.latches ∧ (s.flushFor v).resetting = s.resetting ∧ (s.flushFor v).med = s.med ∧ (s.flushFor v).roms = s.roms ∧ (s.flushFor v).dbg = s.dbg ∧ (s.flushFor v).i3c = s.i3c := by
  have f1 := @State.flushNow_frame; have f2 := @State.onTally_frame
  dsimp only [State.flushFor]; (repeat' split) <;> simp [f1, f2]
theorem State.recordInt_frame (s : State) (v : Nat) : (s.recordInt v).pending = s.pending ∧ (s.recordInt v).variant = s.variant ∧ (s.recordInt v).latches = s.latches ∧ (s.recordInt v).resetting = s.resetting ∧ (s.recordInt v).med = s.med ∧ (s.recordInt v).roms = s.roms ∧ (s.recordInt v).dbg = s.dbg ∧ (s.recordInt v).i3c = s.i3c := by
  have f1 := @State.raise_frame
  simp [State.recordInt, f1]
theorem State.createRec_frame (s : State) (r : Report) : (s.createRec r).pending = s.pending ∧ (s.createRec r).variant = s.variant ∧ (s.createRec r).latches = s.latches ∧ (s.createRec r).resetting = s.resetting ∧ (s.createRec r).med = s.med ∧ (s.createRec r).roms = s.roms ∧ (s.createRec r).dbg = s.dbg ∧ (s.createRec r).i3c = s.i3c := by
  have f1 := @State.countOver_frame; have f2 := @State.flushFor_frame; have f3 := @State.lost_frame; have f4 := @State.onTally_frame; have f5 := @State.recordInt_frame
  dsimp only [State.createRec]; (repeat' split) <;> simp [f1, f2, f3, f4, f5]
theorem State.dequeue_frame (s : State) (v : Nat) : (s.dequeue v).pending = s.pending ∧ (s.dequeue v).variant = s.variant ∧ (s.dequeue v).latches = s.latches ∧ (s.dequeue v).resetting = s.resetting ∧ (s.dequeue v).med = s.med ∧ (s.dequeue v).roms = s.roms ∧ (s.dequeue v).dbg = s.dbg ∧ (s.dequeue v).i3c = s.i3c := by
  have f1 := @State.onTally_frame
  simp [State.dequeue, f1]
theorem State.record_frame (s : State) (r : Report) : (s.record r).pending = s.pending ∧ (s.record r).variant = s.variant ∧ (s.record r).latches = s.latches ∧ (s.record r).resetting = s.resetting ∧ (s.record r).med = s.med ∧ (s.record r).roms = s.roms ∧ (s.record r).dbg = s.dbg ∧ (s.record r).i3c = s.i3c := by
  have f1 := @State.createRec_frame; have f2 := @State.flushFor_frame; have f3 := @State.onTally_frame; have f4 := @State.recordInt_frame
  dsimp only [State.record]; (repeat' split) <;> simp [f1, f2, f3, f4]
theorem State.ringStore_frame (s : State) (n : Nat) (b : BitVec 2048) : (s.ringStore n b).pending = s.pending ∧ (s.ringStore n b).variant = s.variant ∧ (s.ringStore n b).applied = s.applied ∧ (s.ringStore n b).latches = s.latches ∧ (s.ringStore n b).commits = s.commits ∧ (s.ringStore n b).resetting = s.resetting ∧ (s.ringStore n b).dev = s.dev ∧ (s.ringStore n b).pwr = s.pwr ∧ (s.ringStore n b).hk = s.hk ∧ (s.ringStore n b).clk = s.clk ∧ (s.ringStore n b).bw = s.bw ∧ (s.ringStore n b).gang0 = s.gang0 ∧ (s.ringStore n b).gang1 = s.gang1 ∧ (s.ringStore n b).med = s.med ∧ (s.ringStore n b).roms = s.roms ∧ (s.ringStore n b).xlt = s.xlt ∧ (s.ringStore n b).caches = s.caches ∧ (s.ringStore n b).dram = s.dram ∧ (s.ringStore n b).link = s.link ∧ (s.ringStore n b).reads = s.reads ∧ (s.ringStore n b).drift = s.drift ∧ (s.ringStore n b).zl0 = s.zl0 ∧ (s.ringStore n b).zl1 = s.zl1 ∧ (s.ringStore n b).ring = s.ring ∧ (s.ringStore n b).strm = s.strm ∧ (s.ringStore n b).mbox = s.mbox ∧ (s.ringStore n b).srm = s.srm ∧ (s.ringStore n b).dbg = s.dbg ∧ (s.ringStore n b).i3c = s.i3c := by
  have f1 := @State.nvDone_frame; have f2 := @State.onTally_frame
  simp [State.ringStore, f1, f2]
theorem State.ringProgram_frame (s : State) (l : List (Nat × Rec)) : (s.ringProgram l).pending = s.pending ∧ (s.ringProgram l).variant = s.variant ∧ (s.ringProgram l).latches = s.latches ∧ (s.ringProgram l).resetting = s.resetting ∧ (s.ringProgram l).med = s.med ∧ (s.ringProgram l).roms = s.roms ∧ (s.ringProgram l).dbg = s.dbg ∧ (s.ringProgram l).i3c = s.i3c := by
  have f1 := @State.ringStore_frame
  simp [State.ringProgram, f1]
theorem State.escalate_frame (s : State) (v : Nat) : (s.escalate v).pending = s.pending ∧ (s.escalate v).variant = s.variant ∧ (s.escalate v).latches = s.latches ∧ (s.escalate v).resetting = s.resetting ∧ (s.escalate v).med = s.med ∧ (s.escalate v).roms = s.roms ∧ (s.escalate v).dbg = s.dbg ∧ (s.escalate v).i3c = s.i3c := by
  have f1 := @State.onTally_frame
  simp [State.escalate, f1]
theorem State.escalateAll_frame (s : State) : (s.escalateAll).pending = s.pending ∧ (s.escalateAll).variant = s.variant ∧ (s.escalateAll).latches = s.latches ∧ (s.escalateAll).resetting = s.resetting ∧ (s.escalateAll).med = s.med ∧ (s.escalateAll).roms = s.roms ∧ (s.escalateAll).dbg = s.dbg ∧ (s.escalateAll).i3c = s.i3c := by
  have f1 := @State.escalate_frame
  simp [State.escalateAll, f1]
theorem State.enqueue_frame (s : State) (r : Report) : (s.enqueue r).pending = s.pending ∧ (s.enqueue r).variant = s.variant ∧ (s.enqueue r).latches = s.latches ∧ (s.enqueue r).resetting = s.resetting ∧ (s.enqueue r).med = s.med ∧ (s.enqueue r).roms = s.roms ∧ (s.enqueue r).dbg = s.dbg ∧ (s.enqueue r).i3c = s.i3c := by
  have f1 := @State.bumpSat_frame; have f2 := @State.escalateAll_frame; have f3 := @State.onTally_frame; have f4 := @State.raise_frame
  simp [State.enqueue, f1, f2, f3, f4]
/-- What ringStore and a change of the Tally leave, planDone leaves. -/
theorem State.planDone_keeps {α : Type} (π : State → α) (hStore : ∀ s n b, π (State.ringStore s n b) = π s) (hTally : ∀ s f, π (State.onTally s f) = π s) (s : State) (n : Nat)
    (b : BitVec 2048) : π (s.planDone n b) = π s := by
  dsimp only [State.planDone]
  refine (State.each_keeps π ?_ _ _).trans ((hTally _ _).trans (hStore _ _ _))
  intro s e
  split
  · split
    · exact hTally _ _
    · rfl
  · rfl
theorem State.planDone_frame (s : State) (n : Nat) (b : BitVec 2048) : (s.planDone n b).pending = s.pending ∧ (s.planDone n b).variant = s.variant ∧ (s.planDone n b).applied = s.applied ∧ (s.planDone n b).latches = s.latches ∧ (s.planDone n b).commits = s.commits ∧ (s.planDone n b).resetting = s.resetting ∧ (s.planDone n b).dev = s.dev ∧ (s.planDone n b).pwr = s.pwr ∧ (s.planDone n b).hk = s.hk ∧ (s.planDone n b).clk = s.clk ∧ (s.planDone n b).bw = s.bw ∧ (s.planDone n b).gang0 = s.gang0 ∧ (s.planDone n b).gang1 = s.gang1 ∧ (s.planDone n b).med = s.med ∧ (s.planDone n b).roms = s.roms ∧ (s.planDone n b).xlt = s.xlt ∧ (s.planDone n b).caches = s.caches ∧ (s.planDone n b).dram = s.dram ∧ (s.planDone n b).link = s.link ∧ (s.planDone n b).reads = s.reads ∧ (s.planDone n b).drift = s.drift ∧ (s.planDone n b).zl0 = s.zl0 ∧ (s.planDone n b).zl1 = s.zl1 ∧ (s.planDone n b).ring = s.ring ∧ (s.planDone n b).strm = s.strm ∧ (s.planDone n b).mbox = s.mbox ∧ (s.planDone n b).srm = s.srm ∧ (s.planDone n b).dbg = s.dbg ∧ (s.planDone n b).i3c = s.i3c := by
  have f1 := @State.onTally_frame; have f2 := @State.ringStore_frame
  exact ⟨State.planDone_keeps (fun s => s.pending) (by simp [f1, f2]) (by simp [f1, f2]) s n b, State.planDone_keeps (fun s => s.variant) (by simp [f1, f2]) (by simp [f1, f2]) s n b, State.planDone_keeps (fun s => s.applied) (by simp [f1, f2]) (by simp [f1, f2]) s n b, State.planDone_keeps (fun s => s.latches) (by simp [f1, f2]) (by simp [f1, f2]) s n b, State.planDone_keeps (fun s => s.commits) (by simp [f1, f2]) (by simp [f1, f2]) s n b, State.planDone_keeps (fun s => s.resetting) (by simp [f1, f2]) (by simp [f1, f2]) s n b, State.planDone_keeps (fun s => s.dev) (by simp [f1, f2]) (by simp [f1, f2]) s n b, State.planDone_keeps (fun s => s.pwr) (by simp [f1, f2]) (by simp [f1, f2]) s n b, State.planDone_keeps (fun s => s.hk) (by simp [f1, f2]) (by simp [f1, f2]) s n b, State.planDone_keeps (fun s => s.clk) (by simp [f1, f2]) (by simp [f1, f2]) s n b, State.planDone_keeps (fun s => s.bw) (by simp [f1, f2]) (by simp [f1, f2]) s n b, State.planDone_keeps (fun s => s.gang0) (by simp [f1, f2]) (by simp [f1, f2]) s n b, State.planDone_keeps (fun s => s.gang1) (by simp [f1, f2]) (by simp [f1, f2]) s n b, State.planDone_keeps (fun s => s.med) (by simp [f1, f2]) (by simp [f1, f2]) s n b, State.planDone_keeps (fun s => s.roms) (by simp [f1, f2]) (by simp [f1, f2]) s n b, State.planDone_keeps (fun s => s.xlt) (by simp [f1, f2]) (by simp [f1, f2]) s n b, State.planDone_keeps (fun s => s.caches) (by simp [f1, f2]) (by simp [f1, f2]) s n b, State.planDone_keeps (fun s => s.dram) (by simp [f1, f2]) (by simp [f1, f2]) s n b, State.planDone_keeps (fun s => s.link) (by simp [f1, f2]) (by simp [f1, f2]) s n b, State.planDone_keeps (fun s => s.reads) (by simp [f1, f2]) (by simp [f1, f2]) s n b, State.planDone_keeps (fun s => s.drift) (by simp [f1, f2]) (by simp [f1, f2]) s n b, State.planDone_keeps (fun s => s.zl0) (by simp [f1, f2]) (by simp [f1, f2]) s n b, State.planDone_keeps (fun s => s.zl1) (by simp [f1, f2]) (by simp [f1, f2]) s n b, State.planDone_keeps (fun s => s.ring) (by simp [f1, f2]) (by simp [f1, f2]) s n b, State.planDone_keeps (fun s => s.strm) (by simp [f1, f2]) (by simp [f1, f2]) s n b, State.planDone_keeps (fun s => s.mbox) (by simp [f1, f2]) (by simp [f1, f2]) s n b, State.planDone_keeps (fun s => s.srm) (by simp [f1, f2]) (by simp [f1, f2]) s n b, State.planDone_keeps (fun s => s.dbg) (by simp [f1, f2]) (by simp [f1, f2]) s n b, State.planDone_keeps (fun s => s.i3c) (by simp [f1, f2]) (by simp [f1, f2]) s n b⟩
theorem State.flushDone_frame (s : State) : (s.flushDone).pending = s.pending ∧ (s.flushDone).variant = s.variant ∧ (s.flushDone).latches = s.latches ∧ (s.flushDone).resetting = s.resetting ∧ (s.flushDone).med = s.med ∧ (s.flushDone).roms = s.roms ∧ (s.flushDone).dbg = s.dbg ∧ (s.flushDone).i3c = s.i3c := by
  have f1 := @State.bump_frame; have f2 := @State.flushNow_frame; have f3 := @State.nvStart_frame; have f4 := @State.onTally_frame; have f5 := @State.planDone_frame; have f6 := @State.raise_frame
  simp [State.flushDone, f1, f2, f3, f4, f5, f6]
theorem State.notify_frame (s : State) (r : Report) : (s.notify r).pending = s.pending ∧ (s.notify r).variant = s.variant ∧ (s.notify r).latches = s.latches ∧ (s.notify r).resetting = s.resetting ∧ (s.notify r).med = s.med ∧ (s.notify r).roms = s.roms ∧ (s.notify r).dbg = s.dbg ∧ (s.notify r).i3c = s.i3c := by
  have f1 := @State.bumpSat_frame; have f2 := @State.onTally_frame
  simp [State.notify, f1, f2]
theorem State.settleReport_frame (s : State) (r : Report) : (s.settleReport r).2.pending = s.pending ∧ (s.settleReport r).2.variant = s.variant ∧ (s.settleReport r).2.latches = s.latches ∧ (s.settleReport r).2.resetting = s.resetting ∧ (s.settleReport r).2.med = s.med ∧ (s.settleReport r).2.roms = s.roms ∧ (s.settleReport r).2.dbg = s.dbg ∧ (s.settleReport r).2.i3c = s.i3c := by
  have f1 := @State.onTally_frame
  dsimp only [State.settleReport]; (repeat' split) <;> simp [f1]

end Sys2Proof.Machine
end

