-- ==== Sys2Proof/Laws/FrameMemories.lean ====
section
/-! SUPPORT. Frames of the operations of Machine/Memories.lean: the fields of State that each leaves as they were. -/

set_option maxRecDepth 4000
set_option linter.unusedSimpArgs false

namespace Sys2Proof.Machine

theorem State.srmLast_frame (s : State) (x : WordErr) (lasting : Bool) : (s.srmLast x lasting).pending = s.pending ∧ (s.srmLast x lasting).variant = s.variant ∧ (s.srmLast x lasting).latches = s.latches ∧ (s.srmLast x lasting).resetting = s.resetting ∧ (s.srmLast x lasting).med = s.med ∧ (s.srmLast x lasting).roms = s.roms ∧ (s.srmLast x lasting).dbg = s.dbg ∧ (s.srmLast x lasting).i3c = s.i3c := by
  have f1 := @State.setFlag_frame; have f2 := @State.setFld_frame
  simp [State.srmLast, f1, f2]
theorem State.poolWord_frame (s : State) (item : Nat) : (s.poolWord item).pending = s.pending ∧ (s.poolWord item).variant = s.variant ∧ (s.poolWord item).latches = s.latches ∧ (s.poolWord item).resetting = s.resetting ∧ (s.poolWord item).med = s.med ∧ (s.poolWord item).roms = s.roms ∧ (s.poolWord item).dbg = s.dbg ∧ (s.poolWord item).i3c = s.i3c := by
  have f1 := @State.onSreq_frame; have f2 := @State.rewind_frame
  dsimp only [State.poolWord]; (repeat' split) <;> simp [f1, f2]
theorem State.laneWord_frame (s : State) (x : Nat) : (s.laneWord x).pending = s.pending ∧ (s.laneWord x).variant = s.variant ∧ (s.laneWord x).latches = s.latches ∧ (s.laneWord x).resetting = s.resetting ∧ (s.laneWord x).med = s.med ∧ (s.laneWord x).roms = s.roms ∧ (s.laneWord x).dbg = s.dbg ∧ (s.laneWord x).i3c = s.i3c := by
  have f1 := @State.onSreq_frame
  simp [State.laneWord, f1]
theorem State.parityWord_frame (s : State) (i : Nat) : (s.parityWord i).pending = s.pending ∧ (s.parityWord i).variant = s.variant ∧ (s.parityWord i).latches = s.latches ∧ (s.parityWord i).resetting = s.resetting ∧ (s.parityWord i).med = s.med ∧ (s.parityWord i).roms = s.roms ∧ (s.parityWord i).dbg = s.dbg ∧ (s.parityWord i).i3c = s.i3c := by
  have f1 := @State.onXlt_frame
  simp [State.parityWord, f1]
theorem State.tallyWord_frame (s : State) (k : Nat) : (s.tallyWord k).pending = s.pending ∧ (s.tallyWord k).variant = s.variant ∧ (s.tallyWord k).latches = s.latches ∧ (s.tallyWord k).resetting = s.resetting ∧ (s.tallyWord k).med = s.med ∧ (s.tallyWord k).roms = s.roms ∧ (s.tallyWord k).dbg = s.dbg ∧ (s.tallyWord k).i3c = s.i3c := by
  have f1 := @State.lost_frame; have f2 := @State.onTally_frame
  dsimp only [State.tallyWord]; (repeat' split) <;> simp [f1, f2]
theorem State.ownerLoses_frame (s : State) (x : WordErr) : (s.ownerLoses x).pending = s.pending ∧ (s.ownerLoses x).variant = s.variant ∧ (s.ownerLoses x).latches = s.latches ∧ (s.ownerLoses x).resetting = s.resetting ∧ (s.ownerLoses x).med = s.med ∧ (s.ownerLoses x).roms = s.roms ∧ (s.ownerLoses x).dbg = s.dbg ∧ (s.ownerLoses x).i3c = s.i3c := by
  have f1 := @State.laneWord_frame; have f2 := @State.onXlt_frame; have f3 := @State.parityWord_frame; have f4 := @State.poolWord_frame; have f5 := @State.reportCode_frame; have f6 := @State.tallyWord_frame
  simp [State.ownerLoses, f1, f2, f3, f4, f5, f6]
theorem State.bankWord_frame (s : State) (x : WordErr) : (s.bankWord x).pending = s.pending ∧ (s.bankWord x).variant = s.variant ∧ (s.bankWord x).latches = s.latches ∧ (s.bankWord x).resetting = s.resetting ∧ (s.bankWord x).med = s.med ∧ (s.bankWord x).roms = s.roms ∧ (s.bankWord x).dbg = s.dbg ∧ (s.bankWord x).i3c = s.i3c := by
  have f1 := @State.bumpSat_frame; have f2 := @State.bump_frame; have f3 := @State.ownerLoses_frame; have f4 := @State.raise_frame; have f5 := @State.reportCode_frame; have f6 := @State.srmLast_frame
  dsimp only [State.bankWord]; (repeat' split) <;> simp [f1, f2, f3, f4, f5, f6]
theorem State.marchCtrl_frame (s : State) (src : Source) (w : Nat) : (s.marchCtrl src w).pending = s.pending ∧ (s.marchCtrl src w).variant = s.variant ∧ (s.marchCtrl src w).latches = s.latches ∧ (s.marchCtrl src w).clk = s.clk ∧ (s.marchCtrl src w).med = s.med ∧ (s.marchCtrl src w).roms = s.roms ∧ (s.marchCtrl src w).i3c = s.i3c := by
  have f1 := @State.cfgErr_frame; have f2 := @State.setFlag_frame; have f3 := @State.setFld_frame
  simp [State.marchCtrl, f1, f2, f3]
theorem State.marchFailed_frame (s : State) (word : Nat) : (s.marchFailed word).pending = s.pending ∧ (s.marchFailed word).variant = s.variant ∧ (s.marchFailed word).applied = s.applied ∧ (s.marchFailed word).latches = s.latches ∧ (s.marchFailed word).commits = s.commits ∧ (s.marchFailed word).resetting = s.resetting ∧ (s.marchFailed word).dev = s.dev ∧ (s.marchFailed word).pwr = s.pwr ∧ (s.marchFailed word).hk = s.hk ∧ (s.marchFailed word).clk = s.clk ∧ (s.marchFailed word).bw = s.bw ∧ (s.marchFailed word).gang0 = s.gang0 ∧ (s.marchFailed word).gang1 = s.gang1 ∧ (s.marchFailed word).med = s.med ∧ (s.marchFailed word).roms = s.roms ∧ (s.marchFailed word).dram = s.dram ∧ (s.marchFailed word).link = s.link ∧ (s.marchFailed word).reads = s.reads ∧ (s.marchFailed word).zl0 = s.zl0 ∧ (s.marchFailed word).zl1 = s.zl1 ∧ (s.marchFailed word).mbox = s.mbox ∧ (s.marchFailed word).dbg = s.dbg ∧ (s.marchFailed word).i3c = s.i3c := by
  have f1 := @State.raiseRec_frame; have f2 := @State.setFld_frame
  simp [State.marchFailed, f1, f2]
theorem State.zeroBank_frame (s : State) (b : Nat) : (s.zeroBank b).pending = s.pending ∧ (s.zeroBank b).variant = s.variant ∧ (s.zeroBank b).applied = s.applied ∧ (s.zeroBank b).latches = s.latches ∧ (s.zeroBank b).commits = s.commits ∧ (s.zeroBank b).resetting = s.resetting ∧ (s.zeroBank b).dev = s.dev ∧ (s.zeroBank b).pwr = s.pwr ∧ (s.zeroBank b).hk = s.hk ∧ (s.zeroBank b).clk = s.clk ∧ (s.zeroBank b).bw = s.bw ∧ (s.zeroBank b).gang0 = s.gang0 ∧ (s.zeroBank b).gang1 = s.gang1 ∧ (s.zeroBank b).med = s.med ∧ (s.zeroBank b).roms = s.roms ∧ (s.zeroBank b).dram = s.dram ∧ (s.zeroBank b).link = s.link ∧ (s.zeroBank b).reads = s.reads ∧ (s.zeroBank b).zl0 = s.zl0 ∧ (s.zeroBank b).zl1 = s.zl1 ∧ (s.zeroBank b).mbox = s.mbox ∧ (s.zeroBank b).dbg = s.dbg ∧ (s.zeroBank b).i3c = s.i3c := by
  have f1 := @State.onTally_frame; have f2 := @State.onXlt_frame
  simp [State.zeroBank, f1, f2]

end Sys2Proof.Machine
end

