-- ==== Sys2Proof/Laws/FrameVent.lean ====
section
/-! SUPPORT. Frames of the operations of Machine/Vent.lean: the fields of State that each leaves as they were. -/

set_option maxRecDepth 4000
set_option linter.unusedSimpArgs false

namespace Sys2Proof.Machine

theorem State.linkOff_frame (s : State) : (s.linkOff).pending = s.pending ∧ (s.linkOff).variant = s.variant ∧ (s.linkOff).latches = s.latches ∧ (s.linkOff).resetting = s.resetting ∧ (s.linkOff).med = s.med ∧ (s.linkOff).roms = s.roms ∧ (s.linkOff).dbg = s.dbg ∧ (s.linkOff).i3c = s.i3c := by
  have f1 := @State.linkReset_frame
  simp [State.linkOff, f1]
theorem State.stopWork_frame (s : State) : (s.stopWork).pending = s.pending ∧ (s.stopWork).variant = s.variant ∧ (s.stopWork).latches = s.latches ∧ (s.stopWork).resetting = s.resetting ∧ (s.stopWork).clk = s.clk ∧ (s.stopWork).med = s.med ∧ (s.stopWork).roms = s.roms ∧ (s.stopWork).dbg = s.dbg ∧ (s.stopWork).i3c = s.i3c := by
  have f1 := @State.onGang_frame; have f2 := @State.onXlt_frame; have f3 := @State.onZl_frame; have f4 := @State.stopStreams_frame
  simp [State.stopWork, f1, f2, f3, f4]
theorem State.ventPage_frame (s : State) (v : VentPnv) : (s.ventPage v).pending = s.pending ∧ (s.ventPage v).variant = s.variant ∧ (s.ventPage v).latches = s.latches ∧ (s.ventPage v).resetting = s.resetting ∧ (s.ventPage v).med = s.med ∧ (s.ventPage v).roms = s.roms ∧ (s.ventPage v).dbg = s.dbg ∧ (s.ventPage v).i3c = s.i3c := by
  have f1 := @State.nvCut_frame; have f2 := @State.nvStart_frame; have f3 := @State.onPnv_frame
  simp [State.ventPage, f1, f2, f3]
theorem State.planTurns_frame (s : State) (img : VentImg) : (s.planTurns img).pending = s.pending ∧ (s.planTurns img).variant = s.variant ∧ (s.planTurns img).latches = s.latches ∧ (s.planTurns img).resetting = s.resetting ∧ (s.planTurns img).med = s.med ∧ (s.planTurns img).roms = s.roms ∧ (s.planTurns img).dbg = s.dbg ∧ (s.planTurns img).i3c = s.i3c := by
  have f1 := @State.onGang_frame
  simp [State.planTurns, f1]
theorem State.ventStart_frame (s : State) (fromHalt : Bool) : (s.ventStart fromHalt).pending = s.pending ∧ (s.ventStart fromHalt).variant = s.variant ∧ (s.ventStart fromHalt).latches = s.latches ∧ (s.ventStart fromHalt).resetting = s.resetting ∧ (s.ventStart fromHalt).med = s.med ∧ (s.ventStart fromHalt).roms = s.roms ∧ (s.ventStart fromHalt).dbg = s.dbg ∧ (s.ventStart fromHalt).i3c = s.i3c := by
  have f1 := @State.onPnv_frame; have f2 := @State.planTurns_frame; have f3 := @State.setFld_frame; have f4 := @State.stopWork_frame; have f5 := @State.ventPage_frame
  simp [State.ventStart, f1, f2, f3, f4, f5]
theorem State.cartHalt_frame (s : State) (n : Nat) : (s.cartHalt n).pending = s.pending ∧ (s.cartHalt n).variant = s.variant ∧ (s.cartHalt n).latches = s.latches ∧ (s.cartHalt n).resetting = s.resetting ∧ (s.cartHalt n).med = s.med ∧ (s.cartHalt n).roms = s.roms ∧ (s.cartHalt n).dbg = s.dbg ∧ (s.cartHalt n).i3c = s.i3c := by
  have f1 := @State.cartPowerOff_frame; have f2 := @State.onZl_frame
  simp [State.cartHalt, f1, f2]
theorem State.enterHalt_frame (s : State) (code : Nat) (early : Bool) : (s.enterHalt code early).pending = s.pending ∧ (s.enterHalt code early).variant = s.variant ∧ (s.enterHalt code early).latches = s.latches ∧ (s.enterHalt code early).resetting = s.resetting ∧ (s.enterHalt code early).med = s.med ∧ (s.enterHalt code early).roms = s.roms ∧ (s.enterHalt code early).dbg = s.dbg ∧ (s.enterHalt code early).i3c = s.i3c := by
  have f1 := @State.cartHalt_frame; have f2 := @State.onDev_frame; have f3 := @State.onPwr_frame; have f4 := @State.raise_frame; have f5 := @State.setFlag_frame; have f6 := @State.setFld_frame; have f7 := @State.stopWork_frame; have f8 := @State.toState_frame; have f9 := @State.ventStart_frame
  simp [State.enterHalt, f1, f2, f3, f4, f5, f6, f7, f8, f9]
theorem State.enterVent_frame (s : State) : (s.enterVent).pending = s.pending ∧ (s.enterVent).variant = s.variant ∧ (s.enterVent).latches = s.latches ∧ (s.enterVent).resetting = s.resetting ∧ (s.enterVent).med = s.med ∧ (s.enterVent).roms = s.roms ∧ (s.enterVent).dbg = s.dbg ∧ (s.enterVent).i3c = s.i3c := by
  have f1 := @State.loseQueued_frame; have f2 := @State.onDev_frame; have f3 := @State.onPwr_frame; have f4 := @State.onTally_frame; have f5 := @State.setFlag_frame; have f6 := @State.toState_frame; have f7 := @State.ventStart_frame
  simp [State.enterVent, f1, f2, f3, f4, f5, f6, f7]
theorem State.fatal_frame (s : State) (code : Nat) (early : Bool) : (s.fatal code early).pending = s.pending ∧ (s.fatal code early).variant = s.variant ∧ (s.fatal code early).latches = s.latches ∧ (s.fatal code early).resetting = s.resetting ∧ (s.fatal code early).med = s.med ∧ (s.fatal code early).roms = s.roms ∧ (s.fatal code early).dbg = s.dbg ∧ (s.fatal code early).i3c = s.i3c := by
  have f1 := @State.enterHalt_frame
  dsimp only [State.fatal]; (repeat' split) <;> simp [f1]
theorem State.goDown_frame (s : State) (cause : Nat) : (s.goDown cause).pending = s.pending ∧ (s.goDown cause).variant = s.variant ∧ (s.goDown cause).latches = s.latches ∧ (s.goDown cause).resetting = s.resetting ∧ (s.goDown cause).med = s.med ∧ (s.goDown cause).roms = s.roms ∧ (s.goDown cause).dbg = s.dbg ∧ (s.goDown cause).i3c = s.i3c := by
  have f1 := @State.endDebug_frame; have f2 := @State.enterSeqDown_frame; have f3 := @State.linkOff_frame; have f4 := @State.stopWork_frame
  simp [State.goDown, f1, f2, f3, f4]
theorem State.orderlyDown_frame (s : State) : (s.orderlyDown).pending = s.pending ∧ (s.orderlyDown).variant = s.variant ∧ (s.orderlyDown).latches = s.latches ∧ (s.orderlyDown).resetting = s.resetting ∧ (s.orderlyDown).med = s.med ∧ (s.orderlyDown).roms = s.roms ∧ (s.orderlyDown).dbg = s.dbg ∧ (s.orderlyDown).i3c = s.i3c := by
  have f1 := @State.goDown_frame; have f2 := @State.nvFlush_frame; have f3 := @State.nvStart_frame; have f4 := @State.onPnv_frame
  simp [State.orderlyDown, f1, f2, f3, f4]
theorem State.powerOff_frame (s : State) : (s.powerOff).pending = s.pending ∧ (s.powerOff).variant = s.variant ∧ (s.powerOff).latches = s.latches ∧ (s.powerOff).resetting = s.resetting ∧ (s.powerOff).med = s.med ∧ (s.powerOff).roms = s.roms ∧ (s.powerOff).dbg = s.dbg ∧ (s.powerOff).i3c = s.i3c := by
  have f1 := @State.flushNow_frame; have f2 := @State.onPwr_frame; have f3 := @State.orderlyDown_frame
  dsimp only [State.powerOff]; (repeat' split) <;> simp [f1, f2, f3]
theorem State.offLate_frame (s : State) : (s.offLate).pending = s.pending ∧ (s.offLate).variant = s.variant ∧ (s.offLate).latches = s.latches ∧ (s.offLate).resetting = s.resetting ∧ (s.offLate).med = s.med ∧ (s.offLate).roms = s.roms ∧ (s.offLate).dbg = s.dbg ∧ (s.offLate).i3c = s.i3c := by
  have f1 := @State.onDev_frame; have f2 := @State.powerOff_frame
  simp [State.offLate, f1, f2]
theorem State.ventCheck_frame (s : State) : (s.ventCheck).pending = s.pending ∧ (s.ventCheck).variant = s.variant ∧ (s.ventCheck).latches = s.latches ∧ (s.ventCheck).resetting = s.resetting ∧ (s.ventCheck).med = s.med ∧ (s.ventCheck).roms = s.roms ∧ (s.ventCheck).dbg = s.dbg ∧ (s.ventCheck).i3c = s.i3c := by
  have f1 := @State.goDown_frame; have f2 := @State.onDev_frame; have f3 := @State.onPwr_frame; have f4 := @State.orderlyDown_frame
  simp [State.ventCheck, f1, f2, f3, f4]
theorem State.ventDie_frame (s : State) (g : Nat) (p : Nat) : (s.ventDie g p).pending = s.pending ∧ (s.ventDie g p).variant = s.variant ∧ (s.ventDie g p).applied = s.applied ∧ (s.ventDie g p).latches = s.latches ∧ (s.ventDie g p).commits = s.commits ∧ (s.ventDie g p).resetting = s.resetting ∧ (s.ventDie g p).pwr = s.pwr ∧ (s.ventDie g p).hk = s.hk ∧ (s.ventDie g p).clk = s.clk ∧ (s.ventDie g p).bw = s.bw ∧ (s.ventDie g p).med = s.med ∧ (s.ventDie g p).roms = s.roms ∧ (s.ventDie g p).caches = s.caches ∧ (s.ventDie g p).zl0 = s.zl0 ∧ (s.ventDie g p).zl1 = s.zl1 ∧ (s.ventDie g p).ring = s.ring ∧ (s.ventDie g p).mbox = s.mbox ∧ (s.ventDie g p).dbg = s.dbg ∧ (s.ventDie g p).i3c = s.i3c ∧ (s.ventDie g p).drawn = s.drawn := by
  have f1 := @State.emit_frame
  simp [State.ventDie, f1]
theorem State.ventRot_frame (s : State) (g : Nat) : (s.ventRot g).pending = s.pending ∧ (s.ventRot g).variant = s.variant ∧ (s.ventRot g).latches = s.latches ∧ (s.ventRot g).resetting = s.resetting ∧ (s.ventRot g).med = s.med ∧ (s.ventRot g).roms = s.roms ∧ (s.ventRot g).dbg = s.dbg ∧ (s.ventRot g).i3c = s.i3c := by
  have f1 := @State.onPnv_frame
  simp [State.ventRot, f1]

end Sys2Proof.Machine
end

