-- ==== Sys2Proof/Laws/FrameFaults.lean ====
section
/-! SUPPORT. Frames of the operations of Machine/Faults.lean: the fields of State that each leaves as they were. -/

set_option maxRecDepth 4000
set_option linter.unusedSimpArgs false

namespace Sys2Proof.Machine

theorem State.tlyReadSel_frame (s : State) (w : Nat) : (s.tlyReadSel w).pending = s.pending ∧ (s.tlyReadSel w).variant = s.variant ∧ (s.tlyReadSel w).latches = s.latches ∧ (s.tlyReadSel w).clk = s.clk ∧ (s.tlyReadSel w).med = s.med ∧ (s.tlyReadSel w).roms = s.roms ∧ (s.tlyReadSel w).i3c = s.i3c := by
  have f1 := @State.onTally_frame; have f2 := @State.setFlag_frame; have f3 := @State.setFld_frame
  simp [State.tlyReadSel, f1, f2, f3]
theorem State.tlyCtrl_frame (s : State) (src : Source) (w : Nat) : (s.tlyCtrl src w).pending = s.pending ∧ (s.tlyCtrl src w).variant = s.variant ∧ (s.tlyCtrl src w).latches = s.latches ∧ (s.tlyCtrl src w).clk = s.clk ∧ (s.tlyCtrl src w).med = s.med ∧ (s.tlyCtrl src w).roms = s.roms ∧ (s.tlyCtrl src w).i3c = s.i3c := by
  have f1 := @State.cfgErr_frame; have f2 := @State.flushNow_frame
  simp [State.tlyCtrl, f1, f2]
theorem State.handled_frame (s : State) (r : Report) : (s.handled r).pending = s.pending ∧ (s.handled r).variant = s.variant ∧ (s.handled r).latches = s.latches ∧ (s.handled r).resetting = s.resetting ∧ (s.handled r).med = s.med ∧ (s.handled r).roms = s.roms ∧ (s.handled r).dbg = s.dbg ∧ (s.handled r).i3c = s.i3c := by
  have f1 := @State.bump_frame; have f2 := @State.setFld_frame
  simp [State.handled, f1, f2]
theorem State.takeReport_frame (s : State) (p : Nat) : (s.takeReport p).pending = s.pending ∧ (s.takeReport p).variant = s.variant ∧ (s.takeReport p).latches = s.latches ∧ (s.takeReport p).resetting = s.resetting ∧ (s.takeReport p).med = s.med ∧ (s.takeReport p).roms = s.roms ∧ (s.takeReport p).dbg = s.dbg ∧ (s.takeReport p).i3c = s.i3c := by
  have f1 := @State.onTally_frame
  simp [State.takeReport, f1]
theorem State.ventFatal_frame (s : State) (code : Nat) : (s.ventFatal code).pending = s.pending ∧ (s.ventFatal code).variant = s.variant ∧ (s.ventFatal code).latches = s.latches ∧ (s.ventFatal code).resetting = s.resetting ∧ (s.ventFatal code).med = s.med ∧ (s.ventFatal code).roms = s.roms ∧ (s.ventFatal code).dbg = s.dbg ∧ (s.ventFatal code).i3c = s.i3c := by
  have f1 := @State.onPnv_frame
  simp [State.ventFatal, f1]

end Sys2Proof.Machine
end

