-- ==== Sys2Proof/Laws/FrameHousekeeping.lean ====
section
/-! SUPPORT. Frames of the operations of Machine/Housekeeping.lean: the fields of State that each leaves as they were. -/

set_option maxRecDepth 4000
set_option linter.unusedSimpArgs false

namespace Sys2Proof.Machine

theorem State.onHk_frame (s : State) (f : Hk → Hk) : (s.onHk f).pending = s.pending ∧ (s.onHk f).variant = s.variant ∧ (s.onHk f).applied = s.applied ∧ (s.onHk f).latches = s.latches ∧ (s.onHk f).commits = s.commits ∧ (s.onHk f).resetting = s.resetting ∧ (s.onHk f).clk = s.clk ∧ (s.onHk f).bw = s.bw ∧ (s.onHk f).gang0 = s.gang0 ∧ (s.onHk f).gang1 = s.gang1 ∧ (s.onHk f).med = s.med ∧ (s.onHk f).roms = s.roms ∧ (s.onHk f).xlt = s.xlt ∧ (s.onHk f).prot = s.prot ∧ (s.onHk f).caches = s.caches ∧ (s.onHk f).dram = s.dram ∧ (s.onHk f).link = s.link ∧ (s.onHk f).reads = s.reads ∧ (s.onHk f).drift = s.drift ∧ (s.onHk f).ring = s.ring ∧ (s.onHk f).strm = s.strm ∧ (s.onHk f).mbox = s.mbox ∧ (s.onHk f).srm = s.srm ∧ (s.onHk f).dbg = s.dbg ∧ (s.onHk f).i3c = s.i3c ∧ (s.onHk f).drawn = s.drawn := by
  simp [State.onHk]
theorem State.restartCounts_frame (s : State) (arm : Bool) : (s.restartCounts arm).pending = s.pending ∧ (s.restartCounts arm).variant = s.variant ∧ (s.restartCounts arm).applied = s.applied ∧ (s.restartCounts arm).latches = s.latches ∧ (s.restartCounts arm).commits = s.commits ∧ (s.restartCounts arm).resetting = s.resetting ∧ (s.restartCounts arm).clk = s.clk ∧ (s.restartCounts arm).bw = s.bw ∧ (s.restartCounts arm).gang0 = s.gang0 ∧ (s.restartCounts arm).gang1 = s.gang1 ∧ (s.restartCounts arm).med = s.med ∧ (s.restartCounts arm).roms = s.roms ∧ (s.restartCounts arm).xlt = s.xlt ∧ (s.restartCounts arm).prot = s.prot ∧ (s.restartCounts arm).caches = s.caches ∧ (s.restartCounts arm).dram = s.dram ∧ (s.restartCounts arm).link = s.link ∧ (s.restartCounts arm).reads = s.reads ∧ (s.restartCounts arm).drift = s.drift ∧ (s.restartCounts arm).ring = s.ring ∧ (s.restartCounts arm).strm = s.strm ∧ (s.restartCounts arm).mbox = s.mbox ∧ (s.restartCounts arm).srm = s.srm ∧ (s.restartCounts arm).dbg = s.dbg ∧ (s.restartCounts arm).i3c = s.i3c ∧ (s.restartCounts arm).drawn = s.drawn := by
  have f1 := @State.onHk_frame
  simp [State.restartCounts, f1]
theorem State.decideLevel_frame (s : State) (n : Nat) : (s.decideLevel n).pending = s.pending ∧ (s.decideLevel n).variant = s.variant ∧ (s.decideLevel n).latches = s.latches ∧ (s.decideLevel n).resetting = s.resetting ∧ (s.decideLevel n).med = s.med ∧ (s.decideLevel n).roms = s.roms ∧ (s.decideLevel n).dbg = s.dbg ∧ (s.decideLevel n).i3c = s.i3c := by
  have f1 := @State.onHk_frame; have f2 := @State.postLat_frame; have f3 := @State.raise_frame; have f4 := @State.setFld_frame
  simp [State.decideLevel, f1, f2, f3, f4]
theorem State.levelRound_frame (s : State) : (s.levelRound).pending = s.pending ∧ (s.levelRound).variant = s.variant ∧ (s.levelRound).latches = s.latches ∧ (s.levelRound).resetting = s.resetting ∧ (s.levelRound).med = s.med ∧ (s.levelRound).roms = s.roms ∧ (s.levelRound).dbg = s.dbg ∧ (s.levelRound).i3c = s.i3c := by
  have f1 := @State.decideLevel_frame; have f2 := @State.onHk_frame; have f3 := @State.raise_frame; have f4 := @State.setFld_frame
  simp [State.levelRound, f1, f2, f3, f4]
theorem State.riskBegin_frame (s : State) : (s.riskBegin).pending = s.pending ∧ (s.riskBegin).variant = s.variant ∧ (s.riskBegin).latches = s.latches ∧ (s.riskBegin).resetting = s.resetting ∧ (s.riskBegin).med = s.med ∧ (s.riskBegin).roms = s.roms ∧ (s.riskBegin).dbg = s.dbg ∧ (s.riskBegin).i3c = s.i3c := by
  have f1 := @State.closeSeg_frame; have f2 := @State.event_frame; have f3 := @State.onLink_frame; have f4 := @State.onXlt_frame; have f5 := @State.raiseRec_frame; have f6 := @State.riskCheck_frame; have f7 := @State.setFlag_frame
  simp [State.riskBegin, f1, f2, f3, f4, f5, f6, f7]
theorem State.loseVhold_frame (s : State) : (s.loseVhold).pending = s.pending ∧ (s.loseVhold).variant = s.variant ∧ (s.loseVhold).latches = s.latches ∧ (s.loseVhold).resetting = s.resetting ∧ (s.loseVhold).med = s.med ∧ (s.loseVhold).roms = s.roms ∧ (s.loseVhold).dbg = s.dbg ∧ (s.loseVhold).i3c = s.i3c := by
  have f1 := @State.onHk_frame; have f2 := @State.raise_frame; have f3 := @State.riskBegin_frame; have f4 := @State.settle_frame
  simp [State.loseVhold, f1, f2, f3, f4]
theorem State.powerRound_frame (s : State) (l : List HkIn) : (s.powerRound l).pending = s.pending ∧ (s.powerRound l).variant = s.variant ∧ (s.powerRound l).latches = s.latches ∧ (s.powerRound l).resetting = s.resetting ∧ (s.powerRound l).med = s.med ∧ (s.powerRound l).roms = s.roms ∧ (s.powerRound l).dbg = s.dbg ∧ (s.powerRound l).i3c = s.i3c := by
  have f1 := @State.onHk_frame
  dsimp only [State.powerRound]; (repeat' split) <;> simp [f1]
theorem State.qualify_frame (s : State) : (s.qualify).pending = s.pending ∧ (s.qualify).variant = s.variant ∧ (s.qualify).latches = s.latches ∧ (s.qualify).resetting = s.resetting ∧ (s.qualify).med = s.med ∧ (s.qualify).roms = s.roms ∧ (s.qualify).dbg = s.dbg ∧ (s.qualify).i3c = s.i3c := by
  have f1 := @State.onHk_frame; have f2 := @State.onXlt_frame; have f3 := @State.raise_frame; have f4 := @State.riskEnd_frame; have f5 := @State.sendCmp_frame; have f6 := @State.settle_frame
  simp [State.qualify, f1, f2, f3, f4, f5, f6]
theorem State.railFault_frame (s : State) (c : Nat) (v : Int) : (s.railFault c v).pending = s.pending ∧ (s.railFault c v).variant = s.variant ∧ (s.railFault c v).latches = s.latches ∧ (s.railFault c v).resetting = s.resetting ∧ (s.railFault c v).med = s.med ∧ (s.railFault c v).roms = s.roms ∧ (s.railFault c v).dbg = s.dbg ∧ (s.railFault c v).i3c = s.i3c := by
  have f1 := @State.dieFail_frame; have f2 := @State.onPwr_frame; have f3 := @State.raiseRec_frame; have f4 := @State.raise_frame; have f5 := @State.setFld_frame
  simp [State.railFault, f1, f2, f3, f4, f5]
theorem State.sensorActs_frame (s : State) (k : Nat) : (s.sensorActs k).pending = s.pending ∧ (s.sensorActs k).variant = s.variant ∧ (s.sensorActs k).latches = s.latches ∧ (s.sensorActs k).resetting = s.resetting ∧ (s.sensorActs k).med = s.med ∧ (s.sensorActs k).roms = s.roms ∧ (s.sensorActs k).dbg = s.dbg ∧ (s.sensorActs k).i3c = s.i3c := by
  have f1 := @State.erupt_frame; have f2 := @State.event_frame; have f3 := @State.raiseRec_frame; have f4 := @State.setSensor_frame
  simp [State.sensorActs, f1, f2, f3, f4]
theorem State.takeSample_frame (s : State) (x : HkIn) : (s.takeSample x).pending = s.pending ∧ (s.takeSample x).variant = s.variant ∧ (s.takeSample x).latches = s.latches ∧ (s.takeSample x).resetting = s.resetting ∧ (s.takeSample x).med = s.med ∧ (s.takeSample x).roms = s.roms ∧ (s.takeSample x).dbg = s.dbg ∧ (s.takeSample x).i3c = s.i3c := by
  have f1 := @State.onHk_frame; have f2 := @State.railFault_frame
  simp [State.takeSample, f1, f2]
theorem State.takeTemp_frame (s : State) (x : Nat × Nat × Int) : (s.takeTemp x).pending = s.pending ∧ (s.takeTemp x).variant = s.variant ∧ (s.takeTemp x).latches = s.latches ∧ (s.takeTemp x).resetting = s.resetting ∧ (s.takeTemp x).med = s.med ∧ (s.takeTemp x).roms = s.roms ∧ (s.takeTemp x).dbg = s.dbg ∧ (s.takeTemp x).i3c = s.i3c := by
  have f1 := @State.raiseRec_frame; have f2 := @State.setFld_frame; have f3 := @State.setSensor_frame
  simp [State.takeTemp, f1, f2, f3]
theorem State.testStart_frame (s : State) : (s.testStart).pending = s.pending ∧ (s.testStart).variant = s.variant ∧ (s.testStart).applied = s.applied ∧ (s.testStart).latches = s.latches ∧ (s.testStart).commits = s.commits ∧ (s.testStart).resetting = s.resetting ∧ (s.testStart).clk = s.clk ∧ (s.testStart).bw = s.bw ∧ (s.testStart).gang0 = s.gang0 ∧ (s.testStart).gang1 = s.gang1 ∧ (s.testStart).med = s.med ∧ (s.testStart).roms = s.roms ∧ (s.testStart).xlt = s.xlt ∧ (s.testStart).prot = s.prot ∧ (s.testStart).caches = s.caches ∧ (s.testStart).dram = s.dram ∧ (s.testStart).link = s.link ∧ (s.testStart).reads = s.reads ∧ (s.testStart).drift = s.drift ∧ (s.testStart).ring = s.ring ∧ (s.testStart).strm = s.strm ∧ (s.testStart).mbox = s.mbox ∧ (s.testStart).srm = s.srm ∧ (s.testStart).dbg = s.dbg ∧ (s.testStart).i3c = s.i3c ∧ (s.testStart).drawn = s.drawn := by
  have f1 := @State.onHk_frame
  simp [State.testStart, f1]
theorem State.vholdRound_frame (s : State) (l : List HkIn) : (s.vholdRound l).pending = s.pending ∧ (s.vholdRound l).variant = s.variant ∧ (s.vholdRound l).latches = s.latches ∧ (s.vholdRound l).resetting = s.resetting ∧ (s.vholdRound l).med = s.med ∧ (s.vholdRound l).roms = s.roms ∧ (s.vholdRound l).dbg = s.dbg ∧ (s.vholdRound l).i3c = s.i3c := by
  have f1 := @State.loseVhold_frame; have f2 := @State.onHk_frame; have f3 := @State.setFld_frame; have f4 := @State.testStart_frame
  dsimp only [State.vholdRound]; (repeat' split) <;> simp [f1, f2, f3, f4]
theorem State.vinRound_frame (s : State) (l : List HkIn) : (s.vinRound l).pending = s.pending ∧ (s.vinRound l).variant = s.variant ∧ (s.vinRound l).latches = s.latches ∧ (s.vinRound l).resetting = s.resetting ∧ (s.vinRound l).med = s.med ∧ (s.vinRound l).roms = s.roms ∧ (s.vinRound l).dbg = s.dbg ∧ (s.vinRound l).i3c = s.i3c := by
  have f1 := @State.onPwr_frame; have f2 := @State.raiseRec_frame
  dsimp only [State.vinRound]; (repeat' split) <;> simp [f1, f2]

end Sys2Proof.Machine
end

