-- ==== Sys2Proof/Laws/FrameStartUp.lean ====
section
/-! SUPPORT. Frames of the operations of Machine/StartUp.lean: the fields of State that each leaves as they were. -/

set_option maxRecDepth 4000
set_option linter.unusedSimpArgs false

namespace Sys2Proof.Machine

theorem State.dieOn_frame (s : State) (d : Nat) : (s.dieOn d).pending = s.pending ∧ (s.dieOn d).variant = s.variant ∧ (s.dieOn d).latches = s.latches ∧ (s.dieOn d).resetting = s.resetting ∧ (s.dieOn d).clk = s.clk ∧ (s.dieOn d).med = s.med ∧ (s.dieOn d).roms = s.roms ∧ (s.dieOn d).dbg = s.dbg ∧ (s.dieOn d).i3c = s.i3c := by
  have f1 := @State.domainsOn_frame; have f2 := @State.setFld_frame
  simp [State.dieOn, f1, f2]
theorem State.initFail_frame (s : State) (d : Nat) : (s.initFail d).pending = s.pending ∧ (s.initFail d).variant = s.variant ∧ (s.initFail d).latches = s.latches ∧ (s.initFail d).resetting = s.resetting ∧ (s.initFail d).clk = s.clk ∧ (s.initFail d).med = s.med ∧ (s.initFail d).roms = s.roms ∧ (s.initFail d).dbg = s.dbg ∧ (s.initFail d).i3c = s.i3c := by
  have f1 := @State.dieFail_frame; have f2 := @State.raise_frame
  simp [State.initFail, f1, f2]
theorem State.fuseLoad_frame (s : State) (d : Nat) (crc : Nat) : (s.fuseLoad d crc).1.pending = s.pending ∧ (s.fuseLoad d crc).1.variant = s.variant ∧ (s.fuseLoad d crc).1.latches = s.latches ∧ (s.fuseLoad d crc).1.resetting = s.resetting ∧ (s.fuseLoad d crc).1.clk = s.clk ∧ (s.fuseLoad d crc).1.med = s.med ∧ (s.fuseLoad d crc).1.roms = s.roms ∧ (s.fuseLoad d crc).1.dbg = s.dbg ∧ (s.fuseLoad d crc).1.i3c = s.i3c := by
  have f1 := @State.emit_frame; have f2 := @State.setFlag_frame; have f3 := @State.setFld_frame
  dsimp only [State.fuseLoad]; (repeat' split) <;> simp [f1, f2, f3]
theorem State.train_frame (s : State) (d : Nat) : (s.train d).pending = s.pending ∧ (s.train d).variant = s.variant ∧ (s.train d).latches = s.latches ∧ (s.train d).resetting = s.resetting ∧ (s.train d).clk = s.clk ∧ (s.train d).med = s.med ∧ (s.train d).roms = s.roms ∧ (s.train d).dbg = s.dbg ∧ (s.train d).i3c = s.i3c := by
  have f1 := @State.draw_frame; have f2 := @State.emit_frame
  simp [State.train, f1, f2]
theorem State.dieInit_frame (s : State) (o : StepOut) (d : Nat) : (s.dieInit o d).pending = s.pending ∧ (s.dieInit o d).variant = s.variant ∧ (s.dieInit o d).latches = s.latches ∧ (s.dieInit o d).resetting = s.resetting ∧ (s.dieInit o d).clk = s.clk ∧ (s.dieInit o d).med = s.med ∧ (s.dieInit o d).roms = s.roms ∧ (s.dieInit o d).dbg = s.dbg ∧ (s.dieInit o d).i3c = s.i3c := by
  have f1 := @State.dieOn_frame; have f2 := @State.emit_frame; have f3 := @State.fuseLoad_frame; have f4 := @State.initFail_frame; have f5 := @State.train_frame
  simp [State.dieInit, f1, f2, f3, f4, f5]
theorem State.checkSense_frame (s : State) (d : Nat) : (s.checkSense d).pending = s.pending ∧ (s.checkSense d).variant = s.variant ∧ (s.checkSense d).latches = s.latches ∧ (s.checkSense d).resetting = s.resetting ∧ (s.checkSense d).clk = s.clk ∧ (s.checkSense d).med = s.med ∧ (s.checkSense d).roms = s.roms ∧ (s.checkSense d).dbg = s.dbg ∧ (s.checkSense d).i3c = s.i3c := by
  have f1 := @State.emit_frame
  simp [State.checkSense, f1]
theorem State.slcWrite_frame (s : State) (factory : Bool) (d : Nat) (bank : Nat) : (s.slcWrite factory d bank).pending = s.pending ∧ (s.slcWrite factory d bank).variant = s.variant ∧ (s.slcWrite factory d bank).latches = s.latches ∧ (s.slcWrite factory d bank).resetting = s.resetting ∧ (s.slcWrite factory d bank).clk = s.clk ∧ (s.slcWrite factory d bank).med = s.med ∧ (s.slcWrite factory d bank).roms = s.roms ∧ (s.slcWrite factory d bank).dbg = s.dbg ∧ (s.slcWrite factory d bank).i3c = s.i3c := by
  have f1 := @State.emit_frame; have f2 := @State.onDrift_frame
  simp [State.slcWrite, f1, f2]
theorem State.refWrite_frame (s : State) (factory : Bool) (d : Nat) : (s.refWrite factory d).pending = s.pending ∧ (s.refWrite factory d).variant = s.variant ∧ (s.refWrite factory d).latches = s.latches ∧ (s.refWrite factory d).resetting = s.resetting ∧ (s.refWrite factory d).clk = s.clk ∧ (s.refWrite factory d).med = s.med ∧ (s.refWrite factory d).roms = s.roms ∧ (s.refWrite factory d).dbg = s.dbg ∧ (s.refWrite factory d).i3c = s.i3c := by
  have f1 := @State.emit_frame; have f2 := @State.slcWrite_frame
  simp [State.refWrite, f1, f2]
theorem State.dieReady_frame (s : State) (o : StepOut) (factory : Bool) (d : Nat) : (s.dieReady o factory d).pending = s.pending ∧ (s.dieReady o factory d).variant = s.variant ∧ (s.dieReady o factory d).latches = s.latches ∧ (s.dieReady o factory d).resetting = s.resetting ∧ (s.dieReady o factory d).clk = s.clk ∧ (s.dieReady o factory d).med = s.med ∧ (s.dieReady o factory d).roms = s.roms ∧ (s.dieReady o factory d).dbg = s.dbg ∧ (s.dieReady o factory d).i3c = s.i3c := by
  have f1 := @State.checkSense_frame; have f2 := @State.initFail_frame; have f3 := @State.refWrite_frame; have f4 := @State.setFld_frame
  simp [State.dieReady, f1, f2, f3, f4]
theorem State.bringDies_frame (s : State) (o : StepOut) (factory : Bool) : (s.bringDies o factory).pending = s.pending ∧ (s.bringDies o factory).variant = s.variant ∧ (s.bringDies o factory).latches = s.latches ∧ (s.bringDies o factory).resetting = s.resetting ∧ (s.bringDies o factory).clk = s.clk ∧ (s.bringDies o factory).med = s.med ∧ (s.bringDies o factory).roms = s.roms ∧ (s.bringDies o factory).dbg = s.dbg ∧ (s.bringDies o factory).i3c = s.i3c := by
  have f1 := @State.dieInit_frame; have f2 := @State.dieReady_frame
  simp [State.bringDies, f1, f2]
theorem State.bootFail_frame (s : State) (step : Nat) (cause : Nat) (detail : Nat) : (s.bootFail step cause detail).pending = s.pending ∧ (s.bootFail step cause detail).variant = s.variant ∧ (s.bootFail step cause detail).latches = s.latches ∧ (s.bootFail step cause detail).resetting = s.resetting ∧ (s.bootFail step cause detail).med = s.med ∧ (s.bootFail step cause detail).roms = s.roms ∧ (s.bootFail step cause detail).dbg = s.dbg ∧ (s.bootFail step cause detail).i3c = s.i3c := by
  have f1 := @State.enterHalt_frame; have f2 := @State.setFld_frame
  simp [State.bootFail, f1, f2]
theorem State.startCores_frame (s : State) : (s.startCores).pending = s.pending ∧ (s.startCores).variant = s.variant ∧ (s.startCores).latches = s.latches ∧ (s.startCores).resetting = s.resetting ∧ (s.startCores).med = s.med ∧ (s.startCores).roms = s.roms ∧ (s.startCores).dbg = s.dbg ∧ (s.startCores).i3c = s.i3c := by
  have f1 := @State.onTally_frame
  simp [State.startCores, f1]
theorem State.loadKeys_frame (s : State) : (s.loadKeys).pending = s.pending ∧ (s.loadKeys).variant = s.variant ∧ (s.loadKeys).latches = s.latches ∧ (s.loadKeys).resetting = s.resetting ∧ (s.loadKeys).med = s.med ∧ (s.loadKeys).roms = s.roms ∧ (s.loadKeys).dbg = s.dbg ∧ (s.loadKeys).i3c = s.i3c := by
  have f1 := @State.onProt_frame
  simp [State.loadKeys, f1]
theorem State.nextStep_frame (s : State) : (s.nextStep).pending = s.pending ∧ (s.nextStep).variant = s.variant ∧ (s.nextStep).latches = s.latches ∧ (s.nextStep).resetting = s.resetting ∧ (s.nextStep).med = s.med ∧ (s.nextStep).roms = s.roms ∧ (s.nextStep).dbg = s.dbg ∧ (s.nextStep).i3c = s.i3c := by
  have f1 := @State.onDev_frame
  simp [State.nextStep, f1]
theorem State.booted_frame (s : State) (slot : Nat) : (s.booted slot).pending = s.pending ∧ (s.booted slot).variant = s.variant ∧ (s.booted slot).latches = s.latches ∧ (s.booted slot).resetting = s.resetting ∧ (s.booted slot).med = s.med ∧ (s.booted slot).roms = s.roms ∧ (s.booted slot).dbg = s.dbg ∧ (s.booted slot).i3c = s.i3c := by
  have f1 := @State.loadKeys_frame; have f2 := @State.nextStep_frame; have f3 := @State.onDev_frame; have f4 := @State.setFld_frame; have f5 := @State.startCores_frame; have f6 := @State.toState_frame
  simp [State.booted, f1, f2, f3, f4, f5, f6]
theorem State.channelUp_frame (s : State) (o : StepOut) (c : Nat) : (s.channelUp o c).pending = s.pending ∧ (s.channelUp o c).variant = s.variant ∧ (s.channelUp o c).latches = s.latches ∧ (s.channelUp o c).resetting = s.resetting ∧ (s.channelUp o c).med = s.med ∧ (s.channelUp o c).roms = s.roms ∧ (s.channelUp o c).dbg = s.dbg ∧ (s.channelUp o c).i3c = s.i3c := by
  have f1 := @State.emit_frame; have f2 := @State.raise_frame; have f3 := @State.reduce_frame; have f4 := @State.setFlag_frame; have f5 := @State.setFld_frame
  simp [State.channelUp, f1, f2, f3, f4, f5]
theorem State.stepFuses_frame (s : State) (o : StepOut) : (s.stepFuses o).pending = s.pending ∧ (s.stepFuses o).variant = s.variant ∧ (s.stepFuses o).latches = s.latches ∧ (s.stepFuses o).resetting = s.resetting ∧ (s.stepFuses o).med = s.med ∧ (s.stepFuses o).roms = s.roms ∧ (s.stepFuses o).dbg = s.dbg ∧ (s.stepFuses o).i3c = s.i3c := by
  have f1 := @State.bootFail_frame; have f2 := @State.nextStep_frame; have f3 := @State.setFlag_frame; have f4 := @State.setFld_frame
  simp [State.stepFuses, f1, f2, f3, f4]
theorem State.noValidCopy_frame (s : State) (r : NvRec) : (s.noValidCopy r).pending = s.pending ∧ (s.noValidCopy r).variant = s.variant ∧ (s.noValidCopy r).latches = s.latches ∧ (s.noValidCopy r).resetting = s.resetting ∧ (s.noValidCopy r).med = s.med ∧ (s.noValidCopy r).roms = s.roms ∧ (s.noValidCopy r).dbg = s.dbg ∧ (s.noValidCopy r).i3c = s.i3c := by
  have f1 := @State.raiseRec_frame; have f2 := @State.setFld_frame
  simp [State.noValidCopy, f1, f2]
theorem State.readRec_frame (s : State) (r : NvRec) : (s.readRec r).pending = s.pending ∧ (s.readRec r).variant = s.variant ∧ (s.readRec r).latches = s.latches ∧ (s.readRec r).resetting = s.resetting ∧ (s.readRec r).med = s.med ∧ (s.readRec r).roms = s.roms ∧ (s.readRec r).dbg = s.dbg ∧ (s.readRec r).i3c = s.i3c := by
  have f1 := @State.noValidCopy_frame; have f2 := @State.onPnv_frame
  dsimp only [State.readRec]; (repeat' split) <;> simp [f1, f2]
theorem State.recoverIntent_frame (s : State) (open_ : Bool) (bad : Bool) : (s.recoverIntent open_ bad).pending = s.pending ∧ (s.recoverIntent open_ bad).variant = s.variant ∧ (s.recoverIntent open_ bad).latches = s.latches ∧ (s.recoverIntent open_ bad).resetting = s.resetting ∧ (s.recoverIntent open_ bad).med = s.med ∧ (s.recoverIntent open_ bad).roms = s.roms ∧ (s.recoverIntent open_ bad).dbg = s.dbg ∧ (s.recoverIntent open_ bad).i3c = s.i3c := by
  have f1 := @State.onPnv_frame; have f2 := @State.raise_frame; have f3 := @State.setFld_frame
  dsimp only [State.recoverIntent]; (repeat' split) <;> simp [f1, f2, f3]
theorem State.loadPnv_frame (s : State) : (s.loadPnv).pending = s.pending ∧ (s.loadPnv).variant = s.variant ∧ (s.loadPnv).latches = s.latches ∧ (s.loadPnv).resetting = s.resetting ∧ (s.loadPnv).med = s.med ∧ (s.loadPnv).roms = s.roms ∧ (s.loadPnv).dbg = s.dbg ∧ (s.loadPnv).i3c = s.i3c := by
  have f1 := @State.onPnv_frame; have f2 := @State.onProt_frame; have f3 := @State.setFld_frame
  simp [State.loadPnv, f1, f2, f3]
theorem State.stepPnv_frame (s : State) (o : StepOut) : (s.stepPnv o).pending = s.pending ∧ (s.stepPnv o).variant = s.variant ∧ (s.stepPnv o).latches = s.latches ∧ (s.stepPnv o).resetting = s.resetting ∧ (s.stepPnv o).med = s.med ∧ (s.stepPnv o).roms = s.roms ∧ (s.stepPnv o).dbg = s.dbg ∧ (s.stepPnv o).i3c = s.i3c := by
  have f1 := @State.bootFail_frame; have f2 := @State.eruptLatched_frame; have f3 := @State.loadPnv_frame; have f4 := @State.moved_frame; have f5 := @State.nextStep_frame; have f6 := @State.nvFlush_frame; have f7 := @State.readRec_frame; have f8 := @State.recoverIntent_frame; have f9 := @State.setNv_frame
  simp [State.stepPnv, f1, f2, f3, f4, f5, f6, f7, f8, f9]
theorem State.ringScan_frame (s : State) : (s.ringScan).pending = s.pending ∧ (s.ringScan).variant = s.variant ∧ (s.ringScan).latches = s.latches ∧ (s.ringScan).resetting = s.resetting ∧ (s.ringScan).med = s.med ∧ (s.ringScan).roms = s.roms ∧ (s.ringScan).dbg = s.dbg ∧ (s.ringScan).i3c = s.i3c := by
  have f1 := @State.moved_frame; have f2 := @State.onTally_frame; have f3 := @State.raise_frame
  simp [State.ringScan, f1, f2, f3]
theorem State.faultRecord_frame (s : State) : (s.faultRecord).pending = s.pending ∧ (s.faultRecord).variant = s.variant ∧ (s.faultRecord).latches = s.latches ∧ (s.faultRecord).resetting = s.resetting ∧ (s.faultRecord).med = s.med ∧ (s.faultRecord).roms = s.roms ∧ (s.faultRecord).dbg = s.dbg ∧ (s.faultRecord).i3c = s.i3c := by
  have f1 := @State.onPwr_frame; have f2 := @State.record_frame
  simp [State.faultRecord, f1, f2]
theorem State.earlyRecord_frame (s : State) : (s.earlyRecord).pending = s.pending ∧ (s.earlyRecord).variant = s.variant ∧ (s.earlyRecord).latches = s.latches ∧ (s.earlyRecord).resetting = s.resetting ∧ (s.earlyRecord).med = s.med ∧ (s.earlyRecord).roms = s.roms ∧ (s.earlyRecord).dbg = s.dbg ∧ (s.earlyRecord).i3c = s.i3c := by
  have f1 := @State.onPnv_frame; have f2 := @State.record_frame; have f3 := @State.setFlag_frame
  simp [State.earlyRecord, f1, f2, f3]
theorem State.stepTally_frame (s : State) : (s.stepTally).pending = s.pending ∧ (s.stepTally).variant = s.variant ∧ (s.stepTally).latches = s.latches ∧ (s.stepTally).resetting = s.resetting ∧ (s.stepTally).med = s.med ∧ (s.stepTally).roms = s.roms ∧ (s.stepTally).dbg = s.dbg ∧ (s.stepTally).i3c = s.i3c := by
  have f1 := @State.earlyRecord_frame; have f2 := @State.faultRecord_frame; have f3 := @State.nextStep_frame; have f4 := @State.onDev_frame; have f5 := @State.onTally_frame; have f6 := @State.ringScan_frame; have f7 := @State.setFlag_frame; have f8 := @State.setFld_frame
  simp [State.stepTally, f1, f2, f3, f4, f5, f6, f7, f8]
theorem State.verifyFirst_frame (s : State) (c : Sensing) (x : Sensed) (k : Nat) : (s.verifyFirst c x k).1.pending = s.pending ∧ (s.verifyFirst c x k).1.variant = s.variant ∧ (s.verifyFirst c x k).1.latches = s.latches ∧ (s.verifyFirst c x k).1.resetting = s.resetting ∧ (s.verifyFirst c x k).1.med = s.med ∧ (s.verifyFirst c x k).1.roms = s.roms ∧ (s.verifyFirst c x k).1.dbg = s.dbg ∧ (s.verifyFirst c x k).1.i3c = s.i3c := by
  have f1 := @State.noteAttempt_frame
  simp [State.verifyFirst, f1]
theorem State.mountSense_frame (s : State) (c : Sensing) : (s.mountSense c).pending = s.pending ∧ (s.mountSense c).variant = s.variant ∧ (s.mountSense c).latches = s.latches ∧ (s.mountSense c).resetting = s.resetting ∧ (s.mountSense c).med = s.med ∧ (s.mountSense c).roms = s.roms ∧ (s.mountSense c).dbg = s.dbg ∧ (s.mountSense c).i3c = s.i3c := by
  have f1 := @State.senseBytes_frame; have f2 := @State.senseCount_frame
  simp [State.mountSense, f1, f2]
theorem State.verifySecond_frame (s : State) (c : Sensing) (x : Sensed) (f : Nat × Nat × List (Nat × Nat)) : (s.verifySecond c x f).pending = s.pending ∧ (s.verifySecond c x f).variant = s.variant ∧ (s.verifySecond c x f).latches = s.latches ∧ (s.verifySecond c x f).resetting = s.resetting ∧ (s.verifySecond c x f).med = s.med ∧ (s.verifySecond c x f).roms = s.roms ∧ (s.verifySecond c x f).dbg = s.dbg ∧ (s.verifySecond c x f).i3c = s.i3c := by
  have f1 := @State.classify_frame; have f2 := @State.noteAttempt_frame; have f3 := @State.noteClass_frame
  simp [State.verifySecond, f1, f2, f3]
theorem State.verifySeg_frame (s : State) (o : StepOut) (m : SMap MapE) (psa : Nat) : (s.verifySeg o m psa).pending = s.pending ∧ (s.verifySeg o m psa).variant = s.variant ∧ (s.verifySeg o m psa).latches = s.latches ∧ (s.verifySeg o m psa).resetting = s.resetting ∧ (s.verifySeg o m psa).med = s.med ∧ (s.verifySeg o m psa).roms = s.roms ∧ (s.verifySeg o m psa).dbg = s.dbg ∧ (s.verifySeg o m psa).i3c = s.i3c := by
  have f1 := @State.mountSense_frame; have f2 := @State.verifyFirst_frame; have f3 := @State.verifySecond_frame
  simp [State.verifySeg, f1, f2, f3]
theorem State.verifySegs_frame (s : State) (o : StepOut) (m : SMap MapE) (psas : List Nat) : (s.verifySegs o m psas).pending = s.pending ∧ (s.verifySegs o m psas).variant = s.variant ∧ (s.verifySegs o m psas).latches = s.latches ∧ (s.verifySegs o m psas).resetting = s.resetting ∧ (s.verifySegs o m psas).med = s.med ∧ (s.verifySegs o m psas).roms = s.roms ∧ (s.verifySegs o m psas).dbg = s.dbg ∧ (s.verifySegs o m psas).i3c = s.i3c := by
  have f1 := @State.verifySeg_frame
  simp [State.verifySegs, f1]
theorem State.trySlot_frame (s : State) (o : StepOut) (slot : Nat) : (s.trySlot o slot).1.pending = s.pending ∧ (s.trySlot o slot).1.variant = s.variant ∧ (s.trySlot o slot).1.latches = s.latches ∧ (s.trySlot o slot).1.resetting = s.resetting ∧ (s.trySlot o slot).1.med = s.med ∧ (s.trySlot o slot).1.roms = s.roms ∧ (s.trySlot o slot).1.dbg = s.dbg ∧ (s.trySlot o slot).1.i3c = s.i3c := by
  have f1 := @State.dieInit_frame; have f2 := @State.raise_frame; have f3 := @State.setFld_frame; have f4 := @State.tremor_frame; have f5 := @State.verifySegs_frame
  dsimp only [State.trySlot]; (repeat' split) <;> simp [f1, f2, f3, f4, f5]
theorem State.stepImage_frame (s : State) (o : StepOut) : (s.stepImage o).pending = s.pending ∧ (s.stepImage o).variant = s.variant ∧ (s.stepImage o).latches = s.latches ∧ (s.stepImage o).resetting = s.resetting ∧ (s.stepImage o).med = s.med ∧ (s.stepImage o).roms = s.roms ∧ (s.stepImage o).dbg = s.dbg ∧ (s.stepImage o).i3c = s.i3c := by
  have f1 := @State.booted_frame; have f2 := @State.enterHalt_frame; have f3 := @State.setFld_frame; have f4 := @State.trySlot_frame
  simp [State.stepImage, f1, f2, f3, f4]
theorem State.stepDram_frame (s : State) (o : StepOut) : (s.stepDram o).pending = s.pending ∧ (s.stepDram o).variant = s.variant ∧ (s.stepDram o).latches = s.latches ∧ (s.stepDram o).resetting = s.resetting ∧ (s.stepDram o).med = s.med ∧ (s.stepDram o).roms = s.roms ∧ (s.stepDram o).dbg = s.dbg ∧ (s.stepDram o).i3c = s.i3c := by
  have f1 := @State.channelUp_frame; have f2 := @State.nextStep_frame; have f3 := @State.reportCode_frame; have f4 := @State.restore_frame; have f5 := @State.setFld_frame
  simp [State.stepDram, f1, f2, f3, f4, f5]
theorem State.reloadFailed_frame (s : State) (d : Nat) : (s.reloadFailed d).pending = s.pending ∧ (s.reloadFailed d).variant = s.variant ∧ (s.reloadFailed d).latches = s.latches ∧ (s.reloadFailed d).resetting = s.resetting ∧ (s.reloadFailed d).med = s.med ∧ (s.reloadFailed d).roms = s.roms ∧ (s.reloadFailed d).dbg = s.dbg ∧ (s.reloadFailed d).i3c = s.i3c := by
  have f1 := @State.emit_frame; have f2 := @State.onPwr_frame; have f3 := @State.reduce_frame; have f4 := @State.setFld_frame
  simp [State.reloadFailed, f1, f2, f3, f4]
theorem State.stepDies_frame (s : State) (o : StepOut) : (s.stepDies o).pending = s.pending ∧ (s.stepDies o).variant = s.variant ∧ (s.stepDies o).latches = s.latches ∧ (s.stepDies o).resetting = s.resetting ∧ (s.stepDies o).med = s.med ∧ (s.stepDies o).roms = s.roms ∧ (s.stepDies o).dbg = s.dbg ∧ (s.stepDies o).i3c = s.i3c := by
  have f1 := @State.bringDies_frame; have f2 := @State.nextStep_frame; have f3 := @State.reloadFailed_frame
  simp [State.stepDies, f1, f2, f3]

end Sys2Proof.Machine
end

