-- ==== Sys2Proof/Laws/FrameMount.lean ====
section
/-! SUPPORT. Frames of the operations of Machine/Mount.lean: the fields of State that each leaves as they were. -/

set_option maxRecDepth 4000
set_option linter.unusedSimpArgs false

namespace Sys2Proof.Machine

theorem State.badCodes_frame (s : State) (b : JBlock) : (s.badCodes b).pending = s.pending ∧ (s.badCodes b).variant = s.variant ∧ (s.badCodes b).latches = s.latches ∧ (s.badCodes b).resetting = s.resetting ∧ (s.badCodes b).med = s.med ∧ (s.badCodes b).roms = s.roms ∧ (s.badCodes b).dbg = s.dbg ∧ (s.badCodes b).i3c = s.i3c := by
  have f1 := @State.draw_frame; have f2 := @State.report_frame
  simp [State.badCodes, f1, f2]
theorem State.loadDrift_frame (s : State) (kept : Bool) (sets : SMap DriftSet) : (s.loadDrift kept sets).pending = s.pending ∧ (s.loadDrift kept sets).variant = s.variant ∧ (s.loadDrift kept sets).latches = s.latches ∧ (s.loadDrift kept sets).resetting = s.resetting ∧ (s.loadDrift kept sets).clk = s.clk ∧ (s.loadDrift kept sets).med = s.med ∧ (s.loadDrift kept sets).roms = s.roms ∧ (s.loadDrift kept sets).dbg = s.dbg ∧ (s.loadDrift kept sets).i3c = s.i3c := by
  have f1 := @State.onDrift_frame; have f2 := @State.setFlag_frame; have f3 := @State.setFld_frame
  simp [State.loadDrift, f1, f2, f3]
theorem State.countMap_frame (s : State) : (s.countMap).pending = s.pending ∧ (s.countMap).variant = s.variant ∧ (s.countMap).latches = s.latches ∧ (s.countMap).resetting = s.resetting ∧ (s.countMap).med = s.med ∧ (s.countMap).roms = s.roms ∧ (s.countMap).dbg = s.dbg ∧ (s.countMap).i3c = s.i3c := by
  have f1 := @State.setFld_frame
  simp [State.countMap, f1]
theorem State.mountAdvance_frame (s : State) (i : Nat) : (s.mountAdvance i).pending = s.pending ∧ (s.mountAdvance i).variant = s.variant ∧ (s.mountAdvance i).latches = s.latches ∧ (s.mountAdvance i).resetting = s.resetting ∧ (s.mountAdvance i).med = s.med ∧ (s.mountAdvance i).roms = s.roms ∧ (s.mountAdvance i).dbg = s.dbg ∧ (s.mountAdvance i).i3c = s.i3c := by
  have f1 := @State.advance_frame; have f2 := @State.bump_frame; have f3 := @State.raise_frame; have f4 := @State.setGen_frame; have f5 := @State.startPass_frame
  simp [State.mountAdvance, f1, f2, f3, f4, f5]
theorem State.dirtyCount_frame (s : State) (open_ : List Nat) : (s.dirtyCount open_).pending = s.pending ∧ (s.dirtyCount open_).variant = s.variant ∧ (s.dirtyCount open_).latches = s.latches ∧ (s.dirtyCount open_).resetting = s.resetting ∧ (s.dirtyCount open_).med = s.med ∧ (s.dirtyCount open_).roms = s.roms ∧ (s.dirtyCount open_).dbg = s.dbg ∧ (s.dirtyCount open_).i3c = s.i3c := by
  have f1 := @State.event_frame; have f2 := @State.mountAdvance_frame; have f3 := @State.nvFlush_frame; have f4 := @State.onPnv_frame; have f5 := @State.setFld_frame
  simp [State.dirtyCount, f1, f2, f3, f4, f5]
theorem State.replayBand_frame (s : State) (wear : Bool) (r : JRec) : (s.replayBand wear r).pending = s.pending ∧ (s.replayBand wear r).variant = s.variant ∧ (s.replayBand wear r).latches = s.latches ∧ (s.replayBand wear r).resetting = s.resetting ∧ (s.replayBand wear r).med = s.med ∧ (s.replayBand wear r).roms = s.roms ∧ (s.replayBand wear r).dbg = s.dbg ∧ (s.replayBand wear r).i3c = s.i3c := by
  have f1 := @State.setBand_frame; have f2 := @State.setPad_frame
  simp [State.replayBand, f1, f2]
theorem State.replayBands_frame (s : State) (blocks : List (JBlock × Bool)) : (s.replayBands blocks).pending = s.pending ∧ (s.replayBands blocks).variant = s.variant ∧ (s.replayBands blocks).latches = s.latches ∧ (s.replayBands blocks).resetting = s.resetting ∧ (s.replayBands blocks).med = s.med ∧ (s.replayBands blocks).roms = s.roms ∧ (s.replayBands blocks).dbg = s.dbg ∧ (s.replayBands blocks).i3c = s.i3c := by
  have f1 := @State.replayBand_frame
  simp [State.replayBands, f1]
theorem State.verifyPad_frame (s : State) (o : StepOut) (m : SMap MapE) (k : Nat) : (s.verifyPad o m k).pending = s.pending ∧ (s.verifyPad o m k).variant = s.variant ∧ (s.verifyPad o m k).latches = s.latches ∧ (s.verifyPad o m k).resetting = s.resetting ∧ (s.verifyPad o m k).med = s.med ∧ (s.verifyPad o m k).roms = s.roms ∧ (s.verifyPad o m k).dbg = s.dbg ∧ (s.verifyPad o m k).i3c = s.i3c := by
  have f1 := @State.verifySegs_frame
  simp [State.verifyPad, f1]
theorem State.mountPad_frame (s : State) (k : Nat) : (s.mountPad k).pending = s.pending ∧ (s.mountPad k).variant = s.variant ∧ (s.mountPad k).latches = s.latches ∧ (s.mountPad k).resetting = s.resetting ∧ (s.mountPad k).med = s.med ∧ (s.mountPad k).roms = s.roms ∧ (s.mountPad k).dbg = s.dbg ∧ (s.mountPad k).i3c = s.i3c := by
  have f1 := @State.journal_frame; have f2 := @State.onGang_frame; have f3 := @State.raise_frame; have f4 := @State.setPad_frame
  dsimp only [State.mountPad]; (repeat' split) <;> simp [f1, f2, f3, f4]
theorem State.mountFolds_frame (s : State) (g : Nat) : (s.mountFolds g).pending = s.pending ∧ (s.mountFolds g).variant = s.variant ∧ (s.mountFolds g).latches = s.latches ∧ (s.mountFolds g).resetting = s.resetting ∧ (s.mountFolds g).med = s.med ∧ (s.mountFolds g).roms = s.roms ∧ (s.mountFolds g).dbg = s.dbg ∧ (s.mountFolds g).i3c = s.i3c := by
  have f1 := @State.releaseBand_frame
  simp [State.mountFolds, f1]
theorem State.stepBands_frame (s : State) (o : StepOut) : (s.stepBands o).pending = s.pending ∧ (s.stepBands o).variant = s.variant ∧ (s.stepBands o).latches = s.latches ∧ (s.stepBands o).resetting = s.resetting ∧ (s.stepBands o).med = s.med ∧ (s.stepBands o).roms = s.roms ∧ (s.stepBands o).dbg = s.dbg ∧ (s.stepBands o).i3c = s.i3c := by
  have f1 := @State.mountFolds_frame; have f2 := @State.mountPad_frame; have f3 := @State.nextStep_frame; have f4 := @State.onXlt_frame; have f5 := @State.replayBands_frame; have f6 := @State.setFld_frame; have f7 := @State.verifyPad_frame; have f8 := @State.verifySegs_frame
  simp [State.stepBands, f1, f2, f3, f4, f5, f6, f7, f8]
theorem State.replayMap_frame (s : State) : (s.replayMap).1.pending = s.pending ∧ (s.replayMap).1.variant = s.variant ∧ (s.replayMap).1.latches = s.latches ∧ (s.replayMap).1.resetting = s.resetting ∧ (s.replayMap).1.med = s.med ∧ (s.replayMap).1.roms = s.roms ∧ (s.replayMap).1.dbg = s.dbg ∧ (s.replayMap).1.i3c = s.i3c := by
  have f1 := @State.badCodes_frame; have f2 := @State.onXlt_frame
  simp [State.replayMap, f1, f2]
theorem ringAppend_frame (acc : SMap (Option Rec) × List (Nat × Rec) × State) (r : Rec) : (ringAppend acc r).2.2.pending = acc.2.2.pending ∧ (ringAppend acc r).2.2.variant = acc.2.2.variant ∧ (ringAppend acc r).2.2.latches = acc.2.2.latches ∧ (ringAppend acc r).2.2.resetting = acc.2.2.resetting ∧ (ringAppend acc r).2.2.med = acc.2.2.med ∧ (ringAppend acc r).2.2.roms = acc.2.2.roms ∧ (ringAppend acc r).2.2.dbg = acc.2.2.dbg ∧ (ringAppend acc r).2.2.i3c = acc.2.2.i3c := by
  have f1 := @State.ringTake_frame
  simp [ringAppend, f1]
theorem State.ringReplay_frame (s : State) : (s.ringReplay).pending = s.pending ∧ (s.ringReplay).variant = s.variant ∧ (s.ringReplay).latches = s.latches ∧ (s.ringReplay).resetting = s.resetting ∧ (s.ringReplay).med = s.med ∧ (s.ringReplay).roms = s.roms ∧ (s.ringReplay).dbg = s.dbg ∧ (s.ringReplay).i3c = s.i3c := by
  have f1 := @State.ringProgram_frame; have f2 := @ringAppend_frame
  have h {α : Type} (π : State → α) (hp : ∀ acc r, π (ringAppend acc r).2.2 = π acc.2.2) (l : List Rec) (acc : SMap (Option Rec) × List (Nat × Rec) × State) :
      π (l.foldl ringAppend acc).2.2 = π acc.2.2 := State.foldl_keeps (fun p => π p.2.2) hp acc l
  unfold State.ringReplay
  dsimp only
  exact ⟨by simp [h (fun s => s.pending) (by simp [f1, f2]), f1, f2], by simp [h (fun s => s.variant) (by simp [f1, f2]), f1, f2], by simp [h (fun s => s.latches) (by simp [f1, f2]), f1, f2], by simp [h (fun s => s.resetting) (by simp [f1, f2]), f1, f2], by simp [h (fun s => s.med) (by simp [f1, f2]), f1, f2], by simp [h (fun s => s.roms) (by simp [f1, f2]), f1, f2], by simp [h (fun s => s.dbg) (by simp [f1, f2]), f1, f2], by simp [h (fun s => s.i3c) (by simp [f1, f2]), f1, f2]⟩
theorem State.rebuildRev_frame (s : State) (x : Replay) : (s.rebuildRev x).pending = s.pending ∧ (s.rebuildRev x).variant = s.variant ∧ (s.rebuildRev x).latches = s.latches ∧ (s.rebuildRev x).resetting = s.resetting ∧ (s.rebuildRev x).med = s.med ∧ (s.rebuildRev x).roms = s.roms ∧ (s.rebuildRev x).dbg = s.dbg ∧ (s.rebuildRev x).i3c = s.i3c := by
  have f1 := @State.onXlt_frame
  simp [State.rebuildRev, f1]
theorem State.judgeVent_frame (s : State) : (s.judgeVent).pending = s.pending ∧ (s.judgeVent).variant = s.variant ∧ (s.judgeVent).latches = s.latches ∧ (s.judgeVent).resetting = s.resetting ∧ (s.judgeVent).med = s.med ∧ (s.judgeVent).roms = s.roms ∧ (s.judgeVent).dbg = s.dbg ∧ (s.judgeVent).i3c = s.i3c := by
  have f1 := @State.onPnv_frame; have f2 := @State.raise_frame; have f3 := @State.setFlag_frame; have f4 := @State.setFld_frame
  simp [State.judgeVent, f1, f2, f3, f4]
theorem State.replayLine_frame (s : State) (k : Nat) (l : StLine) : (s.replayLine k l).pending = s.pending ∧ (s.replayLine k l).variant = s.variant ∧ (s.replayLine k l).latches = s.latches ∧ (s.replayLine k l).resetting = s.resetting ∧ (s.replayLine k l).med = s.med ∧ (s.replayLine k l).roms = s.roms ∧ (s.replayLine k l).dbg = s.dbg ∧ (s.replayLine k l).i3c = s.i3c := by
  have f1 := @State.onXlt_frame
  simp [State.replayLine, f1]
theorem State.replayImages_frame (s : State) : (s.replayImages).pending = s.pending ∧ (s.replayImages).variant = s.variant ∧ (s.replayImages).latches = s.latches ∧ (s.replayImages).resetting = s.resetting ∧ (s.replayImages).med = s.med ∧ (s.replayImages).roms = s.roms ∧ (s.replayImages).dbg = s.dbg ∧ (s.replayImages).i3c = s.i3c := by
  have f1 := @State.onPnv_frame; have f2 := @State.replayLine_frame
  simp (disch := (intros; (repeat' split) <;> simp [f1, f2])) [State.replayImages, f1, f2]
theorem State.emptyBands_frame (s : State) (g : Nat) : (s.emptyBands g).pending = s.pending ∧ (s.emptyBands g).variant = s.variant ∧ (s.emptyBands g).latches = s.latches ∧ (s.emptyBands g).resetting = s.resetting ∧ (s.emptyBands g).med = s.med ∧ (s.emptyBands g).roms = s.roms ∧ (s.emptyBands g).dbg = s.dbg ∧ (s.emptyBands g).i3c = s.i3c := by
  have f1 := @State.releaseEmpty_frame
  simp [State.emptyBands, f1]
theorem State.writeBanks_frame (s : State) : (s.writeBanks).pending = s.pending ∧ (s.writeBanks).variant = s.variant ∧ (s.writeBanks).latches = s.latches ∧ (s.writeBanks).resetting = s.resetting ∧ (s.writeBanks).med = s.med ∧ (s.writeBanks).roms = s.roms ∧ (s.writeBanks).dbg = s.dbg ∧ (s.writeBanks).i3c = s.i3c := by
  have f1 := @State.refWrite_frame
  simp [State.writeBanks, f1]
theorem probeSector_frame (c : Sensing) (x : Sensed) (acc : State × Nat) (k : Nat) : (probeSector c x acc k).1.pending = acc.1.pending ∧ (probeSector c x acc k).1.variant = acc.1.variant ∧ (probeSector c x acc k).1.latches = acc.1.latches ∧ (probeSector c x acc k).1.resetting = acc.1.resetting ∧ (probeSector c x acc k).1.med = acc.1.med ∧ (probeSector c x acc k).1.roms = acc.1.roms ∧ (probeSector c x acc k).1.dbg = acc.1.dbg ∧ (probeSector c x acc k).1.i3c = acc.1.i3c := by
  have f1 := @State.draw_frame; have f2 := @State.noteAttempt_frame
  dsimp only [probeSector]; (repeat' split) <;> simp [f1, f2]
theorem probeSeg_frame (o : StepOut) (g : Nat) (band : Nat) (bin : Nat) (acc : State × Nat) (f : Nat) : (probeSeg o g band bin acc f).1.pending = acc.1.pending ∧ (probeSeg o g band bin acc f).1.variant = acc.1.variant ∧ (probeSeg o g band bin acc f).1.latches = acc.1.latches ∧ (probeSeg o g band bin acc f).1.resetting = acc.1.resetting ∧ (probeSeg o g band bin acc f).1.med = acc.1.med ∧ (probeSeg o g band bin acc f).1.roms = acc.1.roms ∧ (probeSeg o g band bin acc f).1.dbg = acc.1.dbg ∧ (probeSeg o g band bin acc f).1.i3c = acc.1.i3c := by
  have f1 := @State.mountSense_frame; have f2 := @probeSector_frame
  simp [probeSeg, f1, f2]
theorem probeStep_frame (o : StepOut) (g : Nat) (band : Nat) (acc : State × Option (Nat × Nat)) (bin : Nat) : (probeStep o g band acc bin).1.pending = acc.1.pending ∧ (probeStep o g band acc bin).1.variant = acc.1.variant ∧ (probeStep o g band acc bin).1.latches = acc.1.latches ∧ (probeStep o g band acc bin).1.resetting = acc.1.resetting ∧ (probeStep o g band acc bin).1.med = acc.1.med ∧ (probeStep o g band acc bin).1.roms = acc.1.roms ∧ (probeStep o g band acc bin).1.dbg = acc.1.dbg ∧ (probeStep o g band acc bin).1.i3c = acc.1.i3c := by
  have f1 := @probeSeg_frame
  simp [probeStep, f1]
theorem State.probeGang_frame (s : State) (saved : Nat) (o : StepOut) (g : Nat) : (s.probeGang saved o g).1.pending = s.pending ∧ (s.probeGang saved o g).1.variant = s.variant ∧ (s.probeGang saved o g).1.latches = s.latches ∧ (s.probeGang saved o g).1.resetting = s.resetting ∧ (s.probeGang saved o g).1.med = s.med ∧ (s.probeGang saved o g).1.roms = s.roms ∧ (s.probeGang saved o g).1.dbg = s.dbg ∧ (s.probeGang saved o g).1.i3c = s.i3c := by
  have f1 := @probeStep_frame
  dsimp only [State.probeGang]; (repeat' split) <;> simp [f1]
theorem State.probe_frame (s0 : State) (o : StepOut) : (s0.probe o).pending = s0.pending ∧ (s0.probe o).variant = s0.variant ∧ (s0.probe o).latches = s0.latches ∧ (s0.probe o).resetting = s0.resetting ∧ (s0.probe o).med = s0.med ∧ (s0.probe o).roms = s0.roms ∧ (s0.probe o).dbg = s0.dbg ∧ (s0.probe o).i3c = s0.i3c := by
  have f1 := @State.probeGang_frame; have f2 := @State.raise_frame; have f3 := @State.setFlag_frame; have f4 := @State.setFld_frame
  simp [State.probe, f1, f2, f3, f4]
theorem State.refreshQueue_frame (s : State) (g : Nat) : (s.refreshQueue g).pending = s.pending ∧ (s.refreshQueue g).variant = s.variant ∧ (s.refreshQueue g).latches = s.latches ∧ (s.refreshQueue g).resetting = s.resetting ∧ (s.refreshQueue g).med = s.med ∧ (s.refreshQueue g).roms = s.roms ∧ (s.refreshQueue g).dbg = s.dbg ∧ (s.refreshQueue g).i3c = s.i3c := by
  have f1 := @State.bump_frame; have f2 := @State.raise_frame; have f3 := @State.setBand_frame
  simp [State.refreshQueue, f1, f2, f3]
theorem State.restorePos_frame (s : State) (vent : Bool) : (s.restorePos vent).pending = s.pending ∧ (s.restorePos vent).variant = s.variant ∧ (s.restorePos vent).latches = s.latches ∧ (s.restorePos vent).resetting = s.resetting ∧ (s.restorePos vent).med = s.med ∧ (s.restorePos vent).roms = s.roms ∧ (s.restorePos vent).dbg = s.dbg ∧ (s.restorePos vent).i3c = s.i3c := by
  have f1 := @State.setFld_frame
  simp [State.restorePos, f1]
theorem State.stepMap_frame (s : State) (o : StepOut) : (s.stepMap o).pending = s.pending ∧ (s.stepMap o).variant = s.variant ∧ (s.stepMap o).latches = s.latches ∧ (s.stepMap o).resetting = s.resetting ∧ (s.stepMap o).med = s.med ∧ (s.stepMap o).roms = s.roms ∧ (s.stepMap o).dbg = s.dbg ∧ (s.stepMap o).i3c = s.i3c := by
  have f1 := @State.countMap_frame; have f2 := @State.dirtyCount_frame; have f3 := @State.emptyBands_frame; have f4 := @State.judgeVent_frame; have f5 := @State.loadDrift_frame; have f6 := @State.nextStep_frame; have f7 := @State.probe_frame; have f8 := @State.rebuildRev_frame; have f9 := @State.refreshQueue_frame; have f10 := @State.replayImages_frame; have f11 := @State.replayMap_frame; have f12 := @State.reportCode_frame; have f13 := @State.restorePos_frame; have f14 := @State.ringReplay_frame; have f15 := @State.verifySegs_frame; have f16 := @State.writeBanks_frame
  dsimp only [State.stepMap]; (repeat' split) <;> simp [f1, f2, f3, f4, f5, f6, f7, f8, f9, f10, f11, f12, f13, f14, f15, f16]
theorem State.stepRota_frame (s : State) : (s.stepRota).pending = s.pending ∧ (s.stepRota).variant = s.variant ∧ (s.stepRota).latches = s.latches ∧ (s.stepRota).resetting = s.resetting ∧ (s.stepRota).med = s.med ∧ (s.stepRota).roms = s.roms ∧ (s.stepRota).dbg = s.dbg ∧ (s.stepRota).i3c = s.i3c := by
  have f1 := @State.hwInval_frame; have f2 := @State.onDev_frame
  simp [State.stepRota, f1, f2]

end Sys2Proof.Machine
end

