-- ==== Sys2Proof/Laws/FrameStandby.lean ====
section
/-! SUPPORT. Frames of the operations of Machine/Standby.lean: the fields of State that each leaves as they were. -/

set_option maxRecDepth 4000
set_option linter.unusedSimpArgs false

namespace Sys2Proof.Machine

theorem State.banksWake_frame (s : State) : (s.banksWake).pending = s.pending ∧ (s.banksWake).variant = s.variant ∧ (s.banksWake).latches = s.latches ∧ (s.banksWake).resetting = s.resetting ∧ (s.banksWake).clk = s.clk ∧ (s.banksWake).med = s.med ∧ (s.banksWake).roms = s.roms ∧ (s.banksWake).dbg = s.dbg ∧ (s.banksWake).i3c = s.i3c := by
  simp [State.banksWake]
theorem State.diesOff_frame (s : State) : (s.diesOff).pending = s.pending ∧ (s.diesOff).variant = s.variant ∧ (s.diesOff).latches = s.latches ∧ (s.diesOff).resetting = s.resetting ∧ (s.diesOff).med = s.med ∧ (s.diesOff).roms = s.roms ∧ (s.diesOff).dbg = s.dbg ∧ (s.diesOff).i3c = s.i3c := by
  have f1 := @State.dieDomainsOff_frame; have f2 := @State.setFld_frame
  simp [State.diesOff, f1, f2]
theorem State.dramSleep_frame (s : State) : (s.dramSleep).pending = s.pending ∧ (s.dramSleep).variant = s.variant ∧ (s.dramSleep).latches = s.latches ∧ (s.dramSleep).resetting = s.resetting ∧ (s.dramSleep).med = s.med ∧ (s.dramSleep).roms = s.roms ∧ (s.dramSleep).dbg = s.dbg ∧ (s.dramSleep).i3c = s.i3c := by
  have f1 := @State.emit_frame; have f2 := @State.markWritten_frame; have f3 := @State.onDram_frame; have f4 := @State.panicEnd_frame; have f5 := @State.setFld_frame
  simp [State.dramSleep, f1, f2, f3, f4, f5]
theorem State.cartStandby_frame (s : State) (n : Nat) : (s.cartStandby n).pending = s.pending ∧ (s.cartStandby n).variant = s.variant ∧ (s.cartStandby n).latches = s.latches ∧ (s.cartStandby n).resetting = s.resetting ∧ (s.cartStandby n).med = s.med ∧ (s.cartStandby n).roms = s.roms ∧ (s.cartStandby n).dbg = s.dbg ∧ (s.cartStandby n).i3c = s.i3c := by
  have f1 := @State.cartOff_frame; have f2 := @State.removedNote_frame
  simp [State.cartStandby, f1, f2]
theorem State.powerSleep_frame (s : State) : (s.powerSleep).pending = s.pending ∧ (s.powerSleep).variant = s.variant ∧ (s.powerSleep).latches = s.latches ∧ (s.powerSleep).resetting = s.resetting ∧ (s.powerSleep).med = s.med ∧ (s.powerSleep).roms = s.roms ∧ (s.powerSleep).dbg = s.dbg ∧ (s.powerSleep).i3c = s.i3c := by
  have f1 := @State.ctrlSwitch_frame; have f2 := @State.onPwr_frame; have f3 := @State.setFlag_frame
  simp [State.powerSleep, f1, f2, f3]
theorem State.enterStandby_frame (s : State) : (s.enterStandby).pending = s.pending ∧ (s.enterStandby).variant = s.variant ∧ (s.enterStandby).latches = s.latches ∧ (s.enterStandby).resetting = s.resetting ∧ (s.enterStandby).med = s.med ∧ (s.enterStandby).roms = s.roms ∧ (s.enterStandby).dbg = s.dbg ∧ (s.enterStandby).i3c = s.i3c := by
  have f1 := @State.cartStandby_frame; have f2 := @State.diesOff_frame; have f3 := @State.dramSleep_frame; have f4 := @State.endDebug_frame; have f5 := @State.linkOff_frame; have f6 := @State.nvFlush_frame; have f7 := @State.nvStart_frame; have f8 := @State.onGang_frame; have f9 := @State.onPnv_frame; have f10 := @State.powerSleep_frame; have f11 := @State.raise_frame; have f12 := @State.setFlag_frame
  simp [State.enterStandby, f1, f2, f3, f4, f5, f6, f7, f8, f9, f10, f11, f12]
theorem State.standbyCheck_frame (s : State) : (s.standbyCheck).pending = s.pending ∧ (s.standbyCheck).variant = s.variant ∧ (s.standbyCheck).latches = s.latches ∧ (s.standbyCheck).resetting = s.resetting ∧ (s.standbyCheck).med = s.med ∧ (s.standbyCheck).roms = s.roms ∧ (s.standbyCheck).dbg = s.dbg ∧ (s.standbyCheck).i3c = s.i3c := by
  have f1 := @State.enterStandby_frame
  simp [State.standbyCheck, f1]
theorem State.standbyAsk_frame (s : State) : (s.standbyAsk).pending = s.pending ∧ (s.standbyAsk).variant = s.variant ∧ (s.standbyAsk).latches = s.latches ∧ (s.standbyAsk).clk = s.clk ∧ (s.standbyAsk).med = s.med ∧ (s.standbyAsk).roms = s.roms ∧ (s.standbyAsk).i3c = s.i3c := by
  have f1 := @State.closeSeg_frame; have f2 := @State.flushNow_frame; have f3 := @State.onPwr_frame; have f4 := @State.raise_frame
  simp [State.standbyAsk, f1, f2, f3, f4]
theorem State.standbyGap_frame (s : State) : (s.standbyGap).pending = s.pending ∧ (s.standbyGap).variant = s.variant ∧ (s.standbyGap).latches = s.latches ∧ (s.standbyGap).resetting = s.resetting ∧ (s.standbyGap).clk = s.clk ∧ (s.standbyGap).med = s.med ∧ (s.standbyGap).roms = s.roms ∧ (s.standbyGap).dbg = s.dbg ∧ (s.standbyGap).i3c = s.i3c := by
  have f1 := @State.setFlag_frame; have f2 := @State.setFld_frame
  simp [State.standbyGap, f1, f2]
theorem State.powerWake_frame (s : State) : (s.powerWake).pending = s.pending ∧ (s.powerWake).variant = s.variant ∧ (s.powerWake).latches = s.latches ∧ (s.powerWake).resetting = s.resetting ∧ (s.powerWake).clk = s.clk ∧ (s.powerWake).med = s.med ∧ (s.powerWake).roms = s.roms ∧ (s.powerWake).dbg = s.dbg ∧ (s.powerWake).i3c = s.i3c := by
  have f1 := @State.ctrlSwitch_frame; have f2 := @State.onPwr_frame
  simp [State.powerWake, f1, f2]
theorem State.resumeFull_frame (s : State) : (s.resumeFull).pending = s.pending ∧ (s.resumeFull).variant = s.variant ∧ (s.resumeFull).latches = s.latches ∧ (s.resumeFull).resetting = s.resetting ∧ (s.resumeFull).clk = s.clk ∧ (s.resumeFull).med = s.med ∧ (s.resumeFull).roms = s.roms ∧ (s.resumeFull).dbg = s.dbg ∧ (s.resumeFull).i3c = s.i3c := by
  have f1 := @State.onDev_frame; have f2 := @State.onDram_frame; have f3 := @State.raiseRec_frame; have f4 := @State.raise_frame; have f5 := @State.reportCode_frame; have f6 := @State.setFlag_frame; have f7 := @State.stopWork_frame; have f8 := @State.toState_frame
  dsimp only [State.resumeFull]; (repeat' split) <;> simp [f1, f2, f3, f4, f5, f6, f7, f8]
theorem State.dramWake_frame (s : State) : (s.dramWake).pending = s.pending ∧ (s.dramWake).variant = s.variant ∧ (s.dramWake).latches = s.latches ∧ (s.dramWake).resetting = s.resetting ∧ (s.dramWake).clk = s.clk ∧ (s.dramWake).med = s.med ∧ (s.dramWake).roms = s.roms ∧ (s.dramWake).dbg = s.dbg ∧ (s.dramWake).i3c = s.i3c := by
  have f1 := @State.emit_frame; have f2 := @State.setFld_frame
  simp [State.dramWake, f1, f2]
theorem State.doResume_frame (s : State) (o : StepOut) : (s.doResume o).pending = s.pending ∧ (s.doResume o).variant = s.variant ∧ (s.doResume o).latches = s.latches ∧ (s.doResume o).resetting = s.resetting ∧ (s.doResume o).clk = s.clk ∧ (s.doResume o).med = s.med ∧ (s.doResume o).roms = s.roms ∧ (s.doResume o).dbg = s.dbg ∧ (s.doResume o).i3c = s.i3c := by
  have f1 := @State.banksWake_frame; have f2 := @State.bringDies_frame; have f3 := @State.bump_frame; have f4 := @State.cartsUp_frame; have f5 := @State.dramWake_frame; have f6 := @State.emit_frame; have f7 := @State.eruptLatched_frame; have f8 := @State.hwInval_frame; have f9 := @State.loadDrift_frame; have f10 := @State.onDev_frame; have f11 := @State.powerWake_frame; have f12 := @State.restartCounts_frame; have f13 := @State.resumeFull_frame; have f14 := @State.setFlag_frame; have f15 := @State.setFld_frame; have f16 := @State.standbyGap_frame
  simp [State.doResume, f1, f2, f3, f4, f5, f6, f7, f8, f9, f10, f11, f12, f13, f14, f15, f16]
theorem State.pwrCtrl_frame (s : State) (src : Source) (w : Nat) (out : StepOut) : (s.pwrCtrl src w out).pending = s.pending ∧ (s.pwrCtrl src w out).variant = s.variant ∧ (s.pwrCtrl src w out).latches = s.latches ∧ (s.pwrCtrl src w out).clk = s.clk ∧ (s.pwrCtrl src w out).med = s.med ∧ (s.pwrCtrl src w out).roms = s.roms ∧ (s.pwrCtrl src w out).i3c = s.i3c := by
  have f1 := @State.cfgErr_frame; have f2 := @State.doResume_frame; have f3 := @State.faultClear_frame; have f4 := @State.standbyAsk_frame
  simp [State.pwrCtrl, f1, f2, f3, f4]

end Sys2Proof.Machine
end

