-- ==== Sys2Proof/Laws/FramePower.lean ====
section
/-! SUPPORT. Frames of the operations of Machine/Power.lean: the fields of State that each leaves as they were. -/

set_option maxRecDepth 4000
set_option linter.unusedSimpArgs false

namespace Sys2Proof.Machine

theorem State.chatter_frame (s : State) (n : Nat) : (s.chatter n).pending = s.pending ∧ (s.chatter n).variant = s.variant ∧ (s.chatter n).applied = s.applied ∧ (s.chatter n).latches = s.latches ∧ (s.chatter n).commits = s.commits ∧ (s.chatter n).resetting = s.resetting ∧ (s.chatter n).clk = s.clk ∧ (s.chatter n).bw = s.bw ∧ (s.chatter n).gang0 = s.gang0 ∧ (s.chatter n).gang1 = s.gang1 ∧ (s.chatter n).med = s.med ∧ (s.chatter n).roms = s.roms ∧ (s.chatter n).xlt = s.xlt ∧ (s.chatter n).prot = s.prot ∧ (s.chatter n).caches = s.caches ∧ (s.chatter n).dram = s.dram ∧ (s.chatter n).link = s.link ∧ (s.chatter n).reads = s.reads ∧ (s.chatter n).drift = s.drift ∧ (s.chatter n).ring = s.ring ∧ (s.chatter n).strm = s.strm ∧ (s.chatter n).mbox = s.mbox ∧ (s.chatter n).srm = s.srm ∧ (s.chatter n).dbg = s.dbg ∧ (s.chatter n).i3c = s.i3c ∧ (s.chatter n).drawn = s.drawn := by
  have f1 := @State.bumpBy_frame; have f2 := @State.raise_frame
  simp [State.chatter, f1, f2]
theorem State.coldBase_frame (s : State) (regs : SMap Word) (applied : SMap Word) (dev : Dev) (pwr : Pwr) (hk : Hk) (irq : Irq) (i3c : I3c) (dbg : Dbg) : (s.coldBase regs applied dev pwr hk irq i3c dbg).pending = s.pending ∧ (s.coldBase regs applied dev pwr hk irq i3c dbg).variant = s.variant ∧ (s.coldBase regs applied dev pwr hk irq i3c dbg).med = s.med ∧ (s.coldBase regs applied dev pwr hk irq i3c dbg).roms = s.roms := by
  simp [State.coldBase]
theorem State.drawKeys_frame (s : State) : (s.drawKeys).pending = s.pending ∧ (s.drawKeys).variant = s.variant ∧ (s.drawKeys).med = s.med ∧ (s.drawKeys).roms = s.roms := by
  simp [State.drawKeys]
theorem State.coldReset_frame (s : State) : (s.coldReset).pending = s.pending ∧ (s.coldReset).variant = s.variant ∧ (s.coldReset).med = s.med ∧ (s.coldReset).roms = s.roms := by
  have f1 := @State.coldBase_frame; have f2 := @State.drawKeys_frame; have f3 := @State.refreshIrq_frame; have f4 := @State.setFld_frame
  simp [State.coldReset, f1, f2, f3, f4]
theorem State.doStep_frame (s : State) (n : Nat) (out : StepOut) : (s.doStep n out).pending = s.pending ∧ (s.doStep n out).variant = s.variant ∧ (s.doStep n out).latches = s.latches ∧ (s.doStep n out).resetting = s.resetting ∧ (s.doStep n out).med = s.med ∧ (s.doStep n out).roms = s.roms ∧ (s.doStep n out).dbg = s.dbg ∧ (s.doStep n out).i3c = s.i3c := by
  have f1 := @State.bootFail_frame; have f2 := @State.hwInval_frame; have f3 := @State.nextStep_frame; have f4 := @State.stepBands_frame; have f5 := @State.stepDies_frame; have f6 := @State.stepDram_frame; have f7 := @State.stepFuses_frame; have f8 := @State.stepImage_frame; have f9 := @State.stepMap_frame; have f10 := @State.stepPnv_frame; have f11 := @State.stepRota_frame; have f12 := @State.stepTally_frame
  dsimp only [State.doStep]; (repeat' split) <;> simp [f1, f2, f3, f4, f5, f6, f7, f8, f9, f10, f11, f12]
theorem State.pgGood_frame (s : State) (g : PgInput) : (s.pgGood g).pending = s.pending ∧ (s.pgGood g).variant = s.variant ∧ (s.pgGood g).applied = s.applied ∧ (s.pgGood g).latches = s.latches ∧ (s.pgGood g).commits = s.commits ∧ (s.pgGood g).resetting = s.resetting ∧ (s.pgGood g).clk = s.clk ∧ (s.pgGood g).bw = s.bw ∧ (s.pgGood g).gang0 = s.gang0 ∧ (s.pgGood g).gang1 = s.gang1 ∧ (s.pgGood g).med = s.med ∧ (s.pgGood g).roms = s.roms ∧ (s.pgGood g).xlt = s.xlt ∧ (s.pgGood g).prot = s.prot ∧ (s.pgGood g).caches = s.caches ∧ (s.pgGood g).dram = s.dram ∧ (s.pgGood g).link = s.link ∧ (s.pgGood g).reads = s.reads ∧ (s.pgGood g).drift = s.drift ∧ (s.pgGood g).ring = s.ring ∧ (s.pgGood g).strm = s.strm ∧ (s.pgGood g).mbox = s.mbox ∧ (s.pgGood g).srm = s.srm ∧ (s.pgGood g).dbg = s.dbg ∧ (s.pgGood g).i3c = s.i3c ∧ (s.pgGood g).drawn = s.drawn := by
  have f1 := @State.cartPgGood_frame; have f2 := @State.emit_frame; have f3 := @State.setFlag_frame
  dsimp only [State.pgGood]; (repeat' split) <;> simp [f1, f2, f3]
theorem State.seqDone_frame (us : Nat) (s : State) : (State.seqDone us s).pending = s.pending ∧ (State.seqDone us s).variant = s.variant ∧ (State.seqDone us s).applied = s.applied ∧ (State.seqDone us s).latches = s.latches ∧ (State.seqDone us s).commits = s.commits ∧ (State.seqDone us s).resetting = s.resetting ∧ (State.seqDone us s).clk = s.clk ∧ (State.seqDone us s).bw = s.bw ∧ (State.seqDone us s).gang0 = s.gang0 ∧ (State.seqDone us s).gang1 = s.gang1 ∧ (State.seqDone us s).med = s.med ∧ (State.seqDone us s).roms = s.roms ∧ (State.seqDone us s).xlt = s.xlt ∧ (State.seqDone us s).prot = s.prot ∧ (State.seqDone us s).caches = s.caches ∧ (State.seqDone us s).dram = s.dram ∧ (State.seqDone us s).link = s.link ∧ (State.seqDone us s).reads = s.reads ∧ (State.seqDone us s).drift = s.drift ∧ (State.seqDone us s).ring = s.ring ∧ (State.seqDone us s).strm = s.strm ∧ (State.seqDone us s).mbox = s.mbox ∧ (State.seqDone us s).srm = s.srm ∧ (State.seqDone us s).dbg = s.dbg ∧ (State.seqDone us s).i3c = s.i3c ∧ (State.seqDone us s).drawn = s.drawn := by
  have f1 := @State.restartCounts_frame; have f2 := @State.seqFinish_frame
  simp [State.seqDone, f1, f2]
theorem State.startSeqUp_frame (s : State) : (s.startSeqUp).pending = s.pending ∧ (s.startSeqUp).variant = s.variant ∧ (s.startSeqUp).med = s.med ∧ (s.startSeqUp).roms = s.roms := by
  have f1 := @State.bump_frame; have f2 := @State.coldReset_frame; have f3 := @State.onDev_frame; have f4 := @State.seqFinish_frame; have f5 := @State.setFld_frame; have f6 := @State.toState_frame
  dsimp only [State.startSeqUp]
  simp (disch := (first | (intros; (repeat' split) <;> (first | rfl | (simp [f1, f2, f3, f4, f5, f6]; done) | (simp (disch := (first | (intros; (repeat' split) <;> (first | rfl | (simp [f1, f2, f3, f4, f5, f6]; done) | fail)) | fail)) [f1, f2, f3, f4, f5, f6]; done) | fail)) | fail)) [f1, f2, f3, f4, f5, f6]
theorem State.tryStart_frame (s : State) : (s.tryStart).pending = s.pending ∧ (s.tryStart).variant = s.variant ∧ (s.tryStart).med = s.med ∧ (s.tryStart).roms = s.roms := by
  have f1 := @State.startSeqUp_frame
  simp [State.tryStart, f1]

end Sys2Proof.Machine
end

