-- ==== Sys2Proof/Laws/FrameBoundary.lean ====
section
/-! SUPPORT. Frames of the operations of Machine/Boundary.lean: the fields of State that each leaves as they were. -/

set_option maxRecDepth 4000
set_option linter.unusedSimpArgs false

namespace Sys2Proof.Machine

theorem State.applyRegions_frame (s : State) : (s.applyRegions).pending = s.pending ∧ (s.applyRegions).variant = s.variant ∧ (s.applyRegions).latches = s.latches ∧ (s.applyRegions).resetting = s.resetting ∧ (s.applyRegions).clk = s.clk ∧ (s.applyRegions).med = s.med ∧ (s.applyRegions).roms = s.roms ∧ (s.applyRegions).dbg = s.dbg ∧ (s.applyRegions).i3c = s.i3c := by
  have f1 := @State.cfgErr_frame; have f2 := @State.onPnv_frame; have f3 := @State.onProt_frame; have f4 := @State.raise_frame
  simp [State.applyRegions, f1, f2, f3, f4]
theorem State.windowApplied_frame (s : State) (t : State) : (s.windowApplied t).pending = t.pending ∧ (s.windowApplied t).variant = t.variant ∧ (s.windowApplied t).latches = t.latches ∧ (s.windowApplied t).resetting = t.resetting ∧ (s.windowApplied t).clk = t.clk ∧ (s.windowApplied t).med = t.med ∧ (s.windowApplied t).roms = t.roms ∧ (s.windowApplied t).dbg = t.dbg ∧ (s.windowApplied t).i3c = t.i3c := by
  have f1 := @State.onPmc_frame; have f2 := @State.windowEnd_frame
  simp [State.windowApplied, f1, f2]
theorem State.afterApply_frame (s : State) (t : State) (p : Nat) : (s.afterApply t p).pending = t.pending ∧ (s.afterApply t p).variant = t.variant ∧ (s.afterApply t p).latches = t.latches ∧ (s.afterApply t p).resetting = t.resetting ∧ (s.afterApply t p).clk = t.clk ∧ (s.afterApply t p).med = t.med ∧ (s.afterApply t p).roms = t.roms ∧ (s.afterApply t p).dbg = t.dbg ∧ (s.afterApply t p).i3c = t.i3c := by
  have f1 := @State.applyRegions_frame; have f2 := @State.setFld_frame; have f3 := @State.wayPdApply_frame; have f4 := @State.windowApplied_frame
  simp [State.afterApply, f1, f2, f3, f4]
theorem State.patternNote_frame (s : State) (a : Nat) (ok : Bool) : (s.patternNote a ok).pending = s.pending ∧ (s.patternNote a ok).variant = s.variant ∧ (s.patternNote a ok).latches = s.latches ∧ (s.patternNote a ok).resetting = s.resetting ∧ (s.patternNote a ok).med = s.med ∧ (s.patternNote a ok).roms = s.roms ∧ (s.patternNote a ok).dbg = s.dbg ∧ (s.patternNote a ok).i3c = s.i3c := by
  have f1 := @State.raise_frame
  simp [State.patternNote, f1]
theorem State.unstage_frame (s : State) (a : Nat) (f : RegField) : (s.unstage a f).pending = s.pending ∧ (s.unstage a f).variant = s.variant ∧ (s.unstage a f).latches = s.latches ∧ (s.unstage a f).resetting = s.resetting ∧ (s.unstage a f).med = s.med ∧ (s.unstage a f).roms = s.roms ∧ (s.unstage a f).dbg = s.dbg ∧ (s.unstage a f).i3c = s.i3c := by
  have f1 := @State.setReg_frame
  simp [State.unstage, f1]
theorem State.stageIn_frame (s : State) (a : Nat) (f : RegField) : (s.stageIn a f).pending = s.pending ∧ (s.stageIn a f).variant = s.variant ∧ (s.stageIn a f).latches = s.latches ∧ (s.stageIn a f).resetting = s.resetting ∧ (s.stageIn a f).med = s.med ∧ (s.stageIn a f).roms = s.roms ∧ (s.stageIn a f).dbg = s.dbg ∧ (s.stageIn a f).i3c = s.i3c := by
  have f1 := @State.setApplied_frame
  simp [State.stageIn, f1]
theorem State.applyField_frame (s : State) (a : Nat) (w : Nat) (f : RegField) : (s.applyField a w f).pending = s.pending ∧ (s.applyField a w f).variant = s.variant ∧ (s.applyField a w f).latches = s.latches ∧ (s.applyField a w f).resetting = s.resetting ∧ (s.applyField a w f).med = s.med ∧ (s.applyField a w f).roms = s.roms ∧ (s.applyField a w f).dbg = s.dbg ∧ (s.applyField a w f).i3c = s.i3c := by
  have f1 := @State.cfgErr_frame; have f2 := @State.stageIn_frame; have f3 := @State.unstage_frame
  simp [State.applyField, f1, f2, f3]
theorem State.applyReg_frame (s : State) (a : Nat) : (s.applyReg a).pending = s.pending ∧ (s.applyReg a).variant = s.variant ∧ (s.applyReg a).latches = s.latches ∧ (s.applyReg a).resetting = s.resetting ∧ (s.applyReg a).med = s.med ∧ (s.applyReg a).roms = s.roms ∧ (s.applyReg a).dbg = s.dbg ∧ (s.applyReg a).i3c = s.i3c := by
  have f1 := @State.applyField_frame; have f2 := @State.cfgErr_frame; have f3 := @State.patternNote_frame; have f4 := @State.stageIn_frame; have f5 := @State.unstage_frame
  dsimp only [State.applyReg]; (repeat' split) <;> simp [f1, f2, f3, f4, f5]
theorem State.applyPage_frame (s : State) (p : Nat) : (s.applyPage p).pending = s.pending ∧ (s.applyPage p).variant = s.variant ∧ (s.applyPage p).latches = s.latches ∧ (s.applyPage p).resetting = s.resetting ∧ (s.applyPage p).med = s.med ∧ (s.applyPage p).roms = s.roms ∧ (s.applyPage p).dbg = s.dbg ∧ (s.applyPage p).i3c = s.i3c := by
  have f1 := @State.afterApply_frame; have f2 := @State.applyReg_frame
  simp [State.applyPage, f1, f2]
theorem State.applyCommits_frame (s : State) (sel : Nat → Bool) : (s.applyCommits sel).pending = s.pending ∧ (s.applyCommits sel).variant = s.variant ∧ (s.applyCommits sel).latches = s.latches ∧ (s.applyCommits sel).resetting = s.resetting ∧ (s.applyCommits sel).med = s.med ∧ (s.applyCommits sel).roms = s.roms ∧ (s.applyCommits sel).dbg = s.dbg ∧ (s.applyCommits sel).i3c = s.i3c := by
  have f1 := @State.applyPage_frame
  simp [State.applyCommits, f1]
theorem State.bandsRelease_frame (s : State) (g : Nat) : (s.bandsRelease g).pending = s.pending ∧ (s.bandsRelease g).variant = s.variant ∧ (s.bandsRelease g).latches = s.latches ∧ (s.bandsRelease g).resetting = s.resetting ∧ (s.bandsRelease g).med = s.med ∧ (s.bandsRelease g).roms = s.roms ∧ (s.bandsRelease g).dbg = s.dbg ∧ (s.bandsRelease g).i3c = s.i3c := by
  have f1 := @State.bandRelease_frame
  simp [State.bandsRelease, f1]
theorem State.pmcClear_frame (s : State) : (s.pmcClear).pending = s.pending ∧ (s.pmcClear).variant = s.variant ∧ (s.pmcClear).latches = s.latches ∧ (s.pmcClear).resetting = s.resetting ∧ (s.pmcClear).med = s.med ∧ (s.pmcClear).roms = s.roms ∧ (s.pmcClear).dbg = s.dbg ∧ (s.pmcClear).i3c = s.i3c := by
  have f1 := @State.onPmc_frame
  simp [State.pmcClear, f1]
theorem State.nextBell_frame (s : State) : (s.nextBell).pending = s.pending ∧ (s.nextBell).variant = s.variant ∧ (s.nextBell).latches = s.latches ∧ (s.nextBell).resetting = s.resetting ∧ (s.nextBell).med = s.med ∧ (s.nextBell).roms = s.roms ∧ (s.nextBell).dbg = s.dbg ∧ (s.nextBell).i3c = s.i3c := by
  have f1 := @State.pmcClear_frame; have f2 := @State.settleHeld_frame; have f3 := @State.settleStarved_frame; have f4 := @State.settle_frame
  simp [State.nextBell, f1, f2, f3, f4]
theorem State.throttleStart_frame (s : State) : (s.throttleStart).pending = s.pending ∧ (s.throttleStart).variant = s.variant ∧ (s.throttleStart).latches = s.latches ∧ (s.throttleStart).resetting = s.resetting ∧ (s.throttleStart).med = s.med ∧ (s.throttleStart).roms = s.roms ∧ (s.throttleStart).dbg = s.dbg ∧ (s.throttleStart).i3c = s.i3c := by
  have f1 := @State.raise_frame; have f2 := @State.setFld_frame
  simp [State.throttleStart, f1, f2]
theorem State.mediumBell_frame (s : State) : (s.mediumBell).pending = s.pending ∧ (s.mediumBell).variant = s.variant ∧ (s.mediumBell).latches = s.latches ∧ (s.mediumBell).resetting = s.resetting ∧ (s.mediumBell).med = s.med ∧ (s.mediumBell).roms = s.roms ∧ (s.mediumBell).dbg = s.dbg ∧ (s.mediumBell).i3c = s.i3c := by
  have f1 := @State.forgetOuts_frame; have f2 := @State.loadBell_frame; have f3 := @State.spareRetry_frame
  simp [State.mediumBell, f1, f2, f3]
theorem State.filterState_frame (s : State) : (s.filterState).pending = s.pending ∧ (s.filterState).variant = s.variant ∧ (s.filterState).latches = s.latches ∧ (s.filterState).resetting = s.resetting ∧ (s.filterState).med = s.med ∧ (s.filterState).roms = s.roms ∧ (s.filterState).dbg = s.dbg ∧ (s.filterState).i3c = s.i3c := by
  have f1 := @State.onPmc_frame; have f2 := @State.setFlag_frame
  simp [State.filterState, f1, f2]
theorem State.bellBoundary_frame (s : State) (words : List WordErr) : (s.bellBoundary words).pending = s.pending ∧ (s.bellBoundary words).variant = s.variant ∧ (s.bellBoundary words).latches = s.latches ∧ (s.bellBoundary words).resetting = s.resetting ∧ (s.bellBoundary words).med = s.med ∧ (s.bellBoundary words).roms = s.roms ∧ (s.bellBoundary words).dbg = s.dbg ∧ (s.bellBoundary words).i3c = s.i3c := by
  have f1 := @State.applyCommits_frame; have f2 := @State.bankWord_frame; have f3 := @State.bellCmp_frame; have f4 := @State.cartMountDue_frame; have f5 := @State.cartWindow_frame; have f6 := @State.copyPump_frame; have f7 := @State.ev_frame; have f8 := @State.filterState_frame; have f9 := @State.keysDue_frame; have f10 := @State.laneWakes_frame; have f11 := @State.mediumBell_frame; have f12 := @State.nextBell_frame; have f13 := @State.refill_frame; have f14 := @State.standbyCheck_frame; have f15 := @State.streamBell_frame; have f16 := @State.throttleStart_frame
  simp [State.bellBoundary, f1, f2, f3, f4, f5, f6, f7, f8, f9, f10, f11, f12, f13, f14, f15, f16]
theorem State.capApplied_frame (s : State) : (s.capApplied).pending = s.pending ∧ (s.capApplied).variant = s.variant ∧ (s.capApplied).latches = s.latches ∧ (s.capApplied).resetting = s.resetting ∧ (s.capApplied).med = s.med ∧ (s.capApplied).roms = s.roms ∧ (s.capApplied).dbg = s.dbg ∧ (s.capApplied).i3c = s.i3c := by
  have f1 := @State.postLat_frame; have f2 := @State.setFld_frame
  simp [State.capApplied, f1, f2]
theorem State.clearLasting_frame (s : State) : (s.clearLasting).pending = s.pending ∧ (s.clearLasting).variant = s.variant ∧ (s.clearLasting).latches = s.latches ∧ (s.clearLasting).resetting = s.resetting ∧ (s.clearLasting).med = s.med ∧ (s.clearLasting).roms = s.roms ∧ (s.clearLasting).dbg = s.dbg ∧ (s.clearLasting).i3c = s.i3c := by
  have f1 := @State.setFld_frame
  simp [State.clearLasting, f1]
theorem State.copyMapPage_frame (s : State) (n : Nat) : (s.copyMapPage n).2.pending = s.pending ∧ (s.copyMapPage n).2.variant = s.variant ∧ (s.copyMapPage n).2.latches = s.latches ∧ (s.copyMapPage n).2.resetting = s.resetting ∧ (s.copyMapPage n).2.med = s.med ∧ (s.copyMapPage n).2.roms = s.roms ∧ (s.copyMapPage n).2.dbg = s.dbg ∧ (s.copyMapPage n).2.i3c = s.i3c := by
  have f1 := @State.onXlt_frame; have f2 := @State.sysQueue_frame
  dsimp only [State.copyMapPage]; (repeat' split) <;> simp [f1, f2]
theorem State.retarget_frame (s : State) : (s.retarget).pending = s.pending ∧ (s.retarget).variant = s.variant ∧ (s.retarget).latches = s.latches ∧ (s.retarget).resetting = s.resetting ∧ (s.retarget).med = s.med ∧ (s.retarget).roms = s.roms ∧ (s.retarget).dbg = s.dbg ∧ (s.retarget).i3c = s.i3c := by
  have f1 := @State.raise_frame; have f2 := @State.setFld_frame
  simp [State.retarget, f1, f2]
theorem State.reclaim_frame (s : State) : (s.reclaim).pending = s.pending ∧ (s.reclaim).variant = s.variant ∧ (s.reclaim).latches = s.latches ∧ (s.reclaim).resetting = s.resetting ∧ (s.reclaim).med = s.med ∧ (s.reclaim).roms = s.roms ∧ (s.reclaim).dbg = s.dbg ∧ (s.reclaim).i3c = s.i3c := by
  have f1 := @State.blockStale_frame; have f2 := @State.onXlt_frame
  simp [State.reclaim, f1, f2]
theorem State.queueTables_frame (s : State) : (s.queueTables).pending = s.pending ∧ (s.queueTables).variant = s.variant ∧ (s.queueTables).latches = s.latches ∧ (s.queueTables).resetting = s.resetting ∧ (s.queueTables).med = s.med ∧ (s.queueTables).roms = s.roms ∧ (s.queueTables).dbg = s.dbg ∧ (s.queueTables).i3c = s.i3c := by
  have f1 := @State.onXlt_frame; have f2 := @State.sysQueue_frame
  (try simp only [State.queueTables]); (repeat' split) <;> simp (disch := (intros; (repeat' split) <;> simp [f1, f2])) [*, f1, f2]
theorem State.sweepEnd_frame (s : State) : (s.sweepEnd).pending = s.pending ∧ (s.sweepEnd).variant = s.variant ∧ (s.sweepEnd).latches = s.latches ∧ (s.sweepEnd).resetting = s.resetting ∧ (s.sweepEnd).med = s.med ∧ (s.sweepEnd).roms = s.roms ∧ (s.sweepEnd).dbg = s.dbg ∧ (s.sweepEnd).i3c = s.i3c := by
  have f1 := @State.bump_frame; have f2 := @State.onDrift_frame; have f3 := @State.onXlt_frame; have f4 := @State.queueTables_frame; have f5 := @State.reclaim_frame
  simp [State.sweepEnd, f1, f2, f3, f4, f5]
theorem State.sweepOn_frame (s : State) (fuel : Nat) (copies : Nat) : (s.sweepOn fuel copies).pending = s.pending ∧ (s.sweepOn fuel copies).variant = s.variant ∧ (s.sweepOn fuel copies).latches = s.latches ∧ (s.sweepOn fuel copies).resetting = s.resetting ∧ (s.sweepOn fuel copies).med = s.med ∧ (s.sweepOn fuel copies).roms = s.roms ∧ (s.sweepOn fuel copies).dbg = s.dbg ∧ (s.sweepOn fuel copies).i3c = s.i3c := by
  have f1 := @State.copyMapPage_frame; have f2 := @State.onXlt_frame; have f3 := @State.sweepEnd_frame
  induction fuel generalizing s copies with
  | zero => simp [State.sweepOn, f1, f2, f3]
  | succ k ih =>
    simp only [State.sweepOn]
    (repeat' split) <;> simp [ih, f1, f2, f3]
theorem State.mapSweep_frame (s : State) : (s.mapSweep).pending = s.pending ∧ (s.mapSweep).variant = s.variant ∧ (s.mapSweep).latches = s.latches ∧ (s.mapSweep).resetting = s.resetting ∧ (s.mapSweep).med = s.med ∧ (s.mapSweep).roms = s.roms ∧ (s.mapSweep).dbg = s.dbg ∧ (s.mapSweep).i3c = s.i3c := by
  have f1 := @State.queueTables_frame; have f2 := @State.sweepEnd_frame; have f3 := @State.sweepOn_frame
  simp [State.mapSweep, f1, f2, f3]
theorem State.refuseCheck_frame (s : State) : (s.refuseCheck).pending = s.pending ∧ (s.refuseCheck).variant = s.variant ∧ (s.refuseCheck).latches = s.latches ∧ (s.refuseCheck).resetting = s.resetting ∧ (s.refuseCheck).med = s.med ∧ (s.refuseCheck).roms = s.roms ∧ (s.refuseCheck).dbg = s.dbg ∧ (s.refuseCheck).i3c = s.i3c := by
  have f1 := @State.onXlt_frame; have f2 := @State.setFlag_frame
  simp [State.refuseCheck, f1, f2]
theorem State.shepFlock_frame (s0 : State) (g : Nat) : (s0.shepFlock g).pending = s0.pending ∧ (s0.shepFlock g).variant = s0.variant ∧ (s0.shepFlock g).latches = s0.latches ∧ (s0.shepFlock g).resetting = s0.resetting ∧ (s0.shepFlock g).med = s0.med ∧ (s0.shepFlock g).roms = s0.roms ∧ (s0.shepFlock g).dbg = s0.dbg ∧ (s0.shepFlock g).i3c = s0.i3c := by
  have f1 := @State.onGang_frame; have f2 := @State.onPnv_frame; have f3 := @State.passEnd_frame; have f4 := @State.raise_frame
  simp [State.shepFlock, f1, f2, f3, f4]
theorem State.flockBlocks_frame (s : State) : (s.flockBlocks).pending = s.pending ∧ (s.flockBlocks).variant = s.variant ∧ (s.flockBlocks).latches = s.latches ∧ (s.flockBlocks).resetting = s.resetting ∧ (s.flockBlocks).med = s.med ∧ (s.flockBlocks).roms = s.roms ∧ (s.flockBlocks).dbg = s.dbg ∧ (s.flockBlocks).i3c = s.i3c := by
  have f1 := @State.bandsRelease_frame; have f2 := @State.driftFlock_frame; have f3 := @State.evacCheck_frame; have f4 := @State.foldAims_frame; have f5 := @State.lifeAlert_frame; have f6 := @State.mapSweep_frame; have f7 := @State.onDram_frame; have f8 := @State.openNext_frame; have f9 := @State.refreshQueue_frame; have f10 := @State.refuseCheck_frame; have f11 := @State.retarget_frame; have f12 := @State.setFlag_frame; have f13 := @State.shepFlock_frame
  simp [State.flockBlocks, f1, f2, f3, f4, f5, f6, f7, f8, f9, f10, f11, f12, f13]
theorem State.rebind_frame (s : State) : (s.rebind).pending = s.pending ∧ (s.rebind).variant = s.variant ∧ (s.rebind).latches = s.latches ∧ (s.rebind).resetting = s.resetting ∧ (s.rebind).med = s.med ∧ (s.rebind).roms = s.roms ∧ (s.rebind).dbg = s.dbg ∧ (s.rebind).i3c = s.i3c := by
  have f1 := @State.onReads_frame
  simp [State.rebind, f1]
theorem State.powerFlock_frame (s : State) : (s.powerFlock).pending = s.pending ∧ (s.powerFlock).variant = s.variant ∧ (s.powerFlock).latches = s.latches ∧ (s.powerFlock).resetting = s.resetting ∧ (s.powerFlock).med = s.med ∧ (s.powerFlock).roms = s.roms ∧ (s.powerFlock).dbg = s.dbg ∧ (s.powerFlock).i3c = s.i3c := by
  have f1 := @State.bumpSat_frame; have f2 := @State.onHk_frame; have f3 := @State.setFld_frame
  simp [State.powerFlock, f1, f2, f3]
theorem State.mr4_frame (s : State) (hot : List (Nat × Nat)) : (s.mr4 hot).pending = s.pending ∧ (s.mr4 hot).variant = s.variant ∧ (s.mr4 hot).latches = s.latches ∧ (s.mr4 hot).resetting = s.resetting ∧ (s.mr4 hot).med = s.med ∧ (s.mr4 hot).roms = s.roms ∧ (s.mr4 hot).dbg = s.dbg ∧ (s.mr4 hot).i3c = s.i3c := by
  have f1 := @State.raiseRec_frame; have f2 := @State.setFlag_frame
  simp [State.mr4, f1, f2]
theorem State.throttleEnd_frame (s : State) : (s.throttleEnd).pending = s.pending ∧ (s.throttleEnd).variant = s.variant ∧ (s.throttleEnd).latches = s.latches ∧ (s.throttleEnd).resetting = s.resetting ∧ (s.throttleEnd).med = s.med ∧ (s.throttleEnd).roms = s.roms ∧ (s.throttleEnd).dbg = s.dbg ∧ (s.throttleEnd).i3c = s.i3c := by
  have f1 := @State.onDram_frame; have f2 := @State.setFld_frame
  simp [State.throttleEnd, f1, f2]
theorem State.flockCounts_frame (s : State) (hot : List (Nat × Nat)) : (s.flockCounts hot).pending = s.pending ∧ (s.flockCounts hot).variant = s.variant ∧ (s.flockCounts hot).latches = s.latches ∧ (s.flockCounts hot).resetting = s.resetting ∧ (s.flockCounts hot).med = s.med ∧ (s.flockCounts hot).roms = s.roms ∧ (s.flockCounts hot).dbg = s.dbg ∧ (s.flockCounts hot).i3c = s.i3c := by
  have f1 := @State.classFlock_frame; have f2 := @State.clearLasting_frame; have f3 := @State.epochAdvance_frame; have f4 := @State.mr4_frame; have f5 := @State.throttleEnd_frame
  simp [State.flockCounts, f1, f2, f3, f4, f5]
theorem State.rotaOn_frame (s : State) : (s.rotaOn).pending = s.pending ∧ (s.rotaOn).variant = s.variant ∧ (s.rotaOn).latches = s.latches ∧ (s.rotaOn).resetting = s.resetting ∧ (s.rotaOn).med = s.med ∧ (s.rotaOn).roms = s.roms ∧ (s.rotaOn).dbg = s.dbg ∧ (s.rotaOn).i3c = s.i3c := by
  have f1 := @State.onRota_frame
  simp [State.rotaOn, f1]
theorem State.resumeEnds_frame (s : State) : (s.resumeEnds).pending = s.pending ∧ (s.resumeEnds).variant = s.variant ∧ (s.resumeEnds).latches = s.latches ∧ (s.resumeEnds).resetting = s.resetting ∧ (s.resumeEnds).med = s.med ∧ (s.resumeEnds).roms = s.roms ∧ (s.resumeEnds).dbg = s.dbg ∧ (s.resumeEnds).i3c = s.i3c := by
  have f1 := @State.onDev_frame; have f2 := @State.raise_frame; have f3 := @State.rotaOn_frame; have f4 := @State.setFlag_frame
  simp [State.resumeEnds, f1, f2, f3, f4]
theorem State.startEnds_frame (s : State) : (s.startEnds).pending = s.pending ∧ (s.startEnds).variant = s.variant ∧ (s.startEnds).latches = s.latches ∧ (s.startEnds).resetting = s.resetting ∧ (s.startEnds).med = s.med ∧ (s.startEnds).roms = s.roms ∧ (s.startEnds).dbg = s.dbg ∧ (s.startEnds).i3c = s.i3c := by
  have f1 := @State.cartsUp_frame; have f2 := @State.onDev_frame; have f3 := @State.passBegin_frame; have f4 := @State.raise_frame; have f5 := @State.rotaOn_frame; have f6 := @State.toState_frame
  simp [State.startEnds, f1, f2, f3, f4, f5, f6]
theorem State.rotaStart_frame (s : State) : (s.rotaStart).pending = s.pending ∧ (s.rotaStart).variant = s.variant ∧ (s.rotaStart).latches = s.latches ∧ (s.rotaStart).resetting = s.resetting ∧ (s.rotaStart).med = s.med ∧ (s.rotaStart).roms = s.roms ∧ (s.rotaStart).dbg = s.dbg ∧ (s.rotaStart).i3c = s.i3c := by
  have f1 := @State.resumeEnds_frame; have f2 := @State.startEnds_frame
  simp [State.rotaStart, f1, f2]
theorem State.flockBoundary_frame (s : State) (hot : List (Nat × Nat)) : (s.flockBoundary hot).pending = s.pending ∧ (s.flockBoundary hot).variant = s.variant ∧ (s.flockBoundary hot).latches = s.latches ∧ (s.flockBoundary hot).resetting = s.resetting ∧ (s.flockBoundary hot).med = s.med ∧ (s.flockBoundary hot).roms = s.roms ∧ (s.flockBoundary hot).dbg = s.dbg ∧ (s.flockBoundary hot).i3c = s.i3c := by
  have f1 := @State.applyCommits_frame; have f2 := @State.applyLat_frame; have f3 := @State.capApplied_frame; have f4 := @State.flockBlocks_frame; have f5 := @State.flockCounts_frame; have f6 := @State.powerFlock_frame; have f7 := @State.rebind_frame; have f8 := @State.refill_frame; have f9 := @State.rotaStart_frame; have f10 := @State.standbyCheck_frame; have f11 := @State.tremorFlock_frame
  simp [State.flockBoundary, f1, f2, f3, f4, f5, f6, f7, f8, f9, f10, f11]

end Sys2Proof.Machine
end

