-- ==== Sys2Proof/Laws/FrameCounters.lean ====
section
/-! SUPPORT. Frames of the operations of Machine/Counters.lean: the fields of State that each leaves as they were. -/

set_option maxRecDepth 4000
set_option linter.unusedSimpArgs false

namespace Sys2Proof.Machine

theorem State.readLo_frame (s : State) (src : Source) (lo : Nat) (hi : Nat) (v : Nat) : (s.readLo src lo hi v).pending = s.pending ∧ (s.readLo src lo hi v).variant = s.variant ∧ (s.readLo src lo hi v).regs = s.regs ∧ (s.readLo src lo hi v).applied = s.applied ∧ (s.readLo src lo hi v).commits = s.commits ∧ (s.readLo src lo hi v).resetting = s.resetting ∧ (s.readLo src lo hi v).dev = s.dev ∧ (s.readLo src lo hi v).pwr = s.pwr ∧ (s.readLo src lo hi v).hk = s.hk ∧ (s.readLo src lo hi v).clk = s.clk ∧ (s.readLo src lo hi v).bw = s.bw ∧ (s.readLo src lo hi v).gang0 = s.gang0 ∧ (s.readLo src lo hi v).gang1 = s.gang1 ∧ (s.readLo src lo hi v).med = s.med ∧ (s.readLo src lo hi v).roms = s.roms ∧ (s.readLo src lo hi v).xlt = s.xlt ∧ (s.readLo src lo hi v).tally = s.tally ∧ (s.readLo src lo hi v).prot = s.prot ∧ (s.readLo src lo hi v).caches = s.caches ∧ (s.readLo src lo hi v).dram = s.dram ∧ (s.readLo src lo hi v).link = s.link ∧ (s.readLo src lo hi v).reads = s.reads ∧ (s.readLo src lo hi v).drift = s.drift ∧ (s.readLo src lo hi v).zl0 = s.zl0 ∧ (s.readLo src lo hi v).zl1 = s.zl1 ∧ (s.readLo src lo hi v).pmc = s.pmc ∧ (s.readLo src lo hi v).ring = s.ring ∧ (s.readLo src lo hi v).strm = s.strm ∧ (s.readLo src lo hi v).mbox = s.mbox ∧ (s.readLo src lo hi v).pnv = s.pnv ∧ (s.readLo src lo hi v).nvm = s.nvm ∧ (s.readLo src lo hi v).srm = s.srm ∧ (s.readLo src lo hi v).dbg = s.dbg ∧ (s.readLo src lo hi v).i3c = s.i3c := by
  have f1 := @State.emit_frame; have f2 := @State.latch_frame
  simp [State.readLo, f1, f2]

end Sys2Proof.Machine
end

