-- ==== Sys2Proof/Laws/FrameDeleper.lean ====
section
/-! SUPPORT. Frames of the operations of Machine/Deleper.lean: the fields of State that each leaves as they were. -/

set_option maxRecDepth 4000
set_option linter.unusedSimpArgs false

namespace Sys2Proof.Machine

theorem State.onDbg_frame (s : State) (f : Dbg → Dbg) : (s.onDbg f).pending = s.pending ∧ (s.onDbg f).variant = s.variant ∧ (s.onDbg f).applied = s.applied ∧ (s.onDbg f).latches = s.latches ∧ (s.onDbg f).commits = s.commits ∧ (s.onDbg f).resetting = s.resetting ∧ (s.onDbg f).dev = s.dev ∧ (s.onDbg f).pwr = s.pwr ∧ (s.onDbg f).hk = s.hk ∧ (s.onDbg f).clk = s.clk ∧ (s.onDbg f).gang0 = s.gang0 ∧ (s.onDbg f).gang1 = s.gang1 ∧ (s.onDbg f).med = s.med ∧ (s.onDbg f).roms = s.roms ∧ (s.onDbg f).xlt = s.xlt ∧ (s.onDbg f).tally = s.tally ∧ (s.onDbg f).prot = s.prot ∧ (s.onDbg f).caches = s.caches ∧ (s.onDbg f).dram = s.dram ∧ (s.onDbg f).reads = s.reads ∧ (s.onDbg f).drift = s.drift ∧ (s.onDbg f).zl0 = s.zl0 ∧ (s.onDbg f).zl1 = s.zl1 ∧ (s.onDbg f).ring = s.ring ∧ (s.onDbg f).strm = s.strm ∧ (s.onDbg f).mbox = s.mbox ∧ (s.onDbg f).pnv = s.pnv ∧ (s.onDbg f).nvm = s.nvm ∧ (s.onDbg f).srm = s.srm ∧ (s.onDbg f).i3c = s.i3c := by
  simp [State.onDbg]
theorem State.bypass_frame (s : State) : (s.bypass).pending = s.pending ∧ (s.bypass).variant = s.variant ∧ (s.bypass).applied = s.applied ∧ (s.bypass).latches = s.latches ∧ (s.bypass).commits = s.commits ∧ (s.bypass).resetting = s.resetting ∧ (s.bypass).dev = s.dev ∧ (s.bypass).pwr = s.pwr ∧ (s.bypass).hk = s.hk ∧ (s.bypass).clk = s.clk ∧ (s.bypass).gang0 = s.gang0 ∧ (s.bypass).gang1 = s.gang1 ∧ (s.bypass).med = s.med ∧ (s.bypass).roms = s.roms ∧ (s.bypass).xlt = s.xlt ∧ (s.bypass).tally = s.tally ∧ (s.bypass).prot = s.prot ∧ (s.bypass).caches = s.caches ∧ (s.bypass).dram = s.dram ∧ (s.bypass).reads = s.reads ∧ (s.bypass).drift = s.drift ∧ (s.bypass).zl0 = s.zl0 ∧ (s.bypass).zl1 = s.zl1 ∧ (s.bypass).ring = s.ring ∧ (s.bypass).strm = s.strm ∧ (s.bypass).mbox = s.mbox ∧ (s.bypass).pnv = s.pnv ∧ (s.bypass).nvm = s.nvm ∧ (s.bypass).srm = s.srm ∧ (s.bypass).i3c = s.i3c := by
  have f1 := @State.emit_frame; have f2 := @State.onDbg_frame
  simp [State.bypass, f1, f2]
theorem State.dbgDraw_frame (s : State) : (s.dbgDraw).pending = s.pending ∧ (s.dbgDraw).variant = s.variant ∧ (s.dbgDraw).applied = s.applied ∧ (s.dbgDraw).latches = s.latches ∧ (s.dbgDraw).commits = s.commits ∧ (s.dbgDraw).resetting = s.resetting ∧ (s.dbgDraw).pwr = s.pwr ∧ (s.dbgDraw).hk = s.hk ∧ (s.dbgDraw).clk = s.clk ∧ (s.dbgDraw).med = s.med ∧ (s.dbgDraw).roms = s.roms ∧ (s.dbgDraw).i3c = s.i3c := by
  have f1 := @State.draw_frame; have f2 := @State.onDbg_frame; have f3 := @State.setFld_frame
  simp [State.dbgDraw, f1, f2, f3]
theorem State.dbgVerify_frame (s : State) (sig : List Nat) : (s.dbgVerify sig).pending = s.pending ∧ (s.dbgVerify sig).variant = s.variant ∧ (s.dbgVerify sig).applied = s.applied ∧ (s.dbgVerify sig).latches = s.latches ∧ (s.dbgVerify sig).commits = s.commits ∧ (s.dbgVerify sig).resetting = s.resetting ∧ (s.dbgVerify sig).pwr = s.pwr ∧ (s.dbgVerify sig).hk = s.hk ∧ (s.dbgVerify sig).clk = s.clk ∧ (s.dbgVerify sig).med = s.med ∧ (s.dbgVerify sig).roms = s.roms ∧ (s.dbgVerify sig).i3c = s.i3c := by
  have f1 := @State.bumpSat_frame; have f2 := @State.bump_frame; have f3 := @State.onDbg_frame; have f4 := @State.raise_frame; have f5 := @State.setFld_frame; have f6 := @State.tremor_frame
  simp [State.dbgVerify, f1, f2, f3, f4, f5, f6]
theorem State.debugSense_frame (s : State) (c : Sensing) : (s.debugSense c).pending = s.pending ∧ (s.debugSense c).variant = s.variant ∧ (s.debugSense c).applied = s.applied ∧ (s.debugSense c).latches = s.latches ∧ (s.debugSense c).commits = s.commits ∧ (s.debugSense c).resetting = s.resetting ∧ (s.debugSense c).pwr = s.pwr ∧ (s.debugSense c).hk = s.hk ∧ (s.debugSense c).clk = s.clk ∧ (s.debugSense c).med = s.med ∧ (s.debugSense c).roms = s.roms ∧ (s.debugSense c).i3c = s.i3c := by
  have f1 := @State.bookBg_frame; have f2 := @State.senseBytes_frame; have f3 := @State.senseCount_frame
  simp [State.debugSense, f1, f2, f3]
theorem State.debugMedia_frame (s : State) (dpa : Nat) (first : Sensed) (second : Sensed) : (s.debugMedia dpa first second).2.pending = s.pending ∧ (s.debugMedia dpa first second).2.variant = s.variant ∧ (s.debugMedia dpa first second).2.applied = s.applied ∧ (s.debugMedia dpa first second).2.latches = s.latches ∧ (s.debugMedia dpa first second).2.commits = s.commits ∧ (s.debugMedia dpa first second).2.resetting = s.resetting ∧ (s.debugMedia dpa first second).2.pwr = s.pwr ∧ (s.debugMedia dpa first second).2.hk = s.hk ∧ (s.debugMedia dpa first second).2.clk = s.clk ∧ (s.debugMedia dpa first second).2.med = s.med ∧ (s.debugMedia dpa first second).2.roms = s.roms ∧ (s.debugMedia dpa first second).2.i3c = s.i3c := by
  have f1 := @State.classify_frame; have f2 := @State.debugSense_frame; have f3 := @State.noteAttempt_frame
  dsimp only [State.debugMedia]; (repeat' split) <;> simp [f1, f2, f3]
theorem State.debugSector_frame (s : State) (dpa : Nat) (first : Sensed) (second : Sensed) : (s.debugSector dpa first second).2.pending = s.pending ∧ (s.debugSector dpa first second).2.variant = s.variant ∧ (s.debugSector dpa first second).2.applied = s.applied ∧ (s.debugSector dpa first second).2.latches = s.latches ∧ (s.debugSector dpa first second).2.commits = s.commits ∧ (s.debugSector dpa first second).2.resetting = s.resetting ∧ (s.debugSector dpa first second).2.pwr = s.pwr ∧ (s.debugSector dpa first second).2.hk = s.hk ∧ (s.debugSector dpa first second).2.clk = s.clk ∧ (s.debugSector dpa first second).2.med = s.med ∧ (s.debugSector dpa first second).2.roms = s.roms ∧ (s.debugSector dpa first second).2.i3c = s.i3c := by
  have f1 := @State.debugMedia_frame
  dsimp only [State.debugSector]; (repeat' split) <;> simp [f1]
theorem State.debugRead_frame (s : State) (dpa : Nat) (rows : List (Nat × Nat × Nat × Nat)) (first : Sensed) (second : Sensed) : (s.debugRead dpa rows first second).pending = s.pending ∧ (s.debugRead dpa rows first second).variant = s.variant ∧ (s.debugRead dpa rows first second).applied = s.applied ∧ (s.debugRead dpa rows first second).latches = s.latches ∧ (s.debugRead dpa rows first second).commits = s.commits ∧ (s.debugRead dpa rows first second).resetting = s.resetting ∧ (s.debugRead dpa rows first second).pwr = s.pwr ∧ (s.debugRead dpa rows first second).hk = s.hk ∧ (s.debugRead dpa rows first second).clk = s.clk ∧ (s.debugRead dpa rows first second).med = s.med ∧ (s.debugRead dpa rows first second).roms = s.roms ∧ (s.debugRead dpa rows first second).i3c = s.i3c := by
  have f1 := @State.activate_frame; have f2 := @State.debugSector_frame; have f3 := @State.emit_frame; have f4 := @State.ev_frame; have f5 := @State.moved_frame
  simp [State.debugRead, f1, f2, f3, f4, f5]
theorem State.memAccess_frame (s : State) (write : Bool) (dpa : Nat) (keyid : Nat) (data : Line) (rows : List (Nat × Nat × Nat × Nat)) (first : Sensed) (second : Sensed) : (s.memAccess write dpa keyid data rows first second).pending = s.pending ∧ (s.memAccess write dpa keyid data rows first second).variant = s.variant ∧ (s.memAccess write dpa keyid data rows first second).applied = s.applied ∧ (s.memAccess write dpa keyid data rows first second).latches = s.latches ∧ (s.memAccess write dpa keyid data rows first second).commits = s.commits ∧ (s.memAccess write dpa keyid data rows first second).resetting = s.resetting ∧ (s.memAccess write dpa keyid data rows first second).pwr = s.pwr ∧ (s.memAccess write dpa keyid data rows first second).hk = s.hk ∧ (s.memAccess write dpa keyid data rows first second).clk = s.clk ∧ (s.memAccess write dpa keyid data rows first second).med = s.med ∧ (s.memAccess write dpa keyid data rows first second).roms = s.roms ∧ (s.memAccess write dpa keyid data rows first second).i3c = s.i3c := by
  have f1 := @State.cartCmd_frame; have f2 := @State.debugRead_frame; have f3 := @State.emit_frame; have f4 := @State.moved_frame; have f5 := @State.refusedBy_frame; have f6 := @State.storeLine_frame; have f7 := @State.takeLine_frame
  dsimp only [State.memAccess]; (repeat' split) <;> simp [f1, f2, f3, f4, f5, f6, f7]
theorem State.rmaVerify_frame (s : State) (key : List Nat) (sig : List Nat) : (s.rmaVerify key sig).pending = s.pending ∧ (s.rmaVerify key sig).variant = s.variant ∧ (s.rmaVerify key sig).applied = s.applied ∧ (s.rmaVerify key sig).latches = s.latches ∧ (s.rmaVerify key sig).commits = s.commits ∧ (s.rmaVerify key sig).resetting = s.resetting ∧ (s.rmaVerify key sig).pwr = s.pwr ∧ (s.rmaVerify key sig).hk = s.hk ∧ (s.rmaVerify key sig).clk = s.clk ∧ (s.rmaVerify key sig).med = s.med ∧ (s.rmaVerify key sig).roms = s.roms ∧ (s.rmaVerify key sig).i3c = s.i3c := by
  have f1 := @State.erupt_frame; have f2 := @State.onDbg_frame; have f3 := @State.onPnv_frame; have f4 := @State.setFlag_frame; have f5 := @State.toState_frame; have f6 := @State.tremor_frame
  simp [State.rmaVerify, f1, f2, f3, f4, f5, f6]

end Sys2Proof.Machine
end

