-- ==== Sys2Proof/Laws/FrameRing.lean ====
section
/-! SUPPORT. Frames of the operations of Machine/Ring.lean: the fields of State that each leaves as they were. -/

set_option maxRecDepth 4000
set_option linter.unusedSimpArgs false

namespace Sys2Proof.Machine

theorem State.onReq_frame (s : State) (stop : Nat) (l : RLine) (f : RReq → RReq) : (s.onReq stop l f).pending = s.pending ∧ (s.onReq stop l f).variant = s.variant ∧ (s.onReq stop l f).applied = s.applied ∧ (s.onReq stop l f).latches = s.latches ∧ (s.onReq stop l f).commits = s.commits ∧ (s.onReq stop l f).pwr = s.pwr ∧ (s.onReq stop l f).hk = s.hk ∧ (s.onReq stop l f).clk = s.clk ∧ (s.onReq stop l f).bw = s.bw ∧ (s.onReq stop l f).gang0 = s.gang0 ∧ (s.onReq stop l f).gang1 = s.gang1 ∧ (s.onReq stop l f).med = s.med ∧ (s.onReq stop l f).roms = s.roms ∧ (s.onReq stop l f).xlt = s.xlt ∧ (s.onReq stop l f).prot = s.prot ∧ (s.onReq stop l f).dram = s.dram ∧ (s.onReq stop l f).drift = s.drift ∧ (s.onReq stop l f).zl0 = s.zl0 ∧ (s.onReq stop l f).zl1 = s.zl1 ∧ (s.onReq stop l f).strm = s.strm ∧ (s.onReq stop l f).mbox = s.mbox ∧ (s.onReq stop l f).srm = s.srm ∧ (s.onReq stop l f).dbg = s.dbg ∧ (s.onReq stop l f).i3c = s.i3c := by
  have f1 := @State.onRing_frame
  simp [State.onReq, f1]
theorem State.onCred_frame (s : State) (slice : Nat) (stop : Nat) (f : RCred → RCred) : (s.onCred slice stop f).pending = s.pending ∧ (s.onCred slice stop f).variant = s.variant ∧ (s.onCred slice stop f).applied = s.applied ∧ (s.onCred slice stop f).latches = s.latches ∧ (s.onCred slice stop f).commits = s.commits ∧ (s.onCred slice stop f).pwr = s.pwr ∧ (s.onCred slice stop f).hk = s.hk ∧ (s.onCred slice stop f).clk = s.clk ∧ (s.onCred slice stop f).bw = s.bw ∧ (s.onCred slice stop f).gang0 = s.gang0 ∧ (s.onCred slice stop f).gang1 = s.gang1 ∧ (s.onCred slice stop f).med = s.med ∧ (s.onCred slice stop f).roms = s.roms ∧ (s.onCred slice stop f).xlt = s.xlt ∧ (s.onCred slice stop f).prot = s.prot ∧ (s.onCred slice stop f).dram = s.dram ∧ (s.onCred slice stop f).drift = s.drift ∧ (s.onCred slice stop f).zl0 = s.zl0 ∧ (s.onCred slice stop f).zl1 = s.zl1 ∧ (s.onCred slice stop f).strm = s.strm ∧ (s.onCred slice stop f).mbox = s.mbox ∧ (s.onCred slice stop f).srm = s.srm ∧ (s.onCred slice stop f).dbg = s.dbg ∧ (s.onCred slice stop f).i3c = s.i3c := by
  have f1 := @State.onRing_frame
  simp [State.onCred, f1]
theorem State.serveLine_frame (s : State) (l : RLine) : (s.serveLine l).pending = s.pending ∧ (s.serveLine l).variant = s.variant ∧ (s.serveLine l).applied = s.applied ∧ (s.serveLine l).latches = s.latches ∧ (s.serveLine l).commits = s.commits ∧ (s.serveLine l).pwr = s.pwr ∧ (s.serveLine l).hk = s.hk ∧ (s.serveLine l).clk = s.clk ∧ (s.serveLine l).bw = s.bw ∧ (s.serveLine l).gang0 = s.gang0 ∧ (s.serveLine l).gang1 = s.gang1 ∧ (s.serveLine l).med = s.med ∧ (s.serveLine l).roms = s.roms ∧ (s.serveLine l).xlt = s.xlt ∧ (s.serveLine l).prot = s.prot ∧ (s.serveLine l).dram = s.dram ∧ (s.serveLine l).drift = s.drift ∧ (s.serveLine l).zl0 = s.zl0 ∧ (s.serveLine l).zl1 = s.zl1 ∧ (s.serveLine l).strm = s.strm ∧ (s.serveLine l).mbox = s.mbox ∧ (s.serveLine l).srm = s.srm ∧ (s.serveLine l).dbg = s.dbg ∧ (s.serveLine l).i3c = s.i3c := by
  have f1 := @State.onCred_frame; have f2 := @State.onRing_frame; have f3 := @State.startTx_frame
  dsimp only [State.serveLine]; (repeat' split) <;> simp [f1, f2, f3]
theorem State.lookHome_frame (s : State) (l : RLine) : (s.lookHome l).pending = s.pending ∧ (s.lookHome l).variant = s.variant ∧ (s.lookHome l).applied = s.applied ∧ (s.lookHome l).latches = s.latches ∧ (s.lookHome l).commits = s.commits ∧ (s.lookHome l).pwr = s.pwr ∧ (s.lookHome l).hk = s.hk ∧ (s.lookHome l).clk = s.clk ∧ (s.lookHome l).bw = s.bw ∧ (s.lookHome l).gang0 = s.gang0 ∧ (s.lookHome l).gang1 = s.gang1 ∧ (s.lookHome l).med = s.med ∧ (s.lookHome l).roms = s.roms ∧ (s.lookHome l).xlt = s.xlt ∧ (s.lookHome l).prot = s.prot ∧ (s.lookHome l).dram = s.dram ∧ (s.lookHome l).drift = s.drift ∧ (s.lookHome l).zl0 = s.zl0 ∧ (s.lookHome l).zl1 = s.zl1 ∧ (s.lookHome l).strm = s.strm ∧ (s.lookHome l).mbox = s.mbox ∧ (s.lookHome l).srm = s.srm ∧ (s.lookHome l).dbg = s.dbg ∧ (s.lookHome l).i3c = s.i3c := by
  have f1 := @State.lookIn_frame
  simp [State.lookHome, f1]
theorem State.stashLine_frame (s0 : State) (t : RTx) : (s0.stashLine t).2.2.pending = s0.pending ∧ (s0.stashLine t).2.2.variant = s0.variant ∧ (s0.stashLine t).2.2.applied = s0.applied ∧ (s0.stashLine t).2.2.latches = s0.latches ∧ (s0.stashLine t).2.2.commits = s0.commits ∧ (s0.stashLine t).2.2.pwr = s0.pwr ∧ (s0.stashLine t).2.2.hk = s0.hk ∧ (s0.stashLine t).2.2.clk = s0.clk ∧ (s0.stashLine t).2.2.bw = s0.bw ∧ (s0.stashLine t).2.2.gang0 = s0.gang0 ∧ (s0.stashLine t).2.2.gang1 = s0.gang1 ∧ (s0.stashLine t).2.2.med = s0.med ∧ (s0.stashLine t).2.2.roms = s0.roms ∧ (s0.stashLine t).2.2.xlt = s0.xlt ∧ (s0.stashLine t).2.2.prot = s0.prot ∧ (s0.stashLine t).2.2.dram = s0.dram ∧ (s0.stashLine t).2.2.drift = s0.drift ∧ (s0.stashLine t).2.2.zl0 = s0.zl0 ∧ (s0.stashLine t).2.2.zl1 = s0.zl1 ∧ (s0.stashLine t).2.2.strm = s0.strm ∧ (s0.stashLine t).2.2.mbox = s0.mbox ∧ (s0.stashLine t).2.2.srm = s0.srm ∧ (s0.stashLine t).2.2.dbg = s0.dbg ∧ (s0.stashLine t).2.2.i3c = s0.i3c := by
  have f1 := @State.draw_frame; have f2 := @State.lookHome_frame
  dsimp only [State.stashLine]; (repeat' split) <;> simp [f1, f2]
theorem State.stashDrop_frame (s : State) : (s.stashDrop).pending = s.pending ∧ (s.stashDrop).variant = s.variant ∧ (s.stashDrop).applied = s.applied ∧ (s.stashDrop).latches = s.latches ∧ (s.stashDrop).commits = s.commits ∧ (s.stashDrop).pwr = s.pwr ∧ (s.stashDrop).hk = s.hk ∧ (s.stashDrop).clk = s.clk ∧ (s.stashDrop).bw = s.bw ∧ (s.stashDrop).gang0 = s.gang0 ∧ (s.stashDrop).gang1 = s.gang1 ∧ (s.stashDrop).med = s.med ∧ (s.stashDrop).roms = s.roms ∧ (s.stashDrop).xlt = s.xlt ∧ (s.stashDrop).prot = s.prot ∧ (s.stashDrop).dram = s.dram ∧ (s.stashDrop).drift = s.drift ∧ (s.stashDrop).zl0 = s.zl0 ∧ (s.stashDrop).zl1 = s.zl1 ∧ (s.stashDrop).strm = s.strm ∧ (s.stashDrop).mbox = s.mbox ∧ (s.stashDrop).srm = s.srm ∧ (s.stashDrop).dbg = s.dbg ∧ (s.stashDrop).i3c = s.i3c := by
  have f1 := @State.bump_frame; have f2 := @State.ev_frame; have f3 := @State.raise_frame
  simp [State.stashDrop, f1, f2, f3]
theorem State.stashOut_frame (s : State) (c : Nat) (agent : Nat) (target : Nat) (l : RLine) (d : Line) (poison : Bool) : (s.stashOut c agent target l d poison).pending = s.pending ∧ (s.stashOut c agent target l d poison).variant = s.variant ∧ (s.stashOut c agent target l d poison).applied = s.applied ∧ (s.stashOut c agent target l d poison).latches = s.latches ∧ (s.stashOut c agent target l d poison).commits = s.commits ∧ (s.stashOut c agent target l d poison).pwr = s.pwr ∧ (s.stashOut c agent target l d poison).hk = s.hk ∧ (s.stashOut c agent target l d poison).clk = s.clk ∧ (s.stashOut c agent target l d poison).bw = s.bw ∧ (s.stashOut c agent target l d poison).gang0 = s.gang0 ∧ (s.stashOut c agent target l d poison).gang1 = s.gang1 ∧ (s.stashOut c agent target l d poison).med = s.med ∧ (s.stashOut c agent target l d poison).roms = s.roms ∧ (s.stashOut c agent target l d poison).xlt = s.xlt ∧ (s.stashOut c agent target l d poison).prot = s.prot ∧ (s.stashOut c agent target l d poison).dram = s.dram ∧ (s.stashOut c agent target l d poison).drift = s.drift ∧ (s.stashOut c agent target l d poison).zl0 = s.zl0 ∧ (s.stashOut c agent target l d poison).zl1 = s.zl1 ∧ (s.stashOut c agent target l d poison).strm = s.strm ∧ (s.stashOut c agent target l d poison).mbox = s.mbox ∧ (s.stashOut c agent target l d poison).srm = s.srm ∧ (s.stashOut c agent target l d poison).dbg = s.dbg ∧ (s.stashOut c agent target l d poison).i3c = s.i3c := by
  have f1 := @State.sendAt_frame; have f2 := @State.stashDrop_frame
  simp [State.stashOut, f1, f2]
theorem State.homeWrite_frame (s : State) (l : RLine) (d : Line) (poison : Bool) (dirty : Bool) : (s.homeWrite l d poison dirty).pending = s.pending ∧ (s.homeWrite l d poison dirty).variant = s.variant ∧ (s.homeWrite l d poison dirty).applied = s.applied ∧ (s.homeWrite l d poison dirty).latches = s.latches ∧ (s.homeWrite l d poison dirty).commits = s.commits ∧ (s.homeWrite l d poison dirty).pwr = s.pwr ∧ (s.homeWrite l d poison dirty).hk = s.hk ∧ (s.homeWrite l d poison dirty).clk = s.clk ∧ (s.homeWrite l d poison dirty).bw = s.bw ∧ (s.homeWrite l d poison dirty).gang0 = s.gang0 ∧ (s.homeWrite l d poison dirty).gang1 = s.gang1 ∧ (s.homeWrite l d poison dirty).med = s.med ∧ (s.homeWrite l d poison dirty).roms = s.roms ∧ (s.homeWrite l d poison dirty).xlt = s.xlt ∧ (s.homeWrite l d poison dirty).prot = s.prot ∧ (s.homeWrite l d poison dirty).dram = s.dram ∧ (s.homeWrite l d poison dirty).drift = s.drift ∧ (s.homeWrite l d poison dirty).zl0 = s.zl0 ∧ (s.homeWrite l d poison dirty).zl1 = s.zl1 ∧ (s.homeWrite l d poison dirty).strm = s.strm ∧ (s.homeWrite l d poison dirty).mbox = s.mbox ∧ (s.homeWrite l d poison dirty).srm = s.srm ∧ (s.homeWrite l d poison dirty).dbg = s.dbg ∧ (s.homeWrite l d poison dirty).i3c = s.i3c := by
  have f1 := @State.fill_frame
  simp [State.homeWrite, f1]
theorem State.homeRead_frame (s : State) (t : RTx) : (s.homeRead t).2.pending = s.pending ∧ (s.homeRead t).2.variant = s.variant ∧ (s.homeRead t).2.applied = s.applied ∧ (s.homeRead t).2.latches = s.latches ∧ (s.homeRead t).2.commits = s.commits ∧ (s.homeRead t).2.pwr = s.pwr ∧ (s.homeRead t).2.hk = s.hk ∧ (s.homeRead t).2.clk = s.clk ∧ (s.homeRead t).2.bw = s.bw ∧ (s.homeRead t).2.gang0 = s.gang0 ∧ (s.homeRead t).2.gang1 = s.gang1 ∧ (s.homeRead t).2.med = s.med ∧ (s.homeRead t).2.roms = s.roms ∧ (s.homeRead t).2.xlt = s.xlt ∧ (s.homeRead t).2.prot = s.prot ∧ (s.homeRead t).2.dram = s.dram ∧ (s.homeRead t).2.drift = s.drift ∧ (s.homeRead t).2.zl0 = s.zl0 ∧ (s.homeRead t).2.zl1 = s.zl1 ∧ (s.homeRead t).2.strm = s.strm ∧ (s.homeRead t).2.mbox = s.mbox ∧ (s.homeRead t).2.srm = s.srm ∧ (s.homeRead t).2.dbg = s.dbg ∧ (s.homeRead t).2.i3c = s.i3c := by
  have f1 := @State.coreMem_frame; have f2 := @State.homeWrite_frame
  dsimp only [State.homeRead]; (repeat' split) <;> simp [f1, f2]
theorem State.txResult_frame (s : State) (c : Nat) (t : RTx) : (s.txResult c t).pending = s.pending ∧ (s.txResult c t).variant = s.variant ∧ (s.txResult c t).applied = s.applied ∧ (s.txResult c t).latches = s.latches ∧ (s.txResult c t).commits = s.commits ∧ (s.txResult c t).pwr = s.pwr ∧ (s.txResult c t).hk = s.hk ∧ (s.txResult c t).clk = s.clk ∧ (s.txResult c t).bw = s.bw ∧ (s.txResult c t).gang0 = s.gang0 ∧ (s.txResult c t).gang1 = s.gang1 ∧ (s.txResult c t).med = s.med ∧ (s.txResult c t).roms = s.roms ∧ (s.txResult c t).xlt = s.xlt ∧ (s.txResult c t).prot = s.prot ∧ (s.txResult c t).dram = s.dram ∧ (s.txResult c t).drift = s.drift ∧ (s.txResult c t).zl0 = s.zl0 ∧ (s.txResult c t).zl1 = s.zl1 ∧ (s.txResult c t).strm = s.strm ∧ (s.txResult c t).mbox = s.mbox ∧ (s.txResult c t).srm = s.srm ∧ (s.txResult c t).dbg = s.dbg ∧ (s.txResult c t).i3c = s.i3c := by
  have f1 := @State.homeRead_frame; have f2 := @State.homeWrite_frame; have f3 := @State.lookHome_frame; have f4 := @State.maintLine_frame; have f5 := @State.onReq_frame; have f6 := @State.sendAt_frame; have f7 := @State.stashLine_frame; have f8 := @State.stashOut_frame
  dsimp only [State.txResult]; (repeat' split) <;> simp [f1, f2, f3, f4, f5, f6, f7, f8]
theorem State.giveCredit_frame (s : State) (slice : Nat) (stop : Nat) : (s.giveCredit slice stop).2.pending = s.pending ∧ (s.giveCredit slice stop).2.variant = s.variant ∧ (s.giveCredit slice stop).2.applied = s.applied ∧ (s.giveCredit slice stop).2.latches = s.latches ∧ (s.giveCredit slice stop).2.commits = s.commits ∧ (s.giveCredit slice stop).2.pwr = s.pwr ∧ (s.giveCredit slice stop).2.hk = s.hk ∧ (s.giveCredit slice stop).2.clk = s.clk ∧ (s.giveCredit slice stop).2.bw = s.bw ∧ (s.giveCredit slice stop).2.gang0 = s.gang0 ∧ (s.giveCredit slice stop).2.gang1 = s.gang1 ∧ (s.giveCredit slice stop).2.med = s.med ∧ (s.giveCredit slice stop).2.roms = s.roms ∧ (s.giveCredit slice stop).2.xlt = s.xlt ∧ (s.giveCredit slice stop).2.prot = s.prot ∧ (s.giveCredit slice stop).2.dram = s.dram ∧ (s.giveCredit slice stop).2.drift = s.drift ∧ (s.giveCredit slice stop).2.zl0 = s.zl0 ∧ (s.giveCredit slice stop).2.zl1 = s.zl1 ∧ (s.giveCredit slice stop).2.strm = s.strm ∧ (s.giveCredit slice stop).2.mbox = s.mbox ∧ (s.giveCredit slice stop).2.srm = s.srm ∧ (s.giveCredit slice stop).2.dbg = s.dbg ∧ (s.giveCredit slice stop).2.i3c = s.i3c := by
  have f1 := @State.onRing_frame
  simp [State.giveCredit, f1]
theorem State.sendCredit_frame (s : State) (slice : Nat) (stop : Nat) (t : Nat) (l : RLine) : (s.sendCredit slice stop t l).pending = s.pending ∧ (s.sendCredit slice stop t l).variant = s.variant ∧ (s.sendCredit slice stop t l).applied = s.applied ∧ (s.sendCredit slice stop t l).latches = s.latches ∧ (s.sendCredit slice stop t l).commits = s.commits ∧ (s.sendCredit slice stop t l).pwr = s.pwr ∧ (s.sendCredit slice stop t l).hk = s.hk ∧ (s.sendCredit slice stop t l).clk = s.clk ∧ (s.sendCredit slice stop t l).bw = s.bw ∧ (s.sendCredit slice stop t l).gang0 = s.gang0 ∧ (s.sendCredit slice stop t l).gang1 = s.gang1 ∧ (s.sendCredit slice stop t l).med = s.med ∧ (s.sendCredit slice stop t l).roms = s.roms ∧ (s.sendCredit slice stop t l).xlt = s.xlt ∧ (s.sendCredit slice stop t l).prot = s.prot ∧ (s.sendCredit slice stop t l).dram = s.dram ∧ (s.sendCredit slice stop t l).drift = s.drift ∧ (s.sendCredit slice stop t l).zl0 = s.zl0 ∧ (s.sendCredit slice stop t l).zl1 = s.zl1 ∧ (s.sendCredit slice stop t l).strm = s.strm ∧ (s.sendCredit slice stop t l).mbox = s.mbox ∧ (s.sendCredit slice stop t l).srm = s.srm ∧ (s.sendCredit slice stop t l).dbg = s.dbg ∧ (s.sendCredit slice stop t l).i3c = s.i3c := by
  have f1 := @State.giveCredit_frame; have f2 := @State.sendAt_frame
  simp [State.sendCredit, f1, f2]
theorem State.freeCredit_frame (s : State) (slice : Nat) (stop : Nat) (t : Nat) : (s.freeCredit slice stop t).pending = s.pending ∧ (s.freeCredit slice stop t).variant = s.variant ∧ (s.freeCredit slice stop t).applied = s.applied ∧ (s.freeCredit slice stop t).latches = s.latches ∧ (s.freeCredit slice stop t).commits = s.commits ∧ (s.freeCredit slice stop t).pwr = s.pwr ∧ (s.freeCredit slice stop t).hk = s.hk ∧ (s.freeCredit slice stop t).clk = s.clk ∧ (s.freeCredit slice stop t).bw = s.bw ∧ (s.freeCredit slice stop t).gang0 = s.gang0 ∧ (s.freeCredit slice stop t).gang1 = s.gang1 ∧ (s.freeCredit slice stop t).med = s.med ∧ (s.freeCredit slice stop t).roms = s.roms ∧ (s.freeCredit slice stop t).xlt = s.xlt ∧ (s.freeCredit slice stop t).prot = s.prot ∧ (s.freeCredit slice stop t).dram = s.dram ∧ (s.freeCredit slice stop t).drift = s.drift ∧ (s.freeCredit slice stop t).zl0 = s.zl0 ∧ (s.freeCredit slice stop t).zl1 = s.zl1 ∧ (s.freeCredit slice stop t).strm = s.strm ∧ (s.freeCredit slice stop t).mbox = s.mbox ∧ (s.freeCredit slice stop t).srm = s.srm ∧ (s.freeCredit slice stop t).dbg = s.dbg ∧ (s.freeCredit slice stop t).i3c = s.i3c := by
  have f1 := @State.onCred_frame; have f2 := @State.sendCredit_frame
  dsimp only [State.freeCredit]; (repeat' split) <;> simp [f1, f2]
theorem State.finish_frame (s : State) (c : Nat) (t : RTx) : (s.finish c t).pending = s.pending ∧ (s.finish c t).variant = s.variant ∧ (s.finish c t).applied = s.applied ∧ (s.finish c t).latches = s.latches ∧ (s.finish c t).commits = s.commits ∧ (s.finish c t).pwr = s.pwr ∧ (s.finish c t).hk = s.hk ∧ (s.finish c t).clk = s.clk ∧ (s.finish c t).bw = s.bw ∧ (s.finish c t).gang0 = s.gang0 ∧ (s.finish c t).gang1 = s.gang1 ∧ (s.finish c t).med = s.med ∧ (s.finish c t).roms = s.roms ∧ (s.finish c t).xlt = s.xlt ∧ (s.finish c t).prot = s.prot ∧ (s.finish c t).dram = s.dram ∧ (s.finish c t).drift = s.drift ∧ (s.finish c t).zl0 = s.zl0 ∧ (s.finish c t).zl1 = s.zl1 ∧ (s.finish c t).strm = s.strm ∧ (s.finish c t).mbox = s.mbox ∧ (s.finish c t).srm = s.srm ∧ (s.finish c t).dbg = s.dbg ∧ (s.finish c t).i3c = s.i3c := by
  have f1 := @State.freeCredit_frame; have f2 := @State.onRing_frame; have f3 := @State.serveLine_frame; have f4 := @State.txResult_frame
  simp [State.finish, f1, f2, f3, f4]
theorem State.runReq_frame (s : State) (q : RReq) (credited : Bool) : (s.runReq q credited).pending = s.pending ∧ (s.runReq q credited).variant = s.variant ∧ (s.runReq q credited).applied = s.applied ∧ (s.runReq q credited).latches = s.latches ∧ (s.runReq q credited).commits = s.commits ∧ (s.runReq q credited).pwr = s.pwr ∧ (s.runReq q credited).hk = s.hk ∧ (s.runReq q credited).clk = s.clk ∧ (s.runReq q credited).bw = s.bw ∧ (s.runReq q credited).gang0 = s.gang0 ∧ (s.runReq q credited).gang1 = s.gang1 ∧ (s.runReq q credited).med = s.med ∧ (s.runReq q credited).roms = s.roms ∧ (s.runReq q credited).xlt = s.xlt ∧ (s.runReq q credited).prot = s.prot ∧ (s.runReq q credited).dram = s.dram ∧ (s.runReq q credited).drift = s.drift ∧ (s.runReq q credited).zl0 = s.zl0 ∧ (s.runReq q credited).zl1 = s.zl1 ∧ (s.runReq q credited).strm = s.strm ∧ (s.runReq q credited).mbox = s.mbox ∧ (s.runReq q credited).srm = s.srm ∧ (s.runReq q credited).dbg = s.dbg ∧ (s.runReq q credited).i3c = s.i3c := by
  have f1 := @State.finish_frame; have f2 := @State.startTx_frame
  dsimp only [State.runReq]; (repeat' split) <;> simp [f1, f2]
theorem State.sendRetry_frame (s : State) (stop : Nat) (l : RLine) : (s.sendRetry stop l).pending = s.pending ∧ (s.sendRetry stop l).variant = s.variant ∧ (s.sendRetry stop l).applied = s.applied ∧ (s.sendRetry stop l).latches = s.latches ∧ (s.sendRetry stop l).commits = s.commits ∧ (s.sendRetry stop l).pwr = s.pwr ∧ (s.sendRetry stop l).hk = s.hk ∧ (s.sendRetry stop l).clk = s.clk ∧ (s.sendRetry stop l).bw = s.bw ∧ (s.sendRetry stop l).gang0 = s.gang0 ∧ (s.sendRetry stop l).gang1 = s.gang1 ∧ (s.sendRetry stop l).med = s.med ∧ (s.sendRetry stop l).roms = s.roms ∧ (s.sendRetry stop l).xlt = s.xlt ∧ (s.sendRetry stop l).prot = s.prot ∧ (s.sendRetry stop l).dram = s.dram ∧ (s.sendRetry stop l).drift = s.drift ∧ (s.sendRetry stop l).zl0 = s.zl0 ∧ (s.sendRetry stop l).zl1 = s.zl1 ∧ (s.sendRetry stop l).strm = s.strm ∧ (s.sendRetry stop l).mbox = s.mbox ∧ (s.sendRetry stop l).srm = s.srm ∧ (s.sendRetry stop l).dbg = s.dbg ∧ (s.sendRetry stop l).i3c = s.i3c := by
  have f1 := @State.bump_frame; have f2 := @State.ev_frame; have f3 := @State.giveCredit_frame; have f4 := @State.onReq_frame; have f5 := @State.sendCredit_frame; have f6 := @State.send_frame
  dsimp only [State.sendRetry]; (repeat' split) <;> simp [f1, f2, f3, f4, f5, f6]
theorem State.decideReq_frame (s : State) (q : RReq) : (s.decideReq q).pending = s.pending ∧ (s.decideReq q).variant = s.variant ∧ (s.decideReq q).applied = s.applied ∧ (s.decideReq q).latches = s.latches ∧ (s.decideReq q).commits = s.commits ∧ (s.decideReq q).pwr = s.pwr ∧ (s.decideReq q).hk = s.hk ∧ (s.decideReq q).clk = s.clk ∧ (s.decideReq q).bw = s.bw ∧ (s.decideReq q).gang0 = s.gang0 ∧ (s.decideReq q).gang1 = s.gang1 ∧ (s.decideReq q).med = s.med ∧ (s.decideReq q).roms = s.roms ∧ (s.decideReq q).xlt = s.xlt ∧ (s.decideReq q).prot = s.prot ∧ (s.decideReq q).dram = s.dram ∧ (s.decideReq q).drift = s.drift ∧ (s.decideReq q).zl0 = s.zl0 ∧ (s.decideReq q).zl1 = s.zl1 ∧ (s.decideReq q).strm = s.strm ∧ (s.decideReq q).mbox = s.mbox ∧ (s.decideReq q).srm = s.srm ∧ (s.decideReq q).dbg = s.dbg ∧ (s.decideReq q).i3c = s.i3c := by
  have f1 := @State.onCred_frame; have f2 := @State.onReq_frame; have f3 := @State.onRing_frame; have f4 := @State.runReq_frame; have f5 := @State.sendRetry_frame; have f6 := @State.serveLine_frame
  simp [State.decideReq, f1, f2, f3, f4, f5, f6]
theorem State.arriveReq_frame (s : State) (q : RReq) : (s.arriveReq q).pending = s.pending ∧ (s.arriveReq q).variant = s.variant ∧ (s.arriveReq q).applied = s.applied ∧ (s.arriveReq q).latches = s.latches ∧ (s.arriveReq q).commits = s.commits ∧ (s.arriveReq q).pwr = s.pwr ∧ (s.arriveReq q).hk = s.hk ∧ (s.arriveReq q).clk = s.clk ∧ (s.arriveReq q).bw = s.bw ∧ (s.arriveReq q).gang0 = s.gang0 ∧ (s.arriveReq q).gang1 = s.gang1 ∧ (s.arriveReq q).med = s.med ∧ (s.arriveReq q).roms = s.roms ∧ (s.arriveReq q).xlt = s.xlt ∧ (s.arriveReq q).prot = s.prot ∧ (s.arriveReq q).dram = s.dram ∧ (s.arriveReq q).drift = s.drift ∧ (s.arriveReq q).zl0 = s.zl0 ∧ (s.arriveReq q).zl1 = s.zl1 ∧ (s.arriveReq q).strm = s.strm ∧ (s.arriveReq q).mbox = s.mbox ∧ (s.arriveReq q).srm = s.srm ∧ (s.arriveReq q).dbg = s.dbg ∧ (s.arriveReq q).i3c = s.i3c := by
  have f1 := @State.decideReq_frame; have f2 := @State.onRing_frame
  simp [State.arriveReq, f1, f2]
theorem State.maintTx_frame (s : State) (t : Nat) (x : RTx) : (s.maintTx t x).pending = s.pending ∧ (s.maintTx t x).variant = s.variant ∧ (s.maintTx t x).latches = s.latches ∧ (s.maintTx t x).clk = s.clk ∧ (s.maintTx t x).med = s.med ∧ (s.maintTx t x).roms = s.roms ∧ (s.maintTx t x).i3c = s.i3c := by
  have f1 := @State.onRing_frame; have f2 := @State.startTx_frame
  simp [State.maintTx, f1, f2]
theorem State.maintCtrl_frame (s : State) (src : Source) (w : Nat) : (s.maintCtrl src w).pending = s.pending ∧ (s.maintCtrl src w).variant = s.variant ∧ (s.maintCtrl src w).latches = s.latches ∧ (s.maintCtrl src w).clk = s.clk ∧ (s.maintCtrl src w).med = s.med ∧ (s.maintCtrl src w).roms = s.roms ∧ (s.maintCtrl src w).i3c = s.i3c := by
  have f1 := @State.maintStart_frame; have f2 := @State.maintTx_frame
  dsimp only [State.maintCtrl]; (repeat' split) <;> simp [f1, f2]
theorem State.cacheLost_frame (s : State) (stop : Nat) : (s.cacheLost stop).pending = s.pending ∧ (s.cacheLost stop).variant = s.variant ∧ (s.cacheLost stop).applied = s.applied ∧ (s.cacheLost stop).latches = s.latches ∧ (s.cacheLost stop).commits = s.commits ∧ (s.cacheLost stop).pwr = s.pwr ∧ (s.cacheLost stop).hk = s.hk ∧ (s.cacheLost stop).clk = s.clk ∧ (s.cacheLost stop).bw = s.bw ∧ (s.cacheLost stop).gang0 = s.gang0 ∧ (s.cacheLost stop).gang1 = s.gang1 ∧ (s.cacheLost stop).med = s.med ∧ (s.cacheLost stop).roms = s.roms ∧ (s.cacheLost stop).xlt = s.xlt ∧ (s.cacheLost stop).prot = s.prot ∧ (s.cacheLost stop).dram = s.dram ∧ (s.cacheLost stop).drift = s.drift ∧ (s.cacheLost stop).zl0 = s.zl0 ∧ (s.cacheLost stop).zl1 = s.zl1 ∧ (s.cacheLost stop).strm = s.strm ∧ (s.cacheLost stop).mbox = s.mbox ∧ (s.cacheLost stop).srm = s.srm ∧ (s.cacheLost stop).dbg = s.dbg ∧ (s.cacheLost stop).i3c = s.i3c := by
  have f1 := @State.dropCore_frame; have f2 := @State.onCaches_frame
  dsimp only [State.cacheLost]; (repeat' split) <;> simp [f1, f2]
theorem State.putLine_frame (s : State) (c : Nat) (l : RLine) (x : Option CLine) : (s.putLine c l x).pending = s.pending ∧ (s.putLine c l x).variant = s.variant ∧ (s.putLine c l x).applied = s.applied ∧ (s.putLine c l x).latches = s.latches ∧ (s.putLine c l x).commits = s.commits ∧ (s.putLine c l x).pwr = s.pwr ∧ (s.putLine c l x).hk = s.hk ∧ (s.putLine c l x).clk = s.clk ∧ (s.putLine c l x).bw = s.bw ∧ (s.putLine c l x).gang0 = s.gang0 ∧ (s.putLine c l x).gang1 = s.gang1 ∧ (s.putLine c l x).med = s.med ∧ (s.putLine c l x).roms = s.roms ∧ (s.putLine c l x).xlt = s.xlt ∧ (s.putLine c l x).prot = s.prot ∧ (s.putLine c l x).dram = s.dram ∧ (s.putLine c l x).drift = s.drift ∧ (s.putLine c l x).zl0 = s.zl0 ∧ (s.putLine c l x).zl1 = s.zl1 ∧ (s.putLine c l x).strm = s.strm ∧ (s.putLine c l x).mbox = s.mbox ∧ (s.putLine c l x).srm = s.srm ∧ (s.putLine c l x).dbg = s.dbg ∧ (s.putLine c l x).i3c = s.i3c := by
  have f1 := @State.setCset_frame
  dsimp only [State.putLine]; (repeat' split) <;> simp [f1]
theorem State.startWb_frame (s : State) (stop : Nat) (l : RLine) (d : Line) (poison : Bool) : (s.startWb stop l d poison).pending = s.pending ∧ (s.startWb stop l d poison).variant = s.variant ∧ (s.startWb stop l d poison).applied = s.applied ∧ (s.startWb stop l d poison).latches = s.latches ∧ (s.startWb stop l d poison).commits = s.commits ∧ (s.startWb stop l d poison).pwr = s.pwr ∧ (s.startWb stop l d poison).hk = s.hk ∧ (s.startWb stop l d poison).clk = s.clk ∧ (s.startWb stop l d poison).bw = s.bw ∧ (s.startWb stop l d poison).gang0 = s.gang0 ∧ (s.startWb stop l d poison).gang1 = s.gang1 ∧ (s.startWb stop l d poison).med = s.med ∧ (s.startWb stop l d poison).roms = s.roms ∧ (s.startWb stop l d poison).xlt = s.xlt ∧ (s.startWb stop l d poison).prot = s.prot ∧ (s.startWb stop l d poison).dram = s.dram ∧ (s.startWb stop l d poison).drift = s.drift ∧ (s.startWb stop l d poison).zl0 = s.zl0 ∧ (s.startWb stop l d poison).zl1 = s.zl1 ∧ (s.startWb stop l d poison).strm = s.strm ∧ (s.startWb stop l d poison).mbox = s.mbox ∧ (s.startWb stop l d poison).srm = s.srm ∧ (s.startWb stop l d poison).dbg = s.dbg ∧ (s.startWb stop l d poison).i3c = s.i3c := by
  have f1 := @State.onRing_frame; have f2 := @State.sendAt_frame; have f3 := @State.send_frame
  simp [State.startWb, f1, f2, f3]
theorem State.coreFill_frame (s : State) (stop : Nat) (l : RLine) (d : Line) (dirty : Bool) (poison : Bool) : (s.coreFill stop l d dirty poison).pending = s.pending ∧ (s.coreFill stop l d dirty poison).variant = s.variant ∧ (s.coreFill stop l d dirty poison).applied = s.applied ∧ (s.coreFill stop l d dirty poison).latches = s.latches ∧ (s.coreFill stop l d dirty poison).commits = s.commits ∧ (s.coreFill stop l d dirty poison).pwr = s.pwr ∧ (s.coreFill stop l d dirty poison).hk = s.hk ∧ (s.coreFill stop l d dirty poison).clk = s.clk ∧ (s.coreFill stop l d dirty poison).bw = s.bw ∧ (s.coreFill stop l d dirty poison).gang0 = s.gang0 ∧ (s.coreFill stop l d dirty poison).gang1 = s.gang1 ∧ (s.coreFill stop l d dirty poison).med = s.med ∧ (s.coreFill stop l d dirty poison).roms = s.roms ∧ (s.coreFill stop l d dirty poison).xlt = s.xlt ∧ (s.coreFill stop l d dirty poison).prot = s.prot ∧ (s.coreFill stop l d dirty poison).dram = s.dram ∧ (s.coreFill stop l d dirty poison).drift = s.drift ∧ (s.coreFill stop l d dirty poison).zl0 = s.zl0 ∧ (s.coreFill stop l d dirty poison).zl1 = s.zl1 ∧ (s.coreFill stop l d dirty poison).strm = s.strm ∧ (s.coreFill stop l d dirty poison).mbox = s.mbox ∧ (s.coreFill stop l d dirty poison).srm = s.srm ∧ (s.coreFill stop l d dirty poison).dbg = s.dbg ∧ (s.coreFill stop l d dirty poison).i3c = s.i3c := by
  have f1 := @State.meet_frame; have f2 := @State.putLine_frame; have f3 := @State.putWay_frame; have f4 := @State.startWb_frame
  dsimp only [State.coreFill]; (repeat' split) <;> simp [f1, f2, f3, f4]
theorem State.tryComplete_frame (s : State) (id : Nat) : (s.tryComplete id).pending = s.pending ∧ (s.tryComplete id).variant = s.variant ∧ (s.tryComplete id).applied = s.applied ∧ (s.tryComplete id).latches = s.latches ∧ (s.tryComplete id).commits = s.commits ∧ (s.tryComplete id).pwr = s.pwr ∧ (s.tryComplete id).hk = s.hk ∧ (s.tryComplete id).clk = s.clk ∧ (s.tryComplete id).bw = s.bw ∧ (s.tryComplete id).gang0 = s.gang0 ∧ (s.tryComplete id).gang1 = s.gang1 ∧ (s.tryComplete id).med = s.med ∧ (s.tryComplete id).roms = s.roms ∧ (s.tryComplete id).xlt = s.xlt ∧ (s.tryComplete id).prot = s.prot ∧ (s.tryComplete id).dram = s.dram ∧ (s.tryComplete id).drift = s.drift ∧ (s.tryComplete id).zl0 = s.zl0 ∧ (s.tryComplete id).zl1 = s.zl1 ∧ (s.tryComplete id).strm = s.strm ∧ (s.tryComplete id).mbox = s.mbox ∧ (s.tryComplete id).srm = s.srm ∧ (s.tryComplete id).dbg = s.dbg ∧ (s.tryComplete id).i3c = s.i3c := by
  have f1 := @State.finish_frame; have f2 := @State.onRing_frame
  dsimp only [State.tryComplete]; (repeat' split) <;> simp [f1, f2]
theorem State.onTx_frame (s : State) (id : Nat) (f : RTx → RTx) : (s.onTx id f).pending = s.pending ∧ (s.onTx id f).variant = s.variant ∧ (s.onTx id f).applied = s.applied ∧ (s.onTx id f).latches = s.latches ∧ (s.onTx id f).commits = s.commits ∧ (s.onTx id f).pwr = s.pwr ∧ (s.onTx id f).hk = s.hk ∧ (s.onTx id f).clk = s.clk ∧ (s.onTx id f).bw = s.bw ∧ (s.onTx id f).gang0 = s.gang0 ∧ (s.onTx id f).gang1 = s.gang1 ∧ (s.onTx id f).med = s.med ∧ (s.onTx id f).roms = s.roms ∧ (s.onTx id f).xlt = s.xlt ∧ (s.onTx id f).prot = s.prot ∧ (s.onTx id f).dram = s.dram ∧ (s.onTx id f).drift = s.drift ∧ (s.onTx id f).zl0 = s.zl0 ∧ (s.onTx id f).zl1 = s.zl1 ∧ (s.onTx id f).strm = s.strm ∧ (s.onTx id f).mbox = s.mbox ∧ (s.onTx id f).srm = s.srm ∧ (s.onTx id f).dbg = s.dbg ∧ (s.onTx id f).i3c = s.i3c := by
  have f1 := @State.onRing_frame
  simp [State.onTx, f1]
theorem State.wbSettled_frame (s : State) (stop : Nat) (l : RLine) : (s.wbSettled stop l).pending = s.pending ∧ (s.wbSettled stop l).variant = s.variant ∧ (s.wbSettled stop l).applied = s.applied ∧ (s.wbSettled stop l).latches = s.latches ∧ (s.wbSettled stop l).commits = s.commits ∧ (s.wbSettled stop l).pwr = s.pwr ∧ (s.wbSettled stop l).hk = s.hk ∧ (s.wbSettled stop l).clk = s.clk ∧ (s.wbSettled stop l).bw = s.bw ∧ (s.wbSettled stop l).gang0 = s.gang0 ∧ (s.wbSettled stop l).gang1 = s.gang1 ∧ (s.wbSettled stop l).med = s.med ∧ (s.wbSettled stop l).roms = s.roms ∧ (s.wbSettled stop l).xlt = s.xlt ∧ (s.wbSettled stop l).prot = s.prot ∧ (s.wbSettled stop l).dram = s.dram ∧ (s.wbSettled stop l).drift = s.drift ∧ (s.wbSettled stop l).zl0 = s.zl0 ∧ (s.wbSettled stop l).zl1 = s.zl1 ∧ (s.wbSettled stop l).strm = s.strm ∧ (s.wbSettled stop l).mbox = s.mbox ∧ (s.wbSettled stop l).srm = s.srm ∧ (s.wbSettled stop l).dbg = s.dbg ∧ (s.wbSettled stop l).i3c = s.i3c := by
  have f1 := @State.onTx_frame; have f2 := @State.serveLine_frame; have f3 := @State.tryComplete_frame
  simp [State.wbSettled, f1, f2, f3]
theorem State.fence_frame (s : State) (stop : Nat) : (s.fence stop).pending = s.pending ∧ (s.fence stop).variant = s.variant ∧ (s.fence stop).applied = s.applied ∧ (s.fence stop).latches = s.latches ∧ (s.fence stop).commits = s.commits ∧ (s.fence stop).pwr = s.pwr ∧ (s.fence stop).hk = s.hk ∧ (s.fence stop).clk = s.clk ∧ (s.fence stop).bw = s.bw ∧ (s.fence stop).gang0 = s.gang0 ∧ (s.fence stop).gang1 = s.gang1 ∧ (s.fence stop).med = s.med ∧ (s.fence stop).roms = s.roms ∧ (s.fence stop).xlt = s.xlt ∧ (s.fence stop).prot = s.prot ∧ (s.fence stop).dram = s.dram ∧ (s.fence stop).drift = s.drift ∧ (s.fence stop).zl0 = s.zl0 ∧ (s.fence stop).zl1 = s.zl1 ∧ (s.fence stop).strm = s.strm ∧ (s.fence stop).mbox = s.mbox ∧ (s.fence stop).srm = s.srm ∧ (s.fence stop).dbg = s.dbg ∧ (s.fence stop).i3c = s.i3c := by
  have f1 := @State.onRing_frame; have f2 := @State.wbSettled_frame
  simp [State.fence, f1, f2]
theorem State.declareDead_frame (s : State) (stop : Nat) (l : RLine) (cause : Nat) : (s.declareDead stop l cause).pending = s.pending ∧ (s.declareDead stop l cause).variant = s.variant ∧ (s.declareDead stop l cause).applied = s.applied ∧ (s.declareDead stop l cause).latches = s.latches ∧ (s.declareDead stop l cause).commits = s.commits ∧ (s.declareDead stop l cause).pwr = s.pwr ∧ (s.declareDead stop l cause).hk = s.hk ∧ (s.declareDead stop l cause).clk = s.clk ∧ (s.declareDead stop l cause).bw = s.bw ∧ (s.declareDead stop l cause).gang0 = s.gang0 ∧ (s.declareDead stop l cause).gang1 = s.gang1 ∧ (s.declareDead stop l cause).med = s.med ∧ (s.declareDead stop l cause).roms = s.roms ∧ (s.declareDead stop l cause).xlt = s.xlt ∧ (s.declareDead stop l cause).prot = s.prot ∧ (s.declareDead stop l cause).dram = s.dram ∧ (s.declareDead stop l cause).drift = s.drift ∧ (s.declareDead stop l cause).zl0 = s.zl0 ∧ (s.declareDead stop l cause).zl1 = s.zl1 ∧ (s.declareDead stop l cause).strm = s.strm ∧ (s.declareDead stop l cause).mbox = s.mbox ∧ (s.declareDead stop l cause).srm = s.srm ∧ (s.declareDead stop l cause).dbg = s.dbg ∧ (s.declareDead stop l cause).i3c = s.i3c := by
  have f1 := @State.cacheLost_frame; have f2 := @State.fence_frame; have f3 := @State.raiseRec_frame; have f4 := @State.reduce_frame; have f5 := @State.setFld_frame; have f6 := @State.setReg_frame
  simp [State.declareDead, f1, f2, f3, f4, f5, f6]
theorem State.endReq_frame (s : State) (stop : Nat) (l : RLine) : (s.endReq stop l).pending = s.pending ∧ (s.endReq stop l).variant = s.variant ∧ (s.endReq stop l).applied = s.applied ∧ (s.endReq stop l).latches = s.latches ∧ (s.endReq stop l).commits = s.commits ∧ (s.endReq stop l).pwr = s.pwr ∧ (s.endReq stop l).hk = s.hk ∧ (s.endReq stop l).clk = s.clk ∧ (s.endReq stop l).bw = s.bw ∧ (s.endReq stop l).gang0 = s.gang0 ∧ (s.endReq stop l).gang1 = s.gang1 ∧ (s.endReq stop l).med = s.med ∧ (s.endReq stop l).roms = s.roms ∧ (s.endReq stop l).xlt = s.xlt ∧ (s.endReq stop l).prot = s.prot ∧ (s.endReq stop l).dram = s.dram ∧ (s.endReq stop l).drift = s.drift ∧ (s.endReq stop l).zl0 = s.zl0 ∧ (s.endReq stop l).zl1 = s.zl1 ∧ (s.endReq stop l).strm = s.strm ∧ (s.endReq stop l).mbox = s.mbox ∧ (s.endReq stop l).srm = s.srm ∧ (s.endReq stop l).dbg = s.dbg ∧ (s.endReq stop l).i3c = s.i3c := by
  have f1 := @State.onRing_frame
  simp [State.endReq, f1]
theorem State.homeFill_frame (s : State) (m : RMsg) (target : Nat) (d : Line) : (s.homeFill m target d).pending = s.pending ∧ (s.homeFill m target d).variant = s.variant ∧ (s.homeFill m target d).applied = s.applied ∧ (s.homeFill m target d).latches = s.latches ∧ (s.homeFill m target d).commits = s.commits ∧ (s.homeFill m target d).pwr = s.pwr ∧ (s.homeFill m target d).hk = s.hk ∧ (s.homeFill m target d).clk = s.clk ∧ (s.homeFill m target d).bw = s.bw ∧ (s.homeFill m target d).gang0 = s.gang0 ∧ (s.homeFill m target d).gang1 = s.gang1 ∧ (s.homeFill m target d).med = s.med ∧ (s.homeFill m target d).roms = s.roms ∧ (s.homeFill m target d).xlt = s.xlt ∧ (s.homeFill m target d).prot = s.prot ∧ (s.homeFill m target d).dram = s.dram ∧ (s.homeFill m target d).drift = s.drift ∧ (s.homeFill m target d).zl0 = s.zl0 ∧ (s.homeFill m target d).zl1 = s.zl1 ∧ (s.homeFill m target d).strm = s.strm ∧ (s.homeFill m target d).mbox = s.mbox ∧ (s.homeFill m target d).srm = s.srm ∧ (s.homeFill m target d).dbg = s.dbg ∧ (s.homeFill m target d).i3c = s.i3c := by
  have f1 := @State.homeWrite_frame; have f2 := @State.stashOut_frame; have f3 := @State.taken_frame
  simp [State.homeFill, f1, f2, f3]
theorem State.ownerActs_frame (s : State) (t : RTx) (stop : Nat) (c : Nat) (code : Nat) (x : CLine) : (s.ownerActs t stop c code x).pending = s.pending ∧ (s.ownerActs t stop c code x).variant = s.variant ∧ (s.ownerActs t stop c code x).applied = s.applied ∧ (s.ownerActs t stop c code x).latches = s.latches ∧ (s.ownerActs t stop c code x).commits = s.commits ∧ (s.ownerActs t stop c code x).pwr = s.pwr ∧ (s.ownerActs t stop c code x).hk = s.hk ∧ (s.ownerActs t stop c code x).clk = s.clk ∧ (s.ownerActs t stop c code x).bw = s.bw ∧ (s.ownerActs t stop c code x).gang0 = s.gang0 ∧ (s.ownerActs t stop c code x).gang1 = s.gang1 ∧ (s.ownerActs t stop c code x).med = s.med ∧ (s.ownerActs t stop c code x).roms = s.roms ∧ (s.ownerActs t stop c code x).xlt = s.xlt ∧ (s.ownerActs t stop c code x).prot = s.prot ∧ (s.ownerActs t stop c code x).dram = s.dram ∧ (s.ownerActs t stop c code x).drift = s.drift ∧ (s.ownerActs t stop c code x).zl0 = s.zl0 ∧ (s.ownerActs t stop c code x).zl1 = s.zl1 ∧ (s.ownerActs t stop c code x).strm = s.strm ∧ (s.ownerActs t stop c code x).mbox = s.mbox ∧ (s.ownerActs t stop c code x).srm = s.srm ∧ (s.ownerActs t stop c code x).dbg = s.dbg ∧ (s.ownerActs t stop c code x).i3c = s.i3c := by
  have f1 := @State.putLine_frame; have f2 := @State.send_frame
  simp [State.ownerActs, f1, f2]
theorem State.poisonLine_frame (s : State) (l : RLine) : (s.poisonLine l).pending = s.pending ∧ (s.poisonLine l).variant = s.variant ∧ (s.poisonLine l).applied = s.applied ∧ (s.poisonLine l).latches = s.latches ∧ (s.poisonLine l).commits = s.commits ∧ (s.poisonLine l).pwr = s.pwr ∧ (s.poisonLine l).hk = s.hk ∧ (s.poisonLine l).clk = s.clk ∧ (s.poisonLine l).bw = s.bw ∧ (s.poisonLine l).gang0 = s.gang0 ∧ (s.poisonLine l).gang1 = s.gang1 ∧ (s.poisonLine l).med = s.med ∧ (s.poisonLine l).roms = s.roms ∧ (s.poisonLine l).xlt = s.xlt ∧ (s.poisonLine l).prot = s.prot ∧ (s.poisonLine l).dram = s.dram ∧ (s.poisonLine l).drift = s.drift ∧ (s.poisonLine l).zl0 = s.zl0 ∧ (s.poisonLine l).zl1 = s.zl1 ∧ (s.poisonLine l).strm = s.strm ∧ (s.poisonLine l).mbox = s.mbox ∧ (s.poisonLine l).srm = s.srm ∧ (s.poisonLine l).dbg = s.dbg ∧ (s.poisonLine l).i3c = s.i3c := by
  have f1 := @State.bump_frame; have f2 := @State.homeWrite_frame; have f3 := @State.raise_frame; have f4 := @State.setReg_frame
  simp [State.poisonLine, f1, f2, f3, f4]
theorem State.reissue_frame (s : State) (stop : Nat) (l : RLine) : (s.reissue stop l).pending = s.pending ∧ (s.reissue stop l).variant = s.variant ∧ (s.reissue stop l).applied = s.applied ∧ (s.reissue stop l).latches = s.latches ∧ (s.reissue stop l).commits = s.commits ∧ (s.reissue stop l).pwr = s.pwr ∧ (s.reissue stop l).hk = s.hk ∧ (s.reissue stop l).clk = s.clk ∧ (s.reissue stop l).bw = s.bw ∧ (s.reissue stop l).gang0 = s.gang0 ∧ (s.reissue stop l).gang1 = s.gang1 ∧ (s.reissue stop l).med = s.med ∧ (s.reissue stop l).roms = s.roms ∧ (s.reissue stop l).xlt = s.xlt ∧ (s.reissue stop l).prot = s.prot ∧ (s.reissue stop l).dram = s.dram ∧ (s.reissue stop l).drift = s.drift ∧ (s.reissue stop l).zl0 = s.zl0 ∧ (s.reissue stop l).zl1 = s.zl1 ∧ (s.reissue stop l).strm = s.strm ∧ (s.reissue stop l).mbox = s.mbox ∧ (s.reissue stop l).srm = s.srm ∧ (s.reissue stop l).dbg = s.dbg ∧ (s.reissue stop l).i3c = s.i3c := by
  have f1 := @State.onReq_frame; have f2 := @State.send_frame
  simp [State.reissue, f1, f2]
theorem State.stopActs_frame (s0 : State) (t : RTx) (stop : Nat) (code : Nat) (owes : Bool) : (s0.stopActs t stop code owes).pending = s0.pending ∧ (s0.stopActs t stop code owes).variant = s0.variant ∧ (s0.stopActs t stop code owes).applied = s0.applied ∧ (s0.stopActs t stop code owes).latches = s0.latches ∧ (s0.stopActs t stop code owes).commits = s0.commits ∧ (s0.stopActs t stop code owes).pwr = s0.pwr ∧ (s0.stopActs t stop code owes).hk = s0.hk ∧ (s0.stopActs t stop code owes).clk = s0.clk ∧ (s0.stopActs t stop code owes).bw = s0.bw ∧ (s0.stopActs t stop code owes).gang0 = s0.gang0 ∧ (s0.stopActs t stop code owes).gang1 = s0.gang1 ∧ (s0.stopActs t stop code owes).med = s0.med ∧ (s0.stopActs t stop code owes).roms = s0.roms ∧ (s0.stopActs t stop code owes).xlt = s0.xlt ∧ (s0.stopActs t stop code owes).prot = s0.prot ∧ (s0.stopActs t stop code owes).dram = s0.dram ∧ (s0.stopActs t stop code owes).drift = s0.drift ∧ (s0.stopActs t stop code owes).zl0 = s0.zl0 ∧ (s0.stopActs t stop code owes).zl1 = s0.zl1 ∧ (s0.stopActs t stop code owes).strm = s0.strm ∧ (s0.stopActs t stop code owes).mbox = s0.mbox ∧ (s0.stopActs t stop code owes).srm = s0.srm ∧ (s0.stopActs t stop code owes).dbg = s0.dbg ∧ (s0.stopActs t stop code owes).i3c = s0.i3c := by
  have f1 := @State.lookIn_frame; have f2 := @State.onTx_frame; have f3 := @State.ownerActs_frame; have f4 := @State.putLine_frame; have f5 := @State.send_frame
  dsimp only [State.stopActs]; (repeat' split) <;> simp [f1, f2, f3, f4, f5]
theorem State.reqDone_frame (s : State) (q : RReq) : (s.reqDone q).pending = s.pending ∧ (s.reqDone q).variant = s.variant ∧ (s.reqDone q).applied = s.applied ∧ (s.reqDone q).latches = s.latches ∧ (s.reqDone q).commits = s.commits ∧ (s.reqDone q).pwr = s.pwr ∧ (s.reqDone q).hk = s.hk ∧ (s.reqDone q).clk = s.clk ∧ (s.reqDone q).bw = s.bw ∧ (s.reqDone q).gang0 = s.gang0 ∧ (s.reqDone q).gang1 = s.gang1 ∧ (s.reqDone q).med = s.med ∧ (s.reqDone q).roms = s.roms ∧ (s.reqDone q).xlt = s.xlt ∧ (s.reqDone q).prot = s.prot ∧ (s.reqDone q).dram = s.dram ∧ (s.reqDone q).drift = s.drift ∧ (s.reqDone q).zl0 = s.zl0 ∧ (s.reqDone q).zl1 = s.zl1 ∧ (s.reqDone q).strm = s.strm ∧ (s.reqDone q).mbox = s.mbox ∧ (s.reqDone q).srm = s.srm ∧ (s.reqDone q).dbg = s.dbg ∧ (s.reqDone q).i3c = s.i3c := by
  have f1 := @State.coreFill_frame; have f2 := @State.endReq_frame; have f3 := @State.fillHost_frame; have f4 := @State.moved_frame; have f5 := @State.stopActs_frame
  (try simp only [State.reqDone]); (repeat' split) <;> simp (disch := (intros; (repeat' split) <;> simp [f1, f2, f3, f4, f5])) [*, f1, f2, f3, f4, f5]
theorem State.reqCheck_frame (s : State) (stop : Nat) (l : RLine) : (s.reqCheck stop l).pending = s.pending ∧ (s.reqCheck stop l).variant = s.variant ∧ (s.reqCheck stop l).applied = s.applied ∧ (s.reqCheck stop l).latches = s.latches ∧ (s.reqCheck stop l).commits = s.commits ∧ (s.reqCheck stop l).pwr = s.pwr ∧ (s.reqCheck stop l).hk = s.hk ∧ (s.reqCheck stop l).clk = s.clk ∧ (s.reqCheck stop l).bw = s.bw ∧ (s.reqCheck stop l).gang0 = s.gang0 ∧ (s.reqCheck stop l).gang1 = s.gang1 ∧ (s.reqCheck stop l).med = s.med ∧ (s.reqCheck stop l).roms = s.roms ∧ (s.reqCheck stop l).xlt = s.xlt ∧ (s.reqCheck stop l).prot = s.prot ∧ (s.reqCheck stop l).dram = s.dram ∧ (s.reqCheck stop l).drift = s.drift ∧ (s.reqCheck stop l).zl0 = s.zl0 ∧ (s.reqCheck stop l).zl1 = s.zl1 ∧ (s.reqCheck stop l).strm = s.strm ∧ (s.reqCheck stop l).mbox = s.mbox ∧ (s.reqCheck stop l).srm = s.srm ∧ (s.reqCheck stop l).dbg = s.dbg ∧ (s.reqCheck stop l).i3c = s.i3c := by
  have f1 := @State.reqDone_frame
  dsimp only [State.reqCheck]; (repeat' split) <;> simp [f1]
theorem State.serveWaits_frame (s : State) : (s.serveWaits).pending = s.pending ∧ (s.serveWaits).variant = s.variant ∧ (s.serveWaits).applied = s.applied ∧ (s.serveWaits).latches = s.latches ∧ (s.serveWaits).commits = s.commits ∧ (s.serveWaits).pwr = s.pwr ∧ (s.serveWaits).hk = s.hk ∧ (s.serveWaits).clk = s.clk ∧ (s.serveWaits).bw = s.bw ∧ (s.serveWaits).gang0 = s.gang0 ∧ (s.serveWaits).gang1 = s.gang1 ∧ (s.serveWaits).med = s.med ∧ (s.serveWaits).roms = s.roms ∧ (s.serveWaits).xlt = s.xlt ∧ (s.serveWaits).prot = s.prot ∧ (s.serveWaits).dram = s.dram ∧ (s.serveWaits).drift = s.drift ∧ (s.serveWaits).zl0 = s.zl0 ∧ (s.serveWaits).zl1 = s.zl1 ∧ (s.serveWaits).strm = s.strm ∧ (s.serveWaits).mbox = s.mbox ∧ (s.serveWaits).srm = s.srm ∧ (s.serveWaits).dbg = s.dbg ∧ (s.serveWaits).i3c = s.i3c := by
  have f1 := @State.serveLine_frame
  simp [State.serveWaits, f1]
theorem State.snoopFills_frame (s : State) (stop : Nat) (l : RLine) : (s.snoopFills stop l).pending = s.pending ∧ (s.snoopFills stop l).variant = s.variant ∧ (s.snoopFills stop l).applied = s.applied ∧ (s.snoopFills stop l).latches = s.latches ∧ (s.snoopFills stop l).commits = s.commits ∧ (s.snoopFills stop l).pwr = s.pwr ∧ (s.snoopFills stop l).hk = s.hk ∧ (s.snoopFills stop l).clk = s.clk ∧ (s.snoopFills stop l).bw = s.bw ∧ (s.snoopFills stop l).gang0 = s.gang0 ∧ (s.snoopFills stop l).gang1 = s.gang1 ∧ (s.snoopFills stop l).med = s.med ∧ (s.snoopFills stop l).roms = s.roms ∧ (s.snoopFills stop l).xlt = s.xlt ∧ (s.snoopFills stop l).prot = s.prot ∧ (s.snoopFills stop l).dram = s.dram ∧ (s.snoopFills stop l).drift = s.drift ∧ (s.snoopFills stop l).zl0 = s.zl0 ∧ (s.snoopFills stop l).zl1 = s.zl1 ∧ (s.snoopFills stop l).strm = s.strm ∧ (s.snoopFills stop l).mbox = s.mbox ∧ (s.snoopFills stop l).srm = s.srm ∧ (s.snoopFills stop l).dbg = s.dbg ∧ (s.snoopFills stop l).i3c = s.i3c := by
  have f1 := @State.onReads_frame; have f2 := @State.onReq_frame; have f3 := @State.onRing_frame
  simp [State.snoopFills, f1, f2, f3]
theorem State.snoopPass_frame (s : State) (t : RTx) (stop : Nat) (code : Nat) (parity : Bool) : (s.snoopPass t stop code parity).pending = s.pending ∧ (s.snoopPass t stop code parity).variant = s.variant ∧ (s.snoopPass t stop code parity).applied = s.applied ∧ (s.snoopPass t stop code parity).latches = s.latches ∧ (s.snoopPass t stop code parity).commits = s.commits ∧ (s.snoopPass t stop code parity).pwr = s.pwr ∧ (s.snoopPass t stop code parity).hk = s.hk ∧ (s.snoopPass t stop code parity).clk = s.clk ∧ (s.snoopPass t stop code parity).bw = s.bw ∧ (s.snoopPass t stop code parity).gang0 = s.gang0 ∧ (s.snoopPass t stop code parity).gang1 = s.gang1 ∧ (s.snoopPass t stop code parity).med = s.med ∧ (s.snoopPass t stop code parity).roms = s.roms ∧ (s.snoopPass t stop code parity).xlt = s.xlt ∧ (s.snoopPass t stop code parity).prot = s.prot ∧ (s.snoopPass t stop code parity).dram = s.dram ∧ (s.snoopPass t stop code parity).drift = s.drift ∧ (s.snoopPass t stop code parity).zl0 = s.zl0 ∧ (s.snoopPass t stop code parity).zl1 = s.zl1 ∧ (s.snoopPass t stop code parity).strm = s.strm ∧ (s.snoopPass t stop code parity).mbox = s.mbox ∧ (s.snoopPass t stop code parity).srm = s.srm ∧ (s.snoopPass t stop code parity).dbg = s.dbg ∧ (s.snoopPass t stop code parity).i3c = s.i3c := by
  have f1 := @State.bump_frame; have f2 := @State.lookSmall_frame; have f3 := @State.onReq_frame; have f4 := @State.onTx_frame; have f5 := @State.poisonLine_frame; have f6 := @State.putLine_frame; have f7 := @State.raise_frame; have f8 := @State.snoopFills_frame; have f9 := @State.stopActs_frame
  dsimp only [State.snoopPass]; (repeat' split) <;> simp [f1, f2, f3, f4, f5, f6, f7, f8, f9]
theorem State.snoop_frame (s : State) (tx : Nat) (stop : Nat) (code : Nat) (parity : Bool) : (s.snoop tx stop code parity).pending = s.pending ∧ (s.snoop tx stop code parity).variant = s.variant ∧ (s.snoop tx stop code parity).applied = s.applied ∧ (s.snoop tx stop code parity).latches = s.latches ∧ (s.snoop tx stop code parity).commits = s.commits ∧ (s.snoop tx stop code parity).pwr = s.pwr ∧ (s.snoop tx stop code parity).hk = s.hk ∧ (s.snoop tx stop code parity).clk = s.clk ∧ (s.snoop tx stop code parity).bw = s.bw ∧ (s.snoop tx stop code parity).gang0 = s.gang0 ∧ (s.snoop tx stop code parity).gang1 = s.gang1 ∧ (s.snoop tx stop code parity).med = s.med ∧ (s.snoop tx stop code parity).roms = s.roms ∧ (s.snoop tx stop code parity).xlt = s.xlt ∧ (s.snoop tx stop code parity).prot = s.prot ∧ (s.snoop tx stop code parity).dram = s.dram ∧ (s.snoop tx stop code parity).drift = s.drift ∧ (s.snoop tx stop code parity).zl0 = s.zl0 ∧ (s.snoop tx stop code parity).zl1 = s.zl1 ∧ (s.snoop tx stop code parity).strm = s.strm ∧ (s.snoop tx stop code parity).mbox = s.mbox ∧ (s.snoop tx stop code parity).srm = s.srm ∧ (s.snoop tx stop code parity).dbg = s.dbg ∧ (s.snoop tx stop code parity).i3c = s.i3c := by
  have f1 := @State.snoopPass_frame
  dsimp only [State.snoop]; (repeat' split) <;> simp [f1]
theorem State.stashIn_frame (s : State) (m : RMsg) (c : Nat) (d : Line) (poison : Bool) : (s.stashIn m c d poison).pending = s.pending ∧ (s.stashIn m c d poison).variant = s.variant ∧ (s.stashIn m c d poison).applied = s.applied ∧ (s.stashIn m c d poison).latches = s.latches ∧ (s.stashIn m c d poison).commits = s.commits ∧ (s.stashIn m c d poison).pwr = s.pwr ∧ (s.stashIn m c d poison).hk = s.hk ∧ (s.stashIn m c d poison).clk = s.clk ∧ (s.stashIn m c d poison).bw = s.bw ∧ (s.stashIn m c d poison).gang0 = s.gang0 ∧ (s.stashIn m c d poison).gang1 = s.gang1 ∧ (s.stashIn m c d poison).med = s.med ∧ (s.stashIn m c d poison).roms = s.roms ∧ (s.stashIn m c d poison).xlt = s.xlt ∧ (s.stashIn m c d poison).prot = s.prot ∧ (s.stashIn m c d poison).dram = s.dram ∧ (s.stashIn m c d poison).drift = s.drift ∧ (s.stashIn m c d poison).zl0 = s.zl0 ∧ (s.stashIn m c d poison).zl1 = s.zl1 ∧ (s.stashIn m c d poison).strm = s.strm ∧ (s.stashIn m c d poison).mbox = s.mbox ∧ (s.stashIn m c d poison).srm = s.srm ∧ (s.stashIn m c d poison).dbg = s.dbg ∧ (s.stashIn m c d poison).i3c = s.i3c := by
  have f1 := @State.bump_frame; have f2 := @State.coreFill_frame; have f3 := @State.fillHost_frame; have f4 := @State.stashDrop_frame
  simp [State.stashIn, f1, f2, f3, f4]
theorem State.unpark_frame (s : State) : (s.unpark).pending = s.pending ∧ (s.unpark).variant = s.variant ∧ (s.unpark).applied = s.applied ∧ (s.unpark).latches = s.latches ∧ (s.unpark).commits = s.commits ∧ (s.unpark).pwr = s.pwr ∧ (s.unpark).hk = s.hk ∧ (s.unpark).clk = s.clk ∧ (s.unpark).bw = s.bw ∧ (s.unpark).gang0 = s.gang0 ∧ (s.unpark).gang1 = s.gang1 ∧ (s.unpark).med = s.med ∧ (s.unpark).roms = s.roms ∧ (s.unpark).xlt = s.xlt ∧ (s.unpark).prot = s.prot ∧ (s.unpark).dram = s.dram ∧ (s.unpark).drift = s.drift ∧ (s.unpark).zl0 = s.zl0 ∧ (s.unpark).zl1 = s.zl1 ∧ (s.unpark).strm = s.strm ∧ (s.unpark).mbox = s.mbox ∧ (s.unpark).srm = s.srm ∧ (s.unpark).dbg = s.dbg ∧ (s.unpark).i3c = s.i3c := by
  have f1 := @State.decideReq_frame; have f2 := @State.onRing_frame
  simp [State.unpark, f1, f2]
theorem lookOwn_frame (stop : Nat) (l : RLine) (s : State) : (lookOwn stop l s).pending = s.pending ∧ (lookOwn stop l s).variant = s.variant ∧ (lookOwn stop l s).applied = s.applied ∧ (lookOwn stop l s).latches = s.latches ∧ (lookOwn stop l s).commits = s.commits ∧ (lookOwn stop l s).pwr = s.pwr ∧ (lookOwn stop l s).hk = s.hk ∧ (lookOwn stop l s).clk = s.clk ∧ (lookOwn stop l s).bw = s.bw ∧ (lookOwn stop l s).gang0 = s.gang0 ∧ (lookOwn stop l s).gang1 = s.gang1 ∧ (lookOwn stop l s).med = s.med ∧ (lookOwn stop l s).roms = s.roms ∧ (lookOwn stop l s).xlt = s.xlt ∧ (lookOwn stop l s).prot = s.prot ∧ (lookOwn stop l s).dram = s.dram ∧ (lookOwn stop l s).drift = s.drift ∧ (lookOwn stop l s).zl0 = s.zl0 ∧ (lookOwn stop l s).zl1 = s.zl1 ∧ (lookOwn stop l s).strm = s.strm ∧ (lookOwn stop l s).mbox = s.mbox ∧ (lookOwn stop l s).srm = s.srm ∧ (lookOwn stop l s).dbg = s.dbg ∧ (lookOwn stop l s).i3c = s.i3c := by
  have f1 := @State.lookSmall_frame
  dsimp only [lookOwn]; (repeat' split) <;> simp [f1]

end Sys2Proof.Machine
end

