-- ==== Sys2Proof/Laws/FrameRegAccess.lean ====
section
/-! SUPPORT. Frames of the operations of Machine/RegAccess.lean: the fields of State that each leaves as they were. -/

set_option maxRecDepth 4000
set_option linter.unusedSimpArgs false

namespace Sys2Proof.Machine

theorem State.groupWrite_frame (s : State) (a : Nat) (fs : List RegField) (good : Bool) (src : Source) (w : Nat) : (s.groupWrite a fs good src w).pending = s.pending ∧ (s.groupWrite a fs good src w).variant = s.variant ∧ (s.groupWrite a fs good src w).latches = s.latches ∧ (s.groupWrite a fs good src w).clk = s.clk ∧ (s.groupWrite a fs good src w).med = s.med ∧ (s.groupWrite a fs good src w).roms = s.roms ∧ (s.groupWrite a fs good src w).i3c = s.i3c := by
  have f1 := @State.cfgErr_frame; have f2 := @State.setReg_frame
  simp [State.groupWrite, f1, f2]
theorem State.fieldsWrite_frame (s : State) (a : Nat) (fs : List RegField) (src : Source) (w : Nat) : (s.fieldsWrite a fs src w).pending = s.pending ∧ (s.fieldsWrite a fs src w).variant = s.variant ∧ (s.fieldsWrite a fs src w).latches = s.latches ∧ (s.fieldsWrite a fs src w).clk = s.clk ∧ (s.fieldsWrite a fs src w).med = s.med ∧ (s.fieldsWrite a fs src w).roms = s.roms ∧ (s.fieldsWrite a fs src w).i3c = s.i3c := by
  have f1 := @State.cfgErr_frame; have f2 := @State.setReg_frame
  simp [State.fieldsWrite, f1, f2]
theorem State.entryWrite_frame (s : State) (off : Nat) (w : Nat) : (s.entryWrite off w).pending = s.pending ∧ (s.entryWrite off w).variant = s.variant ∧ (s.entryWrite off w).latches = s.latches ∧ (s.entryWrite off w).clk = s.clk ∧ (s.entryWrite off w).med = s.med ∧ (s.entryWrite off w).roms = s.roms ∧ (s.entryWrite off w).i3c = s.i3c := by
  have f1 := @State.onProt_frame
  simp [State.entryWrite, f1]
theorem State.cfgAct_frame (s : State) (a : Nat) (src : Source) (w : Nat) : (s.cfgAct a src w).pending = s.pending ∧ (s.cfgAct a src w).variant = s.variant ∧ (s.cfgAct a src w).latches = s.latches ∧ (s.cfgAct a src w).clk = s.clk ∧ (s.cfgAct a src w).med = s.med ∧ (s.cfgAct a src w).roms = s.roms ∧ (s.cfgAct a src w).i3c = s.i3c := by
  have f1 := @State.entryWrite_frame; have f2 := @State.inspectSel_frame; have f3 := @State.queryStart_frame; have f4 := @State.tlyReadSel_frame
  simp [State.cfgAct, f1, f2, f3, f4]
theorem State.zlAct_frame (s : State) (n : Nat) (off : Nat) (src : Source) (w : Nat) : (s.zlAct n off src w).pending = s.pending ∧ (s.zlAct n off src w).variant = s.variant ∧ (s.zlAct n off src w).latches = s.latches ∧ (s.zlAct n off src w).clk = s.clk ∧ (s.zlAct n off src w).med = s.med ∧ (s.zlAct n off src w).roms = s.roms ∧ (s.zlAct n off src w).i3c = s.i3c := by
  have f1 := @State.copyCtrl_frame; have f2 := @State.saveCtrl_frame; have f3 := @State.zlCtrl_frame
  simp [State.zlAct, f1, f2, f3]
theorem State.dbgCtrl_frame (s : State) (w : Nat) : (s.dbgCtrl w).pending = s.pending ∧ (s.dbgCtrl w).variant = s.variant ∧ (s.dbgCtrl w).latches = s.latches ∧ (s.dbgCtrl w).clk = s.clk ∧ (s.dbgCtrl w).med = s.med ∧ (s.dbgCtrl w).roms = s.roms ∧ (s.dbgCtrl w).i3c = s.i3c := by
  have f1 := @State.endDebug_frame
  simp [State.dbgCtrl, f1]
theorem State.cmdAct_frame (s : State) (a : Nat) (src : Source) (w : Nat) (out : StepOut) : (s.cmdAct a src w out).pending = s.pending ∧ (s.cmdAct a src w out).variant = s.variant ∧ (s.cmdAct a src w out).latches = s.latches ∧ (s.cmdAct a src w out).clk = s.clk ∧ (s.cmdAct a src w out).med = s.med ∧ (s.cmdAct a src w out).roms = s.roms ∧ (s.cmdAct a src w out).i3c = s.i3c := by
  have f1 := @State.almForce_frame; have f2 := @State.clearCtrl_frame; have f3 := @State.dbgCtrl_frame; have f4 := @State.epochWrite_frame; have f5 := @State.forceFail_frame; have f6 := @State.groupCtrl_frame; have f7 := @State.keyCtrl_frame; have f8 := @State.maintCtrl_frame; have f9 := @State.marchCtrl_frame; have f10 := @State.onPmc_frame; have f11 := @State.onProt_frame; have f12 := @State.penFlush_frame; have f13 := @State.pwrCtrl_frame; have f14 := @State.retrain_frame; have f15 := @State.tlyCtrl_frame; have f16 := @State.trimGo_frame; have f17 := @State.zlAct_frame
  simp [State.cmdAct, f1, f2, f3, f4, f5, f6, f7, f8, f9, f10, f11, f12, f13, f14, f15, f16, f17]
theorem State.blockWrite_frame (s : State) (a : Nat) (fs : List RegField) (src : Source) (w : Nat) (out : StepOut) : (s.blockWrite a fs src w out).pending = s.pending ∧ (s.blockWrite a fs src w out).variant = s.variant ∧ (s.blockWrite a fs src w out).latches = s.latches ∧ (s.blockWrite a fs src w out).clk = s.clk ∧ (s.blockWrite a fs src w out).med = s.med ∧ (s.blockWrite a fs src w out).roms = s.roms ∧ (s.blockWrite a fs src w out).i3c = s.i3c := by
  have f1 := @State.cfgAct_frame; have f2 := @State.cfgErr_frame; have f3 := @State.cmdAct_frame; have f4 := @State.fieldsWrite_frame; have f5 := @State.groupWrite_frame
  dsimp only [State.blockWrite]; (repeat' split) <;> simp [f1, f2, f3, f4, f5]
theorem State.softReg_frame (s : State) (a : Nat) : (s.softReg a).pending = s.pending ∧ (s.softReg a).variant = s.variant ∧ (s.softReg a).latches = s.latches ∧ (s.softReg a).clk = s.clk ∧ (s.softReg a).med = s.med ∧ (s.softReg a).roms = s.roms ∧ (s.softReg a).i3c = s.i3c := by
  have f1 := @State.setReg_frame
  dsimp only [State.softReg]; (repeat' split) <;> simp [f1]
theorem State.softApplied_frame (s : State) (p : Nat) : (s.softApplied p).pending = s.pending ∧ (s.softApplied p).variant = s.variant ∧ (s.softApplied p).latches = s.latches ∧ (s.softApplied p).clk = s.clk ∧ (s.softApplied p).med = s.med ∧ (s.softApplied p).roms = s.roms ∧ (s.softApplied p).i3c = s.i3c := by
  simp [State.softApplied]
theorem State.softBlock_frame (s : State) (p : Nat) : (s.softBlock p).pending = s.pending ∧ (s.softBlock p).variant = s.variant ∧ (s.softBlock p).latches = s.latches ∧ (s.softBlock p).clk = s.clk ∧ (s.softBlock p).med = s.med ∧ (s.softBlock p).roms = s.roms ∧ (s.softBlock p).i3c = s.i3c := by
  have f1 := @State.hwInval_frame; have f2 := @State.onPmc_frame; have f3 := @State.onProt_frame
  simp [State.softBlock, f1, f2, f3]
theorem State.softReset_frame (s : State) (p : Nat) : (s.softReset p).pending = s.pending ∧ (s.softReset p).variant = s.variant ∧ (s.softReset p).latches = s.latches ∧ (s.softReset p).clk = s.clk ∧ (s.softReset p).med = s.med ∧ (s.softReset p).roms = s.roms ∧ (s.softReset p).i3c = s.i3c := by
  have f1 := @State.afterApply_frame; have f2 := @State.refreshIrq_frame; have f3 := @State.setReg_frame; have f4 := @State.settleHeldTo_frame; have f5 := @State.settleStarved_frame; have f6 := @State.settle_frame; have f7 := @State.softApplied_frame; have f8 := @State.softBlock_frame; have f9 := @State.softReg_frame
  simp [State.softReset, f1, f2, f3, f4, f5, f6, f7, f8, f9]
theorem State.commitPage_frame (s : State) (p : Nat) : (s.commitPage p).pending = s.pending ∧ (s.commitPage p).variant = s.variant ∧ (s.commitPage p).latches = s.latches ∧ (s.commitPage p).med = s.med ∧ (s.commitPage p).roms = s.roms ∧ (s.commitPage p).i3c = s.i3c := by
  have f1 := @State.postLat_frame
  simp [State.commitPage, f1]
theorem State.ctrlWrite_frame (s : State) (p : Nat) (src : Source) (w : Nat) : (s.ctrlWrite p src w).pending = s.pending ∧ (s.ctrlWrite p src w).variant = s.variant ∧ (s.ctrlWrite p src w).latches = s.latches ∧ (s.ctrlWrite p src w).med = s.med ∧ (s.ctrlWrite p src w).roms = s.roms ∧ (s.ctrlWrite p src w).i3c = s.i3c := by
  have f1 := @State.cfgErr_frame; have f2 := @State.commitPage_frame; have f3 := @State.refreshIrq_frame; have f4 := @State.setReg_frame; have f5 := @State.softReset_frame
  simp [State.ctrlWrite, f1, f2, f3, f4, f5]
theorem State.statusWrite_frame (s : State) (p : Nat) (w : Nat) : (s.statusWrite p w).pending = s.pending ∧ (s.statusWrite p w).variant = s.variant ∧ (s.statusWrite p w).latches = s.latches ∧ (s.statusWrite p w).clk = s.clk ∧ (s.statusWrite p w).med = s.med ∧ (s.statusWrite p w).roms = s.roms ∧ (s.statusWrite p w).i3c = s.i3c := by
  have f1 := @State.setReg_frame
  simp [State.statusWrite, f1]
theorem State.intWrite_frame (s : State) (p : Nat) (w : Nat) : (s.intWrite p w).pending = s.pending ∧ (s.intWrite p w).variant = s.variant ∧ (s.intWrite p w).latches = s.latches ∧ (s.intWrite p w).clk = s.clk ∧ (s.intWrite p w).med = s.med ∧ (s.intWrite p w).roms = s.roms ∧ (s.intWrite p w).i3c = s.i3c := by
  have f1 := @State.refreshIrq_frame; have f2 := @State.setFlag_frame; have f3 := @State.setReg_frame
  simp [State.intWrite, f1, f2, f3]
theorem State.forceWrite_frame (s : State) (p : Nat) (src : Source) (w : Nat) : (s.forceWrite p src w).pending = s.pending ∧ (s.forceWrite p src w).variant = s.variant ∧ (s.forceWrite p src w).latches = s.latches ∧ (s.forceWrite p src w).clk = s.clk ∧ (s.forceWrite p src w).med = s.med ∧ (s.forceWrite p src w).roms = s.roms ∧ (s.forceWrite p src w).i3c = s.i3c := by
  have f1 := @State.cfgErr_frame; have f2 := @State.refreshIrq_frame; have f3 := @State.setReg_frame
  simp [State.forceWrite, f1, f2, f3]
theorem State.lockWrite_frame (s : State) (p : Nat) (src : Source) (w : Nat) : (s.lockWrite p src w).pending = s.pending ∧ (s.lockWrite p src w).variant = s.variant ∧ (s.lockWrite p src w).latches = s.latches ∧ (s.lockWrite p src w).clk = s.clk ∧ (s.lockWrite p src w).med = s.med ∧ (s.lockWrite p src w).roms = s.roms ∧ (s.lockWrite p src w).i3c = s.i3c := by
  have f1 := @State.cfgErr_frame; have f2 := @State.setReg_frame
  simp [State.lockWrite, f1, f2]
theorem State.headerWrite_frame (s : State) (p : Nat) (off : Nat) (src : Source) (w : Nat) : (s.headerWrite p off src w).pending = s.pending ∧ (s.headerWrite p off src w).variant = s.variant ∧ (s.headerWrite p off src w).latches = s.latches ∧ (s.headerWrite p off src w).med = s.med ∧ (s.headerWrite p off src w).roms = s.roms ∧ (s.headerWrite p off src w).i3c = s.i3c := by
  have f1 := @State.ctrlWrite_frame; have f2 := @State.forceWrite_frame; have f3 := @State.intWrite_frame; have f4 := @State.lockWrite_frame; have f5 := @State.refreshIrq_frame; have f6 := @State.setReg_frame; have f7 := @State.statusWrite_frame
  simp [State.headerWrite, f1, f2, f3, f4, f5, f6, f7]
theorem State.busWrite_frame (s : State) (src : Source) (addr : Nat) (w : Nat) (out : StepOut) : (s.busWrite src addr w out).pending = s.pending ∧ (s.busWrite src addr w out).variant = s.variant ∧ (s.busWrite src addr w out).latches = s.latches ∧ (s.busWrite src addr w out).med = s.med ∧ (s.busWrite src addr w out).roms = s.roms ∧ (s.busWrite src addr w out).i3c = s.i3c := by
  have f1 := @State.blockWrite_frame; have f2 := @State.headerWrite_frame
  dsimp only [State.busWrite]; (repeat' split) <;> simp [f1, f2]

end Sys2Proof.Machine
end

