-- ==== Sys2Proof/Laws/FrameI3c.lean ====
section
/-! SUPPORT. Frames of the operations of Machine/I3c.lean: the fields of State that each leaves as they were. -/

set_option maxRecDepth 4000
set_option linter.unusedSimpArgs false

namespace Sys2Proof.Machine

theorem State.i3cAssign_frame (s : State) (a : Nat) : (s.i3cAssign a).pending = s.pending ∧ (s.i3cAssign a).variant = s.variant ∧ (s.i3cAssign a).applied = s.applied ∧ (s.i3cAssign a).commits = s.commits ∧ (s.i3cAssign a).resetting = s.resetting ∧ (s.i3cAssign a).dev = s.dev ∧ (s.i3cAssign a).pwr = s.pwr ∧ (s.i3cAssign a).hk = s.hk ∧ (s.i3cAssign a).clk = s.clk ∧ (s.i3cAssign a).gang0 = s.gang0 ∧ (s.i3cAssign a).gang1 = s.gang1 ∧ (s.i3cAssign a).med = s.med ∧ (s.i3cAssign a).roms = s.roms ∧ (s.i3cAssign a).xlt = s.xlt ∧ (s.i3cAssign a).tally = s.tally ∧ (s.i3cAssign a).prot = s.prot ∧ (s.i3cAssign a).caches = s.caches ∧ (s.i3cAssign a).dram = s.dram ∧ (s.i3cAssign a).reads = s.reads ∧ (s.i3cAssign a).drift = s.drift ∧ (s.i3cAssign a).zl0 = s.zl0 ∧ (s.i3cAssign a).zl1 = s.zl1 ∧ (s.i3cAssign a).ring = s.ring ∧ (s.i3cAssign a).strm = s.strm ∧ (s.i3cAssign a).mbox = s.mbox ∧ (s.i3cAssign a).pnv = s.pnv ∧ (s.i3cAssign a).nvm = s.nvm ∧ (s.i3cAssign a).srm = s.srm := by
  simp [State.i3cAssign]
theorem State.i3cWords_frame (s : State) (page : Nat) (offset : Nat) (words : List Word) (out : StepOut) : (s.i3cWords page offset words out).pending = s.pending ∧ (s.i3cWords page offset words out).variant = s.variant ∧ (s.i3cWords page offset words out).latches = s.latches ∧ (s.i3cWords page offset words out).med = s.med ∧ (s.i3cWords page offset words out).roms = s.roms ∧ (s.i3cWords page offset words out).i3c = s.i3c := by
  have f1 := @State.busWrite_frame
  induction words generalizing s offset with
  | nil => simp [State.i3cWords, f1]
  | cons w rest ih => simp only [State.i3cWords]; simp [ih, f1]

end Sys2Proof.Machine
end

