-- ==== Sys2Proof/Laws/SMap.lean ====
section
/-! SUPPORT. Laws of sparse maps: reading after writing, and the canonical form that every operation keeps. -/

namespace Sys2Proof.Machine

theorem SMap.get_filter_key {α : Type} (dflt : Nat → α) (p : Nat → Bool) (m : SMap α) (j : Nat) (h : p j = true) :
    SMap.get dflt (m.filter (fun e => p e.1)) j = SMap.get dflt m j := by
  induction m with
  | nil => rfl
  | cons e rest ih =>
    obtain ⟨k, v⟩ := e
    by_cases hj : j = k
    · subst hj; simp [h, SMap.get]
    · by_cases hk : p k = true
      · simp [hk, SMap.get, hj, ih]
      · simp [hk, SMap.get, hj, ih]

theorem SMap.get_erase {α : Type} (dflt : Nat → α) (m : SMap α) (k j : Nat) :
    SMap.get dflt (SMap.erase m k) j = if j = k then dflt k else SMap.get dflt m j := by
  split
  · rename_i h; subst h
    unfold SMap.erase
    induction m with
    | nil => rfl
    | cons e rest ih =>
      obtain ⟨k, v⟩ := e
      by_cases hk : k = j
      · rw [List.filter_cons_of_neg (by simp [hk])]; exact ih
      · rw [List.filter_cons_of_pos (by simp [hk])]; simp only [SMap.get, Ne.symm hk, if_false]; exact ih
  · rename_i h
    exact SMap.get_filter_key dflt (fun i => decide (i ≠ k)) m j (by simpa using h)

theorem SMap.get_put {α : Type} (dflt : Nat → α) (m : SMap α) (k j : Nat) (v : α) :
    SMap.get dflt (SMap.put m k v) j = if j = k then v else SMap.get dflt m j := by
  induction m with
  | nil => by_cases h : j = k <;> simp [SMap.put, SMap.get, h]
  | cons e rest ih =>
    obtain ⟨k', v'⟩ := e
    simp only [SMap.put]
    by_cases h1 : k < k'
    · by_cases h : j = k <;> simp [h1, SMap.get, h]
    · by_cases h2 : k = k'
      · subst h2; by_cases h : j = k <;> simp [SMap.get, h]
      · by_cases h : j = k
        · subst h; simp [h1, h2, SMap.get, ih]
        · simp [h1, h2, SMap.get, ih, h]

/-- A read after a write gives the value written; every other key reads as before. -/
theorem SMap.get_set {α : Type} [DecidableEq α] (dflt : Nat → α) (m : SMap α) (k j : Nat) (v : α) :
    SMap.get dflt (SMap.set dflt m k v) j = if j = k then v else SMap.get dflt m j := by
  unfold SMap.set
  split
  · rename_i h; rw [SMap.get_erase]; split <;> simp [h]
  · exact SMap.get_put dflt m k j v

theorem SMap.wfFrom_mono {α : Type} [DecidableEq α] (dflt : Nat → α) {a b : Nat} (h : a ≤ b) (m : SMap α) :
    SMap.wfFrom dflt b m = true → SMap.wfFrom dflt a m = true := by
  cases m with
  | nil => intro _; rfl
  | cons e rest =>
    obtain ⟨k, v⟩ := e
    simp only [SMap.wfFrom, Bool.and_eq_true, decide_eq_true_eq]
    rintro ⟨⟨h1, h2⟩, h3⟩
    exact ⟨⟨by omega, h2⟩, h3⟩

theorem SMap.wfFrom_filter {α : Type} [DecidableEq α] (dflt : Nat → α) (p : Nat × α → Bool) (m : SMap α) (lo : Nat) :
    SMap.wfFrom dflt lo m = true → SMap.wfFrom dflt lo (m.filter p) = true := by
  induction m generalizing lo with
  | nil => intro h; exact h
  | cons e rest ih =>
    obtain ⟨k, v⟩ := e
    simp only [SMap.wfFrom, Bool.and_eq_true, decide_eq_true_eq]
    rintro ⟨⟨h1, h2⟩, h3⟩
    by_cases hp : p (k, v) = true
    · simp only [List.filter_cons, hp, if_true, SMap.wfFrom, Bool.and_eq_true, decide_eq_true_eq]
      exact ⟨⟨h1, h2⟩, ih _ h3⟩
    · simp only [List.filter_cons, hp]
      exact ih _ (SMap.wfFrom_mono dflt (by omega) rest h3)

theorem SMap.wfFrom_put {α : Type} [DecidableEq α] (dflt : Nat → α) (m : SMap α) (lo k : Nat) (v : α) (hk : lo ≤ k) (hv : v ≠ dflt k) :
    SMap.wfFrom dflt lo m = true → SMap.wfFrom dflt lo (SMap.put m k v) = true := by
  induction m generalizing lo with
  | nil => intro _; simp [SMap.put, SMap.wfFrom, hk, hv]
  | cons e rest ih =>
    obtain ⟨k', v'⟩ := e
    simp only [SMap.wfFrom, Bool.and_eq_true, decide_eq_true_eq]
    rintro ⟨⟨h1, h2⟩, h3⟩
    simp only [SMap.put]
    split
    · simp only [SMap.wfFrom, Bool.and_eq_true, decide_eq_true_eq]
      exact ⟨⟨hk, hv⟩, ⟨by omega, h2⟩, h3⟩
    · split
      · rename_i h; subst h
        simp only [SMap.wfFrom, Bool.and_eq_true, decide_eq_true_eq]
        exact ⟨⟨hk, hv⟩, h3⟩
      · simp only [SMap.wfFrom, Bool.and_eq_true, decide_eq_true_eq]
        exact ⟨⟨h1, h2⟩, ih _ (by omega) h3⟩

/-- A write keeps the canonical form. -/
theorem SMap.wf_set {α : Type} [DecidableEq α] (dflt : Nat → α) (m : SMap α) (k : Nat) (v : α) (h : SMap.wf dflt m = true) :
    SMap.wf dflt (SMap.set dflt m k v) = true := by
  unfold SMap.set
  split
  · exact SMap.wfFrom_filter dflt _ m 0 h
  · rename_i hv; exact SMap.wfFrom_put dflt m 0 k v (Nat.zero_le k) hv h

/-- Dropping entries keeps the canonical form. -/
theorem SMap.wf_filter {α : Type} [DecidableEq α] (dflt : Nat → α) (p : Nat × α → Bool) (m : SMap α) (h : SMap.wf dflt m = true) :
    SMap.wf dflt (m.filter p) = true := SMap.wfFrom_filter dflt p m 0 h

theorem SMap.wf_within {α : Type} [DecidableEq α] (dflt : Nat → α) (m : SMap α) (lo hi : Nat) (h : SMap.wf dflt m = true) :
    SMap.wf dflt (m.within lo hi) = true := SMap.wf_filter dflt _ m h

theorem SMap.wf_drop {α : Type} [DecidableEq α] (dflt : Nat → α) (p : Nat → α → Bool) (m : SMap α) (h : SMap.wf dflt m = true) :
    SMap.wf dflt (SMap.drop p m) = true := SMap.wf_filter dflt _ m h

/-- Passing every value through a function keeps the canonical form. -/
theorem SMap.wf_mapv {α : Type} [DecidableEq α] (dflt : Nat → α) (f : Nat → α → α) (m : SMap α) (h : SMap.wf dflt m = true) :
    SMap.wf dflt (SMap.mapv dflt f m) = true := by
  unfold SMap.wf SMap.mapv at *
  suffices ∀ lo, SMap.wfFrom dflt lo m = true →
      SMap.wfFrom dflt lo ((m.map (fun e => (e.1, f e.1 e.2))).filter (fun e => decide (e.2 ≠ dflt e.1))) = true from this 0 h
  clear h
  induction m with
  | nil => intro _ _; rfl
  | cons e rest ih =>
    obtain ⟨k, v⟩ := e
    intro lo
    simp only [SMap.wfFrom, Bool.and_eq_true, decide_eq_true_eq, List.map_cons]
    rintro ⟨⟨h1, _⟩, h3⟩
    by_cases hp : f k v = dflt k
    · rw [List.filter_cons_of_neg (by simp [hp])]
      exact SMap.wfFrom_mono dflt (by omega) _ (ih _ h3)
    · rw [List.filter_cons_of_pos (by simp [hp])]
      simp only [SMap.wfFrom, Bool.and_eq_true, decide_eq_true_eq]
      exact ⟨⟨h1, hp⟩, ih _ h3⟩

end Sys2Proof.Machine
end

