-- ==== Sys2Proof/Laws/Regs.lean ====
section
/-! SUPPORT. Laws of registers and fields: what a register and a field read after a write of a register, of a field and after a bit has been raised. -/

namespace Sys2Proof.Machine

/-- A field within one register word. -/
def Fld.ok (f : Fld) : Bool := decide (f.lo ≤ f.hi) && decide (f.hi < 32)

/-- Two fields that share no bit. -/
def Fld.apart (f g : Fld) : Bool := decide (f.addr ≠ g.addr) || decide (f.hi < g.lo) || decide (g.hi < f.lo)

/-! ### Bits -/

theorem bitsOf_lt (v hi lo : Nat) : bitsOf v hi lo < 2 ^ (hi + 1 - lo) := Nat.mod_lt _ (Nat.two_pow_pos _)

/-- A word as its bits above a field, the field and its bits below. -/
theorem word_split (v hi lo : Nat) (h : lo ≤ hi) :
    v = (v / 2 ^ (hi + 1)) * 2 ^ (hi + 1) + bitsOf v hi lo * 2 ^ lo + v % 2 ^ lo := by
  have e : 2 ^ (hi + 1) = 2 ^ lo * 2 ^ (hi + 1 - lo) := by rw [← Nat.pow_add]; congr 1; omega
  unfold bitsOf
  rw [Nat.shiftRight_eq_div_pow, e, ← Nat.div_div_eq_div_mul]
  have a := Nat.div_add_mod v (2 ^ lo)
  have b := Nat.div_add_mod (v / 2 ^ lo) (2 ^ (hi + 1 - lo))
  calc v = 2 ^ lo * (v / 2 ^ lo) + v % 2 ^ lo := a.symm
    _ = 2 ^ lo * (2 ^ (hi + 1 - lo) * (v / 2 ^ lo / 2 ^ (hi + 1 - lo)) + v / 2 ^ lo % 2 ^ (hi + 1 - lo)) + v % 2 ^ lo := by rw [b]
    _ = _ := by rw [Nat.mul_add, ← Nat.mul_assoc, Nat.mul_comm (2 ^ lo * 2 ^ (hi + 1 - lo)), Nat.mul_comm (2 ^ lo) (v / 2 ^ lo % _)]

theorem putBits_split (v hi lo x : Nat) (h : lo ≤ hi) :
    putBits v hi lo x = (v / 2 ^ (hi + 1)) * 2 ^ (hi + 1) + (x % 2 ^ (hi + 1 - lo)) * 2 ^ lo + v % 2 ^ lo := by
  have w := word_split v hi lo h
  unfold putBits
  omega

theorem bitsOf_testBit (v hi lo i : Nat) : (bitsOf v hi lo).testBit i = (decide (i < hi + 1 - lo) && v.testBit (lo + i)) := by
  unfold bitsOf
  rw [Nat.testBit_mod_two_pow, Nat.testBit_shiftRight]

theorem putBits_testBit (v hi lo x i : Nat) (h : lo ≤ hi) :
    (putBits v hi lo x).testBit i = if lo ≤ i ∧ i ≤ hi then x.testBit (i - lo) else v.testBit i := by
  have e : putBits v hi lo x = 2 ^ lo * (2 ^ (hi + 1 - lo) * (v / 2 ^ (hi + 1)) + x % 2 ^ (hi + 1 - lo)) + v % 2 ^ lo := by
    rw [putBits_split v hi lo x h, Nat.mul_add, ← Nat.mul_assoc, ← Nat.pow_add, show lo + (hi + 1 - lo) = hi + 1 from by omega,
      Nat.mul_comm (2 ^ (hi + 1)), Nat.mul_comm (2 ^ lo)]
  rw [e, Nat.testBit_two_pow_mul_add _ (Nat.mod_lt _ (Nat.two_pow_pos _)), Nat.testBit_two_pow_mul_add _ (Nat.mod_lt _ (Nat.two_pow_pos _)),
    Nat.testBit_mod_two_pow, Nat.testBit_mod_two_pow, Nat.testBit_div_two_pow]
  by_cases h1 : i < lo
  · simp [h1, Nat.not_le.mpr h1]
  · by_cases h2 : i - lo < hi + 1 - lo
    · have : lo ≤ i ∧ i ≤ hi := by omega
      simp [h1, h2, this]
    · have n : ¬ (lo ≤ i ∧ i ≤ hi) := by omega
      simp only [h1, h2, n, if_false]
      congr 1; omega

/-- A field written reads the value in its width. -/
theorem bitsOf_putBits_same (v hi lo x : Nat) (h : lo ≤ hi) : bitsOf (putBits v hi lo x) hi lo = x % 2 ^ (hi + 1 - lo) := by
  apply Nat.eq_of_testBit_eq
  intro i
  rw [bitsOf_testBit, putBits_testBit _ _ _ _ _ h, Nat.testBit_mod_two_pow]
  by_cases hi' : i < hi + 1 - lo
  · have : lo ≤ lo + i ∧ lo + i ≤ hi := by omega
    simp [hi', this]
  · simp [hi']

/-- A field that shares no bit with the one written reads as before. -/
theorem bitsOf_putBits_other (v hi lo x hi' lo' : Nat) (h : lo ≤ hi) (ne : hi < lo' ∨ hi' < lo) :
    bitsOf (putBits v hi lo x) hi' lo' = bitsOf v hi' lo' := by
  apply Nat.eq_of_testBit_eq
  intro i
  rw [bitsOf_testBit, bitsOf_testBit, putBits_testBit _ _ _ _ _ h]
  by_cases hi'' : i < hi' + 1 - lo'
  · have : ¬ (lo ≤ lo' + i ∧ lo' + i ≤ hi) := by omega
    simp [this]
  · simp [hi'']

theorem bitsOf_word (v hi lo : Nat) (h : hi < 32) : bitsOf (v % 2 ^ 32) hi lo = bitsOf v hi lo := by
  apply Nat.eq_of_testBit_eq
  intro i
  rw [bitsOf_testBit, bitsOf_testBit, Nat.testBit_mod_two_pow]
  by_cases hi' : i < hi + 1 - lo
  · have : lo + i < 32 := by omega
    simp [this]
  · simp [hi']

/-! ### Registers -/

theorem State.reg_lt (s : State) (a : Nat) : s.reg a < 2 ^ 32 := BitVec.isLt _

/-- A register written reads the word; every other register reads as before. -/
theorem State.reg_setReg (s : State) (a b v : Nat) : (s.setReg a v).reg b = if b = a then v % 2 ^ 32 else s.reg b := by
  unfold State.reg State.setReg
  simp only [SMap.get_set]
  split <;> simp [BitVec.toNat_ofNat]

theorem State.appliedWord_setReg (s : State) (a b v : Nat) : (s.setReg a v).appliedWord b = s.appliedWord b := rfl

/-- A field written reads the value in its width. -/
theorem State.fld_setFld_same (s : State) (f : Fld) (v : Nat) (h : f.ok = true) : (s.setFld f v).fld f = v % 2 ^ (f.hi + 1 - f.lo) := by
  simp only [Fld.ok, Bool.and_eq_true, decide_eq_true_eq] at h
  unfold State.fld State.setFld
  rw [State.reg_setReg, if_pos rfl, bitsOf_word _ _ _ h.2, bitsOf_putBits_same _ _ _ _ h.1]

/-- A field that shares no bit with the one written reads as before. -/
theorem State.fld_setFld_other (s : State) (f g : Fld) (v : Nat) (h : f.ok = true) (hg : g.ok = true) (ne : f.apart g = true) :
    (s.setFld f v).fld g = s.fld g := by
  simp only [Fld.ok, Fld.apart, Bool.and_eq_true, Bool.or_eq_true, decide_eq_true_eq] at h hg ne
  unfold State.fld State.setFld
  rw [State.reg_setReg]
  by_cases e : g.addr = f.addr
  · rw [if_pos e, bitsOf_word _ _ _ hg.2, e]
    exact bitsOf_putBits_other _ _ _ _ _ _ h.1 (by omega)
  · rw [if_neg e]

theorem State.flag_setFlag_same (s : State) (f : Fld) (b : Bool) (h : f.ok = true) : (s.setFlag f b).flag f = b := by
  unfold State.flag State.setFlag
  rw [State.fld_setFld_same s f _ h]
  have : 1 < 2 ^ (f.hi + 1 - f.lo) := by
    simp only [Fld.ok, Bool.and_eq_true, decide_eq_true_eq] at h
    exact Nat.one_lt_two_pow (by omega)
  cases b <;> simp [b2n, Nat.mod_eq_of_lt this]

/-- Forming the interrupt summaries again changes no register. -/
theorem State.regs_refreshIrq (s : State) (b : Bool) : (s.refreshIrq b).regs = s.regs := by
  unfold State.refreshIrq State.sendMsi State.emit
  dsimp only
  (repeat' split) <;> rfl

theorem State.variant_refreshIrq (s : State) (b : Bool) : (s.refreshIrq b).variant = s.variant := by
  unfold State.refreshIrq State.sendMsi State.emit
  dsimp only
  (repeat' split) <;> rfl

theorem State.reg_refreshIrq (s : State) (b : Bool) (a : Nat) : (s.refreshIrq b).reg a = s.reg a := by
  unfold State.reg
  rw [State.regs_refreshIrq, State.variant_refreshIrq]

/-- An INT_STATUS bit raised reads 1 (R852). -/
theorem State.flag_raise_same (s : State) (f : Fld) (h : f.ok = true) : (s.raise f).flag f = true := by
  have := State.flag_setFlag_same s f true h
  unfold State.flag State.fld at this ⊢
  unfold State.raise
  rw [State.reg_refreshIrq]
  exact this

/-- Raising an INT_STATUS bit leaves every field that does not hold it. -/
theorem State.fld_raise_other (s : State) (f g : Fld) (h : f.ok = true) (hg : g.ok = true) (ne : f.apart g = true) : (s.raise f).fld g = s.fld g := by
  have := State.fld_setFld_other s f g (b2n true) h hg ne
  unfold State.raise State.setFlag
  unfold State.fld at this ⊢
  rw [State.reg_refreshIrq]
  exact this

theorem State.reg_raise_other (s : State) (f : Fld) (a : Nat) (h : a ≠ f.addr) : (s.raise f).reg a = s.reg a := by
  unfold State.raise State.setFlag State.setFld
  rw [State.reg_refreshIrq, State.reg_setReg, if_neg h]

/-- The word of a register depends on the register file and the variant alone. -/
theorem State.reg_congr {s t : State} (h : t.regs = s.regs) (hv : t.variant = s.variant) (a : Nat) : t.reg a = s.reg a := by
  unfold State.reg; rw [h, hv]

theorem State.fld_congr {s t : State} (h : t.regs = s.regs) (hv : t.variant = s.variant) (f : Fld) : t.fld f = s.fld f := by
  unfold State.fld; rw [State.reg_congr h hv]

theorem State.appFld_congr {s t : State} (h : t.applied = s.applied) (hv : t.variant = s.variant) (f : Fld) : t.appFld f = s.appFld f := by
  unfold State.appFld State.appliedWord; rw [h, hv]

end Sys2Proof.Machine
end

