-- ==== Sys2Proof/Tests/Slice0.lean ====
section
/-! SUPPORT. The model's own tests: ill-formed commands that the check refuses, the worked examples of the specification, single commands on small states, and a witness for the hypotheses of every statement. -/

section

open Sys2Proof Sys2Proof.Machine

set_option Elab.async false

namespace Sys2Proof.Tests

/-! ### Small states -/

/-- SERVICE, with its supply on. -/
def upSt : State := { dev := { st := .service, por := true, tallyReady := true }, pwr := { vin := true, vinQual := true, req := true, ctrlOn := true } }
/-- SERVICE with a CXL link up, an HDM window, one region with every right and VHOLD qualified. -/
def hostSt : State := { upSt with link := { up := true, cxl := true, perst := false, hdmOn := true }, prot := { regions := [(0, { valid := true, first := 0, last := 9, rights := 0xFF })] }, hk := { vholdQual := true } }

/-! ### Well-formed commands -/

/-- An operand past its range makes its command ill formed (part 1). -/
theorem test_wellFormed_refuses_1 :
    (Instr.porRelease (256)).wf = false ∧
    (Instr.offDelayExpiry (8)).wf = false ∧
    (Instr.housekeepingRound [{ channel := 128, code := 0, value := 0 }] []).wf = false ∧
    (Instr.housekeepingRound [] [{ die := 40, code := 0, value := 0 }]).wf = false ∧
    (Instr.resume .host 0 { lost := [(2048, 0)] }).wf = false ∧
    (Instr.resume .host 0 { dies := [{ die := 40 }] }).wf = false ∧
    (Instr.resume .host 0 { channels := [(4, 1)] }).wf = false ∧
    (Instr.resume .host 0 { verify := [(2 ^ 30, {}, {})] }).wf = false ∧
    (Instr.resume .host 0 { verify := [(0, {}, { parity := [(16, 0)] })] }).wf = false ∧
    (Instr.resume .host 0 { probes := [((2, 0, 0), {})] }).wf = false ∧
    (Instr.resume .host 0 { probes := [((0, 16, 0), {})] }).wf = false ∧
    (Instr.resume .host 0 { probes := [((0, 0, 16), {})] }).wf = false ∧
    (Instr.ventTurnStart (2) 0).wf = false ∧
    (Instr.ventTurnStart 0 (10)).wf = false ∧
    (Instr.bellBoundary [{ bank := 24, word := 0, kind := .lasting, item := 0 }]).wf = false ∧
    (Instr.bellLoRead .host (4096)).wf = false := by decide

/-- An operand past its range makes its command ill formed (part 2). -/
theorem test_wellFormed_refuses_2 :
    (Instr.memRd (2 ^ 52) 0 [] 0).wf = false ∧
    (Instr.memRd 0 (2 ^ 16) [] 0).wf = false ∧
    (Instr.memRd 0 0 [{ cache := 15, set := 0, way := 0, kind := .tag }] 0).wf = false ∧
    (Instr.lookupComplete 0 [{ pos := 72, add := 1 }] [] 0).wf = false ∧
    (Instr.lookupComplete 0 [] [{ pos := 72, add := 1 }] 0).wf = false ∧
    (Instr.lookupRetry 0 [] [] [{ pos := 72, add := 1 }] [] [] 0).wf = false ∧
    (Instr.lookupRetry 0 [] [] [] [{ pos := 72, add := 1 }] [] 0).wf = false ∧
    (Instr.senseComplete 0 { errs := [{ sector := 16, pos := 0, flips := 1 }] } 0).wf = false ∧
    (Instr.senseComplete 0 { errs := [{ sector := 0, pos := 20, flips := 1 }] } 0).wf = false ∧
    (Instr.senseComplete 0 { parity := [(16, 0)] } 0).wf = false ∧
    (Instr.senseComplete 0 { parity := [(0, 20)] } 0).wf = false ∧
    (Instr.forceFail (5) .host 0).wf = false ∧
    (Instr.diePowerOff ⟨40, 0⟩).wf = false ∧
    (Instr.diePowerOff ⟨0, 4096⟩).wf = false ∧
    (Instr.parityRebuild ⟨{ id := 0, sensed := { errs := [{ sector := 16, pos := 0, flips := 1 }] } }, 0⟩).wf = false ∧
    (Instr.segmentClose (2 ^ 30) ⟨none, 0⟩).wf = false := by decide

/-- An operand past its range makes its command ill formed (part 3). -/
theorem test_wellFormed_refuses_3 :
    (Instr.genReservationDurable (32)).wf = false ∧
    (Instr.rowBatchComplete ⟨2, 0⟩).wf = false ∧
    (Instr.groupCommitted (16)).wf = false ∧
    (Instr.wayTransitionEnd (16)).wf = false ∧
    (Instr.rdShared (32) { addr := 0 } 0).wf = false ∧
    (Instr.rdShared 0 { addr := 2 ^ 42 } 0).wf = false ∧
    (Instr.rdShared 0 { addr := 0, errs := [{ cache := 15, set := 0, way := 0, kind := .tag }] } 0).wf = false ∧
    (Instr.rdShared 0 { addr := 0, mem := (some { line := 0, first := [{ pos := 72, add := 1 }] }) } 0).wf = false ∧
    (Instr.rdShared 0 { addr := 0, mem := some { line := 0, first := [], again := [{ pos := 72, add := 1 }] } } 0).wf = false ∧
    (Instr.rdStream 0 (64) { addr := 0 } 0).wf = false ∧
    (Instr.stashWrite 0 0 false 0 (2 ^ 42) 0 0 0).wf = false ∧
    (Instr.refresh (2) 0).wf = false ∧
    (Instr.dramRetrain (4) 0 ⟨false, 0⟩).wf = false ∧
    (Instr.linkUp (7) 0 false 0).wf = false ∧
    (Instr.linkUp 0 (17) false 0).wf = false ∧
    (Instr.getEventRecords (4) false 0).wf = false := by decide

/-- An operand past its range makes its command ill formed (part 4). -/
theorem test_wellFormed_refuses_4 :
    (Instr.transferFw 0 0 0 [256] false 0).wf = false ∧
    (Instr.getPoisonList (2 ^ 42) 0 false 0).wf = false ∧
    (Instr.penPush (0x40000) [] 0).wf = false ∧
    (Instr.slotStageTimeout (64) 0).wf = false ∧
    (Instr.streamMediaRead 0 (2 ^ 30) 0).wf = false ∧
    (Instr.tamperNLow (4)).wf = false ∧
    (Instr.cartInsert (2) 0).wf = false ∧
    (Instr.laneTrainingEnd 0 (5) 0).wf = false ∧
    (Instr.linkFrame 0 (256) false false 0).wf = false ∧
    (Instr.rmeta 0 (256) 0 0).wf = false ∧
    (Instr.bankWakeEnd (24)).wf = false ∧
    (Instr.watchdogExpiry (8)).wf = false ∧
    (Instr.pvalLoRead .host (64) 0).wf = false ∧
    (Instr.fixLoRead .host (128)).wf = false ∧
    (Instr.memAccess false 0 0 0 [] { errs := [{ sector := 16, pos := 0, flips := 1 }] } {} 0).wf = false ∧
    (Instr.memAccess false 0 0 0 [] { errs := [{ sector := 0, pos := 20, flips := 1 }] } {} 0).wf = false := by decide

/-- An operand past its range makes its command ill formed (part 5). -/
theorem test_wellFormed_refuses_5 :
    (Instr.memAccess false 0 0 0 [] { parity := [(16, 0)] } {} 0).wf = false ∧
    (Instr.memAccess false 0 0 0 [] { parity := [(0, 20)] } {} 0).wf = false ∧
    (Instr.memAccess false 0 0 0 [] {} { errs := [{ sector := 16, pos := 0, flips := 1 }] } 0).wf = false ∧
    (Instr.memAccess false 0 0 0 [] {} { errs := [{ sector := 0, pos := 20, flips := 1 }] } 0).wf = false ∧
    (Instr.memAccess false 0 0 0 [] {} { parity := [(16, 0)] } 0).wf = false ∧
    (Instr.memAccess false 0 0 0 [] {} { parity := [(0, 20)] } 0).wf = false ∧
    (Instr.softReset (64) .host 0).wf = false ∧
    (Instr.entdaa (128)).wf = false ∧
    (Instr.setdasa (128) 0).wf = false ∧
    (Instr.getpid (128)).wf = false ∧
    (Instr.i3cWrite (128) 0 0 [] {}).wf = false := by decide

/-- The same commands with operands in their ranges are well formed (part 1). -/
theorem test_wellFormed_takes_1 :
    (Instr.porRelease 0).wf = true ∧
    (Instr.offDelayExpiry 0).wf = true ∧
    (Instr.housekeepingRound [] []).wf = true ∧
    (Instr.resume .host 0 {}).wf = true ∧
    (Instr.ventTurnStart 0 0).wf = true ∧
    (Instr.bellBoundary []).wf = true ∧
    (Instr.bellLoRead .host 0).wf = true ∧
    (Instr.memRd 0 0 [] 0).wf = true ∧
    (Instr.lookupComplete 0 [] [] 0).wf = true ∧
    (Instr.lookupRetry 0 [] [] [] [] [] 0).wf = true ∧
    (Instr.senseComplete 0 {} 0).wf = true ∧
    (Instr.forceFail 0 .host 0).wf = true ∧
    (Instr.diePowerOff ⟨0, 0⟩).wf = true ∧
    (Instr.parityRebuild ⟨{ id := 0 }, 0⟩).wf = true ∧
    (Instr.segmentClose 0 ⟨none, 0⟩).wf = true ∧
    (Instr.genReservationDurable 0).wf = true := by decide

/-- The same commands with operands in their ranges are well formed (part 2). -/
theorem test_wellFormed_takes_2 :
    (Instr.rowBatchComplete ⟨0, 0⟩).wf = true ∧
    (Instr.groupCommitted 0).wf = true ∧
    (Instr.wayTransitionEnd 0).wf = true ∧
    (Instr.rdShared 0 { addr := 0 } 0).wf = true ∧
    (Instr.rdStream 0 0 { addr := 0 } 0).wf = true ∧
    (Instr.stashWrite 0 0 false 0 0 0 0 0).wf = true ∧
    (Instr.refresh 0 0).wf = true ∧
    (Instr.dramRetrain 0 0 ⟨false, 0⟩).wf = true ∧
    (Instr.linkUp 0 0 false 0).wf = true ∧
    (Instr.getEventRecords 0 false 0).wf = true ∧
    (Instr.transferFw 0 0 0 [] false 0).wf = true ∧
    (Instr.getPoisonList 0 0 false 0).wf = true ∧
    (Instr.penPush 0 [] 0).wf = true ∧
    (Instr.slotStageTimeout 0 0).wf = true ∧
    (Instr.streamMediaRead 0 0 0).wf = true ∧
    (Instr.tamperNLow 0).wf = true := by decide

/-- The same commands with operands in their ranges are well formed (part 3). -/
theorem test_wellFormed_takes_3 :
    (Instr.cartInsert 0 0).wf = true ∧
    (Instr.laneTrainingEnd 0 0 0).wf = true ∧
    (Instr.linkFrame 0 0 false false 0).wf = true ∧
    (Instr.rmeta 0 0 0 0).wf = true ∧
    (Instr.bankWakeEnd 0).wf = true ∧
    (Instr.watchdogExpiry 0).wf = true ∧
    (Instr.pvalLoRead .host 0 0).wf = true ∧
    (Instr.fixLoRead .host 0).wf = true ∧
    (Instr.memAccess false 0 0 0 [] {} {} 0).wf = true ∧
    (Instr.softReset 0 .host 0).wf = true ∧
    (Instr.entdaa 0).wf = true ∧
    (Instr.setdasa 0 0).wf = true ∧
    (Instr.getpid 0).wf = true ∧
    (Instr.i3cWrite 0 0 0 [] {}).wf = true := by decide

/-! ### Addresses, CRCs and quotas: the worked examples of the specification -/

/-- R3: position 5 of stack 3 is the second die of its gang 1 row, dies 32 to 35. -/
theorem test_die_numbering : dieAt 3 5 = 33 ∧ dieGang 33 = 1 ∧ dieAt 4 3 = 19 ∧ dieGang 19 = 0 := by decide
/-- The example after R6: offset 0x1523_4567_89AB under KEYID_BITS 3 is KeyID 5, DPA 0x123_4567_89AB, segment 0x1234_5678. -/
theorem test_hdm_offset : ({ hostSt with link := { hostSt.link with hdmBase := 0 } } : State).hdmKeyid 0x1523456789AB = 5 ∧
    ({ hostSt with link := { hostSt.link with hdmBase := 0 } } : State).hdmDpa 0x1523456789AB = 0x123456789AB ∧ dpaSeg 0x123456789AB = 0x12345678 := by decide
/-- The example of R425: with base 0x3000_0000_0000, HPA 0x3A40_0000_1000 is KeyID 2, DPA 0x240_0000_1000, in logical paddock 0x2_4000. -/
theorem test_hdm_base : ({ hostSt with link := { hostSt.link with hdmBase := 0x300000000000 } } : State).hdmKeyid 0x3A4000001000 = 2 ∧
    ({ hostSt with link := { hostSt.link with hdmBase := 0x300000000000 } } : State).hdmDpa 0x3A4000001000 = 0x24000001000 ∧ dpaSeg 0x24000001000 / 4096 = 0x24000 := by decide
/-- The example of chapter 2: PSA 0x2ABC_D123 is in gang 1, paddock 43,981, segment 291, band 14,660, k 1, level 1, fragment 3. -/
theorem test_psa_fields : psaGang 0x2ABCD123 = 1 ∧ psaPaddock 0x2ABCD123 = 43981 ∧ psaSeg 0x2ABCD123 = 291 ∧ psaBand 0x2ABCD123 = 14660 ∧
    psaK 0x2ABCD123 = 1 ∧ psaRowTlc 0x2ABCD123 = 91 ∧ psaLevel 0x2ABCD123 = 1 ∧ psaFragment 0x2ABCD123 = 3 := by decide
/-- The example of chapter 6: DPA 0x123_4567_89AB enters L1P 2, set 393, tag 0x91_A2B3; L2 slice 10, set 2,530, tag 0x4_8D15; stream cache set 550. -/
theorem test_cache_places : l1pOf 0x123456789AB = 1 + 2 ∧ cacheSet 1 0x123456789AB = 393 ∧ cacheTag 1 0x123456789AB = 0x91A2B3 ∧ l2Slice 0x123456789AB = 10 ∧
    cacheSet 0 0x123456789AB = 2530 ∧ cacheTag 0 0x123456789AB = 0x48D15 ∧ cacheSet 13 0x123456789AB = 550 := by decide
/-- The example of R261: an age of 6,766,234 units lies in bin 12. -/
theorem test_age_bin : ageBin (9871234 - 3105000) = 12 := by decide
/-- The example of R141: 480,000,000 live segments in 24 hours are a quota of 31,815. -/
theorem test_shepherd_quota : quotaOf 480000000 24 = 31815 := by decide
/-- R478: CRC-32C of "123456789". -/
theorem test_crc32c : crc32c [0x31, 0x32, 0x33, 0x34, 0x35, 0x36, 0x37, 0x38, 0x39] = 0xE3069283 := by decide +kernel
/-- R607: CRC-16 of "123456789". -/
theorem test_crc16 : crc16 [0x31, 0x32, 0x33, 0x34, 0x35, 0x36, 0x37, 0x38, 0x39] = 0x29B1 := by decide +kernel

/-! ### Registers at reset -/

/-- R56, R59, R704: WB_BUDGET 0x0040_0200, LAT_PROFILE 1, THM.LIMITS 115, 105, 95 °C and 20 °C/s. -/
theorem test_reset_registers : State.reset.reg 0x01058 = 1 ∧ State.reset.reg Reg.BWT.WB_BUDGET.word = 0x00400200 ∧ State.reset.reg 0x32040 = 0x73695F14 := by decide

/-! ### Single commands -/

/-- R25: bell 0x12_3456_789A and phase 77 latch 0x12 and 77 for the reader, and answer 0x3456_789A. -/
theorem test_bellLoRead : (match execBellLoRead .host 77 { upSt with clk := { bell := 0x123456789A } } with
    | .next t => decide (t.out = [.regValue .host 0x01040 0x3456789A]) && decide (t.latches = [(0x01044, 0x12), (0x01048, 77)])
    | _ => false) = true := by decide
/-- The example of chapter 18: a write of 0x0000_0180 to WB_BUDGET changes the shadow and not what is applied. -/
theorem test_shadow_write : (match execRegisterWrite .host 0x01064 0x180#32 {} upSt with
    | .next t => decide (t.reg 0x01064 = 0x180) && decide (t.appFld Reg.BWT.WB_BUDGET.WRITE_BUDGET = 512)
    | _ => false) = true := by decide
/-- The same example at the boundary: WRITE_BUDGET 384 is applied; WB_DEPTH 0 is refused and its shadow returns to 0x40. -/
theorem test_shadow_apply : (match execBellBoundary [] { (upSt.setReg 0x01064 0x180).setFlag Reg.BWT.CLK_STATUS.PLL_LOCKED true with commits := [1] } with
    | .next t => decide (t.reg 0x01064 = 0x00400180) && decide (t.appFld Reg.BWT.WB_BUDGET.WRITE_BUDGET = 384) && decide (t.commits = []) && bitOf (t.reg 0x0100C) 27
    | _ => false) = true := by decide +kernel
/-- R10, R9: the 64th bell boundary makes the flock boundary due and counts the bell. -/
theorem test_bellBoundary : (match execBellBoundary [] ({ upSt with clk := { bell := 63, phase := 9 } }.setFlag Reg.BWT.CLK_STATUS.PLL_LOCKED true) with
    | .next t => decide (t.clk.bell = 64) && decide (t.clk.phase = 0) && t.clk.flockDue
    | _ => false) = true := by decide +kernel
/-- R427: a read outside the HDM window is answered with poison at 46 core clk and counted. -/
theorem test_memRd_outside : (match execMemRd 0 3 [] 0 { hostSt with link := { hostSt.link with hdmBase := 2 ^ 45, drs := 64, ndr := 64 } } with
    | .next t => decide (t.fld Reg.HDM.REFUSED_RD.REFUSED_RD = 1)
    | _ => false) = true := by decide +kernel
/-- R436: in VENT nothing answers the read. -/
theorem test_memRd_vent : (match execMemRd 0 3 [] 5 { hostSt with dev := { hostSt.dev with st := .vent } } with
    | .next t => decide (t.out = []) && decide (t.regs = [])
    | _ => false) = true := by decide
/-- R704: limits that are not ordered are refused with CFG_ERR. -/
theorem test_limits_refused : (match execRegisterWrite .host 0x32040 0x60655F10#32 {} { upSt with dev := { upSt.dev with st := .mount } } with
    | .next t => decide (t.reg 0x32040 = 0x73695F14) && bitOf (t.reg 0x3200C) 27
    | _ => false) = true := by decide
/-- R207: a trim of no segment is refused. -/
theorem test_trim_refused : (match execTrimGo .host 0x5A00#32 upSt with
    | .next t => t.flag Reg.XLT.INT_STATUS.TRIM_REFUSED && !t.flag Reg.XLT.STATUS.TRIM_BUSY
    | _ => false) = true := by decide
/-- R535, R570: INSTALL in slot 0 ends refused with RESULT 2. -/
theorem test_install_slot_zero : (match execInstall .host 0xC300#32 upSt with
    | .next t => (match execKeyOpComplete t with
      | .next u => decide (u.fld Reg.KEY.OP_STATUS.RESULT = 2) && u.flag Reg.KEY.INT_STATUS.OP_REFUSED
      | _ => false)
    | _ => false) = true := by decide
/-- R112: FORCE_FAIL of die 2 of stack 1 with its guard declares die 6. -/
theorem test_forceFail : (match execForceFail 1 .host 0xA504#32 upSt with
    | .next t => t.dieFailed 6 && !t.dieFailed 2
    | _ => false) = true := by decide
/-- R822: IDCODE answers 0x1468_014B. -/
theorem test_idcode : (match execIdcode { upSt with pwr := { upSt.pwr with rails := [.vddIo] } } with
    | .next t => decide (t.out = [.tdo [0x1468014B]])
    | _ => false) = true := by decide
/-- R12: a collapse of VIN in OFF leads to no Vent. -/
theorem test_vinCollapse : (match execVinCollapse { pwr := { vin := true, vinQual := true } } with | .next t => decide (t.dev.st = .off) | _ => false) = true := by decide
/-- R856: a latching read of a core leaves the latches of the host. -/
theorem test_latch_apart : (match execBellLoRead (.core 0) 77 { upSt with latches := [(0x01044, 9)] } with
    | .next t => decide (SMap.get (fun _ => (0 : Word)) t.latches (Source.host.latch * 0x40000 + 0x01044) = 9)
    | _ => false) = true := by decide

/-! ### The ring: the worked example of R355 -/

/-- The line X of the example: its home is stop 20. -/
def lineX : RLine := ownLine 0x280
/-- Clk 20 of the example: in a reserved cycle the data of core 0's write-back is written, and WB_DONE leaves at 21, arriving at 36. -/
theorem test_ring_writeBack : lineX.home = 20 ∧ (match execWbDataWrite 3 0x280 20 { upSt with ring := { wbs := [{ stop := 3, line := lineX, data := 9, poison := false, header := some 15, got := true }] } } with
    | .next t => decide (t.ring.msgs.map (fun m => (m.ty, m.dst, m.sent, m.sent + hops m.src m.dst)) = [(.wbDone, 3, 21, 36)]) && decide (t.homeLine lineX = (9, false))
    | _ => false) = true := by decide +kernel
/-- Clk 65 and 66 of the example: core 3's snoop is back with every stop MISS, its data and COMP leave at 66 and arrive at 73, and the snoop for core 6, whose credited request waits, is injected at 67. -/
theorem test_ring_secondOwner : (match execSnoopReturn 7 65 { upSt with ring := {
      txs := [{ id := 7, op := .rdOwn, stop := 13, line := lineX, snoop := 1, mask := [], at_ := 33, credited := true }], next := 8,
      reqs := [{ stop := 13, op := .rdOwn, line := lineX }, { stop := 27, op := .rdOwn, line := lineX }],
      creds := [{ slice := 10, stop := 13, seq := 1 }, { slice := 10, stop := 27, seq := 2, wait := some lineX }] } } with
    | .next t => decide (t.ring.msgs.map (fun m => (m.dst, m.sent, m.sent + hops m.src m.dst)) = [(13, 66, 73), (13, 66, 73)]) &&
        decide (t.ring.txs.map (fun x => (x.stop, x.snoop, x.at_, x.credited)) = [(27, 1, 67, true)])
    | _ => false) = true := by decide +kernel

/-! ### The PNV: the worked example of R756 -/

/-- Page A of the device epoch record as the example has it, page B, and what the cut write was to leave. -/
def epochA : NvPage := recordPage .epoch 0x410 (.counter 0x967000 0)
def epochB : NvPage := recordPage .epoch 0x411 (.counter 0x968000 0)
def epochNew : NvPage := recordPage .epoch 0x412 (.counter 0x969000 0)
/-- The write changes groups 1, 2 and 63; cut in group 2, A reads SEQ 0x412 with bit 4 of byte 9 set, whatever the free bits, and is not valid. -/
theorem test_pnv_cut : changedGroups epochA.bytes epochNew.bytes = [1, 2, 63] ∧
    [0#32, 0xFFFFFFFF#32, 0x12345678#32].all (fun f => let b := cutProgram epochA.bytes epochNew.bytes 1 f
      decide (pageSeq b = 0x412) && bitOf (nvGroup b 2).toNat 12 && !validPage NvRec.epoch.ty 0 b) = true ∧
    validPage NvRec.epoch.ty 0 epochNew.bytes = true := by decide +kernel
/-- After the cut, B is the copy that is taken, and the next save goes to A with SEQ 0x412. -/
theorem test_pnv_copy : (let s : State := { upSt with pnv := { epoch := 0x969000 }, nvm := { pages := [(256, { bytes := cutProgram epochA.bytes epochNew.bytes 1 0, pay := .none }), (257, epochB)] } }
    decide (s.nvCopy .epoch = some (257, epochB)) && decide (s.nvTarget .epoch = (256, epochNew))) = true := by decide +kernel
/-- R383: one wrong symbol is corrected, two are not. -/
theorem test_lineDecode : lineDecode [{ pos := 5, add := 0x41 }] = .corrected ∧ lineDecode [{ pos := 5, add := 0x41 }, { pos := 70, add := 3 }] = .bad ∧ lineDecode [] = .good := by decide +kernel


/-! ### Witnesses of the statements' hypotheses -/

/-- The hypotheses of EveryStepKeepsTheBlockSound are met, with a command in front. -/
theorem witness_everyStepKeepsTheBlockSound : ∃ s t : State, Sound s ∧ step s = .next t :=
  ⟨{ pending := [.bypass] }, _, ⟨by decide, by decide⟩, rfl⟩
/-- The hypotheses of OnlyAProgramTurnEndWritesTheMedium, OnlyBoundariesMoveTheBell and CommandsLeaveTheQueueAndTheVariant are met. -/
theorem witness_commandsComplete : ∃ (c : Instr) (s t : State), (∀ g f p, c ≠ .programTurnEnd g f p) ∧ c.reach ≠ .wide ∧ c.reach ≠ .starts ∧ exec c s = .next t :=
  ⟨.vholdRetest, upSt, _, (fun _ _ _ h => by cases h), by decide, by decide, rfl⟩
/-- The PLL can be locked, so that bells run. -/
theorem witness_onlyBoundariesMoveTheBell : ∃ s : State, s.bellRuns = true :=
  ⟨upSt.setFlag Reg.BWT.CLK_STATUS.PLL_LOCKED true, by decide⟩
/-- An empty queue exists. -/
theorem witness_stepCarriesOutTheFrontCommand : ∃ s : State, s.pending = [] := ⟨State.reset, rfl⟩
/-- Stacks, positions, dies and tags within the ranges of DieNumbersFollowStackAndPosition and ResponsesCarryDevLoad. -/
theorem witness_dieNumbersFollowStackAndPosition : (∃ st p : Nat, st < 5 ∧ p < 8) ∧ (∃ d : Nat, d < 40) ∧ (∃ tag : Nat, tag < 2 ^ 16) :=
  ⟨⟨4, 7, by decide⟩, ⟨39, by decide⟩, ⟨65535, by decide⟩⟩
/-- The HDM page can be open. -/
theorem witness_responsesCarryDevLoad : ∃ s : State, s.pageOpen 0x19 (Reg.HDM.STATUS.word % 0x1000) = true := ⟨hostSt, by decide⟩
/-- Commands of the groups of ReadsAndQueriesKeepEveryRegister and of the four statements of reach answer a next state. -/
theorem witness_reaches :
    (∃ (c : Instr) (s t : State), c.keepsRegisters = true ∧ exec c s = .next t) ∧
    (∃ (c : Instr) (s t : State), c.reach ∈ [Reach.answers, Reach.hostFace, Reach.ports, Reach.link] ∧ exec c s = .next t) ∧
    (∃ (c : Instr) (s t : State), c.reach ∈ [Reach.cart, Reach.memories, Reach.ring, Reach.upkeep, Reach.supply] ∧ exec c s = .next t) ∧
    (∃ (c : Instr) (s t : State), c.reach ∈ [Reach.senses, Reach.reads, Reach.resets, Reach.media] ∧ exec c s = .next t) ∧
    (∃ (c : Instr) (s t : State), c.reach ∈ [Reach.service, Reach.wide, Reach.writes, Reach.starts, Reach.program] ∧ exec c s = .next t) :=
  ⟨⟨.getTimestamp false 0, hostSt, _, by decide, rfl⟩, ⟨.type1Vdm 0, hostSt, _, by decide, rfl⟩, ⟨.vholdRetest, upSt, _, by decide, rfl⟩,
   ⟨.bankWakeEnd 0, upSt, _, by decide, rfl⟩, ⟨.pwrReqOff, upSt, _, by decide, rfl⟩⟩

/-- The hypotheses of SupplyAndRequest are met. -/
theorem witness_supplyAndRequest :
  (∃ (s : State), s.dev.por = false) ∧
  (∃ (s : State), s.dev.st = .off ∧ s.pwr.vinQual = false) ∧
  (∃ (s : State), s.dev.por = true ∧ s.dev.st = .seqUp ∧ s.fld Reg.PWR.STATUS.STAGE = 1 ∧ s.pwr.offInSeq = false ∧ (PgInput.rail .vddPll) ∉ s.pwr.pg) ∧
  (∃ (s : State), s.pwr.req = false ∧ s.dev.st ≠ .off) ∧
  (∃ (s : State), s.pwr.req = true ∧ s.dev.st = .seqUp ∧ s.outranked 3 = false) ∧
  (∃ (s : State), s.pwr.req = false ∧ s.dev.st = .off ∧ s.dev.por = true ∧ s.pwr.vinQual = true ∧ s.pwr.offHold = false ∧ s.pwr.offInSeq = false ∧ s.pwr.pg = []) :=
  ⟨⟨{}, by decide +kernel⟩,
  ⟨{ pwr := { offHold := true } }, by decide +kernel⟩,
  ⟨(({ dev := { st := .seqUp, por := true } } : State).setFld Reg.PWR.STATUS.STAGE 1), by decide +kernel⟩,
  ⟨{ dev := { st := .service } }, by decide +kernel⟩,
  ⟨{ dev := { st := .seqUp }, pwr := { req := true } }, by decide +kernel⟩,
  ⟨{ dev := { por := true }, pwr := { vinQual := true } }, by decide +kernel⟩⟩

/-- The hypotheses of SupplyFailsAndFalls are met. -/
theorem witness_supplyFailsAndFalls :
  (∃ (s : State), s.dev.st = .service) ∧
  (∃ (s : State) (r : Rail), r ∈ s.pwr.rails ∧ (PgInput.rail r) ∉ s.pwr.pg ∧ s.dev.st ≠ .seqUp) ∧
  (∃ (s : State) (n : Nat), (PgInput.ext n) ∈ s.pwr.pg ∧ s.dev.st = .service ∧ s.pwr.standby = false ∧ (s.tally.fifoOf 0x30).length < 2) ∧
  (∃ (s : State) (n : Nat), s.dev.st = .seqUp ∧ s.fld Reg.PWR.STATUS.STAGE = n ∧ 3 ≤ n ∧ s.stageOk n = false ∧ s.pwr.offInSeq = false) ∧
  (∃ (s : State) (r : Rail) (q : Rail) (l : List DownItem), s.dev.st = .seqDown ∧ s.pwr.down = .rail r :: .rail q :: l) ∧
  (∃ (s : State) (r : Rail), s.dev.st = .seqDown ∧ s.pwr.down = [.rail r]) ∧
  (∃ (s : State) (n : Nat) (q : Rail) (l : List DownItem), s.dev.st = .seqDown ∧ s.pwr.down = .ext n :: .rail q :: l) :=
  ⟨⟨{ dev := { st := .service, por := true, tallyReady := true }, pwr := { vin := true, vinQual := true, req := true, ctrlOn := true } }, by decide +kernel⟩,
  ⟨{ pwr := { rails := [.vddIo] } }, .vddIo, by decide +kernel⟩,
  ⟨{ dev := { st := .service }, pwr := { pg := [.ext 7] } }, 7, by decide +kernel⟩,
  ⟨(({ dev := { st := .seqUp } } : State).setFld Reg.PWR.STATUS.STAGE 5), 5, by decide +kernel⟩,
  ⟨{ dev := { st := .seqDown }, pwr := { down := [.rail .vhold, .rail .vmedArr], rails := [.vmedArr] } }, .vhold, .vmedArr, [], by decide +kernel⟩,
  ⟨{ dev := { st := .seqDown }, pwr := { down := [.rail .vddPll] } }, .vddPll, by decide +kernel⟩,
  ⟨{ dev := { st := .seqDown }, pwr := { down := [.ext 3, .rail .vhold], rails := [.vhold] } }, 3, .vhold, [], by decide +kernel⟩⟩

/-- The hypotheses of VentStandbyAndHousekeepingSteps are met. -/
theorem witness_ventStandbyAndHousekeepingSteps :
  (∃ (s : State) (g : Nat), s.venting = true ∧ g < s.nGangs ∧ 0 < (s.gang g).ventTurns ∧ s.slcOver g = true ∧ (s.rota g).ventTurn = none ∧ s.clk.phase = 0 ∧ s.ventLoaded g (ventPair (s.gang g).ventTurns) = true) ∧
  (∃ (s : State) (g : Nat) (n : Nat), s.venting = true ∧ g < s.nGangs ∧ (s.gang g).ventTurns = n + 2 ∧ (n + 2) % 10 ≠ 1 ∧ (s.rota g).ventTurn ≠ none) ∧
  (∃ (s : State) (g : Nat) (n : Nat), s.venting = true ∧ g < s.nGangs ∧ (s.gang g).ventTurns = n + 2 ∧ (n + 2) % 10 = 1 ∧ (s.rota g).ventTurn ≠ none) ∧
  (∃ (s : State) (v : VentPnv), s.pnv.ventPend = some v) ∧
  (∃ (s : State) (d : Nat), s.hk.testing = true ∧ s.hk.testStart = (s.vhold : Int) + d ∧ 2 ≤ d ∧ d * s.appFld Reg.VNT.CAP_EST.MIN_UF ≤ 81920) ∧
  (∃ (s : State) (d : Nat), s.hk.testing = true ∧ s.hk.testStart = (s.vhold : Int) + d ∧ 2 ≤ d ∧ 81920 < d * s.appFld Reg.VNT.CAP_EST.MIN_UF) ∧
  (∃ (s : State), s.hk.vholdQual = true ∧ s.hk.testing = false ∧ s.pwr.boost = true ∧ s.hk.testBell + 2 ^ 24 ≤ s.clk.bell) ∧
  (∃ (s : State) (x : HkIn), s.dev.por = true ∧ s.dev.st = .off ∧ x.channel < 111 ∧ x.channel ≠ 92 ∧ x.channel ≠ 105 ∧ x.channel ≠ 106 ∧ ((x.channel < 80 ∨ 92 < x.channel))) ∧
  (∃ (s : State) (x : DieTemp), s.dev.por = true ∧ s.dev.st = .off ∧ x.die < s.nDies) ∧
  (∃ (s : State) (us : Nat) (out : StepOut), s.dev.st = .boot ∧ s.dev.step = 4 ∧ s.dev.rotaPending = false ∧ s.outranked 4 = false ∧ us ≤ s.dev.us + stepBudget s.variant 4 ∧ out.mbist = none) ∧
  (∃ (s : State) (b : Nat) (out : StepOut), s.dev.st = .boot ∧ s.dev.step = 4 ∧ s.dev.rotaPending = false ∧ s.outranked 4 = false ∧ out.mbist = some b ∧ b < 65536) ∧
  (∃ (s : State) (us : Nat), s.dev.st = .boot ∧ s.dev.step = 5 ∧ s.dev.rotaPending = false ∧ s.outranked 4 = false ∧ us ≤ s.dev.us + stepBudget s.variant 5) :=
  ⟨⟨{ dev := { st := .vent }, gang0 := { ventTurns := 20 } }, 0, by decide +kernel⟩,
  ⟨{ dev := { st := .vent }, gang0 := { ventTurns := 20, rota := { ventTurn := some 0 } } }, 0, 18, by decide +kernel⟩,
  ⟨{ dev := { st := .vent }, gang0 := { ventTurns := 11, rota := { ventTurn := some 0 } } }, 0, 9, by decide +kernel⟩,
  ⟨{ pnv := { ventPend := some { seq := 1, epoch := 2, next := [], atRisk := false, rcd := { seq := 9, bell := 0, sev := 4, cls := 0, code := 0, page := 0, inst := 0, p1 := 0, p2 := 0, p3 := 0, rep := 0 }, fromVin := true, pages := 0, bell := 0 } } }, { seq := 1, epoch := 2, next := [], atRisk := false, rcd := { seq := 9, bell := 0, sev := 4, cls := 0, code := 0, page := 0, inst := 0, p1 := 0, p2 := 0, p3 := 0, rep := 0 }, fromVin := true, pages := 0, bell := 0 }, by decide +kernel⟩,
  ⟨{ hk := { testing := true, testStart := 2 } }, 2, by decide +kernel⟩,
  ⟨{ hk := { testing := true, vholdQual := true, testStart := 1024 } }, 1024, by decide +kernel⟩,
  ⟨{ hk := { vholdQual := true }, pwr := { boost := true }, clk := { bell := 2 ^ 24 } }, by decide +kernel⟩,
  ⟨{ dev := { por := true } }, { channel := 93, code := 5, value := 800 }, by decide +kernel⟩,
  ⟨{ dev := { por := true } }, { die := 7, code := 5, value := 650 }, by decide +kernel⟩,
  ⟨{ dev := { st := .boot, step := 4 } }, 0, {}, by decide +kernel⟩,
  ⟨{ dev := { st := .boot, step := 4 } }, 7, { mbist := some 7 }, by decide +kernel⟩,
  ⟨{ dev := { st := .boot, step := 5 } }, 0, by decide +kernel⟩⟩

/-- The hypotheses of ClocksAndBoundaries are met. -/
theorem witness_clocksAndBoundaries :
  (∃ (s : State), s.pwr.standby = true) ∧
  (∃ (s : State), s.dev.st = .service ∧ (s.tally.fifoOf 0x01).length < 2) ∧
  (∃ (s : State), s.bellRuns = true) ∧
  (∃ (s : State), s.clk.flockDue = true) ∧
  (∃ (s : State), s.clk.epochDue = true) :=
  ⟨⟨{ pwr := { standby := true } }, by decide +kernel⟩,
  ⟨{ dev := { st := .service } }, by decide +kernel⟩,
  ⟨(({} : State).setFlag Reg.BWT.CLK_STATUS.PLL_LOCKED true), by decide +kernel⟩,
  ⟨{ clk := { flockDue := true } }, by decide +kernel⟩,
  ⟨{ clk := { epochDue := true } }, by decide +kernel⟩⟩

/-- The hypotheses of ReadsThatLatch are met. -/
theorem witness_readsThatLatch :
  (∃ (s : State), s.bw.holding = false) ∧
  (∃ (s : State), s.pageOpen 0x1A (Reg.STR.BYTES_OUT_LO.word % 0x1000) = true) ∧
  (∃ (s : State) (k : Nat), k < 128 ∧ s.pageOpen 0x3C ((Reg.PMC.FIX_LO.word k) % 0x1000) = true) ∧
  (∃ (s : State) (k : Nat), k < 64 ∧ s.pageOpen 0x3C 0x200 = true ∧ s.pmc.lastRead = none) ∧
  (∃ (s : State) (level : Bool), s.flag Reg.BWT.FS_CTRL.FS_ENABLE = true ∧ level = !(s.flag Reg.BWT.FS_CTRL.FS_EDGE) ∧ s.bw.fsLevel = !level) ∧
  (∃ (s : State) (p : Nat), s.bw.fsPending = true ∧ s.bw.fsClk + s.bw.fsFilter ≤ s.clk.bell * 4096 + p % 4096 ∧ s.bw.fsLast = none) ∧
  (∃ (s : State) (p : Nat) (c : Nat), s.bw.fsPending = true ∧ s.bw.fsClk + s.bw.fsFilter ≤ s.clk.bell * 4096 + p % 4096 ∧ s.bw.fsLast = some c ∧ c + 64 ≤ s.clk.bell * 4096 + p % 4096) ∧
  (∃ (s : State), s.pmc.winStart + s.appFld Reg.PMC.WINDOW.WINDOW ≤ s.clk.bell ∧ s.pageOff 0x3C = false) :=
  ⟨⟨{}, by decide +kernel⟩,
  ⟨upSt, by decide +kernel⟩,
  ⟨upSt, 5, by decide +kernel⟩,
  ⟨upSt, 5, by decide +kernel⟩,
  ⟨(({} : State).setFlag Reg.BWT.FS_CTRL.FS_ENABLE true).setFlag Reg.BWT.FS_CTRL.FS_EDGE false |> fun s => { s with bw := { fsLevel := false } }, true, by decide +kernel⟩,
  ⟨{ bw := { fsPending := true } }, 3, by decide +kernel⟩,
  ⟨{ bw := { fsPending := true, fsLast := some 3 }, clk := { bell := 2 } }, 3, 3, by decide +kernel⟩,
  ⟨{ upSt with clk := { bell := 2 ^ 33 } }, by decide +kernel⟩⟩

/-- The hypotheses of TurnsCompleteTheirRotation are met. -/
theorem witness_turnsCompleteTheirRotation :
  (∃ (s : State) (g : Nat) (p : Nat), g < s.nGangs ∧ p % 4096 = 256 * s.slotOffset g ∧ (s.rota g).kind = .none ∧ (s.rota g).on = true ∧ (s.rota g).rotating = true ∧ s.levelNow < 2 ∧ s.margin g < 2 ∧ s.serving = true ∧ (s.at_ p).checkOver g = s.at_ p ∧ (s.rota g).idleLeft = 0 ∧ (s.rota g).pos < 20 ∧ s.loaded g (s.rota g).pos = true) ∧
  (∃ (s : State) (g : Nat) (n : Nat) (p : Nat), g < s.nGangs ∧ p % 4096 = 256 * s.slotOffset g ∧ (s.rota g).kind = .none ∧ (s.rota g).on = true ∧ (s.rota g).rotating = true ∧ s.levelNow < 2 ∧ s.margin g < 2 ∧ s.serving = true ∧ (s.at_ p).checkOver g = s.at_ p ∧ (s.rota g).idleLeft = n + 1) ∧
  (∃ (s : State) (g : Nat), g < s.nGangs ∧ (s.rota g).kind = .slc ∧ (s.rota g).ventTurn = none) ∧
  (∃ (s : State) (g : Nat), g < s.nGangs ∧ (s.rota g).kind = .tlc ∧ (s.rota g).ventTurn = none) ∧
  (∃ (s : State) (g : Nat), g < s.nGangs ∧ (s.rota g).kind = .slc ∧ (s.rota g).rotKind = .slc ∧ (s.rota g).ventTurn = none ∧ (s.gang g).placed = [] ∧ (s.gang g).sysRows = [] ∧ s.venting = true) ∧
  (∃ (s : State) (g : Nat), g < s.nGangs ∧ (s.rota g).kind = .idle ∧ s.venting = true) ∧
  (∃ (s : State) (g : Nat), g < s.nGangs ∧ (s.rota g).kind = .idle ∧ (s.rota g).rotating = true ∧ s.venting = false ∧ s.turnsBlocked g = true) ∧
  (∃ (s : State) (g : Nat) (b : Nat), g < s.nGangs ∧ (s.gang g).ended = true ∧ (s.rota g).lastKind = .tlc ∧ (s.gang g).fold.band = some b ∧ (s.gang g).fold.rots < 15) ∧
  (∃ (s : State) (g : Nat), g < s.nGangs ∧ (s.gang g).ended = true ∧ (s.rota g).lastKind ≠ .tlc ∧ s.ubReserve = true) :=
  ⟨⟨{ upSt with gang0 := { rota := { on := true, rotating := true, rotKind := .slc, pos := 4 } } }, 0, 0, by decide +kernel⟩,
  ⟨{ upSt with gang0 := { rota := { on := true, rotating := true, pos := 20, idleLeft := 2 } } }, 0, 1, 0, by decide +kernel⟩,
  ⟨{ upSt with gang0 := { rota := { kind := .slc, rotKind := .slc, rotating := true, pos := 3 } } }, 0, by decide +kernel⟩,
  ⟨{ upSt with gang0 := { rota := { kind := .tlc, rotKind := .tlc, rotating := true, pos := 3 } } }, 0, by decide +kernel⟩,
  ⟨{ dev := { st := .vent }, gang0 := { rota := { kind := .slc, rotKind := .slc, pos := 3 } } }, 0, by decide +kernel⟩,
  ⟨{ dev := { st := .vent }, gang0 := { rota := { kind := .idle } } }, 0, by decide +kernel⟩,
  ⟨{ dev := { st := .service }, gang0 := { rota := { on := false, rotating := true, kind := .idle } } }, 0, by decide +kernel⟩,
  ⟨{ gang0 := { ended := true, rota := { lastKind := .tlc }, fold := { band := some 4 } } }, 0, 4, by decide +kernel⟩,
  ⟨{ upSt with gang0 := { ended := true, rota := { lastKind := .slc }, ending := [{ paddock := 4, row := 0, segs := [{ lseg := 9, group := none, secs := [], snap := none, cmp := none, region := none }] }] } }, 0, by decide +kernel⟩⟩

/-- The hypotheses of HostMemoryRequestsComplete are met. -/
theorem witness_hostMemoryRequestsComplete :
  (∃ (s : State) (hpa : Nat) (p : Nat), s.memOpen = true ∧ (s.at_ p).reqCredit = true ∧ s.inHdm hpa = true ∧ dpaCart (s.hdmDpa hpa) = none ∧ s.checkDpa clsHost false false (s.hdmDpa hpa) (s.hdmKeyid hpa) = 0 ∧ s.cached (l1pOf (s.hdmDpa hpa / 64 * 64)) (s.hdmDpa hpa / 64 * 64) false (s.hdmKeyid hpa) = none ∧ s.cached 0 (s.hdmDpa hpa / 64 * 64) false (s.hdmKeyid hpa) = none) ∧
  (∃ (s : State) (hpa : Nat) (p : Nat), s.memOpen = true ∧ (s.at_ p).reqCredit = true ∧ s.inHdm hpa = true ∧ dpaCart (s.hdmDpa hpa) = none ∧ s.checkDpa clsHost false false (s.hdmDpa hpa) (s.hdmKeyid hpa) = 0 ∧ s.cached (l1pOf (s.hdmDpa hpa / 64 * 64)) (s.hdmDpa hpa / 64 * 64) false (s.hdmKeyid hpa) = none ∧ s.cached 0 (s.hdmDpa hpa / 64 * 64) false (s.hdmKeyid hpa) = none) ∧
  (∃ (s : State) (hpa : Nat) (tag : Nat) (i : Nat), s.memOpen = true ∧ s.rwdCredit = true ∧ s.inHdm hpa = true ∧ s.checkDpa clsHost true false (s.hdmDpa hpa) (s.hdmKeyid hpa) = 0 ∧ s.regionOf (dpaPaddock (s.hdmDpa hpa)) = some i ∧ (s.region i).strict = false ∧ (s.region i).grouped = false ∧ s.xlt.staged = [] ∧ s.hk.vholdQual = true ∧ s.link.held = [] ∧ 0 < s.link.ndr ∧ tag < 2 ^ 16) ∧
  (∃ (s : State) (hpa : Nat) (tag : Nat) (i : Nat) (m : Mask), s.memOpen = true ∧ s.rwdCredit = true ∧ s.inHdm hpa = true ∧ s.checkDpa clsHost true false (s.hdmDpa hpa) (s.hdmKeyid hpa) = 0 ∧ s.regionOf (dpaPaddock (s.hdmDpa hpa)) = some i ∧ (s.region i).strict = false ∧ (s.region i).grouped = false ∧ s.xlt.staged = [] ∧ s.hk.vholdQual = true ∧ s.link.held = [] ∧ 0 < s.link.ndr ∧ tag < 2 ^ 16 ∧ m ≠ 0) ∧
  (∃ (s : State) (hpa : Nat) (tag : Nat), s.memOpen = true ∧ s.rwdCredit = true ∧ s.inHdm hpa = true ∧ s.checkDpa clsHost true false (s.hdmDpa hpa) (s.hdmKeyid hpa) = 0 ∧ s.link.held = [] ∧ 0 < s.link.ndr ∧ tag < 2 ^ 16) ∧
  (∃ (s : State) (tag : Nat) (p : Nat), s.memOpen = true ∧ (s.at_ p).reqCredit = true ∧ s.link.held = [] ∧ 0 < s.link.ndr ∧ tag < 2 ^ 16) ∧
  (∃ (s : State) (tag : Nat) (p : Nat), s.memOpen = true ∧ (s.at_ p).reqCredit = true ∧ s.link.held = [] ∧ 0 < s.link.ndr ∧ tag < 2 ^ 16) ∧
  (∃ (s : State) (p : Nat), s.memOpen = true ∧ (s.at_ p).reqCredit = true) ∧
  (∃ (s : State) (tag : Nat), s.memOpen = true ∧ s.rwdCredit = true ∧ s.link.held = [] ∧ 0 < s.link.ndr ∧ tag < 2 ^ 16) ∧
  (∃ (s : State) (tag : Nat) (p : Nat), s.memOpen = true ∧ (s.at_ p).reqCredit = true ∧ s.link.held = [] ∧ 0 < s.link.drs ∧ tag < 2 ^ 16) ∧
  (∃ (s : State), s.memOpen = true) ∧
  (∃ (s : State), s.memOpen = true ∧ s.link.held = []) ∧
  (∃ (s : State), s.memOpen = true ∧ s.link.held = []) :=
  ⟨⟨hostSt, 4096, 5, by decide +kernel⟩,
  ⟨hostSt, 4096, 5, by decide +kernel⟩,
  ⟨{ hostSt with bw := { holding := true } }, 4096, 7, 0, by decide +kernel⟩,
  ⟨{ hostSt with bw := { holding := true } }, 4096, 7, 0, 3, by decide +kernel⟩,
  ⟨hostSt, 4096, 7, by decide +kernel⟩,
  ⟨hostSt, 7, 5, by decide +kernel⟩,
  ⟨hostSt, 7, 5, by decide +kernel⟩,
  ⟨hostSt, 5, by decide +kernel⟩,
  ⟨hostSt, 7, by decide +kernel⟩,
  ⟨hostSt, 7, 5, by decide +kernel⟩,
  ⟨hostSt, by decide +kernel⟩,
  ⟨hostSt, by decide +kernel⟩,
  ⟨hostSt, by decide +kernel⟩⟩

/-- The hypotheses of LookupsAndSensesComplete are met. -/
theorem witness_lookupsAndSensesComplete :
  (∃ (s : State) (r : Rd) (n : Nat) (p : Nat), s.rd n = some r ∧ r.st = .miss ∧ (s.clk.bell * 4096 + p % 4096) % s.lookupStep r.cls = 0 ∧ r.missAt ≤ (s.clk.bell * 4096 + p % 4096) ∧ (s.clk.bell * 4096 + p % 4096) < r.missAt + s.lookupStep r.cls) ∧
  (∃ (s : State) (r : Rd) (n : Nat) (p : Nat) (sc : List SymErr) (map : List SymErr), s.rd n = some r ∧ r.st = .looked ∧ (s.clk.bell * 4096 + p % 4096) = r.look + 212 ∧ s.stagedHit r = false ∧ s.scHit r = none ∧ (s.mapOf r.lseg).st = .caldera ∧ (r.lseg / 16) ∉ s.dram.badMap ∧ s.mapErr r map = .good ∧ s.scErr r sc = .good) ∧
  (∃ (s : State) (r : Rd) (n : Nat) (p : Nat) (sc : List SymErr) (map : List SymErr), s.rd n = some r ∧ r.st = .looked ∧ (s.clk.bell * 4096 + p % 4096) = r.look + 212 ∧ s.stagedHit r = false ∧ s.scHit r = none ∧ s.mapErr r map = .bad ∧ s.scErr r sc = .good) ∧
  (∃ (s : State) (r : Rd) (n : Nat) (p : Nat) (sc : List SymErr) (map : List SymErr), s.rd n = some r ∧ r.st = .relook ∧ (s.clk.bell * 4096 + p % 4096) = r.look + (if s.throttled r.cls then 256 else 224) ∧ r.mapBad = true ∧ r.scBad = false ∧ s.stagedHit r = false ∧ s.scHit r = none ∧ (s.mapOf r.lseg).st = .caldera ∧ (r.lseg / 16) ∉ s.dram.badMap ∧ s.mapErr { r with st := .looked, look := (s.clk.bell * 4096 + p % 4096), arrive := (s.clk.bell * 4096 + p % 4096) + 236 } map = .good ∧ s.scErr { r with st := .looked, look := (s.clk.bell * 4096 + p % 4096), arrive := (s.clk.bell * 4096 + p % 4096) + 236 } sc = .good) ∧
  (∃ (s : State) (r : Rd) (n : Nat) (p : Nat), s.rd n = some r ∧ r.st = .bound ∧ r.arrive ≤ (s.clk.bell * 4096 + p % 4096) ∧ (s.clk.bell * 4096 + p % 4096) = (s.at_ p).nextR (psaGang r.psa) r.arrive) ∧
  (∃ (s : State) (r : Rd) (n : Nat) (k : Nat) (tag : Nat) (p : Nat) (x : Sensed), s.rd n = some r ∧ r.st = .sensing ∧ r.who = .host tag ∧ r.sectors = [k] ∧ r.outs = [] ∧ r.fails = [] ∧ r.start + r.len ≤ (s.clk.bell * 4096 + p % 4096) ∧ s.margin (psaGang r.psa) < 3 ∧ ((s.at_ p).attempt r.sensing k x (r.er ++ s.failedOf (psaGang r.psa)).eraseDups none).out.ok = true) ∧
  (∃ (s : State) (r : Rd) (n : Nat) (p : Nat), s.rd n = some r ∧ r.st = .second ∧ (s.clk.bell * 4096 + p % 4096) = (s.at_ p).retryAt r) ∧
  (∃ (s : State) (r : Rd) (n : Nat) (p : Nat), s.rd n = some r ∧ r.st = .reread ∧ (s.clk.bell * 4096 + p % 4096) = (s.at_ p).nextR (psaGang r.psa) (max r.turnEnd (r.s1 + r.len + 50))) :=
  ⟨⟨{ upSt with reads := { list := [{ id := 3, who := .host 1, dpa := 256, keyid := 0, acc := 0, missAt := 46, sectors := [1] }] } }, { id := 3, who := .host 1, dpa := 256, keyid := 0, acc := 0, missAt := 46, sectors := [1] }, 3, 64, by decide +kernel⟩,
  ⟨{ upSt with reads := { list := [{ id := 3, who := .host 1, dpa := 256, keyid := 0, acc := 0, missAt := 46, look := 64, st := .looked, sectors := [1] }] }, xlt := { map := [(0, { st := .caldera, psa := 99 })] } }, { id := 3, who := .host 1, dpa := 256, keyid := 0, acc := 0, missAt := 46, look := 64, st := .looked, sectors := [1] }, 3, 276, [], [], by decide +kernel⟩,
  ⟨{ upSt with reads := { list := [{ id := 3, who := .host 1, dpa := 256, keyid := 0, acc := 0, missAt := 46, look := 64, st := .looked, sectors := [1] }] }, dram := { bitmap := [(2 ^ 24, true)] } }, { id := 3, who := .host 1, dpa := 256, keyid := 0, acc := 0, missAt := 46, look := 64, st := .looked, sectors := [1] }, 3, 276, [], [{ pos := 0, add := 1 }, { pos := 1, add := 1 }], by decide +kernel⟩,
  ⟨{ upSt with reads := { list := [{ id := 3, who := .host 1, dpa := 256, keyid := 0, acc := 0, missAt := 46, look := 64, st := .relook, mapBad := true, sectors := [1] }] }, xlt := { map := [(0, { st := .caldera, psa := 99 })] } }, { id := 3, who := .host 1, dpa := 256, keyid := 0, acc := 0, missAt := 46, look := 64, st := .relook, mapBad := true, sectors := [1] }, 3, 288, [], [], by decide +kernel⟩,
  ⟨{ upSt with reads := { list := [{ id := 3, who := .host 1, dpa := 256, keyid := 0, acc := 0, missAt := 46, look := 64, arrive := 300, st := .bound, sectors := [1] }] } }, { id := 3, who := .host 1, dpa := 256, keyid := 0, acc := 0, missAt := 46, look := 64, arrive := 300, st := .bound, sectors := [1] }, 3, 512, by decide +kernel⟩,
  ⟨{ upSt with reads := { list := [{ id := 3, who := .host 1, dpa := 0, keyid := 0, acc := 0, missAt := 46, look := 64, arrive := 300, st := .sensing, s1 := 512, sectors := [0] }] } }, { id := 3, who := .host 1, dpa := 0, keyid := 0, acc := 0, missAt := 46, look := 64, arrive := 300, st := .sensing, s1 := 512, sectors := [0] }, 3, 0, 1, 2000, {}, by decide +kernel⟩,
  ⟨{ upSt with reads := { list := [{ id := 3, who := .host 1, dpa := 0, keyid := 0, acc := 0, missAt := 46, look := 64, arrive := 300, st := .second, s1 := 512, sectors := [0] }] } }, { id := 3, who := .host 1, dpa := 0, keyid := 0, acc := 0, missAt := 46, look := 64, arrive := 300, st := .second, s1 := 512, sectors := [0] }, 3, 1536, by decide +kernel⟩,
  ⟨{ upSt with reads := { list := [{ id := 3, who := .host 1, dpa := 0, keyid := 0, acc := 0, missAt := 46, look := 64, arrive := 300, st := .reread, s1 := 512, sectors := [0] }] } }, { id := 3, who := .host 1, dpa := 0, keyid := 0, acc := 0, missAt := 46, look := 64, arrive := 300, st := .reread, s1 := 512, sectors := [0] }, 3, 1536, by decide +kernel⟩⟩

/-- The hypotheses of BackgroundSensesComplete are met. -/
theorem witness_backgroundSensesComplete :
  (∃ (s : State) (g : Nat) (p : Nat), (s.at_ p).bgOpen g = true ∧ (((s.at_ p).bgPick g).1).isSome = true) ∧
  (∃ (s : State) (b : Bg) (n : Nat) (p : Nat), s.bgOf n = some b ∧ b.work = .shepherd ∧ b.failed = false ∧ b.ready ≤ (s.clk.bell * 4096 + p % 4096)) ∧
  (∃ (s : State) (b : Bg) (n : Nat) (p : Nat) (i : Nat), s.bgOf n = some b ∧ b.work = .oldRead i ∧ b.failed = false ∧ b.ready ≤ (s.clk.bell * 4096 + p % 4096)) ∧
  (∃ (s : State) (b : Bg) (n : Nat) (p : Nat) (i : Nat) (j : Nat), s.bgOf n = some b ∧ b.work = .foldSource i j ∧ b.failed = false ∧ b.ready ≤ (s.clk.bell * 4096 + p % 4096)) ∧
  (∃ (s : State) (b : Bg) (n : Nat) (p : Nat) (i : Nat) (j : Nat), s.bgOf n = some b ∧ b.work = .foldVerify i j ∧ b.failed = false ∧ b.ready ≤ (s.clk.bell * 4096 + p % 4096)) ∧
  (∃ (s : State) (b : Bg) (n : Nat) (p : Nat) (l : List Nat), s.bgOf n = some b ∧ b.work = .rewrite l ∧ b.failed = false ∧ b.ready ≤ (s.clk.bell * 4096 + p % 4096)) ∧
  (∃ (s : State) (b : Bg) (n : Nat) (p : Nat) (i : Nat) (j : Nat), s.bgOf n = some b ∧ b.work = .rebuild i j ∧ b.failed = false ∧ b.ready ≤ (s.clk.bell * 4096 + p % 4096)) ∧
  (∃ (s : State) (b : Bg) (n : Nat) (p : Nat) (i : Nat) (j : Nat), s.bgOf n = some b ∧ b.work = .padVerify i j ∧ b.failed = false ∧ b.ready ≤ (s.clk.bell * 4096 + p % 4096)) ∧
  (∃ (s : State) (b : Bg) (n : Nat) (p : Nat), s.bgOf n = some b ∧ b.failed = true ∧ b.known ≤ (s.clk.bell * 4096 + p % 4096) ∧ (s.at_ p).atB (psaGang b.psa) = true ∧ (s.at_ p).crossesTurn (psaGang b.psa) b.psa = false ∧ s.levelNow < 2 ∧ (s.at_ p).bgHeld (psaGang b.psa) ≤ 16) :=
  ⟨⟨{ upSt with xlt := { snaps := [{ id := 2, lseg := 0, group := none, lines := [(1, { data := 5, mask := 1 })] }], map := [(0, { st := .caldera, psa := 0 })], rev := [(0, { st := .live, lseg := 0 })] } }, 0, 1280, by decide +kernel⟩,
  ⟨{ upSt with clk := { bell := 3 }, reads := { bg := [{ id := 4, work := .shepherd, psa := 0, lseg := 0, start := 100, slc := false, er := [], progDies := [], bank := 0, bin := 0, classes := [] }] } }, { id := 4, work := .shepherd, psa := 0, lseg := 0, start := 100, slc := false, er := [], progDies := [], bank := 0, bin := 0, classes := [] }, 4, 0, by decide +kernel⟩,
  ⟨{ upSt with clk := { bell := 3 }, reads := { bg := [{ id := 4, work := (.oldRead 1), psa := 0, lseg := 0, start := 100, slc := false, er := [], progDies := [], bank := 0, bin := 0, classes := [] }] } }, { id := 4, work := (.oldRead 1), psa := 0, lseg := 0, start := 100, slc := false, er := [], progDies := [], bank := 0, bin := 0, classes := [] }, 4, 0, 1, by decide +kernel⟩,
  ⟨{ upSt with clk := { bell := 3 }, reads := { bg := [{ id := 4, work := (.foldSource 0 3), psa := 0, lseg := 0, start := 100, slc := false, er := [], progDies := [], bank := 0, bin := 0, classes := [] }] } }, { id := 4, work := (.foldSource 0 3), psa := 0, lseg := 0, start := 100, slc := false, er := [], progDies := [], bank := 0, bin := 0, classes := [] }, 4, 0, 0, 3, by decide +kernel⟩,
  ⟨{ upSt with clk := { bell := 3 }, reads := { bg := [{ id := 4, work := (.foldVerify 0 3), psa := 0, lseg := 0, start := 100, slc := false, er := [], progDies := [], bank := 0, bin := 0, classes := [] }] } }, { id := 4, work := (.foldVerify 0 3), psa := 0, lseg := 0, start := 100, slc := false, er := [], progDies := [], bank := 0, bin := 0, classes := [] }, 4, 0, 0, 3, by decide +kernel⟩,
  ⟨{ upSt with clk := { bell := 3 }, reads := { bg := [{ id := 4, work := (.rewrite []), psa := 0, lseg := 0, start := 100, slc := false, er := [], progDies := [], bank := 0, bin := 0, classes := [] }] } }, { id := 4, work := (.rewrite []), psa := 0, lseg := 0, start := 100, slc := false, er := [], progDies := [], bank := 0, bin := 0, classes := [] }, 4, 0, [], by decide +kernel⟩,
  ⟨{ upSt with clk := { bell := 3 }, reads := { bg := [{ id := 4, work := (.rebuild 9 3), psa := 0, lseg := 0, start := 100, slc := false, er := [], progDies := [], bank := 0, bin := 0, classes := [] }] } }, { id := 4, work := (.rebuild 9 3), psa := 0, lseg := 0, start := 100, slc := false, er := [], progDies := [], bank := 0, bin := 0, classes := [] }, 4, 0, 9, 3, by decide +kernel⟩,
  ⟨{ upSt with clk := { bell := 3 }, reads := { bg := [{ id := 4, work := (.padVerify 0 3), psa := 0, lseg := 0, start := 100, slc := false, er := [], progDies := [], bank := 0, bin := 0, classes := [] }] } }, { id := 4, work := (.padVerify 0 3), psa := 0, lseg := 0, start := 100, slc := false, er := [], progDies := [], bank := 0, bin := 0, classes := [] }, 4, 0, 0, 3, by decide +kernel⟩,
  ⟨{ upSt with clk := { bell := 3 }, reads := { bg := [{ id := 4, work := .shepherd, psa := 0, lseg := 0, start := 100, slc := false, er := [], progDies := [], bank := 0, bin := 0, classes := [], failed := true, imgs := List.replicate 16 {} }] } }, { id := 4, work := .shepherd, psa := 0, lseg := 0, start := 100, slc := false, er := [], progDies := [], bank := 0, bin := 0, classes := [], failed := true, imgs := List.replicate 16 {} }, 4, 1280, by decide +kernel⟩⟩

/-- The hypotheses of RepairsComplete are met. -/
theorem witness_repairsComplete :
  (∃ (s : State) (n : Nat) (p : Nat) (flips : Chunk) (c : Confirm), s.xlt.confirms[n]? = some c ∧ (s.at_ p).shortOpen c.die c.psa = true ∧ s.dieFailed c.die = false ∧ s.chunk c.psa c.sector (dieLocal c.die) ^^^ flips = c.chunk) ∧
  (∃ (s : State) (n : Nat) (p : Nat) (flips : Chunk) (c : Confirm), s.xlt.confirms[n]? = some c ∧ (s.at_ p).shortOpen c.die c.psa = true ∧ s.dieFailed c.die = false ∧ c.die < 40 ∧ s.chunk c.psa c.sector (dieLocal c.die) ^^^ flips ≠ c.chunk ∧ s.fld (Reg.MED.DIE_FAULTS.FLOCK_LASTING (dieStack c.die) (diePos c.die)) < 7) ∧
  (∃ (s : State) (g : Nat) (n : Nat) (p : Nat) (x : Sensed) (c : CatchUp), g < s.nGangs ∧ (s.gang g).shep.catchUps[n]? = some c ∧ (s.at_ p).shortOpen c.die c.psa = true ∧ s.dieFailed c.die = false ∧ (∀ k ∈ List.range 16, (x.parityOf k []).contains (dieLocal c.die) = false ∧ s.chunk c.psa k (dieLocal c.die) ^^^ x.flipsAt k (dieLocal c.die) = c.chunks.getD k 0)) ∧
  (∃ (s : State) (d : Nat) (p : Nat), s.dieFailed d = true ∧ (s.at_ p).senseOn d = false) ∧
  (∃ (s : State) (g : Nat) (q : Nat) (i : Nat) (b : Nat), s.xlt.waking.find? (fun w => decide (w.2.2 + 10 = b)) = some (g, q, i) ∧ g < s.nGangs ∧ (s.band g (q / 3)).st = .caldera) ∧
  (∃ (s : State) (b : Nat), s.xlt.waking.find? (fun w => decide (w.2.2 + 10 = b)) = none) :=
  ⟨⟨{ upSt with xlt := { confirms := [{ die := 2, psa := 0, sector := 0, chunk := 5 }] } }, 0, 1280, 5, { die := 2, psa := 0, sector := 0, chunk := 5 }, by decide +kernel⟩,
  ⟨{ upSt with xlt := { confirms := [{ die := 2, psa := 0, sector := 0, chunk := 5 }] } }, 0, 1280, 9, { die := 2, psa := 0, sector := 0, chunk := 5 }, by decide +kernel⟩,
  ⟨{ upSt with gang0 := { shep := { catchUps := [{ die := 2, psa := 0, chunks := [] }] } } }, 0, 0, 1280, {}, { die := 2, psa := 0, chunks := [] }, by decide +kernel⟩,
  ⟨(({} : State).setFld (Reg.MED.FAILED_MAP.FAILED 0) 4), 2, 7, by decide +kernel⟩,
  ⟨{ upSt with xlt := { waking := [(0, 4, 2)], bands := [(1, { st := .caldera })] } }, 0, 4, 2, 12, by decide +kernel⟩,
  ⟨{ upSt with srm := { waking := [3] } }, 3, by decide +kernel⟩⟩

/-- The hypotheses of TranslationWorkCompletes are met. -/
theorem witness_translationWorkCompletes :
  (∃ (s : State) (l : Nat) (gr : Option Nat) (p : Nat), s.working = true ∧ s.segLines l gr ≠ [] ∧ (s.draining = true ∨ s.lastWrite (l, gr) + 4096 * s.stageAge ≤ (s.clk.bell * 4096 + p % 4096))) ∧
  (∃ (s : State) (x : Snap), s.xlt.snaps.find? (fun y => y.id = x.id) = some x ∧ s.working = true ∧ x.st = .waiting ∧ (((s.buildFrom x).2).placed = false ∨ ((s.buildFrom x).1).old.isSome = true) ∧ s.buildBlocked (s.buildFrom x).1 = false ∧ s.advWaits (s.buildFrom x).1 = false ∧ (((s.buildFrom x).1).adv.isSome = true ∨ ∀ k ∈ List.range 16, s.needsAdvance (s.buildFrom x).1 (s.buildFrom x).2 k = false)) ∧
  (∃ (s : State) (g : Nat) (p : Nat) (b : RowBatch), g < s.nGangs ∧ s.working = true ∧ (s.gang g).batches.getLast? = some b ∧ b.ready = false ∧ (s.draining = true ∨ b.joined + 4096 * s.stageAge ≤ (s.clk.bell * 4096 + p % 4096))) ∧
  (∃ (s : State) (g : Nat) (b : Nat), g < s.nGangs ∧ (s.gang g).fold.vband = some b ∧ (s.gang g).fold.vdone = (s.gang g).fold.vsegs.length ∧ (s.gang g).fold.vnext = (s.gang g).fold.vsegs.length ∧ s.ubReserve = true ∧ s.tailRoom ((s.gang g).fold.vsegs.length + 1) = true ∧ (s.gang g).fold.vwait = []) ∧
  (∃ (s : State) (g : Nat) (b : Nat) (v : Nat × List FoldSeg × Nat) (vs : List (Nat × List FoldSeg × Nat)), g < s.nGangs ∧ (s.gang g).fold.vband = some b ∧ (s.gang g).fold.vdone = (s.gang g).fold.vsegs.length ∧ (s.gang g).fold.vnext = (s.gang g).fold.vsegs.length ∧ s.ubReserve = true ∧ s.tailRoom ((s.gang g).fold.vsegs.length + 1) = true ∧ (s.gang g).fold.vwait = v :: vs) ∧
  (∃ (s : State) (q : List Nat), s.working = true ∧ s.draining = false ∧ s.writable ≠ [] ∧ q = ((s.xlt.tail.filter (fun b => b.closed && !b.queued)).take 16).map (fun b => b.seq) ∧ q.length = 16 ∧ (s.queueCopy 0 q).1 = true ∧ ((s.queueCopy 0 q).2.queueCopy 1 q).1 = true) ∧
  (∃ (s : State) (i : Nat), 0 < (s.gen i).advancing) ∧
  (∃ (s : State) (i : Nat), (s.gen i).passActive = true ∧ (s.gen i).passTarget = (s.gen i).cur ∧ s.passRegion = some i ∧ s.serving = true ∧ s.passOver i = true) :=
  ⟨⟨{ upSt with xlt := { staged := [(stKey 3 none, { data := 5, mask := 3 })] }, clk := { bell := 2 ^ 33 } }, 0, none, 0, by decide +kernel⟩,
  ⟨{ upSt with prot := { regions := [(0, { valid := true, first := 0, last := 9, rights := 0xFF })] }, hk := { vholdQual := true }, xlt := { snaps := [{ id := 5, lseg := 0, group := none, lines := [(1, { data := 5, mask := 3 })] }] } }, { id := 5, lseg := 0, group := none, lines := [(1, { data := 5, mask := 3 })] }, by decide +kernel⟩,
  ⟨{ upSt with gang0 := { batches := [{ segs := [], joined := 0 }] }, clk := { bell := 2 ^ 33 } }, 0, 0, { segs := [], joined := 0 }, by decide +kernel⟩,
  ⟨{ upSt with gang0 := { fold := { vband := some 3 } } }, 0, 3, by decide +kernel⟩,
  ⟨{ upSt with gang0 := { fold := { vband := some 3, vwait := [(4, [], 5)] } } }, 0, 3, (4, [], 5), [], by decide +kernel⟩,
  ⟨{ upSt with hk := { vholdQual := true }, xlt := { tail := (List.range 17).map (fun i => { seq := i, recs := [], closed := true }) } }, List.range 16, by decide +kernel⟩,
  ⟨{ upSt with prot := { gens := [(2, { cur := 4, advancing := 1 })] } }, 2, by decide +kernel⟩,
  ⟨{ upSt with prot := { regions := [(2, { valid := true, first := 0, last := 0, rights := 0xFF })], gens := [(2, { cur := 4, passActive := true, passTarget := 4, passPos := 4096 })] } }, 2, by decide +kernel⟩⟩

/-- The hypotheses of GroupsTrimQueryAndDriftComplete are met. -/
theorem witness_groupsTrimQueryAndDriftComplete :
  (∃ (s : State) (g : Nat), s.working = true ∧ (s.group g).st = .draining ∧ s.xlt.snaps = [] ∧ s.anyBuild (fun b => b.group = some g) = false) ∧
  (∃ (s : State) (g : Nat), s.working = true ∧ (s.group g).st = .committed ∧ s.ubReserve = true) ∧
  (∃ (s : State), s.xlt.trim.busy = true ∧ s.xlt.trim.walked = false) ∧
  (∃ (s : State), s.working = true ∧ s.xlt.trim.busy = true ∧ s.xlt.trim.walked = true ∧ s.ubReserve = true) ∧
  (∃ (s : State) (l : Nat), s.xlt.query = some l ∧ s.queryWord l < 2 ^ 32) ∧
  (∃ (s : State), s.clk.bell % 64 = 62 ∧ s.pwr.ctrlOn = true) ∧
  (∃ (s : State), s.clk.bell % 64 = 62 ∧ s.pwr.ctrlOn = true ∧ ((s.serving = false ∨ s.appFld Reg.DRF.CTRL.TRACK_ENABLE = 0))) ∧
  (∃ (s : State) (c : Nat) (p : Nat), s.drift.inspect = some c ∧ c + 16 ≤ (s.clk.bell * 4096 + p % 4096)) :=
  ⟨⟨{ upSt with xlt := { groups := [(2, { st := .draining })] } }, 2, by decide +kernel⟩,
  ⟨{ upSt with xlt := { groups := [(2, { st := .committed, pend := [(4, { st := .caldera, psa := 9 })] })] } }, 2, by decide +kernel⟩,
  ⟨{ xlt := { trim := { busy := true, count := 3 } } }, by decide +kernel⟩,
  ⟨{ upSt with xlt := { trim := { busy := true, count := 3, walked := true }, map := [(1, { st := .caldera, psa := 9 })] } }, by decide +kernel⟩,
  ⟨{ upSt with xlt := { query := some 4 } }, 4, by decide +kernel⟩,
  ⟨{ upSt with clk := { bell := 62 } }, by decide +kernel⟩,
  ⟨{ upSt with clk := { bell := 62 }, applied := SMap.set (regReset .v35A) [] Reg.DRF.CTRL.TRACK_ENABLE.addr 0 }, by decide +kernel⟩,
  ⟨{ upSt with drift := { inspect := some 4 } }, 4, 20, by decide +kernel⟩⟩

/-- The hypotheses of HeaderCommandsComplete are met. -/
theorem witness_headerCommandsComplete :
  (∃ (s : State) (p : Nat) (src : Source), s.pageOpen p 8 = true ∧ src ≠ .i3c ∧ s.pageState p = 1 ∧ s.cfgLock p = false) ∧
  (∃ (s : State) (p : Nat) (src : Source), s.pageOpen p 8 = true ∧ src ≠ .i3c ∧ s.pageState p ≠ 3 ∧ s.cfgLock p = false) ∧
  (∃ (s : State) (p : Nat) (src : Source), s.pageOpen p 0x18 = true ∧ src ≠ .i3c ∧ s.cmdLock p = false) ∧
  (∃ (s : State) (p : Nat) (src : Source) (w : Word), s.pageOpen p 0x2C = true ∧ src ≠ .i3c ∧ bitsOf w.toNat 15 8 = 0x4C) ∧
  (∃ (s : State) (p : Nat) (src : Source), s.pageOpen p 0x14 = true ∧ src ≠ .i3c) :=
  ⟨⟨upSt, 0x18, .host, by decide +kernel⟩,
  ⟨upSt, 0x0B, .host, by decide +kernel⟩,
  ⟨upSt, 0x0B, .host, by decide +kernel⟩,
  ⟨upSt, 0x0B, .host, 0x80004C00#32, by decide +kernel⟩,
  ⟨upSt, 0x0B, .host, by decide +kernel⟩⟩

/-- The hypotheses of TranslationAndDriftWritesComplete are met. -/
theorem witness_translationAndDriftWritesComplete :
  (∃ (s : State) (src : Source), s.pageOpen 0x01 0x90 = true ∧ s.cfgLock 0x01 = false ∧ src ≠ .i3c) ∧
  (∃ (s : State) (src : Source) (w : Word) (st : Nat), s.pageOpen (4 + st) 0x44 = true ∧ s.cmdLock (4 + st) = false ∧ src ≠ .i3c ∧ bitsOf w.toNat 15 8 = 0xA5 ∧ st < 5) ∧
  (∃ (s : State) (src : Source) (w : Word) (i : Nat), s.pageOpen 0x0B 0x70 = true ∧ s.cmdLock 0x0B = false ∧ src ≠ .i3c ∧ s.openGroup (bitsOf w.toNat 7 0) = some i ∧ (s.group i).st = .opened) ∧
  (∃ (s : State) (src : Source) (w : Word) (i : Nat), s.pageOpen 0x0B 0x70 = true ∧ s.cmdLock 0x0B = false ∧ src ≠ .i3c ∧ s.openGroup (bitsOf w.toNat 7 0) = some i ∧ (s.group i).st = .opened ∧ (s.region (s.group i).region).keyed = false) ∧
  (∃ (s : State) (src : Source) (w : Word), s.pageOpen 0x0B 0x68 = true ∧ s.cmdLock 0x0B = false ∧ src ≠ .i3c ∧ bitsOf w.toNat 15 8 = 0x5A ∧ s.fld Reg.XLT.TRIM_COUNT.COUNT ≠ 0 ∧ s.fld Reg.XLT.TRIM_START.FIRST + s.fld Reg.XLT.TRIM_COUNT.COUNT ≤ s.fld Reg.XLT.USER_SEGS.USER_SEGS ∧ s.xlt.trim.busy = false ∧ (s.regionsIn (s.fld Reg.XLT.TRIM_START.FIRST) (s.fld Reg.XLT.TRIM_COUNT.COUNT)).any s.hasGroup = false) ∧
  (∃ (s : State) (src : Source), s.pageOpen 0x0B 0x58 = true ∧ s.cfgLock 0x0B = false ∧ src ≠ .i3c) ∧
  (∃ (s : State) (src : Source), s.pageOpen 0x0E 0x54 = true ∧ s.cmdLock 0x0E = false ∧ src ≠ .i3c) ∧
  (∃ (s : State) (src : Source), s.pageOpen 0x0E 0xC0 = true ∧ s.cfgLock 0x0E = false ∧ src ≠ .i3c) :=
  ⟨⟨upSt, .host, by decide +kernel⟩,
  ⟨upSt, .host, 0xA50C#32, 1, by decide +kernel⟩,
  ⟨{ upSt with xlt := { groups := [(2, { st := .opened, region := 3 })] } }, .host, 3#32, 2, by decide +kernel⟩,
  ⟨{ upSt with xlt := { groups := [(2, { st := .opened, region := 3 })] } }, .host, 3#32, 2, by decide +kernel⟩,
  ⟨(upSt.setFld Reg.XLT.USER_SEGS.USER_SEGS 100).setFld Reg.XLT.TRIM_COUNT.COUNT 4, .host, 0x5A01#32, by decide +kernel⟩,
  ⟨upSt, .host, by decide +kernel⟩,
  ⟨upSt, .host, by decide +kernel⟩,
  ⟨upSt, .host, by decide +kernel⟩⟩

/-- The hypotheses of MaintenanceLinkAndKeyWritesComplete are met. -/
theorem witness_maintenanceLinkAndKeyWritesComplete :
  (∃ (s : State) (src : Source) (w : Word), s.pageOpen 0x11 0x4C = true ∧ s.cmdLock 0x11 = false ∧ src ≠ .i3c ∧ bitsOf w.toNat 29 28 = 0 ∧ bitsOf w.toNat 27 24 ≠ 15 ∧ s.caches.maint = none ∧ ((s.flag Reg.L2C.MAINT_ADDR_HI.SPACE = false ∨ s.fld Reg.L2C.MAINT_ADDR_HI.KEYID = 0))) ∧
  (∃ (s : State) (src : Source) (w : Word), s.pageOpen 0x11 0x4C = true ∧ s.cmdLock 0x11 = false ∧ src ≠ .i3c ∧ bitsOf w.toNat 29 28 = 1 ∧ bitsOf w.toNat 27 24 ≠ 15 ∧ s.caches.maint = none ∧ s.fld Reg.L2C.MAINT_SETWAY.WAY < cacheWays (bitsOf w.toNat 27 24) ∧ s.fld Reg.L2C.MAINT_SETWAY.SET < cacheSets (bitsOf w.toNat 27 24)) ∧
  (∃ (s : State) (src : Source) (w : Word), s.pageOpen 0x11 0x4C = true ∧ s.cmdLock 0x11 = false ∧ src ≠ .i3c ∧ bitsOf w.toNat 29 28 = 2 ∧ bitsOf w.toNat 27 24 ≠ 15 ∧ s.caches.maint = none) ∧
  (∃ (s : State) (src : Source) (w : Word), s.pageOpen 0x11 0x4C = true ∧ s.cmdLock 0x11 = false ∧ src ≠ .i3c ∧ bitsOf w.toNat 29 28 = 0 ∧ bitsOf w.toNat 27 24 ≠ 15 ∧ s.caches.maint = none ∧ ((s.flag Reg.L2C.MAINT_ADDR_HI.SPACE = false ∨ s.fld Reg.L2C.MAINT_ADDR_HI.KEYID = 0))) ∧
  (∃ (s : State) (src : Source) (w : Word), s.pageOpen 0x11 0x4C = true ∧ s.cmdLock 0x11 = false ∧ src ≠ .i3c ∧ bitsOf w.toNat 29 28 = 1 ∧ bitsOf w.toNat 27 24 ≠ 15 ∧ s.caches.maint = none ∧ s.fld Reg.L2C.MAINT_SETWAY.WAY < cacheWays (bitsOf w.toNat 27 24) ∧ s.fld Reg.L2C.MAINT_SETWAY.SET < cacheSets (bitsOf w.toNat 27 24)) ∧
  (∃ (s : State) (src : Source) (w : Word), s.pageOpen 0x11 0x4C = true ∧ s.cmdLock 0x11 = false ∧ src ≠ .i3c ∧ bitsOf w.toNat 29 28 = 2 ∧ bitsOf w.toNat 27 24 ≠ 15 ∧ s.caches.maint = none) ∧
  (∃ (s : State) (src : Source) (w : Word), s.pageOpen 0x11 0x4C = true ∧ s.cmdLock 0x11 = false ∧ src ≠ .i3c ∧ bitsOf w.toNat 29 28 = 0 ∧ bitsOf w.toNat 27 24 ≠ 15 ∧ s.caches.maint = none ∧ ((s.flag Reg.L2C.MAINT_ADDR_HI.SPACE = false ∨ s.fld Reg.L2C.MAINT_ADDR_HI.KEYID = 0))) ∧
  (∃ (s : State) (src : Source) (w : Word), s.pageOpen 0x11 0x4C = true ∧ s.cmdLock 0x11 = false ∧ src ≠ .i3c ∧ bitsOf w.toNat 29 28 = 1 ∧ bitsOf w.toNat 27 24 ≠ 15 ∧ s.caches.maint = none ∧ s.fld Reg.L2C.MAINT_SETWAY.WAY < cacheWays (bitsOf w.toNat 27 24) ∧ s.fld Reg.L2C.MAINT_SETWAY.SET < cacheSets (bitsOf w.toNat 27 24)) ∧
  (∃ (s : State) (src : Source) (w : Word), s.pageOpen 0x11 0x4C = true ∧ s.cmdLock 0x11 = false ∧ src ≠ .i3c ∧ bitsOf w.toNat 29 28 = 2 ∧ bitsOf w.toNat 27 24 ≠ 15 ∧ s.caches.maint = none) ∧
  (∃ (s : State) (src : Source), s.pageOpen 0x18 0x44 = true ∧ s.cmdLock 0x18 = false ∧ src ≠ .i3c ∧ s.link.up = true ∧ s.link.recovery = false) ∧
  (∃ (s : State) (src : Source) (pen : Nat), s.pageOpen 0x1B (0x100 + 0x20 * pen) = true ∧ s.cmdLock 0x1B = false ∧ src ≠ .i3c ∧ pen < 64) ∧
  (∃ (s : State) (src : Source) (w : Word), s.pageOpen 0x21 0x70 = true ∧ s.cmdLock 0x21 = false ∧ src ≠ .i3c ∧ bitsOf w.toNat 15 8 = 0xC3 ∧ s.flag Reg.KEY.OP_STATUS.BUSY = false) ∧
  (∃ (s : State) (src : Source) (w : Word), s.pageOpen 0x21 0x70 = true ∧ s.cmdLock 0x21 = false ∧ src ≠ .i3c ∧ bitsOf w.toNat 15 8 = 0xC3 ∧ s.flag Reg.KEY.OP_STATUS.BUSY = false) ∧
  (∃ (s : State) (src : Source) (w : Word), s.pageOpen 0x21 0x70 = true ∧ s.cmdLock 0x21 = false ∧ src ≠ .i3c ∧ bitsOf w.toNat 15 8 = 0xC3 ∧ s.flag Reg.KEY.OP_STATUS.BUSY = false) ∧
  (∃ (s : State) (src : Source) (w : Word), s.pageOpen 0x23 0x58 = true ∧ s.cmdLock 0x23 = false ∧ src ≠ .i3c ∧ bitsOf w.toNat 15 8 = 0x3C ∧ s.dev.st = .service ∧ s.pwr.standby = false ∧ s.flag Reg.ALM.STATUS.ZEROISING = false) ∧
  (∃ (s : State) (src : Source) (w : Word), s.pageOpen 0x23 0x60 = true ∧ s.cmdLock 0x23 = false ∧ src ≠ .i3c ∧ bitOf w.toNat 30 = false) ∧
  (∃ (s : State) (src : Source) (w : Word), s.pageOpen 0x23 0x60 = true ∧ s.cmdLock 0x23 = false ∧ src ≠ .i3c ∧ bitOf w.toNat 31 = false ∧ s.prot.challenge = false ∧ bitOf s.prot.tremors.toNat 6 = true) :=
  ⟨⟨upSt, .host, 0x01000003#32, by decide +kernel⟩,
  ⟨upSt, .host, 0x10000000#32, by decide +kernel⟩,
  ⟨upSt, .host, 0x20000000#32, by decide +kernel⟩,
  ⟨upSt, .host, 0x01000003#32, by decide +kernel⟩,
  ⟨upSt, .host, 0x10000000#32, by decide +kernel⟩,
  ⟨upSt, .host, 0x20000000#32, by decide +kernel⟩,
  ⟨upSt, .host, 0x01000003#32, by decide +kernel⟩,
  ⟨upSt, .host, 0x10000000#32, by decide +kernel⟩,
  ⟨upSt, .host, 0x20000000#32, by decide +kernel⟩,
  ⟨hostSt, .host, by decide +kernel⟩,
  ⟨{ hostSt with strm := { packets := [{ pen := 3, words := [1, 2, 3, 4, 5, 6, 7, 8], at_ := 0 }] } }, .host, 3, by decide +kernel⟩,
  ⟨upSt, .host, 0xC302#32, by decide +kernel⟩,
  ⟨upSt, .host, 0xC302#32, by decide +kernel⟩,
  ⟨upSt, .host, 0xC302#32, by decide +kernel⟩,
  ⟨{ upSt with prot := { slots := [(1, { st := 1, key := 5 })] } }, .host, 0x3C01#32, by decide +kernel⟩,
  ⟨upSt, .host, 0#32, by decide +kernel⟩,
  ⟨{ upSt with prot := { tremors := 0x40 } }, .host, 0#32, by decide +kernel⟩⟩

/-- The hypotheses of CartridgeAndPowerWritesComplete are met. -/
theorem witness_cartridgeAndPowerWritesComplete :
  (∃ (s : State) (src : Source) (w : Word) (n : Nat), s.pageOpen (0x28 + n) 0x44 = true ∧ s.cmdLock (0x28 + n) = false ∧ src ≠ .i3c ∧ bitsOf w.toNat 15 8 = 0xE7 ∧ n < 2 ∧ bitOf w.toNat 0 = false ∧ s.cartSeated n = true ∧ s.zlState n ≠ zlPoweringOff ∧ s.zlState n ≠ zlEmpty) ∧
  (∃ (s : State) (src : Source) (w : Word) (n : Nat), s.pageOpen (0x28 + n) 0x44 = true ∧ s.cmdLock (0x28 + n) = false ∧ src ≠ .i3c ∧ bitsOf w.toNat 15 8 = 0xE7 ∧ n < 2 ∧ bitOf w.toNat 1 = false ∧ s.zlState n = zlLocked ∧ s.fld (Reg.ZL.STATUS.AUTH_CAUSE n) = 9 ∧ s.canBringUp n = true) ∧
  (∃ (s : State) (src : Source) (w : Word) (n : Nat), s.pageOpen (0x28 + n) 0x8C = true ∧ s.cmdLock (0x28 + n) = false ∧ src ≠ .i3c ∧ bitsOf w.toNat 23 16 = 0x7E ∧ n < 2 ∧ s.flag (Reg.ZL.COPY_STATUS.BUSY n) = false ∧ s.cartMounted n = true ∧ s.cartRight n 2 = true ∧ s.fld (Reg.ZL.COPY_SRC.SEG n) + (bitsOf w.toNat 15 0 + 1) ≤ s.cartSegs n ∧ s.dpaInternal (s.fld (Reg.ZL.COPY_DST_HI.DPA_HI n) * 2 ^ 32 + s.fld (Reg.ZL.COPY_DST_LO.DPA_LO n) * 4096) = true ∧ s.dpaInternal (s.fld (Reg.ZL.COPY_DST_HI.DPA_HI n) * 2 ^ 32 + s.fld (Reg.ZL.COPY_DST_LO.DPA_LO n) * 4096 + 4096 * (bitsOf w.toNat 15 0 + 1) - 1) = true ∧ (s.checkRange clsCart true (s.fld (Reg.ZL.COPY_DST_HI.DPA_HI n) * 2 ^ 32 + s.fld (Reg.ZL.COPY_DST_LO.DPA_LO n) * 4096) (4096 * (bitsOf w.toNat 15 0 + 1)) (s.fld (Reg.ZL.COPY_DST_HI.KEYID n))).1 = 0) ∧
  (∃ (s : State) (src : Source) (w : Word) (n : Nat), s.pageOpen (0x28 + n) 0xAC = true ∧ s.cmdLock (0x28 + n) = false ∧ src ≠ .i3c ∧ bitsOf w.toNat 15 8 = 0x5E ∧ n < 2 ∧ s.flag (Reg.ZL.SAVE_STATUS.BUSY n) = false ∧ s.cartMounted n = true ∧ s.fld (Reg.ZL.CONTENT.CONTENT_SEGS n) ≤ s.fld (Reg.ZL.SAVE_SEG.SEG n) ∧ s.fld (Reg.ZL.SAVE_SEG.SEG n) < s.cartSegs n ∧ s.irq.busMaster = true) ∧
  (∃ (s : State) (w : Word), s.pageOpen 0x30 0x40 = true ∧ s.cmdLock 0x30 = false ∧ bitsOf w.toNat 15 8 = 0x96 ∧ bitOf w.toNat 30 = false ∧ bitOf w.toNat 31 = false) ∧
  (∃ (s : State) (w : Word), s.pageOpen 0x30 0x40 = true ∧ s.cmdLock 0x30 = false ∧ bitsOf w.toNat 15 8 = 0x96 ∧ bitOf w.toNat 30 = false ∧ bitOf w.toNat 29 = false ∧ s.serving = true ∧ s.pwr.standby = false ∧ s.strm.reqs = [] ∧ s.xlt.trim.busy = false ∧ s.xlt.groups = []) ∧
  (∃ (s : State) (src : Source) (w : Word), s.pageOpen 0x30 0x40 = true ∧ s.cmdLock 0x30 = false ∧ bitsOf w.toNat 15 8 = 0x96 ∧ src = .i3c ∧ bitOf w.toNat 31 = false ∧ bitOf w.toNat 29 = false ∧ s.serving = true ∧ s.pwr.standby = true ∧ s.pwr.keptFault = none ∧ s.pnv.latched = 0) :=
  ⟨⟨(({ upSt with zl0 := { inserted := true } }).setFlag (Reg.ZL.STATUS.PRESENT 0) true |>.setFld (Reg.ZL.STATUS.STATE 0) 4), .host, 0xE702#32, 0, by decide +kernel⟩,
  ⟨(({ upSt with zl0 := { inserted := true } }).setFlag (Reg.ZL.STATUS.PRESENT 0) true |>.setFld (Reg.ZL.STATUS.STATE 0) 5).setFld (Reg.ZL.STATUS.AUTH_CAUSE 0) 9, .host, 0xE701#32, 0, by decide +kernel⟩,
  ⟨{ ((({ upSt with zl0 := { inserted := true } }).setFlag (Reg.ZL.STATUS.PRESENT 0) true |>.setFld (Reg.ZL.STATUS.STATE 0) 4).setFld (Reg.ZL.STATUS.RIGHTS 0) 15).setFld (Reg.ZL.CONTENT.CONTENT_SEGS 0) 8 with prot := { regions := [(0, { valid := true, first := 0, last := 9, rights := 0x1FF })] } }, .host, 0x807E0000#32, 0, by decide +kernel⟩,
  ⟨{ (({ upSt with zl0 := { inserted := true } }).setFlag (Reg.ZL.STATUS.PRESENT 0) true |>.setFld (Reg.ZL.STATUS.STATE 0) 4).setFld (Reg.ZL.SAVE_SEGS.SAVE_SEGS 0) 8 with irq := { busMaster := true } }, .host, 0x5E01#32, 0, by decide +kernel⟩,
  ⟨upSt.setFlag Reg.PWR.STATUS.PWR_FAULT true, 0x9600#32, by decide +kernel⟩,
  ⟨upSt, 0x9600#32, by decide +kernel⟩,
  ⟨{ upSt with pwr := { upSt.pwr with standby := true, ctrlOn := false } }, .i3c, 0x9600#32, by decide +kernel⟩⟩

/-- The hypotheses of MemoryTallyAndDebugWritesComplete are met. -/
theorem witness_memoryTallyAndDebugWritesComplete :
  (∃ (s : State) (src : Source) (w : Word), s.pageOpen 0x38 0x40 = true ∧ s.cmdLock 0x38 = false ∧ src ≠ .i3c ∧ bitsOf w.toNat 15 8 = 0xA9 ∧ s.srm.march = none ∧ bitsOf w.toNat 4 0 ≤ 23 ∧ s.mayWipe (bitsOf w.toNat 4 0) = true) ∧
  (∃ (s : State) (src : Source) (w : Word), s.pageOpen 0x38 0x40 = true ∧ s.cmdLock 0x38 = false ∧ src ≠ .i3c ∧ bitsOf w.toNat 15 8 = 0xA9 ∧ s.srm.march = none ∧ bitsOf w.toNat 4 0 ≤ 23) ∧
  (∃ (s : State) (src : Source) (w : Word), s.pageOpen 0x3A 0x44 = true ∧ s.cmdLock 0x3A = false ∧ src ≠ .i3c ∧ bitsOf w.toNat 15 8 = 0x71 ∧ s.tally.flush.running = false) ∧
  (∃ (s : State) (src : Source), s.pageOpen 0x3A 0x50 = true ∧ s.cfgLock 0x3A = false ∧ src ≠ .i3c) ∧
  (∃ (s : State) (src : Source), s.pageOpen 0x3C 0x40 = true ∧ s.cmdLock 0x3C = false ∧ src ≠ .i3c) ∧
  (∃ (s : State) (src : Source) (w : Word), s.pageOpen 0x3D 0x44 = true ∧ s.cmdLock 0x3D = false ∧ src ≠ .i3c ∧ bitsOf w.toNat 15 8 = 0xD2 ∧ s.fld Reg.DBG.STATUS.LEVEL = 2 ∧ bitOf w.toNat 1 = false) ∧
  (∃ (s : State) (src : Source) (w : Word), s.pageOpen 0x3D 0x44 = true ∧ s.cmdLock 0x3D = false ∧ src ≠ .i3c ∧ bitsOf w.toNat 15 8 = 0xD2) :=
  ⟨⟨{ upSt with dev := { upSt.dev with st := .test } }, .host, 0xA903#32, by decide +kernel⟩,
  ⟨upSt, .host, 0xA903#32, by decide +kernel⟩,
  ⟨upSt, .host, 0x7101#32, by decide +kernel⟩,
  ⟨upSt, .host, by decide +kernel⟩,
  ⟨upSt, .host, by decide +kernel⟩,
  ⟨upSt.setFld Reg.DBG.STATUS.LEVEL 2, .host, 0xD200#32, by decide +kernel⟩,
  ⟨upSt.setFld Reg.DBG.STATUS.LEVEL 2, .host, 0xD200#32, by decide +kernel⟩⟩

/-- The hypotheses of RingRequestsAndSnoopsComplete are met. -/
theorem witness_ringRequestsAndSnoopsComplete :
  (∃ (s : State) (stop : Nat) (addr : Nat) (p : Nat), stop ∈ coreStops ∧ s.stopDead stop = false ∧ s.ring.parked.any (fun y => decide (y.stop = stop) && decide (y.line = ownLine addr)) = false ∧ s.req stop (ownLine addr) = none ∧ s.ring.reqs.any (fun y => y.stop = stop && y.st = .held && decide (y.line.home = (ownLine addr).home)) = false ∧ s.resetting.contains 0x11 = false ∧ (s.at_ p).entryFree (l2Slice (ownLine addr).addr) = true ∧ (s.at_ p).lineBusy (ownLine addr) = false ∧ s.wbPending (ownLine addr) = false ∧ s.creditWaits (ownLine addr) = false) ∧
  (∃ (s : State) (stop : Nat) (addr : Nat) (p : Nat), stop ∈ coreStops ∧ s.stopDead stop = false ∧ s.ring.parked.any (fun y => decide (y.stop = stop) && decide (y.line = ownLine addr)) = false ∧ s.req stop (ownLine addr) = none ∧ s.ring.reqs.any (fun y => y.stop = stop && y.st = .held && decide (y.line.home = (ownLine addr).home)) = false ∧ s.resetting.contains 0x11 = false ∧ (s.at_ p).entryFree (l2Slice (ownLine addr).addr) = true ∧ (s.at_ p).lineBusy (ownLine addr) = false ∧ s.wbPending (ownLine addr) = false ∧ s.creditWaits (ownLine addr) = false) ∧
  (∃ (s : State) (stop : Nat) (keyid : Nat) (a : Nat) (p : Nat), (stop = 7 ∨ stop = 23) ∧ s.stopDead stop = false ∧ s.ring.parked.any (fun y => decide (y.stop = stop) && decide (y.line = hostLine a keyid)) = false ∧ s.req stop (hostLine a keyid) = none ∧ s.ring.reqs.any (fun y => y.stop = stop && y.st = .held && decide (y.line.home = (hostLine a keyid).home)) = false ∧ s.resetting.contains 0x11 = false ∧ (s.at_ p).entryFree (l2Slice (hostLine a keyid).addr) = true ∧ s.lineAt 0 (hostLine a keyid) = none) ∧
  (∃ (s : State) (stop : Nat) (keyid : Nat) (a : Nat) (p : Nat) (w : Nat) (x : CLine), (stop = 7 ∨ stop = 23) ∧ s.stopDead stop = false ∧ s.ring.parked.any (fun y => decide (y.stop = stop) && decide (y.line = hostLine a keyid)) = false ∧ s.req stop (hostLine a keyid) = none ∧ s.ring.reqs.any (fun y => y.stop = stop && y.st = .held && decide (y.line.home = (hostLine a keyid).home)) = false ∧ s.resetting.contains 0x11 = false ∧ (s.at_ p).entryFree (l2Slice (hostLine a keyid).addr) = true ∧ s.caches.errs = [] ∧ s.lineAt 0 (hostLine a keyid) = some (w, x)) ∧
  (∃ (s : State) (agent : Nat) (keyid : Nat) (addr : Nat) (p : Nat) (internal : Bool), s.stopDead (agentStop agent) = false ∧ s.ring.parked.any (fun y => decide (y.stop = (agentStop agent)) && decide (y.line = stashedLine internal keyid addr)) = false ∧ s.req (agentStop agent) (stashedLine internal keyid addr) = none ∧ s.ring.reqs.any (fun y => y.stop = (agentStop agent) && y.st = .held && decide (y.line.home = (stashedLine internal keyid addr).home)) = false ∧ s.resetting.contains 0x11 = false ∧ (s.at_ p).entryFree (l2Slice (stashedLine internal keyid addr).addr) = true ∧ ((internal = false ∨ ((s.at_ p).lineBusy (stashedLine internal keyid addr) = false ∧ s.wbPending (stashedLine internal keyid addr) = false ∧ s.creditWaits (stashedLine internal keyid addr) = false)))) ∧
  (∃ (s : State) (agent : Nat) (target : Nat) (keyid : Nat) (addr : Nat) (p : Nat) (internal : Bool), agent ≤ 2 ∧ 1 ≤ target ∧ target ≤ 14 ∧ s.stopDead (agentStop agent) = false ∧ s.ring.parked.any (fun y => decide (y.stop = (agentStop agent)) && decide (y.line = stashedLine internal keyid addr)) = false ∧ s.req (agentStop agent) (stashedLine internal keyid addr) = none ∧ s.ring.reqs.any (fun y => y.stop = (agentStop agent) && y.st = .held && decide (y.line.home = (stashedLine internal keyid addr).home)) = false ∧ s.resetting.contains 0x11 = false ∧ (s.at_ p).entryFree (l2Slice (stashedLine internal keyid addr).addr) = true ∧ s.stashRefused agent target (stashedLine internal keyid addr) = false) ∧
  (∃ (s : State) (m : RMsg) (target : Nat) (keyid : Nat) (addr : Nat) (p : Nat) (internal : Bool) (d : Line), (s.at_ p).fillArrived target (stashedLine internal keyid addr) = some (m, d) ∧ m.stale = false ∧ s.noAlloc m.line.addr = false ∧ 1 ≤ target ∧ target ≤ 14 ∧ s.stashRefused 3 target m.line = false) ∧
  (∃ (s : State) (x : RTx) (stop : Nat) (p : Nat), s.ring.txs.find? (fun y => y.id = x.id) = some x ∧ x.snoop = 0 ∧ stop ∈ x.mask ∧ (s.clk.bell * 4096 + p % 4096) = x.at_ + (stop + 32 - x.line.home) % 32) ∧
  (∃ (s : State) (x : RTx) (stop : Nat) (p : Nat), s.ring.txs.find? (fun y => y.id = x.id) = some x ∧ x.snoop = 1 ∧ stop ∈ x.mask ∧ (s.clk.bell * 4096 + p % 4096) = x.at_ + (stop + 32 - x.line.home) % 32) ∧
  (∃ (s : State) (x : RTx) (stop : Nat) (p : Nat), s.ring.txs.find? (fun y => y.id = x.id) = some x ∧ x.snoop = 2 ∧ stop ∈ x.mask ∧ (s.clk.bell * 4096 + p % 4096) = x.at_ + (stop + 32 - x.line.home) % 32) ∧
  (∃ (s : State) (x : RTx) (stop : Nat) (p : Nat), s.ring.txs.find? (fun y => y.id = x.id) = some x ∧ x.snoop = 3 ∧ stop ∈ x.mask ∧ (s.clk.bell * 4096 + p % 4096) = x.at_ + (stop + 32 - x.line.home) % 32) ∧
  (∃ (s : State) (x : RTx) (stop : Nat) (p : Nat), s.ring.txs.find? (fun y => y.id = x.id) = some x ∧ x.snoop = 4 ∧ stop ∈ x.mask ∧ (s.clk.bell * 4096 + p % 4096) = x.at_ + (stop + 32 - x.line.home) % 32) ∧
  (∃ (s : State) (x : RTx) (stop : Nat) (c : Nat) (w : Nat) (p : Nat) (y : CLine), s.ring.txs.find? (fun y => y.id = x.id) = some x ∧ x.snoop = 1 ∧ stop ∈ x.mask ∧ (s.clk.bell * 4096 + p % 4096) = x.at_ + (stop + 32 - x.line.home) % 32 ∧ s.stopDead stop = false ∧ s.ring.wbs = [] ∧ s.ring.reqs = [] ∧ s.caches.errs = [] ∧ cacheAt stop = some c ∧ s.lineAt c x.line = some (w, y) ∧ y.dirty = true) ∧
  (∃ (s : State) (x : RTx) (p : Nat), s.ring.txs.find? (fun y => y.id = x.id) = some x ∧ x.back = false ∧ x.mask = [] ∧ x.at_ + 32 = (s.clk.bell * 4096 + p % 4096) ∧ x.owed ≠ []) ∧
  (∃ (s : State) (x : RTx) (p : Nat), s.ring.txs.find? (fun y => y.id = x.id) = some x ∧ x.back = false ∧ x.mask = [] ∧ x.at_ + 32 = (s.clk.bell * 4096 + p % 4096) ∧ x.owed = [] ∧ x.owner = true ∧ x.op = .rdShared ∧ x.credited = false) :=
  ⟨⟨upSt, 3, 128, 9, by decide +kernel⟩,
  ⟨upSt, 3, 128, 9, by decide +kernel⟩,
  ⟨upSt, 7, 1, 128, 9, by decide +kernel⟩,
  ⟨(upSt.homeWrite (hostLine 128 1) 9 false false), 7, 1, 128, 9, 0, { internal := false, keyid := 1, tag := cacheTag 0 128, data := 9 }, by decide +kernel⟩,
  ⟨upSt, 0, 0, 128, 9, true, by decide +kernel⟩,
  ⟨(upSt.setFld Reg.RNG.STASH_CTRL.DROVER_EN 1), 0, 6, 0, 128, 9, true, by decide +kernel⟩,
  ⟨{ upSt with ring := { msgs := [{ id := 5, ty := .fill 3 9, src := 31, dst := 4, line := hostLine 128 1, ready := 0, sent := 95 }], next := 9 } }, { id := 5, ty := .fill 3 9, src := 31, dst := 4, line := hostLine 128 1, ready := 0, sent := 95 }, 3, 1, 128, 100, false, 9, by decide +kernel⟩,
  ⟨{ upSt with ring := { txs := [{ id := 7, op := .rdShared, stop := 3, line := ownLine 128, snoop := 0, mask := [5, 11], at_ := 0 }], next := 8 } }, { id := 7, op := .rdShared, stop := 3, line := ownLine 128, snoop := 0, mask := [5, 11], at_ := 0 }, 5, 1, by decide +kernel⟩,
  ⟨{ upSt with ring := { txs := [{ id := 7, op := .rdShared, stop := 3, line := ownLine 128, snoop := 1, mask := [5, 11], at_ := 0 }], next := 8 } }, { id := 7, op := .rdShared, stop := 3, line := ownLine 128, snoop := 1, mask := [5, 11], at_ := 0 }, 5, 1, by decide +kernel⟩,
  ⟨{ upSt with ring := { txs := [{ id := 7, op := .rdShared, stop := 3, line := ownLine 128, snoop := 2, mask := [5, 11], at_ := 0 }], next := 8 } }, { id := 7, op := .rdShared, stop := 3, line := ownLine 128, snoop := 2, mask := [5, 11], at_ := 0 }, 5, 1, by decide +kernel⟩,
  ⟨{ upSt with ring := { txs := [{ id := 7, op := .rdShared, stop := 3, line := ownLine 128, snoop := 3, mask := [5, 11], at_ := 0 }], next := 8 } }, { id := 7, op := .rdShared, stop := 3, line := ownLine 128, snoop := 3, mask := [5, 11], at_ := 0 }, 5, 1, by decide +kernel⟩,
  ⟨{ upSt with ring := { txs := [{ id := 7, op := .rdShared, stop := 3, line := ownLine 128, snoop := 4, mask := [5, 11], at_ := 0 }], next := 8 } }, { id := 7, op := .rdShared, stop := 3, line := ownLine 128, snoop := 4, mask := [5, 11], at_ := 0 }, 5, 1, by decide +kernel⟩,
  ⟨(((upSt.onRing (fun r => { r with txs := [{ id := 7, op := .rdOwn, stop := 3, line := ownLine 128, snoop := 1, mask := [5], at_ := 0 }], next := 8 })).coreFill 5 (ownLine 128) 9 true false)), { id := 7, op := .rdOwn, stop := 3, line := ownLine 128, snoop := 1, mask := [5], at_ := 0 }, 5, 6, 0, 1, { internal := true, keyid := 0, tag := cacheTag 6 128, data := 9, dirty := true }, by decide +kernel⟩,
  ⟨{ upSt with ring := { txs := [{ id := 7, op := .rdShared, stop := 3, line := ownLine 128, snoop := 0, mask := [], at_ := 0, owed := [(5, false)] }] } }, { id := 7, op := .rdShared, stop := 3, line := ownLine 128, snoop := 0, mask := [], at_ := 0, owed := [(5, false)] }, 32, by decide +kernel⟩,
  ⟨{ upSt with ring := { txs := [{ id := 7, op := .rdShared, stop := 3, line := ownLine 128, snoop := 0, mask := [], at_ := 0, owner := true }], next := 8 } }, { id := 7, op := .rdShared, stop := 3, line := ownLine 128, snoop := 0, mask := [], at_ := 0, owner := true }, 32, by decide +kernel⟩⟩

/-- The hypotheses of RingMessagesComplete are met. -/
theorem witness_ringMessagesComplete :
  (∃ (s : State) (m : RMsg) (p : Nat) (x : RTx) (l : Option (Line × Bool)) (o : Nat × Bool) (os : List (Nat × Bool)), (s.at_ p).arrived m.id = some m ∧ m.ty = .snpDone x.id l ∧ s.ring.txs.find? (fun y => y.id = x.id) = some x ∧ x.owed = (m.src, false) :: o :: os) ∧
  (∃ (s : State) (m : RMsg) (p : Nat) (q : RReq), (s.at_ p).arrived m.id = some m ∧ m.ty = .comp ∧ s.req m.dst m.line = some q ∧ q.data = none ∧ (q.op = .rdShared ∨ q.op = .rdOwn)) ∧
  (∃ (s : State) (m : RMsg) (p : Nat) (q : RReq), (s.at_ p).arrived m.id = some m ∧ m.ty = .comp ∧ s.req m.dst m.line = some q ∧ q.data = none ∧ (q.op = .stashWrite ∨ q.op = .stashFill)) ∧
  (∃ (s : State) (m : RMsg) (p : Nat) (q : RReq) (c : Nat), (s.at_ p).arrived m.id = some m ∧ m.ty = .retry (some c) ∧ s.req m.dst m.line = some q) ∧
  (∃ (s : State) (m : RMsg) (p : Nat) (q : RReq), (s.at_ p).arrived m.id = some m ∧ m.ty = .retry none ∧ s.req m.dst m.line = some q) ∧
  (∃ (s : State) (m : RMsg) (p : Nat) (q : RReq) (c : Nat), (s.at_ p).arrived m.id = some m ∧ m.ty = .credit c ∧ s.ring.reqs.find? (fun q => q.stop = m.dst && decide (q.st = .held) && decide (q.line.home = m.src)) = some q) ∧
  (∃ (s : State) (m : RMsg) (p : Nat) (c : Nat), (s.at_ p).arrived m.id = some m ∧ m.ty = .credit c ∧ s.ring.reqs.any (fun q => decide (q.stop = m.dst)) = false) ∧
  (∃ (s : State) (m : RMsg) (p : Nat), (s.at_ p).arrived m.id = some m ∧ m.ty = .wb) ∧
  (∃ (s : State) (m : RMsg) (p : Nat) (q : RReq) (d : Line) (b : Bool), (s.at_ p).arrived m.id = some m ∧ m.ty = .data d b ∧ s.req m.dst m.line = some q ∧ q.comp = false) ∧
  (∃ (s : State) (m : RMsg) (p : Nat) (d : Line) (b : Bool), (s.at_ p).arrived m.id = some m ∧ m.ty = .wbData d b) ∧
  (∃ (s : State) (m : RMsg) (p : Nat) (c : Nat) (d : Line) (b : Bool), (s.at_ p).arrived m.id = some m ∧ m.ty = .stash c d b ∧ m.line.internal = true ∧ m.stale = false ∧ s.stashClosed c = false) ∧
  (∃ (s : State) (stop : Nat) (addr : Nat) (p : Nat) (w : RWb), s.ring.wbs.find? (fun w => w.stop = stop && w.line = ownLine addr && w.header.isSome && w.got && !w.written) = some w ∧ p % 4 = 0) ∧
  (∃ (s : State) (stop : Nat) (addr : Nat) (p : Nat) (w : RWb), s.ring.wbs.find? (fun w => w.stop = stop && w.line = ownLine addr && w.header.isSome && w.got && !w.written) = some w ∧ p % 4 = 0 ∧ s.ring.txs.any (fun x => x.owed.contains (stop, true)) = false) ∧
  (∃ (s : State) (m : RMsg) (p : Nat), (s.at_ p).arrived m.id = some m ∧ m.ty = .wbDone) ∧
  (∃ (s : State) (x : RTx) (d : Nat) (p : Nat), s.ring.txs.find? (fun y => y.id = x.id) = some x ∧ x.at_ + 4096 = (s.clk.bell * 4096 + p % 4096) ∧ x.owed = [(d, false)] ∧ d < 32) ∧
  (∃ (s : State) (stop : Nat) (addr : Nat) (c : Nat) (p : Nat) (w : RWb), s.ring.wbs.find? (fun w => w.stop = stop && w.line = ownLine addr && !w.got) = some w ∧ w.header = some c ∧ c + 4096 = (s.clk.bell * 4096 + p % 4096) ∧ stop < 32) ∧
  (∃ (s : State) (m : Maint), s.caches.maint = some m ∧ m.doneAt ≤ s.clk.bell * 4096 + s.clk.phase ∧ s.ring.txs.any (fun x => decide (x.op = .maint)) = false ∧ s.ring.waits = [] ∧ s.maintBehind m = false) ∧
  (∃ (s : State) (w : Nat), s.caches.goingDown.getLsbD w = true) :=
  ⟨⟨{ upSt with ring := { msgs := [{ id := 5, ty := (.snpDone 7 none), src := 5, dst := 0, line := ownLine 128, ready := 0, sent := 100 - hops 5 0 }], next := 9, txs := [{ id := 7, op := .rdShared, stop := 3, line := ownLine 128, snoop := 0, mask := [], at_ := 0, owed := [(5, false), (11, false)] }] } }, { id := 5, ty := (.snpDone 7 none), src := 5, dst := 0, line := ownLine 128, ready := 0, sent := 100 - hops 5 0 }, 100, { id := 7, op := .rdShared, stop := 3, line := ownLine 128, snoop := 0, mask := [], at_ := 0, owed := [(5, false), (11, false)] }, none, (11, false), [], by decide +kernel⟩,
  ⟨{ upSt with ring := { msgs := [{ id := 5, ty := .comp, src := 0, dst := 3, line := ownLine 128, ready := 0, sent := 100 - hops 0 3 }], next := 9, reqs := [{ stop := 3, op := .rdShared, line := ownLine 128, granted := true }] } }, { id := 5, ty := .comp, src := 0, dst := 3, line := ownLine 128, ready := 0, sent := 100 - hops 0 3 }, 100, { stop := 3, op := .rdShared, line := ownLine 128, granted := true }, by decide +kernel⟩,
  ⟨{ upSt with ring := { msgs := [{ id := 5, ty := .comp, src := 0, dst := 15, line := ownLine 128, ready := 0, sent := 100 - hops 0 15 }], next := 9, reqs := [{ stop := 15, op := .stashWrite, line := ownLine 128, target := 6 }] } }, { id := 5, ty := .comp, src := 0, dst := 15, line := ownLine 128, ready := 0, sent := 100 - hops 0 15 }, 100, { stop := 15, op := .stashWrite, line := ownLine 128, target := 6 }, by decide +kernel⟩,
  ⟨{ upSt with ring := { msgs := [{ id := 5, ty := (.retry (some 1)), src := 0, dst := 3, line := ownLine 128, ready := 0, sent := 100 - hops 0 3 }], next := 9, reqs := [{ stop := 3, op := .rdShared, line := ownLine 128, granted := true }] } }, { id := 5, ty := (.retry (some 1)), src := 0, dst := 3, line := ownLine 128, ready := 0, sent := 100 - hops 0 3 }, 100, { stop := 3, op := .rdShared, line := ownLine 128, granted := true }, 1, by decide +kernel⟩,
  ⟨{ upSt with ring := { msgs := [{ id := 5, ty := (.retry none), src := 0, dst := 3, line := ownLine 128, ready := 0, sent := 100 - hops 0 3 }], next := 9, reqs := [{ stop := 3, op := .rdShared, line := ownLine 128, granted := true }] } }, { id := 5, ty := (.retry none), src := 0, dst := 3, line := ownLine 128, ready := 0, sent := 100 - hops 0 3 }, 100, { stop := 3, op := .rdShared, line := ownLine 128, granted := true }, by decide +kernel⟩,
  ⟨{ upSt with ring := { msgs := [{ id := 5, ty := (.credit 1), src := 4, dst := 3, line := ownLine 128, ready := 0, sent := 100 - hops 4 3 }], next := 9, reqs := [{ stop := 3, op := .rdShared, line := ownLine 128, st := .held }] } }, { id := 5, ty := (.credit 1), src := 4, dst := 3, line := ownLine 128, ready := 0, sent := 100 - hops 4 3 }, 100, { stop := 3, op := .rdShared, line := ownLine 128, st := .held }, 1, by decide +kernel⟩,
  ⟨{ upSt with ring := { msgs := [{ id := 5, ty := (.credit 1), src := 4, dst := 3, line := ownLine 128, ready := 0, sent := 100 - hops 4 3 }], next := 9, creds := [{ slice := 2, stop := 3, seq := 1 }] } }, { id := 5, ty := (.credit 1), src := 4, dst := 3, line := ownLine 128, ready := 0, sent := 100 - hops 4 3 }, 100, 1, by decide +kernel⟩,
  ⟨{ upSt with ring := { msgs := [{ id := 5, ty := .wb, src := 5, dst := 0, line := ownLine 128, ready := 0, sent := 100 - hops 5 0 }], next := 9, wbs := [{ stop := 5, line := ownLine 128, data := 9, poison := false }] } }, { id := 5, ty := .wb, src := 5, dst := 0, line := ownLine 128, ready := 0, sent := 100 - hops 5 0 }, 100, by decide +kernel⟩,
  ⟨{ upSt with ring := { msgs := [{ id := 5, ty := (.data 5 false), src := 0, dst := 3, line := ownLine 128, ready := 0, sent := 100 - hops 0 3 }], next := 9, reqs := [{ stop := 3, op := .rdShared, line := ownLine 128, granted := true }] } }, { id := 5, ty := (.data 5 false), src := 0, dst := 3, line := ownLine 128, ready := 0, sent := 100 - hops 0 3 }, 100, { stop := 3, op := .rdShared, line := ownLine 128, granted := true }, 5, false, by decide +kernel⟩,
  ⟨{ upSt with ring := { msgs := [{ id := 5, ty := (.wbData 5 false), src := 5, dst := 0, line := ownLine 128, ready := 0, sent := 100 - hops 5 0 }], next := 9, wbs := [{ stop := 5, line := ownLine 128, data := 9, poison := false }] } }, { id := 5, ty := (.wbData 5 false), src := 5, dst := 0, line := ownLine 128, ready := 0, sent := 100 - hops 5 0 }, 100, 5, false, by decide +kernel⟩,
  ⟨{ upSt with ring := { msgs := [{ id := 5, ty := (.stash 5 5 false), src := 4, dst := 3, line := ownLine 128, ready := 0, sent := 100 - hops 4 3 }], next := 9, wbs := [] } }, { id := 5, ty := (.stash 5 5 false), src := 4, dst := 3, line := ownLine 128, ready := 0, sent := 100 - hops 4 3 }, 100, 5, 5, false, by decide +kernel⟩,
  ⟨{ upSt with ring := { wbs := [{ stop := 5, line := ownLine 128, data := 9, poison := false, header := some 3, got := true }] } }, 5, 128, 8, { stop := 5, line := ownLine 128, data := 9, poison := false, header := some 3, got := true }, by decide +kernel⟩,
  ⟨{ upSt with ring := { wbs := [{ stop := 5, line := ownLine 128, data := 9, poison := false, header := some 3, got := true }] } }, 5, 128, 8, { stop := 5, line := ownLine 128, data := 9, poison := false, header := some 3, got := true }, by decide +kernel⟩,
  ⟨{ upSt with ring := { msgs := [{ id := 5, ty := .wbDone, src := 0, dst := 5, line := ownLine 128, ready := 0, sent := 100 - hops 0 5 }], next := 9, wbs := [{ stop := 5, line := ownLine 128, data := 9, poison := false, written := true }] } }, { id := 5, ty := .wbDone, src := 0, dst := 5, line := ownLine 128, ready := 0, sent := 100 - hops 0 5 }, 100, by decide +kernel⟩,
  ⟨{ upSt with ring := { txs := [{ id := 7, op := .rdShared, stop := 3, line := ownLine 128, snoop := 0, mask := [], at_ := 0, owed := [(5, false)] }] }, clk := { bell := 1 } }, { id := 7, op := .rdShared, stop := 3, line := ownLine 128, snoop := 0, mask := [], at_ := 0, owed := [(5, false)] }, 5, 0, by decide +kernel⟩,
  ⟨{ upSt with ring := { wbs := [{ stop := 5, line := ownLine 128, data := 9, poison := false, header := some 3 }] }, clk := { bell := 1 } }, 5, 128, 3, 3, { stop := 5, line := ownLine 128, data := 9, poison := false, header := some 3 }, by decide +kernel⟩,
  ⟨{ upSt with caches := { maint := some { op := 1, mode := 2, cache := 0, lines := 9 } } }, { op := 1, mode := 2, cache := 0, lines := 9 }, by decide +kernel⟩,
  ⟨{ upSt with caches := { goingDown := 4 } }, 2, by decide +kernel⟩⟩

/-- The hypotheses of DramCommandsComplete are met. -/
theorem witness_dramCommandsComplete :
  (∃ (s : State) (p : Nat), s.pwr.standby = false ∧ p % 4096 < 32) ∧
  (∃ (s : State) (p : Nat), s.pwr.standby = false ∧ 2048 ≤ p % 4096 ∧ p % 4096 < 2080) ∧
  (∃ (s : State) (c : Nat) (sub : Nat) (p : Nat), c ∈ s.channels ∧ s.pwr.standby = false ∧ offDuty sub (p % 4096) = true ∧ s.retrainDue c sub = true) ∧
  (∃ (s : State) (c : Nat) (sub : Nat) (p : Nat), c ∈ s.channels ∧ s.pwr.standby = false ∧ offDuty sub (p % 4096) = true ∧ s.retrainDue c sub = true) ∧
  (∃ (s : State) (n : Nat) (sub : Nat) (p : Nat) (e : UbE), s.dram.ub[n]? = some e ∧ sub ≤ 1 ∧ ((e.needA = true ↔ sub = 0)) ∧ ((e.needB = true ↔ sub = 1)) ∧ offDuty sub (p % 4096) = true) ∧
  (∃ (s : State) (n : Nat) (sub : Nat) (p : Nat) (e : UbE), s.dram.ub[n]? = some e ∧ sub ≤ 1 ∧ e.needA = true ∧ e.needB = true ∧ offDuty sub (p % 4096) = true) ∧
  (∃ (s : State) (p : Nat) (c : Nat) (sub : Nat) (bank : Nat) (row : Nat) (l : List (Nat × Nat × Nat × Nat)), s.dram.neighbours = (c, sub, bank, row) :: l ∧ offDuty sub (p % 4096) = true ∧ c < 4) :=
  ⟨⟨(upSt.setFld (Reg.DMC.STATUS.STATE 1) 2), 5, by decide +kernel⟩,
  ⟨(upSt.setFld (Reg.DMC.STATUS.STATE 1) 2), 2050, by decide +kernel⟩,
  ⟨(upSt.setFld (Reg.DMC.STATUS.STATE 1) 2), 1, 0, 5, by decide +kernel⟩,
  ⟨(upSt.setFld (Reg.DMC.STATUS.STATE 1) 2), 1, 1, 2050, by decide +kernel⟩,
  ⟨{ upSt with dram := { ub := [{ kind := .mapLine, idx := 3, needB := false }] } }, 0, 0, 5, { kind := .mapLine, idx := 3, needB := false }, by decide +kernel⟩,
  ⟨{ upSt with dram := { ub := [{ kind := .mapLine, idx := 3 }] } }, 0, 1, 2050, { kind := .mapLine, idx := 3 }, by decide +kernel⟩,
  ⟨{ upSt with dram := { neighbours := [(1, 0, 3, 77)] } }, 5, 1, 0, 3, 77, [], by decide +kernel⟩⟩

/-- The hypotheses of LinkCommandsComplete are met. -/
theorem witness_linkCommandsComplete :
  (∃ (s : State) (r : Nat) (w : Nat), s.linkCan = true ∧ s.link.up = false ∧ 4 ≤ w ∧ 1 ≤ r ∧ r ≤ 6) ∧
  (∃ (s : State), s.linkCan = true ∧ s.link.up = false) ∧
  (∃ (s : State), s.link.up = true) ∧
  (∃ (s : State), s.link.up = true) ∧
  (∃ (s : State), s.link.perst = false ∧ s.pwr.ctrlOn = true ∧ s.pwr.standby = false) ∧
  (∃ (s : State), s.link.perst = true ∧ s.pwr.standby = false ∧ s.pwr.ctrlOn = true ∧ s.dev.st = .service) ∧
  (∃ (s : State), s.link.up = true ∧ s.link.recovery = false) ∧
  (∃ (s : State), s.link.up = true ∧ s.link.recovery = true ∧ s.link.retraining = false ∧ s.link.held = [] ∧ s.irq.busMaster = false) :=
  ⟨⟨{ upSt with link := { perst := false } }, 6, 16, by decide +kernel⟩,
  ⟨{ upSt with link := { perst := false } }, by decide +kernel⟩,
  ⟨hostSt, by decide +kernel⟩,
  ⟨hostSt, by decide +kernel⟩,
  ⟨hostSt, by decide +kernel⟩,
  ⟨upSt, by decide +kernel⟩,
  ⟨hostSt, by decide +kernel⟩,
  ⟨{ hostSt with link := { hostSt.link with recovery := true } }, by decide +kernel⟩⟩

/-- The hypotheses of HdmFlushAndConfigurationComplete are met. -/
theorem witness_hdmFlushAndConfigurationComplete :
  (∃ (s : State) (b : Nat), s.ioOpen = true ∧ s.link.hdmLocked = false ∧ b % s.hdmSize = 0) ∧
  (∃ (s : State) (b : Nat) (z : Nat) (w : Nat), s.ioOpen = true ∧ s.link.hdmLocked = false ∧ (z ≠ s.hdmSize ∨ b % s.hdmSize ≠ 0 ∨ w ≠ 1)) ∧
  (∃ (s : State), s.ioOpen = true) ∧
  (∃ (s : State), s.ioOpen = true ∧ s.flag Reg.HDM.STATUS.AT_RISK = false) ∧
  (∃ (s : State), s.ioOpen = true ∧ s.flag Reg.HDM.STATUS.AT_RISK = true) ∧
  (∃ (s : State), s.link.gpf2 = true) ∧
  (∃ (s : State), s.ioOpen = true ∧ s.strm.waiting = [] ∧ s.strm.reqs = [] ∧ s.irq.pend = 0 ∧ s.zl0.save = none ∧ s.zl1.save = none) ∧
  (∃ (s : State), s.ioOpen = true) :=
  ⟨⟨hostSt, 0, by decide +kernel⟩,
  ⟨hostSt, 0, 5, 1, by decide +kernel⟩,
  ⟨hostSt, by decide +kernel⟩,
  ⟨hostSt, by decide +kernel⟩,
  ⟨hostSt.setFlag Reg.HDM.STATUS.AT_RISK true, by decide +kernel⟩,
  ⟨{ hostSt with link := { hostSt.link with gpf2 := true } }, by decide +kernel⟩,
  ⟨hostSt, by decide +kernel⟩,
  ⟨hostSt, by decide +kernel⟩⟩

/-- The hypotheses of LinkViolationsComplete are met. -/
theorem witness_linkViolationsComplete :
  (∃ (s : State), s.ioOpen = true) ∧
  (∃ (s : State), s.ioOpen = true) ∧
  (∃ (s : State), s.ioOpen = true) ∧
  (∃ (s : State), s.ioOpen = true) ∧
  (∃ (s : State), s.ioOpen = true) ∧
  (∃ (s : State), s.link.up = true ∧ s.link.ideMem = true ∧ s.link.ideDrop = false ∧ bitOf s.prot.tremors.toNat 4 = true) :=
  ⟨⟨hostSt, by decide +kernel⟩,
  ⟨hostSt, by decide +kernel⟩,
  ⟨hostSt, by decide +kernel⟩,
  ⟨hostSt, by decide +kernel⟩,
  ⟨hostSt, by decide +kernel⟩,
  ⟨{ hostSt with link := { hostSt.link with ideMem := true }, prot := { hostSt.prot with tremors := 0x10 } }, by decide +kernel⟩⟩

/-- The hypotheses of MailboxQueriesComplete are met. -/
theorem witness_mailboxQueriesComplete :
  (∃ (s : State), s.mboxOpen = true) ∧
  (∃ (s : State), s.mboxOpen = true) ∧
  (∃ (s : State), s.mboxOpen = true) ∧
  (∃ (s : State), s.mboxOpen = true) ∧
  (∃ (s : State), s.mboxOpen = true) ∧
  (∃ (s : State), s.mboxOpen = true) ∧
  (∃ (s : State) (v : Nat) (c : Nat), s.mboxOpen = true ∧ s.mbox.stamp = some (v, c)) ∧
  (∃ (s : State), s.mboxOpen = true) ∧
  (∃ (s : State) (offset : Nat) (len : Nat), s.mboxOpen = true ∧ offset + len ≤ 4 * mboxOpcodes.length) ∧
  (∃ (s : State), s.mboxOpen = true) ∧
  (∃ (s : State), s.mboxOpen = true) ∧
  (∃ (s : State), s.mboxOpen = true) ∧
  (∃ (s : State), s.mboxOpen = true) ∧
  (∃ (s : State), s.mboxOpen = true) ∧
  (∃ (s : State), s.mboxOpen = true) ∧
  (∃ (s : State), s.mboxOpen = true) :=
  ⟨⟨hostSt, by decide +kernel⟩,
  ⟨hostSt, by decide +kernel⟩,
  ⟨hostSt, by decide +kernel⟩,
  ⟨hostSt, by decide +kernel⟩,
  ⟨hostSt, by decide +kernel⟩,
  ⟨hostSt, by decide +kernel⟩,
  ⟨{ hostSt with mbox := { stamp := some (9, 3) } }, 9, 3, by decide +kernel⟩,
  ⟨hostSt, by decide +kernel⟩,
  ⟨hostSt, 0, 8, by decide +kernel⟩,
  ⟨hostSt, by decide +kernel⟩,
  ⟨hostSt, by decide +kernel⟩,
  ⟨hostSt, by decide +kernel⟩,
  ⟨hostSt, by decide +kernel⟩,
  ⟨hostSt, by decide +kernel⟩,
  ⟨hostSt, by decide +kernel⟩,
  ⟨hostSt, by decide +kernel⟩⟩

/-- The hypotheses of MailboxSettingsComplete are met. -/
theorem witness_mailboxSettingsComplete :
  (∃ (s : State) (n : Nat), s.mboxOpen = true ∧ 8 ≤ n ∧ n ≤ 16) ∧
  (∃ (s : State) (n : Nat), s.mboxOpen = true ∧ n < 4) ∧
  (∃ (s : State) (a : Nat) (b : Nat) (c : Nat) (d : Nat), s.mboxOpen = true ∧ a ≤ 1 ∧ b ≤ 1 ∧ c ≤ 1 ∧ d ≤ 1) ∧
  (∃ (s : State) (slot : Nat), s.mboxOpen = true ∧ (slot = 1 ∨ slot = 2) ∧ slot ≠ s.fld Reg.ATT.BOOT.BOOTED) ∧
  (∃ (s : State) (slot : Nat), s.mboxOpen = true ∧ (slot = 1 ∨ slot = 2)) ∧
  (∃ (s : State), s.mboxOpen = true) ∧
  (∃ (s : State), s.mboxOpen = true) ∧
  (∃ (s : State) (n : Nat), s.mboxOpen = true ∧ n ≤ 1) :=
  ⟨⟨hostSt, 9, by decide +kernel⟩,
  ⟨hostSt, 1, by decide +kernel⟩,
  ⟨hostSt, 1, 0, 1, 1, by decide +kernel⟩,
  ⟨hostSt, 2, by decide +kernel⟩,
  ⟨hostSt, 2, by decide +kernel⟩,
  ⟨hostSt, by decide +kernel⟩,
  ⟨hostSt, by decide +kernel⟩,
  ⟨hostSt, 1, by decide +kernel⟩⟩

/-- The hypotheses of DoeAndSpdmRequestsComplete are met. -/
theorem witness_doeAndSpdmRequestsComplete :
  (∃ (s : State) (len : Nat), s.doeOpen = true ∧ len ≤ 16384 ∧ s.doeBusy = false) ∧
  (∃ (s : State) (len : Nat) (handle : Nat) (e : List Nat), s.doeOpen = true ∧ len ≤ 16384 ∧ s.doeBusy = false ∧ s.cdat[handle]? = some e) ∧
  (∃ (s : State) (len : Nat), s.doeOpen = true ∧ len ≤ 16384 ∧ s.doeBusy = false) ∧
  (∃ (s : State) (len : Nat), s.doeOpen = true ∧ len ≤ 16384 ∧ s.doeBusy = false ∧ s.mbox.version = true) ∧
  (∃ (s : State) (len : Nat), s.doeOpen = true ∧ len ≤ 16384 ∧ s.doeBusy = false ∧ s.mbox.caps = true) ∧
  (∃ (s : State) (len : Nat), s.doeOpen = true ∧ len ≤ 16384 ∧ s.doeBusy = false ∧ s.mbox.algs = true) ∧
  (∃ (s : State) (len : Nat), s.doeOpen = true ∧ len ≤ 16384 ∧ s.doeBusy = false ∧ s.mbox.algs = true) ∧
  (∃ (s : State) (len : Nat), s.doeOpen = true ∧ len ≤ 16384 ∧ s.doeBusy = false ∧ s.mbox.algs = true) ∧
  (∃ (s : State) (len : Nat) (index : Nat), s.doeOpen = true ∧ len ≤ 16384 ∧ s.doeBusy = false ∧ s.mbox.algs = true ∧ 1 ≤ index ∧ index ≤ 6) ∧
  (∃ (s : State) (len : Nat), s.doeOpen = true ∧ len ≤ 16384 ∧ s.doeBusy = false ∧ s.mbox.algs = true ∧ s.session 0 = none) :=
  ⟨⟨hostSt, 64, by decide +kernel⟩,
  ⟨hostSt, 64, 1, [1, 1, 510300], by decide +kernel⟩,
  ⟨hostSt, 64, by decide +kernel⟩,
  ⟨{ hostSt with mbox := { version := true } }, 64, by decide +kernel⟩,
  ⟨{ hostSt with mbox := { version := true, caps := true } }, 64, by decide +kernel⟩,
  ⟨{ hostSt with mbox := { version := true, caps := true, algs := true } }, 64, by decide +kernel⟩,
  ⟨{ hostSt with mbox := { version := true, caps := true, algs := true } }, 64, by decide +kernel⟩,
  ⟨{ hostSt with mbox := { version := true, caps := true, algs := true } }, 64, by decide +kernel⟩,
  ⟨{ hostSt with mbox := { version := true, caps := true, algs := true } }, 64, 3, by decide +kernel⟩,
  ⟨{ hostSt with mbox := { version := true, caps := true, algs := true } }, 64, by decide +kernel⟩⟩

/-- The hypotheses of SecureSessionsComplete are met. -/
theorem witness_secureSessionsComplete :
  (∃ (s : State) (len : Nat) (i : Nat), s.doeOpen = true ∧ len ≤ 16384 ∧ s.doeBusy = false ∧ s.session i = some false) ∧
  (∃ (s : State) (len : Nat) (i : Nat), s.doeOpen = true ∧ len ≤ 16384 ∧ s.doeBusy = false ∧ s.session i = some true) ∧
  (∃ (s : State) (len : Nat) (i : Nat) (k : Nat), s.doeOpen = true ∧ len ≤ 16384 ∧ s.doeBusy = false ∧ s.session i = some true ∧ 1 ≤ k ∧ k ≤ 3) ∧
  (∃ (s : State) (len : Nat) (i : Nat), s.doeOpen = true ∧ len ≤ 16384 ∧ s.doeBusy = false ∧ s.session i = some true) ∧
  (∃ (s : State) (len : Nat) (i : Nat), s.doeOpen = true ∧ len ≤ 16384 ∧ s.doeBusy = false ∧ s.session i = some true) ∧
  (∃ (s : State) (len : Nat) (i : Nat), s.doeOpen = true ∧ len ≤ 16384 ∧ s.doeBusy = false ∧ s.session i = some true) ∧
  (∃ (s : State) (len : Nat) (i : Nat), s.doeOpen = true ∧ len ≤ 16384 ∧ s.doeBusy = false ∧ s.session i = some true ∧ s.link.ideKeys = true) ∧
  (∃ (s : State) (len : Nat) (i : Nat), s.doeOpen = true ∧ len ≤ 16384 ∧ s.doeBusy = false ∧ s.session i = some true ∧ s.link.ideMemKeys = true ∧ s.link.cxl = true) :=
  ⟨⟨{ hostSt with mbox := { version := true, caps := true, algs := true, sessions := [(1, some false)] } }, 64, 1, by decide +kernel⟩,
  ⟨{ hostSt with mbox := { version := true, caps := true, algs := true, sessions := [(1, some true)] } }, 64, 1, by decide +kernel⟩,
  ⟨{ hostSt with mbox := { version := true, caps := true, algs := true, sessions := [(1, some true)] } }, 64, 1, 2, by decide +kernel⟩,
  ⟨{ hostSt with mbox := { version := true, caps := true, algs := true, sessions := [(1, some true)] } }, 64, 1, by decide +kernel⟩,
  ⟨{ hostSt with mbox := { version := true, caps := true, algs := true, sessions := [(1, some true)] } }, 64, 1, by decide +kernel⟩,
  ⟨{ hostSt with mbox := { version := true, caps := true, algs := true, sessions := [(1, some true)] } }, 64, 1, by decide +kernel⟩,
  ⟨{ { hostSt with mbox := { version := true, caps := true, algs := true, sessions := [(1, some true)] } } with link := { hostSt.link with ideKeys := true } }, 64, 1, by decide +kernel⟩,
  ⟨{ { hostSt with mbox := { version := true, caps := true, algs := true, sessions := [(1, some true)] } } with link := { hostSt.link with ideMemKeys := true } }, 64, 1, by decide +kernel⟩⟩

/-- The hypotheses of SidebandCommandsComplete are met. -/
theorem witness_sidebandCommandsComplete :
  (∃ (s : State), s.dev.por = true ∧ s.pwr.vin = true ∧ s.i3c.addr = none) ∧
  (∃ (s : State), s.dev.por = true ∧ s.pwr.vin = true ∧ s.i3c.addr = none) ∧
  (∃ (s : State), s.dev.por = true ∧ s.pwr.vin = true) ∧
  (∃ (s : State) (a : Nat), s.dev.por = true ∧ s.pwr.vin = true ∧ s.i3c.addr = some a) ∧
  (∃ (s : State) (a : Nat), s.dev.por = true ∧ s.pwr.vin = true ∧ s.i3c.addr = some a) ∧
  (∃ (s : State) (a : Nat), s.dev.por = true ∧ s.pwr.vin = true ∧ s.i3c.addr = some a) ∧
  (∃ (s : State) (a : Nat), s.dev.por = true ∧ s.pwr.vin = true ∧ s.i3c.addr = some a ∧ s.irq.pin = false) ∧
  (∃ (s : State) (b : Nat), s.dev.por = true ∧ s.pwr.vin = true ∧ bitOf b 0 = true) ∧
  (∃ (s : State) (b : Nat), s.dev.por = true ∧ s.pwr.vin = true ∧ bitOf b 0 = true) ∧
  (∃ (s : State) (a : Nat), s.dev.por = true ∧ s.pwr.vin = true ∧ s.i3c.addr = some a ∧ s.pageOpen 0x30 0x14 = true) ∧
  (∃ (s : State) (a : Nat) (o : Nat), s.dev.por = true ∧ s.pwr.vin = true ∧ s.i3c.addr = some a ∧ o < 0x1000 ∧ o % 4 = 0) :=
  ⟨⟨upSt, by decide +kernel⟩,
  ⟨upSt, by decide +kernel⟩,
  ⟨{ upSt with i3c := { addr := some 9 } }, by decide +kernel⟩,
  ⟨{ upSt with i3c := { addr := some 9 } }, 9, by decide +kernel⟩,
  ⟨{ upSt with i3c := { addr := some 9 } }, 9, by decide +kernel⟩,
  ⟨{ upSt with i3c := { addr := some 9 } }, 9, by decide +kernel⟩,
  ⟨{ upSt with i3c := { addr := some 9 } }, 9, by decide +kernel⟩,
  ⟨{ upSt with i3c := { addr := some 9 } }, 1, by decide +kernel⟩,
  ⟨{ upSt with i3c := { addr := some 9 } }, 1, by decide +kernel⟩,
  ⟨{ upSt with i3c := { addr := some 9 } }, 9, by decide +kernel⟩,
  ⟨{ upSt with i3c := { addr := some 9 } }, 9, 0x44, by decide +kernel⟩⟩

/-- The hypotheses of DebugPortCommandsComplete are met. -/
theorem witness_debugPortCommandsComplete :
  (∃ (s : State), s.dev.por = true ∧ Rail.vddIo ∈ s.pwr.rails ∧ s.dev.st = .test) ∧
  (∃ (s : State), s.dev.por = true ∧ Rail.vddIo ∈ s.pwr.rails) ∧
  (∃ (s : State), s.dev.por = true ∧ Rail.vddIo ∈ s.pwr.rails) ∧
  (∃ (s : State), s.dev.por = true ∧ Rail.vddIo ∈ s.pwr.rails ∧ s.dev.st = .test) ∧
  (∃ (s : State), s.dev.por = true ∧ Rail.vddIo ∈ s.pwr.rails) ∧
  (∃ (s : State), s.dev.por = true ∧ Rail.vddIo ∈ s.pwr.rails ∧ s.fld Reg.DBG.STATUS.LEVEL ≠ 2) ∧
  (∃ (s : State) (a : Nat), s.dev.por = true ∧ Rail.vddIo ∈ s.pwr.rails ∧ s.dev.st = .service ∧ a < 0x40000) ∧
  (∃ (s : State), s.dev.por = true ∧ Rail.vddIo ∈ s.pwr.rails ∧ s.dev.st = .service ∧ s.dbg.lock = false ∧ s.dbg.challenge = false) ∧
  (∃ (s : State) (a : Nat) (k : Nat) (i : Nat), s.dev.por = true ∧ Rail.vddIo ∈ s.pwr.rails ∧ s.dev.st = .service ∧ s.fld Reg.DBG.STATUS.LEVEL = 2 ∧ s.checkDpa clsDebug true false (a / 64 * 64) k = 0 ∧ s.regionOf (dpaPaddock (a / 64 * 64)) = some i ∧ (s.region i).grouped = false ∧ s.xlt.staged = [] ∧ s.hk.vholdQual = true ∧ s.bw.holding = true) ∧
  (∃ (s : State) (a : Nat) (k : Nat) (x : Line), s.dev.por = true ∧ Rail.vddIo ∈ s.pwr.rails ∧ s.dev.st = .service ∧ s.fld Reg.DBG.STATUS.LEVEL = 2 ∧ s.checkDpa clsDebug false false (a / 64 * 64) k = 0 ∧ dpaCart (a / 64 * 64) = none ∧ s.readView (a / 64) = (x, BitVec.allOnes 64)) ∧
  (∃ (s : State) (w : Bool) (a : Nat) (k : Nat), s.dev.por = true ∧ Rail.vddIo ∈ s.pwr.rails ∧ s.dev.st = .service ∧ s.fld Reg.DBG.STATUS.LEVEL = 2 ∧ s.checkDpa clsDebug w false (a / 64 * 64) k ≠ 0) ∧
  (∃ (s : State) (g : List Nat), s.dev.por = true ∧ Rail.vddIo ∈ s.pwr.rails ∧ s.dev.st = .service ∧ s.dbg.lock = false ∧ s.dbg.challenge = true ∧ g ≠ []) ∧
  (∃ (s : State), s.dev.por = true ∧ Rail.vddIo ∈ s.pwr.rails ∧ s.dev.st = .halt ∧ s.fld Reg.DBG.STATUS.LEVEL = 2) ∧
  (∃ (s : State) (c : Nat), s.dev.por = true ∧ Rail.vddIo ∈ s.pwr.rails ∧ s.dev.st = .rma ∧ 0x80 ≤ c ∧ c ≤ 0xFE) :=
  ⟨⟨{ upSt with pwr := { upSt.pwr with rails := [.vddIo] }, dev := { st := .test, por := true } }, by decide +kernel⟩,
  ⟨{ upSt with pwr := { upSt.pwr with rails := [.vddIo] } }, by decide +kernel⟩,
  ⟨{ upSt with pwr := { upSt.pwr with rails := [.vddIo] } }, by decide +kernel⟩,
  ⟨{ upSt with pwr := { upSt.pwr with rails := [.vddIo] }, dev := { st := .test, por := true } }, by decide +kernel⟩,
  ⟨{ upSt with pwr := { upSt.pwr with rails := [.vddIo] } }, by decide +kernel⟩,
  ⟨{ upSt with pwr := { upSt.pwr with rails := [.vddIo] } }, by decide +kernel⟩,
  ⟨{ upSt with pwr := { upSt.pwr with rails := [.vddIo] } }, 0, by decide +kernel⟩,
  ⟨{ upSt with pwr := { upSt.pwr with rails := [.vddIo] } }, by decide +kernel⟩,
  ⟨({ hostSt with pwr := { upSt.pwr with rails := [.vddIo] }, bw := { holding := true }, prot := { regions := [(0, { valid := true, first := 0, last := 9, rights := 0x1FF })] } } : State).setFld Reg.DBG.STATUS.LEVEL 2, 4096, 0, 0, by decide +kernel⟩,
  ⟨({ hostSt with pwr := { upSt.pwr with rails := [.vddIo] }, xlt := { staged := [(stKey 64 none, { data := 9, mask := BitVec.allOnes 64, bell := 0, keyid := 0, clk := 0 })] }, prot := { regions := [(0, { valid := true, first := 0, last := 9, rights := 0x1FF })] } } : State).setFld Reg.DBG.STATUS.LEVEL 2, 4096, 0, 9, by decide +kernel⟩,
  ⟨({ upSt with pwr := { upSt.pwr with rails := [.vddIo] } } : State).setFld Reg.DBG.STATUS.LEVEL 2, true, 4096, 0, by decide +kernel⟩,
  ⟨{ upSt with pwr := { upSt.pwr with rails := [.vddIo] }, dbg := { challenge := true } }, [1], by decide +kernel⟩,
  ⟨({ upSt with pwr := { upSt.pwr with rails := [.vddIo] }, dev := { st := .halt, por := true } } : State).setFld Reg.DBG.STATUS.LEVEL 2, by decide +kernel⟩,
  ⟨{ upSt with pwr := { upSt.pwr with rails := [.vddIo] }, dev := { st := .rma, por := true } }, 0x90, by decide +kernel⟩⟩

/-- The hypotheses of MemoriesAndFaultServiceComplete are met. -/
theorem witness_memoriesAndFaultServiceComplete :
  (∃ (s : State) (b : Nat), s.srm.march = some (b, 1)) ∧
  (∃ (s : State) (n : Nat) (x : NvPage), s.pnv.ventPend = none ∧ s.nvm.job = some (n, x) ∧ (n < 512 ∨ 1536 ≤ n)) ∧
  (∃ (s : State) (n : Nat) (x : NvPage), s.pnv.ventPend = none ∧ s.nvm.job = some (n, x) ∧ 512 ≤ n ∧ n < 1536) ∧
  (∃ (s : State) (r : NvRec), s.pnv.ventPend = none ∧ s.nvm.job = none ∧ s.pnv.op = none ∧ nvRecs.find? s.nvDirty = some r) ∧
  (∃ (s : State) (q : Nat) (r : Report), s.dev.st = .service ∧ s.dev.tallyReady = true ∧ s.tally.pick = some (q, r) ∧ (s.tally.queueOf r.sev).length < 8) ∧
  (∃ (s : State) (r : Report) (p : Nat), (s.at_ p).outranked 2 = false ∧ s.dev.st = .service ∧ s.dev.tallyReady = true ∧ s.dev.haltVent = false ∧ s.tally.head = some r ∧ r.sev = 3 ∧ r.code ≠ 0x3B01 ∧ s.tally.escFlag = 0 ∧ s.tally.queueOf 3 = [r] ∧ s.minRecord ≤ 3 ∧ s.tally.last = none ∧ s.tally.buf = []) ∧
  (∃ (s : State) (c : Nat), s.liveCores.head? = some c ∧ SMap.get (fun _ => []) s.tally.notes 7 = [] ∧ SMap.get (fun _ => []) s.tally.notes 6 = [] ∧ SMap.get (fun _ => []) s.tally.notes 5 = [] ∧ SMap.get (fun _ => []) s.tally.notes 4 ≠ []) ∧
  (∃ (s : State) (c : Nat), c < 8 ∧ (s.core c).live = true) ∧
  (∃ (s : State), s.tally.flush.deferred = true ∧ s.tally.flush.running = false ∧ (∀ b ∈ s.tally.flush.lastStart, b + 65536 ≤ s.clk.bell)) ∧
  (∃ (s : State), s.tally.flush.deferred = true ∧ s.tally.flush.running = true ∧ (∀ b ∈ s.tally.flush.lastStart, b + 65536 ≤ s.clk.bell)) ∧
  (∃ (s : State), s.tally.flush.running = true ∧ s.tally.flush.queued = false ∧ s.pwr.downAfterFlush = false ∧ s.pwr.standbyWait = false) :=
  ⟨⟨{ upSt with srm := { march := some (3, 1) } }, 3, by decide +kernel⟩,
  ⟨{ upSt with pnv := { erasing := true, op := some (.program 4 false) }, nvm := { job := some (4, { bytes := 5 }) } }, 4, { bytes := 5 }, by decide +kernel⟩,
  ⟨{ upSt with pnv := { erasing := true, op := some (.program 600 true) }, nvm := { job := some (600, { bytes := 5 }) }, tally := { flush := { running := true, plan := [(0, 0, 704), (1, 1, 3)] } } }, 600, { bytes := 5 }, by decide +kernel⟩,
  ⟨{ upSt with pnv := { erasing := true } }, .intent, by decide +kernel⟩,
  ⟨{ upSt with tally := { fifo := [(0x30, [{ sev := 4, cls := 5, code := 0x3041, page := 0x30, inst := 0, p1 := 1, p2 := 2, p3 := 3 }])] } }, 0x30, { sev := 4, cls := 5, code := 0x3041, page := 0x30, inst := 0, p1 := 1, p2 := 2, p3 := 3 }, by decide +kernel⟩,
  ⟨{ upSt with tally := { queue := [(3, [{ sev := 3, cls := 5, code := 0x3041, page := 0x30, inst := 0, p1 := 1, p2 := 2, p3 := 3 }])] } }, { sev := 3, cls := 5, code := 0x3041, page := 0x30, inst := 0, p1 := 1, p2 := 2, p3 := 3 }, 5, by decide +kernel⟩,
  ⟨{ upSt with tally := { notes := [(4, [{ sev := 4, cls := 5, code := 0x3041, page := 0x30, inst := 0, p1 := 1, p2 := 2, p3 := 3 }])], cores := [(2, { live := true })] } }, 2, by decide +kernel⟩,
  ⟨{ upSt with tally := { cores := [(2, { live := true }), (3, { live := true })] } }, 2, by decide +kernel⟩,
  ⟨{ upSt with tally := { flush := { deferred := true } } }, by decide +kernel⟩,
  ⟨{ upSt with tally := { flush := { deferred := true, running := true } } }, by decide +kernel⟩,
  ⟨{ upSt with tally := { flush := { running := true } } }, by decide +kernel⟩⟩

/-- The hypotheses of KeysTamperAndGroupStatusComplete are met. -/
theorem witness_keysTamperAndGroupStatusComplete :
  (∃ (s : State) (o : KeyOp), s.prot.op = some o ∧ o.result = 0 ∧ o.persist = false) ∧
  (∃ (s : State), s.dev.st = .service ∧ s.pwr.standby = false ∧ s.flag Reg.ALM.STATUS.ZEROISING = false ∧ s.pwr.vin = true) ∧
  (∃ (s : State) (n : Nat), s.dev.st = .service ∧ s.pwr.standby = false ∧ s.flag Reg.ALM.STATUS.ZEROISING = false ∧ s.pwr.vin = true ∧ n < 4 ∧ bitOf (s.fld Reg.ALM.CFG.TAMPER_EN) n = true) ∧
  (∃ (s : State), s.dev.st = .service ∧ s.pwr.standby = false ∧ s.flag Reg.ALM.STATUS.ZEROISING = false ∧ Rail.vddCore ∈ s.pwr.rails) ∧
  (∃ (s : State), s.dev.st = .service ∧ s.pwr.standby = false ∧ s.flag Reg.ALM.STATUS.ZEROISING = false ∧ s.flag Reg.BWT.CLK_STATUS.PLL_LOCKED = true) ∧
  (∃ (s : State), s.flag Reg.ALM.STATUS.ZEROISING = true) ∧
  (∃ (s : State) (g : Nat), g < 16 ∧ s.pageOpen 0x0B 0x80 = true ∧ (s.group g).st = .done) :=
  ⟨⟨{ upSt with prot := { op := some { op := 1, slot := 2, persist := false, result := 0, after := { st := 1 } } } }, { op := 1, slot := 2, persist := false, result := 0, after := { st := 1 } }, by decide +kernel⟩,
  ⟨upSt, by decide +kernel⟩,
  ⟨upSt.setFld Reg.ALM.CFG.TAMPER_EN 4, 2, by decide +kernel⟩,
  ⟨{ upSt with pwr := { upSt.pwr with rails := [.vddCore] } }, by decide +kernel⟩,
  ⟨upSt.setFlag Reg.BWT.CLK_STATUS.PLL_LOCKED true, by decide +kernel⟩,
  ⟨upSt.setFlag Reg.ALM.STATUS.ZEROISING true, by decide +kernel⟩,
  ⟨{ upSt with xlt := { groups := [(2, { st := .done })] } }, 2, by decide +kernel⟩⟩

/-- The hypotheses of StreamAdmissionCompletes are met. -/
theorem witness_streamAdmissionCompletes :
  (∃ (s : State) (a : Nat) (v : Nat) (b : List Nat), s.ioOpen = true ∧ b.length = 8 ∧ a % 8 = 0 ∧ a / 8 % 8 ≠ 7 ∧ s.penSlot (a / 4096 % 64) (a / 64 % 64) = none ∧ s.cellFree (a / 4096 % 64) = true ∧ v = ofBytesLe b) ∧
  (∃ (s : State) (n : Nat) (k : Nat) (x : PenSlot), s.penSlot n k = some x ∧ x.broken = false ∧ x.since + s.appFld Reg.PEN.POOL_CFG.STAGE_TIMEOUT * 1024 < s.clk.bell ∧ n < 64) ∧
  (∃ (s : State) (k : Packet), s.strm.adm = none ∧ s.flag Reg.STR.CTRL.ENABLE = true ∧ s.dev.st ≠ .vent ∧ s.dev.st ≠ .halt ∧ s.pwr.standbyWait = false ∧ s.nextPacket = some k ∧ k.opcode = 1) ∧
  (∃ (s : State) (k : Packet), s.strm.adm = none ∧ s.flag Reg.STR.CTRL.ENABLE = true ∧ s.dev.st ≠ .vent ∧ s.dev.st ≠ .halt ∧ s.pwr.standbyWait = false ∧ s.nextPacket = some k ∧ k.opcode = 2) ∧
  (∃ (s : State) (k : Packet), s.strm.adm = none ∧ s.flag Reg.STR.CTRL.ENABLE = true ∧ s.dev.st ≠ .vent ∧ s.dev.st ≠ .halt ∧ s.pwr.standbyWait = false ∧ s.nextPacket = some k ∧ k.opcode = 3) ∧
  (∃ (s : State) (k : Packet), s.strm.adm = none ∧ s.flag Reg.STR.CTRL.ENABLE = true ∧ s.dev.st ≠ .vent ∧ s.dev.st ≠ .halt ∧ s.pwr.standbyWait = false ∧ s.nextPacket = some k ∧ k.opcode = 4) ∧
  (∃ (s : State) (k : Packet), s.strm.adm = none ∧ s.flag Reg.STR.CTRL.ENABLE = true ∧ s.dev.st ≠ .vent ∧ s.dev.st ≠ .halt ∧ s.pwr.standbyWait = false ∧ s.nextPacket = some k ∧ k.opcode = 5) ∧
  (∃ (s : State) (a : Adm) (p : Nat), s.strm.adm = some a ∧ a.due ≤ (s.clk.bell * 4096 + p % 4096) ∧ a.flushed = false ∧ (a.pkt.opcode = 4 ∨ a.pkt.opcode = 5) ∧ a.pkt.useDict = false ∧ s.strm.reqs = []) ∧
  (∃ (s : State) (a : Adm) (p : Nat) (st : Nat) (d : Nat) (x : Nat), s.strm.adm = some a ∧ a.due ≤ (s.clk.bell * 4096 + p % 4096) ∧ a.pkt.pen < 64 ∧ (a.flushed = true ∨ (s.packetRefusal a.pkt = some (st, d, x) ∧ (st ≠ 0x11 ∨ 0x10 ≤ d)))) :=
  ⟨⟨(hostSt.setFld Reg.PEN.POOL.FREE 9).setFld (Reg.PEN.CTRL.CELL_LIMIT 0) 8, 8, 0x0807060504030201, [1, 2, 3, 4, 5, 6, 7, 8], by decide +kernel⟩,
  ⟨{ hostSt with strm := { slots := [(195, some {})] }, clk := { bell := 2 ^ 40 } }, 3, 3, {}, by decide +kernel⟩,
  ⟨({ hostSt with strm := { packets := [{ pen := 3, words := [1, 0, 0, 0, 0, 0, 0, 0], at_ := 0 }] }, irq := { busMaster := true } } : State).setFlag Reg.STR.CTRL.ENABLE true, { pen := 3, words := [1, 0, 0, 0, 0, 0, 0, 0], at_ := 0 }, by decide +kernel⟩,
  ⟨({ hostSt with strm := { packets := [{ pen := 3, words := [2, 0, 0, 0, 0, 0, 0, 0], at_ := 0 }] }, irq := { busMaster := true } } : State).setFlag Reg.STR.CTRL.ENABLE true, { pen := 3, words := [2, 0, 0, 0, 0, 0, 0, 0], at_ := 0 }, by decide +kernel⟩,
  ⟨({ hostSt with strm := { packets := [{ pen := 3, words := [3, 0, 0, 0, 0, 0, 0, 0], at_ := 0 }] }, irq := { busMaster := true } } : State).setFlag Reg.STR.CTRL.ENABLE true, { pen := 3, words := [3, 0, 0, 0, 0, 0, 0, 0], at_ := 0 }, by decide +kernel⟩,
  ⟨({ hostSt with strm := { packets := [{ pen := 3, words := [4, 0, 0, 0, 0, 0, 0, 0], at_ := 0 }] }, irq := { busMaster := true } } : State).setFlag Reg.STR.CTRL.ENABLE true, { pen := 3, words := [4, 0, 0, 0, 0, 0, 0, 0], at_ := 0 }, by decide +kernel⟩,
  ⟨({ hostSt with strm := { packets := [{ pen := 3, words := [5, 0, 0, 0, 0, 0, 0, 0], at_ := 0 }] }, irq := { busMaster := true } } : State).setFlag Reg.STR.CTRL.ENABLE true, { pen := 3, words := [5, 0, 0, 0, 0, 0, 0, 0], at_ := 0 }, by decide +kernel⟩,
  ⟨{ hostSt with strm := { adm := some { pkt := { pen := 3, words := [4, 0, 0, 0, 0, 0, 0, 0], at_ := 0 }, due := 3 } }, irq := { busMaster := true } }, { pkt := { pen := 3, words := [4, 0, 0, 0, 0, 0, 0, 0], at_ := 0 }, due := 3 }, 5, by decide +kernel⟩,
  ⟨({ hostSt with strm := { adm := some { pkt := { pen := 3, words := [1, 0, 0, 0, 0, 0, 0, 0], at_ := 0 }, due := 3 } } } : State), { pkt := { pen := 3, words := [1, 0, 0, 0, 0, 0, 0, 0], at_ := 0 }, due := 3 }, 5, 0x12, 2, 0, by decide +kernel⟩⟩

/-- The hypotheses of StreamWorkCompletes are met. -/
theorem witness_streamWorkCompletes :
  (∃ (s : State) (q : Req) (b : Book), s.sreq q.id = some q ∧ q.books.find? (fun x => x.seg = b.seg) = some b ∧ b.started = false ∧ b.bell ≤ s.clk.bell ∧ q.fail = none ∧ s.serving = true ∧ dpaCart q.pkt.dpa = none ∧ s.streamCached q.pkt b.seg = false ∧ s.mediaRoom q b = true) ∧
  (∃ (s : State) (q : Req) (b : Book), s.sreq q.id = some q ∧ q.books.find? (fun x => x.seg = b.seg) = some b ∧ b.started = false ∧ b.bell ≤ s.clk.bell ∧ q.fail = none ∧ s.serving = true ∧ s.mediaRoom q b = false) ∧
  (∃ (s : State) (r : Req) (x : Nat) (b : Nat) (n : Nat), s.reads.list = [] ∧ s.sreq r.id = some r ∧ r.lane = some (x, b, n) ∧ r.started = none ∧ r.fail = none ∧ r.complete = true ∧ s.laneBusy x = false ∧ b ≤ s.clk.bell ∧ s.laneTaken x s.clk.bell r.id = false ∧ s.serving = true ∧ r.gen = none) ∧
  (∃ (s : State) (r : Req), s.sreq r.id = some r ∧ r.decoding = true) ∧
  (∃ (s : State) (r : Req) (g : Nat) (c : List Nat), s.reads.list = [] ∧ s.sreq r.id = some r ∧ r.pkt.opcode = 3 ∧ r.decoded = false ∧ r.gen = some g ∧ r.finish ≤ s.clk.bell ∧ (s.dictSlot r.pkt.dict).named = true ∧ r.fail = none ∧ r.complete = true ∧ (parseDict r.source).map (fun z => z.content) = some c) ∧
  (∃ (s : State) (r : Req) (g : Nat), s.sreq r.id = some r ∧ r.pkt.opcode = 4 ∧ r.acted = none ∧ r.fail = none ∧ s.strm.reqs.any (fun y => decide (y.pkt.pen = r.pkt.pen) && decide (y.id < r.id)) = false ∧ s.openGroup r.pkt.region = some g ∧ (s.group g).st = .opened) ∧
  (∃ (s : State) (r : Req), s.reads.list = [] ∧ s.sreq r.id = some r ∧ s.reqOver r = true ∧ s.delivered r.id = true ∧ r.finish ≤ s.clk.bell ∧ r.fail = none ∧ r.bad = [] ∧ r.pkt.deadline = 0 ∧ r.pkt.pen < 64 ∧ s.link.up = true ∧ s.irq.busMaster = true ∧ s.link.recovery = false ∧ s.serving = true) ∧
  (∃ (s : State) (r : Req) (g : Nat), s.sreq r.id = some r ∧ r.pkt.opcode = 5 ∧ r.acted = none ∧ r.fail = none ∧ s.strm.reqs.any (fun y => decide (y.pkt.pen = r.pkt.pen) && decide (y.id < r.id)) = false ∧ s.openGroup r.pkt.region = some g) ∧
  (∃ (s : State) (r : Req) (st : Nat) (d : Nat) (o : Nat), s.reads.list = [] ∧ s.sreq r.id = some r ∧ r.fail = some (st, d, o) ∧ r.decoding = false ∧ r.pkt.opcode ≠ 3 ∧ r.pkt.pen < 64 ∧ s.link.up = true ∧ s.irq.busMaster = true ∧ s.link.recovery = false ∧ s.serving = true) ∧
  (∃ (s : State) (h : HostRd) (sv : Save) (b : List Nat), s.strm.hostReads.find? (fun x => decide (x.tag = h.tag)) = some h ∧ h.req = none ∧ (s.zl h.slot).save = some sv ∧ sv.reads = [] ∧ s.ioOpen = true ∧ s.serving = true ∧ b.length = 512 ∧ (∀ x ∈ b, x < 256) ∧ h.len = 512) ∧
  (∃ (s : State) (r : Rd) (n : Nat) (tag : Nat) (p : Nat), s.rd n = some r ∧ r.who = .host tag ∧ r.st = .cart ∧ r.acc + (if r.reread then 12686 else 7286) ≤ (s.clk.bell * 4096 + p % 4096) ∧ r.outs ≠ []) :=
  ⟨⟨{ hostSt with strm := { reqs := [{ id := 6, pkt := { pen := 3, words := [257, 0, 0, 0, 0, 0, 0, 0], at_ := 0 }, books := [{ seg := 0, res := some 0, bell := 0, lag := 0, units := 1 }] }] }, irq := { busMaster := true } }, { id := 6, pkt := { pen := 3, words := [257, 0, 0, 0, 0, 0, 0, 0], at_ := 0 }, books := [{ seg := 0, res := some 0, bell := 0, lag := 0, units := 1 }] }, { seg := 0, res := some 0, bell := 0, lag := 0, units := 1 }, by decide +kernel⟩,
  ⟨{ hostSt with strm := { reqs := [{ id := 6, pkt := { pen := 3, words := [257, 0, 0, 0, 0, 0, 0, 0], at_ := 0 }, books := [{ seg := 0, res := some 0, bell := 0, lag := 0, units := 100 }] }] }, irq := { busMaster := true }, xlt := { map := [(0, { st := .caldera, psa := 5 })] } }, { id := 6, pkt := { pen := 3, words := [257, 0, 0, 0, 0, 0, 0, 0], at_ := 0 }, books := [{ seg := 0, res := some 0, bell := 0, lag := 0, units := 100 }] }, { seg := 0, res := some 0, bell := 0, lag := 0, units := 100 }, by decide +kernel⟩,
  ⟨{ hostSt with strm := { reqs := [{ id := 6, pkt := { pen := 3, words := [1, 0, 0, 0, 0, 0, 0, 0], at_ := 0 }, lane := some (0, 0, 1), got := [(0, [1, 2, 3, 4])] }] }, irq := { busMaster := true } }, { id := 6, pkt := { pen := 3, words := [1, 0, 0, 0, 0, 0, 0, 0], at_ := 0 }, lane := some (0, 0, 1), got := [(0, [1, 2, 3, 4])] }, 0, 0, 1, by decide +kernel⟩,
  ⟨{ hostSt with strm := { reqs := [{ id := 6, pkt := { pen := 3, words := [1, 0, 0, 0, 0, 0, 0, 0], at_ := 0 }, decoding := true }] }, irq := { busMaster := true } }, { id := 6, pkt := { pen := 3, words := [1, 0, 0, 0, 0, 0, 0, 0], at_ := 0 }, decoding := true }, by decide +kernel⟩,
  ⟨{ hostSt with strm := { reqs := [{ id := 6, pkt := { pen := 3, words := [3, 0, 0, 0, 0, 0, 0, 0], at_ := 0 }, gen := some 1, got := [(0, [1, 2, 3, 4])] }], dicts := [(0, { named := true, gen := 1 })] }, irq := { busMaster := true } }, { id := 6, pkt := { pen := 3, words := [3, 0, 0, 0, 0, 0, 0, 0], at_ := 0 }, gen := some 1, got := [(0, [1, 2, 3, 4])] }, 1, [], by decide +kernel⟩,
  ⟨{ hostSt with strm := { reqs := [{ id := 6, pkt := { pen := 3, words := [4, 0, 0, 0, 0, 0, 0, 0], at_ := 0 }, finish := 0 }] }, irq := { busMaster := true }, xlt := { groups := [(2, { st := .opened, region := 0 })] } }, { id := 6, pkt := { pen := 3, words := [4, 0, 0, 0, 0, 0, 0, 0], at_ := 0 }, finish := 0 }, 2, by decide +kernel⟩,
  ⟨{ hostSt with strm := { reqs := [{ id := 6, pkt := { pen := 3, words := [5, 0, 0, 0, 0, 0, 0, 0], at_ := 0 }, acted := some 2 }] }, irq := { busMaster := true } }, { id := 6, pkt := { pen := 3, words := [5, 0, 0, 0, 0, 0, 0, 0], at_ := 0 }, acted := some 2 }, by decide +kernel⟩,
  ⟨{ hostSt with strm := { reqs := [{ id := 6, pkt := { pen := 3, words := [5, 0, 0, 0, 0, 0, 0, 0], at_ := 0 }, finish := 0 }] }, irq := { busMaster := true }, xlt := { groups := [(2, { st := .opened, region := 0 })] } }, { id := 6, pkt := { pen := 3, words := [5, 0, 0, 0, 0, 0, 0, 0], at_ := 0 }, finish := 0 }, 2, by decide +kernel⟩,
  ⟨{ hostSt with strm := { reqs := [{ id := 6, pkt := { pen := 3, words := [1, 0, 0, 0, 0, 0, 0, 0], at_ := 0 }, fail := some (0x20, 0, 0) }] }, irq := { busMaster := true } }, { id := 6, pkt := { pen := 3, words := [1, 0, 0, 0, 0, 0, 0, 0], at_ := 0 }, fail := some (0x20, 0, 0) }, 0x20, 0, 0, by decide +kernel⟩,
  ⟨{ hostSt with strm := { hostReads := [{ tag := 4, req := none, slot := 0, off := 512, len := 512 }] }, irq := { busMaster := true }, zl0 := { save := some { seg := 3 } } }, { tag := 4, req := none, slot := 0, off := 512, len := 512 }, { seg := 3 }, (List.replicate 512 7), by decide +kernel⟩,
  ⟨{ hostSt with clk := { bell := 4 }, reads := { list := [{ id := 3, who := .host 1, dpa := 0, keyid := 0, acc := 0, missAt := 46, st := .cart, sectors := [0], outs := [(0, .zeros)] }] } }, { id := 3, who := .host 1, dpa := 0, keyid := 0, acc := 0, missAt := 46, st := .cart, sectors := [0], outs := [(0, .zeros)] }, 3, 1, 5, by decide +kernel⟩⟩

/-- The hypotheses of CartridgeLinkEventsComplete are met. -/
theorem witness_cartridgeLinkEventsComplete :
  (∃ (s : State) (n : Nat), n < 2 ∧ s.serving = true ∧ s.zlState n = zlTraining) ∧
  (∃ (s : State) (n : Nat) (x : Nat), n < 2 ∧ s.serving = true ∧ s.zlState n = zlTraining ∧ x % 16 ≠ 15 ∧ x % 4 = 3) ∧
  (∃ (s : State) (n : Nat) (x : Nat), n < 2 ∧ s.serving = true ∧ s.zlState n = zlTraining ∧ x % 4 ≠ 3) ∧
  (∃ (n : Nat), n < 2) ∧
  (∃ (s : State) (n : Nat), s.cartLive n = true) ∧
  (∃ (s : State) (n : Nat) (a : Nat), s.cartLive n = true ∧ a < 256) ∧
  (∃ (s : State) (n : Nat) (p : Nat), s.cartLive n = true ∧ (s.zl n).unacked ≠ [] ∧ (s.zl n).timer + 6000 ≤ (s.clk.bell * 4096 + p % 4096) ∧ s.fld (Reg.ZL.LINK_ERR.WINDOW n) < 32) ∧
  (∃ (s : State) (n : Nat) (p : Nat), s.cartLive n = true ∧ (s.zl n).lastGood + 24000 ≤ (s.clk.bell * 4096 + p % 4096) ∧ (s.zl n).lostOnce = false) ∧
  (∃ (s : State) (n : Nat), s.cartLive n = true) ∧
  (∃ (s : State) (n : Nat) (a : Nat) (v : Bool), s.cartLive n = true ∧ (s.zl n).unacked ≠ [] ∧ (v = true → (s.zl n).unacked.any (fun f => f.seq = a % 256) = false) ∧ s.fld (Reg.ZL.LINK_ERR.WINDOW n) < 32) ∧
  (∃ (s : State) (n : Nat), s.cartTrains n = true) ∧
  (∃ (s : State) (n : Nat), s.cartLive n = true ∧ (s.zl n).nakDue = false ∧ (s.zl n).ackDue = true ∧ 15 ≤ (s.zl n).sinceAck) ∧
  (∃ (s : State) (n : Nat), s.cartLive n = true ∧ (s.zl n).nakDue = false ∧ (s.zl n).ackDue = false ∧ (s.zl n).replay = 0 ∧ (s.zl n).nextCmds = [] ∧ (s.zl n).wdata = []) ∧
  (∃ (s : State) (n : Nat) (l : List CartCmd), s.cartLive n = true ∧ (s.zl n).nakDue = false ∧ (s.zl n).ackDue = false ∧ (s.zl n).replay = 0 ∧ (s.zl n).unacked.length < 32 ∧ (s.zl n).nextCmds = l ∧ l ≠ []) :=
  ⟨⟨((upSt.setFlag (Reg.ZL.STATUS.PRESENT 0) true).setFld (Reg.ZL.STATUS.STATE 0) 2).setFld (Reg.ZL.STATUS.WIDTH 0) 4, 0, by decide +kernel⟩,
  ⟨((upSt.setFlag (Reg.ZL.STATUS.PRESENT 0) true).setFld (Reg.ZL.STATUS.STATE 0) 2).setFld (Reg.ZL.STATUS.WIDTH 0) 4, 0, 7, by decide +kernel⟩,
  ⟨((upSt.setFlag (Reg.ZL.STATUS.PRESENT 0) true).setFld (Reg.ZL.STATUS.STATE 0) 2).setFld (Reg.ZL.STATUS.WIDTH 0) 4, 0, 5, by decide +kernel⟩,
  ⟨0, by decide +kernel⟩,
  ⟨((upSt.setFlag (Reg.ZL.STATUS.PRESENT 0) true).setFld (Reg.ZL.STATUS.STATE 0) 4).setFld (Reg.ZL.STATUS.WIDTH 0) 4, 0, by decide +kernel⟩,
  ⟨{ ((upSt.setFlag (Reg.ZL.STATUS.PRESENT 0) true).setFld (Reg.ZL.STATUS.STATE 0) 4).setFld (Reg.ZL.STATUS.WIDTH 0) 4 with zl0 := { unacked := [{ seq := 3, ty := 16, payload := 0 }] }, clk := { bell := 10000 } }, 0, 3, by decide +kernel⟩,
  ⟨{ ((upSt.setFlag (Reg.ZL.STATUS.PRESENT 0) true).setFld (Reg.ZL.STATUS.STATE 0) 4).setFld (Reg.ZL.STATUS.WIDTH 0) 4 with zl0 := { unacked := [{ seq := 3, ty := 16, payload := 0 }] }, clk := { bell := 10000 } }, 0, 5, by decide +kernel⟩,
  ⟨{ ((upSt.setFlag (Reg.ZL.STATUS.PRESENT 0) true).setFld (Reg.ZL.STATUS.STATE 0) 4).setFld (Reg.ZL.STATUS.WIDTH 0) 4 with zl0 := { lastGood := 0 }, clk := { bell := 10000 } }, 0, 5, by decide +kernel⟩,
  ⟨((upSt.setFlag (Reg.ZL.STATUS.PRESENT 0) true).setFld (Reg.ZL.STATUS.STATE 0) 4).setFld (Reg.ZL.STATUS.WIDTH 0) 4, 0, by decide +kernel⟩,
  ⟨{ ((upSt.setFlag (Reg.ZL.STATUS.PRESENT 0) true).setFld (Reg.ZL.STATUS.STATE 0) 4).setFld (Reg.ZL.STATUS.WIDTH 0) 4 with zl0 := { unacked := [{ seq := 3, ty := 16, payload := 0 }] }, clk := { bell := 10000 } }, 0, 5, true, by decide +kernel⟩,
  ⟨((upSt.setFlag (Reg.ZL.STATUS.PRESENT 0) true).setFld (Reg.ZL.STATUS.STATE 0) 2).setFld (Reg.ZL.STATUS.WIDTH 0) 4, 0, by decide +kernel⟩,
  ⟨{ ((upSt.setFlag (Reg.ZL.STATUS.PRESENT 0) true).setFld (Reg.ZL.STATUS.STATE 0) 4).setFld (Reg.ZL.STATUS.WIDTH 0) 4 with zl0 := { ackDue := true, sinceAck := 15 }, clk := { bell := 10000 } }, 0, by decide +kernel⟩,
  ⟨{ ((upSt.setFlag (Reg.ZL.STATUS.PRESENT 0) true).setFld (Reg.ZL.STATUS.STATE 0) 4).setFld (Reg.ZL.STATUS.WIDTH 0) 4 with zl0 := { scr := scrSeeds }, clk := { bell := 10000 } }, 0, by decide +kernel⟩,
  ⟨{ ((upSt.setFlag (Reg.ZL.STATUS.PRESENT 0) true).setFld (Reg.ZL.STATUS.STATE 0) 4).setFld (Reg.ZL.STATUS.WIDTH 0) 4 with zl0 := { cmds := [{ op := 1, tag := 5, count := 1, arg := 0, prio := 1, use := .host 3 false }] }, clk := { bell := 10000 } }, 0, [{ op := 1, tag := 5, count := 1, arg := 0, prio := 1, use := .host 3 false }], by decide +kernel⟩⟩

/-- The hypotheses of CartridgeResponsesComplete are met. -/
theorem witness_cartridgeResponsesComplete :
  (∃ (s : State) (n : Nat) (p : Nat) (c : CartCmd) (pl : Line), s.cartLive n = true ∧ (s.zl n).expect = 7 ∧ (s.zl n).resp = none ∧ (s.zl n).cmds = [c] ∧ c.op = 1 ∧ c.sent.isSome = true ∧ (s.at_ p).lateFirst c = false ∧ payByte pl 0 = c.tag ∧ payByte pl 1 = 0 ∧ payByte pl 2 = c.count ∧ (∀ i ∈ List.range 13, payByte pl (3 + i) = 0)) ∧
  (∃ (s : State) (n : Nat) (p : Nat) (c : CartCmd), s.cartLive n = true ∧ (s.zl n).expect = 7 ∧ (s.zl n).resp = some c.tag ∧ (s.zl n).cmds = [c] ∧ c.op = 1 ∧ c.sent.isSome = true ∧ (s.at_ p).lateLast c = false ∧ c.data.length + 1 < 4 * c.count) ∧
  (∃ (s : State) (n : Nat) (c : CartCmd) (pl : Line), s.cartLive n = true ∧ (s.zl n).expect = 7 ∧ (s.zl n).resp = none ∧ (s.zl n).cmds = [c] ∧ c.op = 1 ∧ c.sent.isSome = true ∧ payByte pl 0 = c.tag ∧ c.use = .copy 0 false ∧ c.count = 1 ∧ (∀ i ∈ List.range 62, payByte pl (2 + i) = 0)) ∧
  (∃ (s : State) (n : Nat) (c : CartCmd) (pl : Line), s.cartLive n = true ∧ (s.zl n).expect = 7 ∧ (s.zl n).resp = none ∧ (s.zl n).cmds = [c] ∧ c.op = 4 ∧ c.sent.isSome = true ∧ payByte pl 0 = c.tag ∧ payByte pl 2 + 256 * payByte pl 3 = 64 ∧ (∀ i ∈ List.range 12, payByte pl (4 + i) = 0)) ∧
  (∃ (s : State) (n : Nat), s.cartLive n = true ∧ (s.zl n).expect = 7) ∧
  (∃ (s : State) (n : Nat), s.cartLive n = true ∧ (s.zl n).resp = none) ∧
  (∃ (s : State) (n : Nat) (p : Nat) (k : Nat) (c : CartCmd), s.cartLive n = true ∧ (s.zl n).cmds = [c] ∧ c.op = 1 ∧ c.sent = some k ∧ c.use = .copy 0 false ∧ c.count = 1 ∧ c.head = none ∧ k + 5400 ≤ (s.clk.bell * 4096 + p % 4096)) ∧
  (∃ (s : State) (n : Nat) (p : Nat) (k : Nat) (c : CartCmd) (h : Line), s.cartLive n = true ∧ (s.zl n).cmds = [c] ∧ (s.zl n).resp = some c.tag ∧ c.op = 1 ∧ c.sent = some k ∧ c.use = .copy 0 false ∧ c.count = 1 ∧ c.head = some h ∧ k + 6930 ≤ (s.clk.bell * 4096 + p % 4096)) ∧
  (∃ (s : State) (n : Nat) (p : Nat) (k : Nat) (c : CartCmd), s.cartLive n = true ∧ (s.zl n).cmds = [c] ∧ c.op = 4 ∧ c.sent = some k ∧ k + 3000000 ≤ (s.clk.bell * 4096 + p % 4096)) ∧
  (∃ (s : State) (n : Nat) (p : Nat) (k : Nat) (c : CartCmd) (sv : Save), s.cartLive n = true ∧ (s.zl n).cmds = [c] ∧ c.op = 2 ∧ c.sent = some k ∧ c.use = .saveWrite true ∧ (s.zl n).save = some sv ∧ (s.zl n).wdata = [] ∧ k + 60000000 ≤ (s.clk.bell * 4096 + p % 4096)) :=
  ⟨⟨{ ((upSt.setFlag (Reg.ZL.STATUS.PRESENT 0) true).setFld (Reg.ZL.STATUS.STATE 0) 4).setFld (Reg.ZL.STATUS.WIDTH 0) 4 with zl0 := { expect := 7, cmds := [{ op := 1, tag := 5, count := 1, arg := 0, prio := 1, use := .host 3 false, sent := some 3 }] }, clk := { bell := 10000 } }, 0, 5, { op := 1, tag := 5, count := 1, arg := 0, prio := 1, use := .host 3 false, sent := some 3 }, 0x10005#512, by decide +kernel⟩,
  ⟨{ ((upSt.setFlag (Reg.ZL.STATUS.PRESENT 0) true).setFld (Reg.ZL.STATUS.STATE 0) 4).setFld (Reg.ZL.STATUS.WIDTH 0) 4 with zl0 := { expect := 7, resp := some 5, cmds := [{ op := 1, tag := 5, count := 1, arg := 0, prio := 1, use := .host 3 false, sent := some 3 }] }, clk := { bell := 10000 } }, 0, 5, { op := 1, tag := 5, count := 1, arg := 0, prio := 1, use := .host 3 false, sent := some 3 }, by decide +kernel⟩,
  ⟨{ ((upSt.setFlag (Reg.ZL.STATUS.PRESENT 0) true).setFld (Reg.ZL.STATUS.STATE 0) 4).setFld (Reg.ZL.STATUS.WIDTH 0) 4 with zl0 := { expect := 7, cmds := [{ op := 1, tag := 5, count := 1, arg := 0, prio := 1, use := (.copy 0 false), sent := some 3 }] }, clk := { bell := 10000 } }, 0, { op := 1, tag := 5, count := 1, arg := 0, prio := 1, use := (.copy 0 false), sent := some 3 }, 5#512, by decide +kernel⟩,
  ⟨{ ((upSt.setFlag (Reg.ZL.STATUS.PRESENT 0) true).setFld (Reg.ZL.STATUS.STATE 0) 3).setFld (Reg.ZL.STATUS.WIDTH 0) 4 with zl0 := { expect := 7, cmds := [{ op := 4, tag := 5, count := 1, arg := 0, prio := 1, use := .cert 0, sent := some 3 }] }, clk := { bell := 10000 } }, 0, { op := 4, tag := 5, count := 1, arg := 0, prio := 1, use := .cert 0, sent := some 3 }, 0x00400005#512, by decide +kernel⟩,
  ⟨{ ((upSt.setFlag (Reg.ZL.STATUS.PRESENT 0) true).setFld (Reg.ZL.STATUS.STATE 0) 4).setFld (Reg.ZL.STATUS.WIDTH 0) 4 with zl0 := { expect := 7 }, clk := { bell := 10000 } }, 0, by decide +kernel⟩,
  ⟨((upSt.setFlag (Reg.ZL.STATUS.PRESENT 0) true).setFld (Reg.ZL.STATUS.STATE 0) 4).setFld (Reg.ZL.STATUS.WIDTH 0) 4, 0, by decide +kernel⟩,
  ⟨{ ((upSt.setFlag (Reg.ZL.STATUS.PRESENT 0) true).setFld (Reg.ZL.STATUS.STATE 0) 4).setFld (Reg.ZL.STATUS.WIDTH 0) 4 with zl0 := { cmds := [{ op := 1, tag := 5, count := 1, arg := 0, prio := 1, use := (.copy 0 false), sent := some 3 }] }, clk := { bell := 10000 } }, 0, 5, 3, { op := 1, tag := 5, count := 1, arg := 0, prio := 1, use := (.copy 0 false), sent := some 3 }, by decide +kernel⟩,
  ⟨{ ((upSt.setFlag (Reg.ZL.STATUS.PRESENT 0) true).setFld (Reg.ZL.STATUS.STATE 0) 4).setFld (Reg.ZL.STATUS.WIDTH 0) 4 with zl0 := { resp := some 5, cmds := [{ op := 1, tag := 5, count := 1, arg := 0, prio := 1, use := (.copy 0 false), sent := some 3, head := some 5 }] }, clk := { bell := 10000 } }, 0, 5, 3, { op := 1, tag := 5, count := 1, arg := 0, prio := 1, use := (.copy 0 false), sent := some 3, head := some 5 }, 5#512, by decide +kernel⟩,
  ⟨{ ((upSt.setFlag (Reg.ZL.STATUS.PRESENT 0) true).setFld (Reg.ZL.STATUS.STATE 0) 3).setFld (Reg.ZL.STATUS.WIDTH 0) 4 with zl0 := { cmds := [{ op := 4, tag := 5, count := 1, arg := 0, prio := 1, use := .cert 0, sent := some 3 }] }, clk := { bell := 10000 } }, 0, 5, 3, { op := 4, tag := 5, count := 1, arg := 0, prio := 1, use := .cert 0, sent := some 3 }, by decide +kernel⟩,
  ⟨{ ((upSt.setFlag (Reg.ZL.STATUS.PRESENT 0) true).setFld (Reg.ZL.STATUS.STATE 0) 4).setFld (Reg.ZL.STATUS.WIDTH 0) 4 with zl0 := { save := some { seg := 3 }, cmds := [{ op := 2, tag := 5, count := 1, arg := 0, prio := 1, use := (.saveWrite true), sent := some 3 }] }, clk := { bell := 20000 } }, 0, 5, 3, { op := 2, tag := 5, count := 1, arg := 0, prio := 1, use := (.saveWrite true), sent := some 3 }, { seg := 3 }, by decide +kernel⟩⟩

/-- The hypotheses of CartridgeSlotEventsComplete are met. -/
theorem witness_cartridgeSlotEventsComplete :
  (∃ (s : State) (n : Nat), n < 2 ∧ s.zlOff n = false ∧ s.dev.st = .service ∧ s.pwr.ctrlOn = true ∧ s.zlState n = zlEmpty ∧ s.cartSeated n = false ∧ s.flag (Reg.ZL.CFG.AUTO_MOUNT n) = true) ∧
  (∃ (s : State) (n : Nat) (p : Nat), n < 2 ∧ s.zlState n = zlPowering ∧ (s.zl n).clock = true ∧ (s.zl n).stepAt + 300000 ≤ (s.clk.bell * 4096 + p % 4096)) ∧
  (∃ (s : State) (n : Nat) (p : Nat) (l : Nat), n < 2 ∧ s.stepLimit n = some l ∧ (s.zl n).stepAt + l < (s.clk.bell * 4096 + p % 4096)) ∧
  (∃ (s : State) (n : Nat), n < 2 ∧ s.cartSeated n = true ∧ s.zlState n ≠ zlEmpty) ∧
  (∃ (s : State) (n : Nat), n < 2 ∧ s.zlState n = zlPoweringOff ∧ (s.zl n).after < 16) :=
  ⟨⟨upSt.setFlag (Reg.ZL.CFG.AUTO_MOUNT 0) true, 0, by decide +kernel⟩,
  ⟨{ ((upSt.setFlag (Reg.ZL.STATUS.PRESENT 0) true).setFld (Reg.ZL.STATUS.STATE 0) 1).setFld (Reg.ZL.STATUS.WIDTH 0) 4 with zl0 := { clock := true }, clk := { bell := 10000 } }, 0, 5, by decide +kernel⟩,
  ⟨{ ((upSt.setFlag (Reg.ZL.STATUS.PRESENT 0) true).setFld (Reg.ZL.STATUS.STATE 0) 2).setFld (Reg.ZL.STATUS.WIDTH 0) 4 with zl0 := { stepAt := 0 }, clk := { bell := 10000 } }, 0, 5, 6000000, by decide +kernel⟩,
  ⟨{ ((upSt.setFlag (Reg.ZL.STATUS.PRESENT 0) true).setFld (Reg.ZL.STATUS.STATE 0) 4).setFld (Reg.ZL.STATUS.WIDTH 0) 4 with zl0 := { inserted := true } }, 0, by decide +kernel⟩,
  ⟨{ ((upSt.setFlag (Reg.ZL.STATUS.PRESENT 0) true).setFld (Reg.ZL.STATUS.STATE 0) 7).setFld (Reg.ZL.STATUS.WIDTH 0) 4 with zl0 := { after := 5 }, clk := { bell := 10000 } }, 0, by decide +kernel⟩⟩

/-- The hypotheses of ThermalLimitsKeepTheirOrder are met. -/
theorem witness_thermalLimitsKeepTheirOrder :
  (∃ (s : State) (src : Source) (w : Word), s.pageOpen 0x32 0x40 = true ∧ src ≠ .i3c ∧ s.cfgLock 0x32 = false ∧ s.pageState 0x32 = 1 ∧ ((bitsOf w.toNat 15 8 < bitsOf w.toNat 23 16 ∧ bitsOf w.toNat 23 16 < bitsOf w.toNat 31 24 ∧ bitsOf w.toNat 31 24 ≤ 0x73 ∧ bitsOf w.toNat 23 16 ≤ 0x69 ∧ bitsOf w.toNat 15 8 ≤ 0x5F ∧ 1 ≤ bitsOf w.toNat 7 0 ∧ bitsOf w.toNat 7 0 ≤ 0x14))) ∧
  (∃ (s : State) (src : Source) (w : Word), s.pageOpen 0x32 0x40 = true ∧ src ≠ .i3c ∧ s.cfgLock 0x32 = false ∧ s.pageState 0x32 = 1 ∧ (¬ (bitsOf w.toNat 15 8 < bitsOf w.toNat 23 16 ∧ bitsOf w.toNat 23 16 < bitsOf w.toNat 31 24 ∧ bitsOf w.toNat 31 24 ≤ 0x73 ∧ bitsOf w.toNat 23 16 ≤ 0x69 ∧ bitsOf w.toNat 15 8 ≤ 0x5F ∧ 1 ≤ bitsOf w.toNat 7 0 ∧ bitsOf w.toNat 7 0 ≤ 0x14))) :=
  ⟨⟨{ upSt with dev := { upSt.dev with st := .mount } }, .host, 0x70655A10#32, by decide +kernel⟩,
  ⟨{ upSt with dev := { upSt.dev with st := .mount } }, .host, 0x74655A10#32, by decide +kernel⟩⟩

/-- The hypotheses of LatencyProfileTakesOnlyOne are met. -/
theorem witness_latencyProfileTakesOnlyOne :
  (∃ (s : State) (src : Source) (w : Word), s.pageOpen 0x01 0x54 = true ∧ src ≠ .i3c ∧ s.cfgLock 0x01 = false ∧ s.pageState 0x01 = 1 ∧ bitsOf w.toNat 3 0 = 1) ∧
  (∃ (s : State) (src : Source) (w : Word), s.pageOpen 0x01 0x54 = true ∧ src ≠ .i3c ∧ s.cfgLock 0x01 = false ∧ s.pageState 0x01 = 1 ∧ bitsOf w.toNat 3 0 ≠ 1) :=
  ⟨⟨{ upSt with dev := { upSt.dev with st := .mount } }, .host, 0xFFFFFFF1#32, by decide +kernel⟩,
  ⟨{ upSt with dev := { upSt.dev with st := .mount } }, .host, 2#32, by decide +kernel⟩⟩

/-- The hypotheses of TrimsAreRefusedWhole are met. -/
theorem witness_trimsAreRefusedWhole :
  (∃ (s : State) (src : Source) (w : Word), s.pageOpen 0x0B 0x68 = true ∧ s.cmdLock 0x0B = false ∧ src ≠ .i3c ∧ bitsOf w.toNat 15 8 = 0x5A ∧ s.fld Reg.XLT.TRIM_COUNT.COUNT = 0) ∧
  (∃ (s : State) (src : Source) (w : Word), s.pageOpen 0x0B 0x68 = true ∧ s.cmdLock 0x0B = false ∧ src ≠ .i3c ∧ bitsOf w.toNat 15 8 = 0x5A ∧ s.fld Reg.XLT.USER_SEGS.USER_SEGS < s.fld Reg.XLT.TRIM_START.FIRST + s.fld Reg.XLT.TRIM_COUNT.COUNT) ∧
  (∃ (s : State) (src : Source) (w : Word), s.pageOpen 0x0B 0x68 = true ∧ s.cmdLock 0x0B = false ∧ src ≠ .i3c ∧ bitsOf w.toNat 15 8 = 0x5A ∧ (s.regionsIn (s.fld Reg.XLT.TRIM_START.FIRST) (s.fld Reg.XLT.TRIM_COUNT.COUNT)).any (fun r => (s.openGroup r).isSome) = true) ∧
  (∃ (s : State) (src : Source) (w : Word), s.pageOpen 0x0B 0x68 = true ∧ s.cmdLock 0x0B = false ∧ src ≠ .i3c ∧ bitsOf w.toNat 15 8 = 0x5A ∧ s.xlt.trim.busy = true) :=
  ⟨⟨upSt, .host, 0x5A01#32, by decide +kernel⟩,
  ⟨(upSt.setFld Reg.XLT.USER_SEGS.USER_SEGS 9).setFld Reg.XLT.TRIM_COUNT.COUNT 10, .host, 0x5A01#32, by decide +kernel⟩,
  ⟨{ (upSt.setFld Reg.XLT.USER_SEGS.USER_SEGS 100).setFld Reg.XLT.TRIM_COUNT.COUNT 4 with prot := { regions := [(3, { valid := true, first := 0, last := 9, rights := 0xFF })] }, xlt := { groups := [(2, { st := .opened, region := 3 })] } }, .host, 0x5A01#32, by decide +kernel⟩,
  ⟨{ (upSt.setFld Reg.XLT.USER_SEGS.USER_SEGS 100).setFld Reg.XLT.TRIM_COUNT.COUNT 4 with xlt := { trim := { busy := true } } }, .host, 0x5A01#32, by decide +kernel⟩⟩

/-- The hypotheses of DroppedStashesStayAtTheHome are met. -/
theorem witness_droppedStashesStayAtTheHome :
  (∃ (s : State) (internal : Bool) (keyid : Nat) (addr : Nat) (agent : Nat) (target : Nat) (p : Nat), agent ≤ 2 ∧ 1 ≤ target ∧ target ≤ 14 ∧ s.stopDead (agentStop agent) = false ∧ s.ring.parked.any (fun y => decide (y.stop = (agentStop agent)) && decide (y.line = stashedLine internal keyid addr)) = false ∧ s.req (agentStop agent) (stashedLine internal keyid addr) = none ∧ s.ring.reqs.any (fun y => y.stop = (agentStop agent) && y.st = .held && decide (y.line.home = (stashedLine internal keyid addr).home)) = false ∧ s.resetting.contains 0x11 = false ∧ (s.at_ p).entryFree (l2Slice (stashedLine internal keyid addr).addr) = true ∧ ((target ≤ 4 ∨ 13 ≤ target)) ∧ internal = true) ∧
  (∃ (s : State) (internal : Bool) (keyid : Nat) (addr : Nat) (agent : Nat) (target : Nat) (p : Nat), agent ≤ 2 ∧ 1 ≤ target ∧ target ≤ 14 ∧ s.stopDead (agentStop agent) = false ∧ s.ring.parked.any (fun y => decide (y.stop = (agentStop agent)) && decide (y.line = stashedLine internal keyid addr)) = false ∧ s.req (agentStop agent) (stashedLine internal keyid addr) = none ∧ s.ring.reqs.any (fun y => y.stop = (agentStop agent) && y.st = .held && decide (y.line.home = (stashedLine internal keyid addr).home)) = false ∧ s.resetting.contains 0x11 = false ∧ (s.at_ p).entryFree (l2Slice (stashedLine internal keyid addr).addr) = true ∧ 5 ≤ target ∧ target ≤ 12 ∧ internal = false) ∧
  (∃ (s : State) (internal : Bool) (keyid : Nat) (addr : Nat) (agent : Nat) (target : Nat) (p : Nat), agent ≤ 2 ∧ 1 ≤ target ∧ target ≤ 14 ∧ s.stopDead (agentStop agent) = false ∧ s.ring.parked.any (fun y => decide (y.stop = (agentStop agent)) && decide (y.line = stashedLine internal keyid addr)) = false ∧ s.req (agentStop agent) (stashedLine internal keyid addr) = none ∧ s.ring.reqs.any (fun y => y.stop = (agentStop agent) && y.st = .held && decide (y.line.home = (stashedLine internal keyid addr).home)) = false ∧ s.resetting.contains 0x11 = false ∧ (s.at_ p).entryFree (l2Slice (stashedLine internal keyid addr).addr) = true ∧ target ≤ 4 ∧ target ≠ bitsOf (addr / 64 * 64) 7 6 + 1) ∧
  (∃ (s : State) (internal : Bool) (keyid : Nat) (addr : Nat) (agent : Nat) (target : Nat) (p : Nat), agent ≤ 2 ∧ 1 ≤ target ∧ target ≤ 14 ∧ s.stopDead (agentStop agent) = false ∧ s.ring.parked.any (fun y => decide (y.stop = (agentStop agent)) && decide (y.line = stashedLine internal keyid addr)) = false ∧ s.req (agentStop agent) (stashedLine internal keyid addr) = none ∧ s.ring.reqs.any (fun y => y.stop = (agentStop agent) && y.st = .held && decide (y.line.home = (stashedLine internal keyid addr).home)) = false ∧ s.resetting.contains 0x11 = false ∧ (s.at_ p).entryFree (l2Slice (stashedLine internal keyid addr).addr) = true ∧ popCount (cacheWays target) (s.small target).disabled = cacheWays target) ∧
  (∃ (s : State) (internal : Bool) (keyid : Nat) (addr : Nat) (agent : Nat) (target : Nat) (p : Nat), agent ≤ 2 ∧ 1 ≤ target ∧ target ≤ 14 ∧ s.stopDead (agentStop agent) = false ∧ s.ring.parked.any (fun y => decide (y.stop = (agentStop agent)) && decide (y.line = stashedLine internal keyid addr)) = false ∧ s.req (agentStop agent) (stashedLine internal keyid addr) = none ∧ s.ring.reqs.any (fun y => y.stop = (agentStop agent) && y.st = .held && decide (y.line.home = (stashedLine internal keyid addr).home)) = false ∧ s.resetting.contains 0x11 = false ∧ (s.at_ p).entryFree (l2Slice (stashedLine internal keyid addr).addr) = true ∧ s.agentDead target = true) ∧
  (∃ (s : State) (internal : Bool) (keyid : Nat) (addr : Nat) (agent : Nat) (target : Nat) (p : Nat), agent ≤ 2 ∧ 1 ≤ target ∧ target ≤ 14 ∧ s.stopDead (agentStop agent) = false ∧ s.ring.parked.any (fun y => decide (y.stop = (agentStop agent)) && decide (y.line = stashedLine internal keyid addr)) = false ∧ s.req (agentStop agent) (stashedLine internal keyid addr) = none ∧ s.ring.reqs.any (fun y => y.stop = (agentStop agent) && y.st = .held && decide (y.line.home = (stashedLine internal keyid addr).home)) = false ∧ s.resetting.contains 0x11 = false ∧ (s.at_ p).entryFree (l2Slice (stashedLine internal keyid addr).addr) = true ∧ ((agent = 0 ∧ s.flag Reg.RNG.STASH_CTRL.DROVER_EN = false ∨ agent = 1 ∧ s.flag Reg.RNG.STASH_CTRL.SHEPHERD_EN = false ∨ agent = 2 ∧ s.flag Reg.RNG.STASH_CTRL.DMA_EN = false))) ∧
  (∃ (s : State) (m : RMsg) (target : Nat) (keyid : Nat) (addr : Nat) (p : Nat) (internal : Bool) (d : Line), (s.at_ p).fillArrived target (stashedLine internal keyid addr) = some (m, d) ∧ m.stale = false ∧ s.noAlloc m.line.addr = false ∧ 1 ≤ target ∧ target ≤ 14 ∧ s.stashRefused 3 target m.line = true) :=
  ⟨⟨upSt, true, 0, 128, 0, 2, 9, by decide +kernel⟩,
  ⟨upSt, false, 0, 128, 0, 6, 9, by decide +kernel⟩,
  ⟨upSt, false, 0, 128, 1, 1, 9, by decide +kernel⟩,
  ⟨{ (upSt.setFld Reg.RNG.STASH_CTRL.DROVER_EN 1) with caches := { small := [(6, { disabled := 3 })] } }, true, 0, 128, 0, 6, 9, by decide +kernel⟩,
  ⟨upSt.setFld Reg.RNG.DEAD.DEAD 0x00000020, true, 0, 128, 0, 6, 9, by decide +kernel⟩,
  ⟨upSt.setFld Reg.RNG.STASH_CTRL.DROVER_EN 0, true, 0, 128, 0, 6, 9, by decide +kernel⟩,
  ⟨{ upSt with ring := { msgs := [{ id := 5, ty := .fill 1 9, src := 31, dst := 4, line := hostLine 128 1, ready := 0, sent := 95 }], next := 9 } }, { id := 5, ty := .fill 1 9, src := 31, dst := 4, line := hostLine 128 1, ready := 0, sent := 95 }, 1, 1, 128, 100, false, 9, by decide +kernel⟩⟩

/-- The hypotheses of DebugReadsDisturbNothing are met. -/
theorem witness_debugReadsDisturbNothing :
  (∃ (s : State) (a : Nat), s.tapOn = true ∧ s.dev.st ≠ .off ∧ s.dev.st ≠ .seqUp ∧ a < 0x40000) :=
  ⟨{ upSt with dev := { upSt.dev with st := .boot }, pwr := { upSt.pwr with rails := [.vddIo] } }, 0, by decide +kernel⟩

/-- The hypotheses of BellCompareRaisesOnce are met. -/
theorem witness_bellCompareRaisesOnce :
  (∃ (s : State) (src : Source), s.pageOpen 0x01 0x90 = true ∧ s.cfgLock 0x01 = false ∧ src ≠ .i3c) ∧
  (∃ (s : State), s.bellRuns = true ∧ s.bw.cmpArmed = true ∧ s.cmpValue ≤ s.clk.bell + 1) ∧
  (∃ (s : State), s.bellRuns = true ∧ s.bw.cmpArmed = true ∧ s.clk.bell + 1 < s.cmpValue) ∧
  (∃ (s : State), s.bellRuns = true ∧ s.bw.cmpArmed = false) :=
  ⟨⟨upSt, .host, by decide +kernel⟩,
  ⟨(({ upSt with clk := { bell := 7 }, bw := { cmpArmed := true } }).setFlag Reg.BWT.CLK_STATUS.PLL_LOCKED true).setReg 0x01090 8, by decide +kernel⟩,
  ⟨(({ upSt with clk := { bell := 7 }, bw := { cmpArmed := true } }).setFlag Reg.BWT.CLK_STATUS.PLL_LOCKED true).setReg 0x01090 9, by decide +kernel⟩,
  ⟨{ (({ upSt with clk := { bell := 7 }, bw := { cmpArmed := true } }).setFlag Reg.BWT.CLK_STATUS.PLL_LOCKED true) with bw := {} }, by decide +kernel⟩⟩

/-- The hypotheses of VentTakesNoHostRequest are met. -/
theorem witness_ventTakesNoHostRequest :
  (∃ (s : State), s.dev.st = .vent) ∧
  (∃ (s : State), s.dev.st = .vent) ∧
  (∃ (s : State), s.dev.st = .vent) ∧
  (∃ (s : State), s.dev.st = .vent) ∧
  (∃ (s : State), s.dev.st = .vent) ∧
  (∃ (s : State), s.dev.st = .vent) ∧
  (∃ (s : State), s.dev.st = .vent) :=
  ⟨⟨{ hostSt with dev := { hostSt.dev with st := .vent } }, by decide +kernel⟩,
  ⟨{ hostSt with dev := { hostSt.dev with st := .vent } }, by decide +kernel⟩,
  ⟨{ hostSt with dev := { hostSt.dev with st := .vent } }, by decide +kernel⟩,
  ⟨{ hostSt with dev := { hostSt.dev with st := .vent } }, by decide +kernel⟩,
  ⟨{ hostSt with dev := { hostSt.dev with st := .vent } }, by decide +kernel⟩,
  ⟨{ hostSt with dev := { hostSt.dev with st := .vent } }, by decide +kernel⟩,
  ⟨{ hostSt with dev := { hostSt.dev with st := .vent } }, by decide +kernel⟩⟩

/-- The hypotheses of KeySlotZeroIsNeverChanged are met. -/
theorem witness_keySlotZeroIsNeverChanged :
  (∃ (s : State) (src : Source) (w : Word), s.pageOpen 0x21 0x70 = true ∧ s.cmdLock 0x21 = false ∧ src ≠ .i3c ∧ bitsOf w.toNat 15 8 = 0xC3 ∧ bitsOf w.toNat 5 0 = 0 ∧ s.flag Reg.KEY.OP_STATUS.BUSY = false) ∧
  (∃ (s : State) (src : Source) (w : Word), s.pageOpen 0x21 0x70 = true ∧ s.cmdLock 0x21 = false ∧ src ≠ .i3c ∧ bitsOf w.toNat 15 8 = 0xC3 ∧ bitsOf w.toNat 5 0 = 0 ∧ s.flag Reg.KEY.OP_STATUS.BUSY = false) ∧
  (∃ (s : State) (src : Source) (w : Word), s.pageOpen 0x21 0x70 = true ∧ s.cmdLock 0x21 = false ∧ src ≠ .i3c ∧ bitsOf w.toNat 15 8 = 0xC3 ∧ bitsOf w.toNat 5 0 = 0 ∧ s.flag Reg.KEY.OP_STATUS.BUSY = false) ∧
  (∃ (s : State) (o : KeyOp), s.prot.op = some o ∧ o.result ≠ 0) :=
  ⟨⟨upSt, .host, 0xC300#32, by decide +kernel⟩,
  ⟨upSt, .host, 0xC300#32, by decide +kernel⟩,
  ⟨upSt, .host, 0xC300#32, by decide +kernel⟩,
  ⟨{ upSt with prot := { op := some { op := 1, slot := 0, persist := false, result := 2, after := {} } } }, { op := 1, slot := 0, persist := false, result := 2, after := {} }, by decide +kernel⟩⟩

/-- The hypotheses of LatchesAreKeptApart are met. -/
theorem witness_latchesAreKeptApart :
  (∃ (src : Source) (other : Source) (a : Nat), other.latch ≠ src.latch ∧ a < 0x40000) ∧
  (∃ (src : Source) (other : Source) (a : Nat), other.latch ≠ src.latch ∧ a < 0x40000) ∧
  (∃ (src : Source) (other : Source) (a : Nat), other.latch ≠ src.latch ∧ a < 0x40000) :=
  ⟨⟨.core 0, .host, 0x01044, by decide +kernel⟩,
  ⟨.core 0, .host, 0x01044, by decide +kernel⟩,
  ⟨.core 0, .host, 0x01044, by decide +kernel⟩⟩

/-- The hypotheses of ConfigurationLockRefusesWrites are met. -/
theorem witness_configurationLockRefusesWrites :
  (∃ (s : State) (src : Source), s.pageOpen 0x01 0x54 = true ∧ src ≠ .i3c ∧ s.cfgLock 0x01 = true) ∧
  (∃ (s : State) (src : Source), s.pageOpen 0x32 0x40 = true ∧ src ≠ .i3c ∧ s.cfgLock 0x32 = true) ∧
  (∃ (s : State) (p : Nat) (src : Source), s.pageOpen p 8 = true ∧ src ≠ .i3c ∧ s.cfgLock p = true ∧ s.resetting.contains p = false) ∧
  (∃ (s : State) (p : Nat) (src : Source), s.pageOpen p 0x14 = true ∧ src ≠ .i3c ∧ s.cfgLock p = true) :=
  ⟨⟨upSt.setReg 0x0102C 0x80000000, .host, by decide +kernel⟩,
  ⟨upSt.setReg 0x3202C 0x80000000, .host, by decide +kernel⟩,
  ⟨upSt.setReg 0x0102C 0x80000000, 1, .host, by decide +kernel⟩,
  ⟨upSt.setReg 0x0102C 0x80000000, 1, .host, by decide +kernel⟩⟩

end Sys2Proof.Tests

end
end

section
/-! PROOF. Die numbering (O4). -/

namespace Sys2Proof.Machine

/-- The die at a position of a stack lies in the gang of the position (R3). -/
theorem dieGang_dieAt (st p : Nat) (hst : st < 5) : dieGang (dieAt st p) = p / 4 := by
  unfold dieGang dieAt; omega

/-- The stack and the position of a die name it. -/
theorem dieAt_dieStack_diePos (d : Nat) : dieAt (dieStack d) (diePos d) = d := by
  unfold dieAt dieStack diePos; omega

/-- Settles O4: the number of a die is that of its gang, stack and place in the gang, and its own stack and position give it back. -/
theorem dieNumbersFollowStackAndPosition : Obligations.DieNumbersFollowStackAndPosition := by
  refine ⟨fun st p hst hp => ⟨?_, dieGang_dieAt st p hst, ?_⟩, fun d hd => ⟨?_, dieStack d, diePos d, ?_, ?_, dieAt_dieStack_diePos d⟩⟩
  · unfold dieAt; omega
  · unfold dieAt; omega
  · unfold dieGang; split <;> omega
  · unfold dieStack; omega
  · unfold diePos; omega

end Sys2Proof.Machine
end

section
/-! PROOF. What the service, boundary, write, power-cycle and program commands leave of the state (O60): a relation per reach, met by the operations through their frames, and one lemma per command. -/

namespace Sys2Proof

open Sys2Proof.Machine

/-- The outcome `o`, where it is a next state, differs from `s` in no part outside reach `r`. -/
def Reach.Keeps (r : Reach) (s : State) (o : Res) : Prop := ∀ t, o = .next t → t = r.take s t

theorem Reach.keeps_next {r : Reach} {s t : State} (h : t = r.take s t) : r.Keeps s (.next t) := by
  rintro _ ⟨⟩; exact h

end Sys2Proof

namespace Sys2Proof.Machine

/-! ### What a service command leaves -/

/-- `t` agrees with `s` in what no service command changes, the whole time base included. -/
def State.ServiceKept (s t : State) : Prop :=
  t.pending = s.pending ∧ t.variant = s.variant ∧ t.applied = s.applied ∧ t.latches = s.latches ∧ t.commits = s.commits ∧ t.resetting = s.resetting ∧
    t.pwr = s.pwr ∧ t.hk = s.hk ∧ t.clk = s.clk ∧ t.med = s.med ∧ t.roms = s.roms ∧ t.i3c = s.i3c

theorem State.ServiceKept.refl (s : State) : s.ServiceKept s := by simp [State.ServiceKept]

theorem State.ServiceKept.trans {s t u : State} (h : s.ServiceKept t) (k : t.ServiceKept u) : s.ServiceKept u := by
  simp_all [State.ServiceKept]

/-- A command that takes the phase of its clk and then changes service parts only keeps to the reach. -/
theorem State.ServiceKept.keeps_at {s t : State} {p : Nat} (h : (s.at_ p).ServiceKept t) : Reach.Keeps .service s (.next t) := by
  obtain ⟨pending, variant, applied, latches, commits, resetting, pwr, hk, clk, med, roms, i3c⟩ := h
  refine Reach.keeps_next (State.eq_of_fields ?_)
  simp [Reach.take, State.at_, *]

theorem State.ServiceKept.keeps {s t : State} (h : s.ServiceKept t) : Reach.Keeps .service s (.next t) := by
  obtain ⟨pending, variant, applied, latches, commits, resetting, pwr, hk, clk, med, roms, i3c⟩ := h
  refine Reach.keeps_next (State.eq_of_fields ?_)
  simp [Reach.take, *]

/-! ### Host memory requests -/

theorem execMemRd_keeps (hpa tag : Nat) (errs : List ArrErr) (phase : Nat) (s : State) : Reach.Keeps .service s (execMemRd hpa tag errs phase s) :=
  State.ServiceKept.keeps_at (State.memRead_frame ..)

theorem execMemRdData_keeps (hpa tag : Nat) (errs : List ArrErr) (phase : Nat) (s : State) : Reach.Keeps .service s (execMemRdData hpa tag errs phase s) :=
  State.ServiceKept.keeps_at (State.memRead_frame ..)

theorem execMemWr_keeps (hpa tag : Nat) (data : Line) (poison : Bool) (phase : Nat) (s : State) :
    Reach.Keeps .service s (execMemWr hpa tag data poison phase s) :=
  State.ServiceKept.keeps_at (State.memWrite_frame ..)

theorem execMemWrPtl_keeps (hpa tag : Nat) (data : Line) (mask : Mask) (poison : Bool) (phase : Nat) (s : State) :
    Reach.Keeps .service s (execMemWrPtl hpa tag data mask poison phase s) :=
  State.ServiceKept.keeps_at (State.memWrite_frame ..)

theorem execIdeIntegrityFailure_keeps (phase : Nat) (s : State) : Reach.Keeps .service s (execIdeIntegrityFailure phase s) := by
  apply State.ServiceKept.keeps_at (p := phase)
  split
  · simp [State.ServiceKept, State.violationLogged_frame, State.onLink_frame, State.raise_frame, State.tremor_frame]
  · exact .refl _

theorem execHostReadCompletion_keeps (tag : Nat) (ok : Bool) (bytes : List Nat) (phase : Nat) (s : State) :
    Reach.Keeps .service s (execHostReadCompletion tag ok bytes phase s) := by
  apply State.ServiceKept.keeps_at (p := phase)
  dsimp only
  split
  next h _ =>
    split
    · exact .refl _
    · have moved : (s.at_ phase).ServiceKept ((((s.at_ phase).onStrmReads (fun x => decide (x.tag ≠ tag))).moved 1 false h.len).moved 4 false h.len) := by
        simp [State.ServiceKept, State.onStrmReads_frame, State.moved_frame]
      split
      · exact moved.trans (State.writeData_frame ..)
      · exact moved.trans (State.saveData_frame ..)
  next => exact .refl _

theorem State.laneWakes_serviceKept (s old : State) : s.ServiceKept (s.laneWakes old) := by
  simp [State.ServiceKept, State.laneWakes_frame]

theorem execAdmissionDecision_keeps (phase : Nat) (s : State) : Reach.Keeps .service s (execAdmissionDecision phase s) := by
  apply State.ServiceKept.keeps_at (p := phase)
  dsimp only
  split
  next a _ =>
    split
    · exact .refl _
    · have taken : (s.at_ phase).ServiceKept (((s.at_ phase).onStrm (fun t => { t with adm := none })).setFlag Reg.STR.STATUS.ADMITTING false) := by
        simp [State.ServiceKept, State.onStrm_frame, State.setFlag_frame]
      split
      · exact taken.trans (State.refusePacket_frame ..)
      · exact (taken.trans (State.decidePacket_frame ..)).trans (State.laneWakes_serviceKept _ _)
  next => exact .refl _

/-! ### Decodes of foreground and background senses -/

theorem execSenseComplete_keeps (read : Nat) (sensed : Sensed) (phase : Nat) (s : State) :
    Reach.Keeps .service s (execSenseComplete read sensed phase s) := by
  apply State.ServiceKept.keeps_at (p := phase)
  dsimp only
  split
  next r _ =>
    have bytes : (s.at_ phase).ServiceKept ((s.at_ phase).senseBytes r.psa r.er r.sectors.length) := by
      simp [State.ServiceKept, State.senseBytes_frame]
    split
    · split
      · exact bytes.trans (State.offlineRead_frame ..)
      · split
        · exact bytes.trans (State.firstDecode_frame ..)
        · exact bytes.trans (State.secondDecode_frame ..)
    · exact .refl _
  next => exact .refl _

theorem execBackgroundSecondAttempt_keeps (id : Nat) (sensed : Sensed) (phase : Nat) (s : State) :
    Reach.Keeps .service s (execBackgroundSecondAttempt id sensed phase s) := by
  apply State.ServiceKept.keeps_at (p := phase)
  dsimp only
  split
  next b _ =>
    split
    · simp [State.ServiceKept, State.afterBg_frame, State.bgDone_frame, State.bgDecode2_frame, State.senseBytes_frame, State.onReads_frame, State.bgCommands_frame]
    · exact .refl _
  next => exact .refl _

theorem execShepherdVisit_keeps (id : Nat) (sensed : Sensed) (phase : Nat) (s : State) : Reach.Keeps .service s (execShepherdVisit id sensed phase s) :=
  State.ServiceKept.keeps_at (State.bgComplete_frame ..)

theorem execParityRebuild_keeps (ended : Timed BgEnd) (s : State) : Reach.Keeps .service s (execParityRebuild ended s) := by
  apply State.ServiceKept.keeps_at (p := ended.phase)
  simp [State.ServiceKept, State.bgComplete_frame, State.afterBg_frame]

theorem execOldSegmentRead_keeps (id : Nat) (sensed : Sensed) (phase : Nat) (s : State) : Reach.Keeps .service s (execOldSegmentRead id sensed phase s) :=
  State.ServiceKept.keeps_at (State.bgComplete_frame ..)

theorem execRewrite_keeps (id : Nat) (sensed : Sensed) (phase : Nat) (s : State) : Reach.Keeps .service s (execRewrite id sensed phase s) :=
  State.ServiceKept.keeps_at (State.bgComplete_frame ..)

theorem execFoldSourceRead_keeps (id : Nat) (sensed : Sensed) (phase : Nat) (s : State) : Reach.Keeps .service s (execFoldSourceRead id sensed phase s) :=
  State.ServiceKept.keeps_at (State.bgComplete_frame ..)

theorem execFoldVerify_keeps (id : Nat) (sensed : Sensed) (phase : Nat) (s : State) : Reach.Keeps .service s (execFoldVerify id sensed phase s) :=
  State.ServiceKept.keeps_at (State.bgComplete_frame ..)

theorem execPaddockVerify_keeps (gang id : Nat) (sensed : Sensed) (phase : Nat) (s : State) : Reach.Keeps .service s (execPaddockVerify gang id sensed phase s) :=
  State.ServiceKept.keeps_at (State.ServiceKept.trans (State.bgComplete_frame ..) (State.afterBg_frame ..))

/-! ### Tamper events and the debug port -/

theorem State.erupt_serviceKept (s : State) (cause : Nat) : s.ServiceKept (s.erupt cause) := by
  simp [State.ServiceKept, State.erupt_frame]

theorem execTamperMesh_keeps (s : State) : Reach.Keeps .service s (execTamperMesh s) := by
  apply State.ServiceKept.keeps
  split
  · exact s.erupt_serviceKept _
  · exact .refl _

theorem execTamperNLow_keeps (input : Nat) (s : State) : Reach.Keeps .service s (execTamperNLow input s) := by
  apply State.ServiceKept.keeps
  split
  · exact s.erupt_serviceKept _
  · exact .refl _

theorem execCoreSupplyFault_keeps (s : State) : Reach.Keeps .service s (execCoreSupplyFault s) := by
  apply State.ServiceKept.keeps
  split
  · exact s.erupt_serviceKept _
  · exact .refl _

theorem execClockFault_keeps (s : State) : Reach.Keeps .service s (execClockFault s) := by
  apply State.ServiceKept.keeps
  split
  · exact s.erupt_serviceKept _
  · exact .refl _

theorem State.bypass_serviceKept (s : State) : s.ServiceKept s.bypass := by
  simp [State.ServiceKept, State.bypass_frame]

/-- A TAP instruction changes service parts only where its action does. -/
theorem State.tap_serviceKept (s : State) (lvl code : Nat) (may : Bool) (f : State → State) (h : ∀ u : State, u.ServiceKept (f u)) :
    s.ServiceKept (s.tap lvl code may f) := by
  unfold State.tap
  split
  · exact .refl _
  · split
    · exact s.bypass_serviceKept
    · exact State.ServiceKept.trans (by simp [State.ServiceKept, State.onDbg_frame]) (h _)

theorem execAuth_keeps (sig : List Nat) (s : State) : Reach.Keeps .service s (execAuth sig s) := by
  apply State.ServiceKept.keeps
  apply State.tap_serviceKept
  intro u
  have drawn : u.ServiceKept (u.dbgDraw.emit (.tdo u.dbgDraw.dbgChal)) := by
    simp [State.ServiceKept, State.emit_frame, State.dbgDraw_frame]
  dsimp only
  split
  · exact drawn
  · exact drawn.trans (State.dbgVerify_frame ..)

theorem execMemAccess_keeps (write : Bool) (dpa keyid : Nat) (data : Line) (rows : List (Nat × Nat × Nat × Nat)) (first second : Sensed) (phase : Nat) (s : State) :
    Reach.Keeps .service s (execMemAccess write dpa keyid data rows first second phase s) :=
  State.ServiceKept.keeps_at (State.tap_serviceKept _ _ _ _ _ (fun _ => State.memAccess_frame ..))

theorem execRmaSeal_keeps (key sig : List Nat) (s : State) : Reach.Keeps .service s (execRmaSeal key sig s) := by
  apply State.ServiceKept.keeps
  apply State.tap_serviceKept
  intro u
  split
  · simp [State.ServiceKept, State.emit_frame, State.onDbg_frame, State.draw_frame]
  · exact State.rmaVerify_frame ..

theorem State.raise_serviceKept (s : State) (f : Fld) : s.ServiceKept (s.raise f) := by
  simp [State.ServiceKept, State.raise_frame]

theorem execVendorTestMode_keeps (code : Nat) (s : State) : Reach.Keeps .service s (execVendorTestMode code s) := by
  apply State.ServiceKept.keeps
  split
  · exact .refl _
  · split
    · exact s.bypass_serviceKept
    · split
      · simp [State.ServiceKept, State.onDbg_frame]
      · exact ((s.erupt_serviceKept _).trans (State.raise_serviceKept _ _)).trans (State.bypass_serviceKept _)

/-! ### The cartridge slots -/

theorem execCartStepTimeout_keeps (slot phase : Nat) (s : State) : Reach.Keeps .service s (execCartStepTimeout slot phase s) := by
  apply State.ServiceKept.keeps_at (p := phase)
  split
  · split
    · exact State.mountFail_frame ..
    · exact .refl _
  · exact .refl _

theorem execLaneTrainingEnd_keeps (slot lanes phase : Nat) (s : State) : Reach.Keeps .service s (execLaneTrainingEnd slot lanes phase s) := by
  apply State.ServiceKept.keeps_at (p := phase)
  have trained (w : Nat) : (s.at_ phase).ServiceKept (((s.at_ phase).setFld (Reg.ZL.STATUS.WIDTH slot) w).startAuth slot) := by
    simp [State.ServiceKept, State.setFld_frame, State.startAuth_frame]
  split
  · exact .refl _
  · split
    · split
      · exact trained 4
      · split
        · exact trained 2
        · exact State.mountFail_frame ..
    · split
      · split
        · simp [State.ServiceKept, State.onZl_frame]
        · exact State.linkLost_frame ..
      · exact .refl _

theorem State.onZl_serviceKept (s : State) (n : Nat) (f : Zl → Zl) : s.ServiceKept (s.onZl n f) := by
  simp [State.ServiceKept, State.onZl_frame]

theorem State.goodFrame_serviceKept (s : State) (n : Nat) : s.ServiceKept (s.goodFrame n) := by
  simp [State.ServiceKept, State.goodFrame_frame]

theorem State.unsolicited_serviceKept (s : State) (n : Nat) : s.ServiceKept (s.unsolicited n) := by
  simp [State.ServiceKept, State.unsolicited_frame]

theorem State.endCmd_serviceKept (s : State) (n tag : Nat) : s.ServiceKept (s.endCmd n tag) := by
  simp [State.ServiceKept, State.endCmd_frame]

/-- A sequenced frame changes service parts only where what it carries does. -/
theorem State.sequenced_serviceKept (s : State) (n seq : Nat) (k : State → State) (h : ∀ u : State, u.ServiceKept (k u)) :
    s.ServiceKept (s.sequenced n seq k) := by
  unfold State.sequenced
  dsimp only
  split
  · exact .refl _
  · split
    · exact ((s.goodFrame_serviceKept n).trans (State.onZl_serviceKept _ _ _)).trans (h _)
    · split <;> exact (s.goodFrame_serviceKept n).trans (State.onZl_serviceKept _ _ _)

/-- A response header changes service parts only where what its command does with it does. -/
theorem State.header_serviceKept (s : State) (n tag : Nat) (p : Nat → Bool) (k : CartCmd → State → State) (h : ∀ c (u : State), u.ServiceKept (k c u)) :
    s.ServiceKept (s.header n tag p k) := by
  have broken : s.ServiceKept ((s.breakResponse n).onZl n (fun z => { z with dropping := false })) :=
    State.ServiceKept.trans (State.breakResponse_frame ..) (State.onZl_serviceKept _ _ _)
  unfold State.header
  dsimp only
  split
  · exact broken.trans (h _ _)
  · exact (broken.trans (State.unsolicited_serviceKept _ _)).trans (State.onZl_serviceKept _ _ _)

theorem execRmeta_keeps (slot seq : Nat) (payload : Line) (phase : Nat) (s : State) : Reach.Keeps .service s (execRmeta slot seq payload phase s) := by
  apply State.ServiceKept.keeps_at (p := phase)
  apply State.sequenced_serviceKept
  intro u
  apply State.header_serviceKept
  intro c v
  split
  · exact State.ServiceKept.trans (State.readLate_frame ..) (State.onZl_serviceKept _ _ _)
  · split
    · exact State.badHeader_frame ..
    · exact v.onZl_serviceKept _ _

theorem execRdata_keeps (slot seq : Nat) (payload : Line) (phase : Nat) (s : State) : Reach.Keeps .service s (execRdata slot seq payload phase s) := by
  apply State.ServiceKept.keeps_at (p := phase)
  apply State.sequenced_serviceKept
  intro u
  dsimp only
  split
  · split
    · split
      · exact State.readLate_frame ..
      · split
        · exact ((u.endCmd_serviceKept _ _).trans (State.onZl_serviceKept _ _ _)).trans (State.readDone_frame ..)
        · exact u.onZl_serviceKept _ _
    · split
      · exact u.unsolicited_serviceKept _
      · exact .refl _
  · split
    · exact .refl _
    · exact u.unsolicited_serviceKept _

theorem execRsp_keeps (slot seq : Nat) (payload : Line) (phase : Nat) (s : State) : Reach.Keeps .service s (execRsp slot seq payload phase s) := by
  apply State.ServiceKept.keeps_at (p := phase)
  apply State.sequenced_serviceKept
  intro u
  dsimp only
  split
  · exact State.rspFrame_frame ..
  · split
    · exact .refl _
    · apply State.header_serviceKept
      intro c v
      split
      · exact State.badHeader_frame ..
      · exact State.rspFrame_frame ..

theorem execRerr_keeps (slot seq : Nat) (payload : Line) (phase : Nat) (s : State) : Reach.Keeps .service s (execRerr slot seq payload phase s) := by
  apply State.ServiceKept.keeps_at (p := phase)
  apply State.sequenced_serviceKept
  intro u
  apply State.header_serviceKept
  intro c v
  have counted : v.ServiceKept (if allZero ((List.range 62).map (fun i => payByte payload (2 + i))) then v else v.malformed slot) := by
    split
    · exact .refl _
    · exact State.malformed_frame ..
  exact (counted.trans (State.endCmd_serviceKept _ _ _)).trans (State.cmdFail_frame ..)

theorem execCartLinkLoss_keeps (slot phase : Nat) (s : State) : Reach.Keeps .service s (execCartLinkLoss slot phase s) := by
  apply State.ServiceKept.keeps_at (p := phase)
  split
  · exact State.linkLost_frame ..
  · exact .refl _

theorem execCartCommandTimeout_keeps (slot tag phase : Nat) (s : State) : Reach.Keeps .service s (execCartCommandTimeout slot tag phase s) := by
  apply State.ServiceKept.keeps_at (p := phase)
  split
  · split
    · split
      · exact State.mountFail_frame ..
      · exact .refl _
    · exact .refl _
  · exact .refl _

theorem execCartAnswerTimeout_keeps (slot tag phase : Nat) (s : State) : Reach.Keeps .service s (execCartAnswerTimeout slot tag phase s) := by
  apply State.ServiceKept.keeps_at (p := phase)
  split
  · exact .refl _
  · split
    · split
      · split
        · exact State.readLate_frame ..
        · exact .refl _
      · exact .refl _
    · exact .refl _

theorem execCartCompletionDeadline_keeps (slot tag phase : Nat) (s : State) : Reach.Keeps .service s (execCartCompletionDeadline slot tag phase s) := by
  apply State.ServiceKept.keeps_at (p := phase)
  split
  · exact .refl _
  · split
    · split
      · split
        · exact State.readLate_frame ..
        · exact .refl _
      · exact .refl _
    · exact .refl _

theorem execUnusedTypeFrame_keeps (slot phase : Nat) (s : State) : Reach.Keeps .service s (execUnusedTypeFrame slot phase s) := by
  apply State.ServiceKept.keeps_at (p := phase)
  dsimp only
  split
  · exact .refl _
  · split
    · exact ((State.goodFrame_serviceKept _ _).trans (State.breakResponse_frame ..)).trans (State.onZl_serviceKept _ _ _)
    · exact (State.goodFrame_serviceKept _ _).trans (State.malformed_frame ..)

/-- Every service command keeps to its reach. -/
theorem exec_keeps_of_service (c : Instr) (s : State) (hr : c.reach = .service) : Reach.Keeps .service s (exec c s) := by
  cases c
  case memRd => apply execMemRd_keeps
  case memRdData => apply execMemRdData_keeps
  case memWr => apply execMemWr_keeps
  case memWrPtl => apply execMemWrPtl_keeps
  case senseComplete => apply execSenseComplete_keeps
  case backgroundSecondAttempt => apply execBackgroundSecondAttempt_keeps
  case shepherdVisit => apply execShepherdVisit_keeps
  case parityRebuild => apply execParityRebuild_keeps
  case oldSegmentRead => apply execOldSegmentRead_keeps
  case rewrite => apply execRewrite_keeps
  case foldSourceRead => apply execFoldSourceRead_keeps
  case foldVerify => apply execFoldVerify_keeps
  case paddockVerify => apply execPaddockVerify_keeps
  case ideIntegrityFailure => apply execIdeIntegrityFailure_keeps
  case hostReadCompletion => apply execHostReadCompletion_keeps
  case admissionDecision => apply execAdmissionDecision_keeps
  case tamperMesh => apply execTamperMesh_keeps
  case tamperNLow => apply execTamperNLow_keeps
  case coreSupplyFault => apply execCoreSupplyFault_keeps
  case clockFault => apply execClockFault_keeps
  case cartStepTimeout => apply execCartStepTimeout_keeps
  case laneTrainingEnd => apply execLaneTrainingEnd_keeps
  case rmeta => apply execRmeta_keeps
  case rdata => apply execRdata_keeps
  case rsp => apply execRsp_keeps
  case rerr => apply execRerr_keeps
  case cartLinkLoss => apply execCartLinkLoss_keeps
  case cartCommandTimeout => apply execCartCommandTimeout_keeps
  case cartAnswerTimeout => apply execCartAnswerTimeout_keeps
  case cartCompletionDeadline => apply execCartCompletionDeadline_keeps
  case auth => apply execAuth_keeps
  case memAccess => apply execMemAccess_keeps
  case rmaSeal => apply execRmaSeal_keeps
  case vendorTestMode => apply execVendorTestMode_keeps
  case unusedTypeFrame => apply execUnusedTypeFrame_keeps
  all_goals cases hr

end Sys2Proof.Machine
end

section
namespace Sys2Proof.Machine

/-! ### What a boundary, housekeeping, Vent, record or start-up command leaves -/

/-- `t` agrees with `s` in what no wide command changes. -/
def State.WideKept (s t : State) : Prop :=
  t.pending = s.pending ∧ t.variant = s.variant ∧ t.latches = s.latches ∧ t.resetting = s.resetting ∧ t.med = s.med ∧ t.roms = s.roms ∧ t.dbg = s.dbg ∧ t.i3c = s.i3c

theorem State.WideKept.refl (s : State) : s.WideKept s := by simp [State.WideKept]

theorem State.WideKept.trans {s t u : State} (h : s.WideKept t) (k : t.WideKept u) : s.WideKept u := by
  simp_all [State.WideKept]

theorem State.WideKept.keeps {s t : State} (h : s.WideKept t) : Reach.Keeps .wide s (.next t) := by
  obtain ⟨pending, variant, latches, resetting, med, roms, dbg, i3c⟩ := h
  refine Reach.keeps_next (State.eq_of_fields ?_)
  simp [Reach.take, *]

theorem State.at__wideKept (s : State) (p : Nat) : s.WideKept (s.at_ p) := by simp [State.WideKept, State.at__frame]

theorem State.onPwr_wideKept (s : State) (f : Pwr → Pwr) : s.WideKept (s.onPwr f) := by simp [State.WideKept, State.onPwr_frame]

theorem State.onDev_wideKept (s : State) (f : Dev → Dev) : s.WideKept (s.onDev f) := by simp [State.WideKept, State.onDev_frame]

theorem execPwrReqOff_keeps (s : State) : Reach.Keeps .wide s (execPwrReqOff s) := by
  apply State.WideKept.keeps
  dsimp only
  split
  · exact .refl _
  · split
    · exact (s.onPwr_wideKept _).trans (State.onDev_wideKept _ _)
    · exact (s.onPwr_wideKept _).trans (State.powerOff_frame _)

theorem execVinCollapse_keeps (s : State) : Reach.Keeps .wide s (execVinCollapse s) := by
  have lost : s.WideKept ((s.onPwr (fun p => { p with vinQual := false })).onDev (fun d => { d with offDue := false })) :=
    (s.onPwr_wideKept _).trans (State.onDev_wideKept _ _)
  apply State.WideKept.keeps
  split
  case h_1 | h_2 | h_3 | h_4 | h_5 => exact lost.trans (State.enterVent_frame _)
  case h_6 | h_7 | h_8 => exact lost.trans (State.goDown_frame _ _)
  case h_9 => exact lost

theorem execHousekeepingRound_keeps (samples : List HkIn) (temps : List DieTemp) (s : State) :
    Reach.Keeps .wide s (execHousekeepingRound samples temps s) := by
  apply State.WideKept.keeps
  dsimp only
  split
  · exact .refl _
  · split <;>
      simp [State.WideKept, State.levelRound_frame, State.sensorActs_frame, State.takeTemp_frame, State.vholdRound_frame, State.powerRound_frame,
        State.vinRound_frame, State.takeSample_frame, State.bump_frame]

theorem execLoadTestEnd_keeps (s : State) : Reach.Keeps .wide s (execLoadTestEnd s) := by
  apply State.WideKept.keeps
  dsimp only
  split
  · exact .refl _
  · split <;>
      simp [State.WideKept, State.qualify_frame, State.loseVhold_frame, State.raise_frame, State.onHk_frame, State.setFld_frame, State.draw_frame]

theorem execVentTurnEnd_keeps (gang : Nat) (s : State) : Reach.Keeps .wide s (execVentTurnEnd gang s) := by
  apply State.WideKept.keeps
  dsimp only
  split
  · simp [State.WideKept, State.ventCheck_frame, State.bumpBy_frame, State.ventRot_frame, State.onGang_frame]
  · exact .refl _

theorem execVentPnvPageDone_keeps (s : State) : Reach.Keeps .wide s (execVentPnvPageDone s) := by
  apply State.WideKept.keeps
  dsimp only
  split
  · simp [State.WideKept, State.ventCheck_frame, State.nvStart_frame, State.nvWrite_frame, State.onTally_frame, State.onPnv_frame]
  · exact .refl _

theorem execBellBoundary_keeps (words : List WordErr) (s : State) : Reach.Keeps .wide s (execBellBoundary words s) := by
  apply State.WideKept.keeps
  split
  · exact State.bellBoundary_frame ..
  · exact .refl _

theorem execFlockBoundary_keeps (hot : List (Nat × Nat)) (s : State) : Reach.Keeps .wide s (execFlockBoundary hot s) := by
  apply State.WideKept.keeps
  split
  · exact State.flockBoundary_frame ..
  · exact .refl _

theorem execEpochBoundary_keeps (s : State) : Reach.Keeps .wide s (execEpochBoundary s) := by
  apply State.WideKept.keeps
  split
  · simp [State.WideKept, State.onPnv_frame, State.epochBy_frame]
  · exact .refl _

theorem execPerstNRelease_keeps (us : Int) (out : StepOut) (phase : Nat) (s : State) : Reach.Keeps .wide s (execPerstNRelease us out phase s) := by
  apply State.WideKept.keeps
  refine (s.at__wideKept phase).trans ?_
  dsimp only
  split
  · exact .refl _
  · simp [State.WideKept, State.doResume_frame, State.emit_frame, State.setFld_frame, State.onLink_frame]

theorem execStartUpStepEnd_keeps (us : Nat) (out : StepOut) (s : State) : Reach.Keeps .wide s (execStartUpStepEnd us out s) := by
  apply State.WideKept.keeps
  split
  · simp [State.WideKept, State.doStep_frame, State.stepEnds_frame]
  · exact .refl _

theorem execReportIntake_keeps (phase : Nat) (s : State) : Reach.Keeps .wide s (execReportIntake phase s) := by
  apply State.WideKept.keeps
  refine (s.at__wideKept phase).trans ?_
  dsimp only
  split
  · split <;> simp [State.WideKept, State.fatal_frame, State.onPnv_frame, State.takeReport_frame, State.enqueue_frame]
  · exact .refl _

theorem execRecordStep_keeps (phase : Nat) (s : State) : Reach.Keeps .wide s (execRecordStep phase s) := by
  apply State.WideKept.keeps
  refine (s.at__wideKept phase).trans ?_
  dsimp only
  split
  · exact .refl _
  · split
    · split
      · simp [State.WideKept, State.ventFatal_frame, State.handled_frame, State.settleReport_frame, State.onTally_frame, State.dequeue_frame]
      · simp [State.WideKept, State.offLate_frame, State.fatal_frame, State.escalateAll_frame, State.notify_frame, State.handled_frame, State.record_frame,
          State.settleReport_frame, State.onTally_frame, State.dequeue_frame]
    · exact .refl _

theorem execFlushEnd_keeps (s : State) : Reach.Keeps .wide s (execFlushEnd s) := by
  apply State.WideKept.keeps
  dsimp only
  split
  · exact .refl _
  · simp [State.WideKept, State.orderlyDown_frame, State.standbyCheck_frame, State.flushDone_frame]

/-- Every wide command keeps to its reach. -/
theorem exec_keeps_of_wide (c : Instr) (s : State) (hr : c.reach = .wide) : Reach.Keeps .wide s (exec c s) := by
  cases c
  case pwrReqOff => apply execPwrReqOff_keeps
  case vinCollapse => apply execVinCollapse_keeps
  case housekeepingRound => apply execHousekeepingRound_keeps
  case loadTestEnd => apply execLoadTestEnd_keeps
  case ventTurnEnd => apply execVentTurnEnd_keeps
  case ventPnvPageDone => apply execVentPnvPageDone_keeps
  case bellBoundary => apply execBellBoundary_keeps
  case flockBoundary => apply execFlockBoundary_keeps
  case epochBoundary => apply execEpochBoundary_keeps
  case perstNRelease => apply execPerstNRelease_keeps
  case startUpStepEnd => apply execStartUpStepEnd_keeps
  case reportIntake => apply execReportIntake_keeps
  case recordStep => apply execRecordStep_keeps
  case flushEnd => apply execFlushEnd_keeps
  all_goals cases hr

/-! ### What can end or begin a power cycle -/

/-- `t` agrees with `s` in what no start of a power cycle changes. -/
def State.StartsKept (s t : State) : Prop := t.pending = s.pending ∧ t.variant = s.variant ∧ t.med = s.med ∧ t.roms = s.roms

theorem State.StartsKept.refl (s : State) : s.StartsKept s := by simp [State.StartsKept]

theorem State.StartsKept.keeps {s t : State} (h : s.StartsKept t) : Reach.Keeps .starts s (.next t) := by
  obtain ⟨pending, variant, med, roms⟩ := h
  refine Reach.keeps_next (State.eq_of_fields ?_)
  simp [Reach.take, *]

theorem execPwrReqOn_keeps (s : State) : Reach.Keeps .starts s (execPwrReqOn s) := by
  apply State.StartsKept.keeps
  dsimp only
  split
  · exact .refl _
  · simp [State.StartsKept, State.tryStart_frame, State.faultClear_frame, State.onPwr_frame]

theorem execVinQualified_keeps (s : State) : Reach.Keeps .starts s (execVinQualified s) := by
  apply State.StartsKept.keeps
  simp [State.StartsKept, State.tryStart_frame, State.onPwr_frame, State.seqFinish_frame]

theorem execPorAssert_keeps (s : State) : Reach.Keeps .starts s (execPorAssert s) := by
  apply State.StartsKept.keeps
  simp [State.StartsKept, State.onPnv_frame, State.coldBase_frame]

theorem execOffHoldExpiry_keeps (s : State) : Reach.Keeps .starts s (execOffHoldExpiry s) := by
  apply State.StartsKept.keeps
  split
  · simp [State.StartsKept, State.tryStart_frame, State.onPwr_frame]
  · exact .refl _

theorem exec_keeps_of_starts (c : Instr) (s : State) (hr : c.reach = .starts) : Reach.Keeps .starts s (exec c s) := by
  cases c
  case pwrReqOn => apply execPwrReqOn_keeps
  case vinQualified => apply execVinQualified_keeps
  case porAssert => apply execPorAssert_keeps
  case offHoldExpiry => apply execOffHoldExpiry_keeps
  all_goals cases hr

/-! ### The end of a program turn -/

theorem execProgramTurnEnd_keeps (gang : Nat) (fails : List Nat) (phase : Nat) (s : State) :
    Reach.Keeps .program s (execProgramTurnEnd gang fails phase s) := by
  apply Reach.keeps_next
  apply State.eq_of_fields
  dsimp only
  split
  · simp [Reach.take, State.onGang_frame, State.followOn_frame, State.passPos_frame, State.turnOver_frame, State.bump_frame, State.emit_frame,
      State.tileFail_frame, State.programDie_frame, State.at__frame]
    simp [State.at_]
  · simp [Reach.take, State.at_]

end Sys2Proof.Machine
end

section
namespace Sys2Proof.Machine

/-! ### Register writes -/

/-- A COMMIT changes of the time base the waiting pages alone (R10). -/
theorem State.commitPage_clk (s : State) (p : Nat) : (s.commitPage p).clk.bell = s.clk.bell ∧ (s.commitPage p).clk.phase = s.clk.phase ∧
    (s.commitPage p).clk.flockDue = s.clk.flockDue ∧ (s.commitPage p).clk.epochDue = s.clk.epochDue := by
  have due : (if s.clk.flockDue then { s.clk with late := p :: s.clk.late } else s.clk) = { s.clk with late := if s.clk.flockDue then p :: s.clk.late else s.clk.late } := by
    split <;> rfl
  unfold State.commitPage
  dsimp only
  rw [due]
  (repeat' split) <;> simp [State.postLat_frame]

/-- `t` agrees with `s` in what no register write changes. -/
def State.WritesKept (s t : State) : Prop :=
  t.pending = s.pending ∧ t.variant = s.variant ∧ t.latches = s.latches ∧ t.med = s.med ∧ t.roms = s.roms ∧ t.i3c = s.i3c ∧
    t.clk.bell = s.clk.bell ∧ t.clk.phase = s.clk.phase ∧ t.clk.flockDue = s.clk.flockDue ∧ t.clk.epochDue = s.clk.epochDue

theorem State.WritesKept.refl (s : State) : s.WritesKept s := by simp [State.WritesKept]

theorem State.WritesKept.trans {s t u : State} (h : s.WritesKept t) (k : t.WritesKept u) : s.WritesKept u := by
  simp_all [State.WritesKept]

theorem State.WritesKept.keeps {s t : State} (h : s.WritesKept t) : Reach.Keeps .writes s (.next t) := by
  obtain ⟨pending, variant, latches, med, roms, i3c, bell, phase, flockDue, epochDue⟩ := h
  have clk : t.clk = { s.clk with phase := t.clk.phase, late := t.clk.late } := by
    simp only [← bell, ← flockDue, ← epochDue]
  refine Reach.keeps_next (State.eq_of_fields ?_)
  simp [Reach.take, pending, variant, latches, med, roms, i3c, ← clk]

theorem State.ctrlWrite_writesKept (s : State) (p : Nat) (src : Source) (w : Nat) : s.WritesKept (s.ctrlWrite p src w) := by
  unfold State.ctrlWrite
  dsimp only
  (repeat' split) <;>
    simp [State.WritesKept, State.cfgErr_frame, State.commitPage_frame, State.commitPage_clk, State.refreshIrq_frame, State.setReg_frame, State.softReset_frame]

theorem State.headerWrite_writesKept (s : State) (p off : Nat) (src : Source) (w : Nat) : s.WritesKept (s.headerWrite p off src w) := by
  unfold State.headerWrite
  split
  · exact s.ctrlWrite_writesKept p src w
  · (repeat' split) <;>
      simp [State.WritesKept, State.statusWrite_frame, State.intWrite_frame, State.refreshIrq_frame, State.setReg_frame, State.forceWrite_frame, State.lockWrite_frame]

theorem State.busWrite_writesKept (s : State) (src : Source) (addr w : Nat) (out : StepOut) : s.WritesKept (s.busWrite src addr w out) := by
  unfold State.busWrite
  dsimp only
  split
  · exact .refl _
  · split
    · exact s.headerWrite_writesKept _ _ _ _
    · split
      · simp [State.WritesKept, State.blockWrite_frame]
      · exact .refl _

theorem State.i3cWords_writesKept (s : State) (page offset : Nat) (words : List Word) (out : StepOut) : s.WritesKept (s.i3cWords page offset words out) := by
  induction words generalizing s offset with
  | nil => exact .refl _
  | cons w rest ih =>
    unfold State.i3cWords
    refine State.WritesKept.trans ?_ (ih _ _)
    split
    · exact s.busWrite_writesKept _ _ _ _
    · exact .refl _

theorem State.busWrite_keeps (s : State) (src : Source) (addr w : Nat) (out : StepOut) : Reach.Keeps .writes s (.next (s.busWrite src addr w out)) :=
  (s.busWrite_writesKept src addr w out).keeps

/-- A register command of a page that may not exist keeps to the reach of its write. -/
theorem State.write_keeps_of_ite (s : State) (c : Prop) [Decidable c] (src : Source) (addr w : Nat) :
    Reach.Keeps .writes s (if c then s.write src addr w else .next s) := by
  split
  · exact s.busWrite_keeps src addr w {}
  · exact (State.WritesKept.refl s).keeps

theorem execI3cWrite_keeps (target page offset : Nat) (words : List Word) (out : StepOut) (s : State) :
    Reach.Keeps .writes s (execI3cWrite target page offset words out s) := by
  apply State.WritesKept.keeps
  split
  · exact s.i3cWords_writesKept _ _ _ _
  · exact .refl _

/-- Every register command is a write of one register, or of the words of a sideband transaction, and keeps to its reach. -/
theorem exec_keeps_of_writes (c : Instr) (s : State) (hr : c.reach = .writes) : Reach.Keeps .writes s (exec c s) := by
  cases c
  case i3cWrite => apply execI3cWrite_keeps
  case forceFail | penFlush | eject | remount | copyGo | saveGo => apply State.write_keeps_of_ite
  case faultClear | standby | resume | cmpLoWrite | groupCommit | groupAbort | trimGo | query | epochAdvance | inspectSel | maintClean | maintInvalidate |
      maintCleanInvalidate | linkRetrain | install | rekey | remove | erupt | newChallenge | verify | marchDestructive | marchPreserving | tallyFlush | readSel |
      clear | endSession | l2Lock | softReset | commit | intForce | lock | registerWrite => apply State.busWrite_keeps
  all_goals cases hr

theorem exec_keeps_of_program (c : Instr) (s : State) (hr : c.reach = .program) : Reach.Keeps .program s (exec c s) := by
  cases c
  case programTurnEnd => apply execProgramTurnEnd_keeps
  all_goals cases hr

/-- Settles O60: each of the five kinds of command keeps to its reach. -/
theorem serviceWriteAndWideCommandsKeepTheirReach : Obligations.ServiceWriteAndWideCommandsKeepTheirReach := by
  intro c s t hr h
  have keeps : c.reach.Keeps s (exec c s) := by
    cases hc : c.reach
    case service => exact exec_keeps_of_service c s hc
    case wide => exact exec_keeps_of_wide c s hc
    case writes => exact exec_keeps_of_writes c s hc
    case starts => exact exec_keeps_of_starts c s hc
    case program => exact exec_keeps_of_program c s hc
    all_goals simp [hc] at hr
  exact keeps t h

end Sys2Proof.Machine
end

section
/-! PROOF. The time base at the boundaries (O8): what the work of a bell boundary and of a flock boundary does to it. -/

namespace Sys2Proof.Machine

/-! ### Operations of the boundaries that leave the time base -/

/-! #### Machine/Ops.lean -/

@[simp] theorem State.setApplied_clk (s : State) (a v : Nat) : (s.setApplied a v).clk = s.clk := by
  simp [State.setApplied]

/-! #### Machine/Bell.lean -/

@[simp] theorem State.applyLat_clk (s : State) : s.applyLat.clk = s.clk := by
  simp [State.applyLat, State.raise_frame, State.setFlag_frame, State.setFld_frame]

@[simp] theorem State.settleHeld_clk (s : State) : s.settleHeld.clk = s.clk := by
  simp [State.settleHeld, State.settleHeldTo_frame]

@[simp] theorem State.bellCmp_clk (s : State) : s.bellCmp.clk = s.clk := by
  simp [State.bellCmp, State.raise_frame]

@[simp] theorem State.refill_clk (s : State) : s.refill.clk = s.clk := by
  simp [State.refill, State.bump_frame, State.checkHold_frame, State.setFlag_frame, State.setFld_frame]

/-! #### Machine/Translate.lean -/

@[simp] theorem State.bandRelease_clk (s : State) (g b : Nat) : (s.bandRelease g b).clk = s.clk := by
  simp [State.bandRelease, State.bumpSat_frame, State.journal_frame, State.onXlt_frame, State.raiseRec_frame, State.reportCode_frame, State.setBand_frame]

/-! #### Machine/Positions.lean -/

@[simp] theorem State.forgetOuts_clk (s : State) : s.forgetOuts.clk = s.clk := by
  simp [State.forgetOuts, State.onReads_frame]

/-! #### Machine/SysArea.lean -/

@[simp] theorem State.blockStale_clk (s : State) (psa : Option Nat) : (s.blockStale psa).clk = s.clk := by
  unfold State.blockStale
  (repeat' split) <;> simp [State.setRev_frame]

/-! #### Machine/Turns.lean -/

@[simp] theorem State.loadPage_clk (s : State) (g pos : Nat) (p : PageOf) : (s.loadPage g pos p).clk = s.clk := by
  simp [State.loadPage, State.moved_frame, State.onGang_frame]

@[simp] theorem State.loadBell_clk (s : State) (g : Nat) : (s.loadBell g).clk = s.clk := by
  simp [State.loadBell]

/-! #### Machine/Alarm.lean -/

@[simp] theorem State.tremorFlock_clk (s : State) : s.tremorFlock.clk = s.clk := by
  simp [State.tremorFlock, State.onProt_frame, State.setFld_frame]

/-! #### Machine/Drift.lean -/

@[simp] theorem State.spareRetry_clk (s : State) : s.spareRetry.clk = s.clk := by
  simp [State.spareRetry, State.onDrift_frame, State.spareWrite_frame]

@[simp] theorem State.setClass_clk (s : State) (d c : Nat) : (s.setClass d c).clk = s.clk := by
  simp [State.setClass, State.raise_frame, State.setFld_frame]

@[simp] theorem State.classFlock_clk (s : State) : s.classFlock.clk = s.clk := by
  simp [State.classFlock, State.onDrift_frame]

@[simp] theorem State.driftFlock_clk (s : State) : s.driftFlock.clk = s.clk := by
  simp [State.driftFlock, State.bump_frame, State.onDrift_frame, State.raise_frame, State.setFlag_frame, State.setFld_frame]

@[simp] theorem State.epochBy_clk (s : State) (n : Nat) : (s.epochBy n).clk = s.clk := by
  simp [State.epochBy, State.setFld_frame]

@[simp] theorem State.epochAdvance_clk (s : State) : s.epochAdvance.clk = s.clk := by
  simp [State.epochAdvance, State.cfgErr_frame, State.onDrift_frame]

/-! #### Machine/Stream.lean -/

@[simp] theorem State.deliverBytes_clk (s0 : State) (r : Req) (avail : List Nat) (b : Nat) : (s0.deliverBytes r avail b).clk = s0.clk := by
  simp [State.deliverBytes, State.bump48_frame, State.moved_frame, State.onSreq_frame, State.sendWrites_frame]

@[simp] theorem State.streamBell_clk (s : State) : s.streamBell.clk = s.clk := by
  unfold State.streamBell
  split
  · rfl
  · refine State.each_clk _ _ _ (fun u i => ?_)
    dsimp only
    (repeat' split) <;> simp [State.collect_frame, State.drainWrite_frame, State.onSreq_frame]

/-! #### Machine/CartMount.lean -/

@[simp] theorem State.cartMountDue_clk (s : State) (n : Nat) : (s.cartMountDue n).clk = s.clk := by
  simp [State.cartMountDue, State.onZl_frame, State.raise_frame, State.setFld_frame, State.zlTo_frame]

/-! #### Machine/CartWork.lean -/

@[simp] theorem State.copyPump_clk (s : State) (n : Nat) : (s.copyPump n).clk = s.clk := by
  unfold State.copyPump
  (repeat' split) <;> simp [State.cartCmd_frame, State.copyDrain_frame, State.onZl_frame]

/-! #### Machine/CartLink.lean -/

@[simp] theorem State.cartWindow_clk (s : State) : s.cartWindow.clk = s.clk := by
  simp [State.cartWindow, State.setFld_frame]

/-! #### Machine/Keys.lean -/

@[simp] theorem State.rekeyRegion_clk (s : State) (i : Nat) : (s.rekeyRegion i).clk = s.clk := by
  simp [State.rekeyRegion, State.onPnv_frame, State.setGen_frame, State.startPass_frame]

@[simp] theorem State.keyDue_clk (s : State) (d : Nat × Nat × KeySlot) : (s.keyDue d).clk = s.clk := by
  simp [State.keyDue, State.onProt_frame, State.retireOld_frame, State.setSlot_frame]

@[simp] theorem State.keysDue_clk (s : State) : s.keysDue.clk = s.clk := by
  simp [State.keysDue, State.onProt_frame]

/-! #### Machine/Mailbox.lean -/

@[simp] theorem State.lifeAlert_clk (s : State) : s.lifeAlert.clk = s.clk := by
  unfold State.lifeAlert
  (repeat' split) <;> simp [State.event_frame, State.onMbox_frame]

/-! #### Machine/Memories.lean -/

@[simp] theorem State.srmLast_clk (s : State) (x : WordErr) (lasting : Bool) : (s.srmLast x lasting).clk = s.clk := by
  simp [State.srmLast, State.setFlag_frame, State.setFld_frame]

@[simp] theorem State.poolWord_clk (s : State) (item : Nat) : (s.poolWord item).clk = s.clk := by
  unfold State.poolWord
  (repeat' split) <;> simp [State.onSreq_frame, State.rewind_frame]

@[simp] theorem State.laneWord_clk (s : State) (x : Nat) : (s.laneWord x).clk = s.clk := by
  simp [State.laneWord, State.onSreq_frame]

@[simp] theorem State.parityWord_clk (s : State) (i : Nat) : (s.parityWord i).clk = s.clk := by
  simp [State.parityWord, State.onXlt_frame]

@[simp] theorem State.tallyWord_clk (s : State) (k : Nat) : (s.tallyWord k).clk = s.clk := by
  unfold State.tallyWord
  (repeat' split) <;> simp [State.lost_frame, State.onTally_frame]

@[simp] theorem State.ownerLoses_clk (s : State) (x : WordErr) : (s.ownerLoses x).clk = s.clk := by
  simp [State.ownerLoses, State.onXlt_frame, State.reportCode_frame]

@[simp] theorem State.bankWord_clk (s : State) (x : WordErr) : (s.bankWord x).clk = s.clk := by
  unfold State.bankWord
  (repeat' split) <;> simp [State.bumpSat_frame, State.bump_frame, State.raise_frame, State.reportCode_frame]

/-! #### Machine/Vent.lean -/

@[simp] theorem State.linkOff_clk (s : State) : s.linkOff.clk = s.clk := by
  simp [State.linkOff, State.linkReset_frame]

/-! #### Machine/Mount.lean -/

@[simp] theorem State.refreshQueue_clk (s : State) (g : Nat) : (s.refreshQueue g).clk = s.clk := by
  simp [State.refreshQueue, State.bump_frame, State.raise_frame, State.setBand_frame]

/-! #### Machine/Standby.lean -/

@[simp] theorem State.diesOff_clk (s : State) : s.diesOff.clk = s.clk := by
  simp [State.diesOff, State.dieDomainsOff_frame, State.setFld_frame]

@[simp] theorem State.dramSleep_clk (s : State) : s.dramSleep.clk = s.clk := by
  simp [State.dramSleep, State.emit_frame, State.markWritten_frame, State.onDram_frame, State.panicEnd_frame, State.setFld_frame]

@[simp] theorem State.cartStandby_clk (s : State) (n : Nat) : (s.cartStandby n).clk = s.clk := by
  simp [State.cartStandby, State.cartOff_frame, State.removedNote_frame]

@[simp] theorem State.powerSleep_clk (s : State) : s.powerSleep.clk = s.clk := by
  simp [State.powerSleep, State.ctrlSwitch_frame, State.onPwr_frame, State.setFlag_frame]

@[simp] theorem State.enterStandby_clk (s : State) : s.enterStandby.clk = s.clk := by
  simp [State.enterStandby, State.endDebug_frame, State.nvFlush_frame, State.nvStart_frame, State.onGang_frame, State.onPnv_frame, State.raise_frame, State.setFlag_frame]

@[simp] theorem State.standbyCheck_clk (s : State) : s.standbyCheck.clk = s.clk := by
  simp [State.standbyCheck]

/-! #### Machine/Boundary.lean -/

@[simp] theorem State.windowApplied_clk (s t : State) : (s.windowApplied t).clk = t.clk := by
  simp [State.windowApplied, State.onPmc_frame, State.windowEnd_frame]

@[simp] theorem State.afterApply_clk (s t : State) (p : Nat) : (s.afterApply t p).clk = t.clk := by
  simp [State.afterApply, State.applyRegions_frame, State.setFld_frame, State.wayPdApply_frame]

@[simp] theorem State.patternNote_clk (s : State) (a : Nat) (ok : Bool) : (s.patternNote a ok).clk = s.clk := by
  simp [State.patternNote, State.raise_frame]

@[simp] theorem State.unstage_clk (s : State) (a : Nat) (f : RegField) : (s.unstage a f).clk = s.clk := by
  simp [State.unstage, State.setReg_frame]

@[simp] theorem State.stageIn_clk (s : State) (a : Nat) (f : RegField) : (s.stageIn a f).clk = s.clk := by
  simp [State.stageIn]

@[simp] theorem State.applyField_clk (s : State) (a w : Nat) (f : RegField) : (s.applyField a w f).clk = s.clk := by
  simp [State.applyField, State.cfgErr_frame]

@[simp] theorem State.applyReg_clk (s : State) (a : Nat) : (s.applyReg a).clk = s.clk := by
  unfold State.applyReg
  dsimp only
  (repeat' split) <;> simp [State.cfgErr_frame]

@[simp] theorem State.applyPage_clk (s : State) (p : Nat) : (s.applyPage p).clk = s.clk := by
  simp [State.applyPage]

@[simp] theorem State.applyCommits_clk (s : State) (sel : Nat → Bool) : (s.applyCommits sel).clk = s.clk := by
  simp [State.applyCommits]

@[simp] theorem State.bandsRelease_clk (s : State) (g : Nat) : (s.bandsRelease g).clk = s.clk := by
  simp [State.bandsRelease]

@[simp] theorem State.pmcClear_clk (s : State) : s.pmcClear.clk = s.clk := by
  simp [State.pmcClear, State.onPmc_frame]

@[simp] theorem State.throttleStart_clk (s : State) : s.throttleStart.clk = s.clk := by
  simp [State.throttleStart, State.raise_frame, State.setFld_frame]

@[simp] theorem State.mediumBell_clk (s : State) : s.mediumBell.clk = s.clk := by
  simp [State.mediumBell]

@[simp] theorem State.filterState_clk (s : State) : s.filterState.clk = s.clk := by
  simp [State.filterState, State.onPmc_frame, State.setFlag_frame]

@[simp] theorem State.capApplied_clk (s : State) : s.capApplied.clk = s.clk := by
  simp [State.capApplied, State.postLat_frame, State.setFld_frame]

@[simp] theorem State.clearLasting_clk (s : State) : s.clearLasting.clk = s.clk := by
  simp [State.clearLasting, State.setFld_frame]

@[simp] theorem State.retarget_clk (s : State) : s.retarget.clk = s.clk := by
  simp [State.retarget, State.raise_frame, State.setFld_frame]

@[simp] theorem State.reclaim_clk (s : State) : s.reclaim.clk = s.clk := by
  simp [State.reclaim, State.onXlt_frame]

@[simp] theorem State.queueTables_clk (s : State) : s.queueTables.clk = s.clk := by
  unfold State.queueTables
  split
  · refine State.foldl_clk _ _ _ (fun u k => ?_)
    dsimp only
    (repeat' split) <;> simp [State.onXlt_frame, State.sysQueue_frame]
  · rfl

@[simp] theorem State.sweepEnd_clk (s : State) : s.sweepEnd.clk = s.clk := by
  simp [State.sweepEnd, State.bump_frame, State.onDrift_frame, State.onXlt_frame]

@[simp] theorem State.copyMapPage_clk (s : State) (n : Nat) : (s.copyMapPage n).2.clk = s.clk := by
  unfold State.copyMapPage
  dsimp only
  (repeat' split) <;> simp [State.onXlt_frame, State.sysQueue_frame]

@[simp] theorem State.sweepOn_clk (s : State) (fuel copies : Nat) : (s.sweepOn fuel copies).clk = s.clk := by
  induction fuel generalizing s copies with
  | zero => rfl
  | succ k ih =>
    unfold State.sweepOn
    dsimp only
    (repeat' split) <;> simp [ih, State.onXlt_frame]

@[simp] theorem State.mapSweep_clk (s : State) : s.mapSweep.clk = s.clk := by
  simp [State.mapSweep]

@[simp] theorem State.refuseCheck_clk (s : State) : s.refuseCheck.clk = s.clk := by
  simp [State.refuseCheck, State.onXlt_frame, State.setFlag_frame]

@[simp] theorem State.shepFlock_clk (s0 : State) (g : Nat) : (s0.shepFlock g).clk = s0.clk := by
  simp [State.shepFlock, State.onGang_frame, State.onPnv_frame, State.passEnd_frame, State.raise_frame]

@[simp] theorem State.flockBlocks_clk (s : State) : s.flockBlocks.clk = s.clk := by
  simp [State.flockBlocks, State.evacCheck_frame, State.foldAims_frame, State.onDram_frame, State.openNext_frame, State.setFlag_frame]

@[simp] theorem State.rebind_clk (s : State) : s.rebind.clk = s.clk := by
  simp [State.rebind, State.onReads_frame]

@[simp] theorem State.powerFlock_clk (s : State) : s.powerFlock.clk = s.clk := by
  simp [State.powerFlock, State.bumpSat_frame, State.onHk_frame, State.setFld_frame]

@[simp] theorem State.mr4_clk (s : State) (hot : List (Nat × Nat)) : (s.mr4 hot).clk = s.clk := by
  simp [State.mr4, State.raiseRec_frame, State.setFlag_frame]

@[simp] theorem State.throttleEnd_clk (s : State) : s.throttleEnd.clk = s.clk := by
  simp [State.throttleEnd, State.onDram_frame, State.setFld_frame]

@[simp] theorem State.flockCounts_clk (s : State) (hot : List (Nat × Nat)) : (s.flockCounts hot).clk = s.clk := by
  simp [State.flockCounts]

@[simp] theorem State.rotaOn_clk (s : State) : s.rotaOn.clk = s.clk := by
  simp [State.rotaOn, State.onRota_frame]

@[simp] theorem State.resumeEnds_clk (s : State) : s.resumeEnds.clk = s.clk := by
  simp [State.resumeEnds, State.onDev_frame, State.raise_frame, State.setFlag_frame]

@[simp] theorem State.startEnds_clk (s : State) : s.startEnds.clk = s.clk := by
  simp [State.startEnds, State.cartsUp_frame, State.onDev_frame, State.passBegin_frame, State.raise_frame, State.toState_frame]

@[simp] theorem State.rotaStart_clk (s : State) : s.rotaStart.clk = s.clk := by
  simp [State.rotaStart]

/-! ### The time base after a boundary -/

/-- The bell counter steps once, and the boundaries that the new bell begins are noted (R24). -/
theorem State.nextBell_clk (s : State) : s.nextBell.clk = s.clk.nextBell := by
  simp [State.nextBell, State.settleStarved_frame, State.settle_frame]

/-- The work of a bell boundary leaves the time base as the step of the counter has set it. -/
theorem State.bellBoundary_clk (s : State) (words : List WordErr) : (s.bellBoundary words).clk = s.clk.nextBell := by
  simp [State.bellBoundary, State.nextBell_clk, State.laneWakes_frame, State.ev_frame]

/-- The work of a flock boundary is no longer due, and no page waits for it; the bell, the phase and the epoch boundary are left (R10, R24). -/
theorem State.flockBoundary_clk (s : State) (hot : List (Nat × Nat)) : (s.flockBoundary hot).clk = { s.clk with flockDue := false, late := [] } := by
  simp [State.flockBoundary]

end Sys2Proof.Machine
end

section
/-! PROOF. The clock, its boundaries, and the reports that supply and clock failures offer (O8, O6). -/

namespace Sys2Proof.Machine

/-! ### Reports (R784, R788) -/

/-- A report is taken by the aggregator: the device is up, not in the Vent, and the page's FIFO has room. -/
def State.takes (s : State) (page : Nat) : Prop :=
  s.dev.st ≠ .off ∧ s.dev.st ≠ .seqUp ∧ s.dev.st ≠ .seqDown ∧ s.dev.st ≠ .vent ∧ (s.tally.fifoOf page).length < 2

theorem State.takes_of_service {s : State} {page : Nat} (up : s.dev.st = .service) (room : (s.tally.fifoOf page).length < 2) : s.takes page := by
  simp [State.takes, up, room]

/-- A report that is taken joins the FIFO of its page, and nothing else changes. -/
theorem State.report_of_takes {s : State} {r : Report} (h : s.takes r.page) :
    s.report r = s.onTally (fun t => { t with fifo := SMap.set (fun _ => []) t.fifo r.page (t.fifoOf r.page ++ [r]) }) := by
  obtain ⟨off, seqUp, seqDown, vent, room⟩ := h
  simp [State.report, off, seqUp, seqDown, vent, room]

theorem State.fifoOf_report_of_takes {s : State} {r : Report} (h : s.takes r.page) :
    (s.report r).tally.fifoOf r.page = s.tally.fifoOf r.page ++ [r] := by
  rw [State.report_of_takes h]
  simp [State.onTally, Tally.fifoOf, SMap.get_set]

theorem State.fld_report_of_takes {s : State} {r : Report} (h : s.takes r.page) (f : Fld) : (s.report r).fld f = s.fld f := by
  rw [State.report_of_takes h]; rfl

/-! ### The commands of the clock -/

theorem execPllLockLoss_service {s : State} (up : s.dev.st = .service) :
    execPllLockLoss s = .next ((s.setFlag Reg.BWT.CLK_STATUS.PLL_LOCKED false).reportCode sevFatal 0x0140 0 s.clk.phase 0 0) := by
  have up' : (s.setFlag Reg.BWT.CLK_STATUS.PLL_LOCKED false).dev.st = .service := up
  unfold execPllLockLoss
  dsimp only
  rw [up']
  rfl

/-- The device epoch after `n` more epochs, up to its largest value (R258). -/
theorem State.epoch_epochBy (s : State) (n : Nat) : (s.epochBy n).epoch = min (s.epoch + n) 0xFFFFFFFF := by
  unfold State.epochBy State.epoch
  rw [State.fld_setFld_same _ _ _ (by decide)]
  exact Nat.mod_eq_of_lt (Nat.lt_succ_of_le (Nat.min_le_right _ _))

theorem execEpochBoundary_due {s : State} (due : s.clk.epochDue = true) :
    ∃ t, execEpochBoundary s = .next t ∧ t.clk = { s.clk with epochDue := false } ∧ t.epoch = min (s.epoch + 1) 0xFFFFFFFF ∧ t.med = s.med := by
  refine ⟨_, rfl, ?_⟩
  have raised : (({ s with clk := { s.clk with epochDue := false } } : State).epochBy 1).epoch = min (s.epoch + 1) 0xFFFFFFFF := State.epoch_epochBy _ _
  rw [if_pos due]
  dsimp only
  split
  · exact ⟨by simp [State.onPnv_frame], raised, by simp [State.onPnv_frame, State.epochBy_frame]⟩
  · exact ⟨by simp, raised, by simp [State.epochBy_frame]⟩

/-- Settles O8: the time base after each boundary is that of its lemma above; a lock loss in SERVICE is reported and shown. -/
theorem clocksAndBoundaries : Obligations.ClocksAndBoundaries := by
  refine ⟨?stop, ?restart, ?lockLoss, ?bell, ?flock, ?epoch⟩
  case stop =>
    intro s standby
    exact ⟨_, rfl, by simp [State.onPwr, standby]⟩
  case restart => exact fun s => ⟨_, rfl, rfl⟩
  case lockLoss =>
    intro s up room
    have taken : (s.setFlag Reg.BWT.CLK_STATUS.PLL_LOCKED false).takes 0x01 := State.takes_of_service up room
    refine ⟨_, execPllLockLoss_service up, ?_, State.fifoOf_report_of_takes taken⟩
    have shown := State.flag_setFlag_same s Reg.BWT.CLK_STATUS.PLL_LOCKED false (by decide)
    unfold State.flag at shown ⊢
    rw [State.reportCode, State.fld_report_of_takes taken]
    exact shown
  case bell =>
    intro s words runs
    refine ⟨s.bellBoundary words, congrArg Host.Outcome.next (if_pos runs), ?_⟩
    rw [State.bellBoundary_clk]
    exact ⟨rfl, rfl, rfl, rfl, by simp [State.bellBoundary_frame]⟩
  case flock =>
    intro s hot due
    refine ⟨s.flockBoundary hot, congrArg Host.Outcome.next (if_pos due), ?_⟩
    rw [State.flockBoundary_clk]
    exact ⟨rfl, rfl, rfl, rfl, rfl, by simp [State.flockBoundary_frame]⟩
  case epoch =>
    intro s due
    obtain ⟨t, next, clk, epoch, med⟩ := execEpochBoundary_due due
    exact ⟨t, next, by rw [clk], epoch, by rw [clk], med⟩

end Sys2Proof.Machine
end

section
/-! PROOF. The supply, the sequencer and SEQ_DOWN (O5, O6): what each operation of the sequencer does to the power state, to the device state and to the fields that show them. -/

namespace Sys2Proof.Machine

/-! ### Fields through the operations of the sequencer -/

@[simp] theorem State.fld_onPwr (s : State) (f : Pwr → Pwr) (g : Fld) : (s.onPwr f).fld g = s.fld g := rfl

@[simp] theorem State.fld_onDev (s : State) (f : Dev → Dev) (g : Fld) : (s.onDev f).fld g = s.fld g := rfl

@[simp] theorem State.fld_onTally (s : State) (f : Tally → Tally) (g : Fld) : (s.onTally f).fld g = s.fld g := rfl

/-- A flag written as a field reads as before where the two share no bit. -/
theorem State.fld_setFlag_other (s : State) (f g : Fld) (b : Bool) (h : f.ok = true) (hg : g.ok = true) (ne : f.apart g = true) : (s.setFlag f b).fld g = s.fld g :=
  s.fld_setFld_other f g _ h hg ne

theorem State.fld_pllCheck (s : State) (g : Fld) (hg : g.ok = true) (ne : Reg.BWT.CLK_STATUS.PLL_LOCKED.apart g = true) : s.pllCheck.fld g = s.fld g := by
  unfold State.pllCheck
  split
  · rfl
  · exact s.fld_setFlag_other _ _ _ (by decide) hg ne

theorem State.fld_toState (s : State) (d : DevSt) (g : Fld) (hd : d ≠ .service) (hg : g.ok = true) (ne : Reg.DEV.INT_STATUS.STATE_CHANGE.apart g = true) :
    (s.toState d).fld g = s.fld g := by
  by_cases same : s.dev.st = d
  · rw [State.toState, if_pos same]
  · have moved : s.toState d = (s.onDev fun v => { v with st := d, prev := v.st }).raise Reg.DEV.INT_STATUS.STATE_CHANGE := by
      rw [State.toState, if_neg same]
      exact if_neg hd
    rw [moved, State.fld_raise_other _ _ _ (by decide) hg ne, State.fld_onDev]

theorem State.fld_switchOff (s : State) (d : DownItem) (g : Fld) : (s.switchOff d).fld g = s.fld g := by
  unfold State.switchOff State.cond
  rw [State.fld_onPwr]
  split <;> rfl

/-- Field `g` shares no bit with what SEQ_DOWN writes: the lock of the PLL, stage, state change, standby, cause of the fall, and the counters of lost reports, which stand on the last pages. -/
def Fld.keptDown (g : Fld) : Bool :=
  g.ok && decide (g.addr < 0x3A000) && [Reg.BWT.CLK_STATUS.PLL_LOCKED, Reg.PWR.STATUS.STAGE, Reg.DEV.INT_STATUS.STATE_CHANGE, Reg.PWR.STATUS.STANDBY,
    Reg.DEV.START.LAST_DOWN].all (fun f => f.apart g)

theorem Fld.keptDown_iff (g : Fld) : g.keptDown = true ↔ g.ok = true ∧ g.addr < 0x3A000 ∧ Reg.BWT.CLK_STATUS.PLL_LOCKED.apart g = true ∧ Reg.PWR.STATUS.STAGE.apart g = true ∧
    Reg.DEV.INT_STATUS.STATE_CHANGE.apart g = true ∧ Reg.PWR.STATUS.STANDBY.apart g = true ∧ Reg.DEV.START.LAST_DOWN.apart g = true := by
  simp [Fld.keptDown, and_assoc]

theorem State.fld_enterOff (s : State) (g : Fld) (hg : g.keptDown = true) : s.enterOff.fld g = s.fld g := by
  obtain ⟨ok, -, pll, stage, change, -, -⟩ := g.keptDown_iff.mp hg
  unfold State.enterOff
  rw [State.fld_toState _ _ _ (by decide) ok change, State.fld_setFld_other _ _ _ _ (by decide) ok stage, State.fld_pllCheck _ _ ok pll, State.fld_onPwr]

theorem State.fld_downNext (s : State) (l : List DownItem) (g : Fld) (hg : g.keptDown = true) : (s.downNext l).fld g = s.fld g := by
  obtain ⟨ok, -, pll, -⟩ := g.keptDown_iff.mp hg
  induction l generalizing s with
  | nil => exact s.fld_enterOff g hg
  | cons d rest ih =>
    cases d with
    | domains => exact (ih _).trans (s.fld_switchOff _ g)
    | rail r => exact (State.fld_pllCheck _ g ok pll).trans (s.fld_switchOff _ g)
    | ext n => exact (State.fld_pllCheck _ g ok pll).trans (s.fld_switchOff _ g)

/-- The counters of lost reports are fields of the pages from TLY on (R788). -/
theorem lostFld_spec (sev : Nat) : (lostFld sev).ok = true ∧ 0x3A000 ≤ (lostFld sev).addr := by
  unfold lostFld
  split
  · exact ⟨rfl, by simp [Reg.TLY.LOST.HIGH]; omega⟩
  · exact ⟨rfl, by simp [Reg.TLY.LOST.LOW]; omega⟩

theorem Fld.apart_of_addr_lt {f g : Fld} (h : g.addr < f.addr) : f.apart g = true := by
  simp [Fld.apart, Nat.ne_of_gt h]

theorem State.fld_lost (s : State) (sev : Nat) (g : Fld) (ok : g.ok = true) (low : g.addr < 0x3A000) : (s.lost sev).fld g = s.fld g := by
  obtain ⟨lok, high⟩ := lostFld_spec sev
  have lowest : 0x3A000 ≤ Reg.TLY.INT_STATUS.LOST.addr := by decide
  unfold State.lost State.bumpSat State.bumpSatBy
  rw [State.fld_raise_other _ _ _ (by decide) ok (Fld.apart_of_addr_lt (Nat.lt_of_lt_of_le low lowest)),
    State.fld_setFld_other _ _ _ _ lok ok (Fld.apart_of_addr_lt (Nat.lt_of_lt_of_le low high))]

theorem State.fld_loseQueued (s : State) (keep : Nat) (g : Fld) (ok : g.ok = true) (low : g.addr < 0x3A000) : (s.loseQueued keep).fld g = s.fld g := by
  unfold State.loseQueued
  dsimp only
  rw [State.fld_onTally]
  have kept (u : State) (r : Report) : (u.lost r.sev).fld g = u.fld g := u.fld_lost r.sev g ok low
  exact State.each_keeps (fun u => u.fld g) kept s _

theorem State.fld_domainsOff (s : State) (n : Nat) (g : Fld) : (s.domainsOff n).fld g = s.fld g := by
  rfl

theorem State.fld_dieDomainsOff (s : State) (g : Fld) : s.dieDomainsOff.fld g = s.fld g :=
  State.each_keeps (·.fld g) (fun u n => u.fld_domainsOff n g) s _

theorem State.fld_enterSeqDown (s : State) (cause : Nat) (g : Fld) (hg : g.keptDown = true) : (s.enterSeqDown cause).fld g = s.fld g := by
  obtain ⟨ok, low, -, -, change, standby, down⟩ := g.keptDown_iff.mp hg
  have entered (u : State) (hk : Hk) : ({ u with hk := hk } : State).fld g = u.fld g := rfl
  unfold State.enterSeqDown
  dsimp only
  rw [State.fld_downNext _ _ _ hg, State.fld_setFlag_other _ _ _ _ (by decide) ok standby, State.fld_onPwr, entered, State.fld_toState _ _ _ (by decide) ok change,
    State.fld_setFld_other _ _ _ _ (by decide) ok down, State.fld_onDev, State.fld_dieDomainsOff, State.fld_loseQueued _ _ _ ok low]

end Sys2Proof.Machine
end

section
/-! PROOF. The supply commands (O6): the device state and the power state through the entry into VENT and into SEQ_DOWN, and the commands themselves. -/

namespace Sys2Proof.Machine

/-! ### The device and power state at the entry into VENT (R680) -/

theorem State.planTurns_supply (s : State) (img : VentImg) : (s.planTurns img).dev = s.dev ∧ (s.planTurns img).pwr = s.pwr := by
  have dev (u : State) (b : VentBand) (f : Gang → Gang) : (u.onGang b.gang f).dev = u.dev := by simp [State.onGang_frame]
  have pwr (u : State) (b : VentBand) (f : Gang → Gang) : (u.onGang b.gang f).pwr = u.pwr := by simp [State.onGang_frame]
  exact ⟨State.each_keeps (·.dev) (fun u b => dev u b _) s _, State.each_keeps (·.pwr) (fun u b => pwr u b _) s _⟩

theorem State.stopWork_supply (s : State) : s.stopWork.dev = s.dev ∧ s.stopWork.pwr = s.pwr := by
  simp [State.stopWork, State.stopStreams, State.onGang_frame, State.onXlt_frame, State.onZl_frame, State.onReads_frame]

theorem State.nvCut_supply (s : State) (vent : Bool) : (s.nvCut vent).dev = s.dev ∧ (s.nvCut vent).pwr = s.pwr := by
  unfold State.nvCut
  dsimp only
  repeat' split
  all_goals simp [State.nvStart_frame, State.nvDone_frame, State.setNv_frame, State.pnvWear_frame, State.draw_frame]

theorem State.ventPage_supply (s : State) (v : VentPnv) : (s.ventPage v).dev = s.dev ∧ (s.ventPage v).pwr = s.pwr := by
  simp [State.ventPage, State.nvStart_frame, State.onPnv_frame, State.nvCut_supply]

theorem State.ventStart_supply (s : State) (fromHalt : Bool) : (s.ventStart fromHalt).dev = s.dev ∧ (s.ventStart fromHalt).pwr = s.pwr := by
  simp [State.ventStart, State.planTurns_supply, State.setFld_frame, State.onPnv_frame, State.ventPage_supply, State.stopWork_supply]

theorem State.lost_supply (s : State) (sev : Nat) : (s.lost sev).dev = s.dev ∧ (s.lost sev).pwr = s.pwr := by
  simp [State.lost_frame]

theorem State.loseQueued_supply (s : State) (keep : Nat) : (s.loseQueued keep).dev = s.dev ∧ (s.loseQueued keep).pwr = s.pwr :=
  ⟨State.each_keeps (·.dev) (fun u (r : Report) => (u.lost_supply r.sev).1) s _, State.each_keeps (·.pwr) (fun u (r : Report) => (u.lost_supply r.sev).2) s _⟩

/-- A change of state moves the device state into `prev`. -/
theorem State.dev_toState (s : State) {d : DevSt} (moves : s.dev.st ≠ d) (hd : d ≠ .service) : (s.toState d).dev = { s.dev with st := d, prev := s.dev.st } := by
  rw [State.toState, if_neg moves]
  dsimp only
  rw [if_neg hd]
  simp [State.raise_frame]

theorem State.pwr_toState (s : State) (d : DevSt) : (s.toState d).pwr = s.pwr := by
  simp [State.toState_frame]

theorem State.enterVent_supply (s : State) (h : s.dev.st ≠ .vent) :
    s.enterVent.dev.st = .vent ∧ s.enterVent.dev.prev = s.dev.st ∧ s.enterVent.pwr.ventN = true ∧ s.enterVent.pwr.vinQual = s.pwr.vinQual := by
  have same : ((s.onTally (fun t => { t with flush := {} })).ventStart false).dev = s.dev := (State.ventStart_supply _ _).1
  have pwr : ((s.onTally (fun t => { t with flush := {} })).ventStart false).pwr = s.pwr := (State.ventStart_supply _ _).2
  unfold State.enterVent
  dsimp only
  rw [State.pwr_toState, State.dev_toState]
  · simp [State.onDev, State.onPwr, State.loseQueued_supply, State.setFlag_frame, same, pwr]
  · simpa [State.onDev, State.onPwr, State.loseQueued_supply, State.setFlag_frame, same] using h
  · decide

/-! ### The power state through SEQ_DOWN (R663, R667) -/

@[simp] theorem State.pllCheck_supply (s : State) : s.pllCheck.dev = s.dev ∧ s.pllCheck.pwr = s.pwr := by
  unfold State.pllCheck
  split <;> simp [State.setFlag_frame]

/-- Switching off an item of SEQ_DOWN leaves the device state and the note of a failed start. -/
theorem State.switchOff_supply (s : State) (d : DownItem) : (s.switchOff d).dev = s.dev ∧ (s.switchOff d).pwr.failed = s.pwr.failed := by
  unfold State.switchOff State.cond
  cases d <;> exact ⟨rfl, rfl⟩

theorem State.pwr_switchOff_rail (s : State) (q : Rail) :
    (s.switchOff (.rail q)).pwr = { s.pwr with rails := s.pwr.rails.erase q, pg := s.pwr.pg.erase (.rail q), boost := s.pwr.boost && decide (q ≠ .vhold) } := rfl

theorem State.enterOff_supply (s : State) (h : s.dev.st ≠ .off) :
    s.enterOff.dev.st = .off ∧ s.enterOff.pwr.offHold = true ∧ s.enterOff.pwr.failed = s.pwr.failed := by
  unfold State.enterOff
  rw [State.pwr_toState, State.dev_toState]
  · simp [State.onPwr, State.setFld_frame]
  · simpa [State.onPwr, State.setFld_frame] using h
  · decide

theorem State.failed_enterOff (s : State) : s.enterOff.pwr.failed = s.pwr.failed := by
  simp [State.enterOff, State.pwr_toState, State.setFld_frame, State.onPwr]

theorem State.failed_downNext (s : State) (l : List DownItem) : (s.downNext l).pwr.failed = s.pwr.failed := by
  induction l generalizing s with
  | nil => exact s.failed_enterOff
  | cons d rest ih =>
    cases d with
    | domains => exact (ih _).trans (s.switchOff_supply _).2
    | rail r => simp [State.downNext, State.onPwr, State.switchOff_supply]
    | ext n => simp [State.downNext, State.onPwr, State.switchOff_supply]

/-- The step of SEQ_DOWN after the first item, where a rail is next: it is switched off and heads the list. -/
theorem State.downPop_rail {s : State} {d : DownItem} {q : Rail} {l : List DownItem} (list : s.pwr.down = d :: .rail q :: l) :
    s.downPop.pwr.rails = s.pwr.rails.erase q ∧ s.downPop.pwr.down = .rail q :: l := by
  unfold State.downPop
  rw [list]
  simp [State.downNext, State.onPwr, State.pwr_switchOff_rail]

theorem State.failed_dieDomainsOff (s : State) : s.dieDomainsOff.pwr.failed = s.pwr.failed := by
  have kept (u : State) (n : Nat) : (u.domainsOff n).pwr.failed = u.pwr.failed := rfl
  exact State.each_keeps (fun u => u.pwr.failed) kept s _

theorem State.failed_enterSeqDown (s : State) (cause : Nat) : (s.enterSeqDown cause).pwr.failed = s.pwr.failed := by
  unfold State.enterSeqDown
  dsimp only
  rw [State.failed_downNext]
  simp [State.setFlag_frame, State.onPwr, State.pwr_toState, State.setFld_frame, State.onDev, State.failed_dieDomainsOff, State.loseQueued_supply]

/-! ### A failed start (R663, R664) -/

/-- The fall of SEQ_DOWN that a failed start begins keeps the fields that show the failure. -/
theorem State.fld_seqFail (s : State) (cause : Nat) (g : Fld) (kept : g.keptDown = true) (ok : g.ok = true) (irq : Reg.PWR.INT_STATUS.SEQ_FAIL.apart g = true) :
    (s.seqFail cause).fld g =
      (((s.setFlag Reg.PWR.STATUS.PWR_FAULT true).setFld Reg.PWR.STATUS.FAULT_STAGE (s.fld Reg.PWR.STATUS.STAGE)).setFld Reg.PWR.STATUS.FAULT_CAUSE cause).fld g := by
  unfold State.seqFail
  dsimp only
  rw [State.fld_enterSeqDown _ _ _ kept, State.fld_raise_other _ _ _ (by decide) ok irq, State.fld_onPwr]

theorem State.failed_seqFail (s : State) (cause : Nat) : (s.seqFail cause).pwr.failed = true := by
  have begun (u : State) : ((u.onPwr (fun p => { p with faultN := true, failed := true })).raise Reg.PWR.INT_STATUS.SEQ_FAIL).pwr.failed = true := by
    simp [State.raise_frame, State.onPwr]
  simp only [State.seqFail, State.failed_enterSeqDown, begun]

theorem State.flag_seqFail_fault (s : State) (cause : Nat) : (s.seqFail cause).flag Reg.PWR.STATUS.PWR_FAULT = true := by
  have shown := State.flag_setFlag_same s Reg.PWR.STATUS.PWR_FAULT true (by decide)
  unfold State.flag at shown ⊢
  rw [State.fld_seqFail _ _ _ (by decide) (by decide) (by decide), State.fld_setFld_other _ _ _ _ (by decide) (by decide) (by decide),
    State.fld_setFld_other _ _ _ _ (by decide) (by decide) (by decide)]
  exact shown

theorem State.fld_seqFail_stage (s : State) (cause : Nat) : (s.seqFail cause).fld Reg.PWR.STATUS.FAULT_STAGE = s.fld Reg.PWR.STATUS.STAGE := by
  have stage : s.fld Reg.PWR.STATUS.STAGE < 16 := bitsOf_lt _ _ _
  rw [State.fld_seqFail _ _ _ (by decide) (by decide) (by decide), State.fld_setFld_other _ _ _ _ (by decide) (by decide) (by decide),
    State.fld_setFld_same _ _ _ (by decide)]
  exact Nat.mod_eq_of_lt stage

theorem State.fld_seqFail_cause (s : State) {cause : Nat} (small : cause < 16) : (s.seqFail cause).fld Reg.PWR.STATUS.FAULT_CAUSE = cause := by
  rw [State.fld_seqFail _ _ _ (by decide) (by decide) (by decide), State.fld_setFld_same _ _ _ (by decide)]
  exact Nat.mod_eq_of_lt small

/-- Chatter is counted on CHATTER and PG_CHATTER alone (R662). -/
theorem State.chatter_keeps (s : State) (n : Nat) (f : Fld) (ok : f.ok = true) (count : Reg.PWR.CHATTER.CHATTER.apart f = true) (noted : Reg.PWR.INT_STATUS.PG_CHATTER.apart f = true) :
    (s.chatter n).pwr = s.pwr ∧ (s.chatter n).fld f = s.fld f := by
  unfold State.chatter
  split
  · exact ⟨rfl, rfl⟩
  · refine ⟨by simp [State.raise_frame, State.bumpBy_frame], ?_⟩
    rw [State.fld_raise_other _ _ _ (by decide) ok noted]
    exact State.fld_setFld_other _ _ _ _ (by decide) ok count

/-! ### The commands -/

theorem execVinCollapse_service {s : State} (up : s.dev.st = .service) :
    execVinCollapse s = .next ((s.onPwr (fun p => { p with vinQual := false })).onDev (fun d => { d with offDue := false })).enterVent := by
  unfold execVinCollapse
  dsimp only [State.onDev, State.onPwr]
  rw [up]

theorem execPowerGoodDrop_ext {s : State} {n : Nat} (good : PgInput.ext n ∈ s.pwr.pg) (up : s.dev.st = .service) (active : s.pwr.standby = false) :
    execPowerGoodDrop (.ext n) s = .next ((s.onPwr (fun p => { p with pg := p.pg.erase (.ext n) })).reportCode sevFatal 0x3040 0 n 0 0) := by
  simp [execPowerGoodDrop, good, State.cond, State.onPwr, up, State.isUp, active]

theorem execPowerGoodQualified_rail {s : State} {r : Rail} (us : Nat) (on : r ∈ s.pwr.rails) (fresh : PgInput.rail r ∉ s.pwr.pg) (seq : s.dev.st ≠ .seqUp) :
    execPowerGoodQualified (.rail r) 0 us s = .next (s.onPwr (fun p => { p with pg := p.pg ++ [PgInput.rail r] })) := by
  simp [execPowerGoodQualified, State.pgOn, on, fresh, State.chatter, State.pgGood, State.onPwr, seq]

theorem execSeqStageTimeout_fails {s : State} {n : Nat} (chatter : Nat) (seq : s.dev.st = .seqUp) (stage : s.fld Reg.PWR.STATUS.STAGE = n) (late : 3 ≤ n)
    (open_ : s.stageOk n = false) (on : s.pwr.offInSeq = false) : execSeqStageTimeout chatter s = .next ((s.chatter chatter).seqFail 1) := by
  have kept : (s.chatter chatter).pwr = s.pwr := (s.chatter_keeps chatter Reg.PWR.STATUS.STAGE (by decide) (by decide) (by decide)).1
  simp [execSeqStageTimeout, seq, stage, open_, kept, on, show n ≠ 1 by omega, show n ≠ 2 by omega]

/-- The item that SEQ_DOWN waits for. -/
theorem State.downHead_of {s : State} {d : DownItem} {l : List DownItem} (down : s.dev.st = .seqDown) (list : s.pwr.down = d :: l) : s.downHead = some d := by
  simp [State.downHead, down, list]

/-- After the last item of SEQ_DOWN comes OFF (R667). -/
theorem State.downPop_last {s : State} {d : DownItem} (list : s.pwr.down = [d]) : s.downPop = s.enterOff := by
  simp [State.downPop, list, State.downNext]

/-- Settles O6: VENT from `enterVent_supply`, the FATAL report from `report_of_takes`, the failed start from the fields of `fld_seqFail`, the items of SEQ_DOWN from `downPop_rail`; the fields of the report rest on log entries 81 and 93. -/
theorem supplyFailsAndFalls : Obligations.SupplyFailsAndFalls := by
  refine ⟨?collapse, ?qualified, ?drop, ?timeout, ?fall, ?fallTimeout, ?offDelay⟩
  case collapse =>
    intro s up
    obtain ⟨st, prev, low, vin⟩ := ((s.onPwr (fun p => { p with vinQual := false })).onDev (fun d => { d with offDue := false })).enterVent_supply
      (by simp [State.onPwr, State.onDev, up])
    exact ⟨_, execVinCollapse_service up, st, prev.trans up, low, vin⟩
  case qualified => exact fun s r us on fresh seq => ⟨_, execPowerGoodQualified_rail us on fresh seq, rfl⟩
  case drop =>
    intro s n good up active room
    have taken : (s.onPwr (fun p => { p with pg := p.pg.erase (.ext n) })).takes 0x30 := State.takes_of_service up room
    refine ⟨_, execPowerGoodDrop_ext good up active, ?_, State.fifoOf_report_of_takes taken⟩
    simp [State.reportCode, State.report_frame, State.onPwr]
  case timeout =>
    intro s n chatter seq stage late open_ on
    have kept : (s.chatter chatter).fld Reg.PWR.STATUS.STAGE = s.fld Reg.PWR.STATUS.STAGE := (s.chatter_keeps chatter _ (by decide) (by decide) (by decide)).2
    exact ⟨_, execSeqStageTimeout_fails chatter seq stage late open_ on, State.failed_seqFail _ _, State.flag_seqFail_fault _ _,
      (State.fld_seqFail_stage _ _).trans (kept.trans stage), State.fld_seqFail_cause _ (by decide)⟩
  case fall =>
    intro s r q l down list
    exact ⟨_, congrArg Host.Outcome.next (if_pos (State.downHead_of down list)), State.downPop_rail list⟩
  case fallTimeout =>
    intro s r down list
    have noted : ((s.bumpSat Reg.PWR.STATUS.FALL_TIMEOUTS).raise Reg.PWR.INT_STATUS.FALL_TIMEOUT).flag Reg.PWR.INT_STATUS.FALL_TIMEOUT = true :=
      State.flag_raise_same _ _ (by decide)
    have down' : ((s.bumpSat Reg.PWR.STATUS.FALL_TIMEOUTS).raise Reg.PWR.INT_STATUS.FALL_TIMEOUT).dev.st = .seqDown := by
      simp [State.raise_frame, State.bumpSat_frame, down]
    have list' : ((s.bumpSat Reg.PWR.STATUS.FALL_TIMEOUTS).raise Reg.PWR.INT_STATUS.FALL_TIMEOUT).pwr.down = [.rail r] := by
      simp [State.raise_frame, State.bumpSat_frame, list]
    refine ⟨_, congrArg Host.Outcome.next (if_pos (State.downHead_of down list)), ?_⟩
    rw [State.downPop_last list']
    obtain ⟨off, hold, -⟩ := State.enterOff_supply _ (by rw [down']; decide)
    refine ⟨off, hold, ?_⟩
    unfold State.flag at noted ⊢
    rw [State.fld_enterOff _ _ (by decide)]
    exact noted
  case offDelay =>
    intro s n q l down list
    exact ⟨_, congrArg Host.Outcome.next (if_pos (State.downHead_of down list)), State.downPop_rail list⟩

end Sys2Proof.Machine
end

section
/-! PROOF. The supply and request commands (O5): what the cold reset keeps of the PWR page, and what the start of SEQ_UP makes of the state. -/

namespace Sys2Proof.Machine

/-! ### Registers through a cold reset (R717) -/

/-- The registers of the DEV and PWR pages that a cold reset keeps whole. -/
def ownReg (a : Nat) : Bool := (a / 0x1000 = 0x00 || a / 0x1000 = 0x30) && decide (a % 0x1000 ≠ 0x2C)

/-- The word that a cold reset leaves of a listed register. -/
def warmWord (v : Variant) (a : Nat) (w : Word) : Word := if ownReg a then w else BitVec.ofNat 32 (srWord v a w.toNat)

theorem warmRegs_cons (v : Variant) (k : Nat) (w : Word) (m : SMap Word) :
    warmRegs v ((k, w) :: m) = if warmWord v k w = regReset v k then warmRegs v m else (k, warmWord v k w) :: warmRegs v m := by
  by_cases reset : warmWord v k w = regReset v k
  · rw [if_pos reset]
    exact List.filterMap_cons_none (if_pos reset)
  · rw [if_neg reset]
    exact List.filterMap_cons_some (if_neg reset)

/-- A register that is not listed stays at its reset value. -/
theorem get_warmRegs_of_not_mem (v : Variant) (m : SMap Word) (a : Nat) (h : ∀ e ∈ m, e.1 ≠ a) : SMap.get (regReset v) (warmRegs v m) a = regReset v a := by
  induction m with
  | nil => rfl
  | cons e rest ih =>
    obtain ⟨k, w⟩ := e
    have other : a ≠ k := (h (k, w) (by simp)).symm
    have tail := ih (fun e he => h e (by simp [he]))
    rw [warmRegs_cons]
    split
    · exact tail
    · simp [SMap.get, other, tail]

/-- A register that a cold reset keeps, and that does not stand at its reset value, reads as before. -/
theorem get_warmRegs_of_ne (v : Variant) (m : SMap Word) (a : Nat) (own : ownReg a = true) (h : SMap.get (regReset v) m a ≠ regReset v a) :
    SMap.get (regReset v) (warmRegs v m) a = SMap.get (regReset v) m a := by
  induction m with
  | nil => rfl
  | cons e rest ih =>
    obtain ⟨k, w⟩ := e
    rw [warmRegs_cons]
    by_cases here : a = k
    · subst here
      have moved : w ≠ regReset v a := by simpa [SMap.get] using h
      simp [warmWord, own, moved, SMap.get]
    · have tail : SMap.get (regReset v) ((k, w) :: rest) a = SMap.get (regReset v) rest a := by simp [SMap.get, here]
      rw [tail] at h ⊢
      split
      · exact ih h
      · simp [SMap.get, here, ih h]

/-- A word written to a register that a cold reset keeps is there after it. -/
theorem get_warmRegs_set (v : Variant) (m : SMap Word) (a : Nat) (w : Word) (own : ownReg a = true) :
    SMap.get (regReset v) (warmRegs v (SMap.set (regReset v) m a w)) a = w := by
  by_cases reset : w = regReset v a
  · have gone : SMap.set (regReset v) m a w = SMap.erase m a := by rw [SMap.set, if_pos reset]
    rw [gone, get_warmRegs_of_not_mem, reset]
    simp [SMap.erase]
  · have read : SMap.get (regReset v) (SMap.set (regReset v) m a w) a = w := by rw [SMap.get_set, if_pos rfl]
    rw [get_warmRegs_of_ne v _ a own (by rwa [read]), read]

/-- What a cold reset makes of the device and power state, the time base and the registers: all of a register page but LAT_STATUS.CAP is `warmRegs`. -/
theorem State.coldReset_parts (s : State) : s.coldReset.dev = s.dev ∧ s.coldReset.pwr = s.pwr ∧ s.coldReset.clk = {} := by
  unfold State.coldReset
  dsimp only
  simp only [State.refreshIrq_frame, State.setFld_frame]
  exact ⟨rfl, rfl, rfl⟩

theorem State.reg_coldReset (s : State) (a : Nat) (h : a ≠ Reg.BWT.LAT_STATUS.CAP.addr) :
    s.coldReset.reg a = (SMap.get (regReset s.variant) (warmRegs s.variant s.regs) a).toNat := by
  unfold State.coldReset
  dsimp only
  rw [State.reg_refreshIrq, State.setFld, State.reg_setReg, if_neg h]
  rfl

/-- The registers with PWR_FAULT cleared. -/
theorem State.regs_faultClear (s : State) : s.faultClear.regs = (s.setFlag Reg.PWR.STATUS.PWR_FAULT false).regs := rfl

theorem State.variant_faultClear (s : State) : s.faultClear.variant = s.variant := by
  simp [State.faultClear_frame]

theorem State.fld_faultClear (s : State) (g : Fld) : s.faultClear.fld g = (s.setFlag Reg.PWR.STATUS.PWR_FAULT false).fld g := by
  unfold State.faultClear
  rw [State.fld_onPwr]

theorem State.flag_faultClear (s : State) : s.faultClear.flag Reg.PWR.STATUS.PWR_FAULT = false := by
  have cleared := s.flag_setFlag_same Reg.PWR.STATUS.PWR_FAULT false (by decide)
  unfold State.flag at cleared ⊢
  rwa [State.fld_faultClear]

/-- A field just written on a page that a cold reset keeps reads the same after it. -/
theorem State.fld_coldReset_of_setFld {s t : State} {f : Fld} {x : Nat} (own : ownReg f.addr = true) (other : f.addr ≠ Reg.BWT.LAT_STATUS.CAP.addr)
    (regs : t.regs = (s.setFld f x).regs) (variant : t.variant = s.variant) : t.coldReset.fld f = (s.setFld f x).fld f := by
  have word : t.coldReset.reg f.addr = (s.setFld f x).reg f.addr := by
    rw [State.reg_coldReset _ _ other, regs, variant]
    unfold State.setFld State.setReg State.reg
    rw [get_warmRegs_set _ _ _ _ own, SMap.get_set, if_pos rfl]
  unfold State.fld
  rw [word]

/-- PWR_FAULT cleared in OFF stays clear through the cold reset of the start (R665, R717). -/
theorem State.flag_coldReset_faultClear (s : State) : s.faultClear.coldReset.flag Reg.PWR.STATUS.PWR_FAULT = false := by
  have cleared := s.flag_setFlag_same Reg.PWR.STATUS.PWR_FAULT false (by decide)
  unfold State.flag at cleared ⊢
  rw [State.fld_coldReset_of_setFld (by decide) (by decide) s.regs_faultClear s.variant_faultClear]
  exact cleared

/-! ### The stages of SEQ_UP (R661, R662) -/

/-- A stage starts: the rails and channels of the stage are switched on, and STAGE shows it. -/
theorem State.stageStart_two (s : State) : (s.stageStart 2).dev = s.dev ∧ (s.stageStart 2).clk = s.clk ∧ Rail.vddPll ∈ (s.stageStart 2).pwr.rails ∧
    (s.stageStart 2).pwr.vinQual = s.pwr.vinQual ∧ (s.stageStart 2).pwr.pg = s.pwr.pg := by
  unfold State.stageStart State.cond
  simp only [State.setFld_frame]
  refine ⟨rfl, rfl, ?_, rfl, rfl⟩
  by_cases on : Rail.vddPll ∈ s.pwr.rails <;> simp [State.onPwr, stageRails, on]

theorem State.fld_stageStart_stage (s : State) : (s.stageStart 2).fld Reg.PWR.STATUS.STAGE = 2 := by
  unfold State.stageStart
  rw [State.fld_setFld_same _ _ _ (by decide)]
  rfl

theorem State.fld_stageStart_other (s : State) (g : Fld) (ok : g.ok = true) (ne : Reg.PWR.STATUS.STAGE.apart g = true) : (s.stageStart 2).fld g = s.fld g := by
  unfold State.stageStart
  rw [State.fld_setFld_other _ _ _ _ (by decide) ok ne]
  rfl

theorem State.stageOk_two {s : State} (pll : PgInput.rail .vddPll ∉ s.pwr.pg) : s.stageOk 2 = false := by
  simp [State.stageOk, State.stageNeeds, pll]

/-- SEQ_UP waits in a stage whose needs are not met. -/
theorem State.seqAdvance_waits (finish : State → State) {s : State} (n : Nat) (open_ : s.stageOk (s.fld Reg.PWR.STATUS.STAGE) = false) :
    State.seqAdvance finish s (n + 1) = s := by
  simp [State.seqAdvance, open_]

/-- Stage 1 ends with VIN, and stage 2 waits for VDD_PLL. -/
theorem State.seqAdvance_stage_one (finish : State → State) {s : State} (n : Nat) (seq : s.dev.st = .seqUp) (stage : s.fld Reg.PWR.STATUS.STAGE = 1)
    (vin : s.pwr.vinQual = true) (on : s.pwr.offInSeq = false) (pll : PgInput.rail .vddPll ∉ s.pwr.pg) : State.seqAdvance finish s (n + 2) = s.stageStart 2 := by
  obtain ⟨-, -, -, -, pg⟩ := s.stageStart_two
  have ends : State.seqAdvance finish s (n + 2) = State.seqAdvance finish (s.stageStart 2) (n + 1) := by
    rw [State.seqAdvance]
    simp [seq, stage, on, State.stageOk, vin]
  rw [ends, State.seqAdvance_waits]
  rw [State.fld_stageStart_stage]
  exact State.stageOk_two (by rwa [pg])

/-! ### The start of SEQ_UP (R665, R717) -/

/-- A list of fields written leaves a field that shares no bit with any of them. -/
theorem State.fld_each_setFld_other {α : Type} (s : State) (l : List α) (f : α → Fld) (v : α → Nat) (g : Fld) (ok : g.ok = true)
    (h : ∀ n ∈ l, (f n).ok = true ∧ (f n).apart g = true) : (s.each l (fun s n => s.setFld (f n) (v n))).fld g = s.fld g := by
  induction l generalizing s with
  | nil => rfl
  | cons n rest ih =>
    obtain ⟨fok, ne⟩ := h n (by simp)
    exact (ih _ (fun m hm => h m (by simp [hm]))).trans (s.fld_setFld_other _ _ _ fok ok ne)

/-- The cold reset of a start with STEP_US cleared. -/
def State.startReset (s : State) : State := s.coldReset.each (List.range 12) (fun s n => s.setFld (Reg.DEV.STEP_US.US (n + 2)) 0)

theorem State.startReset_parts (s : State) : s.startReset.dev = s.dev ∧ s.startReset.pwr = s.pwr ∧ s.startReset.clk = {} := by
  obtain ⟨dev, pwr, clk⟩ := s.coldReset_parts
  have kept (u : State) (n : Nat) : (u.setFld (Reg.DEV.STEP_US.US (n + 2)) 0).dev = u.dev ∧ (u.setFld (Reg.DEV.STEP_US.US (n + 2)) 0).pwr = u.pwr ∧
      (u.setFld (Reg.DEV.STEP_US.US (n + 2)) 0).clk = u.clk := by simp [State.setFld_frame]
  exact ⟨(State.each_keeps (·.dev) (fun u n => (kept u n).1) _ _).trans dev, (State.each_keeps (·.pwr) (fun u n => (kept u n).2.1) _ _).trans pwr,
    (State.each_keeps (·.clk) (fun u n => (kept u n).2.2) _ _).trans clk⟩

theorem State.fld_startReset (s : State) : s.startReset.fld Reg.PWR.STATUS.PWR_FAULT = s.coldReset.fld Reg.PWR.STATUS.PWR_FAULT :=
  State.fld_each_setFld_other _ _ (fun n => Reg.DEV.STEP_US.US (n + 2)) (fun _ => 0) _ (by decide) (by decide)

/-- SEQ_UP with its first stage begun, as `startSeqUp` enters it: 1 is the kind of the first start since POR, 2 that of every other. -/
def State.seqUpBegun (s : State) : State :=
  ((((s.startReset.onDev (fun d =>
    { d with started := true, step := 2, us := 0, tallyReady := false, resuming := false, rotaPending := false, haltVent := false, reduced := [] })).setFld
      Reg.DEV.START.KIND (if s.dev.started then 2 else 1)).bump Reg.DEV.START.STARTS).setFld Reg.PWR.STATUS.STAGE 1).toState .seqUp

theorem State.startSeqUp_eq (s : State) : s.startSeqUp = State.seqAdvance (State.seqFinish 0) s.seqUpBegun 12 := rfl

theorem State.seqUpBegun_parts (s : State) (off : s.dev.st = .off) :
    s.seqUpBegun.dev.st = .seqUp ∧ s.seqUpBegun.dev.started = true ∧ s.seqUpBegun.pwr = s.pwr ∧ s.seqUpBegun.clk = {} := by
  obtain ⟨dev, pwr, clk⟩ := s.startReset_parts
  unfold State.seqUpBegun
  rw [State.pwr_toState, State.dev_toState _ _ (by decide)]
  · simp [State.toState_frame, State.setFld_frame, State.bump_frame, State.onDev, pwr, clk]
  · simp [State.setFld_frame, State.bump_frame, State.onDev, dev, off]

theorem State.fld_seqUpBegun_stage (s : State) : s.seqUpBegun.fld Reg.PWR.STATUS.STAGE = 1 := by
  unfold State.seqUpBegun
  rw [State.fld_toState _ _ _ (by decide) (by decide) (by decide), State.fld_setFld_same _ _ _ (by decide)]
  rfl

theorem State.fld_seqUpBegun_kind (s : State) : s.seqUpBegun.fld Reg.DEV.START.KIND = if s.dev.started then 2 else 1 := by
  unfold State.seqUpBegun State.bump State.bumpBy
  rw [State.fld_toState _ _ _ (by decide) (by decide) (by decide), State.fld_setFld_other _ _ _ _ (by decide) (by decide) (by decide),
    State.fld_setFld_other _ _ _ _ (by decide) (by decide) (by decide), State.fld_setFld_same _ _ _ (by decide)]
  split <;> rfl

theorem State.fld_seqUpBegun_fault (s : State) : s.seqUpBegun.fld Reg.PWR.STATUS.PWR_FAULT = s.coldReset.fld Reg.PWR.STATUS.PWR_FAULT := by
  unfold State.seqUpBegun State.bump State.bumpBy
  rw [State.fld_toState _ _ _ (by decide) (by decide) (by decide), State.fld_setFld_other _ _ _ _ (by decide) (by decide) (by decide),
    State.fld_setFld_other _ _ _ _ (by decide) (by decide) (by decide), State.fld_setFld_other _ _ _ _ (by decide) (by decide) (by decide), State.fld_onDev,
    State.fld_startReset]

theorem State.tryStart_no_vin {s : State} (vin : s.pwr.vinQual = false) : s.tryStart = s := by
  simp [State.tryStart, vin]

/-! ### The commands -/

theorem execPorRelease_held {s : State} (straps : Nat) (held : s.dev.por = false) :
    execPorRelease straps s = .next (((s.onDev (fun d => { d with por := true, started := false })).onPwr (fun p => { p with vin := true, offHold := true })).setReg
      Reg.DEV.STRAPS.word (straps % 256)) := by
  simp [execPorRelease, held]

theorem execOffHoldExpiry_no_vin {s : State} (off : s.dev.st = .off) (vin : s.pwr.vinQual = false) :
    execOffHoldExpiry s = .next (s.onPwr (fun p => { p with offHold := false })) := by
  have waits : (s.onPwr (fun p => { p with offHold := false })).tryStart = s.onPwr (fun p => { p with offHold := false }) := State.tryStart_no_vin vin
  rw [execOffHoldExpiry, if_pos off, waits]

theorem execVinQualified_seqUp {s : State} (por : s.dev.por = true) (seq : s.dev.st = .seqUp) (stage : s.fld Reg.PWR.STATUS.STAGE = 1)
    (on : s.pwr.offInSeq = false) (pll : PgInput.rail .vddPll ∉ s.pwr.pg) :
    execVinQualified s = .next ((s.onPwr (fun p => { p with vin := true, vinQual := true })).stageStart 2) := by
  have ends := State.seqAdvance_stage_one (State.seqFinish 0) (s := s.onPwr (fun p => { p with vin := true, vinQual := true })) 10 seq stage rfl on pll
  have seq' : (s.onPwr (fun p => { p with vin := true, vinQual := true })).dev.st = .seqUp := seq
  unfold execVinQualified
  dsimp only
  rw [por, if_neg (by decide), if_pos seq', ends]

theorem execPwrReqOn_up {s : State} (fresh : s.pwr.req = false) (up : s.dev.st ≠ .off) : execPwrReqOn s = .next (s.onPwr (fun p => { p with req := true })) := by
  have up' : (s.onPwr (fun p => { p with req := true })).dev.st ≠ .off := up
  simp [execPwrReqOn, fresh, up']

theorem execPwrReqOff_seqUp {s : State} (on : s.pwr.req = true) (seq : s.dev.st = .seqUp) (first : s.outranked 3 = false) :
    execPwrReqOff s = .next (s.onPwr (fun p => { p with req := false, offInSeq := true })) := by
  have stays : (s.onPwr (fun p => { p with req := false })).powerOff = s.onPwr (fun p => { p with req := false, offInSeq := true }) := by
    simp [State.powerOff, State.onPwr, seq]
  simp [execPwrReqOff, on, first, stays]

/-- PWR_REQ noted in OFF and PWR_FAULT cleared, before SEQ_UP starts. -/
def State.requested (s : State) : State := (s.onPwr (fun p => { p with req := true })).faultClear

theorem State.dev_requested (s : State) : s.requested.dev = s.dev := by
  simp [State.requested, State.faultClear, State.onPwr, State.setFlag_frame]

theorem State.pwr_requested (s : State) : s.requested.pwr.req = true ∧ s.requested.pwr.vinQual = s.pwr.vinQual ∧ s.requested.pwr.offHold = s.pwr.offHold ∧
    s.requested.pwr.offInSeq = s.pwr.offInSeq ∧ s.requested.pwr.pg = s.pwr.pg := by
  simp [State.requested, State.faultClear, State.onPwr, State.setFlag_frame]

/-- PWR_REQ goes on in OFF with VIN there: SEQ_UP starts with stage 2, for stage 1 has ended. -/
theorem execPwrReqOn_off {s : State} (fresh : s.pwr.req = false) (off : s.dev.st = .off) (por : s.dev.por = true) (vin : s.pwr.vinQual = true)
    (hold : s.pwr.offHold = false) (on : s.pwr.offInSeq = false) (pg : s.pwr.pg = []) :
    execPwrReqOn s = .next (s.requested.seqUpBegun.stageStart 2) := by
  have clear : s.requested.flag Reg.PWR.STATUS.PWR_FAULT = false := State.flag_faultClear _
  have starts : s.requested.tryStart = s.requested.startSeqUp := by
    simp [State.tryStart, s.dev_requested, s.pwr_requested, clear, off, por, vin, hold]
  obtain ⟨seq, -, pwr, -⟩ := s.requested.seqUpBegun_parts (by rw [s.dev_requested, off])
  have ends : State.seqAdvance (State.seqFinish 0) s.requested.seqUpBegun 12 = s.requested.seqUpBegun.stageStart 2 :=
    State.seqAdvance_stage_one _ 10 seq (State.fld_seqUpBegun_stage _) (by simp [pwr, s.pwr_requested, vin])
      (by simp [pwr, s.pwr_requested, on]) (by simp [pwr, s.pwr_requested, pg])
  have entered : execPwrReqOn s = .next s.requested.tryStart := by
    simp [execPwrReqOn, fresh, State.requested, State.onPwr, off]
  rw [entered, starts, State.startSeqUp_eq, ends]

/-- Settles O5: the start in OFF is stage 2 of `seqUpBegun`, whose kind, stage, fault flag and parts the lemmas above give; the clauses that the bell restarts at zero rest on log entry 31. -/
theorem supplyAndRequest : Obligations.SupplyAndRequest := by
  refine ⟨?porRelease, ?porAssert, ?offHold, ?vin, ?reqNoted, ?reqOff, ?start⟩
  case porRelease =>
    intro s straps held
    refine ⟨_, execPorRelease_held straps held, rfl, rfl, rfl, rfl, ?_⟩
    rw [State.reg_setReg, if_pos rfl]
    omega
  case porAssert => exact fun s => ⟨_, rfl, rfl, rfl, rfl, rfl, rfl, rfl, rfl, rfl⟩
  case offHold => exact fun s off vin => ⟨_, execOffHoldExpiry_no_vin off vin, rfl⟩
  case vin =>
    intro s por seq stage on pll
    obtain ⟨dev, -, rails, vin, -⟩ := (s.onPwr (fun p => { p with vin := true, vinQual := true })).stageStart_two
    exact ⟨_, execVinQualified_seqUp por seq stage on pll, vin, State.fld_stageStart_stage _, rails, by rw [dev]; exact seq⟩
  case reqNoted => exact fun s fresh up => ⟨_, execPwrReqOn_up fresh up, rfl⟩
  case reqOff => exact fun s on seq first => ⟨_, execPwrReqOff_seqUp on seq first, rfl⟩
  case start =>
    intro s fresh off por vin hold on pg
    obtain ⟨seq, started, -, clk⟩ := s.requested.seqUpBegun_parts (by rw [s.dev_requested, off])
    obtain ⟨dev', clk', rails, -, -⟩ := s.requested.seqUpBegun.stageStart_two
    have clear : s.requested.coldReset.flag Reg.PWR.STATUS.PWR_FAULT = false := State.flag_coldReset_faultClear _
    have kind := s.requested.fld_seqUpBegun_kind
    rw [s.dev_requested] at kind
    refine ⟨_, execPwrReqOn_off fresh off por vin hold on pg, by rw [dev', seq], by rw [dev', started], ?kind, State.fld_stageStart_stage _, ?fault, by rw [clk', clk], rails⟩
    case kind => rw [State.fld_stageStart_other _ _ (by decide) (by decide), kind]
    case fault =>
      unfold State.flag at clear ⊢
      rw [State.fld_stageStart_other _ _ (by decide) (by decide), State.fld_seqUpBegun_fault]
      exact clear

end Sys2Proof.Machine
end

section
/-! PROOF. Repairs (O14), refuted: a confirmation sense is a background sense, and a performance counter of such senses that wraps writes two registers (R815, R816). -/

namespace Sys2Proof.Machine

/-! ### A counter that wraps -/

theorem State.flag_raise_other (s : State) (f g : Fld) (h : f.ok = true) (hg : g.ok = true) (ne : f.apart g = true) : (s.raise f).flag g = s.flag g := by
  unfold State.flag
  rw [s.fld_raise_other f g h hg ne]

/-- A programmable counter that wraps shows it in PCTLk.OVF (R815). -/
theorem State.flag_pcount_of_wrap (s : State) {k n : Nat} (wraps : 2 ^ 48 ≤ s.pval k + n) : (s.pcount k n).flag (Reg.PMC.PCTL.OVF k) = true := by
  have apart : Reg.PMC.INT_STATUS.OVERFLOW.apart (Reg.PMC.PCTL.OVF k) = true := by
    simp [Fld.apart, Reg.PMC.INT_STATUS.OVERFLOW, Reg.PMC.PCTL.OVF]
  unfold State.pcount
  dsimp only
  rw [if_pos wraps, State.flag_raise_other _ _ _ rfl rfl apart]
  exact State.flag_setFlag_same _ _ _ rfl

/-- Outside a filtered span, an event that counter `k` alone counts is counted there (R815, R817). -/
theorem State.ev_of_single {s : State} {num n k : Nat} {dpa cls : Option Nat} (occurs : n ≠ 0)
    (counts : s.counting.filter (fun j => decide (s.appFld (Reg.PMC.PCTL.EVENT j) = num)) = [k]) (unfiltered : s.pmc.active = false) :
    s.ev num dpa cls n = s.pcount k n := by
  rw [State.ev, if_neg occurs, counts]
  simp [State.each, unfiltered]

/-! ### The start of a sense of one die -/

/-- A booking of output positions changes the reads in flight alone. -/
theorem State.bookFrom_only_reads (s : State) (g fuel slot base n : Nat) (acc : List Nat) (done : Nat) :
    ∃ r, (s.bookFrom g fuel slot base n acc done).2.2 = { s with reads := r } := by
  induction fuel generalizing s slot n acc done with
  | zero => exact ⟨s.reads, rfl⟩
  | succ fuel ih =>
    unfold State.bookFrom
    split
    · exact ⟨s.reads, rfl⟩
    · exact ih (s.posTake g slot _) _ _ _ _

/-- The start of a sense of one die is an occurrence of event 0x11; where the one counter of that event is full, it wraps. -/
theorem State.flag_shortSense_of_full {s : State} {k : Nat} (d psa lseg n : Nat)
    (counts : s.counting.filter (fun j => decide (s.appFld (Reg.PMC.PCTL.EVENT j) = 0x11)) = [k]) (unfiltered : s.pmc.active = false)
    (full : 2 ^ 48 ≤ s.pval k + 1) : (s.shortSense d psa lseg n).flag (Reg.PMC.PCTL.OVF k) = true := by
  obtain ⟨r, booked⟩ := s.bookFrom_only_reads (dieGang d) 64 (s.now / 256 + 1) (s.now / 256 + 1) n [] s.now
  have emitted (u : State) (o : Output) (f : Fld) : (u.emit o).flag f = u.flag f := rfl
  unfold State.shortSense State.bookBg
  dsimp only
  rw [emitted, booked, State.ev_of_single (s := State.onReads { s with reads := r } _) Nat.one_ne_zero counts unfiltered]
  exact State.flag_pcount_of_wrap _ full

/-! ### The confirmation sense -/

/-- A confirmation sense that finds the chunk right takes the confirmation from the queue and starts the sense (R110). -/
theorem execConfirmationSense_right {s : State} {n p : Nat} {flips : Chunk} {c : Confirm} (queued : s.xlt.confirms[n]? = some c)
    (slot : (s.at_ p).shortOpen c.die c.psa = true) (alive : s.dieFailed c.die = false) (right : s.chunk c.psa c.sector (dieLocal c.die) ^^^ flips = c.chunk) :
    execConfirmationSense n ⟨flips, false⟩ p s =
      .next (((s.at_ p).onXlt (fun t => { t with confirms := t.confirms.eraseIdx n })).shortSense c.die c.psa ((s.at_ p).revOf c.psa).lseg 1) := by
  have queued' : (s.at_ p).xlt.confirms[n]? = some c := queued
  have alive' : (s.at_ p).dieFailed c.die = false := alive
  have right' : (s.at_ p).chunk c.psa c.sector (dieLocal c.die) ^^^ flips = c.chunk := right
  simp [execConfirmationSense, queued', alive', slot, right']

/-- Where the one counter of background senses is full and has not wrapped yet, a confirmation sense changes a register, though it finds the chunk right. -/
theorem confirmationSense_changes_regs {s t : State} {n p k : Nat} {flips : Chunk} {c : Confirm} (queued : s.xlt.confirms[n]? = some c)
    (slot : (s.at_ p).shortOpen c.die c.psa = true) (alive : s.dieFailed c.die = false) (right : s.chunk c.psa c.sector (dieLocal c.die) ^^^ flips = c.chunk)
    (counts : s.counting.filter (fun j => decide (s.appFld (Reg.PMC.PCTL.EVENT j) = 0x11)) = [k]) (unfiltered : s.pmc.active = false)
    (full : 2 ^ 48 ≤ s.pval k + 1) (clear : s.flag (Reg.PMC.PCTL.OVF k) = false) (run : exec (.confirmationSense n ⟨flips, false⟩ p) s = .next t) :
    t.regs ≠ s.regs := by
  intro regs
  obtain rfl := Host.Outcome.next.inj ((execConfirmationSense_right queued slot alive right).symm.trans run)
  have set := State.flag_shortSense_of_full (s := (s.at_ p).onXlt (fun t => { t with confirms := t.confirms.eraseIdx n })) c.die c.psa
    ((s.at_ p).revOf c.psa).lseg 1 counts unfiltered full
  have same := State.fld_congr regs (by simp [State.shortSense_frame, State.onXlt_frame, State.at__frame]) (Reg.PMC.PCTL.OVF k)
  unfold State.flag at set clear
  rw [same, clear] at set
  exact Bool.false_ne_true set

/-- A confirmation of an unprogrammed chunk of die 2. -/
def waitingConfirm : Confirm := { die := 2, psa := 0, sector := 0, chunk := 0 }

/-- The words of page PMC that run counter 0 on event 0x11, background senses started (R815, R816). -/
def senseCounterWords : SMap Word := [(Reg.PMC.CTRL.word, 0x80000000#32), (Reg.PMC.PCTL.word 0, 0x80000011#32)]

/-- SERVICE with one confirmation waiting, and counter 0 running on event 0x11 at its last value before it wraps. -/
def fullCounterSt : State :=
  { dev := { st := .service, por := true, tallyReady := true }
    pwr := { vin := true, vinQual := true, req := true, ctrlOn := true }
    regs := senseCounterWords
    applied := senseCounterWords
    pmc := { val := [(0, 2 ^ 48 - 1)] }
    xlt := { confirms := [waitingConfirm] } }

/-- Refutes O14: its first clause keeps every register, but in `fullCounterSt` the confirmation sense at phase 1,280, the first B slot, finds the chunk right and wraps counter 0, which sets PCTL0.OVF and raises OVERFLOW (R815). -/
theorem not_repairsComplete : ¬ Obligations.RepairsComplete := by
  unfold Obligations.RepairsComplete
  rintro ⟨rightChunk, -⟩
  have queued : fullCounterSt.xlt.confirms[0]? = some waitingConfirm := rfl
  have slot : (fullCounterSt.at_ 1280).shortOpen waitingConfirm.die waitingConfirm.psa = true := by decide +kernel
  have alive : fullCounterSt.dieFailed waitingConfirm.die = false := by decide +kernel
  have right : fullCounterSt.chunk waitingConfirm.psa waitingConfirm.sector (dieLocal waitingConfirm.die) ^^^ 0 = waitingConfirm.chunk := by decide
  have counts : fullCounterSt.counting.filter (fun j => decide (fullCounterSt.appFld (Reg.PMC.PCTL.EVENT j) = 0x11)) = [0] := by decide +kernel
  have full : 2 ^ 48 ≤ fullCounterSt.pval 0 + 1 := by decide +kernel
  have clear : fullCounterSt.flag (Reg.PMC.PCTL.OVF 0) = false := by decide +kernel
  obtain ⟨t, run, -, regs, -⟩ := rightChunk fullCounterSt 0 1280 0 waitingConfirm queued slot alive right
  exact confirmationSense_changes_regs queued slot alive right counts rfl full clear run regs

end Sys2Proof.Machine
end

section
/-! PROOF. Refused trims (O43). -/

namespace Sys2Proof.Machine

/-- The grounds of R207 on which a trim is refused. -/
def State.TrimBarred (s : State) : Prop :=
  s.fld Reg.XLT.TRIM_COUNT.COUNT = 0 ∨
  s.fld Reg.XLT.USER_SEGS.USER_SEGS < s.fld Reg.XLT.TRIM_START.FIRST + s.fld Reg.XLT.TRIM_COUNT.COUNT ∨
  (s.regionsIn (s.fld Reg.XLT.TRIM_START.FIRST) (s.fld Reg.XLT.TRIM_COUNT.COUNT)).any (fun r => (s.openGroup r).isSome) = true ∨
  s.xlt.trim.busy = true

theorem State.trimGo_of_barred {s : State} (barred : s.TrimBarred) : s.trimGo = s.raise Reg.XLT.INT_STATUS.TRIM_REFUSED := by
  unfold State.trimGo
  dsimp only
  rw [if_pos]
  simp only [Bool.or_eq_true, decide_eq_true_eq]
  obtain none_ | long | open_ | busy := barred
  · exact .inl (.inl (.inl none_))
  · exact .inl (.inl (.inr long))
  · exact .inr open_
  · exact .inl (.inr busy)

/-- A register written with the word that it holds: every register reads as before. -/
theorem State.reg_setReg_reg (s : State) (a b : Nat) : (s.setReg a (s.reg a)).reg b = s.reg b := by
  rw [State.reg_setReg]
  split
  next h => rw [h, Nat.mod_eq_of_lt (s.reg_lt a)]
  next => rfl

/-- The grounds do not see a write that leaves every register as it reads. -/
theorem State.TrimBarred.setReg_reg {s : State} (barred : s.TrimBarred) (a : Nat) : (s.setReg a (s.reg a)).TrimBarred := by
  have same (f : Fld) : (s.setReg a (s.reg a)).fld f = s.fld f := by unfold State.fld; rw [State.reg_setReg_reg]
  unfold State.TrimBarred
  rw [same, same, same]
  exact barred

/-- GO leaves the GUARD byte of TRIM_CTRL. -/
theorem bitsOf_or_one_guard (w : Nat) : bitsOf (w ||| 1) 15 8 = bitsOf w 15 8 := by
  simp [bitsOf, Nat.shiftRight_or_distrib]

theorem bitOf_or_one (w : Nat) : bitOf (w ||| 1) 0 = true := by
  simp [bitOf]

theorem regFields_trimCtrl : regFields 0x0B068 = some [.plain 15 8 .wo 0, .plain 0 0 .wo 0] := rfl

/-- A write of TRIM_CTRL with its GUARD and GO, on an open page without CMD_LOCK, starts the trim: both fields are WO, so the word held stays. -/
theorem execTrimGo_open {s : State} {src : Source} {w : Word} (opened : s.pageOpen 0x0B 0x68 = true) (unlocked : s.cmdLock 0x0B = false) (bus : src ≠ .i3c)
    (guard : bitsOf w.toNat 15 8 = 0x5A) : exec (.trimGo src w) s = .next (s.setReg 0x0B068 (s.reg 0x0B068)).trimGo := by
  have passes : s.wholeErr 0x0B068 (w.toNat ||| 1) = none := by
    simp [State.wholeErr, guardAt, State.stillBusy, bitsOf_or_one_guard, guard]
  have fields : s.fieldsWrite 0x0B068 [.plain 15 8 .wo 0, .plain 0 0 .wo 0] src (w.toNat ||| 1) = s.setReg 0x0B068 (s.reg 0x0B068) := by
    simp [State.fieldsWrite, State.fieldCause, RegField.plain, RegField.take, unlocked, State.each]
  show Host.Outcome.next (s.busWrite src 0x0B068 (w.toNat ||| 1) {}) = _
  simp [State.busWrite, opened, bus, regFields_trimCtrl, State.blockWrite, passes, ilGroup, capturing, fields, unlocked, State.cfgAct, State.cmdAct, bitOf_or_one]

/-- A barred trim raises TRIM_REFUSED and changes nothing else of the page, the map, the regions, the caches or the medium (R207). -/
theorem execTrimGo_refused {s : State} {src : Source} {w : Word} (opened : s.pageOpen 0x0B 0x68 = true) (unlocked : s.cmdLock 0x0B = false) (bus : src ≠ .i3c)
    (guard : bitsOf w.toNat 15 8 = 0x5A) (barred : s.TrimBarred) :
    ∃ t, exec (.trimGo src w) s = .next t ∧ t.flag Reg.XLT.INT_STATUS.TRIM_REFUSED = true ∧ t.xlt = s.xlt ∧ t.prot = s.prot ∧ t.caches = s.caches ∧ t.dram = s.dram ∧
      t.med = s.med ∧ t.pnv = s.pnv ∧ t.applied = s.applied ∧ ∀ a ∈ List.range 0x1000, a ≠ 0x10 → t.reg (0x0B000 + a) = s.reg (0x0B000 + a) := by
  refine ⟨_, execTrimGo_open opened unlocked bus guard, ?_⟩
  rw [State.trimGo_of_barred (barred.setReg_reg _)]
  refine ⟨State.flag_raise_same _ _ rfl, ?_, ?_, ?_, ?_, ?_, ?_, ?_, fun a _ other => ?_⟩
  iterate 7 simp [State.raise_frame, State.setReg_frame]
  rw [State.reg_raise_other _ _ _ (by simp only [Reg.XLT.INT_STATUS.TRIM_REFUSED]; omega), State.reg_setReg_reg]

/-- Settles O43: each of the four grounds of R207 bars the trim. -/
theorem trimsAreRefusedWhole : Obligations.TrimsAreRefusedWhole := by
  unfold Obligations.TrimsAreRefusedWhole
  exact ⟨fun _ _ _ opened unlocked bus guard none_ => execTrimGo_refused opened unlocked bus guard (.inl none_),
    fun _ _ _ opened unlocked bus guard long => execTrimGo_refused opened unlocked bus guard (.inr (.inl long)),
    fun _ _ _ opened unlocked bus guard open_ => execTrimGo_refused opened unlocked bus guard (.inr (.inr (.inl open_))),
    fun _ _ _ opened unlocked bus guard busy => execTrimGo_refused opened unlocked bus guard (.inr (.inr (.inr busy)))⟩

end Sys2Proof.Machine
end

section
/-! PROOF. Groups, trim, query, drift evaluation and inspection (O16): what the commands leave of the segment map and of the drift tables. -/

namespace Sys2Proof.Machine

/-! ### The segment map through the journal, the reverse map and the bands -/

/-- A record changes the tail of the journal and the number of its next block, nothing else of the translation state (R199). -/
theorem State.xlt_journal (s : State) (r : JRec) : ∃ tail next, (s.journal r).xlt = { s.xlt with tail, nextBlock := next } := by
  have opened : (State.journal.newBlock s r).xlt =
      { s.xlt with tail := s.xlt.tail ++ [{ seq := s.xlt.nextBlock, recs := [r] }], nextBlock := s.xlt.nextBlock + 1 } := by
    unfold State.journal.newBlock State.journalHigh
    split
    · simp [State.raise_frame, State.onXlt]
    · rfl
  unfold State.journal
  split
  · split
    · exact ⟨_, _, opened⟩
    · exact ⟨_, s.xlt.nextBlock, rfl⟩
  · exact ⟨_, _, opened⟩

@[simp] theorem State.map_journal (s : State) (r : JRec) : (s.journal r).xlt.map = s.xlt.map := by
  obtain ⟨tail, next, h⟩ := s.xlt_journal r
  rw [h]

@[simp] theorem State.xlt_onGang (s : State) (g : Nat) (f : Gang → Gang) : (s.onGang g f).xlt = s.xlt := by
  unfold State.onGang State.setGang
  split <;> rfl

@[simp] theorem State.map_setBand (s : State) (g b : Nat) (x : Band) : (s.setBand g b x).xlt.map = s.xlt.map := rfl

@[simp] theorem State.map_releaseBand (s : State) (g b : Nat) : (s.releaseBand g b).xlt.map = s.xlt.map := by
  simp [State.releaseBand, State.onXlt]

@[simp] theorem State.map_setRev (s : State) (psa : Nat) (e : RevE) : (s.setRev psa e).xlt.map = s.xlt.map := by
  have put (f : Xlt → SMap RevE) : (s.onXlt (fun t => { t with rev := f t })).xlt.map = s.xlt.map := rfl
  unfold State.setRev State.releaseEmpty
  dsimp only
  split
  · exact put _
  · split <;> simp [put]

@[simp] theorem State.map_staleOld (s : State) (e : MapE) : (s.staleOld e).xlt.map = s.xlt.map := by
  unfold State.staleOld
  split <;> simp

@[simp] theorem State.xlt_ubPush (s : State) (e : UbE) : (s.ubPush e).xlt = s.xlt := by
  unfold State.ubPush
  dsimp only
  split <;> simp [State.raise_frame, State.bump_frame, State.setFlag_frame, State.settle_frame, State.onDram]

@[simp] theorem State.xlt_ubMap (s : State) (lseg : Nat) : (s.ubMap lseg).xlt = s.xlt := by
  unfold State.ubMap
  split <;> simp

@[simp] theorem State.xlt_scInvalidate (s : State) (lseg : Nat) : (s.scInvalidate lseg).xlt = s.xlt := by
  unfold State.scInvalidate
  dsimp only
  split
  · rfl
  · rw [State.xlt_ubPush]
    exact (State.each_keeps (·.xlt) (by intros; rfl) _ _).trans rfl

@[simp] theorem State.xlt_dropHost (s : State) (p : Nat → Bool) : (s.dropHost p).xlt = s.xlt := rfl

/-! ### Trim (R206) -/

/-- A map entry set reads so; every other one reads as before. -/
theorem State.mapOf_setMap (s : State) (l k : Nat) (e : MapE) : (s.setMap l e).mapOf k = if k = l then e else s.mapOf k := by
  have put (u : State) (x : Xlt) (h : u.xlt = x) : u.mapOf k = SMap.get (fun _ => {}) x.map k := by rw [← h]; rfl
  unfold State.setMap State.mapCounts
  rw [put _ { s.xlt with map := SMap.set (fun _ => {}) s.xlt.map l e, dirty := if s.xlt.dirty.contains (l / 16384) then s.xlt.dirty else s.xlt.dirty ++ [l / 16384] }
    (by simp [State.setFld_frame, State.onXlt])]
  exact SMap.get_set _ _ _ _ _

/-- An entry of the map that is unmapped reads UNMAPPED; every other one reads as before. -/
theorem State.mapOf_unmap (s : State) (l k : Nat) : ((s.unmap l).mapOf k).st = if k = l then .unmapped else (s.mapOf k).st := by
  have entry (u v : State) (h : u.xlt = v.xlt) : u.mapOf k = v.mapOf k := by unfold State.mapOf; rw [h]
  have stale (e : MapE) : (s.staleOld e).mapOf k = s.mapOf k := by unfold State.mapOf; rw [State.map_staleOld]
  unfold State.unmap
  dsimp only
  split
  next unmapped =>
    split
    next same => rw [same, unmapped]
    next => rfl
  next =>
    rw [entry _ ((s.staleOld (s.mapOf l)).setMap l {}) (by simp), State.mapOf_setMap, stale]
    split <;> rfl

theorem State.mapOf_each_unmap (s : State) (segs : List Nat) (k : Nat) :
    ((s.each segs State.unmap).mapOf k).st = if k ∈ segs then .unmapped else (s.mapOf k).st := by
  induction segs generalizing s with
  | nil => rfl
  | cons l segs ih =>
    show (((s.unmap l).each segs State.unmap).mapOf k).st = _
    rw [ih, State.mapOf_unmap]
    by_cases rest : k ∈ segs <;> by_cases first : k = l <;> simp [rest, first]

/-- A key that no entry lists reads as the default. -/
theorem SMap.get_of_not_listed {α : Type} (dflt : Nat → α) (m : SMap α) (k : Nat) (h : ∀ e ∈ m, e.1 ≠ k) : SMap.get dflt m k = dflt k := by
  induction m with
  | nil => rfl
  | cons e rest ih =>
    have other : ¬ k = e.1 := fun same => h e List.mem_cons_self same.symm
    simp only [SMap.get, if_neg other]
    exact ih fun e' listed => h e' (List.mem_cons_of_mem _ listed)

/-- The segments that TRIM_MAP_UPDATE takes: those of the range that the map lists and no later write keeps. -/
def State.trimmedSegs (s : State) : List Nat :=
  ((s.xlt.map.within s.xlt.trim.first (s.xlt.trim.first + s.xlt.trim.count)).map (fun e => e.1)).filter (fun l => !s.xlt.trim.kept.contains l)

/-- Every segment of the range that is not kept is UNMAPPED once the listed ones are. -/
theorem State.unmapped_of_trimmed (s : State) {l : Nat} (low : s.xlt.trim.first ≤ l) (high : l < s.xlt.trim.first + s.xlt.trim.count) (given : l ∉ s.xlt.trim.kept) :
    ((s.each s.trimmedSegs State.unmap).mapOf l).st = .unmapped := by
  rw [State.mapOf_each_unmap]
  split
  next => rfl
  next unlisted =>
    have none_ : s.mapOf l = {} := by
      refine SMap.get_of_not_listed _ _ _ fun e listed same => unlisted ?_
      subst same
      simp only [State.trimmedSegs, List.mem_filter, List.mem_map, SMap.within, Bool.and_eq_true, decide_eq_true_eq]
      exact ⟨⟨e, ⟨listed, low, high⟩, rfl⟩, by simpa using given⟩
    rw [none_]

/-! ### Groups (R203) -/

theorem State.group_setGroup (s : State) (i : Nat) (x : Group) : (s.setGroup i x).group i = x :=
  (SMap.get_set _ _ _ _ _).trans (if_pos rfl)

theorem State.group_raise (s : State) (f : Fld) (i : Nat) : (s.raise f).group i = s.group i := by
  unfold State.group; simp [State.raise_frame]

/-! ### The classes decided at bell 62 (R262) -/

section
variable (s : State)

theorem State.classNext_setDriftSet (d n : Nat) (x : DriftSet) : (s.setDriftSet d n x).drift.classNext = s.drift.classNext := rfl

theorem State.classNext_evalBoundary (d n k : Nat) (rollback : Bool) : (s.evalBoundary d n k rollback).1.drift.classNext = s.drift.classNext := by
  unfold State.evalBoundary
  dsimp only
  (repeat' split) <;> simp [State.raise_frame, State.bump_frame, State.bumpSat_frame, State.classNext_setDriftSet]

theorem State.classNext_evalSet (d n : Nat) (rollback : Bool) : (s.evalSet d n rollback).1.drift.classNext = s.drift.classNext := by
  unfold State.evalSet
  refine State.foldl_keeps (fun acc : State × Bool => acc.1.drift.classNext) ?_ _ _
  exact fun acc k => acc.1.classNext_evalBoundary d n k rollback

theorem State.classNext_spareWrite (g : Nat) : (s.spareWrite g).drift.classNext = s.drift.classNext := by
  unfold State.spareWrite State.writeSpare
  split
  · rfl
  · refine (State.each_keeps (·.drift.classNext) ?_ _ _).trans rfl
    intro u d
    exact State.each_keeps (·.drift.classNext) (by intros; rfl) u _

theorem State.classNext_driftEval (g : Nat) : (s.driftEval g).drift.classNext = s.drift.classNext := by
  have evaluated (keys : List Nat) (rollback : Bool) :
      (keys.foldl (fun (acc : State × Bool) k => let r := acc.1.evalSet (k / 64) (k % 64) rollback; (r.1, acc.2 || r.2))
        (s.onDrift (fun t => { t with votes := SMap.set (fun _ => 0) t.votes g 0 }), false)).1.drift.classNext = s.drift.classNext := by
    refine (State.foldl_keeps (fun acc : State × Bool => acc.1.drift.classNext) ?_ _ _).trans rfl
    exact fun acc k => acc.1.classNext_evalSet (k / 64) (k % 64) rollback
  have switched (t : State) : ((t.spareWrite g).onDrift (fun d => { d with switching := d.switching ++ [g] })).drift.classNext = t.drift.classNext := t.classNext_spareWrite g
  unfold State.driftEval
  dsimp only
  (repeat' split) <;> simp only [switched, State.raiseRec_frame, State.bumpSat_frame, evaluated]

end

/-- The classes that DRIFT_EVALUATION decides: those of the dies that have not failed (R262). -/
def State.decidedClasses (s : State) : List (Nat × Nat) := ((List.range s.nDies).filter (fun d => !s.dieFailed d)).map (fun d => (d, s.decideClass d))

/-- The state at phase `p` with these classes waiting for the flock boundary. -/
def State.classesWaiting (s : State) (p : Nat) : State := (s.at_ p).onDrift (fun t => { t with classNext := s.decidedClasses })

/-- At bell 62 the classes are decided, and each gang is evaluated where reads are served. -/
theorem execDriftEvaluation_due {s : State} {p : Nat} (due : s.clk.bell % 64 = 62) (on : s.pwr.ctrlOn = true) :
    execDriftEvaluation p s = .next (if s.serving then (s.classesWaiting p).each s.gangIds State.driftEval else s.classesWaiting p) := by
  unfold execDriftEvaluation
  dsimp only
  rw [if_pos (by simp [State.at_, due, on])]
  rfl

/-- Where reads are not served or drift is not tracked, no gang is evaluated. -/
theorem State.driftEval_untracked {s : State} (g : Nat) (untracked : s.appFld Reg.DRF.CTRL.TRACK_ENABLE = 0) : s.driftEval g = s := by
  unfold State.driftEval
  rw [if_pos (by simp [untracked])]

theorem State.each_fixed {α : Type} {s : State} {f : State → α → State} (h : ∀ a, f s a = s) (l : List α) : s.each l f = s := by
  induction l with
  | nil => rfl
  | cons a l ih => show (f s a).each l f = s; rw [h, ih]

/-! ### The commands -/

theorem execGroupCommitted_drained {s : State} {g : Nat} (work : s.working = true) (drains : (s.group g).st = .draining) (built : s.xlt.snaps = [])
    (placed : s.anyBuild (fun b => b.group = some g) = false) :
    execGroupCommitted g s = .next ((s.journal (jGroupCommit g (s.group g).region (s.group g).pend.length)).setGroup g { s.group g with st := .committed }) := by
  simp [execGroupCommitted, work, drains, built, placed]

theorem execGroupApply_reserve {s : State} {g : Nat} (work : s.working = true) (committed : (s.group g).st = .committed) (reserve : s.ubReserve = true) :
    execGroupApply g s = .next (((s.each (s.group g).pend (fun s e => s.applyPend e.1 e.2)).setGroup g { s.group g with st := .done, segs := [] }).raise
      Reg.XLT.INT_STATUS.GROUP_DONE) := by
  simp [execGroupApply, work, committed, reserve]

theorem execTrimMapUpdate_walked {s : State} (work : s.working = true) (busy : s.xlt.trim.busy = true) (walked : s.xlt.trim.walked = true) (reserve : s.ubReserve = true) :
    execTrimMapUpdate s = .next (((((s.each s.trimmedSegs State.unmap).onXlt (fun x => { x with trim := { x.trim with busy := false } })).setFlag
      Reg.XLT.STATUS.TRIM_BUSY false).setFld Reg.XLT.TRIM_PROGRESS.DONE s.xlt.trim.count).raise Reg.XLT.INT_STATUS.TRIM_DONE) := by
  unfold execTrimMapUpdate
  dsimp only
  rw [if_pos (by simp [work, busy, walked, reserve])]
  rfl

/-- Settles O16: each command by what it does to the part of the state that its clause names, and the medium by the frames of its operations. -/
theorem groupsTrimQueryAndDriftComplete : Obligations.GroupsTrimQueryAndDriftComplete := by
  unfold Obligations.GroupsTrimQueryAndDriftComplete
  refine ⟨?committed, ?apply, ?walk, ?update, ?query, ?evaluation, ?untracked, ?inspect⟩
  case committed =>
    intro s g work drains built placed
    refine ⟨_, execGroupCommitted_drained work drains built placed, State.group_setGroup _ _ _, ?_, s.map_journal _⟩
    simp [State.setGroup_frame, State.journal_frame]
  case apply =>
    intro s g work committed reserve
    refine ⟨_, execGroupApply_reserve work committed reserve, ?_, State.flag_raise_same _ _ rfl, ?_⟩
    · rw [State.group_raise, State.group_setGroup]
    · simp [State.raise_frame, State.setGroup_frame, State.applyPend_frame]
  case walk =>
    intro s busy fresh
    refine ⟨_, congrArg Host.Outcome.next (if_pos (by simp [busy, fresh])), rfl, rfl, rfl, rfl⟩
  case update =>
    intro s work busy walked reserve
    refine ⟨_, execTrimMapUpdate_walked work busy walked reserve, ?_, ?_, ?_, ?_, State.flag_raise_same _ _ rfl, ?_⟩
    · simp [State.raise_frame, State.setFld_frame, State.setFlag_frame, State.onXlt]
    · intro i inRange given
      have kept (u : State) (t : Trim) : ((((u.onXlt (fun x => { x with trim := t })).setFlag Reg.XLT.STATUS.TRIM_BUSY false).setFld Reg.XLT.TRIM_PROGRESS.DONE
          s.xlt.trim.count).raise Reg.XLT.INT_STATUS.TRIM_DONE).mapOf (s.xlt.trim.first + i) = u.mapOf (s.xlt.trim.first + i) := by
        unfold State.mapOf
        simp [State.raise_frame, State.setFld_frame, State.setFlag_frame, State.onXlt]
      refine (congrArg MapE.st (kept _ _)).trans (s.unmapped_of_trimmed (Nat.le_add_right _ _) ?_ given)
      exact Nat.add_lt_add_left (List.mem_range.mp inRange) _
    · rw [State.flag_raise_other _ _ _ rfl rfl rfl]
      unfold State.flag
      rw [State.fld_setFld_other _ _ _ _ rfl rfl rfl]
      exact State.flag_setFlag_same _ _ _ rfl
    · rw [State.fld_raise_other _ _ _ rfl rfl rfl, State.fld_setFld_same _ _ _ rfl]
      rfl
    · simp [State.raise_frame, State.setFld_frame, State.setFlag_frame, State.onXlt_frame, State.unmap_frame]
  case query =>
    intro s l asked small
    have answered : execQueryResultReady s =
        .next ((s.setReg Reg.XLT.QUERY_RESULT.word (s.queryWord l)).onXlt (fun t => { t with query := none })) := by
      simp only [execQueryResultReady, asked]
    refine ⟨_, answered, rfl, ?_, rfl⟩
    show (s.setReg _ _).reg _ = _
    rw [State.reg_setReg, if_pos rfl, Nat.mod_eq_of_lt small]
  case evaluation =>
    intro s p due on
    refine ⟨_, execDriftEvaluation_due due on, ?_, ?_⟩
    · split
      · exact State.each_keeps (·.drift.classNext) State.classNext_driftEval _ _
      · rfl
    · simp [State.driftEval_frame, State.classesWaiting, State.onDrift_frame, State.at__frame]
  case untracked =>
    intro s p due on idle
    have waiting : execDriftEvaluation p s = .next (s.classesWaiting p) := by
      rw [execDriftEvaluation_due due on]
      obtain off | untracked := idle
      · simp [off]
      · have fixed (g : Nat) : (s.classesWaiting p).driftEval g = s.classesWaiting p := State.driftEval_untracked g untracked
        rw [State.each_fixed fixed, ite_self]
    exact ⟨_, waiting, rfl, rfl, rfl⟩
  case inspect =>
    intro s c p captured due
    have captured' : (s.at_ p).drift.inspect = some c := captured
    have ready : execInspectReady p s = .next (((s.at_ p).onDrift (fun t => { t with inspect := none })).setFlag Reg.DRF.INSPECT_SEL.READY true) := by
      simp only [execInspectReady, captured']
      exact congrArg Host.Outcome.next (if_pos due)
    have beside (u : State) (f : Fld) (b : Bool) : (u.setFlag f b).drift = u.drift ∧ (u.setFlag f b).out = u.out := ⟨rfl, rfl⟩
    exact ⟨_, ready, (beside _ _ _).1, State.flag_setFlag_same _ _ _ rfl, (beside _ _ _).2⟩

end Sys2Proof.Machine
end

section
/-! PROOF. The end of the erasure (O35), refuted: it writes the pages of the PNV, and a page whose program count reaches 900,000 raises WEAR_HIGH (R752), which the device may report by a message (R865). -/

namespace Sys2Proof.Machine

/-! ### What the device has sent stays sent -/

theorem State.out_sendMsi_prefix (s : State) (v : Nat) : s.out <+: (s.sendMsi v).out := by
  unfold State.sendMsi
  split
  · exact List.prefix_append ..
  · exact List.prefix_rfl

theorem State.out_refreshIrq_prefix (s : State) (always : Bool) : s.out <+: (s.refreshIrq always).out := by
  have msi (m p c : Bool) : s.out <+: (if c then ({ s with irq := { s.irq with msi := m, pin := p } } : State).sendMsi 2 else { s with irq := { s.irq with msi := m, pin := p } }).out := by
    split
    · exact State.out_sendMsi_prefix { s with irq := { s.irq with msi := m, pin := p } } 2
    · exact List.prefix_rfl
  unfold State.refreshIrq
  dsimp only
  split
  · exact (msi _ _ _).trans (List.prefix_append ..)
  · exact msi _ _ _

theorem State.out_raise_prefix (s : State) (f : Fld) : s.out <+: (s.raise f).out := (s.setFlag f true).out_refreshIrq_prefix false

theorem State.out_pnvWear_prefix (s : State) (page : Nat) : s.out <+: (s.pnvWear page).out := by
  have counted (u : State) (f : Fld) (v : Nat) : (u.setFld f v).out = u.out := rfl
  unfold State.pnvWear
  dsimp only
  split
  · refine List.IsPrefix.trans ?_ (State.out_raise_prefix _ _)
    rw [counted]
    exact List.prefix_rfl
  · rw [counted]
    exact List.prefix_rfl

theorem State.out_nvDone_prefix (s : State) (n : Nat) (x : NvPage) : s.out <+: (s.nvDone n x).out := by
  have worn : s.out <+: (if (s.nvPage n).bytes = x.bytes && x.bytes ≠ 0 then s else s.pnvWear n).out := by
    split
    · exact List.prefix_rfl
    · exact s.out_pnvWear_prefix n
  have moved (u : State) (k : Nat) : (u.moved 20 true k).out = u.out := by
    unfold State.moved; dsimp only; split <;> rfl
  unfold State.nvDone
  show s.out <+: (((if (s.nvPage n).bytes = x.bytes && x.bytes ≠ 0 then s else s.pnvWear n).bump _).moved 20 true _).out
  rw [moved]
  exact worn

theorem State.out_each_prefix {α : Type} {f : State → α → State} (h : ∀ s a, s.out <+: (f s a).out) (s : State) (l : List α) : s.out <+: (s.each l f).out := by
  induction l generalizing s with
  | nil => exact List.prefix_rfl
  | cons a l ih => exact (h s a).trans (ih (f s a))

/-- A flush whose first record is the intent record sends what that write sends, and perhaps more. -/
theorem State.out_nvFlush_prefix {s : State} (open_ : s.nvDirty .intent = true) : (s.nvWrite .intent).out <+: s.nvFlush.out := by
  unfold State.nvFlush
  have first : nvRecs.filter s.nvDirty = .intent :: nvRecs.tail.filter s.nvDirty := List.filter_cons_of_pos open_
  rw [first]
  exact State.out_each_prefix (fun s r => s.out_nvDone_prefix _ _) _ _

/-! ### The counterexample -/

/-- SERVICE at the end of an erasure: the intent record is open in its page A, page B has 899,999 programs, and WEAR_HIGH is enabled and routed to MSI-X. -/
def wornIntentSt : State :=
  { dev := { st := .service, por := true, tallyReady := true }
    pwr := { vin := true, vinQual := true, req := true, ctrlOn := true }
    regs := [(Reg.ALM.STATUS.word, 0xC0000000#32), (0x39014, 8#32)]
    irq := { msixEn := true, busMaster := true }
    pnv := { erupted := true, cause := 1, eruptions := 1, erasing := true, programs := [(1793, 899999)] }
    nvm := { pages := [(1792, recordPage .intent 1 (.intent true))] } }

/-- The same once ZEROISING and the erased keys are cleared, before the PNV is written. -/
def clearedIntentSt : State :=
  (wornIntentSt.setFlag Reg.ALM.STATUS.ZEROISING false).onPnv (fun p => { p with keys := [], ck := false, erasing := false })

theorem clearedIntentSt_intent_dirty : clearedIntentSt.nvDirty .intent = true := by decide +kernel

/-- Closing the intent record takes its page to 900,000 programs, and the MSI summary rises. -/
theorem out_nvWrite_clearedIntentSt : (clearedIntentSt.nvWrite .intent).out = [.msix 2] := by decide +kernel

/-- Refutes O35: its clause about ZEROISE_END keeps what the device has sent, but in `wornIntentSt` closing the intent record raises WEAR_HIGH, which sends MSI-X vector 2. -/
theorem not_keysTamperAndGroupStatusComplete : ¬ Obligations.KeysTamperAndGroupStatusComplete := by
  unfold Obligations.KeysTamperAndGroupStatusComplete
  rintro ⟨-, -, -, -, -, zeroiseEnd, -⟩
  have zeroising : wornIntentSt.flag Reg.ALM.STATUS.ZEROISING = true := by decide +kernel
  obtain ⟨t, run, -, -, -, -, -, -, silent⟩ := zeroiseEnd wornIntentSt zeroising
  have flushed : exec .zeroiseEnd wornIntentSt = .next clearedIntentSt.nvFlush := congrArg Host.Outcome.next (if_pos zeroising)
  obtain rfl := Host.Outcome.next.inj (flushed.symm.trans run)
  have sent := State.out_nvFlush_prefix clearedIntentSt_intent_dirty
  rw [out_nvWrite_clearedIntentSt, silent] at sent
  exact absurd sent (by decide)

end Sys2Proof.Machine
end

section
/-! PROOF. The build clause of O15, refuted: its last condition stands as `adv … ∨ ∀ k ∈ List.range 16, no advance for k → …`, so that one sector without need of an advance is enough for the conclusion. -/

namespace Sys2Proof.Machine

/-- A closed segment whose map entry is POISONED, in a keyed region: its one snapshot writes sector 0 in full and no other sector. -/
def poisonedSnap : Snap := { id := 5, lseg := 0, group := none, lines := (List.range 4).map (fun i => (i, { data := 5, mask := BitVec.allOnes 64 })) }

/-- SERVICE with that snapshot waiting, so that its build first asks for an advance (R542, R543). -/
def poisonedSegSt : State :=
  { dev := { st := .service, por := true, tallyReady := true }
    pwr := { vin := true, vinQual := true, req := true, ctrlOn := true }
    prot := { regions := [(0, { valid := true, first := 0, last := 9, rights := 0xFF, mode := 1 })] }
    hk := { vholdQual := true }
    xlt := { snaps := [poisonedSnap], map := [(0, { st := .poisoned })] } }

/-- Sector 1 is not written, so it needs no advance. -/
theorem needsAdvance_poisonedSegSt_one :
    poisonedSegSt.needsAdvance (poisonedSegSt.buildFrom poisonedSnap).1 (poisonedSegSt.buildFrom poisonedSnap).2 1 = false := by decide +kernel

/-- A build that may start, but with a sector that needs an advance of its region, asks for the advance and is not made yet (R543). -/
theorem execSegmentBuild_asks {s : State} {x : Snap} {i k : Nat} (found : s.xlt.snaps.find? (fun y => y.id = x.id) = some x)
    (started : (!s.working || (s.buildFrom x).1.st ≠ .waiting || ((s.buildFrom x).2.placed && (s.buildFrom x).1.old.isNone) ||
      s.buildBlocked (s.buildFrom x).1 || s.advWaits (s.buildFrom x).1) = false)
    (unasked : (s.buildFrom x).1.adv = none) (sector : k ∈ List.range 16) (needs : s.needsAdvance (s.buildFrom x).1 (s.buildFrom x).2 k = true)
    (region : s.regionOfSeg (s.buildFrom x).1.lseg = some i) (room : (s.gen i).cur ≠ 255) :
    execSegmentBuild x.id s = .next ((s.advance i).onXlt (fun t => { t with
      snaps := t.snaps.map (fun y => if y.id = x.id then { y with adv := some (s.gen i).cur } else y) })) := by
  have asks : ((s.buildFrom x).1.adv.isNone && (List.range 16).any (fun k => s.needsAdvance (s.buildFrom x).1 (s.buildFrom x).2 k)) = true := by
    rw [unasked, List.any_eq_true.mpr ⟨k, sector, needs⟩]
    rfl
  unfold execSegmentBuild
  simp only [found]
  rw [if_neg (Bool.eq_false_iff.mp started), if_pos asks, region]
  exact congrArg Host.Outcome.next (if_neg room)

/-- Refutes O15: in `poisonedSegSt` sector 1 needs no advance, but sector 0 does, and the segment is not built. -/
theorem not_translationWorkCompletes : ¬ Obligations.TranslationWorkCompletes := by
  unfold Obligations.TranslationWorkCompletes
  rintro ⟨-, build, -⟩
  have built := build poisonedSegSt poisonedSnap (by decide +kernel) (by decide +kernel) rfl (by decide +kernel) (by decide +kernel) (by decide +kernel)
  obtain asked | built := built
  · exact absurd asked (by decide +kernel)
  obtain ⟨t, run, marked, -⟩ := built 1 (by decide) needsAdvance_poisonedSegSt_one
  have asked := execSegmentBuild_asks (s := poisonedSegSt) (x := poisonedSnap) (i := 0) (k := 0) rfl (by decide +kernel) rfl (by decide) (by decide +kernel) rfl (by decide +kernel)
  obtain rfl := Host.Outcome.next.inj (asked.symm.trans run)
  exact absurd marked (by decide +kernel)

end Sys2Proof.Machine
end

section
/-! PROOF. INSTALL (O19), refuted: a blob that does not open is Tremor 0x03 (R537), and a Tremor that takes LEVEL to CEILING starts an Eruption (R555), which erases the key slots that the clause keeps (R556). -/

namespace Sys2Proof.Machine

/-! ### A key operation whose blob does not open (R537) -/

/-- What the integrity check that fails leaves: UNWRAP_FAILS counts, UNWRAP_FAIL rises, and Tremor 0x03 follows. -/
def State.unwrapFailed (s : State) : State :=
  ((s.bump Reg.KEY.UNWRAP_FAILS.FAILS).raise Reg.KEY.INT_STATUS.UNWRAP_FAIL).tremor 3 clsDevice

/-- No blob opens once the RMA seal has disabled ROOT (R560). -/
theorem State.wrapOpen_sealed {s : State} (sealed : s.pnv.sealed = true) : s.wrapOpen = none := if_pos sealed

theorem State.keyCheck_unopened {s : State} {op k : Nat} (persist : Bool) (quiet : s.flag Reg.ALM.STATUS.ZEROISING = false) (slot : k ≠ 0) (blob : op ≠ 3)
    (full : s.wrapFull = true) (unopened : s.wrapOpen = none) : s.keyCheck op k persist = (1, {}, s.unwrapFailed) := by
  unfold State.keyCheck
  rw [quiet, if_neg Bool.false_ne_true, if_neg slot, if_neg blob, full, unopened]
  rfl

/-- The key slots after a write of KEY.OP whose blob does not open are those that the Tremor leaves. -/
theorem State.slots_keyCtrl_unopened {s : State} {src : Source} {w : Nat} (guarded : guardOf w = 0xC3) (idle : s.flag Reg.KEY.OP_STATUS.BUSY = false)
    (starts : bitsOf w 31 30 ≠ 0) (quiet : s.flag Reg.ALM.STATUS.ZEROISING = false) (slot : bitsOf w 5 0 ≠ 0) (blob : bitsOf w 31 30 ≠ 3)
    (full : s.wrapFull = true) (unopened : s.wrapOpen = none) : (s.keyCtrl src w).prot.slots = s.unwrapFailed.prot.slots := by
  unfold State.keyCtrl
  rw [if_neg (not_not_intro guarded), idle, if_neg Bool.false_ne_true, if_neg starts]
  simp [State.keyCheck_unopened _ quiet slot blob full unopened, State.setFld_frame, State.setFlag_frame, State.onProt]

/-- The fields of KEY.OP (R569). -/
def keyOpFields : List RegField := [.plain 31 30 .wo 0, .plain 29 29 .wo 0, .plain 15 8 .wo 0, .plain 5 0 .wo 0]

/-- A write of KEY.OP with its GUARD, while no operation is in progress, takes the fields and starts the operation. -/
theorem State.busWrite_keyOp {s : State} {src : Source} {w : Nat} (opened : s.pageOpen 0x21 0x70 = true) (unlocked : s.cmdLock 0x21 = false) (bus : src ≠ .i3c)
    (guarded : bitsOf w 15 8 = 0xC3) (idle : s.flag Reg.KEY.OP_STATUS.BUSY = false) :
    s.busWrite src 0x21070 w {} = (s.fieldsWrite 0x21070 keyOpFields src w).keyCtrl src w := by
  have fields : regFields 0x21070 = some keyOpFields := by decide +kernel
  have whole : s.wholeErr 0x21070 w = none := by simp [State.wholeErr, guardAt, State.stillBusy, guarded, idle]
  have action (u : State) : u.cfgAct 0x21070 src w = u := rfl
  simp [State.busWrite, opened, bus, fields, State.blockWrite, whole, ilGroup, capturing, unlocked, action, State.cmdAct]

/-! ### The counterexample -/

/-- SERVICE on a device whose RMA seal is blown, one Tremor short of an Eruption: LEVEL is 63 and CEILING 64 (its reset value), every WRAP register is written, and slot 40 holds a key with the LABEL of a cartridge (R619). What `Config.unwrap` answers is not known, so the seal stands for a blob that fails its integrity check. -/
def sealedLevelSt : State :=
  { dev := { st := .service, por := true, tallyReady := true }
    pwr := { vin := true, vinQual := true, req := true, ctrlOn := true }
    regs := [(Reg.ALM.STATUS.word, 0x003F0000#32)]
    prot := { slots := [(40, { st := 1, key := 5, label := 0xCA00 })], wrap := (List.range 12).map (fun n => (n, some 0)) }
    pnv := { sealed := true, level := 63 } }

/-- The same once KEY.OP has been written with INSTALL of slot 1. -/
def installedWordSt : State := sealedLevelSt.fieldsWrite 0x21070 keyOpFields .host (withOp 0xC301 1)

/-- The Tremor of the blob that does not open takes LEVEL to CEILING, and the Eruption leaves no key. -/
theorem slots_unwrapFailed_installedWordSt : installedWordSt.unwrapFailed.prot.slots = [] := by decide +kernel

/-- Refutes O19: its clause about INSTALL keeps the key slots, but in `sealedLevelSt` the blob does not open, and the Tremor starts an Eruption. The clause about VERIFY rules such a Tremor out by its last hypothesis; those about INSTALL and REKEY do not. -/
theorem not_maintenanceLinkAndKeyWritesComplete : ¬ Obligations.MaintenanceLinkAndKeyWritesComplete := by
  unfold Obligations.MaintenanceLinkAndKeyWritesComplete
  rintro ⟨-, -, -, -, -, -, -, -, -, -, -, install, -⟩
  have opened : sealedLevelSt.pageOpen 0x21 0x70 = true := by decide +kernel
  have unlocked : sealedLevelSt.cmdLock 0x21 = false := by decide +kernel
  have idle : sealedLevelSt.flag Reg.KEY.OP_STATUS.BUSY = false := by decide +kernel
  obtain ⟨t, run, -, kept, -⟩ := install sealedLevelSt .host 0xC301#32 opened unlocked (by decide) (by decide) idle
  have started : exec (.install .host 0xC301#32) sealedLevelSt = .next (installedWordSt.keyCtrl .host (withOp 0xC301 1)) :=
    congrArg Host.Outcome.next (State.busWrite_keyOp opened unlocked (by decide) (by decide) idle)
  obtain rfl := Host.Outcome.next.inj (started.symm.trans run)
  have erased : (installedWordSt.keyCtrl .host (withOp 0xC301 1)).prot.slots = [] :=
    (State.slots_keyCtrl_unopened (by decide) (by decide +kernel) (by decide) (by decide +kernel) (by decide) (by decide) (by decide +kernel)
      (State.wrapOpen_sealed (by decide +kernel))).trans slots_unwrapFailed_installedWordSt
  rw [kept] at erased
  exact absurd erased (by decide)

end Sys2Proof.Machine
end

section
/-! PROOF. The commands of the DRAM controller (O24): each command by what it does to the part of the state that its clause names. -/

namespace Sys2Proof.Machine

/-! ### Counters and raised bits -/

/-- A counter that wraps holds one more in its width. -/
theorem State.fld_bump_same (s : State) (f : Fld) (ok : f.ok = true) : (s.bump f).fld f = (s.fld f + 1) % (f.max + 1) := by
  have width : f.max + 1 = 2 ^ (f.hi + 1 - f.lo) := Nat.sub_add_cancel Nat.one_le_two_pow
  unfold State.bump State.bumpBy
  rw [State.fld_setFld_same _ _ _ ok, width, Nat.mod_mod]

/-- A report changes no field below the pages of the Tally and of the error intake. -/
theorem State.fld_report (s : State) (r : Report) (g : Fld) (ok : g.ok = true) (low : g.addr < 0x3A000) : (s.report r).fld g = s.fld g := by
  unfold State.report
  split
  · exact s.fld_lost r.sev g ok low
  · split
    · exact s.fld_onTally _ g
    · have counter : Reg.ERR.INTAKE_OVF.COUNT.apart g = true := Fld.apart_of_addr_lt (Nat.lt_trans low (by decide))
      have status : Reg.ERR.INT_STATUS.INTAKE_OVF.apart g = true := Fld.apart_of_addr_lt (Nat.lt_trans low (by decide))
      rw [State.fld_raise_other _ _ _ rfl ok status]
      exact State.fld_setFld_other _ _ _ _ rfl ok counter

/-- A bit raised with its record reads 1. -/
theorem State.flag_raiseRec_same (s : State) (f : Fld) (sev cls inst p1 p2 p3 : Nat) (ok : f.ok = true) (low : f.addr < 0x3A000) :
    (s.raiseRec f sev cls inst p1 p2 p3).flag f = true := by
  unfold State.raiseRec State.flag
  rw [State.fld_report _ _ _ ok low]
  exact s.flag_raise_same f ok

/-- A bit raised with its record leaves every field beside it. -/
theorem State.fld_raiseRec_other (s : State) (f g : Fld) (sev cls inst p1 p2 p3 : Nat) (okf : f.ok = true) (ok : g.ok = true) (low : g.addr < 0x3A000)
    (ne : f.apart g = true) : (s.raiseRec f sev cls inst p1 p2 p3).fld g = s.fld g := by
  unfold State.raiseRec
  rw [State.fld_report _ _ _ ok low, State.fld_raise_other _ _ _ okf ok ne]

/-! ### Refresh (R380) -/

/-- One output for each member of a list: they are sent in the order of the list, and nothing else changes. -/
theorem State.each_emit {α : Type} (s : State) (l : List α) (f : α → Output) :
    s.each l (fun s a => s.emit (f a)) = { s with out := s.out ++ l.map f } := by
  induction l generalizing s with
  | nil => simp [State.each]
  | cons a l ih =>
    refine (ih (s.emit (f a))).trans ?_
    simp [State.emit]

theorem execRefresh_window {s : State} {sub p : Nat} (awake : s.pwr.standby = false)
    (window : (sub = 0 ∧ p % 4096 < 32) ∨ (sub = 1 ∧ 2048 ≤ p % 4096 ∧ p % 4096 < 2080)) :
    execRefresh sub p s = .next { s.at_ p with out := s.out ++ s.channels.map (fun c => .dram .refresh c sub []) } := by
  have awake' : (s.at_ p).pwr.standby ≠ true := Bool.eq_false_iff.mp awake
  have window' : ((sub = 0 && decide ((s.at_ p).clk.phase < 32)) ||
      (sub = 1 && decide (2048 ≤ (s.at_ p).clk.phase) && decide ((s.at_ p).clk.phase < 2080))) = true := by
    simp only [Bool.or_eq_true, Bool.and_eq_true, decide_eq_true_eq, and_assoc]
    exact window
  unfold execRefresh
  dsimp only
  rw [if_neg awake', if_pos window', State.each_emit]
  rfl

/-! ### Retraining (R381) -/

/-- A retraining noted with its flock and sent to the DRAM. -/
def State.retrainedSub (s : State) (channel sub : Nat) : State :=
  (s.onDram (fun d => { d with retrained := SMap.set (fun _ => none) d.retrained (2 * channel + sub) (some s.flock) })).emit (.dram .retrain channel sub [])

theorem execDramRetrain_due {s : State} {c sub p : Nat} {failed : Bool} (enabled : c ∈ s.channels) (awake : s.pwr.standby = false)
    (off : offDuty sub (p % 4096) = true) (due : s.retrainDue c sub = true) :
    execDramRetrain c sub ⟨failed, p⟩ s = .next (if failed then
        (((s.at_ p).retrainedSub c sub).bump (Reg.DMC.RETRAIN_FAIL.RETRAIN_FAIL c)).raiseRec (Reg.DMC.INT_STATUS.TRAIN_FAIL c) sevWarn clsDevice c 0 0 0
      else (s.at_ p).retrainedSub c sub) := by
  have guards : (s.channels.contains c && !s.pwr.standby && offDuty sub (p % 4096) && s.retrainDue c sub) = true := by
    simp [enabled, awake, off, due]
  exact congrArg Host.Outcome.next (if_pos guards)

/-- A member of the channels is one of the four pages of the controller. -/
theorem State.lt_four_of_mem_channels {s : State} {c : Nat} (enabled : c ∈ s.channels) : c < 4 :=
  List.mem_range.mp (List.mem_filter.mp enabled).1

/-! ### The update buffer (R387, R389, R390) -/

/-- The write of an entry's lines leaves the maps and the buffer; what it changes of the DRAM is the bitmap of written pages. -/
theorem State.markWritten_keeps (s : State) (e : UbE) (h : Nat) : (s.markWritten e h).xlt = s.xlt ∧ (s.markWritten e h).dram.ub = s.dram.ub := by
  unfold State.markWritten
  constructor
  · exact State.each_keeps (·.xlt) (fun u x => by simp [State.emit_frame, State.moved_frame, State.ev_frame, State.onDram]) s _
  · exact State.each_keeps (·.dram.ub) (fun u x => by simp [State.emit_frame, State.moved_frame, State.ev_frame, State.onDram]) s _

/-- The end of panic leaves the maps and the DRAM. -/
theorem State.panicEnd_keeps (s : State) : s.panicEnd.xlt = s.xlt ∧ s.panicEnd.dram = s.dram := by
  unfold State.panicEnd
  split
  · simp [State.setFlag_frame, State.settle_frame]
  · exact ⟨rfl, rfl⟩

/-- An entry with its copy in subchannel `sub` written. -/
def UbE.written (e : UbE) (sub : Nat) : UbE := if sub = 0 then { e with needA := false } else { e with needB := false }

/-- A write that is owed takes the entry from the buffer where the other copy is written too, and else leaves it to the other subchannel. -/
theorem execUpdateBufferWrite_owed {s : State} {n sub p : Nat} {e : UbE} (entry : s.dram.ub[n]? = some e) (off : offDuty sub (p % 4096) = true)
    (owed : (if sub = 0 then e.needA else e.needB) = true) :
    ∃ t, execUpdateBufferWrite n sub p s = .next t ∧
      t.dram.ub = (if (e.written sub).needA || (e.written sub).needB then s.dram.ub.set n (e.written sub) else s.dram.ub.eraseIdx n) ∧
      t.xlt = s.xlt ∧ t.med = s.med := by
  have entry' : (s.at_ p).dram.ub[n]? = some e := entry
  have guards : (offDuty sub (s.at_ p).clk.phase && (if sub = 0 then e.needA else e.needB)) = true := Bool.and_eq_true_iff.mpr ⟨off, owed⟩
  obtain ⟨maps, buffer⟩ := (s.at_ p).markWritten_keeps e sub
  have run : execUpdateBufferWrite n sub p s = .next (((s.at_ p).markWritten e sub).onDram (fun d => { d with
      ub := if (e.written sub).needA || (e.written sub).needB then d.ub.set n (e.written sub) else d.ub.eraseIdx n })).panicEnd := by
    simp only [execUpdateBufferWrite, entry']
    exact congrArg Host.Outcome.next (if_pos guards)
  refine ⟨_, run, ?_, ?_, ?_⟩
  · rw [(State.panicEnd_keeps _).2]
    simp only [State.onDram, buffer]
    rfl
  · exact (State.panicEnd_keeps _).1.trans maps
  · simp [State.panicEnd_frame, State.onDram_frame, State.markWritten_frame, State.at__frame]

/-! ### Neighbour refreshes (R395) -/

/-- The rows beside a row: row 0 has one neighbour. -/
theorem filterMap_rows_beside (row : Nat) :
    (List.range 3).filterMap (fun k => if k = 1 || row + k = 0 then none else some (row + k - 1)) = if row = 0 then [1] else [row - 1, row + 1] := by
  cases row with
  | zero => rfl
  | succ r => simp [List.range_succ]

theorem execNeighbourRefresh_due {s : State} {p c sub bank row : Nat} {l : List (Nat × Nat × Nat × Nat)} (due : s.dram.neighbours = (c, sub, bank, row) :: l)
    (off : offDuty sub (p % 4096) = true) :
    execNeighbourRefresh p s = .next ((((s.at_ p).onDram (fun d => { d with neighbours := l })).bump (Reg.DMC.NEIGHBOUR_REF.NEIGHBOUR_REF c)).emit
      (.dram .neighbour c sub (bank :: if row = 0 then [1] else [row - 1, row + 1]))) := by
  have due' : (s.at_ p).dram.neighbours = (c, sub, bank, row) :: l := due
  simp only [execNeighbourRefresh, due', filterMap_rows_beside]
  exact congrArg Host.Outcome.next (if_pos off)

/-! ### The obligation -/

/-- Settles O24: each command by its equation where it is due, and the fields of the channel's page through the counter and the record that follow. -/
theorem dramCommandsComplete : Obligations.DramCommandsComplete := by
  unfold Obligations.DramCommandsComplete
  refine ⟨?refreshA, ?refreshB, ?retrained, ?retrainFailed, ?lastCopy, ?firstCopy, ?neighbour⟩
  case refreshA =>
    intro s p awake early
    exact ⟨_, execRefresh_window awake (.inl ⟨rfl, early⟩), rfl, rfl, rfl⟩
  case refreshB =>
    intro s p awake from_ upTo
    exact ⟨_, execRefresh_window awake (.inr ⟨rfl, from_, upTo⟩), rfl, rfl, rfl⟩
  case retrained =>
    intro s c sub p enabled awake off due
    exact ⟨_, execDramRetrain_due enabled awake off due, rfl, rfl, rfl⟩
  case retrainFailed =>
    intro s c sub p enabled awake off due
    have small := State.lt_four_of_mem_channels enabled
    have countOk : (Reg.DMC.RETRAIN_FAIL.RETRAIN_FAIL c).ok = true := rfl
    have countLow : (Reg.DMC.RETRAIN_FAIL.RETRAIN_FAIL c).addr < 0x3A000 := by simp only [Reg.DMC.RETRAIN_FAIL.RETRAIN_FAIL]; omega
    have statusLow : (Reg.DMC.INT_STATUS.TRAIN_FAIL c).addr < 0x3A000 := by simp only [Reg.DMC.INT_STATUS.TRAIN_FAIL]; omega
    have apart : (Reg.DMC.INT_STATUS.TRAIN_FAIL c).apart (Reg.DMC.RETRAIN_FAIL.RETRAIN_FAIL c) = true := by
      simp [Fld.apart, Reg.DMC.INT_STATUS.TRAIN_FAIL, Reg.DMC.RETRAIN_FAIL.RETRAIN_FAIL]
    refine ⟨_, execDramRetrain_due enabled awake off due, ?_, ?_, ?_⟩
    · simp only [if_true, State.raiseRec_frame, State.bump_frame]
      rfl
    · exact (State.fld_raiseRec_other _ _ _ _ _ _ _ _ _ rfl countOk countLow apart).trans (State.fld_bump_same _ _ countOk)
    · exact State.flag_raiseRec_same _ _ _ _ _ _ _ _ rfl statusLow
  case lastCopy =>
    intro s n sub p e entry small owesA owesB off
    have owed : (if sub = 0 then e.needA else e.needB) = true := by
      split
      · next first => exact owesA.mpr first
      · exact owesB.mpr (by omega)
    have none_left : ((e.written sub).needA || (e.written sub).needB) = false := by
      unfold UbE.written
      split
      · next first => simp [Bool.eq_false_iff, owesB, first]
      · next second => simp [Bool.eq_false_iff, owesA, second]
    obtain ⟨t, run, buffer, maps, medium⟩ := execUpdateBufferWrite_owed entry off owed
    rw [none_left] at buffer
    exact ⟨t, run, buffer, maps, medium⟩
  case firstCopy =>
    intro s n sub p e entry small owesA owesB off
    have owed : (if sub = 0 then e.needA else e.needB) = true := by rw [owesA, owesB, ite_self]
    have one_left : ((e.written sub).needA || (e.written sub).needB) = true := by
      unfold UbE.written
      split
      · simp [owesB]
      · simp [owesA]
    obtain ⟨t, run, buffer, maps, medium⟩ := execUpdateBufferWrite_owed entry off owed
    rw [one_left] at buffer
    exact ⟨t, run, buffer, maps, medium⟩
  case neighbour =>
    intro s p c sub bank row l due off small
    have counted (u : State) (o : Output) (f : Fld) : (u.emit o).fld f = u.fld f := rfl
    refine ⟨_, execNeighbourRefresh_due due off, rfl, rfl, ?_⟩
    rw [counted]
    exact State.fld_bump_same _ _ rfl

end Sys2Proof.Machine
end

section
/-! PROOF. Key slot 0 (O49): a key operation of slot 0 fails its first check (R537), and an operation with a RESULT other than 0x0 completes without effect (R535). -/

namespace Sys2Proof.Machine

/-! ### The word written to KEY.OP -/

/-- The operation in bits [31:30] is not part of a field below them. -/
theorem bitsOf_withOp_low (w op hi lo : Nat) (low : hi < 30) : bitsOf (withOp w op) hi lo = bitsOf w hi lo :=
  bitsOf_putBits_other w 31 30 op hi lo (by decide) (.inr low)

theorem bitsOf_withOp {op : Nat} (w : Nat) (small : op < 4) : bitsOf (withOp w op) 31 30 = op :=
  (bitsOf_putBits_same w 31 30 op (by decide)).trans (Nat.mod_eq_of_lt small)

/-- The fields of KEY.OP are WO, so the word held stays (R569). -/
theorem State.fieldsWrite_keyOp {s : State} (src : Source) (w : Nat) (unlocked : s.cmdLock 0x21 = false) :
    s.fieldsWrite 0x21070 keyOpFields src w = s.setReg 0x21070 (s.reg 0x21070) := by
  simp [State.fieldsWrite, State.fieldCause, keyOpFields, RegField.plain, RegField.take, unlocked, State.each]

theorem State.flag_setReg_reg (s : State) (a : Nat) (f : Fld) : (s.setReg a (s.reg a)).flag f = s.flag f := by
  unfold State.flag State.fld
  rw [State.reg_setReg_reg]

/-! ### An operation of slot 0 -/

/-- RESULT of an operation of slot 0: 0x7 while an Eruption runs (R558), else 0x2 (R537). -/
def State.slotZeroResult (s : State) : Nat := if s.flag Reg.ALM.STATUS.ZEROISING then 7 else 2

theorem State.slotZeroResult_ne_zero (s : State) : s.slotZeroResult ≠ 0 := by
  unfold State.slotZeroResult
  split <;> decide

/-- Slot 0 fails its check, whatever the operation, and raises nothing. -/
theorem State.keyCheck_slotZero (s : State) (op : Nat) (persist : Bool) : s.keyCheck op 0 persist = (s.slotZeroResult, {}, s) := by
  unfold State.keyCheck State.slotZeroResult
  split <;> rfl

/-- A write of KEY.OP that names slot 0 records an operation with its RESULT and, of the protection state and the PNV, nothing else. -/
theorem State.keyCtrl_slotZero {s : State} {src : Source} {w : Nat} (guarded : guardOf w = 0xC3) (idle : s.flag Reg.KEY.OP_STATUS.BUSY = false)
    (starts : bitsOf w 31 30 ≠ 0) (slot : bitsOf w 5 0 = 0) :
    (s.keyCtrl src w).prot =
        { s.prot with op := some { op := bitsOf w 31 30, slot := 0, persist := bitOf w 29, result := s.slotZeroResult, after := {} } } ∧
      (s.keyCtrl src w).pnv = s.pnv := by
  unfold State.keyCtrl
  rw [if_neg (not_not_intro guarded), idle, if_neg Bool.false_ne_true, if_neg starts]
  simp [slot, State.keyCheck_slotZero, State.slotZeroResult_ne_zero, State.setFld_frame, State.setFlag_frame, State.onProt]

/-- INSTALL, REKEY or REMOVE of slot 0: the operation is recorded as failed, and every slot, due change and cached key stays. -/
theorem State.write_keyOp_slotZero {s : State} {src : Source} {w op : Nat} (opened : s.pageOpen 0x21 0x70 = true) (unlocked : s.cmdLock 0x21 = false)
    (bus : src ≠ .i3c) (guarded : bitsOf w 15 8 = 0xC3) (slot : bitsOf w 5 0 = 0) (idle : s.flag Reg.KEY.OP_STATUS.BUSY = false)
    (starts : op ≠ 0) (small : op < 4) :
    ∃ t, s.write src 0x21070 (withOp w op) = .next t ∧ t.prot.slots = s.prot.slots ∧ t.prot.due = s.prot.due ∧ t.pnv.keys = s.pnv.keys ∧
      ∃ o, t.prot.op = some o ∧ o.op = op ∧ o.slot = 0 ∧ o.result ≠ 0 := by
  have guarded' : bitsOf (withOp w op) 15 8 = 0xC3 := (bitsOf_withOp_low w op 15 8 (by decide)).trans guarded
  have slot' : bitsOf (withOp w op) 5 0 = 0 := (bitsOf_withOp_low w op 5 0 (by decide)).trans slot
  have op' : bitsOf (withOp w op) 31 30 = op := bitsOf_withOp w small
  have run := State.busWrite_keyOp opened unlocked bus guarded' idle
  rw [State.fieldsWrite_keyOp src _ unlocked] at run
  obtain ⟨prot, pnv⟩ := State.keyCtrl_slotZero (src := src) guarded' ((s.flag_setReg_reg 0x21070 _).trans idle) (op'.symm ▸ starts) slot'
  refine ⟨_, congrArg Host.Outcome.next run, ?slots, ?due, congrArg Pnv.keys pnv, _, congrArg Prot.op prot, op', rfl, State.slotZeroResult_ne_zero _⟩
  all_goals
    rw [prot]
    rfl

/-! ### The completion of an operation that failed -/

/-- Of the protection state it ends the operation and empties the WRAP registers alone; OP_REFUSED rises, and the PNV stays (R537). -/
theorem execKeyOpComplete_refused {s : State} {o : KeyOp} (running : s.prot.op = some o) (refused : o.result ≠ 0) :
    ∃ t, execKeyOpComplete s = .next t ∧ t.prot = { s.prot with op := none, wrap := [] } ∧ t.pnv = s.pnv ∧ t.flag Reg.KEY.INT_STATUS.OP_REFUSED = true := by
  unfold execKeyOpComplete
  simp only [running, if_neg refused]
  refine ⟨_, rfl, ?prot, ?pnv, State.flag_raise_same _ _ rfl⟩
  all_goals simp [State.raise_frame, State.setFld_frame, State.setFlag_frame, State.onProt]

/-! ### The obligation -/

/-- Settles O49: each write names slot 0 and fails its first check, and the completion of an operation that failed has no effect on the keys. -/
theorem keySlotZeroIsNeverChanged : Obligations.KeySlotZeroIsNeverChanged := by
  unfold Obligations.KeySlotZeroIsNeverChanged
  refine ⟨?install, ?rekey, ?remove, ?complete⟩
  case install =>
    intro s src w opened unlocked bus guarded slot idle
    exact State.write_keyOp_slotZero opened unlocked bus guarded slot idle (by decide) (by decide)
  case rekey =>
    intro s src w opened unlocked bus guarded slot idle
    exact State.write_keyOp_slotZero opened unlocked bus guarded slot idle (by decide) (by decide)
  case remove =>
    intro s src w opened unlocked bus guarded slot idle
    exact State.write_keyOp_slotZero opened unlocked bus guarded slot idle (by decide) (by decide)
  case complete =>
    intro s o running refused
    obtain ⟨t, run, prot, pnv, raised⟩ := execKeyOpComplete_refused running refused
    exact ⟨t, run, by rw [prot], by rw [prot], congrArg Pnv.keys pnv, congrArg Prot.op prot, raised⟩

end Sys2Proof.Machine
end
